-- ==== Sys2Proof/Word.lean ====
section
/-! DEFINITION. The word types of the model: element values are numbers below 2^width (R5, R474), bytes are
`BitVec 8`, and a field of a word is read and written by its bit range [hi:lo] (R4). -/

namespace Sys2Proof

/-- One byte of a frame, an image or a record (R5). -/
abbrev Byte := BitVec 8

/-- The value of a dictionary element or a record, as the unsigned number its bits spell, most significant first. -/
abbrev Word := Nat

/-- The field [hi:lo] of a word (R4). -/
def bits (v : Word) (hi lo : Nat) : Nat := v / 2 ^ lo % 2 ^ (hi + 1 - lo)

/-- Bit [n] of a word. -/
def bit (v : Word) (n : Nat) : Bool := v / 2 ^ n % 2 == 1

/-- The word with field [hi:lo] replaced by `x` (cut to the field's width). -/
def setBits (v : Word) (hi lo : Nat) (x : Nat) : Word :=
  v / 2 ^ (hi + 1) * 2 ^ (hi + 1) + x % 2 ^ (hi + 1 - lo) * 2 ^ lo + v % 2 ^ lo

/-- 1 for true, 0 for false. -/
def ofBool (b : Bool) : Nat := if b then 1 else 0

/-- The word with bit [n] set to `b`. -/
def setBit (v : Word) (n : Nat) (b : Bool) : Word := setBits v n n (ofBool b)

/-- `x + 1` in a counter of `w` bits that wraps. -/
def wrapAdd (w x y : Nat) : Nat := (x + y) % 2 ^ w

/-- `x + y` in a counter of `w` bits that saturates. -/
def satAdd (w x y : Nat) : Nat := min (x + y) (2 ^ w - 1)

/-- A `w`-bit word read in two's complement. -/
def toSigned (w : Nat) (v : Word) : Int := if v < 2 ^ (w - 1) then (v : Int) else (v : Int) - 2 ^ w

/-- An integer written in two's complement in `w` bits. -/
def ofSigned (w : Nat) (i : Int) : Word := (i % (2 ^ w : Int)).toNat

/-- An integer kept within the range of a signed `w`-bit word. -/
def clampSigned (w : Nat) (i : Int) : Int := max (-(2 ^ (w - 1) : Int)) (min i (2 ^ (w - 1) - 1))

/-- A word as `n` bytes, most significant first (R5). -/
def toBytes : (n : Nat) → Word → List Byte
  | 0, _ => []
  | n + 1, v => toBytes n (v / 256) ++ [BitVec.ofNat 8 v]

/-- The word that bytes spell, most significant first (R5). -/
def ofBytes (l : List Byte) : Word := l.foldl (fun a b => a * 256 + b.toNat) 0

end Sys2Proof
end

