-- ==== Sys2Proof/Syntax.lean ====
section
/-! DEFINITION. The commands of the block: one constructor of `Instr` per row of spec/opcode_table.json, with the
operands the row's rules name. A command is a request that a host sends, a record or packet that arrives, a pin or line
event, or a due act of the device's own timers and engines. -/
namespace Sys2Proof

/-- Where a request reaches the commit point (R25, R424, R433). -/
inductive Port where
  | card | dumusA | dumusB | tunnel | relay | stream
deriving DecidableEq, Repr

/-- The header of a Dumus request as it reached the device (R451), with the port it came by, the tether node ID of the
node whose port received it, and the source MAC address of a field-port frame. `tag` is the received tag (R472);
`rsv` holds the reserved header bits [103:100] and [11:8]. -/
structure Rq where
  port : Port
  tnode : Nat := 0xFFF
  src : Nat := 0
  node : Nat := 0
  origin : Nat := 0
  session : Nat := 0
  seq : Nat := 0
  len : Nat := 0
  shadow : Bool := false
  first : Bool := false
  last : Bool := false
  key : Nat := 0
  typ : Nat := 0
  tag : Nat := 0
  rsv : Nat := 0
deriving DecidableEq, Repr

/-- What a request reached the device as: who fires a salvo (R257). -/
inductive Firer where
  | dumus (rq : Rq)
  | fieldInput (line : Nat)
deriving DecidableEq, Repr

/-- A CHANGE record of the bridle (R424): sequence, commit instant in ns, the request, the status the active returned,
and the TP that was chosen (zero where none was). -/
structure ChangeRecord where
  seq : Nat
  time : Int
  rq : Rq
  opcode : Nat
  index : Nat
  sub : Nat
  payload : List Byte
  status : Nat
  tp : Nat
deriving DecidableEq, Repr

/-- A DMA channel's read that is uncorrectable (R549): the channel, the memory's number and the word address. -/
structure DmaHalt where
  channel : Nat
  memory : Nat
  address : Nat
deriving DecidableEq, Repr

/-- What a scrubber finds at one word (R551). -/
inductive ScrubError where
  | none | corrected | uncorrectable
deriving DecidableEq, Repr

/-- What an Announce brings (R82): the grandmaster's data of IEEE 1588-2019's comparison, steps removed, the port identity
of its sender, whether its timescale is PTP, currentUtcOffset, the log2 of its interval in seconds, and the IPv4 and MAC
addresses it came from. -/
structure PtpAnnounce where
  priority1 : Nat := 128
  clockClass : Nat := 248
  accuracy : Nat := 0xFE
  variance : Nat := 0xFFFF
  priority2 : Nat := 128
  gm : Nat := 0
  steps : Nat := 0
  sender : Nat := 0
  ptpScale : Bool := true
  utc : Int := 0
  logInterval : Int := 0
  ip : Nat := 0
  mac : Nat := 0
deriving DecidableEq, Repr

/-- A PTP message as it reaches an instance (R82): times are ns, intervals are the log2 of seconds, `sender` is the port
identity of the message's source. -/
inductive PtpMsg where
  | sync (sender seq : Nat) (twoStep : Bool) (t1 : Rat)
  | followUp (sender seq : Nat) (t1 : Rat)
  | announce (a : PtpAnnounce)
  | delayResp (sender seq : Nat) (t4 : Rat) (logInterval : Int)
deriving DecidableEq, Repr

/-- An ST 291-1 packet as the fabric carries it (R144, R201): recorded line (0x7FF none), C flag, stream, horizontal
offset (0xFFF VANC), and DID, SDID, DC, user words and checksum. -/
structure AncPkt where
  line : Nat
  c : Bool
  stream : Nat
  hoffset : Nat
  words : List Nat
deriving DecidableEq, Repr

/-- One embedded audio group of a line (R147, R151): its number from 1, whether its control packet marks it asynchronous, its
samples, oldest first, each the four channels' words of 24 bits with the extended data of SD in bits [3:0], and for each
sample how long after the start of its line it was taken, in ns (none: the line start). -/
structure AudioGroup where
  group : Nat
  async : Bool
  samples : List (List Nat)
  phases : List Nat := []
deriving DecidableEq, Repr

/-- A line as it arrives on an SDI lane, or out of an ST 2022-6 stream (R139-R147): line number, Level B-DS stream (0 for
any other mapping), whether its line-number word is wrong, its CRCs fail, its XYZ word was corrected; an EDH packet with
whether it reports an error; the format, rate, mapping and sampling found; a valid payload ID's link number and metadata;
delay behind link 1 in ns; active picture words; ancillary packets with whether checksum and parity hold; audio. -/
structure SdiLine where
  num : Nat
  stream : Nat := 0
  lineError : Bool := false
  crcError : Bool := false
  xyzFixed : Bool := false
  edh : Option Bool := none
  form : Nat := 0
  rate : Nat := 0
  map : Nat := 0
  samp : Nat := 0
  pid : Option (Nat × Nat) := none
  skew : Nat := 0
  picture : List Nat := []
  anc : List (AncPkt × Bool) := []
  groups : List AudioGroup := []
deriving DecidableEq, Repr

/-- What an RTP packet carries, by the kind of stream (R173, R179, R181, R183, R186). -/
inductive Media where
  | video (field : Nat) (srds : List (Nat × Nat × List Nat))
  | opaque (head : Nat) (wire : Nat) (data : List Nat)
  | audio (samples : List (List Nat)) (nonAudio : Bool)
  | anc (field : Nat) (pkts : List (AncPkt × Bool))
  | hbrmt (formatOk : Bool) (lines : List SdiLine)
deriving DecidableEq, Repr

/-- A frame that arrives on an Ethernet port and is not ARP, IGMP, PTP or Dumus (R161, R162, R190): destination MAC, VLAN
(0 untagged), length, IPv4 fields, whether header length, checksums and fragment fields are right, RTP fields. -/
structure Packet where
  mac : Nat
  vlan : Nat
  length : Nat
  src : Nat
  dst : Nat
  dport : Nat
  ipOk : Bool
  udpOk : Bool
  version : Nat
  pt : Nat
  seq : Nat
  timestamp : Nat
  marker : Bool
  media : Media
deriving DecidableEq, Repr

/-- What R161 looks at in a frame: destination MAC address, VLAN (0 untagged), length from the destination address to the
frame check sequence. -/
structure FrameIn where
  mac : Nat
  vlan : Nat
  length : Nat
deriving DecidableEq, Repr

/-- A frame at an Ethernet port's lane. -/
structure LaneFrame where
  lane : Nat
  frame : FrameIn
deriving DecidableEq, Repr

/-- An IGMP query (R164): the version it speaks, the group it names (0: general), its maximum response time in ns. -/
structure IgmpQuery where
  version : Nat
  group : Nat
  maxResp : Nat
deriving DecidableEq, Repr

/-- A HELLO record (R390): the node, the port it was sent on, its role, and its up ports with their peers. -/
structure Hello where
  node : Nat
  port : Nat
  master : Bool
  bound : Nat
  changeover : Bool
  sideB : Bool
  links : List (Nat × Nat)
deriving DecidableEq, Repr

/-- What a RESERVE record brings back from the origin (R400): reason (0: accepted), the label on this link, hops and
summed flight times in ps, plane, declaration, the 0x4200 word, whether the source is a head or a generator, its house
line in ns, its cell rate. -/
structure Reserved where
  reason : Nat := 0
  label : Nat := 0
  hops : Nat := 0
  ps : Nat := 0
  plane : Nat := 0
  decl : Word := 0
  mode : Word := 0
  internal : Bool := false
  house : Rat := 0
  rate : Rat := 0
deriving DecidableEq, Repr

/-- A RESERVE record (R400, R403): asked toward the origin, returned, freed, or its path broken or whole again. -/
inductive ReserveMsg where
  | ask (node source plane : Nat) (rate : Rat)
  | answer (node source : Nat) (r : Reserved)
  | free (node source : Nat)
  | path (node source : Nat) (broken : Bool)
deriving DecidableEq, Repr

/-- A cell on a tether link (R199, R391): label, virtual channel, whether bits [241:240] of its first block are 0x2, the header's
other fields with VALID and PCRC, and the 240 payload bytes. -/
structure LinkCell where
  label : Nat
  vc : Nat
  reserved : Bool
  anc : Bool
  frame : Int
  line : Nat
  index : Nat
  last : Bool
  valid : Nat
  subst : Bool
  meta_ : Nat
  pcrc : Word
  payload : List Byte
deriving DecidableEq, Repr

/-- A CASCADE record (R408, R409, R412), with the master's origin class, session and sequence. -/
inductive CascadeMsg where
  | take (tp : Word) (plane scope : Nat) (force : Bool) (origin session seq : Nat)
  | abort (scope origin session seq : Nat)
  | drill (tp : Word) (plane : Nat) (force : Bool) (origin session seq : Nat)
deriving DecidableEq, Repr

/-- The blocks a tether or bridle lane sent since its last marker (R113, R118): header bit and payload of each, fill blocks with
them. -/
structure LaneBlocks where
  lane : Nat
  blocks : List (Bool × Word)
deriving DecidableEq, Repr

/-- What a lane found at the places of the last expected commas (R120): a marker or none. -/
structure LaneCommas where
  lane : Nat
  found : List (Option Word)
deriving DecidableEq, Repr

/-- The levels a lane received since its codewords were last taken (R114, R117): none on an Ethernet lane. -/
structure LaneLevels where
  lane : Nat
  levels : List Nat
deriving DecidableEq, Repr

/-- A lane that leaves electrical idle (R125, R127), and whether its driver shows overcurrent as it begins. -/
structure LaneExit where
  lane : Nat
  short : Bool
deriving DecidableEq, Repr

/-- The times of a PLANECFG record (R391): the plane's origin in ns, and b and the step of device time of a re-origin that is still
to come, in ns of the sender. -/
structure PlaneTimes where
  origin : Rat
  pending : Option (Rat × Rat)
deriving DecidableEq, Repr

/-- The commands of the block, in the order of spec/opcode_table.json. -/
inductive Instr where
  /-- INTER_DIE_LINK_TIMEOUT (R15). -/
  | interDieLinkTimeout
  /-- INTER_DIE_RESEND (R15). -/
  | interDieResend
  /-- EVENT_FIRE (R42). -/
  | eventFire
  /-- PLANE_CONFIG_WRITE (R39). -/
  | planeConfigWrite (rq : Rq) (plane : Nat) (value : Word)
  /-- REORIGIN (R46). -/
  | reorigin (rq : Rq) (plane : Nat) (value : Word)
  /-- REORIGIN_FRAME_END (R45). -/
  | reoriginFrameEnd (plane : Nat)
  /-- REORIGIN_NEW_PHASE (R45). -/
  | reoriginNewPhase (plane : Nat)
  /-- CANDIDATE_PRESENT (R67): what is measured: DETAIL, frequency in 10^-12, the device time of a grid point. -/
  | candidatePresent (cand detail : Nat) (freq : Int) (grid : Rat)
  /-- CANDIDATE_LOSS (R67): reason: LOSS_REASON 0x1, 0x2, 0x3, 0x5 or 0x6. -/
  | candidateLoss (cand reason : Nat)
  /-- CANDIDATE_QUALIFY (R67). -/
  | candidateQualify (cand : Nat)
  /-- CANDIDATE_CONFIG_WRITE (R87). -/
  | candidateConfigWrite (rq : Rq) (cand : Nat) (value : Word)
  /-- PRIORITY_TABLE_WRITE (R69): sub: 0-9 for one entry, 0x10 for the table. -/
  | priorityTableWrite (rq : Rq) (sub : Nat) (value : Word)
  /-- REFSEL_SCHEDULE (R85): arg: the 10 argument bytes. -/
  | refselSchedule (rq : Rq) (arg : Word)
  /-- REFSEL_FIRE (R85). -/
  | refselFire
  /-- MANUAL_CLEAR (R86). -/
  | manualClear (rq : Rq) (value : Word)
  /-- PHASE_MEASUREMENT (R74): the filtered phase error in ns, the candidate's frequency in 10^-12, a grid point. -/
  | phaseMeasurement (error freq : Int) (grid : Rat)
  /-- DPLL_CAPTURE (R72). -/
  | dpllCapture
  /-- DPLL_LOCKED (R72). -/
  | dpllLocked
  /-- LOSS_OF_LOCK (R74). -/
  | lossOfLock
  /-- BALLAST_SECOND_RECORD (R78). -/
  | ballastSecondRecord
  /-- PTP_MESSAGE_RECEIVED (R82). -/
  | ptpMessageReceived (inst domain : Nat) (msg : PtpMsg)
  /-- PTP_DELAY_REQ_SEND (R82). -/
  | ptpDelayReqSend (inst : Nat)
  /-- PTP_ANNOUNCE_TIMEOUT (R67). -/
  | ptpAnnounceTimeout (inst : Nat)
  /-- PPS_OUT_PULSE (R92). -/
  | ppsOutPulse
  /-- FRAME_OUT_PULSE (R92). -/
  | frameOutPulse
  /-- LANE_MODE_WRITE (R96). -/
  | laneModeWrite (rq : Rq) (lane : Nat) (value : Word)
  /-- LANE_RATE_WRITE (R98): sub: the lane, or 0x100 + the lane. -/
  | laneRateWrite (rq : Rq) (sub : Nat) (value : Word)
  /-- SYNTHESISER_LOCKED (R100): synth: 2q for A of quad q, 2q + 1 for B. -/
  | synthesiserLocked (synth : Nat)
  /-- SYNTHESISER_LOCK_FAIL (R131). -/
  | synthesiserLockFail (synth : Nat)
  /-- SYNTHESISER_RELOCK_ATTEMPT (R131). -/
  | synthesiserRelockAttempt (synth : Nat)
  /-- ADAPTATION_COMPLETE (R110). -/
  | adaptationComplete (lane : Nat)
  /-- LOS_DECLARE (R111). -/
  | losDeclare (lane : Nat)
  /-- LOS_CLEAR (R111). -/
  | losClear (lane : Nat)
  /-- LOL_DECLARE (R111). -/
  | lolDeclare (lane : Nat)
  /-- LOL_CLEAR (R111). -/
  | lolClear (lane : Nat)
  /-- ETHERNET_LINK_CHANGE (R103): trained: for each lane of the port, whether Clause 73 negotiation is done [26], precoding received [25] and sent [24], and the taps [23:0] that training left. -/
  | ethernetLinkChange (lane : Nat) (up : Bool) (trained : List Word)
  /-- SDI_RATE_DETECTED (R105). -/
  | sdiRateDetected (lane code : Nat)
  /-- POLARITY_REVERSAL_DETECTED (R122). -/
  | polarityReversalDetected (lane : Nat)
  /-- TETHER_COMMA_INSERT (R118). -/
  | tetherCommaInsert (sent : LaneBlocks)
  /-- ALIGNMENT_ACQUIRED (R120): skew: the delay behind the first lane of the port in ns; on a lane that is aligned already, a comma away from its place. -/
  | alignmentAcquired (lane : Nat) (marker : Word) (skew : Nat)
  /-- ALIGNMENT_LOST (R120). -/
  | alignmentLost (seen : LaneCommas)
  /-- UNCORRECTABLE_CODEWORD (R114): errors: on an Ethernet lane, the symbol errors of the codeword. -/
  | uncorrectableCodeword (heard : LaneLevels) (errors : Nat)
  /-- ELECTRICAL_IDLE_ENTER (R124). -/
  | electricalIdleEnter (sent : LaneBlocks)
  /-- IDLE_MARKER_RECEIVED (R124). -/
  | idleMarkerReceived (lane : Nat) (marker : Word)
  /-- ELECTRICAL_IDLE_EXIT (R125). -/
  | electricalIdleExit (exit : LaneExit)
  /-- IDLE_EXIT_FAILURE (R126). -/
  | idleExitFailure (lane : Nat)
  /-- TX_SHORT_DECLARE (R127). -/
  | txShortDeclare (lane : Nat)
  /-- TX_SHORT_PROBE (R127). -/
  | txShortProbe (lane : Nat) (short : Bool)
  /-- LANE_DIAG_WRITE (R128). -/
  | laneDiagWrite (rq : Rq) (lane : Nat) (value : Word)
  /-- PATTERN_ERROR_INJECT (R128). -/
  | patternErrorInject (rq : Rq) (lane : Nat) (value : Word)
  /-- TRS_LOCK (R139). -/
  | trsLock (lane : Nat)
  /-- TRS_LOCK_LOST (R139). -/
  | trsLockLost (lane : Nat)
  /-- SDI_LINE_RECEIVED (R143). -/
  | sdiLineReceived (lane : Nat) (line : SdiLine)
  /-- FORMAT_MISMATCH_CLEAR (R140). -/
  | formatMismatchClear (flow : Nat)
  /-- OUTPUT_FRAME_START (R152). -/
  | outputFrameStart (output : Nat)
  /-- OUTPUT_LINE_LAUNCH (R228). -/
  | outputLineLaunch (output line : Nat)
  /-- OUTPUT_SWITCH_POINT (R244). -/
  | outputSwitchPoint (output : Nat)
  /-- ARP_FRAME_RECEIVED (R163): target: the address asked for; sender: who asks or answers. -/
  | arpFrameReceived (frame : LaneFrame) (request : Bool) (target sender senderMac : Nat)
  /-- ARP_RESOLVE_RETRY (R163). -/
  | arpResolveRetry (lane address : Nat)
  /-- ARP_REFRESH (R163). -/
  | arpRefresh (lane address : Nat)
  /-- IGMP_QUERY_RECEIVED (R164). -/
  | igmpQueryReceived (frame : LaneFrame) (query : IgmpQuery)
  /-- IGMP_QUERY_RESPONSE (R164). -/
  | igmpQueryResponse (lane vlan : Nat)
  /-- IGMP_STATE_CHANGE_REPORT (R164). -/
  | igmpStateChangeReport (lane vlan : Nat)
  /-- IGMP_COMPAT_TIMEOUT (R164). -/
  | igmpCompatTimeout (lane vlan : Nat)
  /-- MEDIA_PACKET_RECEIVED (R162). -/
  | mediaPacketReceived (lane : Nat) (packet : Packet)
  /-- LINE_CLOSE_TIMEOUT (R175). -/
  | lineCloseTimeout (flow line : Nat)
  /-- RX_ENTRY_WRITE (R168). -/
  | rxEntryWrite (rq : Rq) (entry : Nat) (value : Word)
  /-- TX_ENTRY_WRITE (R172). -/
  | txEntryWrite (rq : Rq) (entry : Nat) (value : Word)
  /-- VIDEO_PACKET_SEND (R176). -/
  | videoPacketSend (entry : Nat)
  /-- AUDIO_PACKET_SEND (R185). -/
  | audioPacketSend (entry : Nat)
  /-- ANC_PACKET_SEND (R187). -/
  | ancPacketSend (entry : Nat)
  /-- TS_DRIFT_DECLARE (R184). -/
  | tsDriftDeclare (entry : Nat)
  /-- ANC_ATTACH_TIMEOUT (R186). -/
  | ancAttachTimeout (flow : Nat)
  /-- PATH_ABSENT (R188). -/
  | pathAbsent (flow path : Nat)
  /-- IP_INPUT_LOST (R195). -/
  | ipInputLost (flow : Nat)
  /-- INPUT_RETURN (R223). -/
  | inputReturn (flow : Nat)
  /-- HOLD_EXPIRY (R224). -/
  | holdExpiry (flow : Nat)
  /-- INPUT_MISTIMED (R225). -/
  | inputMistimed (flow : Nat)
  /-- MISTIMED_RECOVERY (R225). -/
  | mistimedRecovery (flow : Nat)
  /-- AUTO_SYNC_PROMOTION (R226). -/
  | autoSyncPromotion (flow : Nat)
  /-- PROMOTION_RETRY (R226). -/
  | promotionRetry (flow : Nat)
  /-- SHADOW_WRITE (R236). -/
  | shadowWrite (rq : Rq) (index sub : Nat) (value : Word)
  /-- PROTECTION_WRITE (R217). -/
  | protectionWrite (rq : Rq) (output : Nat) (value : Word)
  /-- TAKE (R240): arg: the 12 argument bytes. -/
  | take (rq : Rq) (arg : Word)
  /-- CASCADE_TAKE (R407): arg: the 12 argument bytes. -/
  | cascadeTake (rq : Rq) (arg : Word)
  /-- TAKE_SWAP (R242). -/
  | takeSwap
  /-- RESEED_COMPLETE (R242). -/
  | reseedComplete (bank : Nat)
  /-- ABORT (R248). -/
  | abort (rq : Rq) (arg : Word)
  /-- CASCADE_ABORT (R409). -/
  | cascadeAbort (rq : Rq) (arg : Word)
  /-- DISCARD (R249). -/
  | discard (rq : Rq) (arg : Word)
  /-- SALVO_STORE (R256). -/
  | salvoStore (rq : Rq) (salvo : Nat) (image : List Byte)
  /-- SALVO_FIRE (R258). -/
  | salvoFire (who : Firer) (value : Word)
  /-- SALVO_EXECUTE (R260). -/
  | salvoExecute
  /-- STRUCTURAL_WRITE (R262). -/
  | structuralWrite (rq : Rq) (index sub : Nat) (value : Word)
  /-- MOVE_POINT (R263). -/
  | movePoint (index sub : Nat)
  /-- FS_SLOT_SELECT (R276). -/
  | fsSlotSelect (flow : Nat)
  /-- AUDIO_PERIOD (R293): frames: for each serial port in master mode, the pin frames that begin in this period, each as the 32 bits of every slot from the FS edge on, the first bit highest. -/
  | audioPeriod (frames : List (Nat × List (List Nat)))
  /-- BRIDGE_ACQUIRE (R297): rate: the rate measured, in Hz; output bridges count from 0x1000. -/
  | bridgeAcquire (bridge : Nat) (rate : Rat)
  /-- BRIDGE_BANDWIDTH_STEP (R297). -/
  | bridgeBandwidthStep (bridge : Nat)
  /-- BRIDGE_RATIO_UPDATE (R297): error: how far the clock has run ahead of the loop, in seconds. -/
  | bridgeRatioUpdate (bridge : Nat) (error : Rat)
  /-- BRIDGE_SOURCE_LOST (R299). -/
  | bridgeSourceLost (bridge : Nat)
  /-- AUDIO_PORT_CLOCK_LOST (R303): port: 0-15 AP00-AP15, 16 + p the Exair port of 0x7310:p. -/
  | audioPortClockLost (port : Nat)
  /-- GAIN_STEP_TIMEOUT (R311): slot: AOUT slot, or 0x10000 + 4p + i for input i of side-tone path p. -/
  | gainStepTimeout (slot : Nat)
  /-- DELAY_CROSSFADE_END (R315). -/
  | delayCrossfadeEnd (slot : Nat)
  /-- METER_INTERVAL_END (R319). -/
  | meterIntervalEnd
  /-- SPOOL_LOAD (R342). -/
  | spoolLoad (rq : Rq) (bank : Nat) (image : List Byte)
  /-- SPOOL_CHECK_COMPLETE (R341). -/
  | spoolCheckComplete (bank : Nat)
  /-- SPOOL_LOAD_ABANDON (R342). -/
  | spoolLoadAbandon (bank : Nat)
  /-- SPOOL_BANK_EMPTY (R342). -/
  | spoolBankEmpty (rq : Rq) (value : Word)
  /-- SPOOL_EFFECT_POINT (R345). -/
  | spoolEffectPoint
  /-- COEFFICIENT_WRITE (R337): payload: the values of consecutive entries. -/
  | coefficientWrite (rq : Rq) (bank entry : Nat) (payload : List Byte)
  /-- COEFFICIENT_EFFECT (R338). -/
  | coefficientEffect
  /-- HEAD_FRAME_BOUNDARY (R353). -/
  | headFrameBoundary (head : Nat)
  /-- STAGED_FRAME_COMPLETE (R364). -/
  | stagedFrameComplete (head layer : Nat)
  /-- HEAD_TIMING_CHANGE (R381). -/
  | headTimingChange (head : Nat)
  /-- SPRITE_UPLOAD (R372). -/
  | spriteUpload (rq : Rq) (sprite : Nat) (image : List Byte)
  /-- SPRITE_CAPTURE (R373): value: the 8 bytes. -/
  | spriteCapture (rq : Rq) (value : Word)
  /-- SPRITE_CAPTURE_DONE (R373). -/
  | spriteCaptureDone (sprite : Nat)
  /-- SPRITE_CAPTURE_TIMEOUT (R373). -/
  | spriteCaptureTimeout (sprite : Nat)
  /-- SPRITE_DELETE (R372). -/
  | spriteDelete (rq : Rq) (value : Word)
  /-- STATIC_LAYER_WRITE (R374): layer: 4h + s. -/
  | staticLayerWrite (rq : Rq) (layer : Nat) (value : Word)
  /-- BLIT_COPY (R376): command: the 24 bytes, OP apart. -/
  | blitCopy (rq : Rq) (command : Word)
  /-- BLIT_FILL (R375): command: the 24 bytes, OP apart. -/
  | blitFill (rq : Rq) (command : Word)
  /-- BLITTER_JOB_START (R375). -/
  | blitterJobStart
  /-- BLITTER_JOB_COMPLETE (R375). -/
  | blitterJobComplete
  /-- CURSOR_WRITE (R379): sub: 0x30-0x4F. -/
  | cursorWrite (rq : Rq) (sub : Nat) (payload : List Byte)
  /-- HELLO_SEND (R390). -/
  | helloSend
  /-- HELLO_RECEIVED (R390). -/
  | helloReceived (port : Nat) (hello : Hello)
  /-- TETHER_PORT_UP (R388). -/
  | tetherPortUp (port : Nat)
  /-- TETHER_PORT_DOWN (R403). -/
  | tetherPortDown (port : Nat)
  /-- TETHER_TIMELINE_SEND (R393). -/
  | tetherTimelineSend
  /-- TETHER_TIMELINE_RECEIVED (R393): record: the body of R393. -/
  | tetherTimelineReceived (port : Nat) (record : Word)
  /-- TETHER_PLANECFG_RECEIVED (R40): link: tether port 0-7, 8 the bridle. -/
  | tetherPlanecfgReceived (link plane : Nat) (config : Word) (times : PlaneTimes)
  /-- PATH_ECHO (R394): times in ns. -/
  | pathEcho (port : Nat) (t1 t2 t3 t4 : Rat)
  /-- TETHER_CELL_RECEIVED (R391). -/
  | tetherCellReceived (port : Nat) (cell : LinkCell)
  /-- CREDIT_RECEIVED (R404). -/
  | creditReceived (port vc0 vc1 : Nat)
  /-- CREDIT_STALL (R404). -/
  | creditStall (port : Nat)
  /-- TETHER_BINDING_WRITE (R400). -/
  | tetherBindingWrite (rq : Rq) (flow : Nat) (value : Word)
  /-- RESERVE_RECEIVED (R400). -/
  | reserveReceived (port : Nat) (msg : ReserveMsg)
  /-- STREAM_STATE_RECEIVED (R398): state: bits [31:26] as in 0x4300:4000. -/
  | streamStateReceived (port label : Nat) (state : Word)
  /-- TUNNEL_REQUEST (R405). -/
  | tunnelRequest (rq : Rq) (opcode index sub : Nat) (payload : List Byte)
  /-- TUNNEL_FRAGMENT_RECEIVED (R405). -/
  | tunnelFragmentReceived (port target source number : Nat) (last : Bool) (data : List Byte)
  /-- TUNNEL_TIMEOUT (R405). -/
  | tunnelTimeout
  /-- CASCADE_RECORD_RECEIVED (R408). -/
  | cascadeRecordReceived (port : Nat) (msg : CascadeMsg)
  /-- CHANGEOVER_RECORD_RECEIVED (R411). -/
  | changeoverRecordReceived (port : Nat)
  /-- JOIN (R430). -/
  | join (rq : Rq) (value : Word)
  /-- RELEASE (R418). -/
  | release (rq : Rq) (value : Word)
  /-- CLEAR_SUSPECT (R415). -/
  | clearSuspect (rq : Rq) (value : Word)
  /-- CLAIM_IN_RISE (R416). -/
  | claimInRise
  /-- CLAIM_CONFLICT (R416). -/
  | claimConflict
  /-- CLAIM_IN_FALL (R438): power: the partner lost power, rather than declared a fatal fault. -/
  | claimInFall (power : Bool)
  /-- QUENCH (R417). -/
  | quench
  /-- QUENCH_RELEASE (R418). -/
  | quenchRelease
  /-- HEARTBEAT_SEND (R420). -/
  | heartbeatSend
  /-- HEARTBEAT_RECEIVED (R418): the 256 bits of the record. -/
  | heartbeatReceived (record : Word)
  /-- HEARTBEAT_LOST (R420). -/
  | heartbeatLost
  /-- BRIDLE_TIMELINE_RECEIVED (R422): the 256 bits of the record. -/
  | bridleTimelineReceived (record : Word)
  /-- CHANGE_RECORD_APPLY (R424). -/
  | changeRecordApply (record : ChangeRecord)
  /-- DECISION_RECORD_APPLY (R426): the 256 bits of the record. -/
  | decisionRecordApply (record : Word)
  /-- FAULT_RECORD_RECEIVED (R436): the 256 bits of the record. -/
  | faultRecordReceived (record : Word)
  /-- DIGEST_COMPARE (R436): COUNT and bits [239:0] of the DIGEST record of the partner; a COUNT of 0 where none came and this member has new units of its own. -/
  | digestCompare (count : Nat) (entries : Word)
  /-- JOIN_REQUEST_RECEIVED (R430). -/
  | joinRequestReceived
  /-- JOIN_RETRY (R430). -/
  | joinRetry
  /-- JOIN_SNAPSHOT (R431). -/
  | joinSnapshot
  /-- STATE_RECORD_APPLY (R432): the 256 bits of the record. -/
  | stateRecordApply (record : Word)
  /-- JOIN_IN_STEP (R431). -/
  | joinInStep
  /-- CHANGEOVER_REQUEST_RECEIVED (R412): port: the tether port that failed at the partner. -/
  | changeoverRequestReceived (port : Nat)
  /-- HANDOVER_TP (R441). -/
  | handoverTp
  /-- PARTNER_RELAY (R433). -/
  | partnerRelay (rq : Rq) (frame : List Byte)
  /-- RELAY_FRAME_RECEIVED (R433). -/
  | relayFrameReceived (frame : List Byte)
  /-- DRILL (R442): arg: the 10 argument bytes. -/
  | drill (rq : Rq) (arg : Word)
  /-- DRILL_FIRE (R442). -/
  | drillFire
  /-- SOLO_CLAIM (R445). -/
  | soloClaim
  /-- DUMUS_FRAME_RECEIVED (R464). -/
  | dumusFrameReceived (port : Port) (dst etherType src : Nat) (tagged fcsOk : Bool) (frame : List Byte)
  /-- READ (R452). -/
  | read (rq : Rq) (index sub : Nat)
  /-- WRITE (R475). -/
  | write (rq : Rq) (index sub : Nat) (payload : List Byte)
  /-- BLOCK_WRITE (R460). -/
  | blockWrite (rq : Rq) (index sub : Nat) (payload : List Byte)
  /-- BLOCK_TRANSFER_ABANDON (R460). -/
  | blockTransferAbandon (index sub : Nat) (halt : Option DmaHalt)
  /-- BLOCK_READ (R461). -/
  | blockRead (rq : Rq) (index sub : Nat) (payload : List Byte)
  /-- PENDING_DONE (R457). -/
  | pendingDone (rq : Rq) (index sub : Nat)
  /-- NOTIFY_RESEND (R457). -/
  | notifyResend (origin session seq : Nat)
  /-- REPLY_BACKOFF_RETRY (R454). -/
  | replyBackoffRetry (port : Port) (collides : Bool)
  /-- WAKE (R466). -/
  | wake (port : Port) (frame : List Byte)
  /-- CARD_SEND (R468). -/
  | cardSend (length : Nat) (frame : List Byte) (crc : Word)
  /-- CARD_RECEIVE (R468). -/
  | cardReceive
  /-- CARD_STATUS (R467). -/
  | cardStatus
  /-- WINDOW_READ (R469). -/
  | windowRead (window offset length : Nat)
  /-- WINDOW_WRITE (R469). -/
  | windowWrite (window offset : Nat) (data : List Byte)
  /-- KEY_WRITE (R473). -/
  | keyWrite (rq : Rq) (sub : Nat) (payload : List Byte)
  /-- LOG_RELEASE (R480). -/
  | logRelease (rq : Rq) (entry : Word)
  /-- WINDOW_CAPTURE (R485): command: the 24 bytes of R484. -/
  | windowCapture (rq : Rq) (window : Nat) (command : Word)
  /-- WINDOW_INSERT (R486): command: the 24 bytes of R484. -/
  | windowInsert (rq : Rq) (window : Nat) (command : Word)
  /-- WINDOW_STOP (R484): command: the 24 bytes of R484. -/
  | windowStop (rq : Rq) (window : Nat) (command : Word)
  /-- WINDOW_OPERATION_START (R485). -/
  | windowOperationStart (window : Nat)
  /-- WINDOW_OPERATION_END (R485). -/
  | windowOperationEnd (window : Nat) (halt : Option DmaHalt)
  /-- REQUEST_SERVICE (R515). -/
  | requestService (rq : Rq)
  /-- REQUEST_SOLO (R516). -/
  | requestSolo (rq : Rq)
  /-- REQUEST_DORMANT (R519). -/
  | requestDormant (rq : Rq)
  /-- DORMANT_PREPARE (R519). -/
  | dormantPrepare
  /-- DORMANT_POWER_DOWN (R519). -/
  | dormantPowerDown
  /-- FATAL_DECLARATION (R518). -/
  | fatalDeclaration (source : Nat) (detail : Word)
  /-- EXAIR_POWER_ON (R524). -/
  | exairPowerOn
  /-- MAIN_POWER_ENABLE (R524). -/
  | mainPowerEnable
  /-- POWER_SEQUENCE_TIMEOUT (R525). -/
  | powerSequenceTimeout
  /-- POWER_SEQUENCE_RETRY (R525). -/
  | powerSequenceRetry
  /-- POWER_GOOD_LOST (R525). -/
  | powerGoodLost (sramKept : Bool)
  /-- PORST_ASSERT (R525). -/
  | porstAssert
  /-- PORST_RELEASE (R524). -/
  | porstRelease (nodeSel : Nat) (sideB sramKept : Bool)
  /-- SELF_CHECK_COMPLETE (R531): failed: the memory that failed. -/
  | selfCheckComplete (failed : Option Nat)
  /-- SLOT_VERIFY_COMPLETE (R533). -/
  | slotVerifyComplete
  /-- COMPONENT_START (R534). -/
  | componentStart
  /-- COMPONENT_READY (R534). -/
  | componentReady
  /-- COMPONENT_READY_TIMEOUT (R534). -/
  | componentReadyTimeout
  /-- CONFIG_INSTALL (R544). -/
  | configInstall
  /-- BOOT_END (R521). -/
  | bootEnd
  /-- BOOT_PARTNER_WAIT_END (R521). -/
  | bootPartnerWaitEnd
  /-- STAGE_PACKAGE (R536). -/
  | stagePackage (rq : Rq) (path : List Byte)
  /-- STAGING_COMPLETE (R537). -/
  | stagingComplete (file : List Byte)
  /-- STAGING_FAILURE (R538). -/
  | stagingFailure (result : Nat) (halt : Option DmaHalt)
  /-- HEALTH_CONFIRM (R539). -/
  | healthConfirm (rq : Rq) (value : Word)
  /-- HEALTH_CONFIRM_TIMEOUT (R540). -/
  | healthConfirmTimeout
  /-- CONFIG_SAVE (R543). -/
  | configSave (rq : Rq)
  /-- CONFIG_SAVE_COMPLETE (R543). -/
  | configSaveComplete
  /-- CONFIG_ERASE (R542). -/
  | configErase (rq : Rq)
  /-- SELECT_GOOD_SLOT (R541). -/
  | selectGoodSlot (rq : Rq)
  /-- ECC_WRITEBACK (R548). -/
  | eccWriteback (memory address : Nat)
  /-- SCRUB_READ (R551). -/
  | scrubRead (memory : Nat) (error : ScrubError)
  /-- SCRUB_LAP_END (R551). -/
  | scrubLapEnd (memory : Nat)
  /-- FAULT_FORCE (R554). -/
  | faultForce (rq : Rq) (source : Nat) (value : Word)
  /-- ALARM_CLEAR (R553). -/
  | alarmClear (rq : Rq) (source : Nat) (value : Word)
  /-- REARM (R560). -/
  | rearm (rq : Rq) (value : Word)
  /-- FREEZE_PIN (R561). -/
  | freezePin
  /-- FREEZE_SCHEDULE (R562): arg: the 10 argument bytes. -/
  | freezeSchedule (rq : Rq) (arg : Word)
  /-- FREEZE_CANCEL (R562): arg: the 10 argument bytes. -/
  | freezeCancel (rq : Rq) (arg : Word)
  /-- SCHEDULED_FREEZE (R563). -/
  | scheduledFreeze
  /-- FREEZE_ON_FATAL (R563). -/
  | freezeOnFatal
  /-- THERMAL_SENSOR_READ (R584): in 0.1 °C. -/
  | thermalSensorRead (hottest : Int)
  /-- THERM_ALERT (R558): low: the pin has been low for 10 ms; else it has gone high. -/
  | thermAlert (low : Bool)
  /-- OSC_IN_FAILED (R586). -/
  | oscInFailed
  /-- TRST_RESET (R566). -/
  | trstReset
  /-- EXTEST (R566). -/
  | extest
  /-- SAMPLE_PRELOAD (R566). -/
  | samplePreload
  /-- IDCODE (R566). -/
  | idcode
  /-- BYPASS (R566). -/
  | bypass (code : Nat)
  /-- CAPTURE_READ (R567). -/
  | captureRead (nbits : Nat)
  /-- CAPTURE_SEEK (R567). -/
  | captureSeek (section_ : Nat)
  /-- LIFECYCLE (R566). -/
  | lifecycle
  /-- OPEN_CHALLENGE (R570). -/
  | openChallenge
  /-- OPEN_RESPONSE (R570): failing: the key-store word that is not zero after the erasure. -/
  | openResponse (signature : List Byte) (failing : Option Nat)
  /-- RELOCK (R571). -/
  | relock (value : Word)
  /-- DEBUG_ACCESS (R566). -/
  | debugAccess (write : Bool) (target address : Nat) (data : Word)
  /-- LICENCE_TOKEN_WRITE (R572). -/
  | licenceTokenWrite (rq : Rq) (slot : Nat) (payload : List Byte)
  /-- CROSSBAR_ACCESS_ERROR (R450). -/
  | crossbarAccessError (master target : Nat)
  /-- FIELD_LINE_CONFIG_WRITE (R594). -/
  | fieldLineConfigWrite (rq : Rq) (line : Nat) (value : Word)
  /-- FIELD_LINE_HOLD_END (R594). -/
  | fieldLineHoldEnd (line : Nat)
  /-- FIELD_INPUT_MEASURE (R595). -/
  | fieldInputMeasure (line ohms : Nat)
  /-- FIELD_INPUT_ACCEPT (R596). -/
  | fieldInputAccept (line : Nat)
  /-- FIELD_OUTPUT_READBACK (R601): volts: in 10 mV. -/
  | fieldOutputReadback (line volts : Nat)
  /-- CONTENTION_DECLARE (R601). -/
  | contentionDeclare (line : Nat)
  /-- CONTENTION_CLEAR (R601). -/
  | contentionClear (line : Nat)
  /-- OUTPUT_OVERCURRENT (R600). -/
  | outputOvercurrent (line : Nat)
  /-- OVERCURRENT_RETRY (R600): atLimit: the current reaches the limit. -/
  | overcurrentRetry (line : Nat) (atLimit : Bool)
  /-- OPEN_LOAD_DECLARE (R602). -/
  | openLoadDeclare (line : Nat)
  /-- OPEN_LOAD_CLEAR (R602). -/
  | openLoadClear (line : Nat)
  /-- VFIELD_CHECK (R603): in 0.1 V. -/
  | vfieldCheck (volts : Int)
  /-- TALLY_RULE_WRITE (R599). -/
  | tallyRuleWrite (rq : Rq) (line : Nat) (value : Word)
  /-- FIELD_PORT_LINE_CHECK (R592): port: 0 A, 1 B; amplitude of a frame sent, in mV peak-to-peak. -/
  | fieldPortLineCheck (port amplitude : Nat)
  /-- FIELD_PORT_STUCK (R592). -/
  | fieldPortStuck (port : Nat)
  /-- FIELD_PORT_STUCK_CLEAR (R592). -/
  | fieldPortStuckClear (port : Nat)
  /-- POWER_DOWN (R526). -/
  | powerDown
  /-- PORST_N_RISES_IN_DORMANT (R525). -/
  | porstNRisesInDormant
  /-- AUDIO_PORT_FRAME (R307): port as in AUDIO_PORT_CLOCK_LOST; rate: measured, in Hz; samples: 32 bits of each slot or subframe, of a serial port from the FS edge on with the first bit highest, of an Exair port the audio word in [27:4] and V, U, C and P in [31:28]; bad: channels with a biphase error; block: the frame starts a channel-status block. -/
  | audioPortFrame (port rate : Nat) (samples : List Nat) (bad : List Nat) (block : Bool)
  /-- REQUESTS_MISSING_FROM_STREAM (R427). -/
  | requestsMissingFromStream (origin session seq : Nat)
  /-- GENERATOR_FRAME_START (R206). -/
  | generatorFrameStart (generator : Nat)
  /-- PLANECFG_SEND (R391). -/
  | planecfgSend
  /-- CREDIT_SEND (R404). -/
  | creditSend (port : Nat)
  /-- BRIDLE_TIMELINE_SEND (R419). -/
  | bridleTimelineSend
  /-- UNKNOWN_CARD_COMMAND (R467). -/
  | unknownCardCommand (code : Nat)
deriving DecidableEq, Repr

end Sys2Proof
end

