-- ==== Sys2Proof/Decode.lean ====
section
/-! DEFINITION. The command that a word of the opcode table spells. No row of the table gives a command any bits, so no
word spells one; frames on the wire are decoded where they arrive (`Sys2Proof.Machine.Dumus`, `Packet`, `Tether`). -/

namespace Sys2Proof

/-- The table gives its rows no bits: every word is refused. -/
def decodeTableWord (_nbits _w : Nat) : Option Instr := none

end Sys2Proof
end

