-- ==== Sys2Proof/Config.lean ====
section
/-! DEFINITION. What is fixed for one device and never told by the spec: the factory identity, the fused keys, and the
free values. Each constant is opaque, so that no proof can see a value of it. -/

namespace Sys2Proof.Config

/-- MEDIA_REV less its range bound, 0x0-0xF (R496). -/
opaque mediaRev : BitVec 4
/-- EXAIR_REV (R496). -/
opaque exairRev : BitVec 8
/-- SERIAL less one: the serial number is never zero (R496). -/
opaque serialLessOne : BitVec 64
/-- Bits [47:8] of BASE_MAC before its two fixed bits are cleared (R496). -/
opaque baseMacHigh : BitVec 40

/-- SERIAL (R496), unique to the device and never zero. -/
def serial : Nat := serialLessOne.toNat % (2 ^ 64 - 1) + 1

/-- BASE_MAC (R496): bits [41:40] and [7:0] are zero. -/
def baseMac : Nat := (baseMacHigh &&& 0xFCFFFFFFFF#40).toNat * 256

/-- The four release public keys and the debug authority key fused at manufacture (R530, R570), 32 bytes each. -/
opaque releaseKey : Fin 4 → BitVec 256
opaque debugAuthorityKey : BitVec 256
/-- Whether release key `k` is fused (R533): "names no fused release key". -/
opaque releaseKeyFused : Nat → Bool

/-- Ed25519 verification of RFC 8032 (R530, R570, R572): public key, message, signature. Uninterpreted. -/
opaque ed25519Verify : BitVec 256 → List (BitVec 8) → BitVec 512 → Bool
/-- Ed25519 signing of RFC 8032 (R570): private key, message. Uninterpreted. -/
opaque ed25519Sign : BitVec 256 → List (BitVec 8) → BitVec 512
/-- The public key of an Ed25519 private key (R569). Uninterpreted. -/
opaque ed25519Public : BitVec 256 → BitVec 256

/-- The identity private key that the device generated at its lock (R569). -/
opaque identityKey : BitVec 256

/-- The length of the boundary scan register in bits (R566). -/
opaque boundaryLength : Nat
/-- FREE VALUE: a byte of the capture stream whose layout the spec leaves open (R568): by count of free values and position. -/
opaque captureByte : (n pos : Nat) → BitVec 8

/-- FREE VALUE: the `n`-th value of `w` bits that the spec leaves open or takes from a random source. -/
opaque freeBits : (n w : Nat) → BitVec w

/-- FREE VALUE: the natural frequency, in radians per second, of the clean-up loop at a bandwidth BW (R66, R72). -/
opaque loopNatural : (bw : Nat) → Rat
/-- FREE VALUE: the natural frequency, in radians per second, of a bridge's loop at a bandwidth in 1/100 Hz (R297). -/
opaque bridgeNatural : (band : Nat) → Rat
/-- FREE VALUE: what a bridge gives for its read position between two samples of a buffer (R297). -/
opaque resample : Rat → List Nat → BitVec 24
/-- FREE VALUE: the A to B converter's sample at phase 0 or 1 of a period (R295), of the last 33 samples, newest first. -/
opaque interpolate : Nat → List Nat → BitVec 24
/-- FREE VALUE: the B to A converter's sample (R295), of the last 66 samples, newest first. -/
opaque decimate : List Nat → BitVec 24
/-- FREE VALUE: an input filter's next state and its output (R313), by corner in Hz, rate domain, state and sample. -/
opaque filterNext : Nat → Bool → Nat → Nat → Nat
opaque filterOut : Nat → Bool → Nat → Nat → BitVec 24
/-- FREE VALUE: sample `i` of `n` of a raised-cosine fade from `old` to `new` (R253), rounded to 24 bits. -/
opaque raisedCosine : (i n new old : Nat) → BitVec 24
/-- FREE VALUE: a sample at `i` of 48 of a fade in (R297, R320). -/
opaque fadeIn : (i x : Nat) → BitVec 24
/-- FREE VALUE: a sample under a gain in 0.01 dB, saturated to 24 bits (R309). -/
opaque gained : Int → Nat → BitVec 24
/-- FREE VALUE: a peak, and the RMS of a sum of squares of `n` samples, in 0.01 dBFS (R319). -/
opaque peakDb : Nat → BitVec 16
opaque rmsDb : (sum n : Nat) → BitVec 16

/-- FREE VALUE: what a look-up table gives beyond its ends (R361). -/
opaque lutBeyond : Rat → Rat
/-- FREE VALUE: a colour value between two 10-bit codes where the spec states no rounding (R373). -/
opaque roundCode : Rat → BitVec 10

/-- The newest bridle protocol version this device runs, and the oldest it accepts (R420): it accepts the one it runs. -/
opaque bridleProtoCur : BitVec 8
opaque bridleProtoOld : BitVec 8
def bridleProtoMin : BitVec 8 := if bridleProtoOld ≤ bridleProtoCur then bridleProtoOld else bridleProtoCur

end Sys2Proof.Config
end

