-- ==== Sys2Proof/Machine/Dict.lean ====
section
/-! DEFINITION. The object dictionary map (R488-R509): every index and sub-index the device decodes, with its type,
size, kind, access profile, attribute, reset value and reserved bits; and the table of fault sources (R558). -/
namespace Sys2Proof.Machine

/-- The five banks, in the order of the scope bits (R235). -/
inductive Bank where
  | routes | audio | compositor | spool | coefficients
deriving DecidableEq, Repr

/-- When a committed write takes effect (R475, R489). -/
inductive Attr where
  | none | immediate | structural | banked (b : Bank)
deriving DecidableEq, Repr

/-- RW, RO or WO (R489). -/
inductive Kind where
  | rw | ro | wo
deriving DecidableEq, Repr

/-- Access profiles (R490). -/
inductive Profile where
  | o | e | v | k | m | q
deriving DecidableEq, Repr

/-- Which sub-indices of a span exist: all of them, offsets 0x00-0xBF of each block of 0x100, or offsets 0x0-0xC of
each block of 0x10 (R488). -/
inductive Gap where
  | full | lanes | counters
deriving DecidableEq, Repr

/-- One row of the map: index span, sub-index span, type code (R474), least and greatest size in bytes, kind, profile,
attribute, reset value, reserved bits, and the gaps of the span. -/
structure DictRow where
  idxLo : Nat
  idxHi : Nat
  subLo : Nat
  subHi : Nat
  typ : Nat
  sizeLo : Nat
  sizeHi : Nat
  kind : Kind
  profile : Profile
  attr : Attr
  reset : Nat
  reserved : Nat
  gap : Gap
deriving DecidableEq, Repr

/-- The rows of R495 (index range 0x0). -/
def dictIdentity : List DictRow := [
  ⟨1, 1, 0, 0, 0x41, 32, 32, .ro, .q, .none, 0, 0, .full⟩,
  ⟨0x10, 0x10, 0, 0, 0x50, 1, 1, .ro, .q, .none, 1, 0, .full⟩,
  ⟨0x11, 0x11, 0, 0, 0x50, 1, 1, .wo, .m, .immediate, 0, 0, .full⟩,
  ⟨0x20, 0x20, 0, 0, 0x51, 4, 4, .ro, .q, .none, 0x81000000, 0, .full⟩]

/-- The rows of R499 (index range 0x1). -/
def dictControl : List DictRow := [
  ⟨0x1000, 0x1000, 0, 0, 0x11, 1, 1, .rw, .v, .immediate, 0, 0, .full⟩,
  ⟨0x1001, 0x1001, 0, 0, 0x13, 4, 4, .rw, .v, .immediate, 0xc00088b5, 0x3fff0000, .full⟩,
  ⟨0x1001, 0x1001, 1, 1, 0x43, 6, 6, .rw, .v, .immediate, 0x3000000d000, 0, .full⟩,
  ⟨0x1001, 0x1001, 2, 3, 0x43, 6, 6, .ro, .q, .none, 0, 0, .full⟩,
  ⟨0x1001, 0x1001, 0x100, 0x13c, 0x13, 4, 4, .rw, .m, .none, 0, 0, .counters⟩,
  ⟨0x1010, 0x1010, 0, 5, 0x13, 4, 4, .rw, .v, .immediate, 0, 0, .full⟩,
  ⟨0x1010, 0x1010, 0x11, 0x14, 0x11, 1, 1, .rw, .v, .immediate, 0, 0, .full⟩,
  ⟨0x1020, 0x1020, 2, 9, 0x41, 16, 16, .wo, .k, .immediate, 0, 0, .full⟩,
  ⟨0x1020, 0x1020, 0x10, 0x10, 0x11, 1, 1, .ro, .q, .none, 0, 0, .full⟩,
  ⟨0x1030, 0x1030, 0, 0, 0x41, 6, 6, .wo, .k, .immediate, 0, 0, .full⟩,
  ⟨0x1100, 0x1100, 0, 0, 0x41, 12, 12, .wo, .o, .none, 0, 0x7ffffe0, .full⟩,
  ⟨0x1100, 0x1100, 1, 2, 0x13, 4, 4, .wo, .o, .none, 0, 0, .full⟩,
  ⟨0x1101, 0x1101, 0, 0, 0x13, 4, 4, .ro, .q, .none, 0, 0, .full⟩,
  ⟨0x1101, 0x1101, 1, 5, 0x13, 4, 4, .rw, .m, .none, 0, 0, .full⟩,
  ⟨0x1110, 0x1110, 0, 0x3f, 0x41, 8, 262152, .rw, .o, .none, 0, 0, .full⟩,
  ⟨0x1110, 0x1110, 0x40, 0x40, 0x12, 2, 2, .wo, .o, .none, 0, 0, .full⟩,
  ⟨0x1110, 0x1110, 0x41, 0x41, 0x12, 2, 2, .ro, .q, .none, 0, 0, .full⟩,
  ⟨0x1200, 0x1200, 0, 0, 0x13, 4, 4, .rw, .v, .immediate, 0x40000000, 0, .full⟩,
  ⟨0x1200, 0x1200, 1, 2, 0x13, 4, 4, .ro, .q, .none, 0xffffffff, 0, .full⟩,
  ⟨0x1200, 0x1200, 3, 3, 0x13, 4, 4, .wo, .m, .none, 0, 0, .full⟩,
  ⟨0x1200, 0x1200, 4, 4, 0x13, 4, 4, .ro, .q, .none, 0, 0, .full⟩,
  ⟨0x1200, 0x1200, 5, 6, 0x13, 4, 4, .rw, .m, .none, 0, 0, .full⟩,
  ⟨0x1201, 0x1201, 0, 0xffff, 0x41, 64, 64, .ro, .q, .none, 0, 0, .full⟩,
  ⟨0x1300, 0x1300, 0, 0xf, 0x41, 24, 24, .wo, .e, .none, 0, 0x7fff00000000000000000000000000000000, .full⟩,
  ⟨0x1300, 0x1300, 0x10, 0x1f, 0x13, 4, 4, .ro, .q, .none, 0, 0, .full⟩]

/-- The rows of R500 (index range 0x2). -/
def dictTimebase : List DictRow := [
  ⟨0x2000, 0x2000, 0, 3, 0x30, 8, 8, .ro, .q, .none, 0, 0, .full⟩,
  ⟨0x2000, 0x2000, 4, 4, 0x31, 8, 8, .ro, .q, .none, 0, 0, .full⟩,
  ⟨0x2010, 0x2010, 0, 3, 0x13, 4, 4, .rw, .e, .structural, 0x84700000, 0x1003ffff, .full⟩,
  ⟨0x2010, 0x2010, 4, 7, 0x31, 8, 8, .ro, .q, .none, 0, 0, .full⟩,
  ⟨0x2100, 0x2100, 0, 9, 0x13, 4, 4, .rw, .e, .immediate, 0, 0x70000000, .full⟩,
  ⟨0x2110, 0x2110, 0, 9, 0x12, 2, 2, .rw, .e, .immediate, 0, 0x3ff0, .full⟩,
  ⟨0x2110, 0x2110, 0x10, 0x10, 0x41, 20, 20, .rw, .e, .immediate, 0, 0, .full⟩,
  ⟨0x2110, 0x2110, 0x20, 0x20, 0x41, 10, 10, .wo, .e, .none, 0, 0, .full⟩,
  ⟨0x2120, 0x2120, 0, 0, 0x13, 4, 4, .ro, .q, .none, 0x3c000000, 0, .full⟩,
  ⟨0x2120, 0x2120, 1, 1, 0x1a, 4, 4, .ro, .q, .none, 0, 0, .full⟩,
  ⟨0x2120, 0x2120, 2, 3, 0x1a, 4, 4, .ro, .q, .none, 0, 0, .full⟩,
  ⟨0x2120, 0x2120, 4, 7, 0x50, 1, 1, .ro, .q, .none, 0, 0, .full⟩,
  ⟨0x2120, 0x2120, 0x10, 0x19, 0x13, 4, 4, .ro, .q, .none, 0x10000, 0, .full⟩,
  ⟨0x2120, 0x2120, 0x20, 0x22, 0x13, 4, 4, .ro, .q, .none, 0, 0, .full⟩,
  ⟨0x2130, 0x2130, 0, 1, 0x12, 2, 2, .rw, .e, .immediate, 0, 0, .full⟩,
  ⟨0x2130, 0x2130, 2, 2, 0x1a, 4, 4, .ro, .q, .none, 0, 0, .full⟩,
  ⟨0x2130, 0x2130, 3, 3, 0x13, 4, 4, .ro, .q, .none, 0xffffffff, 0, .full⟩,
  ⟨0x2130, 0x2130, 4, 4, 0x13, 4, 4, .ro, .q, .none, 0, 0, .full⟩,
  ⟨0x2140, 0x2140, 0, 1, 0x12, 2, 2, .rw, .e, .immediate, 0, 0, .full⟩,
  ⟨0x2140, 0x2140, 2, 2, 0x10, 1, 1, .wo, .e, .none, 0, 0, .full⟩,
  ⟨0x2150, 0x2150, 0, 1, 0x13, 4, 4, .rw, .e, .immediate, 0x7f030000, 0x700000, .full⟩,
  ⟨0x2150, 0x2150, 2, 3, 0x1a, 4, 4, .rw, .m, .immediate, 0, 0, .full⟩,
  ⟨0x2150, 0x2150, 4, 5, 0x19, 2, 2, .ro, .q, .none, 0, 0, .full⟩,
  ⟨0x2200, 0x2200, 0, 0xfff, 0x41, 16, 16, .ro, .q, .none, 0, 0, .full⟩,
  ⟨0x2200, 0x2200, 0x1000, 0x1000, 0x12, 2, 2, .ro, .q, .none, 0, 0, .full⟩,
  ⟨0x2200, 0x2200, 0x1001, 0x1001, 0x12, 2, 2, .rw, .m, .none, 0, 0, .full⟩]

/-- The rows of R501 (index range 0x3). -/
def dictLanes : List DictRow := [
  ⟨0x3000, 0x3000, 0, 0xbf, 0x13, 4, 4, .rw, .e, .structural, 0x880000, 0xffff, .full⟩,
  ⟨0x3100, 0x3100, 0, 0xbf, 0x13, 4, 4, .rw, .e, .structural, 0, 0, .full⟩,
  ⟨0x3100, 0x3100, 0x100, 0x1bf, 0x13, 4, 4, .rw, .e, .structural, 0, 0, .full⟩,
  ⟨0x3100, 0x3100, 0x200, 0x25f, 0x13, 4, 4, .ro, .q, .none, 0, 0, .full⟩,
  ⟨0x3200, 0x3200, 0, 0xbf, 0x13, 4, 4, .ro, .q, .none, 0x80000000, 0, .full⟩,
  ⟨0x3300, 0x3300, 0, 0xbf, 0x13, 4, 4, .rw, .m, .immediate, 0, 0xffffff, .full⟩,
  ⟨0x3300, 0x3300, 0x100, 0x1bf, 0x13, 4, 4, .rw, .m, .immediate, 0x3c00, 0xff000000, .full⟩,
  ⟨0x3300, 0x3300, 0x200, 0x2bf, 0x41, 16, 16, .ro, .q, .none, 0, 0, .full⟩,
  ⟨0x3300, 0x3300, 0x300, 0x3bf, 0x12, 2, 2, .rw, .m, .immediate, 0xc32, 0, .full⟩,
  ⟨0x3400, 0x3400, 0, 0xbf, 0x13, 4, 4, .rw, .m, .immediate, 0, 0x7fffff, .full⟩,
  ⟨0x3400, 0x3400, 0x100, 0x4bf, 0x14, 8, 8, .rw, .m, .none, 0, 0, .lanes⟩,
  ⟨0x3400, 0x3400, 0x500, 0x9bf, 0x13, 4, 4, .rw, .m, .none, 0, 0, .lanes⟩,
  ⟨0x3500, 0x3500, 0, 0xbf, 0x43, 6, 6, .ro, .q, .none, 0, 0, .full⟩,
  ⟨0x3500, 0x3500, 0x100, 0x3bf, 0x42, 4, 4, .rw, .e, .immediate, 0, 0, .lanes⟩,
  ⟨0x3500, 0x3500, 0x400, 0x4bf, 0x13, 4, 4, .rw, .e, .immediate, 0, 0x7f, .full⟩,
  ⟨0x3500, 0x3500, 0x500, 0x5bf, 0x42, 4, 4, .rw, .e, .immediate, 0, 0, .full⟩,
  ⟨0x3500, 0x3500, 0x600, 0x8bf, 0x13, 4, 4, .rw, .m, .none, 0, 0, .lanes⟩]

/-- The rows of R502 (index range 0x4). -/
def dictIntake : List DictRow := [
  ⟨0x4000, 0x4000, 0, 0x7ff, 0x13, 4, 4, .rw, .e, .structural, 0, 0, .full⟩,
  ⟨0x4000, 0x4000, 0x800, 0xfff, 0x13, 4, 4, .rw, .e, .structural, 0, 0xff, .full⟩,
  ⟨0x4000, 0x4000, 0x1000, 0x17ff, 0x13, 4, 4, .rw, .e, .structural, 0x40000000, 0x3f0000, .full⟩,
  ⟨0x4100, 0x4100, 0, 0x7ff, 0x13, 4, 4, .rw, .e, .structural, 0x47020080, 3, .full⟩,
  ⟨0x4200, 0x4200, 0, 0x7ff, 0x13, 4, 4, .rw, .e, .structural, 0x4000000, 0xffffff, .full⟩,
  ⟨0x4200, 0x4200, 0x800, 0xfff, 0x12, 2, 2, .rw, .e, .immediate, 0xc8, 0, .full⟩,
  ⟨0x4300, 0x4300, 0, 0x7ff, 0x13, 4, 4, .ro, .q, .none, 0, 0, .full⟩,
  ⟨0x4300, 0x4300, 0x800, 0xfff, 0x1a, 4, 4, .ro, .q, .none, 0, 0, .full⟩,
  ⟨0x4300, 0x4300, 0x1000, 0x37ff, 0x13, 4, 4, .rw, .m, .none, 0, 0, .full⟩,
  ⟨0x4300, 0x4300, 0x4000, 0x47ff, 0x13, 4, 4, .ro, .q, .none, 0, 0, .full⟩,
  ⟨0x4300, 0x4300, 0x4800, 0x4fff, 0x13, 4, 4, .rw, .m, .none, 0, 0, .full⟩,
  ⟨0x4400, 0x4400, 0, 0xfff, 0x41, 32, 32, .rw, .e, .structural, 0, 0x3000000000000000000000000000fff0000000f0000ffffffffffffffffffff, .full⟩,
  ⟨0x4400, 0x4400, 0x1000, 0x1fff, 0x41, 64, 64, .ro, .q, .none, 0, 0, .full⟩,
  ⟨0x4400, 0x4400, 0x2000, 0x2fff, 0x13, 4, 4, .ro, .q, .none, 0, 0, .full⟩,
  ⟨0x4400, 0x4400, 0x3000, 0x3fff, 0x14, 8, 8, .rw, .m, .none, 0, 0, .full⟩,
  ⟨0x4400, 0x4400, 0x4000, 0x8fff, 0x13, 4, 4, .rw, .m, .none, 0, 0, .full⟩,
  ⟨0x4500, 0x4500, 0, 0x7ff, 0x13, 4, 4, .rw, .e, .structural, 0x1f40000, 0xffff, .full⟩]

/-- The rows of R503 (index range 0x5). -/
def dictFabric : List DictRow := [
  ⟨0x5000, 0x5000, 0, 0x7ff, 0x12, 2, 2, .rw, .o, (.banked .routes), 0xffff, 0, .full⟩,
  ⟨0x5010, 0x5010, 0, 0x7ff, 0x13, 4, 4, .rw, .o, .immediate, 0, 0x70ff0000, .full⟩,
  ⟨0x5100, 0x5100, 0, 0x7ff, 0x13, 4, 4, .rw, .e, .immediate, 0x3b9aca00, 0, .full⟩,
  ⟨0x5200, 0x5200, 0, 0x7ff, 0x41, 16, 16, .ro, .q, .none, 0, 0, .full⟩,
  ⟨0x5300, 0x5300, 0, 4, 0x13, 4, 4, .ro, .q, .none, 0, 0, .full⟩,
  ⟨0x5300, 0x5300, 6, 7, 0x13, 4, 4, .ro, .q, .none, 0, 0, .full⟩,
  ⟨0x5300, 0x5300, 5, 5, 0x13, 4, 4, .rw, .m, .none, 0, 0, .full⟩,
  ⟨0x5300, 0x5300, 8, 8, 0x41, 8, 8, .ro, .q, .none, 0, 0, .full⟩,
  ⟨0x5300, 0x5300, 0x1000, 0x181f, 0x13, 4, 4, .ro, .q, .none, 0, 0, .full⟩,
  ⟨0x5300, 0x5300, 0x2000, 0x281f, 0x13, 4, 4, .ro, .q, .none, 0, 0, .full⟩,
  ⟨0x5400, 0x5400, 0, 0xf, 0x13, 4, 4, .rw, .e, .structural, 0, 0x3fff, .full⟩,
  ⟨0x5400, 0x5400, 0x10, 0x1f, 0x13, 4, 4, .rw, .e, .immediate, 0x4080200, 0, .full⟩,
  ⟨0x5500, 0x5500, 0, 0, 0x13, 4, 4, .ro, .q, .none, 0xf0000, 0, .full⟩,
  ⟨0x5500, 0x5500, 1, 4, 0x13, 4, 4, .ro, .q, .none, 0, 0, .full⟩,
  ⟨0x5500, 0x5500, 5, 5, 0x13, 4, 4, .rw, .m, .none, 0xf0000, 0, .full⟩,
  ⟨0x5500, 0x5500, 6, 7, 0x13, 4, 4, .rw, .m, .none, 0, 0, .full⟩,
  ⟨0x5500, 0x5500, 8, 8, 0x41, 8, 8, .ro, .q, .none, 0, 0, .full⟩,
  ⟨0x5510, 0x5510, 0, 0x7ff, 0x13, 4, 4, .ro, .q, .none, 0, 0, .full⟩,
  ⟨0x5510, 0x5510, 0x800, 0x27ff, 0x13, 4, 4, .rw, .m, .none, 0, 0, .full⟩,
  ⟨0x5520, 0x5520, 0, 0xff, 0x13, 4, 4, .rw, .e, .structural, 0, 0x30000, .full⟩,
  ⟨0x5520, 0x5520, 0x100, 0x1ff, 0x13, 4, 4, .ro, .q, .none, 0, 0, .full⟩,
  ⟨0x5530, 0x5530, 0, 0xf, 0x13, 4, 4, .rw, .e, .structural, 0, 0x1ffe0000, .full⟩]

/-- The rows of R504 (index range 0x6). -/
def dictPlayout : List DictRow := [
  ⟨0x6000, 0x6000, 0, 0x7ff, 0x13, 4, 4, .rw, .e, .structural, 0, 0, .full⟩,
  ⟨0x6000, 0x6000, 0x800, 0xfff, 0x13, 4, 4, .rw, .e, .structural, 0, 0, .full⟩,
  ⟨0x6000, 0x6000, 0x1000, 0x17ff, 0x13, 4, 4, .rw, .e, .structural, 0xc0000000, 0x3f0000, .full⟩,
  ⟨0x6000, 0x6000, 0x1800, 0x1fff, 0x12, 2, 2, .rw, .o, .immediate, 0xf0, 0, .full⟩,
  ⟨0x6100, 0x6100, 0, 0x7ff, 0x13, 4, 4, .rw, .e, .structural, 0x47000000, 0xfffff, .full⟩,
  ⟨0x6200, 0x6200, 0, 0x7ff, 0x1a, 4, 4, .rw, .e, .structural, 0, 0, .full⟩,
  ⟨0x6300, 0x6300, 0, 0xfff, 0x41, 32, 32, .rw, .e, .structural, 0, 0x10000000000000000000000000007ff0000000f0000001f00000000ffffffff, .full⟩,
  ⟨0x6300, 0x6300, 0x1000, 0x1fff, 0x41, 64, 64, .ro, .q, .none, 0, 0, .full⟩,
  ⟨0x6300, 0x6300, 0x2000, 0x2fff, 0x13, 4, 4, .ro, .q, .none, 0, 0, .full⟩,
  ⟨0x6300, 0x6300, 0x3000, 0x3fff, 0x14, 8, 8, .rw, .m, .none, 0, 0, .full⟩,
  ⟨0x6300, 0x6300, 0x4000, 0x4fff, 0x13, 4, 4, .rw, .m, .none, 0, 0, .full⟩,
  ⟨0x6400, 0x6400, 0, 0x7ff, 0x13, 4, 4, .ro, .q, .none, 0, 0, .full⟩,
  ⟨0x6400, 0x6400, 0x800, 0x1fff, 0x13, 4, 4, .rw, .m, .none, 0, 0, .full⟩]

/-- The rows of R505 (index range 0x7). -/
def dictAudio : List DictRow := [
  ⟨0x7000, 0x7000, 0, 0xbfff, 0x12, 2, 2, .rw, .o, (.banked .audio), 0xffff, 0, .full⟩,
  ⟨0x7100, 0x7100, 0, 0xbfff, 0x21, 2, 2, .rw, .o, (.banked .audio), 0, 0, .full⟩,
  ⟨0x7200, 0x7200, 0, 0, 0x11, 1, 1, .rw, .o, (.banked .spool), 0xff, 0, .full⟩,
  ⟨0x7200, 0x7200, 1, 1, 0x12, 2, 2, .rw, .o, .immediate, 0, 0, .full⟩,
  ⟨0x7200, 0x7200, 2, 3, 0x41, 16, 16, .ro, .q, .none, 0, 0, .full⟩,
  ⟨0x7200, 0x7200, 4, 5, 0x13, 4, 4, .ro, .q, .none, 0, 0, .full⟩,
  ⟨0x7200, 0x7200, 6, 6, 0x11, 1, 1, .wo, .e, .none, 0, 0, .full⟩,
  ⟨0x7200, 0x7200, 0x10, 0x10, 0x13, 4, 4, .ro, .q, .none, 0, 0, .full⟩,
  ⟨0x7200, 0x7200, 0x11, 0x13, 0x13, 4, 4, .rw, .m, .none, 0, 0, .full⟩,
  ⟨0x7210, 0x7210, 0, 1, 0x41, 328, 8654920, .wo, .e, .none, 0, 0, .full⟩,
  ⟨0x7220, 0x7220, 0, 0xffff, 0x1a, 4, 4, .rw, .o, .immediate, 0, 0, .full⟩,
  ⟨0x7221, 0x7221, 0, 0xffff, 0x1a, 4, 4, .rw, .o, .immediate, 0, 0, .full⟩,
  ⟨0x7230, 0x7230, 0, 0x3ff, 0x13, 4, 4, .ro, .q, .none, 0xc7c0c7c0, 0, .full⟩,
  ⟨0x7300, 0x7300, 0, 0xf, 0x13, 4, 4, .rw, .e, .structural, 0, 0x3fffff, .full⟩,
  ⟨0x7300, 0x7300, 0x10, 0x1f, 0x13, 4, 4, .rw, .e, .structural, 0, 0, .full⟩,
  ⟨0x7300, 0x7300, 0x100, 0x10f, 0x13, 4, 4, .ro, .q, .none, 0, 0, .full⟩,
  ⟨0x7300, 0x7300, 0x200, 0x20f, 0x13, 4, 4, .rw, .m, .none, 0, 0, .full⟩,
  ⟨0x7310, 0x7310, 0, 0x17, 0x13, 4, 4, .rw, .e, .structural, 0, 0x3f80000, .full⟩,
  ⟨0x7310, 0x7310, 0x100, 0x117, 0x13, 4, 4, .ro, .q, .none, 0, 0, .full⟩,
  ⟨0x7310, 0x7310, 0x200, 0x217, 0x13, 4, 4, .rw, .m, .none, 0, 0, .full⟩,
  ⟨0x7310, 0x7310, 0x300, 0x317, 0x13, 4, 4, .rw, .m, .none, 0, 0, .full⟩,
  ⟨0x7400, 0x7400, 0, 0xbfff, 0x13, 4, 4, .ro, .q, .none, 0, 0, .full⟩,
  ⟨0x7400, 0x7400, 0xc000, 0xdfff, 0x41, 16, 16, .ro, .q, .none, 0, 0, .full⟩,
  ⟨0x7400, 0x7400, 0xe000, 0xe006, 0x12, 2, 2, .ro, .q, .none, 0, 0, .full⟩,
  ⟨0x7400, 0x7400, 0xe010, 0xe010, 0x12, 2, 2, .rw, .o, .immediate, 0xf0, 0, .full⟩,
  ⟨0x7400, 0x7400, 0xe011, 0xe011, 0x12, 2, 2, .rw, .o, .immediate, 5, 0, .full⟩,
  ⟨0x7410, 0x7410, 0, 0xbfff, 0x12, 2, 2, .rw, .e, .structural, 0, 0, .full⟩,
  ⟨0x7420, 0x7420, 0, 0xbfff, 0x13, 4, 4, .rw, .o, .immediate, 0, 0, .full⟩,
  ⟨0x7500, 0x7500, 0, 0xbfff, 0x12, 2, 2, .rw, .e, .immediate, 0, 0x3f00, .full⟩,
  ⟨0x7600, 0x7600, 0, 0x3f, 0x41, 16, 16, .rw, .o, .immediate, 0, 0x30000000000000000000000000000, .full⟩,
  ⟨0x7700, 0x7700, 0, 0xbfff, 0x11, 1, 1, .rw, .o, .immediate, 0, 0, .full⟩,
  ⟨0x7701, 0x7701, 0, 0xbfff, 0x11, 1, 1, .rw, .o, .immediate, 0, 0, .full⟩,
  ⟨0x7710, 0x7710, 0, 0xbfff, 0x13, 4, 4, .ro, .q, .none, 0xc7c0c7c0, 0, .full⟩,
  ⟨0x7711, 0x7711, 0, 0xbfff, 0x13, 4, 4, .ro, .q, .none, 0xc7c0c7c0, 0, .full⟩]

/-- The rows of R506 (index range 0x8). -/
def dictCompositor : List DictRow := [
  ⟨0x8000, 0x8000, 0, 0xf, 0x13, 4, 4, .rw, .e, .structural, 0x8e02000, 0x7f, .full⟩,
  ⟨0x8000, 0x8000, 0x10, 0x1f, 0x13, 4, 4, .rw, .o, (.banked .compositor), 0x80000000, 0x40000000, .full⟩,
  ⟨0x8000, 0x8000, 0x20, 0x2f, 0x13, 4, 4, .ro, .q, .none, 0, 0, .full⟩,
  ⟨0x8000, 0x8000, 0x30, 0x3f, 0x14, 8, 8, .rw, .o, .immediate, 0, 0, .full⟩,
  ⟨0x8000, 0x8000, 0x40, 0x4f, 0x41, 16384, 16384, .rw, .o, .immediate, 0, 0, .full⟩,
  ⟨0x8000, 0x8000, 0x50, 0x5f, 0x13, 4, 4, .rw, .o, (.banked .compositor), 0, 0, .full⟩,
  ⟨0x8000, 0x8000, 0x1000, 0x13ff, 0x41, 16, 16, .rw, .o, (.banked .compositor), 0, 0xf00000000000000003f000000ffffff, .full⟩,
  ⟨0x8000, 0x8000, 0x2000, 0x203f, 0x14, 8, 8, .rw, .o, .immediate, 0, 0x40ff0000000000ff, .full⟩,
  ⟨0x8100, 0x84ff, 0, 0, 0x13, 4, 4, .rw, .o, (.banked .compositor), 0xc0000, 0x700f000, .full⟩,
  ⟨0x8100, 0x84ff, 1, 2, 0x14, 8, 8, .rw, .o, (.banked .compositor), 0, 0, .full⟩,
  ⟨0x8100, 0x84ff, 3, 3, 0x13, 4, 4, .rw, .o, (.banked .compositor), 0xff0000, 0, .full⟩,
  ⟨0x8100, 0x84ff, 4, 4, 0x13, 4, 4, .rw, .o, (.banked .compositor), 0x3ac80200, 0, .full⟩,
  ⟨0x8100, 0x84ff, 5, 5, 0x13, 4, 4, .rw, .o, (.banked .compositor), 0, 0, .full⟩,
  ⟨0x8100, 0x84ff, 0x10, 0x18, 0x20, 4, 4, .rw, .o, (.banked .compositor), 0x10000, 0, .full⟩,
  ⟨0x8100, 0x84ff, 0x19, 0x1b, 0x19, 2, 2, .rw, .o, (.banked .compositor), 0, 0, .full⟩,
  ⟨0x8100, 0x84ff, 0x100, 0x100, 0x13, 4, 4, .ro, .q, .none, 0, 0, .full⟩,
  ⟨0x8100, 0x84ff, 0x101, 0x101, 0x13, 4, 4, .rw, .m, .none, 0, 0, .full⟩,
  ⟨0x8800, 0x8800, 0, 0x1fff, 0x19, 2, 2, .rw, .o, (.banked .coefficients), 0, 0, .full⟩,
  ⟨0x8821, 0x883f, 0, 0xbff, 0x12, 2, 2, .rw, .o, .immediate, 0, 0, .full⟩,
  ⟨0x8900, 0x8900, 0, 0x3f, 0x13, 4, 4, .ro, .q, .none, 0, 0, .full⟩,
  ⟨0x8900, 0x8900, 0x100, 0x13f, 0x41, 13, 41472008, .wo, .o, .none, 0, 0, .full⟩,
  ⟨0x8900, 0x8900, 0x140, 0x140, 0x41, 8, 8, .wo, .o, .none, 0, 0, .full⟩,
  ⟨0x8900, 0x8900, 0x141, 0x141, 0x11, 1, 1, .wo, .o, .none, 0, 0, .full⟩,
  ⟨0x8900, 0x8900, 0x200, 0x200, 0x41, 24, 24, .wo, .o, .none, 0, 0xffffffffff, .full⟩,
  ⟨0x8900, 0x8900, 0x201, 0x201, 0x13, 4, 4, .ro, .q, .none, 0, 0, .full⟩]

/-- The rows of R507 (index range 0x9). -/
def dictPair : List DictRow := [
  ⟨0x9000, 0x9000, 0, 0, 0x13, 4, 4, .rw, .e, .structural, 0x40000000, 0x3fffffff, .full⟩,
  ⟨0x9000, 0x9000, 1, 1, 0x13, 4, 4, .wo, .m, .none, 0, 0, .full⟩,
  ⟨0x9000, 0x9000, 2, 2, 0x1a, 4, 4, .rw, .m, .immediate, 0, 0, .full⟩,
  ⟨0x9010, 0x9010, 0, 0, 0x13, 4, 4, .ro, .q, .none, 0, 0, .full⟩,
  ⟨0x9010, 0x9010, 1, 1, 0x41, 16, 16, .ro, .q, .none, 0, 0, .full⟩,
  ⟨0x9010, 0x9010, 8, 8, 0x41, 16, 16, .ro, .q, .none, 0, 0, .full⟩,
  ⟨0x9010, 0x9010, 2, 7, 0x13, 4, 4, .rw, .m, .none, 0, 0, .full⟩,
  ⟨0x9020, 0x9020, 0, 0, 0x13, 4, 4, .rw, .e, .immediate, 0x81080000, 0xffff, .full⟩,
  ⟨0x9030, 0x9030, 0, 0, 0x41, 10, 10, .wo, .e, .none, 0, 0, .full⟩,
  ⟨0x9030, 0x9030, 1, 1, 0x13, 4, 4, .ro, .q, .none, 0, 0, .full⟩,
  ⟨0x9040, 0x9040, 0, 0, 0x41, 24, 1048, .wo, .m, .none, 0, 0, .full⟩]

/-- The rows of R507 (index range 0xA). -/
def dictTether : List DictRow := [
  ⟨0xa000, 0xa000, 0, 0, 0x12, 2, 2, .rw, .e, .structural, 0, 0, .full⟩,
  ⟨0xa010, 0xa010, 0, 0, 0x13, 4, 4, .rw, .e, .structural, 0, 0x3fffff, .full⟩,
  ⟨0xa010, 0xa010, 1, 3, 0x12, 2, 2, .ro, .q, .none, 0, 0, .full⟩,
  ⟨0xa020, 0xa020, 0, 0xff, 0x12, 2, 2, .rw, .e, .immediate, 0xffff, 0, .full⟩,
  ⟨0xa100, 0xa100, 0, 7, 0x13, 4, 4, .rw, .e, .structural, 0, 0x7ffff, .full⟩,
  ⟨0xa100, 0xa100, 0x100, 0x107, 0x13, 4, 4, .ro, .q, .none, 0, 0, .full⟩,
  ⟨0xa100, 0xa100, 0x200, 0x20f, 0x13, 4, 4, .ro, .q, .none, 0, 0, .full⟩,
  ⟨0xa100, 0xa100, 0x300, 0x317, 0x13, 4, 4, .ro, .q, .none, 0, 0, .full⟩,
  ⟨0xa100, 0xa100, 0x400, 0x407, 0x1a, 4, 4, .rw, .m, .immediate, 0, 0, .full⟩,
  ⟨0xa100, 0xa100, 0x500, 0x50f, 0x13, 4, 4, .rw, .m, .none, 0, 0, .full⟩,
  ⟨0xa200, 0xa200, 0, 0x7ff, 0x41, 16, 16, .ro, .q, .none, 0, 0, .full⟩]

/-- The rows of R508 (index range 0xB). -/
def dictIntegrity : List DictRow := [
  ⟨0xb000, 0xb000, 0, 0x1ff, 0x13, 4, 4, .rw, .e, .immediate, 0, 0x7ffffff, .full⟩,
  ⟨0xb010, 0xb010, 0, 0x1ff, 0x13, 4, 4, .rw, .m, .none, 0, 0x1f000000, .full⟩,
  ⟨0xb020, 0xb020, 0, 0x1ff, 0x10, 1, 1, .wo, .m, .none, 0, 0, .full⟩,
  ⟨0xb100, 0xb100, 0, 0x1f, 0x41, 32, 32, .ro, .q, .none, 0, 0, .full⟩,
  ⟨0xb100, 0xb100, 0x20, 0x20, 0x11, 1, 1, .ro, .q, .none, 0, 0, .full⟩,
  ⟨0xb110, 0xb110, 0, 0, 0x41, 32, 32, .ro, .q, .none, 0, 0, .full⟩,
  ⟨0xb200, 0xb200, 0, 0x3f, 0x13, 4, 4, .rw, .m, .none, 0, 0, .full⟩,
  ⟨0xb200, 0xb200, 0x100, 0x10f, 0x41, 16, 16, .ro, .q, .none, 0, 0, .full⟩,
  ⟨0xb300, 0xb300, 0, 0x1f, 0x13, 4, 4, .ro, .q, .none, 0xffffffff, 0, .full⟩,
  ⟨0xb400, 0xb400, 0, 0, 0x13, 4, 4, .rw, .m, .immediate, 0, 0x1fffffff, .full⟩,
  ⟨0xb400, 0xb400, 1, 1, 0x41, 10, 10, .wo, .m, .none, 0, 0, .full⟩,
  ⟨0xb400, 0xb400, 2, 2, 0x13, 4, 4, .ro, .q, .none, 0, 0, .full⟩]

/-- The rows of R508 (index range 0xC). -/
def dictField : List DictRow := [
  ⟨0xc000, 0xc000, 0, 0x1f, 0x13, 4, 4, .rw, .e, .structural, 0, 0xfff, .full⟩,
  ⟨0xc100, 0xc100, 0, 0x1f, 0x41, 16, 16, .rw, .e, .immediate, 0, 0x3ff000f0000000fffffffffffffffff, .full⟩,
  ⟨0xc200, 0xc200, 0, 0x1f, 0x13, 4, 4, .ro, .q, .none, 0, 0, .full⟩,
  ⟨0xc300, 0xc300, 0, 0x1f, 0x13, 4, 4, .rw, .m, .none, 0, 0, .full⟩,
  ⟨0xc400, 0xc400, 0, 0, 0x13, 4, 4, .ro, .q, .none, 0, 0, .full⟩]

/-- The rows of R508 (index range 0xD). -/
def dictBoot : List DictRow := [
  ⟨0xd000, 0xd000, 0, 1, 0x41, 32, 32, .ro, .q, .none, 0, 0, .full⟩,
  ⟨0xd001, 0xd001, 0, 0, 0x41, 10, 10, .ro, .q, .none, 0, 0, .full⟩,
  ⟨0xd010, 0xd010, 0, 0, 0x13, 4, 4, .wo, .m, .none, 0, 0, .full⟩,
  ⟨0xd010, 0xd010, 1, 1, 0x13, 4, 4, .ro, .q, .none, 0, 0, .full⟩,
  ⟨0xd020, 0xd020, 0, 0, 0x41, 1, 64, .wo, .m, .none, 0, 0, .full⟩,
  ⟨0xd020, 0xd020, 1, 1, 0x13, 4, 4, .ro, .q, .none, 0, 0, .full⟩,
  ⟨0xd030, 0xd030, 0, 0, 0x13, 4, 4, .rw, .m, .immediate, 0, 0, .full⟩,
  ⟨0xd030, 0xd030, 1, 1, 0x11, 1, 1, .wo, .m, .none, 0, 0, .full⟩]

/-- The rows of R508 (index range 0xE). -/
def dictSecurity : List DictRow := [
  ⟨0xe000, 0xe000, 0, 0, 0x50, 1, 1, .ro, .q, .none, 0, 0, .full⟩,
  ⟨0xe000, 0xe000, 1, 1, 0x13, 4, 4, .ro, .q, .none, 0, 0, .full⟩,
  ⟨0xe000, 0xe000, 2, 2, 0x41, 32, 32, .ro, .q, .none, 0, 0, .full⟩,
  ⟨0xe010, 0xe010, 0, 0xf, 0x41, 64, 64, .wo, .k, .immediate, 0, 0, .full⟩,
  ⟨0xe010, 0xe010, 0x10, 0x10, 0x12, 2, 2, .ro, .q, .none, 0, 0, .full⟩]

/-- The rows whose indices lie in range 0xr000-0xrFFF. -/
def dictRange (r : Nat) : List DictRow :=
  match r with
  | 0 => dictIdentity
  | 1 => dictControl
  | 2 => dictTimebase
  | 3 => dictLanes
  | 4 => dictIntake
  | 5 => dictFabric
  | 6 => dictPlayout
  | 7 => dictAudio
  | 8 => dictCompositor
  | 9 => dictPair
  | 10 => dictTether
  | 11 => dictIntegrity
  | 12 => dictField
  | 13 => dictBoot
  | 14 => dictSecurity
  | _ => []

/-- Whether a row's span holds sub-index `sub`, its gaps apart (R488). -/
def DictRow.hasSub (r : DictRow) (sub : Nat) : Bool :=
  decide (r.subLo ≤ sub) && decide (sub ≤ r.subHi) &&
    match r.gap with
    | .full => true
    | .lanes => decide (sub % 256 < 192)
    | .counters => decide (sub % 16 ≤ 12)

/-- Whether the device decodes an index at all (R488). -/
def indexExists (idx : Nat) : Bool :=
  (dictRange (idx / 4096)).any fun r => decide (r.idxLo ≤ idx) && decide (idx ≤ r.idxHi)

/-- The row of an element, none where the device does not decode it (R488). -/
def dictRow (idx sub : Nat) : Option DictRow :=
  (dictRange (idx / 4096)).find? fun r => decide (r.idxLo ≤ idx) && decide (idx ≤ r.idxHi) && r.hasSub sub

/-- The bank of an element, none where it is not banked (R235). -/
def bankOf (idx sub : Nat) : Option Bank :=
  match dictRow idx sub with
  | some r => match r.attr with
    | .banked b => some b
    | _ => none
  | none => none

/-- The scope bit of a bank (R235). -/
def Bank.num : Bank → Nat
  | .routes => 0 | .audio => 1 | .compositor => 2 | .spool => 3 | .coefficients => 4

/-- The five banks, in scope-bit order. -/
def allBanks : List Bank := [.routes, .audio, .compositor, .spool, .coefficients]

/-- What a FATAL declaration of a source stops (R557). -/
inductive Implicates where
  | all | none | flow | lane | port | stack | spool | exair | word
deriving DecidableEq, Repr

/-- One fault source (R558): number, class (0 NOTE, 1 ALARM, 2 FATAL), FIXED, MEDIA, LOG, what it implicates. -/
structure FaultRow where
  num : Nat
  cls : Nat
  fixed : Bool
  media : Bool
  log : Bool
  implicates : Implicates
deriving DecidableEq, Repr

/-- The fault sources of R558. -/
def faultRows : List FaultRow := [
  ⟨0x000, 2, true, false, true, .all⟩,
  ⟨0x001, 2, true, false, true, .all⟩,
  ⟨0x002, 2, true, false, true, .all⟩,
  ⟨0x003, 2, true, false, true, .exair⟩,
  ⟨0x004, 1, false, false, true, .none⟩,
  ⟨0x005, 1, false, false, true, .none⟩,
  ⟨0x006, 1, false, false, true, .none⟩,
  ⟨0x007, 1, false, false, true, .none⟩,
  ⟨0x008, 2, true, false, true, .all⟩,
  ⟨0x009, 1, false, false, true, .none⟩,
  ⟨0x00A, 1, false, false, true, .none⟩,
  ⟨0x00B, 2, true, false, true, .none⟩,
  ⟨0x00C, 1, false, false, true, .none⟩,
  ⟨0x00D, 0, false, false, true, .none⟩,
  ⟨0x00E, 2, true, false, true, .word⟩,
  ⟨0x00F, 0, false, false, false, .none⟩,
  ⟨0x010, 0, false, false, true, .none⟩,
  ⟨0x011, 1, false, false, true, .none⟩,
  ⟨0x012, 0, false, false, true, .none⟩,
  ⟨0x013, 0, false, false, true, .none⟩,
  ⟨0x020, 0, false, false, true, .none⟩,
  ⟨0x021, 1, false, false, true, .none⟩,
  ⟨0x022, 1, false, false, true, .none⟩,
  ⟨0x023, 0, false, false, true, .none⟩,
  ⟨0x024, 0, false, false, true, .none⟩,
  ⟨0x040, 0, false, true, true, .lane⟩,
  ⟨0x041, 0, false, true, true, .lane⟩,
  ⟨0x042, 0, false, true, true, .lane⟩,
  ⟨0x043, 0, false, true, true, .lane⟩,
  ⟨0x044, 0, false, false, true, .lane⟩,
  ⟨0x045, 0, false, true, true, .lane⟩,
  ⟨0x046, 1, false, false, true, .port⟩,
  ⟨0x047, 1, false, true, true, .lane⟩,
  ⟨0x048, 1, false, true, true, .lane⟩,
  ⟨0x060, 0, false, true, true, .flow⟩,
  ⟨0x061, 0, false, true, true, .flow⟩,
  ⟨0x062, 0, false, true, true, .flow⟩,
  ⟨0x063, 0, false, true, true, .flow⟩,
  ⟨0x064, 0, false, true, true, .flow⟩,
  ⟨0x065, 0, false, true, true, .flow⟩,
  ⟨0x066, 0, false, false, true, .flow⟩,
  ⟨0x067, 0, false, true, true, .flow⟩,
  ⟨0x068, 0, false, false, true, .flow⟩,
  ⟨0x080, 0, false, true, true, .flow⟩,
  ⟨0x081, 0, false, true, true, .flow⟩,
  ⟨0x082, 0, false, false, true, .flow⟩,
  ⟨0x083, 0, false, true, true, .flow⟩,
  ⟨0x084, 1, false, true, true, .none⟩,
  ⟨0x085, 0, false, false, true, .none⟩,
  ⟨0x0A0, 1, false, true, true, .stack⟩,
  ⟨0x0A1, 2, true, true, true, .stack⟩,
  ⟨0x0C0, 0, false, true, true, .none⟩,
  ⟨0x0C1, 0, false, true, true, .none⟩,
  ⟨0x0C2, 2, true, true, true, .spool⟩,
  ⟨0x0C3, 1, false, true, true, .spool⟩,
  ⟨0x0C4, 1, false, true, true, .none⟩,
  ⟨0x0E0, 0, false, true, true, .none⟩,
  ⟨0x100, 1, false, false, true, .none⟩,
  ⟨0x101, 1, false, false, true, .none⟩,
  ⟨0x102, 1, false, false, true, .none⟩,
  ⟨0x103, 1, false, false, true, .none⟩,
  ⟨0x104, 1, false, false, true, .none⟩,
  ⟨0x120, 1, false, false, true, .port⟩,
  ⟨0x121, 1, false, false, true, .port⟩,
  ⟨0x122, 1, false, true, true, .port⟩,
  ⟨0x123, 1, false, true, true, .port⟩,
  ⟨0x140, 1, false, false, true, .exair⟩,
  ⟨0x141, 1, false, false, true, .exair⟩,
  ⟨0x142, 0, false, false, true, .exair⟩,
  ⟨0x143, 1, false, false, true, .exair⟩,
  ⟨0x144, 1, false, false, true, .exair⟩,
  ⟨0x145, 1, false, false, true, .none⟩,
  ⟨0x160, 0, false, false, true, .none⟩,
  ⟨0x161, 0, false, false, true, .none⟩,
  ⟨0x162, 2, true, false, true, .none⟩]

/-- A fault source's row, none for a reserved number (R552). -/
def faultRow (n : Nat) : Option FaultRow := faultRows.find? fun r => r.num == n

/-- The reset value of 0xB000:n (R552). -/
def faultConfigReset (n : Nat) : Word :=
  match faultRow n with
  | some r => r.cls * 2 ^ 30 + ofBool r.fixed * 2 ^ 29 + ofBool r.media * 2 ^ 28 + ofBool r.log * 2 ^ 27
  | none => 0

/-- The bilinear reset of the scaler coefficients (R362): taps 3 and 4 horizontally, taps 2 and 3 vertically. -/
def scalerReset (sub : Nat) : Word :=
  let phase := sub / 8 % 64
  let tap := sub % 8
  let first := if sub / 512 % 2 = 0 then 3 else 2
  if tap = first then 16384 - 256 * phase else if tap = first + 1 then 256 * phase else 0

/-- The identity look-up table (R361): entry e is round(e * 65,535 / 1,023). -/
def lutReset (sub : Nat) : Word := (sub % 1024 * 65535 * 2 + 1023) / 2046

/-- The reset value of an element (the Default column of R495-R508); NODE_SEL stands for zero here and is written at
each release (R520). -/
def dictReset (idx sub : Nat) : Word :=
  if idx = 0x1010 ∧ sub < 6 then
    (if sub = 1 ∨ sub = 2 then 0xFFFF01A2 else if sub = 3 then 0xFFFF3FFE else 0xFFFFFFFF)
  else if idx = 0x2010 ∧ sub < 4 then (if sub = 0 then 0x84700000 else 0x04800000)
  else if idx = 0x2100 ∧ sub < 10 then
    (if sub < 2 then 0x80286400 else if sub < 4 then 0x80280A00 else if sub < 6 then 0x80280100
     else if sub < 8 then 0x802801FF else 0x8029F400)
  else if idx = 0x2110 ∧ sub < 10 then
    [0xC000, 0xC001, 0xC006, 0xC007, 0xC002, 0xC003, 0xC004, 0xC005, 0, 0].getD sub 0
  else if idx = 0x2130 ∧ sub < 2 then (if sub = 0 then 60 else 10)
  else if idx = 0x2140 ∧ sub < 2 then (if sub = 0 then 50 else 100)
  else if 0x8100 ≤ idx ∧ idx ≤ 0x84FF ∧ 0x10 ≤ sub ∧ sub ≤ 0x18 then
    (if sub = 0x10 ∨ sub = 0x14 ∨ sub = 0x18 then 0x10000 else 0)
  else if idx = 0x8800 then scalerReset sub
  else if 0x8821 ≤ idx ∧ idx ≤ 0x883F then lutReset sub
  else if idx = 0xB000 then faultConfigReset sub
  else match dictRow idx sub with
    | some r => r.reset
    | none => 0

/-- The key of element idx:sub in the element stores. -/
def ekey (idx sub : Nat) : Nat := idx * 65536 + sub

/-- The reset value of the element with key `k`. -/
def keyReset (k : Nat) : Word := dictReset (k / 65536) (k % 65536)

end Sys2Proof.Machine
end

