-- ==== Sys2Proof/Machine/Store.lean ====
section
/-! DEFINITION. Sparse maps in one canonical form: keys strictly rising, and no entry equal to what an unlisted key
reads as. Every table of the device that has one entry for each of many numbered things is held in one of these. -/

namespace Sys2Proof.Machine

/-- A sparse table: (key, entry) pairs, keys strictly rising. -/
abbrev SMap (α : Type) := List (Nat × α)

/-- What key `k` holds; `d` gives what an unlisted key holds. -/
def mapGet {α : Type} (d : Nat → α) : SMap α → Nat → α
  | [], k => d k
  | (k', v) :: m, k => if k = k' then v else mapGet d m k

/-- The table with key `k` removed. -/
def mapErase {α : Type} : SMap α → Nat → SMap α
  | [], _ => []
  | (k', v) :: m, k => if k = k' then mapErase m k else (k', v) :: mapErase m k

/-- The table with `(k, v)` put in its place, whatever `v` is. -/
def mapPut {α : Type} : SMap α → Nat → α → SMap α
  | [], k, v => [(k, v)]
  | (k', v') :: m, k, v =>
    if k < k' then (k, v) :: (k', v') :: m
    else if k = k' then (k, v) :: m
    else (k', v') :: mapPut m k v

/-- The table with key `k` holding `v`; writing what an unlisted key holds removes the entry. -/
def mapSet {α : Type} [DecidableEq α] (d : Nat → α) (m : SMap α) (k : Nat) (v : α) : SMap α :=
  if v = d k then mapErase m k else mapPut m k v

/-- Every key is above `b`. -/
def keysAbove {α : Type} (b : Nat) (m : SMap α) : Prop := ∀ e ∈ m, b < e.1

/-- The canonical form: keys strictly rising and no entry equal to what an unlisted key holds. -/
def mapWf {α : Type} [DecidableEq α] (d : Nat → α) : SMap α → Bool
  | [] => true
  | (k, v) :: m => decide (v ≠ d k) && m.all (fun e => decide (k < e.1)) && mapWf d m

/-- The table with entry `k` changed by `f`. -/
def mapMod {α : Type} [DecidableEq α] (d : Nat → α) (m : SMap α) (k : Nat) (f : α → α) : SMap α :=
  mapSet d m k (f (mapGet d m k))

/-- The table with every entry changed by `f`. -/
def mapAll {α : Type} [DecidableEq α] (d : Nat → α) (f : Nat → α → α) (m : SMap α) : SMap α :=
  (m.map fun e => (e.1, f e.1 e.2)).filter fun e => decide (e.2 ≠ d e.1)

end Sys2Proof.Machine
end

