-- ==== Sys2Proof/Machine/State.lean ====
section
/-! DEFINITION. The state of the device: every register, table, queue, timer, mode and pin the spec names, as plain
data, with the queue of waiting commands; and the state after reset. Elements of the object dictionary that are plain
registers stand in `State.dict`, keyed by index and sub-index; everything else has a field of its own. -/

namespace Sys2Proof.Machine

/-- The operating modes (R497, R510). -/
inductive Mode where
  | dormant | boot | service | solo | active | standby | faulted | frozen
deriving DecidableEq, Repr

/-- The Ethernet, IPv4 and UDP header fields of a sent media packet (R160, R161, R170): `tag` is its 802.1Q tag (0: none,
else PCP in [14:12] and VID in [11:0]). -/
structure NetHead where
  lane : Nat
  dstMac : Nat
  srcMac : Nat
  tag : Nat
  dscp : Nat
  ttl : Nat
  src : Nat
  dst : Nat
  srcPort : Nat
  dstPort : Nat
deriving DecidableEq, Repr

/-- The RTP header of a sent packet (R190). -/
structure RtpHead where
  version : Nat := 2
  padding : Bool := false
  extension : Bool := false
  csrcs : Nat := 0
  marker : Bool
  pt : Nat
  seq : Nat
  timestamp : Nat
  ssrc : Nat
deriving DecidableEq, Repr

/-- What the device puts on its pins, lanes and ports in one step. The list is emptied when the next command starts. -/
inductive Emission where
  /-- A REPLY or NOTIFY frame sent to a port, with the MAC address it goes to (R454, R457). -/
  | dumus (port : Port) (dst : Nat) (frame : List Byte)
  /-- Bytes shifted out at the card port (R467). -/
  | card (data : List Byte)
  /-- A bridle record of 256 bits (R419), with the bytes that continue it. -/
  | bridle (record : Word) (more : List Byte)
  /-- A tether control record of 256 bits on a port (R391), with the bytes that continue it. -/
  | tether (port : Nat) (record : Word) (more : List Byte)
  /-- HELLO, RESERVE and CASCADE records on a tether port (R390, R400, R408), whose body layout the spec leaves open. -/
  | hello (port : Nat) (h : Hello)
  | reserve (port : Nat) (m : ReserveMsg)
  | cascade (port : Nat) (m : CascadeMsg)
  /-- The blocks of cells that leave by a tether port, each with its header bit (R391). -/
  | blocks (port : Nat) (blocks : List (Bool × Word))
  /-- STREAM_STATE of a label (R398). -/
  | streamState (port label : Nat) (state : Word)
  /-- An Ethernet frame's payload handed to a lane (ARP, IGMP, PTP), with its destination and source MAC addresses and its
  802.1Q tag (0: none, else PCP in [14:12] and VID in [11:0]). -/
  | ethernet (lane dst src vlan etherType : Nat) (data : List Byte)
  /-- A packet of a send entry on a path (R170, R172, R190): what its Ethernet, IPv4 and UDP headers say, its RTP header, its
  RTP payload. -/
  | rtp (entry path : Nat) (net : NetHead) (head : RtpHead) (payload : List Byte)
  /-- A line of an SDI output link: line number, picture words, ancillary packets, embedded samples, metadata of its
  payload ID, and the 10-bit words of the whole line as they are sent (R152). -/
  | sdiLine (output link line : Nat) (picture : List Nat) (anc : List AncPkt) (audio : List (List Nat)) (pid : Nat)
      (words : List Nat)
  /-- A pulse on a pin (R92): 0 PPS_OUT, 1 FRAME_OUT, with its length in ns. -/
  | pulse (pin : Nat) (ns : Nat)
  /-- A frame on the pins of a serial audio port (R301, R302): FS and DOUT in each BCLK period from the FS edge on, and whether
  data are launched on the falling edge. -/
  | serial (port : Nat) (falling : Bool) (pins : List (Bool × Bool))
  /-- A frame of subframes on an Exair audio port (R306): 32 bits each, time slots 0-3 as a block start in bit 3, channel B in bit 2,
  the audio word in [27:4], V, U, C and P in [31:28]. -/
  | audio (port : Nat) (subframes : List Nat)
  /-- The levels a tether or bridle lane sent from its last marker to this one, its comma and itself with them (R113-R119);
  and the training bursts of an idle exit (R125). -/
  | marker (lane : Nat) (word : Word) (levels : List Nat)
  | training (lane : Nat) (bursts : Nat) (levels : List Nat)
  /-- From here on a lane sends a pattern, by its code (0: none), inverted under TX_INVERT; and one bit error in it (R128). -/
  | pattern (lane code : Nat) (inverted : Bool)
  | bitError (lane : Nat)
  /-- What a lane in far-end loopback received, sent on (R128): an SDI line, a packet, or line levels. -/
  | farLine (lane : Nat) (line : SdiLine)
  | farPacket (lane : Nat) (packet : Packet)
  | farLevels (lane : Nat) (levels : List Nat)
  /-- A data register's value at TDO, most significant byte first (R566), and bits of the capture stream (R567). -/
  | tdo (data : List Byte)
  | stream (bits : List Bool)
deriving DecidableEq, Repr

/-- A pending re-origin step of a plane (R45): b, b', the new origin time, the new ORIGIN code, and the step of device time
taken at b' (R48); whether it is the plane's first lock step (R44) and not a REORIGIN, and whether the source whose timeline
the plane inherits makes the step of device time with it (R47). -/
structure Reorigin where
  b : Rat
  b' : Rat
  origin : Rat
  kind : Nat
  stepNs : Rat
  first : Bool := false
  carried : Bool := false
deriving DecidableEq, Repr

/-- A timing plane (R37-R48), its configuration word apart: origin time in ns of device time, whether it has had its
first lock, the pending step, whether its outputs stand between b and b'. -/
structure Plane where
  origin : Rat := 0
  hadLock : Bool := false
  step : Option Reorigin := none
  gap : Bool := false
deriving DecidableEq, Repr

/-- An entry of the event queue (R55, R56). `order` is its place in commit order; once it has fired, `points` are its effect
points as (plane, device time) and `ends` is the last of them; `force` is the FORCE bit of a TAKE or
DRILL; `image` is the captured salvo (index, sub, value); `rq` is who asked (none: a field-bank input). -/
structure Event where
  tp : Word
  plane : Nat
  kind : Nat
  scope : Nat := 0
  arg : Nat := 0
  next : Bool := false
  cascade : Bool := false
  force : Bool := false
  fired : Bool := false
  ends : Rat := 0
  points : List (Nat × Rat) := []
  order : Nat := 0
  image : List (Nat × Nat × Nat) := []
  rq : Option Rq := none
deriving DecidableEq, Repr

/-- One bank's flags (R237-R250). -/
structure BankSt where
  armed : Bool := false
  reseeding : Bool := false
  dirty : Bool := false
  stale : Bool := false
deriving DecidableEq, Repr

/-- A structural move in progress (R263): the element, its old and new value, and its move point in device time (none
while it waits for a condition). -/
structure Move where
  index : Nat
  sub : Nat
  old : Word
  new : Word
  start : Rat
  point : Option Rat
deriving DecidableEq, Repr

/-- A reply record of one origin class and session (R458): highest sequence, and the sequences held with their status
and reply payload. -/
structure ReplyRecord where
  origin : Nat
  session : Nat
  highest : Nat
  items : List (Nat × Nat × List Byte)
deriving DecidableEq, Repr

/-- A NOTIFY that waits for its PENDING_DONE (R457). -/
structure Notify where
  rq : Rq
  index : Nat
  sub : Nat
  status : Nat
  data : List Byte
  sends : Nat
  last : Rat
deriving DecidableEq, Repr

/-- A request answered OK_PENDING whose work has not ended (R456): what it waits for. -/
structure Waiting where
  rq : Rq
  index : Nat
  sub : Nat
deriving DecidableEq, Repr

/-- An open block transfer (R460). -/
structure Transfer where
  rq : Rq
  index : Nat
  sub : Nat
  nextSeq : Nat
  data : List Byte
  last : Rat
deriving DecidableEq, Repr

/-- A reply that waits out its back-off (R454). -/
structure Deferred where
  port : Port
  dst : Nat
  frame : List Byte
  attempts : Nat
deriving DecidableEq, Repr

/-- The Dumus engine's queues (R454-R468). Field-port and card input buffers hold whole frames, oldest first. -/
structure ReqSt where
  records : List ReplyRecord := []
  notifies : List Notify := []
  waiting : List Waiting := []
  transfers : List Transfer := []
  deferred : List Deferred := []
  bufCard : List (List Byte) := []
  bufA : List (List Byte) := []
  bufB : List (List Byte) := []
  bufTunnel : List (List Byte) := []
  outQueue : List (List Byte) := []
deriving DecidableEq, Repr

/-- The key store (R494): session keys by slot (0 = no key), the wake code, the licence tokens (0 = empty), the identity
private key, and whether erasing it failed to verify is not kept here. -/
structure KeySt where
  session : SMap Nat := []
  wakeCode : Nat := 0
  tokens : SMap Nat := []
  identity : Option (BitVec 256) := none
deriving DecidableEq, Repr

/-- A change-log entry (R477). -/
structure LogEntry where
  tp : Word
  time : Int
  entry : Nat
  plane : Nat
  origin : Nat
  kind : Nat
  bank : Bool := false
  struct : Bool := false
  refused : Bool := false
  node : Nat := 0xFFF
  status : Nat := 0
  session : Nat := 0
  seq : Nat := 0
  index : Nat := 0
  sub : Nat := 0
  old : Word := 0
  new : Word := 0
deriving DecidableEq, Repr

/-- The change log (R479): the entries held and not released, oldest first; the number the next entry takes; whether any
entry was ever made; the two counters 0x1200:0005 and 0x1200:0006. -/
structure LogSt where
  entries : List LogEntry := []
  next : Nat := 0
  any : Bool := false
  lost : Nat := 0
  notLogged : Nat := 0
deriving DecidableEq, Repr

/-- The state of one fault source (R553), with the times of its last log and history entries (R556). -/
structure FaultSrc where
  alarm : Bool := false
  active : Bool := false
  forced : Bool := false
  count : Nat := 0
  lastLog : Option Rat := none
  lastHist : Option Rat := none
deriving DecidableEq, Repr

/-- A history or first-fatal entry (R559). -/
structure HistEntry where
  tp : Word
  time : Int
  source : Nat
  cls : Nat
  forced : Bool
  mode : Mode
  count : Nat
  detail : Word
deriving DecidableEq, Repr

/-- An entry of the most-corrected table (R550); `age` orders equal counts, lower is older. -/
structure Corrected where
  memory : Nat
  address : Nat
  count : Nat
  age : Nat
deriving DecidableEq, Repr

/-- What stops when the device is FAULTED (R557): the source's entry and its DETAIL. -/
structure Stopped where
  what : Implicates
  detail : Word
deriving DecidableEq, Repr

/-- Integrity (R546-R565): fault sources, history (newest first), first-fatal record, the most-corrected table, scrub
positions, lap starts and the laps whose NOTE is declared, pending write-backs, halted DMA channels, the freeze record,
since when the junction is above 105 and above 125 °C. -/
structure FaultSt where
  src : SMap FaultSrc := []
  history : List HistEntry := []
  firstFatal : Option HistEntry := none
  stopped : List Stopped := []
  corrected : List Corrected := []
  age : Nat := 0
  scrubAddr : SMap Nat := []
  lapStart : SMap Rat := []
  writebacks : List (Nat × Nat) := []
  dmaHalted : List Nat := []
  lastFreeze : Nat := 0
  fatalAt : Option Rat := none
  frozenMode : Option Mode := none
  hot : Option Rat := none
  hotter : Option Rat := none
  lapNoted : List Nat := []
deriving DecidableEq, Repr

/-- The debug port and the one-time memory (R566-R571). -/
structure DebugSt where
  ir : Nat := 0x02
  stream : Nat := 0
  challenge : Option (List Byte) := none
  failures : Nat := 0
  lastOpen : Nat := 0
  development : Bool := false
  openings : Nat := 0
  relocks : Nat := 0
  access : Word := 0
  scan : Word := 0
deriving DecidableEq, Repr

/-- A boot slot as the boot record describes it (R535) and the bytes its flash region holds (R528). -/
structure Slot where
  state : Nat := 0
  next : Bool := false
  boots : Nat := 0
  reason : Nat := 0
  component : Nat := 0
  image : List Byte := []
deriving DecidableEq, Repr

/-- A copy of the stored configuration (R543): sequence, AUTO_RUN, PKG_VERSION, elements (index, sub, value) and blobs
(salvo images). -/
structure Saved where
  seq : Nat
  pkg : Nat
  elems : List (Nat × Nat)
  blobs : List (Nat × List Byte)
deriving DecidableEq, Repr

/-- Where the boot sequence stands (R531). -/
inductive BootPhase where
  | selfCheck | verify | start (next : Nat) | waitReady (comp : Nat) | install | ready | bridleWait | ended | stuck
deriving DecidableEq, Repr

/-- Power, boot and update (R523-R545). `exOn`: VDD_EX is in range; `running` is the slot the device runs from; `recovery`
says it runs from the recovery file; `auto` is AUTO_RUN of the installed configuration; `restAt` is when essence outputs
last began or ended their rest in absent fill and silence (R516). -/
structure BootSt where
  mainPwrEn : Bool := true
  pwrGood : Bool := true
  inReset : Bool := false
  enabledAt : Option Rat := none
  resets : Nat := 0
  selfCheckOk : Bool := false
  phase : BootPhase := .selfCheck
  slotA : Slot := {}
  slotB : Slot := {}
  chosen : Option Nat := none
  running : Option Nat := none
  recovery : Bool := false
  recoveryFile : List Byte := []
  releasedAt : Rat := 0
  copy0 : Option Saved := none
  copy1 : Option Saved := none
  auto : Bool := false
  installed : Bool := false
  pendingAlarms : List (Nat × Nat) := []
  pendingLog : List (Nat × Word × Word) := []
  stagePath : List Byte := []
  stageState : Nat := 0
  stageResult : Nat := 0
  stageKiB : Nat := 0
  saving : Option Saved := none
  erasing : Bool := false
  health : Option Rat := none
  dormantAt : Option Rat := none
  restAt : Option Rat := none
  exOn : Bool := true
  nodeSel : Nat := 0
  sideB : Bool := false
deriving DecidableEq, Repr

/-- What the Exair die keeps in DORMANT for the wake detector (R466). -/
structure WakeSt where
  node : Nat := 0
  group : Nat := 0
  etherType : Nat := 0
  code : Nat := 0
deriving DecidableEq, Repr

/-- A received request that a standby counts when the stream does not carry it (R427), or that a new active commits
(R439): when, the header, opcode, index, sub and payload. -/
structure Heard where
  at_ : Rat
  rq : Rq
  opcode : Nat
  index : Nat
  sub : Nat
  payload : List Byte
deriving DecidableEq, Repr

/-- The state of comparison for one output, head or the AOUT space (R436). -/
structure Compare where
  run : Nat := 0
  lastRaised : Option Rat := none
deriving DecidableEq, Repr

/-- A packet that waits (R181, R188, R426): at a standby in step for the active's choice of its copy, in a 2022-6 flow for
the packets before it. Its flow, or 16,384 and its audio entry; its number there; its lane, entry and arrival. -/
structure HeldPkt where
  object : Nat
  num : Nat
  lane : Nat
  entry : Nat
  at_ : Rat
  pkt : Packet
deriving DecidableEq, Repr

/-- The pair block (R414-R446). Pin fields are levels: `ripOut` means this member pulls its ripcord, `ripIn` that it is
quenched. `partner` is the last HEARTBEAT received. Digests (R434): those of
this member not yet compared, those that wait for a full DIGEST record, the partner's not yet compared. `held` are the packets that
wait for the active's choice of their copy,
`choices` the choices on packets not yet come: object, number, path (R188, R426). -/
structure PairSt where
  claimOut : Bool := false
  claimIn : Bool := false
  claimInLowAt : Option Rat := none
  ripOut : Bool := false
  ripIn : Bool := false
  role : Nat := 0
  partnerHere : Bool := false
  inStep : Bool := false
  suspect : Bool := false
  partnerSuspect : Bool := false
  incompatible : Bool := false
  lastChange : Nat := 0
  lastChangeTp : Word := 0
  sessionVersion : Nat := 0
  partner : Word := 0
  partnerAt : Option Rat := none
  quenchResets : Nat := 0
  streamSent : Nat := 0
  streamApplied : Nat := 0
  joinAsked : Option Rat := none
  joinPhase : Nat := 0
  drillResult : Nat := 0
  handover : Option (Rat × Nat) := none
  changeoverAsked : Bool := false
  compares : SMap Compare := []
  inputDiffs : SMap Rat := []
  ownFault : Option Rat := none
  partnerFault : Option Rat := none
  heard : List Heard := []
  streamed : List (Nat × Nat × Nat) := []
  decisions : List Word := []
  partnerFaults : List Word := []
  copied : List (Nat × Nat × Nat) := []
  copiedAt : Option Rat := none
  ownDigests : List Word := []
  digestsOut : List Word := []
  partnerDigests : List Word := []
  held : List HeldPkt := []
  choices : List (Nat × Nat × Nat) := []
deriving DecidableEq, Repr

/-- A capture or insert window operation (R484): STATE and count, the command, its START, whether it is to stop;
of a video capture the first frame it takes, the frame in hand with the lines stored of it; whether nothing more is stored. -/
structure WindowOp where
  state : Nat := 0
  done : Nat := 0
  command : Word := 0
  startTp : Word := 0
  stopping : Bool := false
  first : Int := 0
  frame : Option Int := none
  lines : Nat := 0
  full : Bool := false
deriving DecidableEq, Repr

/-- One reference candidate (R67, R90): presence, qualification, since when it is present, last LOSS_REASON, DETAIL,
measured frequency in 10^-12 of OSC_IN, and the device time of one point of its phase grid (R76). -/
structure Cand where
  present : Bool := false
  qualified : Bool := false
  since : Rat := 0
  loss : Nat := 1
  detail : Nat := 0
  freq : Int := 0
  grid : Rat := 0
deriving DecidableEq, Repr

/-- A master heard on a PTP instance's lane (R82): its last Announce, when, and whether another came within the four
announce intervals before it. -/
structure Foreign where
  ann : PtpAnnounce
  at_ : Rat
  qualified : Bool
deriving DecidableEq, Repr

/-- One PTP ordinary clock (R82-R84). `foreign` are the masters heard; `parent` is the port identity of the chosen one, with
the addresses it sends from; `offset` is device time less PTP time. -/
structure Ptp where
  slave : Bool := false
  foreign : List Foreign := []
  parent : Nat := 0
  parentIp : Nat := 0
  parentMac : Nat := 0
  gm : Nat := 0
  clockClass : Nat := 0
  utc : Int := 0
  annInterval : Rat := 0
  lastAnnounce : Rat := 0
  syncInterval : Rat := 0
  lastSync : Option Rat := none
  syncSeq : Nat := 0
  syncT2 : Option Rat := none
  t21 : Option Rat := none
  reqSeq : Nat := 0
  reqT3 : Option Rat := none
  reqInterval : Rat := 0
  delay : Option Rat := none
  offset : Option Rat := none
deriving DecidableEq, Repr

/-- Where the DPLL stands with its selected candidate (R72). -/
inductive LoopPhase where
  | none | slew | tracking
deriving DecidableEq, Repr

/-- The timebase (R65-R93). `tb` is STATE (0 FREE-RUN, 1 ACQUIRING, 2 LOCKED, 3 HOLDOVER); `slewTo` is the frequency a
slew goes to, and while tracking the loop's output; `integ` is the loop's integrator in 10^-12; `acc` is the control value summed over the present whole second `second` (10^-12 times ns), `clean` that it
may be recorded; `seconds` are the recorded averages; `ballast` is the newest valid one with its window's last second.
`everLocked` says that a capture was made since reset, `lockedOnce` that LOCKED was reported; `ptpTime` that the first capture
set device time to its candidate's time (R48). -/
structure RefSt where
  cands : SMap Cand := []
  ptp : SMap Ptp := []
  tb : Nat := 0
  selected : Option Nat := none
  transfer : Bool := false
  phase : LoopPhase := .none
  forced : Option Nat := none
  slewTo : Option Rat := none
  buildOut : Int := 0
  phaseErr : Int := 0
  within : Option Rat := none
  above : Option Rat := none
  lastMeas : Rat := 0
  integ : Rat := 0
  acc : Rat := 0
  second : Int := 0
  clean : Bool := false
  seconds : List (Int × Rat) := []
  ballast : Option (Rat × Int) := none
  holdSince : Option Rat := none
  everLocked : Bool := false
  lockedOnce : Bool := false
  ptpTime : Bool := false
  srcOffset : SMap Rat := []
  srcAt : SMap Rat := []
  srcMaster : Nat := 0
  srcPtp : Bool := false
  srcPlanes : SMap (Nat × Rat) := []
  lastPulse : Int := -1
  lastFrame : Rat := -1
deriving DecidableEq, Repr

/-- A block of the tether and bridle line code (R113, R114): its header bit and its 256-bit payload. -/
abbrev LineBlock := Bool × Word

/-- An aligned receiver's place in the line code (R113-R120): scrambler, precoder, precoded symbols since the last transition
symbol, symbols since the last marker and that marker's FEC_PHASE; the bits of the codeword in hand and how many, and
whether its start was not seen; the symbols received of a comma and marker. Of the last symbols received: the codewords
closed, each with the symbols corrected in it (none: uncorrectable), and the markers found where one is expected (none:
missing or bad). The 20 blocks of the last codeword as they were delivered, with the uncorrectable mark. -/
structure LineRx where
  scr : Nat := 0x3FFFFFFFFFFFFFF
  last : Nat := 0
  run : Nat := 0
  pos : Nat := 0
  phase : Nat := 0
  acc : Nat := 0
  got : Nat := 0
  skip : Bool := false
  tail : List Nat := []
  words : List (Option Nat) := []
  commas : List (Option Word) := []
  delivered : List (LineBlock × Bool) := []
deriving DecidableEq, Repr

/-- One lane's state (R107-R132), its elements apart: whether LOS was declared and holds (R111), whether initial
adaptation is complete (R110), the rate code that comes in on an SDI lane (R105), the acquired marker and the lane's delay
behind the first lane of its port in ns (R120, R123), the receiver's place in the line code and the expected markers in
succession that were missing or bad (R120), the blocks of its codeword sent before the last marker, as many as its
FEC_PHASE (R118), whether the received pair is reversed (R122), the time of the last probe of a shorted driver (R127), of
the last FEC NOTE (R131), and the pattern bits checked, with their fraction (R129). -/
structure LaneSt where
  losDeclared : Bool := false
  adapted : Bool := false
  incoming : Nat := 0
  marker : Option Word := none
  skew : Nat := 0
  rx : LineRx := {}
  missed : Nat := 0
  held : List LineBlock := []
  reversed : Bool := false
  probeAt : Rat := 0
  fecNote : Option Rat := none
  checked : Rat := 0
deriving DecidableEq, Repr

/-- A synthesiser (R100, R101): the plane it follows (none: NOMINAL), its family, the CUSTOM rate of a CUSTOM family,
when it was set, whether it is locked, and since when it fails. Family 0 is not in use. -/
structure Synth where
  plane : Option Nat := none
  family : Nat := 0
  custom : Nat := 0
  setAt : Rat := 0
  locked : Bool := false
  failedAt : Option Rat := none
deriving DecidableEq, Repr

/-- A picture line in cell memory (R199-R203): frame of its source, raster line, sample words in raster order, whether a
span was substituted, COLORIMETRY, TCS and RANGE as one 9-bit number, when it was written; the header's SOURCE and PLANE and
the PCRC of each of its cells; whether a PCRC failed as it arrived, and whether a word of it has become unreadable (R202). -/
structure CellLine where
  frame : Int
  line : Nat
  picture : List Nat
  subst : Bool := false
  fill : Bool := false
  meta_ : Nat := 0
  written : Rat := 0
  bad : Bool := false
  source : Nat := 0
  plane : Nat := 0
  pcrc : List Word := []
  gone : Bool := false
deriving DecidableEq, Repr

/-- The ancillary run of a field or frame of a source (R201), and whether a record of it was dropped. -/
structure AncRun where
  frame : Int
  field : Nat
  pkts : List AncPkt
  full : Bool := false
deriving DecidableEq, Repr

/-- A frame of a generator as it was written (R206, R207, R486): its configuration and flat colour at the frame's start, and the
window lines that take the pattern's place. -/
structure GenShot where
  frame : Int
  conf : Word
  colour : Word
  lines : List (List Nat) := []
deriving DecidableEq, Repr

/-- A source's cells (R203, R205). -/
structure Cells where
  lines : List CellLine := []
  anc : List AncRun := []
deriving DecidableEq, Repr

/-- A picture line record of a synchroniser window, with its poison (R272, R280). -/
structure FsLine where
  line : Nat
  picture : List Nat
  subst : Bool := false
  poison : Bool := false
deriving DecidableEq, Repr

/-- One input frame of a synchroniser window (R275): its count, its arrival, whether it is stored, its lines, its ancillary
packets each with its field, its metadata. -/
structure FsFrame where
  count : Nat
  arrival : Rat
  stored : Bool := true
  lines : List FsLine := []
  anc : List (Nat × AncPkt) := []
  meta_ : Nat := 0
deriving DecidableEq, Repr

/-- A line in assembly (R134, R175): the frame it belongs to, its count in a window, the spans present as (sample
offset, samples), when the first packet of a later line arrived, and when a quad link's first half of it came. -/
structure OpenLine where
  line : Nat
  frame : Int
  count : Nat
  spans : List (Nat × List Nat)
  laterAt : Option Rat := none
  cameAt : Rat := 0
deriving DecidableEq, Repr

/-- A unit of an OPAQUE frame in assembly (R179): frame, RTP sequence, T, K, L and I, payload bytes, marker, when it came. -/
structure OpaqueUnit where
  frame : Int
  seq : Nat
  head : Nat
  wire : Nat
  marker : Bool
  data : List Nat
  at_ : Rat
deriving DecidableEq, Repr

/-- One lane of an SDI input (R138, R140-R142): the link number and metadata its last frame's payload ID gave and how many
frames ago that was, the payload ID of the frame that arrives, the format and rate it carries, its delay behind link 1 in
ns, and whether its line 1 has come since its links were last judged. -/
structure LinkIn where
  lane : Nat
  link : Option Nat := none
  meta_ : Nat := 0
  age : Nat := 2
  seen : Option (Nat × Nat) := none
  kind : Nat := 0
  skew : Nat := 0
  fresh : Bool := false
  frames : Nat := 0
deriving DecidableEq, Repr

/-- Ancillary packets of a -40 packet that wait for their video frame or field (R186): timestamp, field, when they came, the
entry that took them, the packet's sequence. -/
structure AncWait where
  ts : Nat
  field : Nat
  pkts : List (AncPkt × Bool)
  at_ : Rat
  entry : Nat
  num : Nat
deriving DecidableEq, Repr

/-- An input flow at run time (R139-R148, R175, R178, R188, R223-R226, R275-R278): the frame being received with its
arrival and whether its first line came after lock; frames without a mismatch and within the window; the links of
an SDI input; when it was lost and since when no frame came; recent arrivals (for
p_in); the window's frames, the frame whose place the writer takes, the next count; the reader's slot, its frame, the
frame of the slot before, the next line it reads, the ancillary packets it has passed on, the first frame since a loss; lines in assembly and the last lines written; each path's last
packet, packets seen and missing (sequence, entry, when), whether a packet went missing since the present frame began, when
the last whole OPAQUE frame came; the present frame's RTP timestamp; ancillary packets that wait for their frame;
metadata; times of the last CRC error, overflow, overflow NOTE and promotion attempt; OPAQUE
units in assembly, those of the last whole frame, the sequence after the last closed frame's marker, the last frame closed;
masks of the audio groups the present frame brought and of those marked asynchronous, and of the groups present and
asynchronous now; each group's last sample index on the grid of its rate; the ancillary packets taken of the present field;
metadata of recent frames; when the present frame began; the timestamp of its second field; the last frame with a substituted
span; whether a packet of the present frame did not match the format, whether its marker came, and whether the input was
declared lost; of a 2022-6 stream the sequence and the arrival of the frame's first packet, the last line taken, the lines in
succession that carried EAV and SAV (R139), and the packets that wait for earlier ones; at a standby in step the missing
spans told of a line that closes (line, start, words), the frame numbers and counts told of frames not yet come, and whether
the present frame's was not told yet. -/
structure InFlow where
  frame : Option Int := none
  arrival : Rat := 0
  whole : Bool := false
  clean : Nat := 0
  good : Nat := 0
  links : List LinkIn := []
  lostAt : Option Rat := none
  arrivals : List Rat := []
  win : List FsFrame := []
  evicted : List FsFrame := []
  nextCount : Nat := 0
  slot : Option Int := none
  reading : Option Nat := none
  before : Option Nat := none
  readNext : Nat := 0
  ancRead : Nat := 0
  fresh : Nat := 0
  openLines : List OpenLine := []
  prev : List (Nat × List Nat) := []
  done : List Int := []
  pathA : Option Rat := none
  pathB : Option Rat := none
  seen : List Nat := []
  missing : List (Nat × Nat × Rat) := []
  gap : Bool := false
  wholeAt : Option Rat := none
  stamp : Option Nat := none
  ancWait : List AncWait := []
  meta_ : Option Nat := none
  crcAt : Option Rat := none
  overflowAt : Option Rat := none
  overflowNote : Option Rat := none
  triedAt : Option Rat := none
  units : List OpaqueUnit := []
  lastUnits : List (Nat × List Nat) := []
  nextSeq : Option Nat := none
  closed : Option Int := none
  groups : Nat := 0
  asyncs : Nat := 0
  present : Nat := 0
  asyncNow : Nat := 0
  lastIndex : List (Nat × Int) := []
  ancField : Nat := 0
  ancCount : Nat := 0
  metas : List (Int × Nat) := []
  beganAt : Rat := 0
  missAt : Rat := 0
  stamp2 : Option Nat := none
  substFrame : Option Int := none
  badFrame : Bool := false
  sdiFirst : Option Nat := none
  lastSdi : Option SdiLine := none
  marked : Bool := false
  lost : Bool := false
  sdiAt : Rat := 0
  trs : Nat := 0
  queue : List HeldPkt := []
  runs : List (Int × Nat × Nat) := []
  told : List (Int × Nat) := []
  untold : Bool := false
deriving DecidableEq, Repr

/-- What the packets of an output's frame read (R176, R209): the source, the source's frame, the output's frame, its start. -/
structure FrameView where
  src : Nat
  from_ : Int
  frame : Int
  startAt : Rat
deriving DecidableEq, Repr

/-- An output at run time (R152-R154, R190, R215, R228, R244): its format in force as FORMAT, RATE and SAMPLING (11
bits), the frame it sends and that frame's start, the device time of the TP after which its route changes, the last line
it read, the last line of a frame it replaced, the format it changes to and from when (R153, R191), the samples that wait to
be embedded with the grid time of the newest; the metadata its frame carries (R141); the CRCs run over the last active
words of each data stream, and the two EDH CRCs of the field (R152); the place in the channel-status block (R150); of a
2022-6 stream the frame's words built so far and the next line (R182); the last packets built, which a DUAL twin sends
too: frame, packet, payload (R189); the source it read when its frame began; what the packets of the frame before read,
until they are all sent (R176); on an OPAQUE output the source's frame it sends (R179). -/
structure OutFlow where
  force : Option Nat := none
  frame : Option Int := none
  startAt : Rat := 0
  swapAt : Option Rat := none
  lastLine : List Nat := []
  replaced : Option (Int × Nat) := none
  changeTo : Option Nat := none
  changeAt : Rat := 0
  audio : List (List Nat) := []
  audioAt : Rat := 0
  meta_ : Nat := 0
  crcs : List Nat := []
  edh : Nat × Nat := (0, 0)
  status : Nat := 0
  stream : List Nat := []
  nextLine : Nat := 1
  sent : List (Int × Nat × List Byte) := []
  src : Nat := 0xFFFF
  prev : Option FrameView := none
  units : Option Int := none
deriving DecidableEq, Repr

/-- A remote route's data as its RESERVE record returned it (R400, R401): the origin's 0x4200 word (0 for a head or a
generator, which have no window), its house line in ns, and the request that waits for the answer. -/
structure Remote where
  mode : Word := 0
  internal : Bool := false
  house : Rat := 0
  asked : Option Word := none
deriving DecidableEq, Repr

/-- A next hop's address (R163): when it was last requested, its MAC address, refreshes not answered. -/
structure Arp where
  lane : Nat
  ip : Nat
  mac : Option Nat := none
  asked : Option Rat := none
  misses : Nat := 0
deriving DecidableEq, Repr

/-- IGMP on one port and VLAN (R164): groups whose change is still to be reported and how often, the last report; when
the answer to a query is due and for which group; until when an IGMPv1 and an IGMPv2 querier count as present (RFC 3376);
groups reported. -/
structure Igmp where
  lane : Nat
  vlan : Nat
  changed : List Nat := []
  left : Nat := 0
  lastAt : Option Rat := none
  due : List (Rat × Nat) := []
  v1Until : Option Rat := none
  v2Until : Option Rat := none
  reported : List Nat := []
deriving DecidableEq, Repr

/-- A receive entry at run time: its last packet, the sequence expected, the last late packet, whether its timing is
within range and since when, the next timestamp of an asynchronous stream, sequences seen, times its description was
rebuilt (R184, R188, R192, R193); at a standby the sample indices that the active discarded (R426). -/
structure RxSt where
  lastAt : Option Rat := none
  expect : Option Nat := none
  lateAt : Option Rat := none
  timing : Option (Bool × Rat) := none
  nextTs : Option Nat := none
  seen : List Nat := []
  desc : Nat := 0
  drops : List Int := []
deriving DecidableEq, Repr

/-- A send entry at run time (R172, R176, R185, R187, R190): extended sequence, and what it was at the start of the frame in
hand; the frame it sends, or the first sample of an audio entry's next packet; the packet that is next; packets of a field,
or the field an ancillary entry sends; the word in force until the next frame, times its description was rebuilt. -/
structure TxSt where
  seq : Nat := 0
  base : Nat := 0
  frame : Option Int := none
  next : Nat := 0
  count : Nat := 0
  held : Option Word := none
  desc : Nat := 0
deriving DecidableEq, Repr

/-- An AIN slot at run time (R293, R313-R315, R320): the value presented in this period; whether its source delivers; the
samples of its fade-in already run (48: all); the states of its offset and high-pass filters; its delay line, newest
first; the delay in force, the one it fades from, and the fade's next sample; the values a converter reads, newest
first. -/
structure AinSlot where
  value : Nat := 0
  present : Bool := false
  fade : Nat := 48
  offset : Nat := 0
  high : Nat := 0
  line : List Nat := []
  delay : Nat := 0
  was : Nat := 0
  at_ : Option Nat := none
  hist : List Nat := []
deriving DecidableEq, Repr

/-- A gain on its way to its target (R311): gain_now and the target in 0.01 dB (none: mute), the time of the last step or
of the change, the last sample of the gain's input. -/
structure GainSt where
  now : Option Int := some 0
  target : Option Int := some 0
  stepAt : Rat := 0
  last : Int := 0
deriving DecidableEq, Repr

/-- An AOUT slot at run time (R309): the AIN slot it takes, the one it fades from, the fade's next sample and length. -/
structure AoutSlot where
  route : Nat := 0xFFFF
  old : Nat := 0xFFFF
  at_ : Option Nat := none
  len : Nat := 0
  gain : GainSt := {}
deriving DecidableEq, Repr

/-- A meter (R318, R319, R333): peak and sum of squares of the present interval, its samples, and the intervals before
it as (sum, samples), newest first; a spool meter's WINDOW. -/
structure Meter where
  peak : Nat := 0
  sum : Nat := 0
  n : Nat := 0
  past : List (Nat × Nat) := []
  window : Nat := 0
deriving DecidableEq, Repr

/-- A bridge instance (R296-R300): what it serves, its first slot, samples a period (2 in domain B), STATE, nominal rate,
ratio, the loop's integrator, the ratio that applies from the next period, when its measurement began, the place of its loop bandwidth in 20,
10, 5, 2.5, 1.25, 1 Hz counted from 1 (0: it measures), when that began, the last update, when samples last came,
the read position between two samples, re-centres, the last one, samples left of a fade out, samples run of a fade in
(48: all), the buffer of an output bridge. -/
structure Bridge where
  kind : Nat := 0
  owner : Nat := 0
  base : Nat := 0
  slots : Nat := 0
  per : Nat := 1
  st : Nat := 1
  nominal : Nat := 0
  ratio : Int := 0
  integ : Rat := 0
  next : Option Int := none
  since : Rat := 0
  band : Nat := 0
  bandAt : Rat := 0
  updAt : Rat := 0
  lastAt : Rat := 0
  phase : Rat := 0
  recentres : Nat := 0
  recentreAt : Option Rat := none
  fadeOut : Nat := 0
  fadeIn : Nat := 0
  buf : List (List Nat) := []
deriving DecidableEq, Repr

/-- An elastic store (R307): its frames, oldest first, the last frame it gave, whether its reader repeats that one. -/
structure Elastic where
  frames : List (List Nat) := []
  last : List Nat := []
  hold : Bool := false
deriving DecidableEq, Repr

/-- An audio port at run time (R301-R307, R322): whether its pin clock is present, the last edge, the measured rate,
RATE_ERR and NON_AUDIO, the last slip and subframe error, the last input frame, its elastic stores, the last three pin
frames of a master port, newest first (R317); the places in the channel-status blocks received and sent (R306). -/
structure PortSt where
  clock : Bool := false
  absent : Bool := false
  edgeAt : Rat := 0
  rate : Nat := 0
  rateErr : Bool := false
  nonAudio : Bool := false
  slipAt : Option Rat := none
  errAt : Option Rat := none
  last : List Nat := []
  input : Elastic := {}
  output : Elastic := {}
  frames : List (List Nat) := []
  blockIn : Nat := 0
  blockOut : Nat := 0
deriving DecidableEq, Repr

/-- A coefficient ramp (R338): old and new value, the engine period it starts at, its length. -/
structure Ramp where
  old : Int
  new : Int
  start : Nat
  len : Nat
deriving DecidableEq, Repr

/-- A spool that runs (R325-R336): its bank, periods computed since it started, accumulators (8 x lane + number), scratch
words, biquad states, delay lines as the index of the last write and the samples, newest first, and ramps by entry. -/
structure Engine where
  bank : Nat
  period : Nat := 0
  acc : SMap Int := []
  scratch : SMap Int := []
  biquad : SMap (Int × Int) := []
  lines : SMap (Nat × List Nat) := []
  ramps : SMap Ramp := []
deriving DecidableEq, Repr

/-- A spool bank (R342): STATE, the image whose checks run, the last frame of a load; of the loaded image its words,
delay-line lengths, LABEL, A_WORDS, B_WORDS and COEFS, the AIN and AOUT addresses that A and B sections read, and the bus
slots that B sections store as [first, past the last). -/
structure SpoolBank where
  st : Nat := 0
  image : List Byte := []
  frameAt : Rat := 0
  words : List Nat := []
  delays : List Nat := []
  label : Nat := 0
  aWords : Nat := 0
  bWords : Nat := 0
  coefs : Nat := 0
  readsA : List Nat := []
  readsB : List Nat := []
  busA : List Nat := []
  busB : List (Nat × Nat) := []
deriving DecidableEq, Repr

/-- A coefficient entry written (R337): the frame that wrote it, counted in order of commit, its effect period, bank, entry,
old value. -/
structure CoefWrite where
  frame : Nat
  due : Int
  bank : Nat
  entry : Nat
  old : Word
deriving DecidableEq, Repr

/-- The mix engine (R328, R337, R345-R349): the spool on air, the one that fades out with the fade's next period and its
length, results not yet presented (oldest first), whether the last AUDIO_PERIOD's samples are computed, coefficient
writes not yet in force, last accumulator and STC saturation, bus domains that take effect after so many more
presentations; coefficient entries, as (bank, entry), whose words can no longer be read. -/
structure MixSt where
  engine : Option Engine := none
  fading : Option (Engine × Nat × Nat) := none
  results : List (SMap Nat) := []
  computed : Bool := true
  coefs : List CoefWrite := []
  satAt : Option Rat := none
  clipAt : Option Rat := none
  busNext : List (Nat × List (Nat × Nat)) := []
  damaged : List (Nat × Nat) := []
deriving DecidableEq, Repr


/-- A pixel: three 12-bit codes, Y' Cb Cr or R' G' B' (R356). -/
abbrev Pix := Nat × Nat × Nat

/-- A layer's geometry in a view (R358): source, crop (x, y, w, h), destination (x, y, w, h), all in pixels and lines. -/
structure LayerGeom where
  source : Nat
  cx : Nat
  cy : Nat
  cw : Nat
  ch : Nat
  dx : Int
  dy : Int
  dw : Nat
  dh : Nat
deriving DecidableEq, Repr

/-- A staging configuration (R367): geometry, visible lines and width, colour settings, bank contents. -/
structure Staging where
  geom : LayerGeom
  lines : Nat
  width : Nat
  colour : List Word
  coefs : List (Nat × Word)
deriving DecidableEq, Repr

/-- A staged frame (R364): the source frame, its start, the instant it completes, its visible lines. -/
structure Staged where
  frame : Int
  start : Rat
  done : Rat
  rows : List (List Pix)
deriving DecidableEq, Repr

/-- A layer's staging with its newest frames, newest first (R365). -/
structure Stage where
  conf : Staging
  frames : List Staged
deriving DecidableEq, Repr

/-- What a layer contributes to a frame (R356-R359): a staged frame (no lines: absent fill), its geometry, Z, ALPHA and
BORDER, and the border colour. -/
structure Contribution where
  staged : Option Staged
  geom : LayerGeom
  stack : Word
  border : Word
deriving DecidableEq, Repr

/-- A layer at run time (R365, R367): its stagings with their newest frames, newest first; the staging and contribution it
shows; the source frame it used last; consecutive misses; STALE and ABSENT. -/
structure LayerSt where
  stages : List Stage := []
  conf : Option Staging := none
  shown : Option Contribution := none
  last : Option Int := none
  misses : Nat := 0
  stale : Bool := false
  absent : Bool := false
deriving DecidableEq, Repr

/-- A static-plane pixel: alpha and three components, 10 bits each (R371). -/
structure PlanePix where
  a : Nat := 0
  c : Pix := (0, 0, 0)
deriving DecidableEq, Repr

/-- A static plane. -/
abbrev PlaneRows := List (List PlanePix)

/-- A meter bar as a frame draws it (R378): its element, RMS and held peak in 0.01 dBFS. -/
structure BarShot where
  bar : Word
  rms : Int
  peak : Int
deriving DecidableEq, Repr

/-- A head's frame as it is composed (R353): its number and start, the head's configuration, background, contributions from
the bottom up, static plane, meter bars with RMS and held peak, cursor and its image; GAP (absent fill, R381), BG_ONLY, the plane's frame count (R380). -/
structure HeadShot where
  frame : Int
  start : Rat
  conf : Word
  bg : Word := 0
  layers : List Contribution := []
  plane : PlaneRows := []
  bars : List BarShot := []
  cursor : Word := 0
  image : List Byte := []
  gap : Bool := false
  bgOnly : Bool := false
  count : Nat := 0
deriving DecidableEq, Repr

/-- A head at run time (R353, R370, R374, R378, R381): its last frames, newest first; whether the next frame shows the
background alone; the shown static plane with its poisoned rows, the flattened one; cursor and image in effect, and writes
that wait, each with its effect boundary (none: not told by the active), and boundaries told before their flatten; each bar's
held peak and when it was met; the end of a gap. -/
structure HeadSt where
  shots : List HeadShot := []
  bgNext : Bool := false
  plane : PlaneRows := []
  poisoned : List Nat := []
  spare : Option (PlaneRows × Option Rat) := none
  told : List Rat := []
  cursor : Word := 0
  image : List Byte := []
  cursorQ : List (Rat × Word) := []
  imageQ : List (Rat × List Byte) := []
  holds : SMap (Int × Rat) := []
  gapUntil : Option Rat := none
deriving DecidableEq, Repr

/-- A sprite (R371): width and height (0: empty), its rows of 40-bit pixels, and the rows that are poisoned. -/
structure Sprite where
  w : Nat := 0
  h : Nat := 0
  rows : List (List Nat) := []
  poisoned : List Nat := []
deriving DecidableEq, Repr

/-- A blitter job (R375): a host blit, or a head's flatten. -/
inductive BlitJob where
  | host (command : Word)
  | flatten (head : Nat)
deriving DecidableEq, Repr

/-- A capture of one frame into a sprite (R373): sprite, source, when it was committed, who asked. -/
structure SpriteCapture where
  sprite : Nat
  source : Nat
  at_ : Rat
  rq : Rq
deriving DecidableEq, Repr

/-- Static graphics (R371-R376): sprites, the blitter's queue, the job that runs, the plane it flattens, the status of the last
job, captures. -/
structure GraphicsSt where
  sprites : SMap Sprite := []
  queue : List BlitJob := []
  busy : Option BlitJob := none
  work : PlaneRows := []
  last : Nat := 0
  captures : List SpriteCapture := []
deriving DecidableEq, Repr


/-- A stream that this node sends, forwards or takes (R396, R400): origin node and source, plane, held rate in bits per
second; the port and label it arrives by; the (port, label) pairs it leaves by; the local inputs that take it; whether its
path is broken; whether its RESERVE has not returned; what the RESERVE brought. -/
structure Stream where
  node : Nat
  source : Nat
  plane : Nat
  rate : Rat
  from_ : Option (Nat × Nat) := none
  outs : List (Nat × Nat) := []
  flows : List Nat := []
  broken : Bool := false
  pending : Bool := false
  answer : Reserved := {}
deriving DecidableEq, Repr

/-- A HELLO heard, with the port it came by and when (R390). -/
structure Heard1 where
  hello : Hello
  port : Nat
  at_ : Rat
deriving DecidableEq, Repr

/-- A tether port's link state (R388, R390, R394, R395, R404): the peer's node, port and side, the latest TIMELINE record
and when, the flight taken at alignment in ps, credits of the two virtual channels, since when one is dry, cells freed and
not yet told to the peer, when another node with this node's ID was last heard. -/
structure TetherPort where
  peer : Option (Nat × Nat) := none
  sideB : Bool := false
  timeline : Word := 0
  timeAt : Option Rat := none
  flight : Option Int := none
  credit0 : Nat := 512
  credit1 : Nat := 512
  dryAt : Option Rat := none
  freed0 : Nat := 0
  freed1 : Nat := 0
  dupAt : Option Rat := none
deriving DecidableEq, Repr

/-- A request tunnelled to another node that waits for its reply (R405). -/
structure Tunnel where
  rq : Rq
  node : Nat
  index : Nat
  sub : Nat
  at_ : Rat
deriving DecidableEq, Repr

/-- A line or run of this node's own source that waits for credit on a port (R404): port, channel, cells, frame, what leaves. -/
structure OwnCells where
  port : Nat
  vc : Nat
  cells : Nat
  frame : Int
  out : Emission
deriving DecidableEq, Repr

/-- A cascade take that this master issued (R407): its TP and plane, the whole scope, the origin class that asked. -/
structure Issued where
  tp : Word
  plane : Nat
  scope : Nat
  origin : Nat
deriving DecidableEq, Repr

/-- The cascade (R385-R413): streams, HELLO records heard, ports, tunnelled requests, fragments collected by source node,
CASCADE records already passed on, the upstream port, cells that wait for credit as (arrival port, leaving port, cell as it
arrived under the leaving label), what of this node's own waits,
the master's record of its takes and of when each bound bank is free of its reseed (R407), the plane the next PLANECFG names. -/
structure TetherSt where
  streams : List Stream := []
  hellos : List Heard1 := []
  ports : SMap TetherPort := []
  tunnels : List Tunnel := []
  parts : SMap (List Byte) := []
  flooded : List CascadeMsg := []
  upstream : Option Nat := none
  queue : List (Nat × Nat × LinkCell) := []
  own : List OwnCells := []
  bankFree : SMap Rat := []
  issued : List Issued := []
  planecfg : Nat := 0
deriving DecidableEq, Repr

/-- A line of the field bank (R593-R605), its configuration apart: STATE; the end of a hold after a change of MODE; the
state that the present run of measurements agrees on and how many; VALUE; the next retry of a latched line; CONTENTION and
since when readbacks mismatch or match; OPEN_LOAD and since when the line reads in the open band or above it; the last
change to on. -/
structure FieldLine where
  st : Nat := 0
  hold : Option Rat := none
  runSt : Nat := 0
  runLen : Nat := 0
  value : Nat := 0
  latched : Option Rat := none
  contention : Bool := false
  mismatchAt : Option Rat := none
  matchAt : Option Rat := none
  openLoad : Bool := false
  openAt : Option Rat := none
  loadAt : Option Rat := none
  onAt : Option Rat := none
deriving DecidableEq, Repr

/-- A field port's line (R592): its state as A_LINE codes it, STUCK apart; frames in a row with a low, a high and a right
amplitude; whether it is STUCK. -/
structure PortLine where
  st : Nat := 0
  low : Nat := 0
  high : Nat := 0
  good : Nat := 0
  stuck : Bool := false
deriving DecidableEq, Repr

/-- The field bank and the supply and line monitor (R592-R605): lines; VF_STATE, the last reading in 0.1 V, since when it
is low or reversed; the field ports' lines; THERM; TJ. -/
structure FieldSt where
  lines : SMap FieldLine := []
  vfState : Nat := 0
  volts : Int := 0
  lowAt : Option Rat := none
  revAt : Option Rat := none
  portA : PortLine := {}
  portB : PortLine := {}
  therm : Bool := false
  tj : Int := 0
deriving DecidableEq, Repr

/-- The state of the device. -/
structure State where
  /-- The commands that wait, first in, first out. -/
  pending : List Instr
  /-- The model's own counter of free values drawn (`Config.freeBits`); no state of the device. -/
  free : Nat
  /-- What the last command put on pins, lanes and ports. -/
  emitted : List Emission
  /-- Device time in ns (R48), with its fraction. -/
  now : Rat
  /-- The sum of the steps device time has made (R48): timers run on device time less this. -/
  stepped : Rat
  /-- The output frequency offset the DPLL sets, in 10^-12 of OSC_IN nominal (R27, R89). -/
  freqNow : Rat
  mode : Mode
  /-- Element registers: the dictionary store and the active sets (R235, R475). -/
  dict : SMap Word
  /-- The shadow sets of the banked elements (R235). -/
  shadow : SMap Word
  /-- Banked elements as they are on air: routes per output, head and audio state in force (R238, R370). -/
  onAir : SMap Word
  /-- Elements longer than 64 bytes: salvo images, cursor images. -/
  blobs : SMap (List Byte)
  /-- Values replaced less than 2 µs ago: commit time, key, old value (R425). -/
  recent : List (Rat × Nat × Word)
  planes : SMap Plane
  events : List Event
  /-- Commit-order number the next event takes (R57). -/
  order : Nat
  /-- The banks' flags, by scope bit (R237-R250). -/
  banks : SMap BankSt
  lastRefusal : Nat
  moves : List Move
  req : ReqSt
  keys : KeySt
  log : LogSt
  faults : FaultSt
  dbg : DebugSt
  boot : BootSt
  wake : WakeSt
  pair : PairSt
  windows : SMap WindowOp
  /-- The timebase: candidates, selector, DPLL, ballast (R65-R93). -/
  ref : RefSt
  /-- The lanes (R107-R132). -/
  lanes : SMap LaneSt
  /-- The synthesisers, A of quad q at 2q and B at 2q + 1 (R94, R100). -/
  synths : SMap Synth
  /-- Tether ports (0-7) and the bridle (8) that stay down for a port alignment fault (R123). -/
  portFault : List Nat
  /-- Cell memory, by fabric source (R203). -/
  cells : SMap Cells
  /-- Input flows (R139-R278). -/
  ins : SMap InFlow
  /-- Output flows (R152-R247). -/
  outs : SMap OutFlow
  /-- Remote routes, by input flow (R400). -/
  remote : SMap Remote
  /-- AIN bus slots that the active spool puts in domain B, as [first, past the last) (R291). -/
  busSlotsB : List (Nat × Nat)
  /-- AIN sources that the active has declared lost (R320, R321), as KIND, owner and channel group. -/
  silent : List Nat
  /-- Samples that wait to be presented, by AIN slot, each with its period of the grid (R184, R293). -/
  ainIn : SMap (List (Int × Nat))
  /-- The last frames that each generator wrote, oldest first (R206, R207). -/
  gens : SMap (List GenShot)
  /-- The ARP cache (R163). -/
  arp : List Arp
  /-- IGMP state (R164). -/
  igmp : List Igmp
  /-- Receive entries (R166). -/
  rx : SMap RxSt
  /-- Send entries (R170). -/
  tx : SMap TxSt
  /-- Samples that wait in the input bridges, by AIN slot (R184, R298). -/
  bridgeIn : SMap (List Nat)
  /-- The values last driven on AOUT slots, oldest first (R185, R309). -/
  aoutOut : SMap (List Nat)
  /-- AIN slots (R290, R293). -/
  ain : SMap AinSlot
  /-- AOUT slots (R309). -/
  aout : SMap AoutSlot
  /-- Gains of side-tone inputs, input i of path p at 4p + i (R317). -/
  sideGains : SMap GainSt
  /-- The last period of the grid that the audio engine ran (R293). -/
  period : Option Int
  /-- Meters: AIN slot n at n, AOUT slot n at 0x10000 + n, spool meter m at 0x20000 + m. -/
  meters : SMap Meter
  /-- The 10 ms interval the meters fill (R319). -/
  meterAt : Int
  /-- Bridges: input instances from 0, output instances from 0x1000 (R300). -/
  bridges : SMap Bridge
  /-- Audio ports: AP00-AP15 at 0-15, the Exair port of 0x7310:p at 16 + p. -/
  audioPorts : SMap PortSt
  /-- The two spool banks (R342). -/
  spools : SMap SpoolBank
  /-- The mix engine. -/
  mix : MixSt
  /-- Layers, layer l of head h at 64h + l (R357). -/
  layers : SMap LayerSt
  /-- Heads (R351). -/
  heads : SMap HeadSt
  /-- Static graphics (R371). -/
  gfx : GraphicsSt
  /-- Lines of the last frames of sources that stagers and captures read (R364, R373). -/
  feeds : SMap (List CellLine)
  /-- Meter readings before the last interval end, by element key, and that interval's end (R378). -/
  meterOld : SMap Word
  meterStamp : Rat
  /-- The cascade (R385-R413). -/
  tether : TetherSt
  /-- The windows' bytes, by window and offset (R286). -/
  winBytes : SMap (SMap Byte)
  /-- The window frame that a generator writes in place of its pattern (R486). -/
  inserted : SMap (List (List Nat))
  /-- The field bank and the supply and line monitor (R592-R605). -/
  fieldBank : FieldSt
deriving DecidableEq, Repr

/-- Reasons a step stops: the model raises none of them for ordinary data. -/
inductive Fault where
  /-- Raised by a physical event whose operand names a unit the device does not have (a lane above L191, a flow above
  2047 and so on, R29). Safe: no such event exists. -/
  | noSuchUnit
deriving DecidableEq, Repr

/-- Reasons a command is refused by the model. -/
inductive Refusal where
  /-- Raised by `exec` for a command that has no meaning yet. Safe. -/
  | notModelled (mnemonic : String)
deriving DecidableEq, Repr

/-- What an unlisted key of each table holds. -/
def planeD (_ : Nat) : Plane := {}
def bankD (_ : Nat) : BankSt := {}
def srcD (_ : Nat) : FaultSrc := {}
def windowD (_ : Nat) : WindowOp := {}
def natD (_ : Nat) : Nat := 0
def ratD (_ : Nat) : Rat := 0
def bytesD (_ : Nat) : List Byte := []
def compareD (_ : Nat) : Compare := {}
def candD (_ : Nat) : Cand := {}
def ptpD (_ : Nat) : Ptp := {}
def pairD (_ : Nat) : Nat × Rat := (0, 0)
def laneD (_ : Nat) : LaneSt := {}
def synthD (_ : Nat) : Synth := {}
def cellsD (_ : Nat) : Cells := {}
def inD (_ : Nat) : InFlow := {}
def outD (_ : Nat) : OutFlow := {}
def remoteD (_ : Nat) : Remote := {}
def ainInD (_ : Nat) : List (Int × Nat) := []
def genD (_ : Nat) : List GenShot := []
def rxD (_ : Nat) : RxSt := {}
def txD (_ : Nat) : TxSt := {}
def natsD (_ : Nat) : List Nat := []
def ainSlotD (_ : Nat) : AinSlot := {}
def aoutSlotD (_ : Nat) : AoutSlot := {}
def meterD (_ : Nat) : Meter := {}
def bridgeD (_ : Nat) : Bridge := {}
def audioPortD (_ : Nat) : PortSt := {}
def spoolBankD (_ : Nat) : SpoolBank := {}
def gainD (_ : Nat) : GainSt := {}
def intD (_ : Nat) : Int := 0
def biquadD (_ : Nat) : Int × Int := (0, 0)
def lineD (_ : Nat) : Nat × List Nat := (0, [])
def layerD (_ : Nat) : LayerSt := {}
def headD (_ : Nat) : HeadSt := {}
def spriteD (_ : Nat) : Sprite := {}
def feedD (_ : Nat) : List CellLine := []
def tportD (_ : Nat) : TetherPort := {}
def byteD (_ : Nat) : Byte := 0
def winD (_ : Nat) : SMap Byte := []
def wordsD (_ : Nat) : List (List Nat) := []
def fieldLineD (_ : Nat) : FieldLine := {}

/-- The device at the release of PORST_N (R48, R497, R524): mode BOOT, device time zero, every element at its reset
value, the log empty, the straps sampled low. -/
def State.reset : State where
  pending := []
  free := 0
  emitted := []
  now := 0
  stepped := 0
  freqNow := 0
  mode := .boot
  dict := []
  shadow := []
  onAir := []
  blobs := []
  recent := []
  planes := []
  events := []
  order := 0
  banks := []
  lastRefusal := 0
  moves := []
  req := {}
  keys := { identity := some Config.identityKey }
  log := {}
  faults := {}
  dbg := {}
  boot := {}
  wake := {}
  pair := {}
  windows := []
  ref := {}
  lanes := []
  synths := []
  portFault := []
  cells := []
  ins := []
  outs := []
  remote := []
  busSlotsB := []
  silent := []
  ainIn := []
  gens := []
  arp := []
  igmp := []
  rx := []
  tx := []
  bridgeIn := []
  aoutOut := []
  ain := []
  aout := []
  sideGains := []
  period := none
  meters := []
  meterAt := 0
  bridges := []
  audioPorts := []
  spools := []
  mix := {}
  layers := []
  heads := []
  gfx := {}
  feeds := []
  meterOld := []
  meterStamp := 0
  tether := {}
  winBytes := []
  inserted := []
  fieldBank := {}

end Sys2Proof.Machine
end

