-- ==== Sys2Proof/Machine/LineCode.lean ====
section
/-! DEFINITION. The tether and bridle line code (R113-R120): blocks, the RS(544,514) code, scrambling, Gray mapping,
precoding, transition symbols, commas and markers, each with the receiver's undoing of it; and the channel code of SDI
lanes (R106). Bits go first bit first: of a block its header, then payload bit [255] down to [0]; the ten bits of a symbol
of the Reed-Solomon code from the most significant (DEDUCED from R116 and R119, which send the more significant first). -/

namespace Sys2Proof.Machine

/-! GF(2^10) and the Reed-Solomon code (R114). The polynomials are those of IEEE 802.3 Clause 91 (PRESUMED): the field is
x^10 + x^3 + 1, and the generator has the roots 1, alpha, ..., alpha^29. -/

/-- The product in GF(2^10). -/
def gfMul (a b : Nat) : Nat :=
  if a = 0 ∨ b = 0 then 0
  else (List.range 10).foldl (fun r i =>
    let r := 2 * r
    let r := if 1024 ≤ r then r ^^^ 0x409 else r
    if bit b (9 - i) then r ^^^ a else r) 0

/-- alpha^n. -/
def gfPow : Nat → Nat
  | 0 => 1
  | n + 1 => gfMul 2 (gfPow n)

/-- a^(2^k) squared k times, multiplied up: a^1022, the inverse of a. -/
def gfInv (a : Nat) : Nat :=
  ((List.range 9).foldl (fun (e : Nat × Nat) _ =>
    let sq := gfMul e.1 e.1
    (sq, gfMul e.2 sq)) (a, 1)).2

/-- A polynomial's value at `x`, lowest coefficient first. -/
def gfEval (p : List Nat) (x : Nat) : Nat := p.foldr (fun c v => gfMul v x ^^^ c) 0

/-- `p + c x^m q`, lowest coefficient first. -/
def gfAddScaled (p : List Nat) (c m : Nat) (q : List Nat) : List Nat :=
  (List.range (max p.length (m + q.length))).map fun i =>
    p.getD i 0 ^^^ (if i < m then 0 else gfMul c (q.getD (i - m) 0))

/-- The generator polynomial of degree 30, lowest coefficient first. -/
def rsGenerator : List Nat := (List.range 30).foldl (fun g i => gfAddScaled (0 :: g) (gfPow i) 0 g) [1]

/-- The 30 parity symbols of a message of 514, highest power first. -/
def rsParity (msg : List Nat) : List Nat :=
  let g := (rsGenerator.take 30).reverse
  msg.foldl (fun r m =>
    let f := m ^^^ r.headD 0
    ((r.drop 1) ++ [0]).zipWith (fun x c => x ^^^ gfMul f c) g) (List.replicate 30 0)

/-- The 30 syndromes of a received word of 544 symbols, highest power first. -/
def rsSyndromes (w : List Nat) : List Nat :=
  (List.range 30).map fun j => let x := gfPow j; w.foldl (fun v c => gfMul v x ^^^ c) 0

/-- One step of the Berlekamp-Massey algorithm: connection polynomial, its last, the length, the gap, the last
discrepancy. -/
def rsLocate (syn : List Nat) (st : List Nat × List Nat × Nat × Nat × Nat) (n : Nat) : List Nat × List Nat × Nat × Nat × Nat :=
  let (c, b, len, m, db) := st
  let d := (List.range (len + 1)).foldl (fun v i => v ^^^ gfMul (c.getD i 0) (if i ≤ n then syn.getD (n - i) 0 else 0)) 0
  if d = 0 then (c, b, len, m + 1, db)
  else
    let c' := gfAddScaled c (gfMul d (gfInv db)) m b
    if 2 * len ≤ n then (c', c, n + 1 - len, 1, d) else (c', b, len, m + 1, db)

/-- A received word corrected (R114), with the number of symbols corrected: up to 15. None: uncorrectable. -/
def rsCorrect (w : List Nat) : Option (List Nat × Nat) :=
  let syn := rsSyndromes w
  if syn.all (· == 0) then some (w, 0)
  else
    let (loc, _, len, _, _) := (List.range 30).foldl (rsLocate syn) ([1], [1], 0, 1, 1)
    if 15 < len then none
    else
      let omega := (List.range 30).map fun k =>
        (List.range (k + 1)).foldl (fun v i => v ^^^ gfMul (loc.getD i 0) (syn.getD (k - i) 0)) 0
      let deriv := (List.range loc.length).map fun i => if i % 2 = 0 then loc.getD (i + 1) 0 else 0
      let fixed := (w.zipIdx).map fun (c, i) =>
        let x := gfPow (543 - i)
        let xi := gfInv x
        if gfEval loc xi = 0 then c ^^^ gfMul x (gfMul (gfEval omega xi) (gfInv (gfEval deriv xi))) else c
      if (rsSyndromes fixed).all (· == 0) && decide (((w.zip fixed).filter fun e => e.1 != e.2).length ≤ 15) then
        some (fixed, ((w.zip fixed).filter fun e => e.1 != e.2).length)
      else none

/-! Blocks and codewords (R113, R114). -/

/-- The low `n` bits of a word, most significant first. -/
def bitList (n : Nat) (w : Word) : List Bool := (List.range n).map fun i => bit w (n - 1 - i)

/-- The word that bits spell, most significant first. -/
def bitWord (l : List Bool) : Word := l.foldl (fun v b => 2 * v + ofBool b) 0

/-- A 257-bit block: the header bit before the payload. -/
def blockBits (b : LineBlock) : List Bool := b.1 :: bitList 256 b.2

/-- `n` ten-bit symbols of a word of 10 n bits, first symbol first. -/
def symbolsOf (n : Nat) (w : Word) : List Nat := (List.range n).map fun i => bits w (10 * (n - 1 - i) + 9) (10 * (n - 1 - i))

/-- The parity bits of the codeword of 20 blocks. -/
def parityBits (bs : List LineBlock) : List Bool :=
  (rsParity (symbolsOf 514 (bitWord (bs.flatMap blockBits)))).flatMap (bitList 10)

/-- The codeword bits of blocks that follow `held`, the blocks of a codeword sent already: each block, and the parity after
each twentieth (R113, R118). -/
def codeBits : List LineBlock → List LineBlock → List Bool
  | _, [] => []
  | held, b :: bs =>
    if held.length = 19 then blockBits b ++ parityBits (held ++ [b]) ++ codeBits [] bs
    else blockBits b ++ codeBits (held ++ [b]) bs

/-- The blocks of the codeword in hand after more blocks. -/
def heldAfter : List LineBlock → List LineBlock → List LineBlock
  | held, [] => held
  | held, b :: bs => if held.length = 19 then heldAfter [] bs else heldAfter (held ++ [b]) bs

/-! Scrambling, Gray mapping, precoding and transition symbols (R115-R117). -/

/-- The scrambler's seed at the end of every marker (R115). -/
abbrev scrambleSeed : Nat := 0x3FFFFFFFFFFFFFF

/-- The scrambler's bit for a state of 58 bits, x^58 + x^39 + 1, and the state advanced by it (R115). -/
def scrambleBit (st : Nat) : Bool := xor (bit st 57) (bit st 38)
def scrambleNext (st : Nat) : Nat := (2 * st + ofBool (scrambleBit st)) % 2 ^ 58

/-- The level of a bit pair, the first bit more significant, and the pair of a level (R116). -/
def grayLevel (a b : Bool) : Nat := if a then (if b then 2 else 3) else if b then 1 else 0
def grayBits (level : Nat) : Bool × Bool := (decide (2 ≤ level), level == 1 || level == 2)

/-- y(i) = (g(i) - y(i-1)) mod 4, and g from y (R116). -/
def precode (g last : Nat) : Nat := (g + 4 - last % 4) % 4
def unprecode (y last : Nat) : Nat := (y + last) % 4

/-- The levels of codeword bits after a marker (R115-R117): `st` the scrambler, `last` the precoder, `run` the precoded
symbols since the last transition symbol. -/
def codeLevels (st last run : Nat) : List Bool → List Nat
  | a :: b :: rest =>
    let st' := scrambleNext st
    let y := precode (grayLevel (xor a (scrambleBit st)) (xor b (scrambleBit st'))) last
    if run = 22 then y :: (y + 2) % 4 :: codeLevels (scrambleNext st') y 0 rest
    else y :: codeLevels (scrambleNext st') y (run + 1) rest
  | _ => []

/-! Commas, markers and training (R118, R119, R125). -/

/-- 32 symbols of level 3, then 32 of level 0 (R118). -/
def commaLevels : List Nat := List.replicate 32 3 ++ List.replicate 32 0

/-- A marker's 64 symbols (R119): most significant bit first, 0 as levels 1, 2 and 1 as levels 2, 1. -/
def markerLevels (w : Word) : List Nat := (bitList 32 w).flatMap fun b => if b then [2, 1] else [1, 2]

/-- The marker word of 64 symbols, none where two symbols are no marker bit. -/
def markerOfLevels : List Nat → Option Word
  | ls => if markerLevels (bitWord ((List.range 32).map fun i => ls.getD (2 * i) 0 == 2)) == ls then
      some (bitWord ((List.range 32).map fun i => ls.getD (2 * i) 0 == 2)) else none

/-- PRBS13 of IEEE 802.3 Clause 120, 1 + x + x^2 + x^12 + x^13, from `st` of 13 bits. -/
def prbs13 : Nat → Nat → List Bool
  | 0, _ => []
  | n + 1, st =>
    let b := xor (xor (bit st 0) (bit st 1)) (xor (bit st 11) (bit st 12))
    b :: prbs13 n ((2 * st + ofBool b) % 2 ^ 13)

/-- The levels of bits Gray-mapped without precoding. -/
def plainLevels : List Bool → List Nat
  | a :: b :: rest => grayLevel a b :: plainLevels rest
  | _ => []

/-- The training burst (R125): the first 128 symbols of PRBS13Q. The standard's own start of the pattern is PRESUMED. -/
def trainingBurst : List Nat := plainLevels (prbs13 256 0x1FFF)

/-- A reversed pair's levels (R122): 0 and 3, 1 and 2 change places. -/
def invertLevels (l : List Nat) : List Nat := l.map fun y => 3 - y

/-- The CRC-7 of R119, over bits [31:7]. -/
def crc7 (w : Word) : Nat :=
  (List.range 25).foldl (fun c i =>
    let fb := xor (bit c 6) (bit w (31 - i))
    let c := c * 2 % 128
    if fb then c ^^^ 0x09 else c) 0

/-- A marker with a valid CRC. -/
def markerOk (w : Word) : Bool := decide (w < 2 ^ 32) && crc7 w == bits w 6 0

/-! The receiver (R113, R118, R120). -/

/-- The data symbols of a comma period that starts with `phase` blocks of its codeword sent (R118): its blocks, and the
parity of the codewords it completes; and with them the transition symbols, all that comes before the next comma. -/
def periodData (phase : Nat) : Nat := (16384 * 257 + (phase + 16384) / 20 * 300) / 2
def periodSymbols (phase : Nat) : Nat := periodData phase + periodData phase / 23

/-- A receiver that has acquired alignment at a marker (R118, R120): its counts from their restart values, the interrupted
codeword to be discarded. -/
def lineAligned (phase : Nat) : LineRx := { got := phase * 257, skip := decide (0 < phase), phase := phase }

/-- A codeword closed (R114): its 20 blocks corrected and delivered, or delivered as they came under the uncorrectable
mark; one whose start was not seen is discarded. -/
def closeCodeword (r : LineRx) : LineRx :=
  let w := symbolsOf 544 r.acc
  let blocks (m : List Nat) : List LineBlock :=
    let n := m.foldl (fun v c => 1024 * v + c) 0
    (List.range 20).map fun i => (bit n (257 * (19 - i) + 256), bits n (257 * (19 - i) + 255) (257 * (19 - i)))
  let r := { r with got := 0, acc := 0, skip := false }
  if r.skip then r else r |> fun r =>
    match rsCorrect w with
    | some (m, n) => { r with words := r.words ++ [some n], delivered := (blocks (m.take 514)).map fun b => (b, false) }
    | none => { r with words := r.words ++ [none], delivered := (blocks (w.take 514)).map fun b => (b, true) }

/-- A receiver's scrambler, precoder and transition count start again at the end of a marker (R115-R118). -/
def LineRx.restart (r : LineRx) (phase : Nat) : LineRx :=
  { r with scr := scrambleSeed, last := 0, run := 0, pos := 0, phase := phase, tail := [] }

/-- One data symbol undone (R113): precoding, Gray mapping, scrambling. -/
def LineRx.data (r : LineRx) (y : Nat) : LineRx :=
  let g := grayBits (unprecode y r.last)
  let st := scrambleNext r.scr
  let r := { r with
    scr := scrambleNext st, last := y, run := r.run + 1, pos := r.pos + 1, got := r.got + 2
    acc := 4 * r.acc + 2 * ofBool (xor g.1 (scrambleBit r.scr)) + ofBool (xor g.2 (scrambleBit st)) }
  if r.got = 5440 then closeCodeword r else r

/-- One symbol received on an aligned lane (R117, R118, R120): data, a transition symbol, or a symbol of the comma and
marker that stand where R118 puts them. -/
def LineRx.symbol (r : LineRx) (y : Nat) : LineRx :=
  if periodSymbols r.phase ≤ r.pos then
    let tail := r.tail ++ [y]
    if tail.length < 128 then { r with tail := tail }
    else
      let found := if tail.take 64 == commaLevels then (markerOfLevels (tail.drop 64)).filter markerOk else none
      { r with commas := r.commas ++ [found] }.restart ((r.phase + 4) % 20)
  else if r.run = 23 then { r with run := 0, pos := r.pos + 1 }
  else r.data y

/-- Symbols received in turn; the codewords closed and the commas found before are cleared. -/
def LineRx.feed (r : LineRx) (levels : List Nat) : LineRx :=
  levels.foldl LineRx.symbol { r with words := [], commas := [] }

/-! SDI channel coding (R106). -/

/-- NRZI: a one changes the level, a zero keeps it; and its undoing, at either polarity. -/
def nrzi : Bool → List Bool → List Bool
  | _, [] => []
  | level, b :: rest => xor level b :: nrzi (xor level b) rest
def unNrzi : Bool → List Bool → List Bool
  | _, [] => []
  | last, x :: rest => xor last x :: unNrzi x rest

/-- Code 0x01 sends each bit as 11 identical samples, and decides each received bit on its centre sample (R106). -/
def sdSamples (l : List Bool) : List Bool := l.flatMap fun b => List.replicate 11 b
def sdDecide (l : List Bool) : List Bool := (List.range (l.length / 11)).map fun i => l.getD (11 * i + 5) false

end Sys2Proof.Machine
end

