-- ==== Sys2Proof/Machine/Crypto.lean ====
section
/-! DEFINITION. The check and tag functions the spec names: CRC-32C (R200, R434, R468, R567), the AES-128-CMAC tag of
RFC 4493 (R472), and SHA-512 (R530, R570). -/

namespace Sys2Proof.Machine

/-- Eight steps of the CRC-32C register (reflected polynomial 0x82F63B78). -/
def crcStep (c : Nat) : Nat → Nat
  | 0 => c
  | n + 1 => crcStep (if c % 2 = 1 then (c / 2) ^^^ 0x82F63B78 else c / 2) n

/-- CRC-32C of bytes. -/
def crc32c (l : List Byte) : Word :=
  (l.foldl (fun c b => crcStep (c ^^^ b.toNat) 8) 0xFFFFFFFF) ^^^ 0xFFFFFFFF

/-- The AES S-box, entry i in bits [8i+7:8i]. -/
def aesSboxWord : Nat :=
  0x16BB54B00F2D99416842E6BF0D89A18CDF2855CEE9871E9B948ED9691198F8E19E1DC186B95735610EF6034866B53E708A8BBD4B1F74DDE8C6B4A61C2E2578BA08AE7A65EAF4566CA94ED58D6D37C8E779E4959162ACD3C25C2406490A3A32E0DB0B5EDE14B8EE4688902A22DC4F816073195D643D7EA7C41744975FEC130CCDD2F3FF1021DAB6BCF5389D928F40A351A89F3C507F02F94585334D43FBAAEFD0CF584C4A39BECB6A5BB1FC20ED00D153842FE329B3D63B52A05A6E1B1A2C830975B227EBE28012079A059618C323C7041531D871F1E5A534CCF73F362693FDB7C072A49CAFA2D4ADF04759FA7DC982CA76ABD7FE2B670130C56F6BF27B777C63

def aesSub (b : Nat) : Nat := aesSboxWord / 2 ^ (8 * b) % 256

/-- Multiplication by x in the AES field. -/
def aesX (b : Nat) : Nat := (if b < 128 then 2 * b else (2 * b) ^^^ 0x11B) % 256

/-- The next round key from the last (16 bytes) and the round constant. -/
def aesNextKey (k : List Nat) (rcon : Nat) : List Nat :=
  let g (i : Nat) := k.getD i 0
  let t : List Nat := [aesSub (g 13) ^^^ rcon, aesSub (g 14), aesSub (g 15), aesSub (g 12)]
  let w0 := (List.range 4).map fun i => g i ^^^ t.getD i 0
  let w1 := (List.range 4).map fun i => g (4 + i) ^^^ w0.getD i 0
  let w2 := (List.range 4).map fun i => g (8 + i) ^^^ w1.getD i 0
  let w3 := (List.range 4).map fun i => g (12 + i) ^^^ w2.getD i 0
  w0 ++ w1 ++ w2 ++ w3

def xorBytes (a b : List Nat) : List Nat := List.zipWith (· ^^^ ·) a b

def aesShiftRows (s : List Nat) : List Nat :=
  (List.range 16).map fun i => s.getD ((i + 4 * (i % 4)) % 16) 0

def aesMixColumn (c : List Nat) : List Nat :=
  (List.range 4).map fun i =>
    let a (j : Nat) := c.getD ((i + j) % 4) 0
    aesX (a 0) ^^^ (aesX (a 1) ^^^ a 1) ^^^ a 2 ^^^ a 3

def aesMix (s : List Nat) : List Nat :=
  aesMixColumn (s.take 4) ++ aesMixColumn ((s.drop 4).take 4) ++ aesMixColumn ((s.drop 8).take 4) ++
    aesMixColumn (s.drop 12)

/-- `n` rounds left of AES-128: the last leaves out MixColumns. -/
def aesRounds (st key : List Nat) (rcon : Nat) : Nat → List Nat
  | 0 => st
  | n + 1 =>
    let k' := aesNextKey key rcon
    let s' := aesShiftRows (st.map aesSub)
    aesRounds (xorBytes (if n = 0 then s' else aesMix s') k') k' (aesX rcon) n

/-- AES-128 of one block. -/
def aes128 (key block : List Nat) : List Nat := aesRounds (xorBytes block key) key 1 10

/-- Doubling in the CMAC field of RFC 4493. -/
def cmacDouble (b : List Nat) : List Nat :=
  let v := b.foldl (fun a x => a * 256 + x) 0
  let d := (2 * v) % 2 ^ 128
  (toBytes 16 (if v < 2 ^ 127 then d else d ^^^ 0x87)).map BitVec.toNat

/-- The CBC chain over whole blocks, `fuel` bounding their number; the last block is masked with a subkey. -/
def cmacChain (key k1 k2 : List Nat) : Nat → List Nat → List Nat → List Nat
  | 0, x, _ => x
  | f + 1, x, m =>
    if m.length > 16 then cmacChain key k1 k2 f (aes128 key (xorBytes x (m.take 16))) (m.drop 16)
    else if m.length = 16 then aes128 key (xorBytes x (xorBytes m k1))
    else
      let padded := m ++ [0x80] ++ List.replicate (15 - m.length) 0
      aes128 key (xorBytes x (xorBytes padded k2))

/-- The tag of R472: the most significant 64 bits of AES-128-CMAC (RFC 4493) under a 16-byte key. -/
def cmacTag (key : Nat) (msg : List Byte) : Word :=
  let k := (toBytes 16 key).map BitVec.toNat
  let zero := List.replicate 16 0
  let k1 := cmacDouble (aes128 k zero)
  let k2 := cmacDouble k1
  let m := msg.map BitVec.toNat
  ((cmacChain k k1 k2 (m.length + 1) zero m).take 8).foldl (fun a x => a * 256 + x) 0

def shaK0 : List Nat := [0x428A2F98D728AE22, 0x7137449123EF65CD, 0xB5C0FBCFEC4D3B2F, 0xE9B5DBA58189DBBC,
  0x3956C25BF348B538, 0x59F111F1B605D019, 0x923F82A4AF194F9B, 0xAB1C5ED5DA6D8118, 0xD807AA98A3030242,
  0x12835B0145706FBE, 0x243185BE4EE4B28C, 0x550C7DC3D5FFB4E2, 0x72BE5D74F27B896F, 0x80DEB1FE3B1696B1,
  0x9BDC06A725C71235, 0xC19BF174CF692694]
def shaK1 : List Nat := [0xE49B69C19EF14AD2, 0xEFBE4786384F25E3, 0xFC19DC68B8CD5B5, 0x240CA1CC77AC9C65,
  0x2DE92C6F592B0275, 0x4A7484AA6EA6E483, 0x5CB0A9DCBD41FBD4, 0x76F988DA831153B5, 0x983E5152EE66DFAB,
  0xA831C66D2DB43210, 0xB00327C898FB213F, 0xBF597FC7BEEF0EE4, 0xC6E00BF33DA88FC2, 0xD5A79147930AA725,
  0x6CA6351E003826F, 0x142929670A0E6E70]
def shaK2 : List Nat := [0x27B70A8546D22FFC, 0x2E1B21385C26C926, 0x4D2C6DFC5AC42AED, 0x53380D139D95B3DF,
  0x650A73548BAF63DE, 0x766A0ABB3C77B2A8, 0x81C2C92E47EDAEE6, 0x92722C851482353B, 0xA2BFE8A14CF10364,
  0xA81A664BBC423001, 0xC24B8B70D0F89791, 0xC76C51A30654BE30, 0xD192E819D6EF5218, 0xD69906245565A910,
  0xF40E35855771202A, 0x106AA07032BBD1B8]
def shaK3 : List Nat := [0x19A4C116B8D2D0C8, 0x1E376C085141AB53, 0x2748774CDF8EEB99, 0x34B0BCB5E19B48A8,
  0x391C0CB3C5C95A63, 0x4ED8AA4AE3418ACB, 0x5B9CCA4F7763E373, 0x682E6FF3D6B2B8A3, 0x748F82EE5DEFB2FC,
  0x78A5636F43172F60, 0x84C87814A1F0AB72, 0x8CC702081A6439EC, 0x90BEFFFA23631E28, 0xA4506CEBDE82BDE9,
  0xBEF9A3F7B2C67915, 0xC67178F2E372532B]
def shaK4 : List Nat := [0xCA273ECEEA26619C, 0xD186B8C721C0C207, 0xEADA7DD6CDE0EB1E, 0xF57D4F7FEE6ED178,
  0x6F067AA72176FBA, 0xA637DC5A2C898A6, 0x113F9804BEF90DAE, 0x1B710B35131C471B, 0x28DB77F523047D84,
  0x32CAAB7B40C72493, 0x3C9EBE0A15C9BEBC, 0x431D67C49C100D4C, 0x4CC5D4BECB3E42B6, 0x597F299CFC657E2A,
  0x5FCB6FAB3AD6FAEC, 0x6C44198C4A475817]

/-- The eighty round constants of SHA-512. -/
def shaK : List Nat := shaK0 ++ shaK1 ++ shaK2 ++ shaK3 ++ shaK4

def shaInit : List Nat := [0x6A09E667F3BCC908, 0xBB67AE8584CAA73B, 0x3C6EF372FE94F82B, 0xA54FF53A5F1D36F1,
  0x510E527FADE682D1, 0x9B05688C2B3E6C1F, 0x1F83D9ABFB41BD6B, 0x5BE0CD19137E2179]

def rotr64 (x n : Nat) : Nat := (x / 2 ^ n) ||| (x * 2 ^ (64 - n) % 2 ^ 64)

/-- The message schedule, newest word first, grown by `n` words. -/
def shaSchedule : Nat → List Nat → List Nat
  | 0, w => w
  | n + 1, w =>
    let g (i : Nat) := w.getD i 0
    let s0 := rotr64 (g 14) 1 ^^^ rotr64 (g 14) 8 ^^^ (g 14 / 2 ^ 7)
    let s1 := rotr64 (g 1) 19 ^^^ rotr64 (g 1) 61 ^^^ (g 1 / 2 ^ 6)
    shaSchedule n (((g 15 + s0 + g 6 + s1) % 2 ^ 64) :: w)

/-- One round of SHA-512 on the eight working words. -/
def shaRound (h : List Nat) (kw : Nat) : List Nat :=
  match h with
  | [a, b, c, d, e, f, g, hh] =>
    let s1 := rotr64 e 14 ^^^ rotr64 e 18 ^^^ rotr64 e 41
    let ch := (e &&& f) ^^^ ((e ^^^ (2 ^ 64 - 1)) &&& g)
    let t1 := hh + s1 + ch + kw
    let s0 := rotr64 a 28 ^^^ rotr64 a 34 ^^^ rotr64 a 39
    let mj := (a &&& b) ^^^ (a &&& c) ^^^ (b &&& c)
    [(t1 + s0 + mj) % 2 ^ 64, a, b, c, (d + t1) % 2 ^ 64, e, f, g]
  | _ => h

/-- The words of a 128-byte block. -/
def shaWords : Nat → List Byte → List Nat
  | 0, _ => []
  | n + 1, l => ofBytes (l.take 8) :: shaWords n (l.drop 8)

def shaBlock (h : List Nat) (block : List Byte) : List Nat :=
  let w := (shaSchedule 64 (shaWords 16 block).reverse).reverse
  let h' := (List.zipWith (fun k x => k + x) shaK w).foldl shaRound h
  List.zipWith (fun a b => (a + b) % 2 ^ 64) h h'

def shaBlocks : Nat → List Nat → List Byte → List Nat
  | 0, h, _ => h
  | n + 1, h, l => shaBlocks n (shaBlock h (l.take 128)) (l.drop 128)

/-- SHA-512 of bytes, as 64 bytes. -/
def sha512 (m : List Byte) : List Byte :=
  let pad := (239 - m.length % 128) % 128
  let whole := m ++ [0x80#8] ++ List.replicate pad 0#8 ++ toBytes 16 (8 * m.length)
  (shaBlocks (whole.length / 128) shaInit whole).flatMap (toBytes 8)

/-- Whether a 64-byte Ed25519 signature verifies over a message. -/
def ed25519Ok (key : BitVec 256) (msg sig : List Byte) : Bool :=
  decide (sig.length = 64) && Config.ed25519Verify key msg (BitVec.ofNat 512 (ofBytes sig))

/-- The same over the SHA-512 of a message (R570, R572). -/
def signatureOk (key : BitVec 256) (msg sig : List Byte) : Bool := ed25519Ok key (sha512 msg) sig

end Sys2Proof.Machine
end

