-- ==== Sys2Proof/Machine/Operands.lean ====
section
/-! DEFINITION. How elements, planes, banks and the other tables of the state are read and written: one accessor each
way, so that special behaviour has one home (R41, R236, R425). -/

namespace Sys2Proof.Machine

/-- The value an element register holds now (the active value of a banked element, R236). -/
def State.elem (s : State) (idx sub : Nat) : Word := mapGet keyReset s.dict (ekey idx sub)

/-- A field of an element register. -/
def State.field (s : State) (idx sub hi lo : Nat) : Nat := bits (s.elem idx sub) hi lo

/-- Bit [n] of an element register. -/
def State.flag (s : State) (idx sub n : Nat) : Bool := bit (s.elem idx sub) n

/-- The register changed with no note of the old value: report elements and counters. -/
def State.put (s : State) (idx sub : Nat) (v : Word) : State :=
  { s with dict := mapSet keyReset s.dict (ekey idx sub) v }

/-- A field of a report element changed. -/
def State.putField (s : State) (idx sub hi lo : Nat) (v : Nat) : State :=
  s.put idx sub (setBits (s.elem idx sub) hi lo v)

/-- A bit of a report element changed. -/
def State.putFlag (s : State) (idx sub n : Nat) (b : Bool) : State :=
  s.put idx sub (setBit (s.elem idx sub) n b)

/-- A U32 counter that wraps, one up. -/
def State.count (s : State) (idx sub : Nat) : State := s.put idx sub (wrapAdd 32 (s.elem idx sub) 1)

/-- A U32 counter that wraps, `n` up. -/
def State.countBy (s : State) (idx sub n : Nat) : State := s.put idx sub (wrapAdd 32 (s.elem idx sub) n)

/-- A U64 counter that wraps, `n` up. -/
def State.count64 (s : State) (idx sub n : Nat) : State := s.put idx sub (wrapAdd 64 (s.elem idx sub) n)

/-- The clock of the device's timers: steered time since the release of PORST_N, which no step of device time moves. -/
def State.up (s : State) : Rat := s.now - s.stepped

/-- How long after its commit a change acts on essence, samples, lanes and pins, in ns (R425). -/
def effectDelay : Rat := 2000

/-- A committed change of a configuration element: reads see it at once, essence 2 µs later (R425), so the old value is
kept for that time. -/
def State.commit (s : State) (idx sub : Nat) (v : Word) : State :=
  { s with
    dict := mapSet keyReset s.dict (ekey idx sub) v
    recent := (s.recent.filter fun r => decide (s.up < r.1 + effectDelay)) ++ [(s.up, ekey idx sub, s.elem idx sub)] }

/-- The value of a configuration element as it acts on essence, samples, lanes and pins now (R425): the oldest value
replaced less than 2 µs ago, else the register's own. -/
def State.eff (s : State) (idx sub : Nat) : Word :=
  match s.recent.find? (fun r => decide (r.2.1 = ekey idx sub) && decide (s.up < r.1 + effectDelay)) with
  | some r => r.2.2
  | none => s.elem idx sub

/-- A field of a configuration element as it acts now. -/
def State.effField (s : State) (idx sub hi lo : Nat) : Nat := bits (s.eff idx sub) hi lo

/-- A bit of a configuration element as it acts now. -/
def State.effFlag (s : State) (idx sub n : Nat) : Bool := bit (s.eff idx sub) n

/-- The shadow value of a banked element (R236). -/
def State.shadowElem (s : State) (idx sub : Nat) : Word := mapGet keyReset s.shadow (ekey idx sub)

/-- A shadow value written (R236). -/
def State.putShadow (s : State) (idx sub : Nat) (v : Word) : State :=
  { s with shadow := mapSet keyReset s.shadow (ekey idx sub) v }

/-- A banked element as it is on air (R238). -/
def State.airElem (s : State) (idx sub : Nat) : Word := mapGet keyReset s.onAir (ekey idx sub)

/-- A banked element put on air. -/
def State.putAir (s : State) (idx sub : Nat) (v : Word) : State :=
  { s with onAir := mapSet keyReset s.onAir (ekey idx sub) v }

/-- The bytes of a long element. -/
def State.blob (s : State) (idx sub : Nat) : List Byte := mapGet bytesD s.blobs (ekey idx sub)

def State.putBlob (s : State) (idx sub : Nat) (b : List Byte) : State :=
  { s with blobs := mapSet bytesD s.blobs (ekey idx sub) b }

def State.plane (s : State) (p : Nat) : Plane := mapGet planeD s.planes p

def State.setPlane (s : State) (p : Nat) (x : Plane) : State := { s with planes := mapSet planeD s.planes p x }

def State.bank (s : State) (b : Nat) : BankSt := mapGet bankD s.banks b

def State.setBank (s : State) (b : Nat) (x : BankSt) : State := { s with banks := mapSet bankD s.banks b x }

def State.source (s : State) (n : Nat) : FaultSrc := mapGet srcD s.faults.src n

def State.setSource (s : State) (n : Nat) (x : FaultSrc) : State :=
  { s with faults := { s.faults with src := mapSet srcD s.faults.src n x } }

def State.window (s : State) (w : Nat) : WindowOp := mapGet windowD s.windows w

def State.setWindow (s : State) (w : Nat) (x : WindowOp) : State :=
  { s with windows := mapSet windowD s.windows w x }

/-- Whether the device is a pair member (R415). -/
def State.paired (s : State) : Bool := s.flag 0x9000 0 31

/-- Whether a member acts as holder of the claim: until a handover's TP the old holder still does (R429, R441). -/
def State.holds (s : State) : Bool := if s.pair.handover.isSome then !s.pair.claimOut else s.pair.claimOut

/-- Whether the device drives its interfaces as holder of the claim (R429, R510): a device that is not a member does. -/
def State.drives (s : State) : Bool := (!s.paired || s.holds) && !s.pair.ripIn

/-- Whether lane transmitters are quiet: every one on the way to DORMANT (R519), all but the bridle's in a quench (R417). -/
def State.laneQuiet (s : State) (lane : Nat) : Bool :=
  (s.pair.ripIn && decide (lane < 188)) ||
    (match s.boot.dormantAt with
     | some t => decide (t + 10000000 ≤ s.up)
     | none => false)

/-- Whether what a lane's own transmitter sends is lost (R127, R128, R417): its driver is held off for a short, or the lane
sends on what it receives. -/
def State.laneMute (s : State) (lane : Nat) : Bool :=
  s.laneQuiet lane || s.flag 0x3200 lane 26 || s.field 0x3400 lane 26 24 == 2

/-- Whether what a tether port sends is lost on one of its lanes (R127, R387). -/
def State.portMute (s : State) (p : Nat) : Bool :=
  (List.range (s.field 0xA100 p 30 28 + 1)).any fun i => s.laneMute (s.field 0xA100 p 27 20 + i)

/-- Whether what the bridle sends is lost on one of its lanes. -/
def State.bridleMute (s : State) : Bool := [188, 189, 190, 191].any s.laneMute

/-- The lanes of the Ethernet group that lane `l` leads, by its rate code (R104). -/
def State.groupLanes (s : State) (l : Nat) : List Nat :=
  if s.field 0x3100 (0x100 + l) 31 24 = 0x14 then [l, l + 1]
  else if s.field 0x3100 (0x100 + l) 31 24 = 0x15 then [l, l + 1, l + 2, l + 3]
  else [l]

/-- Whether an emission is gated now: a quench silences every lane but the bridle's, the audio ports and both field ports
(R417), the serial ports of a member without the claim are at high impedance (R429), and what a lane sends is lost while
its driver is off (R127). -/
def State.silences (s : State) : Emission → Bool
  | .card .. => false
  | .bridle .. => s.bridleMute
  | .pulse .. => false
  | .tdo .. => false
  | .stream .. => false
  | .marker lane _ _ => s.laneMute lane
  | .training lane _ _ => s.laneMute lane
  | .pattern lane _ _ => s.laneMute lane
  | .bitError lane => s.laneMute lane
  | .farLine lane _ => s.laneQuiet lane || s.flag 0x3200 lane 26
  | .farPacket lane _ => s.laneQuiet lane || s.flag 0x3200 lane 26
  | .farLevels lane _ => s.laneQuiet lane || s.flag 0x3200 lane 26
  | .audio .. => s.pair.ripIn
  | .serial .. => s.pair.ripIn || (s.paired && !s.holds)
  | .dumus .. => s.pair.ripIn
  | .tether port _ _ => s.portMute port
  | .hello port _ => s.portMute port
  | .reserve port _ => s.portMute port
  | .cascade port _ => s.portMute port
  | .blocks port _ => s.portMute port
  | .streamState port _ _ => s.portMute port
  | .ethernet lane .. => (s.groupLanes lane).any s.laneMute
  | .rtp _ _ net .. => (s.groupLanes net.lane).any s.laneMute
  | .sdiLine output link .. =>
    s.laneMute (if s.field 0x6000 output 25 24 = 1 then s.field 0x6000 output 15 8 / 4 * 4 + (link - 1)
      else s.field 0x6000 output 15 8)

/-- Whether a frame that starts at device time `t` rests in absent fill (R515, R516, R519). -/
def State.rests (s : State) (t : Rat) : Bool :=
  let r := s.mode == .service || s.boot.dormantAt.isSome
  match s.boot.restAt with
  | some a => if t < a + 2000 then !r else r
  | none => r

/-- Whether a fatal fault stopped everything (R557). -/
def State.allStopped (s : State) : Bool := s.faults.stopped.any fun x => x.what == .all

/-- Whether a fatal fault stopped the frame store, and with it every reader of it (R288, R557). -/
def State.stackStopped (s : State) : Bool := s.faults.stopped.any fun x => x.what == .stack || x.what == .all

/-- Whether a fatal fault stopped the Exair die's paths (R557). -/
def State.exairStopped (s : State) : Bool := s.faults.stopped.any fun x => x.what == .exair

/-- Put something on a pin, lane or port. -/
def State.emit (s : State) (e : Emission) : State :=
  if s.silences e then s else { s with emitted := s.emitted ++ [e] }

/-- A CHANGE or DECISION record of the bridle, sent twice in succession (R421). -/
def State.emitTwice (s : State) (record : Word) (more : List Byte) : State :=
  (s.emit (.bridle record more)).emit (.bridle record more)

/-- The next free value of `w` bits: a value the spec leaves open, with no body in the model. -/
def State.drawn (s : State) (w : Nat) : Nat := (Config.freeBits s.free w).toNat

/-- The counter of free values moved on. -/
def State.draw (s : State) : State := { s with free := s.free + 1 }

/-- Device time in whole ns (R48). -/
def State.ns (s : State) : Int := s.now.floor

end Sys2Proof.Machine
end

