-- ==== Sys2Proof/Machine/Position.lean ====
section
/-! DEFINITION. Planes, positions and frame boundaries (R8-R10, R34-R52): exact rational arithmetic on device time, one
rounding at the last FRAC unit (R49). -/

namespace Sys2Proof.Machine

/-- The exact rate in Hz of a rate code (R37). -/
def rateHz (code : Nat) : Rat :=
  match code with
  | 0 => 24000 / 1001 | 1 => 24 | 2 => 25 | 3 => 30000 / 1001 | 4 => 30 | 5 => 48000 / 1001 | 6 => 48 | 7 => 50
  | 8 => 60000 / 1001 | 9 => 60 | 10 => 100 | 11 => 120000 / 1001 | 12 => 120 | _ => 0

/-- The rate family of a rate code (R36): 0 23.98, 1 24, 2 25, 3 29.97, 4 30. -/
def rateFamily (code : Nat) : Nat :=
  match code with
  | 0 => 0 | 5 => 0 | 1 => 1 | 6 => 1 | 2 => 2 | 7 => 2 | 10 => 2 | 3 => 3 | 8 => 3 | 11 => 3 | 4 => 4 | 9 => 4 | 12 => 4
  | _ => 5

/-- Timeline lines per frame of a format code (R34, R35): 4320p counts 2,250. -/
def formatLines (code : Nat) : Nat :=
  match code with
  | 0 => 525 | 1 => 625 | 2 => 750 | 3 => 1125 | 4 => 1125 | 5 => 1125 | 6 => 2250 | _ => 2250

/-- The combinations a plane accepts (R34). -/
def planeComboOk (format rate : Nat) : Bool :=
  match format with
  | 0 => rate == 3
  | 1 => rate == 2
  | 2 => [0, 1, 2, 3, 4, 7, 8, 9, 10, 11, 12].contains rate
  | 3 => [2, 3, 4].contains rate
  | 4 => decide (rate ≤ 12)
  | 5 => decide (rate ≤ 4)
  | 6 => decide (rate ≤ 9)
  | 7 => decide (rate ≤ 9)
  | _ => false

def State.planeOn (s : State) (p : Nat) : Bool := s.flag 0x2010 p 31
def State.planeFormat (s : State) (p : Nat) : Nat := s.field 0x2010 p 27 24
def State.planeRateCode (s : State) (p : Nat) : Nat := s.field 0x2010 p 23 20
def State.planeRate (s : State) (p : Nat) : Rat := rateHz (s.planeRateCode p)
def State.planeLines (s : State) (p : Nat) : Nat := formatLines (s.planeFormat p)

/-- The frame period of a rate in ns. -/
def periodNs (hz : Rat) : Rat := if hz = 0 then 0 else 1000000000 / hz

/-- One house line of a plane in ns (R64). -/
def State.houseLine (s : State) (p : Nat) : Rat := periodNs (s.planeRate p) / (s.planeLines p : Rat)

def tpFrame (tp : Word) : Nat := bits tp 63 24
def tpLine (tp : Word) : Nat := bits tp 23 12
def tpFrac (tp : Word) : Nat := bits tp 11 0

/-- TP(frame, line, frac) as a TP64 word. -/
def mkTp (frame line frac : Nat) : Word := frame % 2 ^ 40 * 2 ^ 24 + line * 2 ^ 12 + frac

/-- Whether a TP64 is valid on a plane of `lines` lines (R8). -/
def tpValid (lines : Nat) (tp : Word) : Bool := decide (1 ≤ tpLine tp) && decide (tpLine tp ≤ lines)

/-- Position `a` is later than `b` on one plane (R10). -/
def tpLater (a b : Word) : Bool :=
  let d := (tpFrame a + 2 ^ 40 - tpFrame b) % 2 ^ 40
  if d = 0 then decide (a % 2 ^ 24 > b % 2 ^ 24) else decide (d < 2 ^ 39)

/-- Whether a plane at position `pos` is at or past `tp` (R10, R42). -/
def tpPassed (pos tp : Word) : Bool := !tpLater tp pos

/-- FRAC units since TP(0, 1, 0) at device time `t`, rounded down. -/
def unitsAt (origin hz : Rat) (lines : Nat) (t : Rat) : Int :=
  ((t - origin) / 1000000000 * hz * (lines * 4096 : Nat)).floor

/-- The same, rounded up. -/
def unitsAtUp (origin hz : Rat) (lines : Nat) (t : Rat) : Int :=
  ((t - origin) / 1000000000 * hz * (lines * 4096 : Nat)).ceil

/-- A count of FRAC units since TP(0, 1, 0) as a TP64. -/
def tpOfUnits (lines : Nat) (u : Int) : Word :=
  let per : Int := (lines * 4096 : Nat)
  let f := (u / per % (2 ^ 40 : Int)).toNat
  let r := (u % per).toNat
  mkTp f (r / 4096 + 1) (r % 4096)

/-- The position that a plane holds at device time `t` (R42): FRAC units since TP(0, 1, 0) with 32 further fraction bits. -/
def State.fineAt (s : State) (p : Nat) (t : Rat) : Int :=
  ((t - (s.plane p).origin) / 1000000000 * s.planeRate p * (s.planeLines p * 4096 * 2 ^ 32 : Nat)).floor

/-- A plane's position at device time `t` as a TP64 gives it (R42): the upper 12 fraction bits, truncated. -/
def State.posAt (s : State) (p : Nat) (t : Rat) : Word := tpOfUnits (s.planeLines p) (s.fineAt p t / 2 ^ 32)

/-- The first position at or after device time `t` (R49, R61). -/
def State.posUp (s : State) (p : Nat) (t : Rat) : Word :=
  tpOfUnits (s.planeLines p) (unitsAtUp (s.plane p).origin (s.planeRate p) (s.planeLines p) t)

/-- What 0x2000:p reports (R41): the present position, zero on a disabled plane. -/
def State.pos (s : State) (p : Nat) : Word := if s.planeOn p then s.posAt p s.now else 0

/-- The device time of a position of plane `p` (R49), its frame count taken nearest the present one (R10). -/
def State.tpTime (s : State) (p : Nat) (tp : Word) : Rat :=
  let lines := s.planeLines p
  let per : Int := (lines * 4096 : Nat)
  let cur := unitsAt (s.plane p).origin (s.planeRate p) lines s.now / per
  let d := (((tpFrame tp : Int) - cur) % (2 ^ 40 : Int)).toNat
  let frame : Int := if d < 2 ^ 39 then cur + d else cur + d - 2 ^ 40
  (s.plane p).origin +
    ((frame : Rat) + ((tpLine tp - 1) * 4096 + tpFrac tp : Nat) / (lines * 4096 : Nat)) * periodNs (s.planeRate p)

/-- The first device time at or after `t` of the form `base + n * period`. -/
def gridAtOrAfter (base period t : Rat) : Rat :=
  if period = 0 then t else base + (((t - base) / period).ceil : Rat) * period

/-- The last device time at or before `t` of the form `base + n * period`. -/
def gridAtOrBefore (base period t : Rat) : Rat :=
  if period = 0 then t else base + (((t - base) / period).floor : Rat) * period

/-- The first frame boundary of plane `p` at or after `t`. -/
def State.planeFrameAtOrAfter (s : State) (p : Nat) (t : Rat) : Rat :=
  gridAtOrAfter (s.plane p).origin (periodNs (s.planeRate p)) t

/-- The first frame boundary of plane `p` after `t`. -/
def State.planeFrameAfter (s : State) (p : Nat) (t : Rat) : Rat :=
  let per := periodNs (s.planeRate p)
  gridAtOrBefore (s.plane p).origin per t + per

/-- Device time of one core cycle in ns: 1.6 GHz (R27), shifted by the output frequency offset (R48, R89). -/
def State.cycleNs (s : State) : Rat := 5 / 8 * (1 + s.freqNow / 1000000000000)

/-- The first core cycle from now on, counted from the present one, at which plane `p` is at or past `tp` (R42). -/
def State.cyclesTo (s : State) (p : Nat) (tp : Word) : Int := ((s.tpTime p tp - s.now) / s.cycleNs).ceil

/-- One period of the 48 kHz audio grid in ns (R53). -/
def samplePeriod : Rat := 1000000000 / 48000

/-- The first sample boundary of the grid of R53 at or after `t`. -/
def State.sampleAtOrAfter (s : State) (t : Rat) : Rat := gridAtOrAfter (s.plane 0).origin samplePeriod t

end Sys2Proof.Machine
end

