-- ==== Sys2Proof/Machine/Ops.lean ====
section
/-! DEFINITION. The device's shared operations: the change log, Dumus frames, NOTIFYs, mode changes, fault declarations,
entry to FAULTED and to FROZEN (R451-R458, R476-R482, R511, R518, R552-R563). -/

namespace Sys2Proof.Machine

/-- Status codes (the table Status codes of the chapter Scope and Conventions). -/
abbrev stOk : Nat := 0x00
abbrev stPending : Nat := 0x01
abbrev stNoObject : Nat := 0x10
abbrev stNoSub : Nat := 0x11
abbrev stType : Nat := 0x12
abbrev stRange : Nat := 0x13
abbrev stAccess : Nat := 0x20
abbrev stAuth : Nat := 0x21
abbrev stProtected : Nat := 0x22
abbrev stBusy : Nat := 0x30
abbrev stReseeding : Nat := 0x31
abbrev stLate : Nat := 0x32
abbrev stNoHeadroom : Nat := 0x33
abbrev stAdmission : Nat := 0x34
abbrev stLogFull : Nat := 0x35
abbrev stMode : Nat := 0x36
abbrev stFaulted : Nat := 0x3F

/-- Mode codes (R497). -/
def Mode.code : Mode → Nat
  | .dormant => 0 | .boot => 1 | .service => 2 | .solo => 3 | .active => 4 | .standby => 5 | .faulted => 6 | .frozen => 7

/-- Whether the media die's clocks run: not in DORMANT, not in FROZEN, not held in reset (R17, R525, R563). -/
def State.running (s : State) : Bool := s.mode != .dormant && s.mode != .frozen && !s.boot.inReset

/-- Whether the Exair die's functions run: they stop in DORMANT and FROZEN (R17, R563). -/
def State.exairRunning (s : State) : Bool := s.mode != .dormant && s.mode != .frozen

/-- Act only while the media die's clocks run; otherwise nothing happens. -/
def whenRunning (s : State) (f : State → State) : State := if s.running then f s else s

/-- A standby in step takes the active's decisions and not its own (R426). -/
def State.mirrored (s : State) : Bool := s.mode == .standby && s.pair.inStep

/-- A decision of the active, sent to a partner that is there (R419, R426). KIND is the model's: 1 reference selected,
2 input lost, 3 input returned, 4 input mistimed, 5 synchroniser slot, 6 bridge ratio, 7 field-bank input, 8 bridge
acquired, 9 bridge bandwidth step, 10 bridge source lost, 11 bridge re-centre, 12 TS_DRIFT, 13 ST 2110-22 frame not stored,
14 input frame not stored, 15 copy of a packet, 16 missing span of a line, 17 line closed, 18 audio samples late, 19 elastic
slip, 20 input frame number, 21 -40 packet late, 22 audio source lost or returned, 23
effect boundary of a static plane. -/
def mirror (s : State) (kind object : Nat) (value : Word) : State :=
  if s.mode = .active ∧ s.pair.partnerHere = true then
    s.emitTwice (0x06 * 2 ^ 248 + kind * 2 ^ 240 + object % 2 ^ 16 * 2 ^ 224 + s.pos 0 % 2 ^ 64 * 2 ^ 160 + value % 2 ^ 160) []
  else s

/-- The change log's control word (R479). -/
def State.logStrict (s : State) : Bool := s.flag 0x1200 0 31
def State.logRefused (s : State) : Bool := s.flag 0x1200 0 30
/-- Whether 65,536 unreleased entries are held (R480). -/
def State.logFull (s : State) : Bool := decide (65536 ≤ s.log.entries.length)

/-- A value of `len` bytes as OLD and NEW hold it (R478): left-aligned up to 16 bytes, else byte count, CRC-32C and the
first 8 bytes. -/
def logBytes (b : List Byte) : Word :=
  if b.length ≤ 16 then ofBytes b * 2 ^ (8 * (16 - b.length))
  else b.length * 2 ^ 96 + crc32c b * 2 ^ 64 + ofBytes (b.take 8)

def logValue (len : Nat) (v : Word) : Word := logBytes (toBytes len v)

/-- The gap record that takes the place of entry `e` (R481). -/
def gapRecord (s : State) (first : Nat) (e : LogEntry) : LogEntry :=
  { tp := s.pos 0, time := s.ns, entry := e.entry, plane := 0, origin := 0xF, kind := 3,
    old := first * 2 ^ 96, new := e.entry * 2 ^ 96 }

/-- An entry put in the log whatever the policy (R479, R481): a full log loses its oldest entries to a gap record. -/
def appendLog (s : State) (e : LogEntry) : State :=
  let e := { e with entry := s.log.next }
  let l := s.log
  let next := (l.next + 1) % 2 ^ 32
  if s.logFull then
    match l.entries with
    | e0 :: e1 :: rest =>
      let isGap := e0.kind == 3
      let first := if isGap then e0.old / 2 ^ 96 else e0.entry
      { s with log := { l with
          entries := gapRecord s first e1 :: rest ++ [e], next := next, any := true,
          lost := wrapAdd 32 l.lost (if isGap then 1 else 2) } }
    | _ => { s with log := { l with entries := l.entries ++ [e], next := next, any := true } }
  else { s with log := { l with entries := l.entries ++ [e], next := next, any := true } }

/-- A device event logged (R476, R478, R482): under the strict policy a full log does not take it, and it is counted. -/
def logEvent (s : State) (idx sub : Nat) (old new : Word) (plane : Nat := 0) (struct : Bool := false)
    (status : Nat := 0) : State :=
  if s.logStrict && s.logFull then { s with log := { s.log with notLogged := wrapAdd 32 s.log.notLogged 1 } }
  else appendLog s
    { tp := s.pos plane, time := s.ns, entry := 0, plane := plane, origin := 0xF, kind := 2, index := idx, sub := sub,
      old := old, new := new, struct := struct, status := status }

/-- The type code of an element (R474). -/
def typeCode (idx sub : Nat) : Nat :=
  match dictRow idx sub with
  | some r => r.typ
  | none => 0

/-- The 16 header bytes of a Dumus frame (R451). -/
def headerBytes (opcode status : Nat) (rq : Rq) (idx sub len typ : Nat) : List Byte :=
  toBytes 16 (2 ^ 124 + opcode % 16 * 2 ^ 120 + status % 256 * 2 ^ 112 + rq.node % 256 * 2 ^ 104 +
    (if opcode = 7 ∨ opcode = 9 then 0 else rq.rsv / 16 % 16 * 2 ^ 100 + rq.rsv % 16 * 2 ^ 8) +
    rq.origin % 16 * 2 ^ 96 + rq.session % 2 ^ 16 * 2 ^ 80 + rq.seq % 2 ^ 16 * 2 ^ 64 + idx % 2 ^ 16 * 2 ^ 48 +
    sub % 2 ^ 16 * 2 ^ 32 + len % 2 ^ 16 * 2 ^ 16 + ofBool rq.shadow * 2 ^ 15 + ofBool rq.first * 2 ^ 14 +
    ofBool rq.last * 2 ^ 13 + rq.key % 2 * 2 ^ 12 + typ % 256)

/-- The key in slot `key` of a class (R473): 0 where there is none. -/
def State.sessionKey (s : State) (origin key : Nat) : Nat := mapGet natD s.keys.session (2 * origin + key)

/-- A REPLY (0x9) or NOTIFY (0x7) frame with its tag (R451, R472). -/
def answerFrame (s : State) (opcode status : Nat) (rq : Rq) (idx sub : Nat) (data : List Byte) : List Byte :=
  let body := headerBytes opcode status rq idx sub data.length (typeCode idx sub) ++ data
  let tag := if rq.origin = 0 ∨ rq.origin = 5 then 0 else cmacTag (s.sessionKey rq.origin rq.key) body
  body ++ toBytes 8 tag

/-- The number of a port in the Dumus counters (R465). -/
def portNum : Port → Nat
  | .card => 0 | .dumusA => 1 | .dumusB => 2 | .tunnel => 3 | .relay => 3 | .stream => 3

/-- Counter `n` of a port, one up (R465); a relayed or streamed request is counted at no port. -/
def countPort (s : State) (p : Port) (n : Nat) : State :=
  match p with
  | .relay => s
  | .stream => s
  | _ => s.count 0x1001 (0x100 + 0x10 * portNum p + n)

/-- Whether the device sends frames on its field ports now (R417, R427, R429, R517). -/
def State.fieldReplies (s : State) : Bool :=
  !s.pair.ripIn &&
  (if s.paired then
    match s.mode with
    | .active => true
    | .boot | .service | .solo =>
      s.pair.claimOut || !s.pair.partnerHere || (!s.pair.claimIn && !s.pair.claimOut && !s.boot.sideB)
    | _ => false
  else s.exairRunning)

/-- Bytes that wait in the card port's output queue (R468). -/
def queueBytes (q : List (List Byte)) : Nat := q.foldl (fun n f => n + f.length) 0

/-- Whether a field port runs (R462). -/
def State.portRuns (s : State) (p : Port) : Bool :=
  match p with
  | .dumusA => s.flag 0x1001 0 31
  | .dumusB => s.flag 0x1001 0 30
  | _ => true

/-- A frame of the device's own sent to where a request came from (R454, R457, R468, R433). -/
def sendFrame (s : State) (rq : Rq) (frame : List Byte) : State :=
  match rq.port with
  | .card =>
    if queueBytes s.req.outQueue + frame.length ≤ 16384 then
      { s with req := { s.req with outQueue := s.req.outQueue ++ [frame] } }
    else countPort s .card 1
  | .dumusA | .dumusB => if s.fieldReplies && s.portRuns rq.port then s.emit (.dumus rq.port rq.src frame) else s
  | .tunnel => s.emit (.dumus .tunnel rq.tnode frame)
  | .relay => s.emit (.bridle (0x0A * 2 ^ 248 + 0x04 * 2 ^ 240) frame)
  | .stream => s

/-- The immediate reply (R454, R456): counted where it is sent. A field port keeps it until the next one, for the attempts
that a carrier or a collision makes necessary. -/
def sendReply (s : State) (rq : Rq) (idx sub status : Nat) (data : List Byte) : State :=
  let frame := answerFrame s 9 status rq idx sub data
  match rq.port with
  | .stream => s
  | .dumusA | .dumusB =>
    if s.fieldReplies && s.portRuns rq.port then
      let d : Deferred := { port := rq.port, dst := rq.src, frame := frame, attempts := 1 }
      countPort { sendFrame s rq frame with
        req := { s.req with deferred := (s.req.deferred.filter fun x => x.port != rq.port) ++ [d] } } rq.port 6
    else s
  | _ => countPort (sendFrame s rq frame) rq.port 6

/-- A NOTIFY made and sent for the first time (R457). -/
def notify (s : State) (rq : Rq) (idx sub status : Nat) (data : List Byte) : State :=
  match rq.port with
  | .stream => s
  | _ =>
    let s := sendFrame s rq (answerFrame s 7 status rq idx sub data)
    { s with req := { s.req with notifies := s.req.notifies ++
        [{ rq := rq, index := idx, sub := sub, status := status, data := data, sends := 1, last := s.up }] } }

/-- The NOTIFY of the oldest request on an element whose work ends, and the request no longer waits (R456). -/
def finishWaiting (s : State) (idx sub status : Nat) (data : List Byte) : State :=
  match s.req.waiting.find? (fun w => w.index == idx && w.sub == sub) with
  | some w =>
    let s := { s with req := { s.req with waiting := s.req.waiting.eraseP fun x => x.index == idx && x.sub == sub } }
    notify s w.rq idx sub status data
  | none => s

/-- A mode change with its log entry (R511). -/
def setMode (s : State) (m : Mode) : State :=
  if s.mode = m then s
  else
    let old := s.mode
    logEvent { s with mode := m } 0x0010 0 (logValue 1 old.code) (logValue 1 m.code)

/-- The class of a source now (R552). -/
def State.sourceClass (s : State) (n : Nat) : Nat := s.field 0xB000 n 31 30

/-- The state element of a source as 0xB010 reports it (R553). -/
def sourceWord (f : FaultSrc) : Word :=
  ofBool f.alarm * 2 ^ 31 + ofBool f.active * 2 ^ 30 + ofBool f.forced * 2 ^ 29 + f.count

/-- Whether a rate-limited entry may be made: none was made in the last 1 ms (R556). -/
def spaced (now : Rat) (last : Option Rat) : Bool :=
  match last with
  | none => true
  | some t => decide (t + 1000000 ≤ now)

/-- CLAIM_OUT lowered (R416). -/
def dropClaim (s : State) : State := { s with pair := { s.pair with claimOut := false } }

/-- A queue entry's banks no longer armed, their edits kept (R241, R248). -/
def disarm (s : State) (scope : Nat) : State :=
  (List.range 5).foldl (fun s b => if bit scope b then s.setBank b { s.bank b with armed := false } else s) s

/-- A pending entry discarded with the status its requester is told, and logged (R45, R58); a drill reports 0x3 (R442). -/
def discardEvent (s : State) (e : Event) (status : Nat) : State :=
  let s := { s with events := s.events.filter fun x => x.order != e.order }
  let s := if e.kind = 1 then disarm s e.scope else s
  let s := if e.kind = 4 then { s with pair := { s.pair with drillResult := 3 } } else s
  let (idx, sub) := if e.kind = 1 then (0x1100, 0) else if e.kind = 2 then (0x1110, 0x40) else if e.kind = 3 then
    (0x2110, 0x20) else if e.kind = 4 then (0x9030, 0) else (0xB400, 1)
  let s := logEvent s idx sub (logValue 8 e.tp) 0 e.plane false status
  match e.rq with
  | some rq => if e.kind = 1 ∨ (e.kind = 2 ∧ status = stFaulted) then notify s rq idx sub status [] else s
  | none => s

/-- Every pending entry that `p` picks discarded. -/
def discardEvents (s : State) (p : Event → Bool) (status : Nat) : State :=
  (s.events.filter fun e => !e.fired && p e).foldl (fun s e => discardEvent s e status) s

/-- The new side of an input's move taken away (R263). -/
def dropNewSide (s : State) (j : Nat) : State :=
  let gone (k : Nat) : Bool := decide (0x4000 ≤ k / 65536) && decide (k / 65536 < 0x5600) && decide (0x8000 ≤ k % 65536) &&
    k % 0x800 == j && decide (k / 65536 ≠ 0x5000) && decide (k / 65536 ≠ 0x4400)
  { s with
    dict := s.dict.filter fun e => !gone e.1
    ins := mapErase s.ins (0x8000 + j), cells := mapErase s.cells (0x8000 + j) }

/-- A move cancelled (R266): the element reads its old value again. -/
def cancelMove (s : State) (m : Move) : State :=
  let s := { s with moves := s.moves.filter fun x => !(x.index == m.index && x.sub == m.sub) }
  let s := if 0x4000 ≤ m.index ∧ m.index ≤ 0x4200 ∧ m.sub < 0x800 then dropNewSide s m.sub else s
  logEvent s m.index m.sub (logValue 4 m.new) (logValue 4 m.old) 0 true

def cancelMoves (s : State) : State := s.moves.foldl cancelMove s

/-- Every open block transfer abandoned with a NOTIFY (R518). -/
def abandonTransfers (s : State) (status : Nat) : State :=
  let ts := s.req.transfers
  let s := { s with req := { s.req with transfers := [] } }
  ts.foldl (fun s t => notify s t.rq t.index t.sub status []) s

/-- A capture or insert in progress ends in failure with a NOTIFY (R518). -/
def failWindow (status : Nat) (s : State) (w : Nat) : State :=
  let op := s.window w
  if op.state = 1 ∨ op.state = 2 then finishWaiting (s.setWindow w { op with state := 5 }) 0x1300 w status [] else s

/-- A staging in progress ends: the spare slot is EMPTY with reason 0x9 (R538). -/
def endStaging (s : State) (result : Nat) (status : Option Nat) : State :=
  if s.boot.stageState = 1 then
    let spareB := s.boot.running == some 0
    let empty : Slot := { state := 0, reason := 9 }
    let s := { s with boot := { s.boot with
      stageState := 3, stageResult := result,
      slotA := if spareB then s.boot.slotA else empty, slotB := if spareB then empty else s.boot.slotB } }
    match status with
    | some st => finishWaiting s 0xD020 0 st []
    | none => { s with req := { s.req with waiting := s.req.waiting.filter fun x => x.index != 0xD020 } }
  else s

/-- Spool banks that load or are checked become FAILED (R518). -/
def failSpools (s : State) : State :=
  { s with spools := s.spools.map fun (e : Nat × SpoolBank) =>
      if e.2.st = 1 ∨ e.2.st = 2 then (e.1, { e.2 with st := 4, image := [] }) else e }

/-- Entry to FAULTED (R416, R442, R518): CLAIM_OUT low, pending events discarded, moves cancelled, transfers and window
operations abandoned, and the paths the source implicates stopped. -/
def enterFaulted (s : State) (n : Nat) (detail : Word) : State :=
  let what := match faultRow n with
    | some r => r.implicates
    | none => .none
  let s := { s with faults := { s.faults with stopped := s.faults.stopped ++ [{ what := what, detail := detail }] } }
  if s.mode = .faulted then s
  else
    let s := dropClaim (setMode s .faulted)
    let s := discardEvents s (fun _ => true) stFaulted
    let s := cancelMoves s
    let s := abandonTransfers s stFaulted
    let s := (List.range 16).foldl (failWindow stFaulted) s
    failSpools (endStaging s 7 (some stFaulted))

/-- Whether a declaration counts as a fault logged by the member (R436, R552). -/
def State.countsAsFault (s : State) (n cls : Nat) : Bool := cls != 0 || s.flag 0xB000 n 28

/-- A declaration of a fault source (R554, R556): counted, ACTIVE where the source's condition lasts, logged and entered
in the history within the rate limit, an ALARM bit set, a FATAL latched; a pair member tells its partner (R419). -/
def noteFault (s : State) (n : Nat) (detail : Word) (lasting forced : Bool := false) (plane : Nat := 0) : State :=
  let detail := if 0x060 ≤ n ∧ n ≤ 0x083 ∧ bit detail 15 = true then detail - 0x8000 else detail
  let f := s.source n
  let cls := s.sourceClass n
  let old := sourceWord f
  let count := satAdd 24 f.count 1
  let logIt := s.flag 0xB000 n 27 && spaced s.now f.lastLog
  let histIt := cls != 0 && spaced s.now f.lastHist
  let f' : FaultSrc :=
    { alarm := f.alarm || cls == 1, active := f.active || lasting, forced := forced, count := count,
      lastLog := if logIt then some s.now else f.lastLog, lastHist := if histIt then some s.now else f.lastHist }
  let h : HistEntry :=
    { tp := s.pos 0, time := s.ns, source := n, cls := cls, forced := forced, mode := s.mode, count := count,
      detail := detail }
  let s := s.setSource n f'
  let s := if logIt then
      logEvent s 0xB000 n (logValue 4 old)
        (cls * 2 ^ 120 + ofBool forced * 2 ^ 112 + count * 2 ^ 64 + detail % 2 ^ 64) plane
    else s
  let s := { s with faults := { s.faults with
    history := if histIt then (h :: s.faults.history).take 32 else s.faults.history
    firstFatal := if cls = 2 ∧ s.faults.firstFatal = none then some h else s.faults.firstFatal
    fatalAt := if cls = 2 then (match s.faults.fatalAt with | some t => some t | none => some s.up) else s.faults.fatalAt } }
  let s := { s with pair := { s.pair with
    ownFault := if s.countsAsFault n cls then some s.up else s.pair.ownFault } }
  if s.paired then
      s.emit (.bridle (0x08 * 2 ^ 248 + n * 2 ^ 239 + cls * 2 ^ 237 + ofSigned 64 s.ns * 2 ^ 173) [])
    else s

/-- A declaration (R554, R518): a FATAL takes the device to FAULTED. -/
def declareFault (s : State) (n : Nat) (detail : Word) (lasting forced : Bool := false) (plane : Nat := 0) : State :=
  let t := noteFault s n detail lasting forced plane
  if s.sourceClass n = 2 then enterFaulted t n detail else t

/-- A source's condition no longer holds (R553). -/
def clearActive (s : State) (n : Nat) : State := s.setSource n { s.source n with active := false }

/-- A DMA channel halts at an uncorrectable read until the alarm bit of 0x00C is cleared (R549, R550): the transfer it serves
ends as `f` says. A halted channel reads nothing. -/
def dmaHalts (s : State) (h : DmaHalt) (f : State → State) : State :=
  if s.faults.dmaHalted.contains h.channel then s
  else
    let s := s.count 0xB200 (0x20 + h.memory)
    f (declareFault { s with faults := { s.faults with dmaHalted := h.channel :: s.faults.dmaHalted } } 0x00C
      (h.channel * 2 ^ 56 + h.address % 2 ^ 32))

/-- Work that needs a DMA channel waits while all four are halted (R549). -/
def State.dmaStopped (s : State) : Bool := (List.range 4).all s.faults.dmaHalted.contains

/-- A freeze (R561-R565): every clock stops where it stands. DORMANT ignores every trigger, and FROZEN has no other. -/
def freeze (s : State) (trigger : Nat) : State :=
  if s.mode = .dormant ∨ s.mode = .frozen ∨ s.boot.inReset then s
  else
    let old := s.mode
    let s := { s with faults := { s.faults with lastFreeze := trigger, frozenMode := some old } }
    setMode { s with dbg := { s.dbg with stream := 0 } } .frozen

end Sys2Proof.Machine
end

