-- ==== Sys2Proof/Machine/Requests.lean ====
section
/-! DEFINITION. The path every Dumus request takes (R12, R13, R25, R427, R452-R458, R470-R482, R490-R493): its tag, its
reply record, the checks in the order of R13, its commit, its log entry, its place in the change stream, its reply. -/

namespace Sys2Proof.Machine

/-- Request opcodes (R452). -/
abbrev opRead : Nat := 1
abbrev opWrite : Nat := 2
abbrev opBlockRead : Nat := 3
abbrev opBlockWrite : Nat := 4
abbrev opTake : Nat := 5
abbrev opAbort : Nat := 6
abbrev opPendingDone : Nat := 0xA

/-- Whether an opcode changes something (R13: FAULTED). -/
def opChanges (op : Nat) : Bool := op == opWrite || op == opBlockWrite || op == opTake || op == opAbort

/-! Frames (R451-R453). -/

/-- The fields of a Dumus header. -/
def hdrVersion (h : Word) : Nat := bits h 127 124
def hdrOpcode (h : Word) : Nat := bits h 123 120
def hdrNode (h : Word) : Nat := bits h 111 104
def hdrIndex (h : Word) : Nat := bits h 63 48
def hdrSub (h : Word) : Nat := bits h 47 32
def hdrLength (h : Word) : Nat := bits h 31 16

/-- A received frame's header as a request of a port. -/
def headerRq (p : Port) (tnode src : Nat) (frame : List Byte) : Rq :=
  let h := ofBytes (frame.take 16)
  { port := p, tnode := tnode, src := src, node := hdrNode h, origin := bits h 99 96, session := bits h 95 80
    seq := bits h 79 64, len := hdrLength h, shadow := bit h 15, first := bit h 14, last := bit h 13, key := bits h 12 12
    typ := bits h 7 0, tag := ofBytes ((frame.drop (16 + hdrLength h)).take 8), rsv := bits h 103 100 * 16 + bits h 11 8 }

def framePayload (frame : List Byte) : List Byte := (frame.drop 16).take (hdrLength (ofBytes (frame.take 16)))

/-- Opcodes a device takes (R452). -/
def opTaken (op : Nat) : Bool := (decide (1 ≤ op) && decide (op ≤ 6)) || op == 0xA

/-- Whether a frame is discarded under R452 or R453; an Ethernet frame's padding fills 46 bytes. -/
def frameBad (frame : List Byte) (ethernet : Bool) : Bool :=
  let h := ofBytes (frame.take 16)
  hdrVersion h != 1 || !opTaken (hdrOpcode h) || decide (frame.length < 24 + hdrLength h) ||
    (decide (24 + hdrLength h < frame.length) && !(ethernet && decide (frame.length ≤ 46)))

/-- What an element's own rules say of a request: which checks fail, by status (true = fails), and the reason recorded
with an admission refusal. -/
structure Checks where
  auth : Bool := false
  access : Bool := false
  noSub : Bool := false
  type : Bool := false
  range : Bool := false
  mode : Bool := false
  prot : Bool := false
  busy : Bool := false
  reseeding : Bool := false
  late : Bool := false
  headroom : Bool := false
  admission : Bool := false
  reason : Nat := 0
deriving DecidableEq, Repr

/-- How an element takes a write: its checks, its commit, the data of its reply, its status on success, and what the log
keeps as OLD and NEW (R477, R478), and its TP where that is not the commit's. `refused` records a refusal where the element's rules say so. -/
structure Handler where
  checks : Checks := {}
  commit : State → State := id
  data : State → List Byte := fun _ => []
  pending : Bool := false
  old : Word := 0
  new : Word := 0
  struct : Bool := false
  bank : Bool := false
  plane : Nat := 0
  tp : Option Word := none
  refused : Nat → State → State := fun _ s => s

/-- Whether a port admits an origin class (R470). -/
def admitted (p : Port) (origin : Nat) : Bool :=
  match p with
  | .card => decide (origin ≤ 4)
  | .dumusA | .dumusB => decide (1 ≤ origin) && decide (origin ≤ 4)
  | .tunnel => decide (origin ≤ 4)
  | .relay => origin == 5
  | .stream => true

/-- The right (read, write) a profile gives a class (R490). -/
def profileRight (p : Profile) (origin : Nat) : Bool × Bool :=
  match p with
  | .o => (decide (origin ≤ 5), decide (origin ≤ 4))
  | .e => (decide (origin ≤ 5), origin == 0 || origin == 3 || origin == 4)
  | .v => (decide (origin ≤ 5), origin == 0 || origin == 4)
  | .k => (false, origin == 0 || origin == 4)
  | .m => (decide (origin ≤ 5), origin == 0 || origin == 3 || origin == 4 || origin == 5)
  | .q => (decide (origin ≤ 5), false)

/-- The range mask of a class (R471): bit r of its READ or WRITE half. -/
def State.maskAllows (s : State) (origin idx : Nat) (write : Bool) : Bool :=
  if origin ≤ 5 then bit (s.elem 0x1010 origin) ((if write then 0 else 16) + idx / 4096) else false

/-- Whether the element's own right denies the request (R471, R492). -/
def rightDenied (op origin idx sub : Nat) : Bool :=
  match dictRow idx sub with
  | none => false
  | some r =>
    let rt := profileRight r.profile origin
    if op = opRead ∨ op = opBlockRead then
      (if r.kind = .wo then !rt.2 else !rt.1)
    else r.kind == .ro || !rt.2

/-- Whether a request needs a tag (R470, R471). -/
def State.needsTag (s : State) (op origin : Nat) : Bool :=
  decide (1 ≤ origin) && decide (origin ≤ 4) &&
    (if op = opRead ∨ op = opBlockRead then bit (s.elem 0x1010 (0x10 + origin)) 0 else true)

/-- Whether the tag of a request fails where one is needed (R472). A streamed request was checked by the active. -/
def State.tagFails (s : State) (rq : Rq) (op idx sub : Nat) (payload : List Byte) : Bool :=
  rq.port != .stream && s.needsTag op rq.origin &&
    (s.sessionKey rq.origin rq.key == 0 ||
      cmacTag (s.sessionKey rq.origin rq.key) (headerBytes op 0 rq idx sub rq.len rq.typ ++ payload) != rq.tag)

/-- What a reply record makes of a sequence (R458). -/
inductive Seen where
  | new | replay
  | again (status : Nat) (data : List Byte)
deriving DecidableEq, Repr

/-- A request's sequence judged by its class's and session's reply record (R458). -/
def State.seen (s : State) (rq : Rq) : Seen :=
  match s.req.records.find? (fun r => r.origin == rq.origin && r.session == rq.session) with
  | none => .new
  | some r =>
    let ahead := (rq.seq + 65536 - r.highest) % 65536
    if 1 ≤ ahead ∧ ahead < 32768 then .new
    else
      match r.items.find? (fun i => i.1 == rq.seq) with
      | some i => .again i.2.1 i.2.2
      | none => if (r.highest + 65536 - rq.seq) % 65536 < 64 then .new else .replay

/-- The reply record with one more answered sequence (R458): the last 64 are kept, and the least recently used session
goes when 1,024 are held. The list runs from least to most recently used. -/
def recordReply (s : State) (rq : Rq) (status : Nat) (data : List Byte) : State :=
  let old := s.req.records.find? (fun r => r.origin == rq.origin && r.session == rq.session)
  let rest := s.req.records.filter fun r => !(r.origin == rq.origin && r.session == rq.session)
  let r : ReplyRecord := old.getD { origin := rq.origin, session := rq.session, highest := rq.seq, items := [] }
  let ahead := (rq.seq + 65536 - r.highest) % 65536
  let high := if 1 ≤ ahead ∧ ahead < 32768 then rq.seq else r.highest
  let items := ((r.items.filter fun i => i.1 != rq.seq) ++ [(rq.seq, status, data.take 8)]).filter
    fun i => decide ((high + 65536 - i.1) % 65536 < 64)
  let rest := if old = none ∧ 1024 ≤ rest.length then rest.drop 1 else rest
  { s with req := { s.req with records := rest ++ [{ r with highest := high, items := items }] } }

/-- Whether the frame's type or length is wrong for the element (R453, R489). -/
def typeFails (op : Nat) (rq : Rq) (idx sub : Nat) : Bool :=
  decide (1024 < rq.len) ||
  match dictRow idx sub with
  | none => false
  | some r =>
    (rq.typ != 0 && rq.typ != r.typ) ||
      (if op = opWrite ∨ op = opTake ∨ op = opAbort then decide (rq.len < r.sizeLo) || decide (r.sizeHi < rq.len)
       else if op = opRead then rq.len != 0
       else if op = opBlockRead then rq.len != 6 else false)

/-- Whether the mode refuses the request whatever its element says (R427, R510, R517, R519). -/
def State.modeRefuses (s : State) (rq : Rq) (op idx sub : Nat) : Bool :=
  let reads := op == opRead || op == opBlockRead
  match s.mode with
  | .boot => !(reads && decide (idx ≤ 0x0FFF))
  | .standby => rq.port != .stream && !reads &&
      (match dictRow idx sub with
       | some r => r.profile != .m
       | none => false)
  | _ => match s.boot.dormantAt with
    | some t => op != opRead && decide (t + 2000 ≤ s.up)
    | none => false

/-- Whether the strict policy refuses the request (R482). -/
def State.logRefuses (s : State) (rq : Rq) (op : Nat) : Bool :=
  s.logStrict && s.logFull && opChanges op && rq.origin != 4

/-- The checks of R13 in their order, as (fails, status) pairs. -/
def checkList (s : State) (rq : Rq) (op idx sub : Nat) (payload : List Byte) (c : Checks) : List (Bool × Nat) :=
  [ (s.mode == .faulted && opChanges op, stFaulted),
    (s.tagFails rq op idx sub payload || decide (s.seen rq = .replay) || c.auth, stAuth),
    (!admitted rq.port rq.origin || !s.maskAllows rq.origin idx (!(op == opRead || op == opBlockRead)) ||
      rightDenied op rq.origin idx sub || c.access, stAccess),
    (!indexExists idx, stNoObject),
    ((dictRow idx sub).isNone || c.noSub, stNoSub),
    (typeFails op rq idx sub || c.type, stType),
    (c.range || rq.rsv != 0, stRange),
    (s.modeRefuses rq op idx sub || c.mode, stMode),
    (c.prot, stProtected),
    (c.busy, stBusy),
    (c.reseeding, stReseeding),
    (s.logRefuses rq op, stLogFull),
    (c.late, stLate),
    (c.headroom, stNoHeadroom),
    (c.admission, stAdmission) ]

/-- The first failing check's status; OK where none fails (R13). -/
def firstFailure : List (Bool × Nat) → Nat
  | [] => stOk
  | (f, st) :: l => if f then st else firstFailure l

/-- The status of a request before its commit. -/
def requestStatus (s : State) (rq : Rq) (op idx sub : Nat) (payload : List Byte) (c : Checks) : Nat :=
  firstFailure (checkList s rq op idx sub payload c)

/-- Whether an active leaves a request of its field ports to the member that takes over at a handover's TP less than 4 µs
ahead (R441). -/
def State.leaves (s : State) (rq : Rq) : Bool :=
  s.mode == .active && (rq.port == .dumusA || rq.port == .dumusB) &&
    ((match s.pair.handover with
      | some (t, _) => decide (t ≤ s.now + 4000)
      | none => false) ||
     (s.pair.inStep && s.events.any fun e => e.kind == 4 && !e.fired && decide (s.tpTime e.plane e.tp ≤ s.now + 4000)))

/-- Whether the device takes up a request at this port at all (R427, R510): none in DORMANT, FROZEN and reset; a standby
ignores its field ports and its tunnel. -/
def State.takesUp (s : State) (rq : Rq) : Bool :=
  s.running && !s.leaves rq && !(s.mode == .standby && (rq.port == .dumusA || rq.port == .dumusB || rq.port == .tunnel))

/-- The oldest copy of a frame removed from a buffer. -/
def dropFrame (frame : List Byte) : List (List Byte) → List (List Byte)
  | [] => []
  | f :: l => if f.take frame.length = frame then l else f :: dropFrame frame l

/-- The request's frame leaves its port's input buffer (R464). -/
def unbuffer (s : State) (rq : Rq) (op idx sub : Nat) (payload : List Byte) : State :=
  let f := headerBytes op 0 rq idx sub rq.len rq.typ ++ payload
  match rq.port with
  | .card => { s with req := { s.req with bufCard := dropFrame f s.req.bufCard } }
  | .dumusA => { s with req := { s.req with bufA := dropFrame f s.req.bufA } }
  | .dumusB => { s with req := { s.req with bufB := dropFrame f s.req.bufB } }
  | .tunnel => { s with req := { s.req with bufTunnel := dropFrame f s.req.bufTunnel } }
  | _ => s

/-- The node whose port received a request (R477): 0xFFF where the device has no cascade role (R389). A streamed request
keeps the number of its port above its source. -/
def State.entryNode (s : State) (rq : Rq) : Nat :=
  if !s.flag 0xA010 0 31 then 0xFFF
  else if rq.port = .tunnel ∨ (rq.port = .stream ∧ rq.src / 2 ^ 48 = portNum .tunnel) then rq.tnode
  else s.elem 0xA000 0

/-- The log entry of a request (R477). -/
def requestEntry (s : State) (rq : Rq) (idx sub status : Nat) (h : Handler) (refused : Bool) : LogEntry :=
  { tp := h.tp.getD (s.pos h.plane), time := s.ns, entry := 0, plane := h.plane, origin := rq.origin,
    kind := if refused then 1 else 0, bank := h.bank, struct := h.struct && !refused, refused := refused,
    node := s.entryNode rq, status := status, session := rq.session, seq := rq.seq, index := idx, sub := sub,
    old := h.old, new := h.new }

/-- A refused change logged (R476, R482): not while LOG_FULL refuses it, counted where the strict log has no room. -/
def logRefusal (s : State) (rq : Rq) (op idx sub status : Nat) (h : Handler) : State :=
  if !(opChanges op && s.logRefused) || status = stLogFull then s
  else if s.logStrict && s.logFull && rq.origin != 4 then
    { s with log := { s.log with notLogged := wrapAdd 32 s.log.notLogged 1 } }
  else appendLog s (requestEntry s rq idx sub status h true)

/-- The effect that a CHANGE record carries beside the request (R426): the effect period of coefficient writes (R337), the effect
boundary of a cursor element on its head's plane (R370). -/
def State.streamEffect (s : State) (idx sub : Nat) : List Byte :=
  let boundary (t : Option Rat) : List Byte := match t with
    | some t => toBytes 8 (s.posAt (bits (s.elem 0x8000 (sub % 16)) 30 29) (t + s.stepped))
    | none => []
  if idx = 0x7220 ∨ idx = 0x7221 then
    match s.mix.coefs.getLast? with
    | some c => toBytes 8 (ofSigned 64 c.due)
    | none => []
  else if idx = 0x8000 ∧ 0x30 ≤ sub ∧ sub < 0x40 then boundary ((mapGet headD s.heads (sub % 16)).cursorQ.getLast?.map Prod.fst)
  else if idx = 0x8000 ∧ 0x40 ≤ sub ∧ sub < 0x50 then boundary ((mapGet headD s.heads (sub % 16)).imageQ.getLast?.map Prod.fst)
  else []

/-- A committed request sent to the standby (R424). -/
def streamChange (s : State) (rq : Rq) (op idx sub status : Nat) (payload data : List Byte) : State :=
  if s.mode = .active ∧ rq.port ≠ .stream ∧ opChanges op = true then
    let n := (s.pair.streamSent + 1) % 2 ^ 32
    let s := { s with pair := { s.pair with
      streamSent := n
      streamed := (s.pair.streamed ++ [(rq.origin, rq.session, rq.seq)]) } }
    s.emitTwice (0x05 * 2 ^ 248 + n * 2 ^ 216 + ofSigned 64 s.ns * 2 ^ 152)
      (headerBytes op 0 rq idx sub payload.length rq.typ ++ payload ++ [BitVec.ofNat 8 status] ++ data ++ s.streamEffect idx sub)
  else s

/-- A refused request (R12, R456): nothing changes but what reports the refusal, an admission refusal with its reason at
0x5300:0008 (R214). -/
def refuseRequest (s : State) (rq : Rq) (op idx sub status : Nat) (h : Handler) : State :=
  let s := if status = stAuth then countPort s rq.port 4 else if status = stAccess then countPort s rq.port 5 else s
  let s := logRefusal s rq op idx sub status h
  let s := if status = stAdmission then
      s.put 0x5300 8 (idx * 2 ^ 48 + sub * 2 ^ 32 + status * 2 ^ 24 +
        (if h.checks.reason = 0 then 0x13 else h.checks.reason) * 2 ^ 16)
    else s
  let s := h.refused status s
  let s := if status = stAuth then s else recordReply s rq status []
  sendReply s rq idx sub status []

/-- An accepted change (R24, R476): its log entry, its commit, the change stream, its reply. -/
def commitRequest (s : State) (rq : Rq) (op idx sub : Nat) (payload : List Byte) (h : Handler) : State :=
  let status := if h.pending then stPending else stOk
  let s := appendLog s (requestEntry s rq idx sub status h false)
  let s := h.commit s
  let data := h.data s
  let s := streamChange s rq op idx sub status payload data
  let s := if h.pending then
      { s with req := { s.req with waiting := s.req.waiting ++ [{ rq := rq, index := idx, sub := sub }] } }
    else s
  sendReply (recordReply s rq status data) rq idx sub status data

/-- One request that changes something, from its frame to its reply (R13, R25, R458). -/
def request (s : State) (rq : Rq) (op idx sub : Nat) (payload : List Byte) (h : Handler) : State :=
  if !s.takesUp rq then s
  else
    let s := countPort (unbuffer s rq op idx sub payload) rq.port 0
    let auth := s.tagFails rq op idx sub payload
    match (if auth then .new else s.seen rq) with
    | .again status data => sendReply s rq idx sub status data
    | _ =>
      let status := requestStatus s rq op idx sub payload h.checks
      if status = stOk then commitRequest s rq op idx sub payload h
      else refuseRequest s rq op idx sub status h

/-- Whether a request commits now: it is taken up, it has no answer yet, and no check fails. -/
def State.accepts (s : State) (rq : Rq) (op idx sub : Nat) (payload : List Byte) (c : Checks) : Bool :=
  let t := countPort (unbuffer s rq op idx sub payload) rq.port 0
  s.takesUp rq && (match t.seen rq with
    | .again _ _ => false
    | _ => requestStatus t rq op idx sub payload c == stOk)

/-- The payload of a WRITE of a number: LENGTH bytes, most significant first. -/
def valueBytes (rq : Rq) (v : Word) : List Byte := toBytes rq.len v

/-- A handler's log words for a plain element of `len` bytes (R478). -/
def plainOld (s : State) (idx sub : Nat) : Word :=
  match dictRow idx sub with
  | some r => logValue r.sizeHi (s.elem idx sub)
  | none => 0

/-- Reserved bits not zero (R7). -/
def reservedSet (idx sub : Nat) (v : Word) : Bool :=
  match dictRow idx sub with
  | some r => (v &&& r.reserved) != 0
  | none => false

/-- A plain element: checks, then the register takes the value (R475). -/
def plainHandler (s : State) (idx sub : Nat) (payload : List Byte) (c : Checks) : Handler :=
  { checks := { c with range := c.range || reservedSet idx sub (ofBytes payload) }
    commit := fun s => s.commit idx sub (ofBytes payload)
    old := plainOld s idx sub
    new := logBytes payload }

/-- An element that a write of zero clears, restarts or resets, and that takes no other value (R607). -/
def zeroHandler (s : State) (idx sub : Nat) (payload : List Byte) (restart : State → Word := fun _ => 0) : Handler :=
  { checks := { range := ofBytes payload != 0 }
    commit := fun s => s.put idx sub (restart s)
    old := plainOld s idx sub
    new := logBytes payload }

end Sys2Proof.Machine
end

