-- ==== Sys2Proof/Machine/Uses.lean ====
section
/-! DEFINITION. Who uses what: bindings, the lanes and planes in use (R39, R96, R102, R135, R169, R399), and the lane
words every other part reads (R95, R98, R104, R130). -/

namespace Sys2Proof.Machine

/-- The elements of one index that differ from their reset values, as (sub-index, value). -/
def State.elems (s : State) (idx : Nat) : List (Nat × Word) :=
  (s.dict.filter fun e => e.1 / 65536 == idx).map fun e => (e.1 % 65536, e.2)

/-- Flow bindings (R135, R169, R399): KIND 0 NONE, 1 SDI, 2 IP, 3 TETHER; PLANE. -/
def bindKind (w : Word) : Nat := bits w 31 28
def bindPlane (w : Word) : Nat := bits w 27 26
def bindQuad (w : Word) : Bool := bits w 25 24 == 1
def bindLane (w : Word) : Nat := bits w 15 8
def bindOpaque (w : Word) : Bool := bindKind w == 2 && bit w 24

/-- Whether an SDI binding uses lane `l` (R135). -/
def bindUsesLane (w : Word) (l : Nat) : Bool :=
  bindKind w == 1 && (if bindQuad w then bindLane w / 4 == l / 4 else bindLane w == l)

def State.inBind (s : State) (j : Nat) : Word := s.elem 0x4000 j
def State.outBind (s : State) (j : Nat) : Word := s.elem 0x6000 j

/-- The bound input or output flows, as (flow, binding). -/
def State.bindings (s : State) (idx : Nat) : List (Nat × Word) :=
  (s.elems idx).filter fun e => decide (e.1 < 2048) && bindKind e.2 != 0

/-- Lane mode (R95). -/
def State.laneMode (s : State) (l : Nat) : Word := s.elem 0x3000 l
def laneProtocol (w : Word) : Nat := bits w 31 28
def laneRxEn (w : Word) : Bool := bit w 27
def laneTxEn (w : Word) : Bool := bit w 26
def lanePlane (w : Word) : Nat := bits w 25 24
def State.protocol (s : State) (l : Nat) : Nat := laneProtocol (s.laneMode l)

/-- Rate codes held (R98). -/
def State.rxCode (s : State) (l : Nat) : Nat := s.field 0x3100 l 31 24
def State.txCode (s : State) (l : Nat) : Nat := s.field 0x3100 (0x100 + l) 31 24

/-- Whether a lane is the partner of an Ethernet group, and its leader (R104). -/
def State.leaderOf (s : State) (l : Nat) : Option Nat :=
  if s.protocol l = 2 ∧ s.rxCode l = 0x14 ∧ l % 2 = 1 then some (l - 1)
  else if s.protocol l = 2 ∧ s.rxCode l = 0x15 ∧ l % 4 ≠ 0 then some (l / 4 * 4)
  else none

/-- Whether a lane is the leader of an Ethernet port (R104, R159). -/
def State.ethLeader (s : State) (l : Nat) : Bool :=
  decide (l < 192) && s.protocol l == 2 && (s.leaderOf l).isNone

/-- Lane status bits (R130). -/
def State.laneLos (s : State) (l : Nat) : Bool := s.flag 0x3200 l 31
def State.laneLol (s : State) (l : Nat) : Bool := s.flag 0x3200 l 30
def State.laneReady (s : State) (l : Nat) : Bool := s.flag 0x3200 l 29

/-- Whether an Ethernet port's link is up (R103, R130). -/
def State.linkUp (s : State) (l : Nat) : Bool := s.ethLeader l && s.laneReady l

/-- Tether ports (R385): ENABLE, first lane, number of lanes. -/
def State.portOn (s : State) (p : Nat) : Bool := s.flag 0xA100 p 31
def State.portLanes (s : State) (p : Nat) : Nat := s.field 0xA100 p 30 28 + 1
def State.portFirst (s : State) (p : Nat) : Nat := s.field 0xA100 p 27 20
def State.portHas (s : State) (p l : Nat) : Bool :=
  s.portOn p && decide (s.portFirst p ≤ l) && decide (l < s.portFirst p + s.portLanes p)

/-- Receive and send entries (R166, R170): ENABLE and LANE stand in the same place in both. -/
def entryOn (w : Word) : Bool := bit w 255
def entryKind (w : Word) : Nat := bits w 254 252
def entryLane (w : Word) : Nat := bits w 247 240

/-- The enabled entries of a table, as (entry, word). -/
def State.rxEntries (s : State) : List (Nat × Word) :=
  (s.elems 0x4400).filter fun e => decide (e.1 < 4096) && entryOn e.2
def State.txEntries (s : State) : List (Nat × Word) :=
  (s.elems 0x6300).filter fun e => decide (e.1 < 4096) && entryOn e.2

def State.rxOf (s : State) (e : Nat) : RxSt := mapGet rxD s.rx e
def State.setRx (s : State) (e : Nat) (x : RxSt) : State := { s with rx := mapSet rxD s.rx e x }
def State.txOf (s : State) (e : Nat) : TxSt := mapGet txD s.tx e
def State.setTx (s : State) (e : Nat) (x : TxSt) : State := { s with tx := mapSet txD s.tx e x }

/-- The stream descriptions of the enabled entries that `p` picks are rebuilt (R192). -/
def rebuildDesc (s : State) (rx tx : Word → Bool) : State :=
  let s := (s.rxEntries.filter fun e => rx e.2).foldl
    (fun s e => s.setRx e.1 { s.rxOf e.1 with desc := (s.rxOf e.1).desc + 1 }) s
  (s.txEntries.filter fun e => tx e.2).foldl
    (fun s e => s.setTx e.1 { s.txOf e.1 with desc := (s.txOf e.1).desc + 1 }) s

/-- Whether the new binding of a pending move of a flow holds a lane, from the move's commit on (R263, R265). -/
def State.moveHolds (s : State) (l : Nat) : Bool :=
  s.moves.any fun m => (m.index == 0x4000 || m.index == 0x6000) && decide (m.sub < 0x800) && bindUsesLane m.new l

/-- Whether a lane is in use (R96). -/
def State.laneInUse (s : State) (l : Nat) : Bool :=
  s.moveHolds l ||
  (s.bindings 0x4000).any (fun e => bindUsesLane e.2 l) || (s.bindings 0x6000).any (fun e => bindUsesLane e.2 l) ||
  (List.range 8).any (fun p => s.portHas p l) ||
  (s.ethLeader l && (s.field 0x2100 6 7 0 == l || s.field 0x2100 7 7 0 == l)) ||
  (s.elems 0x4400).any (fun e => decide (e.1 < 4096) && entryOn e.2 && entryLane e.2 == l) ||
  (s.elems 0x6300).any (fun e => decide (e.1 < 4096) && entryOn e.2 && entryLane e.2 == l) ||
  (decide (188 ≤ l) && decide (l < 192) && s.protocol l == 4 && s.paired)

/-- Whether a plane is in use (R39, R102): a flow, head, generator or lane bound to it, or a queued event that names it. -/
def State.planeInUse (s : State) (p : Nat) : Bool :=
  (s.bindings 0x4000).any (fun e => bindPlane e.2 == p) || (s.bindings 0x6000).any (fun e => bindPlane e.2 == p) ||
  (s.elems 0x8000).any (fun e => decide (e.1 < 16) && bit e.2 31 && bits e.2 30 29 == p) ||
  (s.elems 0x5400).any (fun e => decide (e.1 < 16) && bit e.2 31 && bits e.2 27 26 == p) ||
  (s.elems 0x3000).any (fun e => (laneProtocol e.2 == 1 || laneProtocol e.2 == 3 || laneProtocol e.2 == 4) &&
    laneTxEn e.2 && lanePlane e.2 == p) ||
  s.events.any (fun e => e.plane == p) ||
  s.moves.any (fun m => ((m.index == 0x4000 || m.index == 0x6000) && decide (m.sub < 0x800) && bindPlane m.new == p) ||
    (m.index == 0x5400 && bits m.new 27 26 == p) || (m.index == 0x8000 && bits m.new 30 29 == p))

/-- Cascade role (R389). -/
def State.cascadeOn (s : State) : Bool := s.flag 0xA010 0 31
def State.cascadeMaster (s : State) : Bool := s.cascadeOn && s.flag 0xA010 0 30

/-- Whether plane configuration is inherited (R40): a tether node other than the timeline master, or a standby. -/
def State.inherited (s : State) : Bool := (s.cascadeOn && !s.cascadeMaster) || s.mode == .standby

end Sys2Proof.Machine
end

