-- ==== Sys2Proof/Machine/Timebase.lean ====
section
/-! DEFINITION. The timebase: candidates, the selector, the DPLL, the ballast, PTP, and the re-origin of planes
(R38-R48, R65-R93). -/

namespace Sys2Proof.Machine

/-- A command's effect on everything but the queue: what it puts on pins and ports starts empty. -/
def act (s : State) (f : State → State) : Host.Outcome State Fault Refusal :=
  .next { f { s with emitted := [] } with pending := s.pending }

/-- An effect of the media die: nothing happens while its clocks do not run. -/
def actRunning (s : State) (f : State → State) : Host.Outcome State Fault Refusal := act s fun s => whenRunning s f

/-- A physical event on unit `n` of `limit`: a unit the device does not have is a fault of the model. -/
def onUnit (n limit : Nat) (s : State) (f : State → State) : Host.Outcome State Fault Refusal :=
  if n < limit then actRunning s f else .fault .noSuchUnit

def State.cand (s : State) (c : Nat) : Cand := mapGet candD s.ref.cands c
def State.setCand (s : State) (c : Nat) (x : Cand) : State :=
  { s with ref := { s.ref with cands := mapSet candD s.ref.cands c x } }
def State.ptpOf (s : State) (i : Nat) : Ptp := mapGet ptpD s.ref.ptp i
def State.setPtp (s : State) (i : Nat) (x : Ptp) : State :=
  { s with ref := { s.ref with ptp := mapSet ptpD s.ref.ptp i x } }

/-- 0x2120:0000 (R88). -/
def State.tbWord (s : State) : Word :=
  s.ref.tb * 2 ^ 30 + (s.ref.selected.getD 0xF) * 2 ^ 26 + ofBool s.ref.transfer * 2 ^ 25 +
    ofBool s.ref.forced.isSome * 2 ^ 24 + ofBool s.ref.ballast.isSome * 2 ^ 23

/-- Whole seconds of wait-to-restore still to run (R90). A DESIGN CHOICE: a part second counts as a whole one, since R90 does
not say how it counts. -/
def State.wtrLeft (s : State) (c : Nat) : Nat :=
  let k := s.cand c
  if k.present && !k.qualified then
    ((s.field 0x2100 c 27 18 : Rat) - (s.up - k.since) / 1000000000).ceil.toNat
  else 0

/-- 0x2120:0010 + c (R90). -/
def State.candWord (s : State) (c : Nat) : Word :=
  let k := s.cand c
  ofBool k.present * 2 ^ 31 + ofBool k.qualified * 2 ^ 30 + s.wtrLeft c % 1024 * 2 ^ 20 +
    (if k.present then 0 else k.loss) * 2 ^ 16 + k.detail * 2 ^ 8

/-- TBST1:TBST0 (R91): the coding of STATE there is 00 free-run, 01 acquiring, 10 locked, 11 holdover. -/
def State.tbst (s : State) : Nat := s.ref.tb
/-- TB_ALARM (R91). -/
def State.tbAlarm (s : State) : Bool := s.ref.tb == 0 || s.ref.tb == 3

/-- A change of the timebase's STATE from word `old`, logged (R93); a second in which it changes is not recorded (R78). -/
def setTb (s : State) (t : Nat) (old : Word) : State :=
  if s.ref.tb = t then s
  else
    let s := { s with ref := { s.ref with tb := t, clean := false } }
    logEvent s 0x2120 0 (logValue 4 old) (logValue 4 s.tbWord)

/-- The candidates placed above the table (R70, R395): BRIDLE for a member that is not the holder of the claim, then TETHER-UP for a node
that is not the timeline master. -/
def State.placed (s : State) : List Nat :=
  (if s.paired && !s.holds then [8] else []) ++ (if s.cascadeOn && !s.cascadeMaster then [9] else [])

/-- The effective table (R70): (candidate, revertive), highest priority first. -/
def State.effTable (s : State) : List (Nat × Bool) :=
  (s.placed.map fun c => (c, true)) ++
    ((List.range 10).filter fun i => s.flag 0x2110 i 15).map fun i => (s.field 0x2110 i 3 0, s.flag 0x2110 i 14)

/-- The place of a candidate in the effective table; past its end when it is not there. -/
def rankOf (t : List (Nat × Bool)) (c : Nat) : Nat := (t.takeWhile fun e => e.1 != c).length

/-- What the selector chooses (R71). -/
def State.selectTarget (s : State) : Option Nat :=
  let t := s.effTable
  let best := t.find? fun e => (s.cand e.1).qualified
  match s.placed.find? fun c => (s.cand c).qualified with
  | some p => some p
  | none =>
    match (s.ref.forced.filter fun f => (s.cand f).qualified) with
    | some f => some f
    | none =>
      match s.ref.selected with
      | none => best.map Prod.fst
      | some sel =>
        if !(s.cand sel).qualified || rankOf t sel = t.length then best.map Prod.fst
        else match best with
          | some b => if rankOf t b.1 < rankOf t sel && (b.2 || s.ref.transfer) then some b.1 else some sel
          | none => some sel

/-- Whether device time equals PTP time (R48, R192): it was set to PTP time, no step of it is pending, and it follows a PTP
candidate with no build-out offset, or a timeline whose source says so of its own. -/
def State.onPtpTime (s : State) : Bool :=
  s.ref.ptpTime && s.ref.phase == .tracking &&
    !((List.range 4).any fun p => (s.plane p).step.any fun r => decide (r.stepNs ≠ 0)) &&
    (match s.ref.selected with
     | some 6 | some 7 => s.ref.buildOut == 0
     | some 8 | some 9 => s.ref.srcPtp
     | _ => false)

/-- The clock parts of a description (R192): the selected PTP candidate, and whether timestamps are on PTP time. -/
def State.describeClock (s : State) : Word :=
  let p := match s.ref.selected with
    | some c => if c = 6 ∨ c = 7 then s.field 0x2150 (c - 6) 31 24 * 2 ^ 320 + (s.ptpOf (c - 6)).gm * 2 ^ 256 else 0
    | none => 0
  p + ofBool s.onPtpTime * 2 ^ 255

/-- What `f` does; where it changes the clock parts of the stream descriptions, all of them are rebuilt (R192). -/
def noteClock (f : State → State) (s : State) : State :=
  let t := f s
  if t.describeClock = s.describeClock then t else rebuildDesc t (fun _ => true) (fun _ => true)

/-- A transfer to a candidate started, or redirected (R72, R75, R77, R89). -/
def startTransfer (s : State) (c : Nat) : State := s |> noteClock fun s =>
  let old := s.tbWord
  let s := s.put 0x2120 (if s.ref.transfer then 0x21 else 0x20)
    (wrapAdd 32 (s.elem 0x2120 (if s.ref.transfer then 0x21 else 0x20)) 1)
  let s := { s with ref := { s.ref with
    selected := some c, transfer := true, phase := .slew, slewTo := some (s.cand c).freq, within := none,
    above := none, clean := false, holdSince := none } }
  mirror (setTb s 1 old) 1 c 0

/-- Holdover on the ballast, or free-run (R79, R80, R93). -/
def enterHoldover (s : State) : State := s |> noteClock fun s =>
  let old := s.tbWord
  match s.ref.ballast with
  | some b =>
    let s := { s with ref := { s.ref with
      selected := none, transfer := false, phase := .none, slewTo := some b.1, within := none, above := none,
      holdSince := some s.up } }
    declareFault ((setTb s 3 old).count 0x2120 0x22) 0x021 0 true
  | none =>
    let s := { s with ref := { s.ref with
      selected := none, transfer := false, phase := .none, slewTo := some 0, within := none, above := none } }
    let s := setTb s 0 old
    if s.ref.lockedOnce then declareFault s 0x022 0 true else s

/-- The selector's evaluation (R71). A forced candidate that is lost clears MANUAL (R86). A fatal fault that stopped
everything stops selection too (R93). -/
def selectorEvaluate (s : State) : State :=
  if s.allStopped then s
  else
    let s := match s.ref.forced with
      | some f => if (s.cand f).qualified then s else { s with ref := { s.ref with forced := none } }
      | none => s
    let target := s.selectTarget
    if target = s.ref.selected then s
    else match target with
      | some c => startTransfer s c
      | none => enterHoldover s

/-- A loss of a candidate (R67): LOSS_REASON, the timer, the log, a NOTE when it was qualified. A DESIGN
CHOICE: DETAIL keeps its last value while the candidate is absent, of which R90 says nothing. -/
def dropCandidate (s : State) (c reason : Nat) : State :=
  let k := s.cand c
  let old := s.candWord c
  let s := s.setCand c { k with present := false, qualified := false, loss := reason }
  let s := logEvent s 0x2120 (0x10 + c) (logValue 4 old) (logValue 4 (s.candWord c))
  if k.qualified then declareFault s 0x020 c else s

/-- A loss, and a new selection (R71). -/
def loseCandidate (s : State) (c reason : Nat) : State := selectorEvaluate (dropCandidate s c reason)

/-- A qualified candidate (R67): the selector evaluates. -/
def qualifyCandidate (s : State) (c : Nat) : State :=
  selectorEvaluate (s.setCand c { s.cand c with qualified := true })

/-- Whether a candidate's recognised format meets its row and EXPECT (R66, R67). -/
def refDetailOk (s : State) (c detail : Nat) : Bool :=
  let fmt := bits detail 7 4
  let rate := bits detail 3 0
  let bb := (fmt == 0 && rate == 3) || (fmt == 1 && rate == 2)
  let tri := (fmt == 2 || fmt == 3 || fmt == 4 || fmt == 5) && planeComboOk fmt rate
  match bits (s.elem 0x2100 c) 7 6 with
  | 0 => bb || tri
  | 1 => bb
  | 2 => tri
  | _ => false

/-- Whether the bridle's four lanes are aligned (R419). -/
def State.bridleUp (s : State) : Bool := (List.range 4).all fun i => s.protocol (188 + i) == 4 && s.laneReady (188 + i)

/-- Whether a timeline record of a placed candidate arrived in the last 64 µs (R67). -/
def State.timelineFresh (s : State) (c : Nat) : Bool :=
  s.ref.srcAt.any (fun e => e.1 == c) && decide (s.up < mapGet ratD s.ref.srcAt c + 64000)

/-- Whether the upstream port is UP (R67, R394). -/
def State.upstreamUp (s : State) : Bool := s.tether.upstream.any fun p => s.flag 0xA100 (0x100 + p) 31

/-- Whether every condition of a candidate's row holds (R67), for a measured DETAIL and frequency. -/
def State.presence (s : State) (c detail : Nat) (freq : Int) : Bool :=
  let inRange := decide (-50000000 ≤ freq) && decide (freq ≤ 50000000)
  s.flag 0x2100 c 31 && !(decide (c ≤ 5) && s.exairStopped) &&
  match c with
  | 0 | 1 => refDetailOk s c detail && inRange
  | 2 | 3 | 4 | 5 => inRange
  | 6 | 7 => s.linkUp (s.field 0x2100 c 7 0) && (s.ptpOf (c - 6)).slave && (s.ptpOf (c - 6)).delay.isSome && inRange
  | 8 => s.paired && !s.holds && s.bridleUp && s.timelineFresh 8
  | 9 => s.cascadeOn && !s.cascadeMaster && s.upstreamUp && s.timelineFresh 9
  | _ => false

/-- A candidate becomes present and its wait-to-restore timer starts; with WTR 0 it qualifies at once (R67). -/
def presentCandidate (s : State) (c detail : Nat) (freq : Int) (grid : Rat) : State :=
  let k := s.cand c
  if k.present || !s.presence c detail freq then s
  else
    let s := s.setCand c { k with
      present := true, qualified := false, since := s.up, freq := freq, grid := grid,
      detail := if c < 2 then detail else if c = 6 ∨ c = 7 then (s.ptpOf (c - 6)).clockClass else 0 }
    if s.field 0x2100 c 27 18 = 0 then qualifyCandidate s c else s

def execCandidatePresent (c detail : Nat) (freq : Int) (grid : Rat) (s : State) : Host.Outcome State Fault Refusal :=
  onUnit c 10 s fun s => presentCandidate s c detail freq grid

/-- Whether a loss that is declared with `reason` stands in the candidate's row (R67): what the device sees at its pins and in
its measurements is the event's own; a PTP instance's link and state, and the conditions of a timeline, are the device's. -/
def State.mayLose (s : State) (c reason : Nat) : Bool :=
  match c with
  | 0 | 1 => reason == 1 || reason == 2 || reason == 3
  | 2 | 3 | 4 | 5 => reason == 1 || reason == 2
  | 6 | 7 => reason == 2 || (reason == 6 && !s.linkUp (s.field 0x2100 c 7 0)) ||
      (reason == 5 && !((s.ptpOf (c - 6)).slave && (s.ptpOf (c - 6)).delay.isSome))
  | 8 | 9 => reason == 6 && !s.presence c 0 0
  | _ => false

def execCandidateLoss (c reason : Nat) (s : State) : Host.Outcome State Fault Refusal :=
  onUnit c 10 s fun s => if (s.cand c).present && s.mayLose c reason then loseCandidate s c reason else s

/-- The candidates whose presence the device judges by its own state (R67), judged again where that state has changed: a PTP
instance's lane that lost its link, BRIDLE's and TETHER-UP's place in the pair and in the cascade. A DESIGN CHOICE: LOSS_REASON
is then 0x6, the one reason that their rows give beside PTP's own. -/
def judgePresence (s : State) : State :=
  [6, 7, 8, 9].foldl (fun s c =>
    let ok := if c = 6 ∨ c = 7 then s.linkUp (s.field 0x2100 c 7 0) else s.presence c 0 0
    if (s.cand c).present && !ok then dropCandidate s c 6 else s) s

/-- A change to what stands above the table (R70, R71): presence is judged again, and the selector evaluates. -/
def judgePlaced (s : State) : State := selectorEvaluate (judgePresence s)

def execCandidateQualify (c : Nat) (s : State) : Host.Outcome State Fault Refusal :=
  onUnit c 10 s fun s =>
    let k := s.cand c
    if k.present && !k.qualified && decide (k.since + (s.field 0x2100 c 27 18 : Nat) * 1000000000 ≤ s.up) then
      qualifyCandidate s c else s

/-- A write to a candidate's configuration (R66, R87). -/
def candidateConfig (s : State) (c : Nat) (payload : List Byte) : Handler :=
  let v := ofBytes payload
  let param := bits v 7 0
  let paramBad := match c with
    | 0 | 1 => bits v 7 6 == 3 || bits v 5 0 != 0
    | 6 | 7 => decide (0xC0 ≤ param) && param != 0xFF
    | _ => param != 0
  let h := plainHandler s 0x2100 c payload
    { range := decide (600 < bits v 27 18) || bits v 17 8 == 0 || decide (500 < bits v 17 8) || paramBad }
  { h with commit := fun s =>
      let old := s.elem 0x2100 c
      let s := h.commit s
      let moved := bits old 7 0 != param
      let s := if (c = 6 ∨ c = 7) ∧ moved = true then s.setPtp (c - 6) { utc := (s.ptpOf (c - 6)).utc } else s
      let s := if (s.cand c).present && ((bit old 31 && !bit v 31) || moved) then loseCandidate s c 7 else selectorEvaluate s
      if (c = 6 ∨ c = 7) ∧ moved = true ∧ param < 192 ∧ s.linkUp param = false then s.setCand c { s.cand c with loss := 6 }
      else s }

def execCandidateConfigWrite (rq : Rq) (c : Nat) (v : Word) (s : State) : Host.Outcome State Fault Refusal :=
  act s fun s => request s rq opWrite 0x2100 c (valueBytes rq v) (candidateConfig s c (valueBytes rq v))

/-- A priority table is legal (R68, R69): reserved bits zero, candidates 0-7, none in two VALID entries. -/
def tableOk (t : List Word) : Bool :=
  t.all (fun e => e &&& 0x3FF0 == 0 && decide (bits e 3 0 < 8)) &&
    ((t.filter fun e => bit e 15).map fun e => bits e 3 0).Nodup

def State.table (s : State) : List Word := (List.range 10).map fun i => s.elem 0x2110 i

/-- A new priority table put in force (R69, R87): the loss of the selected candidate's entry is reported. -/
def installTable (s : State) (t : List Word) : State :=
  let s := (List.range 10).foldl (fun s i => s.commit 0x2110 i (t.getD i 0)) s
  let s := match s.ref.selected with
    | some c => if rankOf s.effTable c = s.effTable.length && s.ref.forced != some c then declareFault s 0x020 c else s
    | none => s
  selectorEvaluate s

/-- A write to one entry, or to the whole table at 0x2110:0010 (R68, R69). -/
def priorityHandler (s : State) (sub : Nat) (payload : List Byte) : Handler :=
  let t := if sub = 0x10 then (List.range 10).map fun i => ofBytes ((payload.drop (2 * i)).take 2)
    else s.table.set sub (ofBytes payload)
  { checks := { range := !tableOk t }
    commit := fun s => installTable s t
    old := if sub = 0x10 then logBytes (s.table.flatMap (toBytes 2)) else logValue 2 (s.elem 0x2110 sub)
    new := logBytes payload }

def execPriorityTableWrite (rq : Rq) (sub : Nat) (v : Word) (s : State) : Host.Outcome State Fault Refusal :=
  act s fun s => request s rq opWrite 0x2110 sub (valueBytes rq v) (priorityHandler s sub (valueBytes rq v))

/-- A TP64 and plane given for a scheduled event (R85, R442, R562): zero means the first position 64 µs after t0. -/
def State.scheduleTp (s : State) (plane : Nat) (tp : Word) : Word := if tp = 0 then s.posUp plane (s.now + 64000) else tp

/-- Whether a scheduled TP is refused as invalid or its plane disabled (R8). -/
def State.scheduleRange (s : State) (plane : Nat) (tp : Word) : Bool :=
  decide (4 ≤ plane) || !s.planeOn plane || (tp != 0 && !tpValid (s.planeLines plane) tp)

/-- Whether a scheduled TP lies less than 64 µs after t0, or in the past. -/
def State.scheduleLate (s : State) (plane : Nat) (tp : Word) : Bool :=
  tp != 0 && (tpPassed (s.posAt plane s.now) tp || decide (s.tpTime plane tp < s.now + 64000))

/-- The banks bound to cascade takes, in scope-bit order (R389). -/
def State.bound (s : State) : Nat := s.field 0xA010 0 27 23

/-- Whether the event queue is full (R55): five entries are kept for cascade takes where a bank is bound (R406). -/
def State.queueFull (s : State) : Bool := decide ((if s.bound = 0 then 4096 else 4091) ≤ s.events.length)

/-- An entry put in the event queue (R55, R56), with the high-water mark of 0x2200:1001. -/
def queueEvent (s : State) (e : Event) : State :=
  let s := { s with events := s.events ++ [{ e with order := s.order }], order := s.order + 1 }
  if s.elem 0x2200 0x1001 < s.events.length then s.put 0x2200 0x1001 s.events.length else s

/-- A scheduled reference selection (R85). -/
def refselHandler (s : State) (rq : Rq) (payload : List Byte) : Handler :=
  let v := ofBytes payload
  let tp := bits v 79 16
  let plane := bits v 15 8
  let c := bits v 7 0
  { checks := { range := s.scheduleRange plane tp || decide (8 ≤ c), late := s.scheduleLate plane tp
                admission := s.queueFull }
    commit := fun s => queueEvent s { tp := s.scheduleTp plane tp, plane := plane, kind := 3, arg := c, rq := some rq }
    new := logBytes payload
    plane := plane % 4 }

def execRefselSchedule (rq : Rq) (arg : Word) (s : State) : Host.Outcome State Fault Refusal :=
  act s fun s => request s rq opWrite 0x2110 0x20 (valueBytes rq arg) (refselHandler s rq (valueBytes rq arg))

/-- A REFSEL entry fires (R85): the candidate is forced if it is qualified, otherwise a NOTE and a log entry. -/
def fireRefsel (s : State) (e : Event) : State :=
  let s := { s with events := s.events.filter fun x => x.order != e.order }
  if (s.cand e.arg).qualified then selectorEvaluate { s with ref := { s.ref with forced := some e.arg } }
  else logEvent (declareFault s 0x023 e.arg) 0x2110 0x20 0 (logValue 1 e.arg) e.plane false stMode

/-- Whether a pending entry is due: its plane is at or past its TP (R42). -/
def State.due (s : State) (e : Event) : Bool := !e.fired && tpPassed (s.posAt e.plane s.now) e.tp

/-- The earliest due entry of a kind, in commit order. -/
def State.dueEvent (s : State) (kinds : List Nat) : Option Event :=
  s.events.find? fun e => kinds.contains e.kind && s.due e

def execRefselFire (s : State) : Host.Outcome State Fault Refusal :=
  actRunning s fun s => match s.dueEvent [3] with
    | some e => fireRefsel s e
    | none => s

/-- MANUAL cleared by a write of 1 (R86). -/
def manualHandler (payload : List Byte) : Handler :=
  { checks := { range := decide (1 < ofBytes payload) }
    commit := fun s => if ofBytes payload = 1 then selectorEvaluate { s with ref := { s.ref with forced := none } } else s
    new := logBytes payload }

def execManualClear (rq : Rq) (v : Word) (s : State) : Host.Outcome State Fault Refusal :=
  act s fun s => request s rq opWrite 0x2140 2 (valueBytes rq v) (manualHandler (valueBytes rq v))

/-- The slew limit in 10^-12 per second (R73); 40 ppm/s while a standby joins (R431). -/
def State.slewLimit (s : State) : Rat :=
  if s.mode = .standby ∧ s.pair.inStep = false then 40000000 else (s.elem 0x2140 0 : Nat) * 10000

/-- A frequency kept within the slew limit over `dt` ns and within ±100 ppm of OSC_IN (R73). -/
def limitFreq (s : State) (dt : Rat) (f : Rat) : Rat :=
  let m := s.slewLimit * dt / 1000000000
  max (-100000000) (min 100000000 (max (s.freqNow - m) (min (s.freqNow + m) f)))

/-- The phase error judged against the threshold (R72, R74): since when it is within it, since when above ten times. -/
def judgeError (s : State) (error : Int) : State :=
  let thr : Int := s.elem 0x2140 1
  let inside := decide (-thr ≤ error) && decide (error ≤ thr)
  let far := decide (error < -(10 * thr)) || decide (10 * thr < error)
  { s with ref := { s.ref with
    phaseErr := error
    within := if inside then (match s.ref.within with | some t => some t | none => some s.up) else none
    above := if far then (match s.ref.above with | some t => some t | none => some s.up) else none } }

/-- The natural frequency of the loop at the bandwidth of candidate `c`, in radians per second (R66, R72). R72 gives the
response, not the number: a free value of BW alone. -/
def State.loopNatural (s : State) (c : Nat) : Rat := Config.loopNatural (s.field 0x2100 c 17 8)

/-- One update of the loop filter (R72, R74): second order, type 2, damping factor 1, so that the proportional gain is twice the
natural frequency and the integral gain its square. An error of 1 ns per second is 1000 x 10^-12. The output frequency goes to
the loop's output within the slew limit (R73). A timeline-carrying candidate holds it to ±5 ppm of the source (R75). -/
def loopFilter (s : State) (c : Nat) (error freq : Int) : State :=
  let w := s.loopNatural c
  let dt := (s.up - s.ref.lastMeas) / 1000000000
  let integ := s.ref.integ + 1000 * w * w * (error : Rat) * dt
  let want := integ + 2000 * w * (error : Rat)
  let want := if c < 8 then want else max (freq - 5000000 : Int) (min (freq + 5000000 : Int) want)
  { s with ref := { s.ref with integ := integ, slewTo := some want, lastMeas := s.up } }

/-- A phase measurement of the selected candidate (R72, R74): `error` is positive where the device is behind it. -/
def measure (s : State) (error freq : Int) (grid : Rat) : State :=
  match s.ref.selected with
  | none => s
  | some c =>
    if s.allStopped then s
    else
      let s := s.setCand c { s.cand c with freq := freq, grid := grid }
      match s.ref.phase with
      | .slew => { s with ref := { s.ref with slewTo := some freq } }
      | .tracking => judgeError (loopFilter s c error freq) error
      | .none => s

def execPhaseMeasurement (error freq : Int) (grid : Rat) (s : State) : Host.Outcome State Fault Refusal :=
  actRunning s fun s => measure s error freq grid

/-- Device time less the PTP time of an instance (R84): the correction is in `offset`. -/
def State.ptpOffset (s : State) (c : Nat) : Rat := ((s.ptpOf (c - 6)).offset).getD 0

/-- The device time of PTP time zero by candidate `c`, which is where every ST 2059-1 grid has a point (R44). -/
def State.ptpEpoch (s : State) (c : Nat) : Rat := s.ptpOffset c

/-- The rate family for which a candidate carries frame phase (R44): REF candidates the family of their own rate. -/
def State.phaseFamily (s : State) (c : Nat) : Option Nat :=
  if c < 2 then some (rateFamily (bits (s.cand c).detail 3 0)) else none

/-- The re-origin step of plane `p` under candidate `c`, decided with `b` given (R44, R45); `stepNs` is how far device
time steps with it (R46, R48). -/
def planStep (s : State) (p c : Nat) (b stepNs : Rat) : Reorigin :=
  let per := periodNs (s.planeRate p)
  if c = 6 ∨ c = 7 then
    let epoch := s.ptpEpoch c
    let b' := gridAtOrAfter epoch per b
    { b := b, b' := b', origin := epoch, kind := 2, stepNs := stepNs }
  else if c = 8 ∨ c = 9 then
    let off := mapGet ratD s.ref.srcOffset c
    let src := mapGet pairD s.ref.srcPlanes p
    let origin := src.2 - off
    { b := b, b' := gridAtOrAfter origin per b, origin := origin, kind := src.1, stepNs := stepNs }
  else if s.phaseFamily c = some (rateFamily (s.planeRateCode p)) then
    let refPer := periodNs (rateHz (bits (s.cand c).detail 3 0))
    let g := (s.cand c).grid
    let b' := gridAtOrAfter g (min refPer per) b
    { b := b, b' := b', origin := gridAtOrBefore g refPer b', kind := 1, stepNs := stepNs }
  else { b := b, b' := b, origin := b, kind := 1, stepNs := stepNs }

/-- Cascade takes that the master no longer holds (R407, R409): their banks are not reseeded. -/
def dropIssued (s : State) (is : List Issued) : State :=
  let all := is.foldl (fun a i => a ||| i.scope) 0
  { s with tether := { s.tether with
    issued := s.tether.issued.filter fun i => !is.contains i
    bankFree := (List.range 5).foldl (fun m b => if bit all b then mapErase m b else m) s.tether.bankFree } }

/-- A step that is decided (R45): pending events of the plane are discarded, each TAKE reported with TOO_LATE. -/
def putStep (s : State) (p : Nat) (r : Reorigin) : State :=
  let s := discardEvents s (fun e => e.plane == p) stLate
  let s := dropIssued s (s.tether.issued.filter fun i => i.plane == p && tpLater i.tp (s.posAt p s.now))
  s.setPlane p { s.plane p with step := some r, hadLock := true }

/-- A re-origin step decided (R45): b is the first frame boundary of the present timeline after the decision. A step already
pending is joined; a DESIGN CHOICE, where R45 is silent: what was queued since the first decision is not discarded by the one
that joins. -/
def decideStep (s : State) (p c : Nat) (stepNs : Rat) : State := s |> noteClock fun s =>
  match (s.plane p).step with
  | some r => s.setPlane p { s.plane p with step := some { r with stepNs := if r.stepNs = 0 then stepNs else r.stepNs } }
  | none => putStep s p { planStep s p c (s.planeFrameAfter p s.now) stepNs with first := !(s.plane p).hadLock }

/-- The instants that the timebase and the planes hold in device time, moved by `d` (R38, R48). -/
def shiftTimebase (s : State) (d : Rat) : State :=
  let s := (List.range 4).foldl (fun s p =>
    if s.planeOn p then
      let x := s.plane p
      s.setPlane p { x with
        origin := x.origin + d
        step := x.step.map fun r => { r with b := r.b + d, b' := r.b' + d, origin := r.origin + d } }
    else s) s
  let now := s.now + d
  let move (t : Option Rat) : Option Rat := t.map (· + d)
  { s with
    now := now
    stepped := s.stepped + d
    ref := { s.ref with
      second := now.floor / 1000000000, clean := false, acc := 0, lastPulse := (now / 1000000000).ceil - 1
      lastFrame := s.ref.lastFrame + d
      cands := mapAll candD (fun _ x => { x with grid := x.grid + d }) s.ref.cands
      ptp := mapAll ptpD (fun _ x =>
        { x with syncT2 := move x.syncT2, t21 := move x.t21, reqT3 := move x.reqT3, offset := move x.offset }) s.ref.ptp
      srcOffset := mapAll ratD (fun _ x => x - d) s.ref.srcOffset } }

/-- The instants that every other part holds in device time, moved by `d` (R48). -/
def shiftEssence (s : State) (d : Rat) : State :=
  let move (t : Option Rat) : Option Rat := t.map (· + d)
  let line (l : CellLine) : CellLine := { l with written := l.written + d }
  let frame (f : FsFrame) : FsFrame := { f with arrival := f.arrival + d }
  let staged (f : Staged) : Staged := { f with start := f.start + d, done := f.done + d }
  { s with
    events := s.events.map fun (e : Event) => { e with ends := e.ends + d, points := e.points.map fun x => (x.1, x.2 + d) }
    moves := s.moves.map fun (m : Move) => { m with start := m.start + d, point := move m.point }
    faults := { s.faults with
      src := mapAll srcD (fun _ x => { x with lastLog := move x.lastLog, lastHist := move x.lastHist }) s.faults.src }
    pair := { s.pair with handover := s.pair.handover.map fun h => (h.1 + d, h.2) }
    boot := { s.boot with restAt := move s.boot.restAt }
    cells := mapAll cellsD (fun _ x => { x with lines := x.lines.map line }) s.cells
    feeds := mapAll feedD (fun _ x => x.map line) s.feeds
    ins := mapAll inD (fun _ x =>
      { x with arrival := x.arrival + d, beganAt := x.beganAt + d, missAt := x.missAt + d, arrivals := x.arrivals.map (· + d), win := x.win.map frame
               evicted := x.evicted.map frame }) s.ins
    outs := mapAll outD (fun _ x =>
      { x with startAt := x.startAt + d, swapAt := move x.swapAt, changeAt := x.changeAt + d, audioAt := x.audioAt + d
               prev := x.prev.map fun v => { v with startAt := v.startAt + d } }) s.outs
    layers := mapAll layerD (fun _ x =>
      { x with stages := x.stages.map fun (y : Stage) => { y with frames := y.frames.map staged }
               shown := x.shown.map fun (c : Contribution) => { c with staged := c.staged.map staged } }) s.layers
    heads := mapAll headD (fun _ x =>
      { x with shots := x.shots.map fun (y : HeadShot) => { y with start := y.start + d }, gapUntil := move x.gapUntil }) s.heads
    meterStamp := s.meterStamp + d }

/-- Device time stepped by `d` (R48): every enabled plane's origin moves with it, so no position moves. Every instant the
device holds in device time moves with it too. -/
def stepTime (s : State) (d : Rat) : State := if d = 0 then s else shiftEssence (shiftTimebase s d) d

/-- The device time of an ORIGIN code in 0x2010 (R37): bits [19:18]. -/
def setOriginKind (s : State) (p kind : Nat) : State := s.putField 0x2010 p 19 18 kind

/-- Capture (R72, R75, R76): planes that had no first lock step; BRIDLE and TETHER-UP keep offset zero; every other
capture takes the build-out offset. A DESIGN CHOICE: the offset goes to the nearest whole ns, a half upwards, since R76 gives no
rounding. The loop goes on from the present frequency. -/
def captureRef (s : State) (c : Nat) : State :=
  let firstTb := !s.ref.everLocked
  let ps := (List.range 4).filter fun p => s.planeOn p && !(s.plane p).hadLock
  let fold (t per : Rat) : Int := (t - (((t / per) + 1 / 2).floor : Rat) * per + 1 / 2).floor
  let off : Int :=
    if c = 8 ∨ c = 9 then 0
    else if ps.contains 0 then 0
    else if c = 6 ∨ c = 7 then fold (s.ptpEpoch c) (periodNs (s.planeRate 0))
    else if c < 2 then fold (s.cand c).grid (periodNs (rateHz (bits (s.cand c).detail 3 0)))
    else if c < 4 then fold (s.cand c).grid 100 else fold (s.cand c).grid 1000000000
  let s := s |> noteClock fun s => { s with ref := { s.ref with
    phase := .tracking, slewTo := none, buildOut := off, lastMeas := s.up, integ := s.freqNow, within := none, everLocked := true
    ptpTime := if firstTb then decide (6 ≤ c) else s.ref.ptpTime } }
  let jump : Rat := if !firstTb then 0 else if c = 6 ∨ c = 7 then -s.ptpEpoch c
    else if c = 8 ∨ c = 9 then mapGet ratD s.ref.srcOffset c else 0
  ps.foldl (fun s p => decideStep s p c (if p = 0 then jump else 0)) s

/-- Whether the slew has ended (R72): the output frequency and the target's measured frequency agree within 0.01 ppm. -/
def State.slewEnds (s : State) (c : Nat) : Bool :=
  decide (-10000 ≤ s.freqNow - (s.cand c).freq) && decide (s.freqNow - (s.cand c).freq ≤ 10000)

def execDpllCapture (s : State) : Host.Outcome State Fault Refusal :=
  actRunning s fun s => match s.ref.selected with
    | some c => if s.ref.phase = .slew ∧ s.slewEnds c = true ∧ s.allStopped = false then captureRef s c else s
    | none => s

/-- LOCKED (R72, R93): holdover and free-run after lock are over. -/
def locked (s : State) : State :=
  let s := setTb { s with ref := { s.ref with transfer := false, lockedOnce := true } } 2 s.tbWord
  clearActive (clearActive s 0x021) 0x022

def execDpllLocked (s : State) : Host.Outcome State Fault Refusal :=
  actRunning s fun s => match s.ref.within with
    | some t =>
      if s.ref.tb = 1 ∧ s.ref.phase = .tracking ∧ t + 2000000000 ≤ s.up ∧ s.allStopped = false then locked s else s
    | none => s

def execLossOfLock (s : State) : Host.Outcome State Fault Refusal :=
  actRunning s fun s => match s.ref.above, s.ref.selected with
    | some t, some c =>
      if s.ref.tb = 2 ∧ t + 1000000000 ≤ s.up ∧ s.allStopped = false then loseCandidate { s with ref := { s.ref with above := none } } c 4 else s
    | _, _ => s

/-- The ballast over a window that ends `offset` seconds before second `k`, when every second of both was recorded
(R78): the mean and the window's last second. -/
def ballastAt (s : State) (k : Int) : Option (Rat × Int) :=
  let len := s.elem 0x2130 0
  let off := s.elem 0x2130 1
  let rec1 (i : Nat) : Option Rat := (s.ref.seconds.find? fun e => e.1 == k - 1 - (i : Int)).map Prod.snd
  let all := (List.range (len + off)).map rec1
  if all.all Option.isSome && len != 0 then
    some ((((all.drop off).map fun o => o.getD 0).foldl (· + ·) 0) / (len : Nat), k - (off : Int))
  else none

/-- A whole second of device time has passed (R78): its average is recorded if it qualifies, and the ballast renewed. -/
def recordSecond (s : State) : State :=
  let k := s.now.floor / 1000000000
  if k ≤ s.ref.second then s
  else
    let r := s.ref
    let secs := if r.clean && k == r.second + 1 then (r.seconds ++ [(r.second, r.acc / 1000000000)]) else r.seconds
    let secs := secs.filter fun e => decide (k - 3901 < e.1)
    let s := { s with ref := { r with seconds := secs, second := k, acc := 0, clean := r.tb == 2 && !r.transfer } }
    match ballastAt s k with
    | some b => { s with ref := { s.ref with ballast := some b } }
    | none => s

def execBallastSecondRecord (s : State) : Host.Outcome State Fault Refusal := actRunning s recordSecond

/-- 2^k seconds in ns. -/
def logSeconds (k : Int) : Rat :=
  if 0 ≤ k then (2 ^ k.toNat : Nat) * 1000000000 else 1000000000 / (2 ^ (-k).toNat : Nat)

/-- A new offset from a Sync timestamp pair, once the delay is known (R82, R84): the asymmetry is subtracted. -/
def ptpOffsetFrom (s : State) (i : Nat) (p : Ptp) : Ptp :=
  match p.t21, p.delay with
  | some d, some m => { p with offset := some (d - m - (toSigned 32 (s.elem 0x2150 (2 + i)) : Int)) }
  | _, _ => p

/-- The data sets of two Announces in the order of IEEE 1588-2019's default algorithm for a port that is a slave only (R82):
grandmaster priority 1, class, accuracy, variance, priority 2 and identity, then steps removed, then the sender's identity. -/
def announceData (a : PtpAnnounce) : Nat :=
  ((((((a.priority1 * 256 + a.clockClass % 256) * 256 + a.accuracy % 256) * 65536 + a.variance % 65536) * 256 +
    a.priority2 % 256) * 2 ^ 64 + a.gm % 2 ^ 64) * 65536 + a.steps % 65536) * 2 ^ 80 + a.sender % 2 ^ 80

/-- The announce receipt timeout of an instance for a master's interval (R83). -/
def State.annTimeout (s : State) (i : Nat) (interval : Rat) : Rat := (s.field 0x2150 i 19 16 : Nat) * interval

/-- The best of the masters that qualify, and whose Announces have not timed out (R82). -/
def State.bestMaster (s : State) (i : Nat) (fs : List Foreign) : Option Foreign :=
  (fs.filter fun f => f.qualified && decide (s.up < f.at_ + s.annTimeout i (logSeconds f.ann.logInterval))).foldl (fun b f =>
    match b with
    | none => some f
    | some g => if announceData f.ann < announceData g.ann then some f else some g) none

/-- The masters heard with a new Announce among them (R82): the present parent qualifies, any other by its second Announce
within four of its intervals. Announces of another timescale, or 255 steps or more away, do not count. -/
def hearMaster (s : State) (p : Ptp) (a : PtpAnnounce) : List Foreign :=
  let old := p.foreign.find? fun f => f.ann.sender == a.sender
  let again := old.any fun f => decide (s.up ≤ f.at_ + 4 * logSeconds a.logInterval)
  (p.foreign.filter fun f => f.ann.sender != a.sender) ++
    [{ ann := a, at_ := s.up, qualified := again || (p.slave && p.parent == a.sender) }]

/-- An instance follows master `a` (R82): a new grandmaster is a loss of the candidate (R67). -/
def followMaster (s : State) (i : Nat) (fs : List Foreign) (f : Foreign) : State :=
  let p := s.ptpOf i
  let a := f.ann
  let changed := p.slave && a.gm != p.gm
  let s := s |> noteClock fun s => s.setPtp i { (if changed then ({} : Ptp) else p) with
    foreign := fs, parent := a.sender, parentIp := a.ip, parentMac := a.mac
    slave := true, gm := a.gm, clockClass := a.clockClass, utc := a.utc
    annInterval := logSeconds a.logInterval, lastAnnounce := f.at_ }
  let s := s.setCand (6 + i) { s.cand (6 + i) with
    detail := if (s.cand (6 + i)).present then a.clockClass else (s.cand (6 + i)).detail }
  if changed && (s.cand (6 + i)).present then loseCandidate s (6 + i) 5 else s

/-- An Announce (R82): the masters heard are compared again; what another master says while the parent stays the best changes
nothing else. -/
def ptpAnnounce (s : State) (i : Nat) (a : PtpAnnounce) : State :=
  let p := s.ptpOf i
  if !a.ptpScale || decide (255 ≤ a.steps) then s
  else
    let fs := hearMaster s p a
    match s.bestMaster i fs with
    | some f =>
      if f.ann.sender = a.sender ∨ p.slave = false ∨ f.ann.sender ≠ p.parent then followMaster s i fs f
      else s.setPtp i { p with foreign := fs }
    | none => s.setPtp i { p with foreign := fs }

/-- A PTP message reaches its instance (R82). Messages of another domain, and timing messages of another master than the one
followed, do nothing. -/
def ptpMessage (s : State) (i domain : Nat) (msg : PtpMsg) : State :=
  if domain ≠ s.field 0x2150 i 31 24 ∨ ¬ s.ethLeader (s.field 0x2100 (6 + i) 7 0) then s
  else
    let p := s.ptpOf i
    let mine (sender : Nat) : Bool := p.slave && sender == p.parent
    match msg with
    | .announce a => ptpAnnounce s i a
    | .sync sender seq twoStep t1 =>
      if !mine sender then s
      else
        let iv := match p.lastSync with
          | some t => s.up - t
          | none => p.syncInterval
        let p := { p with lastSync := some s.up, syncInterval := iv, syncSeq := seq, syncT2 := some s.now }
        if twoStep then s.setPtp i p
        else s.setPtp i (ptpOffsetFrom s i { p with t21 := some (s.now - t1) })
    | .followUp sender seq t1 =>
      match p.syncT2 with
      | some t2 =>
        if mine sender && seq == p.syncSeq then s.setPtp i (ptpOffsetFrom s i { p with t21 := some (t2 - t1), syncT2 := none })
        else s
      | none => s
    | .delayResp sender seq t4 logInt =>
      match p.reqT3, p.t21 with
      | some t3, some d =>
        if mine sender && seq == p.reqSeq then
          s.setPtp i (ptpOffsetFrom s i { p with
            delay := some ((d + (t4 - t3)) / 2), reqT3 := none, reqInterval := logSeconds logInt })
        else s
      | _, _ => s

def execPtpMessageReceived (i domain : Nat) (msg : PtpMsg) (s : State) : Host.Outcome State Fault Refusal :=
  onUnit i 2 s fun s => ptpMessage s i domain msg

/-- The announce receipt timeout, or no Sync for four sync intervals (R67, R83). -/
def ptpTimeout (s : State) (i : Nat) : State :=
  let p := s.ptpOf i
  let ann := decide (p.lastAnnounce + s.annTimeout i p.annInterval ≤ s.up)
  let syn := match p.lastSync with
    | some t => decide (t + 4 * p.syncInterval ≤ s.up) && decide (0 < p.syncInterval)
    | none => false
  if p.slave && (ann || syn) then
    let s := s.setPtp i { p with
      slave := !ann, delay := none, offset := none, t21 := none
      foreign := if ann then p.foreign.filter fun f => f.ann.sender != p.parent else p.foreign }
    if (s.cand (6 + i)).present then loseCandidate s (6 + i) 5 else s
  else s

def execPtpAnnounceTimeout (i : Nat) (s : State) : Host.Outcome State Fault Refusal := onUnit i 2 s fun s => ptpTimeout s i

/-- PPS_OUT at a whole second of device time (R92). -/
def execPpsOutPulse (s : State) : Host.Outcome State Fault Refusal :=
  actRunning s fun s =>
    let k := s.now.floor / 1000000000
    if s.ref.lastPulse < k then ({ s with ref := { s.ref with lastPulse := k } } : State).emit (.pulse 0 100000) else s

/-- FRAME_OUT for the first house line of a plane 0 frame (R92). -/
def execFrameOutPulse (s : State) : Host.Outcome State Fault Refusal :=
  actRunning s fun s =>
    let f := gridAtOrBefore (s.plane 0).origin (periodNs (s.planeRate 0)) s.now
    if s.ref.lastFrame < f then
      ({ s with ref := { s.ref with lastFrame := f } } : State).emit (.pulse 1 (s.houseLine 0).floor.toNat)
    else s

/-- A write to a slew limit, lock threshold, ballast window or offset (R73, R74, R78). -/
def timebaseRange (idx sub : Nat) (v : Word) : Bool :=
  if idx = 0x2140 ∧ sub = 0 then decide (v < 5) || decide (1000 < v)
  else if idx = 0x2140 ∧ sub = 1 then decide (v < 10) || decide (10000 < v)
  else if idx = 0x2130 ∧ sub = 0 then v == 0 || decide (3600 < v)
  else if idx = 0x2130 ∧ sub = 1 then decide (300 < v)
  else if idx = 0x2150 ∧ sub < 2 then
    decide (127 < bits v 31 24) || decide (bits v 19 16 < 2) || decide (10 < bits v 19 16) ||
      (bit v 15 && (bits v 11 0 == 0 || bits v 11 0 == 0xFFF))
  else if idx = 0x2150 then decide (toSigned 32 v < -100000) || decide (100000 < toSigned 32 v)
  else false

/-- Writes to the plain timebase elements (R73, R74, R78, R83, R84, R87): a PTP reconfiguration is a loss. -/
def timebaseHandler (s : State) (idx sub : Nat) (payload : List Byte) : Handler :=
  let v := ofBytes payload
  let h := plainHandler s idx sub payload { range := timebaseRange idx sub v }
  { h with commit := fun s =>
      let changed := s.elem idx sub != v
      let s := noteClock h.commit s
      if idx = 0x2150 ∧ sub < 2 ∧ changed then
        let s := s.setPtp sub { utc := (s.ptpOf sub).utc }
        if (s.cand (6 + sub)).present then loseCandidate s (6 + sub) 7 else s
      else if idx = 0x2140 then selectorEvaluate s
      else s }

end Sys2Proof.Machine
end

