-- ==== Sys2Proof/Machine/Lanes.lean ====
section
/-! DEFINITION. The lane array (R94-R132): lane mode and rates, the synthesisers of a quad, the receivers' detectors,
adaptation, the tether and bridle line code, electrical idle, transmit shorts, patterns and counters. -/

namespace Sys2Proof.Machine

def State.lane (s : State) (l : Nat) : LaneSt := mapGet laneD s.lanes l
def State.setLane (s : State) (l : Nat) (x : LaneSt) : State := { s with lanes := mapSet laneD s.lanes l x }
def State.synth (s : State) (y : Nat) : Synth := mapGet synthD s.synths y
def State.setSynth (s : State) (y : Nat) (x : Synth) : State := { s with synths := mapSet synthD s.synths y x }

/-- PROTOCOL codes (R95). -/
abbrev protoOff : Nat := 0
abbrev protoSdi : Nat := 1
abbrev protoEth : Nat := 2
abbrev protoTether : Nat := 3
abbrev protoBridle : Nat := 4
abbrev protoPattern : Nat := 5

/-- The reset mode word: OFF with AUTO_POL and TRAIN_EN (R95). -/
abbrev laneModeReset : Word := 0x00880000

/-- Whether the line code of R113 runs on a protocol. -/
def lineCoded (proto : Nat) : Bool := proto == protoTether || proto == protoBridle

/-- The family of a rate code (R99): 0x01 SDI-I, 0x02 SDI-M, 0x03 ETH-25, 0x04 ETH-50, 0x05 TB-56, 0x80 CUSTOM; 0 for
none and for automatic. -/
def rateCodeFamily (code : Nat) : Nat :=
  match code with
  | 0x01 | 0x02 | 0x04 | 0x06 | 0x08 => 0x01
  | 0x03 | 0x05 | 0x07 | 0x09 => 0x02
  | 0x10 | 0x11 => 0x03
  | 0x12 | 0x13 | 0x14 | 0x15 | 0x21 | 0x22 => 0x04
  | 0x20 => 0x05
  | 0x30 | 0x31 => 0x80
  | _ => 0

/-- Whether a rate code is PAM4 (R99). -/
def ratePam4 (code : Nat) : Bool := [0x12, 0x13, 0x14, 0x15, 0x20, 0x21, 0x22, 0x31].contains code

/-- Whether a code is one of the table Rate codes or none (R98, R99). -/
def rateListed (code : Nat) : Bool := code == 0 || code == 0x0F || rateCodeFamily code != 0

/-- Whether a protocol takes a rate code in a direction (R98, R99). `tx` is the transmit element. -/
def rateAllowed (proto code : Nat) (tx : Bool) : Bool :=
  code == 0 ||
  (rateListed code &&
    (if proto = protoOff then code != 0x0F
     else if proto = protoSdi then decide (code ≤ 9) || (code == 0x0F && !tx)
     else if proto = protoEth then decide (0x10 ≤ code) && decide (code ≤ 0x15)
     else if lineCoded proto then [0x20, 0x21, 0x22, 0x31].contains code
     else code != 0x0F && code != 0x14 && code != 0x15))

def rateCode (w : Word) : Nat := bits w 31 24
def rateCustom (w : Word) : Nat := bits w 23 0

/-- CUSTOM within its range, and zero for a code that takes none (R98, R99). -/
def customOk (w : Word) : Bool :=
  if rateCode w = 0x30 then decide (125000 ≤ rateCustom w) && decide (rateCustom w ≤ 2812500)
  else if rateCode w = 0x31 then decide (2656250 ≤ rateCustom w) && decide (rateCustom w ≤ 5625000)
  else rateCustom w == 0

/-- Whether a lane's mode and rates go together (R95, R98, R99, R104). -/
def laneValid (s : State) (l : Nat) (m rx tx : Word) : Bool :=
  let p := laneProtocol m
  let code := rateCode tx
  let fec := bits m 18 17
  let steered := p == protoSdi || lineCoded p
  decide (p ≤ 5) && (p != protoBridle || decide (188 ≤ l)) && bits m 15 0 == 0 &&
    (if steered then s.planeOn (lanePlane m) else lanePlane m == 0) &&
    (!bit m 21 || lineCoded p) && (!bit m 20 || p == protoEth) &&
    (fec == 0 || (p == protoEth && ((code == 0x10 && fec == 1) || (code == 0x11 && (fec == 1 || fec == 2))))) &&
    (!bit m 16 || (p == protoEth && ratePam4 code)) &&
    rateAllowed p (rateCode rx) false && rateAllowed p code true && customOk rx && customOk tx &&
    (p != protoEth || ((code != 0x14 || l % 2 == 0) && (code != 0x15 || l % 4 == 0)))

/-- The partners of lane `l` when it leads an Ethernet group (R104). -/
def groupPartners (l : Nat) (m tx : Word) : List Nat :=
  if laneProtocol m = protoEth ∧ rateCode tx = 0x14 then [l + 1]
  else if laneProtocol m = protoEth ∧ rateCode tx = 0x15 then [l + 1, l + 2, l + 3]
  else []

/-- A lane's three elements as a write leaves them: lane, mode, receive rate, transmit rate. -/
abbrev LaneSet := Nat × Word × Word × Word

def State.rxWord (s : State) (l : Nat) : Word := s.elem 0x3100 l
def State.txWord (s : State) (l : Nat) : Word := s.elem 0x3100 (0x100 + l)

/-- Every lane a write to lane `l` sets (R97, R104). -/
def laneChanges (s : State) (l : Nat) (m rx tx : Word) : List LaneSet :=
  let old := groupPartners l (s.laneMode l) (s.txWord l)
  let new := groupPartners l m tx
  let bridle := [188, 189, 190, 191].filter fun o => o != l && !new.contains o
  let released := old.filter fun p => !new.contains p && !(laneProtocol m == protoBridle)
  (l, m, rx, tx) ::
    (new.map (fun p => (p, m, rx, tx)) ++
     released.map (fun p => (p, laneModeReset, 0, 0)) ++
     (if laneProtocol m = protoBridle then bridle.map fun o => (o, m, rx, tx)
      else if s.protocol l = protoBridle then bridle.map fun o => (o, laneModeReset, s.rxWord o, s.txWord o)
      else []))

/-- The fields whose change restarts the link (R96): PROTOCOL, RX_EN, TX_EN, PLANE, AN_EN, TRAIN_EN, PRECODE_REQ, FEC. -/
def modeRestarts (old new : Word) : Bool :=
  bits old 31 24 != bits new 31 24 || bits old 20 16 != bits new 20 16

/-- Whether a change restarts a lane (R96). -/
def laneRestarts (s : State) (c : LaneSet) : Bool :=
  modeRestarts (s.laneMode c.1) c.2.1 || s.rxWord c.1 != c.2.2.1 || s.txWord c.1 != c.2.2.2

/-- A lane's elements after `cs`. -/
def laneAfter (s : State) (cs : List LaneSet) (l : Nat) : Word × Word × Word :=
  match cs.find? (fun c => c.1 == l) with
  | some c => c.2
  | none => (s.laneMode l, s.rxWord l, s.txWord l)

/-- What a synthesiser is fixed by (R100): its source and its family, with a CUSTOM family's rate. -/
abbrev SynthKey := Option Nat × Nat × Nat

def familyKey (rate : Word) : Nat × Nat :=
  let f := rateCodeFamily (rateCode rate)
  (f, if f = 0x80 then rate else 0)

/-- The requirement of one direction (R100): a NOMINAL or steered synthesiser, or (receive) any of a family. -/
inductive Need where
  | none
  | exact (key : SynthKey)
  | family (f : Nat × Nat)
deriving DecidableEq, Repr

/-- What a lane's receiver and transmitter require (R100). -/
def rxNeed (m rx : Word) : Need :=
  let f := familyKey rx
  if !laneRxEn m || laneProtocol m == protoOff || f.1 == 0 then .none
  else if laneProtocol m = protoEth ∨ laneProtocol m = protoPattern then .exact (Option.none, f)
  else .family f

def txNeed (m tx : Word) : Need :=
  let f := familyKey tx
  if !laneTxEn m || laneProtocol m == protoOff || f.1 == 0 then .none
  else if laneProtocol m = protoEth ∨ laneProtocol m = protoPattern then .exact (Option.none, f)
  else .exact (some (lanePlane m), f)

/-- The requirements of quad `q` after `cs`. -/
def quadNeeds (s : State) (cs : List LaneSet) (q : Nat) : List Need :=
  (List.range 4).flatMap fun i =>
    let e := laneAfter s cs (4 * q + i)
    [rxNeed e.1 e.2.1, txNeed e.1 e.2.2]

def Synth.key (y : Synth) : SynthKey := (y.plane, y.family, y.custom)

/-- Which synthesiser of the quad serves a need: 0 A, 1 B. A receiver keeps the one it has (`held`) while that serves, else
takes the first. -/
def servedBy (s : State) (q : Nat) (n : Need) (held : Nat) : Option Nat :=
  let a := s.synth (2 * q)
  let b := s.synth (2 * q + 1)
  let ok (y : Synth) : Bool := match n with
    | .none => false
    | .exact k => y.family != 0 && y.key == k
    | .family f => y.family != 0 && y.key.2 == f
  if held = 1 ∧ ok b then some 1 else if ok a then some 0 else if ok b then some 1 else none

/-- The synthesiser that serves an automatic SDI receiver for an incoming code (R105): one of its family, a locked one
first. -/
def State.autoServed (s : State) (l code : Nat) : Option Nat :=
  let has (k : Nat) : Bool := rateCodeFamily code != 0 && (s.synth (2 * (l / 4) + k)).family == rateCodeFamily code
  match (List.range 2).find? (fun k => has k && (s.synth (2 * (l / 4) + k)).locked) with
  | some k => some k
  | none => (List.range 2).find? has

/-- Which synthesiser serves a lane's receiver and its transmitter (R100, R105). -/
def State.rxServedBy (s : State) (l : Nat) : Option Nat :=
  if s.protocol l = protoSdi ∧ s.rxCode l = 0x0F ∧ laneRxEn (s.laneMode l) = true then s.autoServed l (s.lane l).incoming
  else servedBy s (l / 4) (rxNeed (s.laneMode l) (s.rxWord l)) (s.field 0x3200 l 20 20)
def State.txServedBy (s : State) (l : Nat) : Option Nat :=
  servedBy s (l / 4) (txNeed (s.laneMode l) (s.txWord l)) (s.field 0x3200 l 21 21)

/-- The synthesisers that a quad's lanes in use have now and go on needing (R100): one that serves a receiver alone is kept
as one that serves a transmitter is. -/
def quadKept (s : State) (q : Nat) (needs : List Need) : List SynthKey :=
  ((List.range 4).filter fun i => s.laneInUse (4 * q + i)).filterMap fun i =>
    match s.rxServedBy (4 * q + i), needs.getD (2 * i) .none with
    | some k, .family f => if (s.synth (2 * q + k)).key.2 = f then some (s.synth (2 * q + k)).key else none
    | _, _ => none

/-- The synthesisers a quad needs (R100): those its transmitters and NOMINAL users fix, and for a receiver's family that
none of those has, the one it has now, else a NOMINAL one; and where there is room, each that serves a receiver of a lane in
use. -/
def quadKeys (s : State) (q : Nat) (needs : List Need) : List SynthKey :=
  let exact : List SynthKey := needs.foldl (fun a n => match n with
    | .exact k => if a.contains k then a else a ++ [k]
    | _ => a) []
  let keys := needs.foldl (fun a n => match n with
    | .family f =>
      if a.any (fun k => k.2 == f) then a
      else if (s.synth (2 * q)).key.2 = f then a ++ [(s.synth (2 * q)).key]
      else if (s.synth (2 * q + 1)).key.2 = f then a ++ [(s.synth (2 * q + 1)).key]
      else a ++ [(none, f)]
    | _ => a) exact
  (quadKept s q needs).foldl (fun a k => if a.length < 2 && !a.contains k then a ++ [k] else a) keys

/-- Keys placed on A and B (R100): a synthesiser that goes on serving keeps its place. -/
def placeKeys (s : State) (q : Nat) (keys : List SynthKey) : Option SynthKey × Option SynthKey :=
  let a := (s.synth (2 * q)).key
  let b := (s.synth (2 * q + 1)).key
  let ka := keys.find? (· == a)
  let kb := keys.find? (fun k => k == b && some k != ka)
  let rest := keys.filter fun k => some k != ka && some k != kb
  match ka, kb, rest with
  | some x, some y, _ => (some x, some y)
  | some x, none, r => (some x, r.head?)
  | none, some y, r => (r.head?, some y)
  | none, none, r => (r.head?, (r.drop 1).head?)

/-- A synthesiser set, kept or freed. -/
def setKey (s : State) (y : Nat) (k : Option SynthKey) : State :=
  match k with
  | none => s.setSynth y {}
  | some k =>
    if (s.synth y).family != 0 && (s.synth y).key == k then s
    else s.setSynth y { plane := k.1, family := k.2.1, custom := k.2.2, setAt := s.up }

/-- Whether a lane's receiver, or transmitter, runs: its synthesiser is locked (R100). -/
def State.rxRuns (s : State) (l : Nat) : Bool :=
  laneRxEn (s.laneMode l) &&
  (match s.rxServedBy l with
   | some k => (s.synth (2 * (l / 4) + k)).locked
   | none => false)
def State.txRuns (s : State) (l : Nat) : Bool :=
  match s.txServedBy l with
  | some k => (s.synth (2 * (l / 4) + k)).locked
  | none => false

/-- Whether the rate that comes in is not that of an SDI receiver at a fixed code, which locks only to its own (R105). -/
def State.otherRate (s : State) (l : Nat) : Bool :=
  s.protocol l == protoSdi && s.rxCode l != 0x0F && (s.lane l).incoming != 0 && (s.lane l).incoming != s.rxCode l

/-- Whether a lane's receiver takes its own transmitter instead of the line (R128): near-end loopback, serial or PCS. -/
def State.nearEnd (s : State) (l : Nat) : Bool := s.field 0x3400 l 26 24 == 1 || s.field 0x3400 l 26 24 == 3

/-- Whether a lane delivers what it receives upward (R105, R112). -/
def State.delivers (s : State) (l : Nat) : Bool := s.rxRuns l && !s.laneLos l && !s.laneLol l && !s.otherRate l

/-- Whether a lane takes in what arrives on the line (R112, R128). -/
def State.hears (s : State) (l : Nat) : Bool := s.delivers l && !s.nearEnd l

/-- The lane directions synthesiser `y` serves (R101). -/
def State.synthUsers (s : State) (y : Nat) : Nat :=
  (List.range 4).foldl (fun n i =>
    let l := 4 * (y / 2) + i
    n + ofBool (s.rxServedBy l == some (y % 2)) + ofBool (s.txServedBy l == some (y % 2))) 0

/-- 0x3100:0200 + y (R101). -/
def State.synthWord (s : State) (y : Nat) : Word :=
  let x := s.synth y
  if x.family = 0 then 0
  else 2 ^ 31 + ofBool x.locked * 2 ^ 30 + ofBool x.plane.isSome * 2 ^ 29 + x.plane.getD 0 * 2 ^ 27 +
    x.family * 2 ^ 16 + s.synthUsers y * 2 ^ 8

/-- The NOTE of rates not served ends with the last RATE_UNSERVED. -/
def settleServed (s : State) : State := if (s.elems 0x3200).any (fun e => bit e.2 22) then s else clearActive s 0x043

/-- TX_SYNTH and RX_SYNTH follow the synthesisers that serve a lane (R130). A DESIGN CHOICE: RX_SYNTH of a receiver that no
synthesiser serves reads as TX_SYNTH, and each of the two as 0 where none serves the transmitter either. -/
def noteServers (s : State) (l : Nat) : State :=
  (s.putField 0x3200 l 21 21 ((s.txServedBy l).getD 0)).putField 0x3200 l 20 20
    ((s.rxServedBy l).getD ((s.txServedBy l).getD 0))

/-- RATE_UNSERVED of an automatic SDI lane judged again, with its NOTE when it rises (R105): it says that the quad has no
synthesiser of the family. -/
def judgeRate (s : State) (l : Nat) : State :=
  let code := (s.lane l).incoming
  if s.protocol l = protoSdi ∧ s.rxCode l = 0x0F ∧ laneRxEn (s.laneMode l) ∧ code ≠ 0 then
    if (s.autoServed l code).isSome then
      noteServers (settleServed ((s.putFlag 0x3200 l 22 false).putField 0x3200 l 15 8 code)) l
    else
      let was := s.flag 0x3200 l 22
      let s := (s.putFlag 0x3200 l 22 true).putField 0x3200 l 15 8 0
      if was then s else declareFault s 0x043 l true
  else s

/-- The NOTEs of lanes without signal or lock, and of rates not served, end with the last lane that has the condition. -/
def settleLanes (s : State) : State :=
  let s := if s.lanes.any fun e => e.2.losDeclared then s else clearActive s 0x040
  let s := if (s.elems 0x3200).any fun e => bit e.2 30 then s else clearActive s 0x041
  settleServed s

/-- A lane as a restart leaves it: status at its start values (R111, R130), adaptation kept unless the protocol or a rate
changed, when rate detection starts again too (R110, R132). A driver held off for a short stays held (R127). A write to the
lane mode clears a polarity correction (R131). Tether and bridle lanes precode always (R116). -/
def restartLane (s : State) (l : Nat) (wasOn : Bool) (discard : Bool) (mode : Bool) : State :=
  let w := s.elem 0x3200 l
  let m := s.laneMode l
  let on := laneRxEn m && laneProtocol m != protoOff
  let los := if on && wasOn then bit w 31 else true
  let code := if on && s.rxCode l != 0x0F then s.rxCode l else 0
  let x := s.lane l
  let s := s.setLane l { x with
    losDeclared := x.losDeclared && on && wasOn, adapted := x.adapted && !discard, marker := none, skew := 0, held := []
    rx := {}, missed := 0, reversed := x.reversed && on && wasOn && !mode
    incoming := if on && wasOn && !discard then x.incoming else 0 }
  let s := if discard then s.put 0x3300 (0x200 + l) 0 else s
  let coded := ofBool (lineCoded (laneProtocol m)) * 3
  settleLanes <| s.put 0x3200 l (ofBool los * 2 ^ 31 + ofBool (bit w 28 && !mode) * 2 ^ 28 + bits w 27 26 * 2 ^ 26 +
    bits w 21 20 * 2 ^ 20 + coded * 2 ^ 18 + code * 2 ^ 8)

/-- A quad's synthesisers set for its lanes' needs (R100). -/
def settleQuad (s : State) (q : Nat) : State :=
  let p := placeKeys s q (quadKeys s q (quadNeeds s [] q))
  let s := setKey (setKey s (2 * q) p.1) (2 * q + 1) p.2
  (List.range 4).foldl (fun s i => judgeRate (noteServers s (4 * q + i)) (4 * q + i)) s

/-- One lane's elements replaced. Lanes other than the one written are logged as device events (R104). `mode`: the write is
to the lane mode. -/
def setLaneElems (written : Nat) (mode : Bool) (s : State) (c : LaneSet) : State :=
  let l := c.1
  let wasOn := laneRxEn (s.laneMode l) && s.protocol l != protoOff
  let restart := laneRestarts s c
  let discard := s.protocol l != laneProtocol c.2.1 || s.rxWord l != c.2.2.1 || s.txWord l != c.2.2.2
  let note (s : State) (idx sub : Nat) (v : Word) : State :=
    if l = written ∨ s.elem idx sub = v then s
    else logEvent s idx sub (logValue 4 (s.elem idx sub)) (logValue 4 v) 0 true
  let s := note (note (note s 0x3000 l c.2.1) 0x3100 l c.2.2.1) 0x3100 (0x100 + l) c.2.2.2
  let s := ((s.commit 0x3000 l c.2.1).commit 0x3100 l c.2.2.1).commit 0x3100 (0x100 + l) c.2.2.2
  if restart then restartLane s l wasOn discard mode
  else if mode then (s.putFlag 0x3200 l 28 false).setLane l { s.lane l with reversed := false } else s

/-! Markers (R118, R119). -/

/-- The tether port, 8 for the bridle, that a lane is a member of, with its place in it. -/
def State.lanePort (s : State) (l : Nat) : Option (Nat × Nat) :=
  if s.protocol l = protoBridle then some (8, l - 188)
  else match (List.range 8).find? (fun p => s.portHas p l) with
    | some p => if s.protocol l = protoTether then some (p, l - s.portFirst p) else none
    | none => none

/-- The lanes of a tether port or of the bridle (8). -/
def State.lanesOfPort (s : State) (p : Nat) : List Nat :=
  if p = 8 then [188, 189, 190, 191] else (List.range (s.portLanes p)).map fun i => s.portFirst p + i

/-- The marker a lane sends (R119). A DESIGN CHOICE: NODE is 0xA000:0000 as it reads, on the bridle and with the cascade
role off too; a node ID of 0 reads as the rule's "0x000 if none". -/
def State.markerWord (s : State) (l : Nat) (idleNext : Bool) (phase : Nat) : Word :=
  let (p, pos) := (s.lanePort l).getD (0, 0)
  let w := ofBool (p == 8) * 2 ^ 31 + ofBool idleNext * 2 ^ 30 + pos % 8 * 2 ^ 27 + (if p = 8 then 0 else p) * 2 ^ 24 +
    s.elem 0xA000 0 % 4096 * 2 ^ 12 + phase * 2 ^ 7
  w + crc7 w

def markerLane (w : Word) : Nat := bits w 29 27
def markerPort (w : Word) : Nat := bits w 26 24
def markerNode (w : Word) : Nat := bits w 23 12
/-- What identifies the sender of a marker (R120): KIND, PORT, NODE. -/
def markerIdent (w : Word) : Nat × Nat × Nat := (bits w 31 31, markerPort w, markerNode w)

/-- TX_INVERT swaps P and N of what a lane sends (R95). -/
def State.onPair (s : State) (l : Nat) (levels : List Nat) : List Nat :=
  if bit (s.laneMode l) 22 then invertLevels levels else levels

/-- What a lane sends from its last marker to the next (R113-R119): `blocks` coded, then a comma and the marker. The blocks of
an unfinished codeword stay in hand, and FEC_PHASE counts them. -/
def sendMarker (s : State) (l : Nat) (idleNext : Bool) (blocks : List LineBlock) : State :=
  let held := heldAfter (s.lane l).held blocks
  let w := s.markerWord l idleNext held.length
  (s.setLane l { s.lane l with held := held }).emit (.marker l w (s.onPair l
    (codeLevels scrambleSeed 0 0 (codeBits (s.lane l).held blocks) ++ commaLevels ++ markerLevels w)))

/-- The first comma and marker of a link, or of a comma period after an idle exit (R118, R125). -/
def startLink (s : State) (l : Nat) : State :=
  sendMarker (s.setLane l { s.lane l with held := [] }) l false []

/-- A pattern lane sends its pattern once its transmitter runs (R128). -/
def sendPattern (s : State) (l : Nat) : State :=
  if s.protocol l = protoPattern ∧ s.txRuns l = true then
    s.emit (.pattern l (s.field 0x3400 l 31 28) (bit (s.laneMode l) 22)) else s

/-- A transmitter starts its protocol (R100, R118, R128). -/
def startTx (s : State) (l : Nat) : State :=
  if !s.txRuns l || s.flag 0x3200 l 24 then s
  else if lineCoded (s.protocol l) then startLink s l else sendPattern s l

/-- A checked write to a lane's mode or rates applied (R96, R97, R100, R104). A transmitter whose synthesiser is locked
already starts its protocol at once (R118). The presence of a reference that a restarted lane carries ends with its link
(R67). -/
def applyLanes (s : State) (written : Nat) (mode : Bool) (cs : List LaneSet) : State :=
  let restarted := (cs.filter fun c => laneRestarts s c).map Prod.fst
  let s := cs.foldl (setLaneElems written mode) s
  let s := ((cs.map fun c => c.1 / 4).eraseDups).foldl settleQuad s
  judgePlaced (restarted.foldl startTx s)

/-- A write to 0x3000 or 0x3100 (R95-R100, R104). -/
def laneHandler (s : State) (idx sub : Nat) (payload : List Byte) : Handler :=
  let v := ofBytes payload
  let l := sub % 256
  let m := if idx = 0x3000 then v else s.laneMode l
  let split := laneProtocol m == protoSdi
  let rx := if idx = 0x3100 ∧ (sub < 0x100 ∨ !split) then v else s.rxWord l
  let tx := if idx = 0x3100 ∧ (0x100 ≤ sub ∨ !split) then v else s.txWord l
  let cs := laneChanges s l m rx tx
  { checks :=
      { range := (s.leaderOf l).isSome || !laneValid s l m rx tx
        headroom := cs.any fun c => s.laneInUse c.1 && laneRestarts s c
        admission := ((cs.map fun c => c.1 / 4).eraseDups).any fun q =>
          decide (2 < (quadKeys s q (quadNeeds s cs q)).length)
        reason := 0x13 }
    commit := fun s => applyLanes s l (idx == 0x3000) cs
    old := logValue 4 (s.elem idx sub)
    new := logBytes payload
    struct := true
    plane := if split || lineCoded (laneProtocol m) then lanePlane m else 0 }

def execLaneModeWrite (rq : Rq) (l : Nat) (v : Word) (s : State) : Host.Outcome State Fault Refusal :=
  act s fun s => request s rq opWrite 0x3000 l (valueBytes rq v) (laneHandler s 0x3000 l (valueBytes rq v))

def execLaneRateWrite (rq : Rq) (sub : Nat) (v : Word) (s : State) : Host.Outcome State Fault Refusal :=
  act s fun s => request s rq opWrite 0x3100 sub (valueBytes rq v) (laneHandler s 0x3100 sub (valueBytes rq v))

/-- A port's alignment judged (R123): no two lanes with one LANE, none at or above the lane count, skew within 64 ns. -/
def portMisaligned (s : State) (p : Nat) : Bool :=
  let ls := (s.lanesOfPort p).filterMap fun l => (s.lane l).marker.map fun m => (markerLane m, (s.lane l).skew)
  !(ls.map Prod.fst).Nodup || ls.any (fun e => decide ((s.lanesOfPort p).length ≤ e.1)) ||
    ls.any fun a => ls.any fun b => decide (a.2 + 64 < b.2)

/-- Whether a reversed pair keeps a lane from READY (R122): AUTO_POL is 0 and the lane is no SDI lane. -/
def State.wrongPol (s : State) (l : Nat) : Bool :=
  (s.lane l).reversed && !s.flag 0x3200 l 28 && s.protocol l != protoSdi

/-- READY and ORDER_FIX of a port's lanes after a change of alignment (R120, R123). -/
def judgePort (s : State) (p : Nat) : State :=
  let bad := portMisaligned s p
  let was := s.portFault.contains p
  let s := { s with portFault := if bad then (if was then s.portFault else s.portFault ++ [p])
    else s.portFault.filter fun x => x != p }
  let s := ((s.lanesOfPort p).zipIdx).foldl (fun s (l, i) =>
    match (s.lane l).marker with
    | some m => (s.putFlag 0x3200 l 29 (!bad && !s.wrongPol l)).putFlag 0x3200 l 23 (!bad && markerLane m != i)
    | none => (s.putFlag 0x3200 l 29 false).putFlag 0x3200 l 23 false) s
  if bad && !was then declareFault s 0x046 p true
  else if !bad && was && s.portFault.isEmpty then clearActive s 0x046 else s

/-- The alignment of a lane changed. -/
def judgeAlignment (s : State) (l : Nat) : State :=
  match s.lanePort l with
  | some (p, _) => judgePort s p
  | none => s.putFlag 0x3200 l 29 (s.lane l).marker.isSome

/-- Whether every lane of a tether port, or of the bridle (8), delivers what arrives (R112). -/
def State.portHears (s : State) (p : Nat) : Bool := (s.lanesOfPort p).all s.hears

/-- Whether every lane of the Ethernet group that lane `l` leads delivers what arrives (R104, R112). -/
def State.groupHears (s : State) (l : Nat) : Bool := (s.groupLanes l).all s.hears

/-- A record that arrives by a tether port, or by the bridle: a lane with LOS or LOL delivers nothing upward (R112). -/
def onPort (p : Nat) (s : State) (f : State → State) : Host.Outcome State Fault Refusal :=
  onUnit p 8 s fun s => if s.portHears p then f s else s
def onBridle (s : State) (f : State → State) : Host.Outcome State Fault Refusal :=
  actRunning s fun s => if s.portHears 8 then f s else s

/-! Synthesisers (R100, R131). -/

/-- The lanes whose receiver or transmitter synthesiser `y` serves. -/
def State.servedLanes (s : State) (y : Nat) : List Nat :=
  ((List.range 4).map fun i => 4 * (y / 2) + i).filter fun l =>
    s.rxServedBy l == some (y % 2) || s.txServedBy l == some (y % 2)

/-- A synthesiser locks (R100): the lanes it serves start their protocol, a line-coded transmitter with its first comma
and marker (R118). -/
def synthLock (s : State) (y : Nat) : State :=
  let x := s.synth y
  if x.family = 0 ∨ x.locked then s
  else
    let s := s.setSynth y { x with locked := true, failedAt := none }
    let s := if s.synths.any (fun e => e.2.failedAt.isSome) then s else clearActive s 0x048
    let s := (s.servedLanes y).foldl (fun s l => if s.txServedBy l = some (y % 2) then startTx s l else s) s
    (List.range 4).foldl (fun s i => judgeRate s (4 * (y / 2) + i)) s

def execSynthesiserLocked (y : Nat) (s : State) : Host.Outcome State Fault Refusal := onUnit y 96 s fun s => synthLock s y

/-- Whether the LOL condition of any lane holds. -/
def State.anyLol (s : State) : Bool := (s.elems 0x3200).any fun e => bit e.2 30

/-- LOL declared on a lane (R111, R112): counted, with a NOTE. -/
def declareLol (s : State) (l : Nat) : State :=
  if s.laneLos l || s.laneLol l then s
  else
    let s := (s.putFlag 0x3200 l 30 true).count 0x3400 (0x600 + l)
    let s := if s.protocol l = protoEth ∨ s.protocol l = protoPattern then s.putFlag 0x3200 l 29 false else s
    declareFault s 0x041 l true

/-- A synthesiser that does not lock within 300 µs, or unlocks (R131, R132): its lanes go down and report LOL. -/
def synthFail (s : State) (y : Nat) : State :=
  let x := s.synth y
  if x.family = 0 ∨ x.failedAt.isSome ∨ (x.locked = false ∧ s.up < x.setAt + 300000) then s
  else
    let ls := s.servedLanes y
    let s := s.setSynth y { x with locked := false, failedAt := some s.up }
    let s := declareFault s 0x048 (y / 2 * 2 ^ 8 + y % 2) true
    ls.foldl (fun s l =>
      let s := s.setLane l { s.lane l with marker := none, rx := {}, missed := 0 }
      let s := if s.protocol l = protoSdi then s else s.putFlag 0x3200 l 29 false
      if s.rxServedBy l = some (y % 2) then declareLol s l else s) s |> judgePlaced

def execSynthesiserLockFail (y : Nat) (s : State) : Host.Outcome State Fault Refusal := onUnit y 96 s fun s => synthFail s y

/-- A relock attempt starts, 10 ms after the failure or the last attempt (R131). -/
def synthRetry (s : State) (y : Nat) : State :=
  let x := s.synth y
  match x.failedAt with
  | some t => if x.family ≠ 0 ∧ t + 10000000 ≤ s.up then s.setSynth y { x with failedAt := some s.up } else s
  | none => s

def execSynthesiserRelockAttempt (y : Nat) (s : State) : Host.Outcome State Fault Refusal :=
  onUnit y 96 s fun s => synthRetry s y

/-! Receivers (R105-R112, R122). -/

/-- Whether a lane's receiver is powered. -/
def State.rxOn (s : State) (l : Nat) : Bool := laneRxEn (s.laneMode l) && s.protocol l != protoOff

/-- ADAPT and CTLE (R107). -/
def State.adaptMode (s : State) (l : Nat) : Nat := s.field 0x3300 l 31 30

/-- Adaptation completes (R107, R110): the adapted state is the analogue receiver's own, so a free value, except CTLE in
manual adaptation (R107) and the reserved byte (R109). After the initial adaptation only ADAPT 0x0 goes on adapting. A
pattern receiver reports pattern lock, with its initial adaptation or, on a new pattern, at the next such event. -/
def adaptComplete (s : State) (l : Nat) : State :=
  if s.rxRuns l && !s.laneLos l && !s.laneLol l then
    let first := !(s.lane l).adapted
    let v := s.drawn 120 * 256
    let v := if s.adaptMode l = 3 then setBits v 127 120 (s.field 0x3300 l 29 24) else v
    let s := s.setLane l { s.lane l with adapted := true }
    let s := if s.adaptMode l = 0 || (first && s.adaptMode l != 2) then (s.put 0x3300 (0x200 + l) v).draw else s
    if s.protocol l = protoPattern ∧ s.field 0x3400 l 31 28 ≠ 0 ∧ s.wrongPol l = false then s.putFlag 0x3200 l 29 true else s
  else s

def execAdaptationComplete (l : Nat) (s : State) : Host.Outcome State Fault Refusal :=
  onUnit l 192 s fun s => adaptComplete s l

/-- LOS declared, on a change from signal to no signal (R111, R112): not in announced idle. -/
def losDeclare (s : State) (l : Nat) : State :=
  if !s.rxOn l || s.laneLos l || s.flag 0x3200 l 25 then s
  else
    let s := (s.putFlag 0x3200 l 31 true).putFlag 0x3200 l 28 false
    let s := if s.protocol l = protoEth ∨ s.protocol l = protoPattern then s.putFlag 0x3200 l 29 false else s
    let s := s.setLane l { s.lane l with losDeclared := true, incoming := 0 }
    declareFault (s.count 0x3400 (0x500 + l)) 0x040 l true

def execLosDeclare (l : Nat) (s : State) : Host.Outcome State Fault Refusal := onUnit l 192 s fun s => losDeclare s l

/-- LOS clears (R111). A polarity correction that the loss reset is tried first (R132): the receiver inverts again, with no
new detection (DEDUCED). -/
def losClear (s : State) (l : Nat) : State :=
  if !s.rxOn l || !s.laneLos l then s
  else
    let s := (s.putFlag 0x3200 l 31 false).setLane l { s.lane l with losDeclared := false }
    let s := if (s.lane l).reversed && bit (s.laneMode l) 23 then s.putFlag 0x3200 l 28 true else s
    if s.lanes.any (fun e => e.2.losDeclared) then s else clearActive s 0x040

def execLosClear (l : Nat) (s : State) : Host.Outcome State Fault Refusal := onUnit l 192 s fun s => losClear s l

def execLolDeclare (l : Nat) (s : State) : Host.Outcome State Fault Refusal :=
  onUnit l 192 s fun s => if s.rxOn l then declareLol s l else s

def lolClear (s : State) (l : Nat) : State :=
  if !s.laneLol l then s
  else
    let s := s.putFlag 0x3200 l 30 false
    if s.anyLol then s else clearActive s 0x041

def execLolClear (l : Nat) (s : State) : Host.Outcome State Fault Refusal := onUnit l 192 s fun s => lolClear s l

/-- Whether link training runs on a lane (R103, R108): a PAM4 Ethernet lane with TRAIN_EN whose synthesisers are locked
and whose link is not up. -/
def State.training (s : State) (l : Nat) : Bool :=
  s.protocol l == protoEth && ratePam4 (s.txCode l) && bit (s.laneMode l) 19 && s.txRuns l && s.rxRuns l &&
    !s.laneReady l

/-- The link of an Ethernet port comes up or goes down (R103, R108). With AN_EN it comes up only once Clause 73 has agreed,
a reversed pair not corrected keeps it down (R122), and a trained lane reports its taps and precoding: its transmitter
precodes where the partner asked, its receiver undoes precoding only where PRECODE_REQ asked the partner for it. -/
def linkChange (s : State) (l : Nat) (up : Bool) (trained : List Word) : State :=
  let ls := l :: groupPartners l (s.laneMode l) (s.txWord l)
  if !s.ethLeader l then s
  else if up then
    if ls.all (fun x => s.delivers x && s.txRuns x && !s.wrongPol x) && !s.laneReady l &&
        (!bit (s.laneMode l) 20 || bit (trained.headD 0) 26) then
      (ls.zipIdx).foldl (fun s (x, i) =>
        let t := trained.getD i 0
        let s := if s.training x then
            ((s.put 0x3300 (0x100 + x) (bits t 23 0)).putFlag 0x3200 x 19 (bit t 25 && bit (s.laneMode x) 16)).putFlag
              0x3200 x 18 (bit t 24)
          else s
        s.putFlag 0x3200 x 29 true) s
    else s
  else judgePlaced (ls.foldl (fun s x => s.putField 0x3200 x 29 29 0 |>.putField 0x3200 x 19 18 0) s)

def execEthernetLinkChange (l : Nat) (up : Bool) (trained : List Word) (s : State) : Host.Outcome State Fault Refusal :=
  onUnit l 192 s fun s => linkChange s l up trained

/-- A polarity reversal (R122): corrected with AUTO_POL; without it the lane does not reach READY. -/
def polarity (s : State) (l : Nat) : State :=
  let p := s.protocol l
  if s.rxOn l && !s.laneLos l && !s.flag 0x3200 l 28 &&
      (p == protoEth || lineCoded p || (p == protoPattern && ratePam4 (s.rxCode l))) then
    let s := s.setLane l { s.lane l with reversed := true }
    if bit (s.laneMode l) 23 then declareFault ((s.putFlag 0x3200 l 28 true).count 0x3400 (0x900 + l)) 0x044 l
    else s.putFlag 0x3200 l 29 false
  else s

def execPolarityReversalDetected (l : Nat) (s : State) : Host.Outcome State Fault Refusal :=
  onUnit l 192 s fun s => polarity s l

/-! The line code (R113-R126). -/

/-- One alignment loss, misplaced comma or idle exit failure: counted, with a NOTE (R129, R131). -/
def noteAlignment (s : State) (l : Nat) : State := declareFault (s.count 0x3400 (0x800 + l)) 0x045 l

/-- Alignment lost (R120): READY falls and the receiver searches again. -/
def dropAlignment (s : State) (l : Nat) : State :=
  if (s.lane l).marker.isSome then
    noteAlignment (judgeAlignment ((s.setLane l { s.lane l with marker := none, rx := {}, missed := 0 }).putFlag 0x3200 l 29
      false) l) l
  else s

/-- What stood where a comma is expected (R120): the third in succession that is missing or bad loses alignment, and so does
a marker of another KIND, PORT or NODE. -/
def expectedComma (s : State) (l : Nat) (found : Option Word) : State :=
  match (s.lane l).marker, found with
  | none, _ => s
  | some _, none =>
    if (s.lane l).missed = 2 then dropAlignment s l else s.setLane l { s.lane l with missed := (s.lane l).missed + 1 }
  | some m, some w =>
    if markerIdent w != markerIdent m then dropAlignment s l else s.setLane l { s.lane l with missed := 0 }

/-- A comma with a valid marker that a receiver looks for (R118, R120, R125): it takes its place in the line code from the
marker. -/
def takeMarker (s : State) (l : Nat) (w : Word) (skew : Nat) : State :=
  let s := s.setLane l { s.lane l with marker := some w, skew := skew, rx := lineAligned (bits w 11 7), missed := 0 }
  let s := ((s.putField 0x3200 l 5 3 (markerPort w)).putField 0x3200 l 2 0 (markerLane w)).putFlag 0x3200 l 25 false
  if s.wrongPol l then s else judgeAlignment s l

/-- A comma with a valid marker away from any place where one is expected (R120, R125): a lane not aligned, or in announced
idle, acquires alignment. On an aligned lane it is counted and moves nothing; a marker of another sender loses alignment. -/
def acquire (s : State) (l : Nat) (w : Word) (skew : Nat) : State :=
  if !lineCoded (s.protocol l) || !s.hears l || !markerOk w then s
  else match (s.lane l).marker with
    | some m =>
      if s.flag 0x3200 l 25 then takeMarker s l w skew
      else if markerIdent w != markerIdent m then dropAlignment s l else noteAlignment s l
    | none => takeMarker s l w skew

def execAlignmentAcquired (l : Nat) (w : Word) (skew : Nat) (s : State) : Host.Outcome State Fault Refusal :=
  onUnit l 192 s fun s => acquire s l w skew

/-- The next comma and marker, after 16,384 blocks (R118): `blocks` are those the lane sent since its last marker. A receiver
in near-end loopback finds its own lane's marker (R128). -/
def commaInsert (s : State) (l : Nat) (blocks : List LineBlock) : State :=
  if lineCoded (s.protocol l) && s.txRuns l && !s.flag 0x3200 l 24 && blocks.length == 16384 then
    let s := sendMarker s l false blocks
    if s.nearEnd l && s.delivers l && (s.lane l).marker.isNone then
      takeMarker s l (s.markerWord l false (s.lane l).held.length) 0 else s
  else s

def execTetherCommaInsert (x : LaneBlocks) (s : State) : Host.Outcome State Fault Refusal :=
  onUnit x.lane 192 s fun s => commaInsert s x.lane x.blocks

/-- What a receiver found at the places of the last expected commas, one after the other (R120). -/
def loseAlignment (s : State) (l : Nat) (found : List (Option Word)) : State :=
  found.foldl (fun s f => expectedComma s l (f.filter markerOk)) s

def execAlignmentLost (x : LaneCommas) (s : State) : Host.Outcome State Fault Refusal :=
  onUnit x.lane 192 s fun s => loseAlignment s x.lane x.found

/-- The symbol errors a lane's RS code corrects in a codeword: 15 (R114); 7 for the RS-FEC of 25GBASE-R. -/
def State.fecLimit (s : State) (l : Nat) : Nat := if s.protocol l = protoEth ∧ s.rxCode l = 0x11 then 7 else 15

/-- A codeword closed with `n` symbols corrected, or uncorrectable (R114, R129): counted, the latter with a NOTE at most once
a second. -/
def countCodeword (s : State) (l : Nat) (n : Option Nat) : State :=
  match n with
  | some n => s.put 0x3400 (0x300 + l) (satAdd 64 (s.elem 0x3400 (0x300 + l)) n)
  | none =>
    let s := s.put 0x3400 (0x400 + l) (satAdd 64 (s.elem 0x3400 (0x400 + l)) 1)
    let due := match (s.lane l).fecNote with
      | some t => decide (t + 1000000000 ≤ s.up)
      | none => true
    if due then declareFault (s.setLane l { s.lane l with fecNote := some s.up }) 0x042 l else s

/-- Levels received on a tether or bridle lane (R113-R120): the receiver, at the polarity it corrects to, undoes the line code;
codewords are counted and their blocks delivered, and the commas it meets are judged. -/
def lineReceived (s : State) (l : Nat) (levels : List Nat) : State :=
  let levels := if s.flag 0x3200 l 28 then invertLevels levels else levels
  let rx := (s.lane l).rx.feed levels
  let s := rx.words.foldl (fun s n => countCodeword s l n) (s.setLane l { s.lane l with rx := rx })
  rx.commas.foldl (fun s f => expectedComma s l f) s

/-- A codeword received on an Ethernet lane with `errors` symbol errors, or the levels received on a tether or bridle lane
that is aligned (R114, R120, R129). -/
def codeword (s : State) (l errors : Nat) (levels : List Nat) : State :=
  if lineCoded (s.protocol l) then
    let s := if s.field 0x3400 l 26 24 = 2 then s.emit (.farLevels l levels) else s
    if s.hears l && (s.lane l).marker.isSome then lineReceived s l levels else s
  else
    let rs := s.protocol l == protoEth && (ratePam4 (s.rxCode l) || bits (s.laneMode l) 18 17 == 2)
    if !rs || !s.hears l then s
    else countCodeword s l (if errors ≤ s.fecLimit l then some errors else none)

def execUncorrectableCodeword (x : LaneLevels) (errors : Nat) (s : State) : Host.Outcome State Fault Refusal :=
  onUnit x.lane 192 s fun s => codeword s x.lane errors x.levels

/-- Whether a lane may enter electrical idle (R124, R388): IDLE_EN, not at position 0 of its port, and no reservation
crosses the port. -/
def State.mayIdle (s : State) (l : Nat) : Bool :=
  lineCoded (s.protocol l) && bit (s.laneMode l) 21 && s.txRuns l &&
    (match s.lanePort l with
     | some (p, pos) => pos != 0 && !(s.tether.streams.any fun t =>
         (t.from_.any fun o => o.1 == p) || (t.outs.any fun o => o.1 == p))
     | none => false)

/-- The block that fills a port when nothing else is ready (R391, R419). -/
def fillBlock (bridle : Bool) : LineBlock := (true, if bridle then 0 else 3 * 2 ^ 240)

/-- The fill blocks that complete the codeword in hand (R124). -/
def fillUp (held : List LineBlock) (bridle : Bool) : List LineBlock :=
  List.replicate ((20 - held.length) % 20) (fillBlock bridle)

/-- Entry to idle (R124): the codeword completed with fill blocks, a comma and marker with IDLE_NEXT and FEC_PHASE 0, the
driver idle. `blocks` are those the lane sent since its last marker. -/
def idleEnter (s : State) (l : Nat) (blocks : List LineBlock) : State :=
  if s.mayIdle l && !s.flag 0x3200 l 24 then
    let fill := fillUp (heldAfter (s.lane l).held blocks) (s.protocol l == protoBridle)
    (sendMarker s l true (blocks ++ fill)).putFlag 0x3200 l 24 true
  else s

def execElectricalIdleEnter (x : LaneBlocks) (s : State) : Host.Outcome State Fault Refusal :=
  onUnit x.lane 192 s fun s => idleEnter s x.lane x.blocks

/-- IDLE_NEXT received (R124): IDLE_RX, with LOS suppressed and adaptation kept. -/
def idleReceived (s : State) (l : Nat) (w : Word) : State :=
  if lineCoded (s.protocol l) && (s.lane l).marker.isSome && markerOk w && bit w 30 then s.putFlag 0x3200 l 25 true else s

def execIdleMarkerReceived (l : Nat) (w : Word) (s : State) : Host.Outcome State Fault Refusal :=
  onUnit l 192 s fun s => idleReceived s l w

/-- The line rate in bits per second (R99). -/
def rateBits (w : Word) : Rat :=
  match rateCode w with
  | 0x01 => 2970000000 | 0x02 => 1485000000 | 0x03 => 1485000000 * 1000 / 1001 | 0x04 => 2970000000
  | 0x05 => 2970000000 * 1000 / 1001 | 0x06 => 5940000000 | 0x07 => 5940000000 * 1000 / 1001 | 0x08 => 11880000000
  | 0x09 => 11880000000 * 1000 / 1001 | 0x10 => 10312500000 | 0x11 => 25781250000 | 0x12 => 53125000000
  | 0x13 => 106250000000 | 0x20 => 112500000000 | 0x21 => 106250000000 | 0x22 => 53125000000
  | 0x30 => (rateCustom w : Nat) * 10000 | 0x31 => (rateCustom w : Nat) * 20000 | _ => 0

/-- How many bursts of 128 symbols an idle exit sends (R125): until at least 1.6 µs, ending on a whole one. A PAM4 symbol
carries two bits. -/
def trainingBursts (rate : Word) : Nat := (rateBits rate / 2 * 16 / 10000000 / 128).ceil.toNat

/-- A transmit short (R127). -/
def declareShort (s : State) (l : Nat) : State :=
  let s := (s.putField 0x3200 l 27 26 3).setLane l { s.lane l with probeAt := s.up }
  declareFault (s.count 0x3400 (0x700 + l)) 0x047 l true

/-- Exit from idle (R125): training bursts, then a comma and marker that start a new comma period. A short that the driver
shows at its start ends the exit (R127): the driver goes off and no marker is sent. -/
def idleExit (s : State) (l : Nat) (short : Bool) : State :=
  if !s.flag 0x3200 l 24 then s
  else
    let s := s.putFlag 0x3200 l 24 false
    if short then declareShort s l
    else startLink (s.emit (.training l (trainingBursts (s.txWord l)) (s.onPair l trainingBurst))) l

def execElectricalIdleExit (x : LaneExit) (s : State) : Host.Outcome State Fault Refusal :=
  onUnit x.lane 192 s fun s => idleExit s x.lane x.short

/-- An idle exit failure (R126): a NOTE, counted, READY 0, and the search goes on. -/
def idleExitFail (s : State) (l : Nat) : State :=
  if s.flag 0x3200 l 25 then
    let s := (s.setLane l { s.lane l with marker := none, rx := {}, missed := 0 }).putFlag 0x3200 l 25 false
    noteAlignment (judgeAlignment (s.putFlag 0x3200 l 29 false) l) l
  else s

def execIdleExitFailure (l : Nat) (s : State) : Host.Outcome State Fault Refusal :=
  onUnit l 192 s fun s => idleExitFail s l

/-! Transmit shorts, diagnostics, counters (R107, R108, R111, R127-R129). -/

/-- A transmit short declared (R127): a lane in idle is not sensed. -/
def txShort (s : State) (l : Nat) : State :=
  if laneTxEn (s.laneMode l) && s.protocol l != protoOff && !s.flag 0x3200 l 24 && !s.flag 0x3200 l 26 then declareShort s l
  else s

def execTxShortDeclare (l : Nat) (s : State) : Host.Outcome State Fault Refusal := onUnit l 192 s fun s => txShort s l

/-- A 10 µs probe, 100 ms after the last (R127): without overcurrent it clears TX_OFF. -/
def txProbe (s : State) (l : Nat) (short : Bool) : State :=
  if s.flag 0x3200 l 26 && !s.flag 0x3200 l 24 && decide ((s.lane l).probeAt + 100000000 ≤ s.up) then
    let s := s.setLane l { s.lane l with probeAt := s.up }
    if short then s
    else
      let s := s.putFlag 0x3200 l 26 false
      if (s.elems 0x3200).any (fun e => bit e.2 26) then s else clearActive s 0x047
  else s

def execTxShortProbe (l : Nat) (short : Bool) (s : State) : Host.Outcome State Fault Refusal :=
  onUnit l 192 s fun s => txProbe s l short

/-- Whether a pattern does not go with the lane's rate (R128): PRBS13Q, PRBS31Q and SSPRQ are PAM4 only, the others NRZ
only. -/
def patternMismatch (s : State) (l pattern : Nat) : Bool :=
  pattern != 0 && s.txCode l != 0 && ratePam4 (s.txCode l) != decide (6 ≤ pattern)

/-- Diagnostic control (R128). INJECT reads zero; one bit error goes into the transmitted pattern, and a checker behind a
near-end loopback counts it. A new pattern is sent from the commit on and is to be locked to again; adaptation is kept
(R110). -/
def diagHandler (s : State) (l : Nat) (payload : List Byte) : Handler :=
  let v := ofBytes payload
  let pat := bits v 31 28
  let loop := bits v 26 24
  let used := s.laneInUse l
  let h := plainHandler s 0x3400 l payload
    { range := decide (8 < pat) || decide (3 < loop) || patternMismatch s l pat
      mode := used && loop == 2 && s.mode != .service
      headroom := used && (pat != 0 || loop == 1 || loop == 3) }
  { h with commit := fun s =>
      let old := s.field 0x3400 l 31 28
      let s := s.commit 0x3400 l (setBit v 23 false)
      let s := if s.protocol l = protoPattern ∧ old ≠ pat then sendPattern (s.putFlag 0x3200 l 29 false) l else s
      if bit v 23 && s.protocol l == protoPattern && pat != 0 then
        let s := s.emit (.bitError l)
        if bit v 27 && (loop == 1 || loop == 3) then s.put 0x3400 (0x100 + l) (satAdd 64 (s.elem 0x3400 (0x100 + l)) 1)
        else s
      else s }

def execLaneDiagWrite (rq : Rq) (l : Nat) (v : Word) (s : State) : Host.Outcome State Fault Refusal :=
  act s fun s => request s rq opWrite 0x3400 l (valueBytes rq v) (diagHandler s l (valueBytes rq v))

def execPatternErrorInject (rq : Rq) (l : Nat) (v : Word) (s : State) : Host.Outcome State Fault Refusal :=
  act s fun s => request s rq opWrite 0x3400 l (valueBytes rq (setBit v 23 true))
    (diagHandler s l (valueBytes rq (setBit v 23 true)))

/-- Equalisation control, transmit taps and detector thresholds (R107, R108, R111). A manual CTLE code takes effect at the
commit in a receiver that is adapted. -/
def equaliserHandler (s : State) (sub : Nat) (payload : List Byte) : Handler :=
  let v := ofBytes payload
  let l := sub % 256
  let pre := toSigned 8 (bits v 23 16)
  let main := toSigned 8 (bits v 15 8)
  let post := toSigned 8 (bits v 7 0)
  let h := plainHandler s 0x3300 sub payload
    { range :=
        if sub < 0x100 then decide (31 < bits v 29 24)
        else if sub < 0x200 then decide (main < 0) || decide (64 < (pre.natAbs : Int) + main + post.natAbs)
        else decide (bits v 15 8 < 6) || decide (40 < bits v 15 8) || decide (bits v 7 0 < 5) || decide (100 < bits v 7 0)
      mode := decide (0x100 ≤ sub) && decide (sub < 0x200) && s.training l }
  { h with commit := fun s =>
      let s := h.commit s
      if sub < 0x100 ∧ bits v 31 30 = 3 ∧ (s.lane l).adapted = true then
        s.put 0x3300 (0x200 + l) (setBits (s.elem 0x3300 (0x200 + l)) 127 120 (bits v 29 24))
      else s }

/-- A lane counter cleared by a write of zero (R129); the pattern bits counter starts again with no fraction. -/
def laneCounterHandler (s : State) (sub : Nat) (payload : List Byte) : Handler :=
  let h := zeroHandler s 0x3400 sub payload
  { h with commit := fun s =>
      let s := h.commit s
      if sub / 256 = 2 then s.setLane (sub % 256) { s.lane (sub % 256) with checked := 0 } else s }

/-- Pattern bits checked in `dt` ns, and the errors among them (R128, R129). What errors the line brings is open, so a free
value up to the bits checked; a checker behind its own near-end loopback meets the injected ones only. -/
def checkPatterns (s : State) (dt : Rat) : State :=
  (s.elems 0x3400).foldl (fun s e =>
    if e.1 < 192 ∧ bit e.2 27 ∧ s.protocol e.1 = protoPattern ∧ s.laneReady e.1 ∧ s.delivers e.1 then
      let x := s.lane e.1
      let n := x.checked + rateBits (s.rxWord e.1) * dt / 1000000000
      let s := (s.setLane e.1 { x with checked := n - (n.floor : Rat) }).put 0x3400 (0x200 + e.1)
        (satAdd 64 (s.elem 0x3400 (0x200 + e.1)) n.floor.toNat)
      if s.nearEnd e.1 then s
      else (s.put 0x3400 (0x100 + e.1) (satAdd 64 (s.elem 0x3400 (0x100 + e.1)) (s.drawn 64 % (n.floor.toNat + 1)))).draw
    else s) s

end Sys2Proof.Machine
end

