-- ==== Sys2Proof/Machine/Essence.lean ====
section
/-! DEFINITION. What the fabric carries and how sources and readers are timed (R50-R53, R133, R173, R177, R196-R212):
formats, sources, outputs, pairing, promises, reservations and cell rates. -/

namespace Sys2Proof.Machine

def State.in_ (s : State) (j : Nat) : InFlow := mapGet inD s.ins j
def State.setIn (s : State) (j : Nat) (x : InFlow) : State := { s with ins := mapSet inD s.ins j x }
def State.out (s : State) (j : Nat) : OutFlow := mapGet outD s.outs j
def State.setOut (s : State) (j : Nat) (x : OutFlow) : State := { s with outs := mapSet outD s.outs j x }
def State.cellsOf (s : State) (n : Nat) : Cells := mapGet cellsD s.cells n
def State.setCells (s : State) (n : Nat) (x : Cells) : State := { s with cells := mapSet cellsD s.cells n x }
def State.remoteOf (s : State) (j : Nat) : Remote := mapGet remoteD s.remote j

/-! Formats (R34, R35, R133, R196, R198). -/

/-- A picture format: FORMAT, RATE and SAMPLING codes, as bits [31:21] of 0x4100 and 0x6100 hold them. -/
structure Fmt where
  form : Nat
  rate : Nat
  samp : Nat
deriving DecidableEq, Repr

def fmtOfCode (c : Nat) : Fmt := { form := bits c 10 7, rate := bits c 6 3, samp := bits c 2 0 }
def Fmt.code (f : Fmt) : Nat := f.form * 128 + f.rate * 8 + f.samp
def fmtOfWord (w : Word) : Fmt := fmtOfCode (bits w 31 21)

/-- Width and active lines (R196). -/
def formWidth (f : Nat) : Nat :=
  match f with
  | 0 => 720 | 1 => 720 | 2 => 1280 | 3 => 1920 | 4 => 1920 | 5 => 1920 | 6 => 3840 | _ => 7680
def formActive (f : Nat) : Nat :=
  match f with
  | 0 => 486 | 1 => 576 | 2 => 720 | 3 => 1080 | 4 => 1080 | 5 => 1080 | 6 => 2160 | _ => 4320
/-- Raster lines of the whole frame: 4320p counts 4,500 (R211). -/
def rasterLines (f : Nat) : Nat := if f = 7 then 4500 else formatLines f
/-- Interlaced and PsF formats have two fields (R196, R211). -/
def formFields (f : Nat) : Nat := if f = 0 ∨ f = 1 ∨ f = 3 ∨ f = 5 then 2 else 1
def formInterlaced (f : Nat) : Bool := f == 0 || f == 1 || f == 3

/-- Pixels and bytes of a pixel group (R196). -/
def groupPixels (samp : Nat) : Nat := if samp = 2 ∨ samp = 4 then 4 else 2
def groupBytes (samp : Nat) : Nat :=
  match samp with
  | 0 => 5 | 1 => 6 | 2 => 15 | 3 => 9 | 4 => 15 | _ => 9
/-- Payload bytes of a line, and its cells (R198). -/
def lineBytes (form samp : Nat) : Nat := formWidth form / groupPixels samp * groupBytes samp
def cellsPerLine (form samp : Nat) : Nat := (lineBytes form samp + 239) / 240

def Fmt.hz (f : Fmt) : Rat := rateHz f.rate
def Fmt.period (f : Fmt) : Rat := periodNs f.hz
/-- One raster line in ns, L_s of R211. -/
def Fmt.linePeriod (f : Fmt) : Rat := f.period / (rasterLines f.form : Nat)
/-- Bits per second of the cells of a format with an ancillary allowance (R212). -/
def Fmt.cellRate (f : Fmt) (anc : Nat) : Rat :=
  ((formActive f.form * cellsPerLine f.form f.samp + anc * formFields f.form) * 2048 : Nat) * f.hz
/-- A format, rate and sampling the fabric can hold. -/
def Fmt.ok (f : Fmt) : Bool := planeComboOk f.form f.rate && decide (f.samp ≤ 5)

/-- Whether R133 lists a format on an interface: class 0 SD, 1 1.5G, 2 3G, 3 6G, 4 12G; MAP and quad as in R135. -/
def sdiListed (f : Fmt) (cls map : Nat) (quad : Bool) : Bool :=
  let s0 := f.samp == 0
  let slow := decide (f.rate ≤ 4)
  let mid := decide (5 ≤ f.rate) && decide (f.rate ≤ 9)
  let hd := (f.form == 3 || f.form == 5 || f.form == 4) && slow
  decide (f.samp ≤ 5) && planeComboOk f.form f.rate &&
  (if quad then
    (f.form == 6 && mid && cls == 2 && decide (map ≤ 1) && s0) || (f.form == 7 && mid && cls == 4 && map == 0 && s0)
  else
    ((f.form == 0 || f.form == 1) && cls == 0 && map == 0 && s0) ||
    (f.form == 2 && decide (f.rate ≤ 9) && cls == 1 && map == 0 && s0) ||
    (hd && cls == 1 && map == 0 && s0) ||
    (hd && cls == 2 && decide (map ≤ 1)) ||
    (hd && cls == 2 && decide (2 ≤ map) && s0) ||
    (f.form == 4 && mid && cls == 2 && decide (map ≤ 1) && s0) ||
    (f.form == 4 && mid && cls == 3 && map == 0 && !s0) ||
    (f.form == 4 && decide (10 ≤ f.rate) && cls == 3 && map == 0 && s0) ||
    (f.form == 6 && slow && cls == 3 && map == 0 && s0) ||
    (f.form == 6 && slow && cls == 4 && map == 0 && !s0) ||
    (f.form == 6 && mid && cls == 4 && map == 0 && s0))

/-- Whether a rate carries the factor 1/1.001 (R133). -/
def rateM (rate : Nat) : Bool := [0, 3, 5, 8, 11].contains rate

/-- Whether lane code `code` carries a format with MAP and LINKS (R133, R136); 0x0F stands for every code. -/
def sdiCarries (f : Fmt) (code map : Nat) (quad : Bool) : Bool :=
  if code = 0x0F then (List.range 5).any fun c => sdiListed f c map quad
  else if code = 1 then sdiListed f 0 map quad
  else decide (2 ≤ code) && decide (code ≤ 9) && sdiListed f (code / 2) map quad && (code % 2 == 1) == rateM f.rate

/-! Sources (R206, R208). -/

/-- Fabric source numbers: inputs 0-2047, heads 2048-2063, generators 2064-2079. -/
abbrev noSource : Nat := 0xFFFF
def isInput (n : Nat) : Bool := decide (n < 2048) || (decide (0x8000 ≤ n) && decide (n < 0x8800))
/-- The new side of an input that a move changes (R263) runs as flow 0x8000 + j until the move point; its own flow. -/
def ownFlow (n : Nat) : Nat := if 0x8000 ≤ n ∧ n < 0x8800 then n - 0x8000 else n
def isHead (n : Nat) : Bool := decide (2048 ≤ n) && decide (n < 2064)
def isGen (n : Nat) : Bool := decide (2064 ≤ n) && decide (n < 2080)

/-- Whether a source is bound or enabled (R214, code 0x01). A tether input counts from its confirmed reservation (R400). -/
def State.srcBound (s : State) (n : Nat) : Bool :=
  if isInput n then bindKind (s.inBind n) != 0
  else if isHead n then s.flag 0x8000 (n - 2048) 31
  else if isGen n then s.flag 0x5400 (n - 2064) 31
  else false

def State.srcPlane (s : State) (n : Nat) : Nat :=
  if isInput n then bindPlane (s.inBind n)
  else if isHead n then s.field 0x8000 (n - 2048) 30 29
  else s.field 0x5400 (n - 2064) 27 26

def State.srcFmt (s : State) (n : Nat) : Fmt :=
  if isInput n then fmtOfWord (s.elem 0x4100 n)
  else if isHead n then fmtOfCode (s.field 0x8000 (n - 2048) 28 18)
  else fmtOfCode (s.field 0x5400 (n - 2064) 25 15)

/-- ANC_CELLS of a source (R197). -/
def State.srcAnc (s : State) (n : Nat) : Nat := if isInput n then s.field 0x4100 n 11 2 else 0

def State.srcOpaque (s : State) (n : Nat) : Bool := isInput n && bindOpaque (s.inBind n)

/-- Whether an input is synchronised (R231); a remote one as its origin is (R401). -/
def State.synced (s : State) (n : Nat) : Bool :=
  isInput n && (if bindKind (s.inBind n) = 3 then bit (s.remoteOf n).mode 31 else s.flag 0x4200 n 31)

/-- w_s in ns (R208, R401). -/
def State.srcWindow (s : State) (n : Nat) : Rat :=
  if isInput n then
    if bindKind (s.inBind n) = 3 then
      (if (s.remoteOf n).internal then 0 else (bits (s.remoteOf n).mode 28 24 : Nat) * (s.remoteOf n).house)
    else (s.field 0x4200 n 28 24 : Nat) * s.houseLine (s.srcPlane n)
  else 0

/-- The pipeline of R23 in ns. -/
def pipeline : Rat := 1600
/-- p_s of R208. -/
def State.srcP (s : State) (n : Nat) : Rat := s.srcWindow n + pipeline
/-- h of R209 in ns: 0 for a local source, the reservation's for a remote one (R401). -/
def State.srcHops (s : State) (n : Nat) : Rat :=
  if isInput n ∧ bindKind (s.inBind n) = 3 then (s.field 0xA200 n 63 32 : Nat) / 1000 else 0

/-- Cell rate of a source in bits per second (R212): an OPAQUE flow's is its wire rate. -/
def State.srcRate (s : State) (n : Nat) : Rat :=
  if !s.srcBound n then 0
  else if s.srcOpaque n then (bits (s.inBind n) 15 0 : Nat) * 1000000
  else (s.srcFmt n).cellRate (s.srcAnc n)

/-- Start of frame m of a source with d = 0 (R50), and its nominal arrival a(m) (R208). -/
def State.srcStart (s : State) (n : Nat) (m : Int) : Rat :=
  (s.plane (s.srcPlane n)).origin + (m : Rat) * (s.srcFmt n).period
def State.srcArrival (s : State) (n : Nat) (m : Int) : Rat := s.srcStart n m - s.srcP n

/-- The frame of a source whose start is at or before `t`. -/
def State.srcFrameAt (s : State) (n : Nat) (t : Rat) : Int :=
  if (s.srcFmt n).period = 0 then 0
  else ((t - (s.plane (s.srcPlane n)).origin) / (s.srcFmt n).period).floor

/-! Outputs (R50, R51, R152, R154, R215). -/

def State.outKind (s : State) (j : Nat) : Nat := bindKind (s.outBind j)
def State.outPlane (s : State) (j : Nat) : Nat := bindPlane (s.outBind j)
def State.follows (s : State) (j : Nat) : Bool := s.flag 0x6100 j 20
def State.outOpaque (s : State) (j : Nat) : Bool := bindOpaque (s.outBind j)

/-- The format an output sends (R215, R216). -/
def State.outFmt (s : State) (j : Nat) : Fmt :=
  match (s.out j).force with
  | some c => fmtOfCode c
  | none => fmtOfWord (s.elem 0x6100 j)

/-- d of an output in ns (R50). -/
def State.outOffset (s : State) (j : Nat) : Rat :=
  (toSigned 32 (s.elem 0x6200 j) : Int) * s.houseLine (s.outPlane j) / 4096

/-- Start of frame n of an output (R50). -/
def State.outStart (s : State) (j : Nat) (n : Int) : Rat :=
  (s.plane (s.outPlane j)).origin + (n : Rat) * (s.outFmt j).period + s.outOffset j

/-- The output frame whose start is at or before `t`. -/
def State.outFrameAt (s : State) (j : Nat) (t : Rat) : Int :=
  if (s.outFmt j).period = 0 then 0
  else ((t - (s.plane (s.outPlane j)).origin - s.outOffset j) / (s.outFmt j).period).floor

/-- Switch delay after the frame start (R51). -/
def switchDelay (kind : Nat) (f : Fmt) : Rat :=
  if kind = 2 then 0
  else match f.form with
    | 0 => 9 * f.period / 525
    | 1 => 5 * f.period / 625
    | 2 => 6 * f.period / 750
    | _ => 6 * f.period / 1125

/-- An output's switch point for a take whose TP lies at `t` (R52). -/
def State.switchPoint (s : State) (j : Nat) (t : Rat) : Rat :=
  gridAtOrAfter ((s.plane (s.outPlane j)).origin + s.outOffset j + switchDelay (s.outKind j) (s.outFmt j))
    (s.outFmt j).period t

/-! Pairing and promises (R209, R210). -/

/-- Frame m of source `n` that output `j`'s frame starting at `t` pairs with (R209). -/
def State.pairFrame (s : State) (n : Nat) (t : Rat) : Int := s.srcFrameAt n (t - s.srcHops n)

/-- The offset delay o of output `j` reading source `n` (R209). -/
def State.offsetDelay (s : State) (j n : Nat) : Rat :=
  let f := (s.srcFmt n).period
  let x := s.outOffset j - s.srcHops n
  if f = 0 then 0 else x - ((x / f).floor : Rat) * f

/-- Promise and floor of a route in ns (R210). -/
def State.promise (s : State) (j n : Nat) : Rat :=
  if s.synced n then (s.srcFmt n).period + s.srcWindow n + s.srcHops n + s.offsetDelay j n
  else s.srcP n + s.srcHops n + s.offsetDelay j n
def State.floor (s : State) (j n : Nat) : Rat :=
  if s.synced n then s.srcWindow n + s.srcHops n + s.offsetDelay j n else s.promise j n

/-! Routes and readers (R204, R205, R238). -/

/-- What the salvos fired and not yet executed write to an element (R258). -/
def State.salvoWrites (s : State) (idx sub : Nat) : List Nat :=
  (s.events.filter fun e => e.kind == 2 && !e.fired).flatMap fun e =>
    (e.image.filter fun i => i.1 == idx && i.2.1 == sub).map fun i => i.2.2

/-- The routes an output is admitted for (R238, R258): on air, active, shadow, and those of fired salvos. -/
def State.routes (s : State) (j : Nat) : List Nat :=
  [s.airElem 0x5000 j, s.elem 0x5000 j, s.shadowElem 0x5000 j] ++ s.salvoWrites 0x5000 j

/-- Sub-indices of `idx` that differ from reset in any of the three views. -/
def State.touched (s : State) (idx : Nat) : List Nat :=
  let subs (m : SMap Word) : List Nat := (m.filter fun e => e.1 / 65536 == idx).map fun e => e.1 % 65536
  (subs s.onAir ++ subs s.dict ++ subs s.shadow ++
    (s.events.filter fun e => e.kind == 2 && !e.fired).flatMap fun e =>
      (e.image.filter fun i => i.1 == idx).map fun i => i.2.1).eraseDups

/-- The outputs with any route, and those that read source `n` in any of the three views. -/
def State.routed (s : State) : List Nat := (s.touched 0x5000).filter fun j => (s.routes j).any (· != noSource)
def State.readersOf (s : State) (n : Nat) : List Nat := (s.touched 0x5000).filter fun j => (s.routes j).contains n

/-- A layer's source elements in the three views, for index 0x8100 + i (R357). -/
def State.layerWords (s : State) (i : Nat) : List Word :=
  [s.airElem (0x8100 + i) 0, s.elem (0x8100 + i) 0, s.shadowElem (0x8100 + i) 0]

/-- The layers (0x40 * h + l) that any view enables on an enabled head. -/
def State.liveLayers (s : State) : List Nat :=
  let ks (m : SMap Word) : List Nat :=
    (m.filter fun e => decide (0x8100 ≤ e.1 / 65536) && decide (e.1 / 65536 < 0x8500) && e.1 % 65536 == 0).map
      fun e => e.1 / 65536 - 0x8100
  ((ks s.onAir ++ ks s.dict ++ ks s.shadow).eraseDups).filter fun i =>
    s.flag 0x8000 (i / 64) 31 && (s.layerWords i).any (bit · 31)

/-- The distinct sources a layer reads in any view. -/
def State.layerSources (s : State) (i : Nat) : List Nat :=
  (((s.layerWords i).filter (bit · 31)).map fun w => bits w 11 0).eraseDups

/-- Whether a compositor layer reads a source in any view (R205, R221). -/
def State.layerReads (s : State) (n : Nat) : Bool := s.liveLayers.any fun i => (s.layerSources i).contains n

end Sys2Proof.Machine
end

