-- ==== Sys2Proof/Machine/Entries.lean ====
section
/-! DEFINITION. Receive and send entries, Ethernet ports and wire rates (R159-R177, R183). -/

namespace Sys2Proof.Machine

def State.rxEntry (s : State) (e : Nat) : Word := s.elem 0x4400 e
def State.txEntry (s : State) (e : Nat) : Word := s.elem 0x6300 e

/-- Fields that stand in the same place in both entries (R166, R170). -/
def entryPath (w : Word) : Nat := bits w 251 251
def entryDest (w : Word) : Nat := bits w 239 208
def entryTarget (w : Word) : Nat := bits w 127 112
def entryChannels (w : Word) : Nat := bits w 111 104
def entryArate (w : Word) : Nat := bits w 103 102
def entryPtime (w : Word) : Nat := bits w 101 101
def entryL16 (w : Word) : Bool := bit w 100
def entryOffset (w : Word) : Nat := bits w 95 80
/-- Receive entry fields (R166). -/
def rxAsync (w : Word) : Bool := bit w 250
def rxSource (w : Word) : Nat := bits w 207 176
def rxPort (w : Word) : Nat := bits w 175 160
def rxTagged (w : Word) : Bool := bit w 159
def rxVid (w : Word) : Nat := if bit w 159 then bits w 158 147 else 0
def rxPt (w : Word) : Nat := bits w 146 140
/-- Send entry fields (R170). -/
def txLinear (w : Word) : Bool := bit w 250
def txBlocks (w : Word) : Bool := bit w 249
def txSrcPort (w : Word) : Nat := bits w 207 192
def txDestPort (w : Word) : Nat := bits w 191 176
def txTagged (w : Word) : Bool := bit w 175
def txPcp (w : Word) : Nat := bits w 174 172
def txVid (w : Word) : Nat := if bit w 175 then bits w 171 160 else 0
def txDscp (w : Word) : Nat := bits w 159 154
def txPt (w : Word) : Nat := bits w 153 147
def txTtl (w : Word) : Nat := bits w 146 139
def txMaxPayload (w : Word) : Nat := if bits w 79 69 = 0 then 1200 else bits w 79 69
def txSsrc (e : Nat) (w : Word) : Nat := if bits w 63 32 = 0 then 0x20480000 + e else bits w 63 32

/-- Entry kinds (R166). -/
abbrev kind20 : Nat := 0
abbrev kind22 : Nat := 1
abbrev kind30 : Nat := 2
abbrev kind31 : Nat := 3
abbrev kind40 : Nat := 4
abbrev kind2022 : Nat := 5
def isVideoKind (k : Nat) : Bool := k == kind20 || k == kind22 || k == kind2022
def isAudioKind (k : Nat) : Bool := k == kind30 || k == kind31

/-! Packets per frame and wire rates (R165, R174, R183). -/

/-- Most channels of an audio stream (R183); 0 where the stream does not exist. -/
def streamLimit (kind arate ptime : Nat) (l16 : Bool) : Nat :=
  if kind = kind31 then (if arate = 0 then (if ptime = 0 then 6 else 60) else 0)
  else if arate = 0 then (if ptime = 0 then (if l16 then 15 else 10) else 64)
  else if arate = 1 then (if ptime = 0 then (if l16 then 7 else 5) else (if l16 then 60 else 40))
  else 0

/-- Samples per packet of one channel (R183). -/
def samplesPerPacket (arate ptime : Nat) : Nat := (if ptime = 0 then 48 else 6) * (if arate = 1 then 2 else 1)
/-- Packets per second of an audio stream. -/
def audioPacketHz (ptime : Nat) : Nat := if ptime = 0 then 1000 else 8000
/-- Bytes per sample on the wire: -31 carries AES3 subframes in four bytes. -/
def wireSample (kind : Nat) (l16 : Bool) : Nat := if kind = kind31 then 4 else if l16 then 2 else 3

/-- The least n from `k` up with ceil(P / n) * g within the payload (R174). -/
def linePackets (groups g max : Nat) : Nat → Nat → Nat
  | 0, k => k
  | fuel + 1, k => if (groups + k - 1) / k * g ≤ max then k else linePackets groups g max fuel (k + 1)

/-- Packets of one line in general packing mode (R174). -/
def gpmPackets (f : Fmt) (max : Nat) : Nat :=
  let p := formWidth f.form / groupPixels f.samp
  linePackets p (groupBytes f.samp) max p 1

/-- Packets of one frame or field (R174, R176): block packing carries 1,260 bytes each. -/
def videoPackets (f : Fmt) (blocks : Bool) (max : Nat) : Nat :=
  let lines := formActive f.form / formFields f.form
  if blocks then (lines * lineBytes f.form f.samp + 1259) / 1260 else lines * gpmPackets f max

/-- Wire bytes of one frame of -20 video (R165); `tag` is 4 on a tagged entry. A block packet that spans a line end
carries two SRDs. -/
def videoFrameBytes (f : Fmt) (blocks : Bool) (max tag : Nat) : Nat :=
  let n := videoPackets f blocks max * formFields f.form
  let payload := formActive f.form * lineBytes f.form f.samp
  let spans := if blocks then
      let b := lineBytes f.form f.samp
      ((List.range (formActive f.form / formFields f.form)).filter fun l => l != 0 && (l * b) % 1260 != 0).length *
        formFields f.form
    else 0
  payload + n * (86 + tag) + 6 * spans

/-- Media bytes per frame of an SDI stream in ST 2022-6 (R182): the interface's bits per frame. -/
def sdiFrameBytes (f : Fmt) (cls : Nat) : Nat :=
  let bitsPerFrame : Rat := (match cls with
    | 0 => 270000000 | 1 => 1485000000 | _ => 2970000000 : Rat) / f.hz / (if rateM f.rate ∧ cls ≠ 0 then 1001 / 1000 else 1)
  (bitsPerFrame / 8).floor.toNat

/-- The interface a 2022-6 flow uses for a format (R181): the lowest of SD, 1.5G and 3G that lists it. -/
def class2022 (f : Fmt) : Option Nat := [0, 1, 2].find? fun c => sdiListed f c 0 false || (c == 2 && sdiListed f c 1 false)

/-- Packets of one 2022-6 frame (R182). -/
def packets2022 (f : Fmt) : Nat :=
  match class2022 f with
  | some c => (sdiFrameBytes f c + 1375) / 1376
  | none => 0

/-- The wire rate of an entry in bits per second (R165) for a flow's format, ancillary allowance and CBR. -/
def wireRate (kind : Nat) (f : Fmt) (anc cbr : Nat) (blocks : Bool) (max : Nat) (tagged : Bool)
    (channels arate ptime : Nat) (l16 : Bool) : Rat :=
  let tag := if tagged then 4 else 0
  if kind = kind20 then ((videoFrameBytes f blocks max tag * 8 : Nat) : Rat) * f.hz
  else if kind = kind22 then (cbr * 1000000 : Nat)
  else if kind = kind40 then
    let data := anc * 240
    let n := max1 ((data + 1451) / 1452)
    (((data + n * (86 + tag)) * 8 * formFields f.form : Nat) : Rat) * f.hz
  else if kind = kind2022 then ((packets2022 f * (1376 + 86 + tag) * 8 : Nat) : Rat) * f.hz
  else
    ((samplesPerPacket arate ptime * channels * wireSample kind l16 + 78 + tag) * 8 * audioPacketHz ptime : Nat)
where max1 (n : Nat) : Nat := if n = 0 then 1 else n

/-- A receive entry's wire rate (R165). A sender's packing is not declared, so a -20 stream counts as general packing
with 1,200-byte payloads. -/
def State.rxWire (s : State) (w : Word) : Rat :=
  let j := entryTarget w
  wireRate (entryKind w) (s.srcFmt j) (s.srcAnc j) (bits (s.inBind j) 15 0) false 1200 (rxTagged w) (entryChannels w)
    (entryArate w) (entryPtime w) (entryL16 w)

/-- A send entry's wire rate for a format and allowance (R165). -/
def State.txWireFor (s : State) (w : Word) (f : Fmt) (anc : Nat) : Rat :=
  wireRate (entryKind w) f anc (bits (s.outBind (entryTarget w)) 15 0) (txBlocks w) (txMaxPayload w) (txTagged w)
    (entryChannels w) (entryArate w) (entryPtime w) (entryL16 w)

/-- A send entry's wire rate (R165, R216, R238): the largest over the format in force and, on a FOLLOW output, over the
formats of the sources its routes name. -/
def State.txWire (s : State) (w : Word) : Rat :=
  let j := entryTarget w
  if isAudioKind (entryKind w) then s.txWireFor w (s.outFmt j) 0
  else
    let srcs := (s.routes j).filter fun n => s.srcBound n
    let anc := srcs.foldl (fun a n => max a (s.srcAnc n)) 0
    let base := s.txWireFor w (s.outFmt j) anc
    if s.follows j then srcs.foldl (fun a n => max a (s.txWireFor w (s.srcFmt n) (s.srcAnc n))) base else base

/-- MAC rate of an Ethernet code in bits per second, and what entries may take of it (R165). -/
def macRate (code : Nat) : Rat :=
  match code with
  | 0x10 => 10000000000 | 0x11 => 25000000000 | 0x12 => 50000000000 | 0x13 => 100000000000 | 0x14 => 200000000000
  | 0x15 => 400000000000 | _ => 0
def State.portLimit (s : State) (l : Nat) : Rat := macRate (s.txCode l) * 995 / 1000

/-- What a single entry may take (R165). -/
def singleFlow : Rat := 48000000000

/-- Whether any Ethernet port is above its limit in a direction, or an entry above the single-flow limit (R165). -/
def State.rxOver (s : State) : Bool :=
  let es := s.rxEntries
  es.any (fun e => decide (singleFlow < s.rxWire e.2)) || ((es.map fun e => entryLane e.2).eraseDups).any fun l =>
    decide (s.portLimit l < ((es.filter fun e => entryLane e.2 == l).map fun e => s.rxWire e.2).foldl (· + ·) 0)
def State.txOver (s : State) : Bool :=
  let es := s.txEntries
  es.any (fun e => decide (singleFlow < s.txWire e.2)) || ((es.map fun e => entryLane e.2).eraseDups).any fun l =>
    decide (s.portLimit l < ((es.filter fun e => entryLane e.2 == l).map fun e => s.txWire e.2).foldl (· + ·) 0)

/-! Port identity (R160). -/

/-- The port's host address: HOST_B for a pair member on side B, else HOST_A (R160). -/
def State.hostIp (s : State) (l : Nat) : Nat := s.elem 0x3500 ((if s.paired && s.boot.sideB then 0x200 else 0x100) + l)
def State.mediaIp (s : State) (l : Nat) : Nat :=
  if s.elem 0x3500 (0x300 + l) = 0 then s.hostIp l else s.elem 0x3500 (0x300 + l)
def portMac (l : Nat) : Nat := Config.baseMac + l
def State.ipv4On (s : State) (l : Nat) : Bool := s.flag 0x3500 (0x400 + l) 31
def State.igmpMode (s : State) (l : Nat) : Nat := s.field 0x3500 (0x400 + l) 30 29
def State.prefixLen (s : State) (l : Nat) : Nat := s.field 0x3500 (0x400 + l) 28 23
/-- The VLAN of the port's own frames: 0 untagged. -/
def State.portVlan (s : State) (l : Nat) : Nat :=
  if s.flag 0x3500 (0x400 + l) 22 then s.field 0x3500 (0x400 + l) 21 19 * 4096 + s.field 0x3500 (0x400 + l) 18 7 else 0
def State.gateway (s : State) (l : Nat) : Nat := s.elem 0x3500 (0x500 + l)

def isMulticast (ip : Nat) : Bool := ip / 2 ^ 28 == 0xE
/-- The MAC address RFC 1112 maps a group to (R161). -/
def groupMac (ip : Nat) : Nat := 0x01005E000000 + ip % 2 ^ 23

/-- The next hop of a unicast destination on a port (R163): itself within the prefix, else the gateway. -/
def State.nextHop (s : State) (l ip : Nat) : Option Nat :=
  if ip / 2 ^ (32 - s.prefixLen l) = s.hostIp l / 2 ^ (32 - s.prefixLen l) then some ip
  else if s.gateway l = 0 then none else some (s.gateway l)

/-- The distinct next hops of the enabled unicast send entries, as (lane, address) (R163), with those that their packets still
go to until the next frame start (R172). -/
def State.nextHops (s : State) : List (Nat × Nat) :=
  (((s.txEntries.flatMap fun e => e.2 :: ((s.txOf e.1).held).toList).filter fun w => !isMulticast (entryDest w)).filterMap fun w =>
    (s.nextHop (entryLane w) (entryDest w)).map fun h => (entryLane w, h)).eraseDups

end Sys2Proof.Machine
end

