-- ==== Sys2Proof/Machine/AudioMap.lean ====
section
/-! DEFINITION. The channel spaces (R147-R149, R183, R251, R252, R290-R308): which source binds which AIN slots, which sink
reads which AOUT slots, followed channels, domains, bridges and converters. -/

namespace Sys2Proof.Machine

/-- The three views of a banked element (R238). -/
inductive View where
  | air | active | shadow
deriving DecidableEq, Repr

def State.at_ (s : State) (v : View) (idx sub : Nat) : Word :=
  match v with
  | .air => s.airElem idx sub
  | .active => s.elem idx sub
  | .shadow => s.shadowElem idx sub

/-- A binding of a source to AIN slots or of a sink to AOUT slots: KIND and OWNER of R292, first slot, slots, domain B,
through a domain C bridge, and the ST 2022-7 path B copy of another entry's stream. -/
structure AudioBind where
  kind : Nat
  owner : Nat
  base : Nat
  slots : Nat
  b : Bool
  viaC : Bool
  copy : Bool := false
deriving DecidableEq, Repr

/-- De-embedding and embedding elements (R147, R149). -/
def embedBase (w : Word) : Nat := bits w 31 16
def embedGroups (w : Word) : Nat := bits w 15 12
def embedB (w : Word) : Bool := bits w 11 10 == 1
def embedAsync (w : Word) : Bool := bit w 8
def embedSlots (w : Word) : Nat := 4 * embedGroups w * (if embedB w then 2 else 1)

/-- Whether a flow carries ST 2022-6 (R169): an enabled entry of that kind names it. -/
def State.in2022 (s : State) (j : Nat) : Bool :=
  s.rxEntries.any fun e => entryKind e.2 == kind2022 && entryTarget e.2 == j
def State.out2022 (s : State) (j : Nat) : Bool :=
  s.txEntries.any fun e => entryKind e.2 == kind2022 && entryTarget e.2 == j

/-- The elements of a span of one index, as (offset, value). -/
def State.span (s : State) (idx lo n : Nat) : List (Nat × Word) :=
  ((s.elems idx).filter fun e => decide (lo ≤ e.1) && decide (e.1 < lo + n)).map fun e => (e.1 - lo, e.2)

/-- Channels of a serial port format (R301) and of an Exair port (R305). -/
def serialChannels (w : Word) : Nat :=
  match bits w 30 29 with
  | 0 => 2 | 1 => 8 | 2 => 16 | _ => 32
def exairChannels (p : Nat) (w : Word) : Nat :=
  if p < 0x10 then 2 else match bits w 27 26 with
    | 0 => 64 | 1 => 56 | _ => 32
def exairInput (p : Nat) : Bool := decide (p < 8) || (decide (0x10 ≤ p) && decide (p < 0x14))

/-- The source bindings of AIN 0-40959 (R291). -/
def State.ainBinds (s : State) : List AudioBind :=
  let de := (s.span 0x4000 0x800 2048).filterMap fun (j, w) =>
    if embedGroups w = 0 then none
    else some { kind := 1, owner := j, base := embedBase w, slots := embedSlots w, b := embedB w
                viaC := embedAsync w || s.synced j : AudioBind }
  let rx := (s.rxEntries.filter fun e => isAudioKind (entryKind e.2)).map fun (e, w) =>
    let k := if entryArate w = 1 then 2 else 1
    { kind := 2, owner := e, base := entryTarget w, slots := k * entryChannels w, b := k == 2, viaC := rxAsync w
      copy := entryPath w == 1 && s.rxEntries.any fun o => isAudioKind (entryKind o.2) && entryPath o.2 == 0 &&
        entryTarget o.2 == entryTarget w && entryChannels o.2 == entryChannels w && entryArate o.2 == entryArate w &&
        entryKind o.2 == entryKind w && entryL16 o.2 == entryL16 w && entryPtime o.2 == entryPtime w : AudioBind }
  let ser := (s.span 0x7300 0 16).filterMap fun (p, w) =>
    if bit w 31 && bit w 25 then
      let k := if bit w 26 then 2 else 1
      some { kind := 3, owner := p, base := s.field 0x7300 (0x10 + p) 31 16, slots := k * serialChannels w
             b := k == 2, viaC := bits w 28 27 == 2 : AudioBind }
    else none
  let exa := (s.span 0x7310 0 0x18).filterMap fun (p, w) =>
    if bit w 31 && exairInput p then
      let k := if bit w 28 then 2 else 1
      some { kind := if p < 8 then 4 else 5, owner := if p < 8 then p else p - 0x10, base := bits w 15 0
             slots := k * exairChannels p w, b := k == 2, viaC := bits w 30 29 == 0 : AudioBind }
    else none
  de ++ rx ++ ser ++ exa

/-- The sink bindings of AOUT (R291). -/
def State.aoutBinds (s : State) : List AudioBind :=
  let em := (s.span 0x6000 0x800 2048).filterMap fun (j, w) =>
    if embedGroups w = 0 then none
    else some { kind := 1, owner := j, base := embedBase w, slots := embedSlots w, b := embedB w, viaC := false : AudioBind }
  let tx := (s.txEntries.filter fun e => isAudioKind (entryKind e.2)).map fun (e, w) =>
    let k := if entryArate w = 1 then 2 else 1
    { kind := 2, owner := e, base := entryTarget w, slots := k * entryChannels w, b := k == 2, viaC := false : AudioBind }
  let ser := (s.span 0x7300 0 16).filterMap fun (p, w) =>
    if bit w 31 && bit w 24 then
      let k := if bit w 26 then 2 else 1
      some { kind := 3, owner := p, base := s.field 0x7300 (0x10 + p) 15 0, slots := k * serialChannels w
             b := k == 2, viaC := bits w 28 27 == 2 : AudioBind }
    else none
  let exa := (s.span 0x7310 0 0x18).filterMap fun (p, w) =>
    if bit w 31 && !exairInput p then
      let k := if bit w 28 then 2 else 1
      some { kind := if p < 0x10 then 4 else 5, owner := if p < 0x10 then p - 8 else p - 0x14, base := bits w 15 0
             slots := k * exairChannels p w, b := k == 2, viaC := bits w 30 29 == 1 : AudioBind }
    else none
  em ++ tx ++ ser ++ exa

def AudioBind.covers (x : AudioBind) (n : Nat) : Bool := decide (x.base ≤ n) && decide (n < x.base + x.slots)
def AudioBind.overlaps (x y : AudioBind) : Bool := decide (x.base < y.base + y.slots) && decide (y.base < x.base + x.slots)

/-- The de-embedding ranges that pending moves hold beside the present ones (R147, R263). -/
def State.movingAin (s : State) : List AudioBind :=
  (s.moves.filter fun m => m.index == 0x4000 && decide (0x800 ≤ m.sub) && decide (m.sub < 0x1000) && embedGroups m.new != 0).map
    fun m => { kind := 1, owner := m.sub - 0x800, base := embedBase m.new, slots := embedSlots m.new, b := embedB m.new
               viaC := embedAsync m.new : AudioBind }

/-- Whether two bindings are the two paths of one stream (R167, R188). -/
def AudioBind.twins (x y : AudioBind) : Bool :=
  x.kind == 2 && y.kind == 2 && x.copy != y.copy && x.base == y.base && x.slots == y.slots

/-- Whether two source bindings overlap, the two paths of one stream and the two sides of one move apart (R167, R290). -/
def State.ainOverlap (s : State) : Bool :=
  let bs := s.ainBinds ++ s.movingAin
  (bs.zipIdx).any fun (x, i) => (bs.zipIdx).any fun (y, k) =>
    decide (i < k) && x.overlaps y && !x.twins y && !(x.kind == 1 && y.kind == 1 && x.owner == y.owner)

/-- Whether two sinks declare different rates for one AOUT slot (R291). -/
def State.aoutConflict (s : State) : Bool :=
  let bs := s.aoutBinds
  (bs.zipIdx).any fun (x, i) => (bs.zipIdx).any fun (y, k) => decide (i < k) && x.overlaps y && x.b != y.b

/-- Mix-bus domain of a bus slot: set by the active spool (R290, R330). -/
def State.busB (s : State) (n : Nat) : Bool := s.busSlotsB.any fun r => decide (r.1 ≤ n) && decide (n < r.2)

def State.ainBind (s : State) (n : Nat) : Option AudioBind := s.ainBinds.find? (·.covers n)
def State.aoutBind (s : State) (n : Nat) : Option AudioBind := s.aoutBinds.find? (·.covers n)

/-- Domain B of a slot, and whether it is the second slot of a B channel (R291). -/
def State.ainB (s : State) (n : Nat) : Bool :=
  match s.ainBind n with
  | some x => x.b
  | none => decide (40960 ≤ n) && s.busB n
def State.ainSecond (s : State) (n : Nat) : Bool :=
  match s.ainBind n with
  | some x => x.b && (n - x.base) % 2 == 1
  | none => decide (40960 ≤ n) && s.busSlotsB.any fun r => decide (r.1 ≤ n) && decide (n < r.2) && (n - r.1) % 2 == 1
def State.aoutB (s : State) (n : Nat) : Bool :=
  match s.aoutBind n with
  | some x => x.b
  | none => false
def State.aoutSecond (s : State) (n : Nat) : Bool :=
  match s.aoutBind n with
  | some x => x.b && (n - x.base) % 2 == 1
  | none => false

/-! Audio that follows video (R251, R252). -/

/-- An associated range: first slot, channels, domain B. -/
abbrev Range3 := Nat × Nat × Bool

/-- The range an element of R251 gives, with the de-embedding or embedding element of the flow. -/
def assocRange (w embed : Word) (sdi : Bool) : Range3 :=
  if bit w 30 then (if sdi then (embedBase embed, 4 * embedGroups embed, embedB embed) else (0, 0, false))
  else (bits w 15 0, bits w 28 22, bit w 29)

def State.inRange (s : State) (j : Nat) : Range3 :=
  assocRange (s.elem 0x4000 (0x1000 + j)) (s.elem 0x4000 (0x800 + j)) (bindKind (s.inBind j) == 1 || s.in2022 j)
def State.outRange (s : State) (j : Nat) : Range3 :=
  assocRange (s.elem 0x6000 (0x1000 + j)) (s.elem 0x6000 (0x800 + j)) (bindKind (s.outBind j) == 1 || s.out2022 j)

def rangeStep (r : Range3) : Nat := if r.2.2 then 2 else 1
def rangeEnd (r : Range3) : Nat := r.1 + rangeStep r * r.2.1

/-- The outputs with FOLLOW whose range is not empty. FOLLOW is set at reset, so an embedding is enough. -/
def State.followers (s : State) : List Nat :=
  (((s.span 0x6000 0x800 2048).map Prod.fst ++ (s.span 0x6000 0x1000 2048).map Prod.fst).eraseDups).filter fun j =>
    bit (s.elem 0x6000 (0x1000 + j)) 31 && (s.outRange j).2.1 != 0

/-- Whether two FOLLOW outputs hold one AOUT channel (R252). -/
def State.followOverlap (s : State) : Bool :=
  let fs := s.followers
  (fs.zipIdx).any fun (x, i) => (fs.zipIdx).any fun (y, k) =>
    decide (i < k) && decide ((s.outRange x).1 < rangeEnd (s.outRange y)) && decide ((s.outRange y).1 < rangeEnd (s.outRange x))

/-- The FOLLOW output whose range holds AOUT slot `n`. -/
def State.followerOf (s : State) (n : Nat) : Option Nat :=
  s.followers.find? fun j => decide ((s.outRange j).1 ≤ n) && decide (n < rangeEnd (s.outRange j))

/-- Whether an input's audio is silent: lost, mistimed or in hold (R252, R320). -/
def State.inputSilent (s : State) (n : Nat) : Bool := s.field 0x4300 (0x4000 + n) 31 29 != 1

/-- The AIN slot that followed slot `n` of output `j` takes in a view, be its source lost or not (R252); 0xFFFF for
silence. -/
def State.followMap (s : State) (v : View) (j n : Nat) : Nat :=
  let ro := s.outRange j
  let k := (n - ro.1) / rangeStep ro
  let src := s.at_ v 0x5000 j
  if !isInput src || !s.srcBound src then 0xFFFF
  else
    let ri := s.inRange src
    if k < ri.2.1 then ri.1 + rangeStep ri * k else 0xFFFF

/-- The AIN slot the route of AOUT slot `n` names in a view (R252, R308): a B channel's second slot reads its first
slot's value. -/
def State.aoutRoute (s : State) (v : View) (n : Nat) : Nat :=
  let n := if s.aoutSecond n then n - 1 else n
  match s.followerOf n with
  | some j => s.followMap v j n
  | none => s.at_ v 0x7000 n

/-- What a 0x7000 element reads: silence for a followed channel whose source is lost (R252). -/
def State.routeReading (s : State) (v : View) (n : Nat) : Nat :=
  let lost := match s.followerOf (if s.aoutSecond n then n - 1 else n) with
    | some j => s.inputSilent (s.at_ v 0x5000 j)
    | none => false
  if lost then 0xFFFF else s.aoutRoute v n

/-- AOUT slots that any view routes. -/
def State.routedSlots (s : State) : List Nat :=
  (s.touched 0x7000 ++ s.followers.flatMap fun j =>
    (List.range ((s.outRange j).2.1)).map fun k => (s.outRange j).1 + rangeStep (s.outRange j) * k).eraseDups

/-! Converters and bridges (R295, R296). -/

/-- The AIN channels that hold a converter: into B (`toB`) or into A. -/
def State.converters (s : State) (toB : Bool) : List Nat :=
  ((s.routedSlots.filter fun n => s.aoutB n == toB && !s.aoutSecond n).flatMap fun n =>
    (([View.air, .active, .shadow].map fun v => s.aoutRoute v n) ++ s.salvoWrites 0x7000 n).filter fun x =>
      decide (x < 0xC000) && s.ainB x != toB).eraseDups

/-- Input and output bridge slots (R296). -/
def State.inBridgeSlots (s : State) : Nat :=
  ((s.ainBinds.filter fun x => x.viaC && !x.copy).map AudioBind.slots).foldl (· + ·) 0
def State.outBridgeSlots (s : State) : Nat :=
  ((s.aoutBinds.filter (·.viaC)).map AudioBind.slots).foldl (· + ·) 0

end Sys2Proof.Machine
end

