-- ==== Sys2Proof/Machine/Budget.lean ====
section
/-! DEFINITION. Admission (R203, R205, R210-R218, R238, R264, R265, R270-R274, R295, R296, R368): reservations, the loads
that every check sums over the whole device, the checks of a route, and the reason codes of R214. Each check is made on
the state as the write would leave it. -/

namespace Sys2Proof.Machine

/-- The other side of a move (R265): the element holds its old value until the move point, and its new one here. -/
def State.undo (s : State) (m : Move) : State := s.put m.index m.sub m.new

/-- The moves that hold the resources of source `n` twice (R263): its own elements, and the offset of an output that
reads it. -/
def State.movesOf (s : State) (n : Nat) : List Move :=
  s.moves.filter fun m =>
    (isInput n && m.sub == n && (m.index == 0x4000 || m.index == 0x4100 || m.index == 0x4200)) ||
    (isGen n && m.index == 0x5400 && m.sub == n - 2064) || (isHead n && m.index == 0x8000 && m.sub == n - 2048) ||
    (m.index == 0x6200 && (s.routes m.sub).contains n)

def maxRat (l : List Rat) : Rat := l.foldl max 0
def sumRat (l : List Rat) : Rat := l.foldl (· + ·) 0
def sumNat (l : List Nat) : Nat := l.foldl (· + ·) 0

/-- The fabric sources that are bound, enabled or arriving. -/
def State.sources (s : State) : List Nat :=
  (s.bindings 0x4000).map Prod.fst ++
    ((List.range 16).filter fun h => s.flag 0x8000 h 31).map (· + 2048) ++
    ((List.range 16).filter fun g => s.flag 0x5400 g 31).map (· + 2064)

/-- o_max of a source over its readers in the three views (R211, R238). -/
def State.oMax (s : State) (n : Nat) : Rat := maxRat ((s.readersOf n).map fun j => s.offsetDelay j n)

/-- The span of a source's reservation in ns (R211). -/
def State.span_ (s : State) (n : Nat) : Rat :=
  let w := s.srcWindow n
  let base : Rat :=
    if isInput n ∧ bindKind (s.inBind n) = 3 then 400
    else if isInput n ∧ !s.synced n then 2 * w + 400
    else w + 1000
  let ip : Rat := if isInput n ∧ bindKind (s.inBind n) = 2 then
      (s.srcFmt n).linePeriod + (if bit (s.inBind n) 25 then (s.field 0x4500 n 31 16 : Nat) * 1000 else 0)
    else 0
  base + s.oMax n + ip

/-- Cells of one version of a source's reservation (R211). -/
def State.reserveOne (s : State) (n : Nat) : Nat :=
  let f := s.srcFmt n
  if !s.srcBound n || f.linePeriod == 0 then 0
  else ((s.span_ n / f.linePeriod).ceil.toNat + 2) * cellsPerLine f.form f.samp + s.srcAnc n * formFields f.form

/-- Cells reserved by a source, both sides of its moves included (R211, R263). -/
def State.reserved (s : State) (n : Nat) : Nat :=
  s.reserveOne n + sumNat ((s.movesOf n).map fun m => (s.undo m).reserveOne n)

/-- A source's cell rate with its moves: once, at the larger value (R265). -/
def State.rateNow (s : State) (n : Nat) : Rat := maxRat (s.srcRate n :: (s.movesOf n).map fun m => (s.undo m).srcRate n)

/-! Compositor costs (R358, R367, R368). -/

/-- A layer's geometry in a view (R358). -/
def State.layerGeom (s : State) (v : View) (i : Nat) : LayerGeom :=
  let w0 := s.at_ v (0x8100 + i) 0
  let crop := s.at_ v (0x8100 + i) 1
  let dst := s.at_ v (0x8100 + i) 2
  let n := bits w0 11 0
  let f := s.srcFmt n
  let cx := bits crop 63 48
  let cy := bits crop 47 32
  let cw := if bits crop 31 16 = 0 then formWidth f.form - cx else min (bits crop 31 16) (formWidth f.form - cx)
  let ch := if bits crop 15 0 = 0 then formActive f.form - cy else min (bits crop 15 0) (formActive f.form - cy)
  { source := n, cx := cx, cy := cy, cw := cw, ch := ch
    dx := toSigned 16 (bits dst 63 48), dy := toSigned 16 (bits dst 47 32)
    dw := if bits dst 31 16 = 0 then cw else bits dst 31 16
    dh := if bits dst 15 0 = 0 then ch else bits dst 15 0 }

/-- Pixels of an extent [at, at + len) within [0, size). -/
def clipLen (at_ : Int) (len size : Nat) : Nat := (min (at_ + len) (size : Int) - max at_ 0).toNat

/-- The visible lines and width of a layer on its head (R358). -/
def State.visible (s : State) (v : View) (i : Nat) : Nat × Nat :=
  let g := s.layerGeom v i
  let f := s.srcFmt (2048 + i / 64)
  (clipLen g.dy g.dh (formActive f.form), clipLen g.dx g.dw (formWidth f.form))

/-- Cells of one staged frame (R368). -/
def State.stagedCells (s : State) (v : View) (i : Nat) : Nat :=
  let f := s.srcFmt (2048 + i / 64)
  let vis := s.visible v i
  let groups := (vis.2 + groupPixels f.samp - 1) / groupPixels f.samp
  vis.1 * ((groups * groupBytes f.samp + 239) / 240)

/-- The contents of a coefficient bank in a view (R362), as the elements that differ from reset. -/
def State.bankContents (s : State) (v : View) (b : Nat) : List (Nat × Word) :=
  let m := match v with
    | .air => s.onAir
    | .active => s.dict
    | .shadow => s.shadow
  ((m.filter fun e => e.1 / 65536 == 0x8800 && e.1 % 65536 / 0x400 == b).map fun e => (e.1 % 0x400, e.2))

/-- A layer's staging configuration in a view (R367). -/
def State.staging (s : State) (v : View) (i : Nat) : Staging :=
  { geom := s.layerGeom v i, lines := (s.visible v i).1, width := (s.visible v i).2
    colour := (5 :: (List.range 12).map (· + 0x10)).map (fun k => s.at_ v (0x8100 + i) k)
    coefs := s.bankContents v (bits (s.at_ v (0x8100 + i) 0) 29 27) }

/-- The distinct stagings of a layer over the views that enable it, each with a view that has it (R367). -/
def State.stagings (s : State) (i : Nat) : List View :=
  [View.air, .active, .shadow].foldl (fun a v =>
    if bit (s.at_ v (0x8100 + i) 0) 31 && !(a.any fun u => s.staging u i == s.staging v i) then a ++ [v] else a) []

/-! Totals. -/

/-- The tether sends of this node's own sources (R396). -/
def State.sends (s : State) : List Stream :=
  s.tether.streams.filter fun t => t.node == s.elem 0xA000 0 && !t.outs.isEmpty

/-- The sources of the video captures that wait or run (R285, R368, R484). -/
def State.captureSources (s : State) : List Nat :=
  (s.windows.filter fun e => (e.2.state == 1 || e.2.state == 2) && bits e.2.command 191 188 == 1 &&
    !s.flag 0x5530 e.1 30).map fun e => bits e.2.command 183 172
def State.spriteSources (s : State) : List Nat := s.gfx.captures.map SpriteCapture.source

/-- Compositor intake in bits per second (R368). -/
def State.compIntake (s : State) : Rat :=
  sumRat (s.liveLayers.map fun i => maxRat ((s.layerSources i).map s.rateNow)) + sumRat ((s.captureSources ++ s.spriteSources).map s.srcRate)

/-- Fabric ingress in bits per second (R213, R265, R368). -/
def State.ingress (s : State) : Rat :=
  sumRat (s.sources.map fun n =>
    let twice := s.moves.filter fun m => m.index == 0x4000 && m.sub == n && isInput n
    if twice.isEmpty then s.rateNow n else s.srcRate n + sumRat (twice.map fun m => (s.undo m).srcRate n)) +
  sumRat (s.liveLayers.map fun i => sumRat ((s.stagings i).map fun v =>
    (s.stagedCells v i * 2048 : Nat) * (s.srcFmt (s.layerGeom v i).source).hz))

/-- Fabric egress in bits per second, over the three views or on the active set alone (R213, R238, R265, R368). -/
def State.egressOf (s : State) (both : Bool) : Rat :=
  sumRat ((s.touched 0x5000).map fun j =>
    let ns := (if both then s.routes j else [s.elem 0x5000 j]).filter (· != noSource)
    let k : Rat := if s.moves.any (fun m => m.index == 0x6000 && m.sub == j) then 2 else 1
    k * maxRat (ns.map s.rateNow)) +
  s.compIntake +
  sumRat (s.liveLayers.map fun i => maxRat ((s.stagings i).map fun v =>
    (s.stagedCells v i * 2048 : Nat) * (s.srcFmt (2048 + i / 64)).hz)) +
  sumRat (s.sends.map Stream.rate)

def State.egress (s : State) : Rat := s.egressOf true

/-- Cells reserved over all sources and stagings (R211, R368). -/
def State.cellTotal (s : State) : Nat :=
  sumNat (s.sources.map s.reserved) +
    sumNat (s.liveLayers.map fun i => sumNat ((s.stagings i).map fun v => 3 * s.stagedCells v i))

/-- The synchronised aggregate in bits per second (R274). -/
def State.syncTotal (s : State) : Rat :=
  sumRat ((s.bindings 0x4000).map fun e =>
    if s.synced e.1 && bindKind e.2 != 3 then s.rateNow e.1
    else maxRat (((s.movesOf e.1).filter fun m => (s.undo m).synced e.1).map fun m => (s.undo m).srcRate e.1))

/-- Reservable capacity of a tether port in bits per second (R121, R387). -/
def lanePayload (rate : Word) : Rat :=
  let baud : Rat := match rateCode rate with
    | 0x20 => 56250000000 | 0x21 => 53125000000 | 0x22 => 26562500000 | 0x31 => (rateCustom rate : Nat) * 10000 | _ => 0
  baud * 20971520 / 11626156
def State.portCapacity (s : State) (p : Nat) : Rat :=
  if s.portOn p then (s.portLanes p : Nat) * lanePayload (s.txWord (s.portFirst p)) * 63 / 64 else 0
def State.leaving (s : State) (p : Nat) : Rat :=
  sumRat ((s.tether.streams.filter fun t => t.outs.any fun o => o.1 == p).map Stream.rate)
def State.arriving (s : State) (p : Nat) : Rat :=
  sumRat ((s.tether.streams.filter fun t => t.from_.any fun o => o.1 == p).map Stream.rate)

/-- Bridge slots with the old side of every move of an audio binding (R263, R296). -/
def State.bridgesHeld (s : State) : Nat :=
  s.inBridgeSlots + sumNat ((s.moves.filter fun m =>
      (m.index == 0x4000 && decide (0x800 ≤ m.sub) && decide (m.sub < 0x1000)) || m.index == 0x4200).map fun m =>
    let j := m.sub % 0x800
    sumNat ((((s.undo m).ainBinds).filter fun x => x.kind == 1 && x.owner == j && x.viaC).map AudioBind.slots))

/-! Spools and the channel spaces (R344). -/

def State.spoolBank (s : State) (b : Nat) : SpoolBank := mapGet spoolBankD s.spools b
def State.setSpoolBank (s : State) (b : Nat) (x : SpoolBank) : State :=
  { s with spools := mapSet spoolBankD s.spools b x }

/-- The banks that SELECT names in the on-air, active or shadow set. -/
def State.spoolNamed (s : State) : List Nat :=
  ([View.air, .active, .shadow].map fun v => s.at_ v 0x7200 0).eraseDups.filter fun b => decide (b < 2)

/-- Whether an A section's address is not in domain A, or a B section's not the first slot of a B channel; unbound AIN
slots and AOUT slots with no sink pass. -/
def State.addressFails (s : State) (b : Bool) (a : Nat) : Bool :=
  let bind := if a < 0x10000 then s.ainBind a else s.aoutBind (a - 0x10000)
  let n := a % 0x10000
  match bind with
  | some x => if b then !(x.b && (n - x.base) % 2 == 0) else x.b
  | none => false
def State.domainFails (s : State) (x : SpoolBank) : Bool :=
  x.readsA.any (s.addressFails false) || x.readsB.any (s.addressFails true)

/-- The codes a named spool fails: slot domains, and converters with its bus domains. -/
def State.spoolCodes (s : State) : List Nat :=
  s.spoolNamed.flatMap fun b =>
    let x := s.spoolBank b
    let t := { s with busSlotsB := x.busB }
    (if s.domainFails x then [0x12] else []) ++
      (if decide (8192 < (t.converters true).length) || decide (8192 < (t.converters false).length) then [0x11] else [])

/-- The reason codes that the device's totals fail (R214). -/
def State.budgetCodes (s : State) : List Nat :=
  [ (s.rxOver || s.txOver, 0x07), (decide (12800000000000 < s.egress), 0x08),
    (decide (12800000000000 < s.ingress), 0x09), (decide (655360 < s.cellTotal), 0x0A),
    (s.sources.any (fun n => decide (48000000000 < s.srcRate n)), 0x0B),
    ((List.range 8).any (fun p => decide (s.portCapacity p < s.leaving p) || decide (s.portCapacity p < s.arriving p)), 0x0C),
    (decide (2400000000000 < s.compIntake), 0x0E), (decide (8000000000000 < s.syncTotal), 0x0F),
    (decide (4096 < s.bridgesHeld) || decide (4096 < s.outBridgeSlots), 0x10),
    (decide (8192 < (s.converters true).length) || decide (8192 < (s.converters false).length), 0x11)
  ].filterMap (fun e => if e.1 then some e.2 else none) ++ s.spoolCodes

/-! Routes (R180, R214). -/

/-- Whether a FOLLOW output can carry a format (R153, R191): the same lane code, links and plane on SDI, the same kind on
IP. -/
def State.followOk (s : State) (j : Nat) (f : Fmt) : Bool :=
  let w := s.outBind j
  if bindKind w = 1 then sdiCarries f (s.txCode (bindLane w)) (bits w 23 22) (bindQuad w)
  else if s.out2022 j then (class2022 f).isSome else f.ok

/-- R180: OPAQUE sources go only to OPAQUE outputs of the same raster and rate with CBR enough, and the reverse. -/
def State.opaqueOk (s : State) (j n : Nat) : Bool :=
  if s.srcOpaque n then
    s.outOpaque j && formWidth (s.srcFmt n).form == formWidth (s.outFmt j).form &&
      formActive (s.srcFmt n).form == formActive (s.outFmt j).form && (s.srcFmt n).rate == (s.outFmt j).rate &&
      decide (bits (s.inBind n) 15 0 ≤ bits (s.outBind j) 15 0)
  else !s.outOpaque j

/-- The reason codes one route fails (R214). -/
def State.routeCodes (s : State) (j n : Nat) : List Nat :=
  if n = noSource then []
  else if !s.srcBound n then [0x01]
  else if s.outKind j = 0 then [0x02]
  else
    [ (s.srcPlane n != s.outPlane j, 0x03), (!s.follows j && s.srcFmt n != s.outFmt j, 0x04),
      (s.follows j && !s.followOk j (s.srcFmt n), 0x05), (!s.opaqueOk j n, 0x06),
      (decide ((s.elem 0x5100 j : Rat) < s.promise j n), 0x0D) ].filterMap fun e => if e.1 then some e.2 else none

/-- The codes of every route of the outputs `js`, in the three views. -/
def State.routeCodesOf (s : State) (js : List Nat) : List Nat :=
  js.flatMap fun j => (s.routes j).flatMap fun n => s.routeCodes j n

/-- The lowest of a list of codes; 0 where it is empty (R214). -/
def lowest : List Nat → Nat
  | [] => 0
  | c :: l => let r := lowest l
    if r = 0 ∨ c < r then c else r

/-! The frame-store pool (R270-R274, R282, R285). -/

/-- An ancillary run of `r` bytes placed in segments (R273): the space left in the last block, and the blocks added. -/
def placeRun : Nat → Nat → Nat → Nat × Nat
  | 0, free, _ => (free, 0)
  | fuel + 1, free, r =>
    let seg := if 64 ≤ free then free / 64 * 64 - 16 else 0
    if r = 0 then (free, 0)
    else if r ≤ seg then (free - (16 + r + 63) / 64 * 64, 0)
    else
      let x := placeRun fuel 65536 (r - seg)
      (x.1, x.2 + 1)

/-- Blocks of one frame of a synchroniser window (R273). -/
def frameBlocks (f : Fmt) (anc : Nat) : Nat :=
  let rec_ := (16 + lineBytes f.form f.samp + 63) / 64 * 64
  let q := 65536 / rec_
  let act := formActive f.form
  let n := (act + q - 1) / q
  let a := placeRun 5 (65536 - (act - (n - 1) * q) * rec_) (anc * 240)
  let b := if formFields f.form = 2 then placeRun 5 a.1 (anc * 240) else (0, 0)
  n + a.2 + b.2

/-- Blocks of input `j`'s window (R273, R274). -/
def State.windowBlocks (s : State) (j : Nat) : Nat :=
  if s.synced j && bindKind (s.inBind j) != 3 && bindKind (s.inBind j) != 0 then
    (s.field 0x4200 j 29 29 + 2) * frameBlocks (s.srcFmt j) (s.srcAnc j)
  else 0

/-- Window blocks held, both sides of moves included (R274). -/
def State.windowTotal (s : State) : Nat :=
  sumNat ((s.bindings 0x4000).map fun e => s.windowBlocks e.1 +
    sumNat (((s.movesOf e.1).filter fun m => m.index != 0x6200).map fun m => (s.undo m).windowBlocks e.1))

/-- Blocks of a delay group (R282). -/
def groupBlocks (w : Word) : Nat :=
  if bit w 31 then (bits w 15 0 * bits w 29 18 * 48 * (if bit w 30 then 3 else 4) + 65535) / 65536 else 0
def State.delayTotal (s : State) : Nat :=
  sumNat ((s.elems 0x5520).map fun e => if e.1 < 256 then groupBlocks e.2 else 0) +
    sumNat ((s.moves.filter fun m => m.index == 0x5520).map fun m => groupBlocks m.new)
def State.captureTotal (s : State) : Nat :=
  sumNat ((s.elems 0x5530).map fun e => if bit e.2 31 then bits e.2 16 0 else 0)

/-- Free pool blocks (R270, 0x5500:0000); none when over. -/
def poolBlocks : Nat := 983040
def State.poolUsed (s : State) : Nat := s.windowTotal + s.delayTotal + s.captureTotal

/-- What the moves in progress write to the frame store beside the old side (R31, R284), in bits per second: the new window of
an input, the new line of a delay group. -/
def State.structuralRate (s : State) : Rat :=
  sumRat ((s.bindings 0x4000).map fun e =>
    let ms := (s.movesOf e.1).filter fun m => m.index != 0x6200
    if s.windowBlocks e.1 = 0 then 0
    else sumRat (ms.map fun m => if (s.undo m).windowBlocks e.1 = 0 then 0 else (s.undo m).srcRate e.1)) +
  sumRat ((s.moves.filter fun m => m.index == 0x5520 && bit m.new 31).map fun m =>
    ((bits m.new 15 0 * (if bit m.new 30 then 24 else 32) * 48000 : Nat) : Rat))

/-- The structural headroom of the frame store (R31). -/
def structuralShare : Rat := 5000000000000

/-- The resources a move holds do not fit (R264): entries, egress, ingress, cells, the synchronised aggregate, asynchronous
channels, the pool, or the structural share of frame-store bandwidth (R31). -/
def State.overlapFails (s : State) : Bool :=
  s.budgetCodes.any (fun c => [0x07, 0x08, 0x09, 0x0A, 0x0F, 0x10].contains c) || decide (poolBlocks < s.poolUsed) ||
    decide (structuralShare < s.structuralRate)

end Sys2Proof.Machine
end

