-- ==== Sys2Proof/Machine/Window.lean ====
section
/-! DEFINITION. Picture lines as bytes, legal colours, and the capture and insert windows' contents (R196, R200, R207, R222,
R272, R273, R283, R285, R286, R485, R486). -/

namespace Sys2Proof.Machine

/-! Raster lines (R196, R272): which lines of a raster hold picture. -/

/-- First raster lines of the picture of field 1 and field 2. -/
def activeStart (form : Nat) : Nat × Nat :=
  match form with
  | 0 => (21, 283) | 1 => (23, 336) | 2 => (26, 0) | 3 => (21, 584) | 4 => (42, 0) | 5 => (21, 584) | 6 => (83, 0)
  | _ => (165, 0)

/-- The raster line of active line `i`, from 0, field 1 before field 2. -/
def rasterOf (form i : Nat) : Nat :=
  let half := formActive form / formFields form
  if i < half then (activeStart form).1 + i else (activeStart form).2 + (i - half)

/-- The first raster line of field 2 (PRESUMED from the raster standards). -/
def fieldTwo (form : Nat) : Nat := if rasterLines form = 525 then 266 else if rasterLines form = 625 then 313 else 564

/-- Sample words of a pixel group and of a line. -/
def groupWords (samp : Nat) : Nat := if samp ≤ 1 then 4 else if samp = 2 ∨ samp = 4 then 12 else 6
def lineWords (f : Fmt) : Nat := formWidth f.form / groupPixels f.samp * groupWords f.samp

/-! Colours (R207, R222). -/

/-- Sample words of one pixel group for a Y'CbCr or R'G'B' colour given as 10-bit codes (R196, R207): 12-bit structures
take them shifted by 2. -/
def groupOf (samp : Nat) (c : Nat × Nat × Nat) : List Nat :=
  let k := if samp = 1 ∨ samp = 3 ∨ samp = 5 then 4 else 1
  let (y, cb, cr) := (c.1 * k, c.2.1 * k, c.2.2 * k)
  if samp ≤ 1 then [cb, y, cr, y]
  else if samp ≤ 3 then (List.replicate (groupPixels samp) [cb, y, cr]).flatten
  else (List.replicate (groupPixels samp) [y, cb, cr]).flatten

/-- A line of one colour. -/
def flatLine (f : Fmt) (c : Nat × Nat × Nat) : List Nat :=
  (List.replicate (formWidth f.form / groupPixels f.samp) (groupOf f.samp c)).flatten

/-- Black of a range (R222). -/
def blackOf (samp : Nat) (full : Bool) : Nat × Nat × Nat :=
  if 4 ≤ samp then (if full then (0, 0, 0) else (64, 64, 64)) else if full then (0, 512, 512) else (64, 512, 512)

/-! Bytes of a line (R200). -/

/-- Words of `w` bits packed most significant bit first (R200, R201). -/
def unpackWords (w n : Nat) (b : List Byte) : List Nat :=
  let v := ofBytes b
  (List.range n).map fun i => v * 2 ^ (w * (i + 1)) / 2 ^ (8 * b.length) % 2 ^ w

def packWords (w : Nat) (ws : List Nat) : List Byte :=
  let bytes := (w * ws.length + 7) / 8
  toBytes bytes (ws.foldl (fun a x => a * 2 ^ w + x % 2 ^ w) 0 * 2 ^ (8 * bytes - w * ws.length))

/-- Bits of a sample word of a structure. -/
def wordBits (f : Fmt) : Nat := if f.samp = 1 ∨ f.samp = 3 ∨ f.samp = 5 then 12 else 10

/-! Window bytes (R286). -/

/-- Bytes a window holds (R285). -/
def State.winSize (s : State) (w : Nat) : Nat := if s.flag 0x5530 w 31 then s.field 0x5530 w 16 0 * 65536 else 0
def State.winAudio (s : State) (w : Nat) : Bool := s.flag 0x5530 w 30
/-- Bytes of a sample (R283). -/
def State.winStep (s : State) (w : Nat) : Nat := if s.flag 0x5530 w 29 then 3 else 4

def State.readWin (s : State) (w off n : Nat) : List Byte :=
  let m := mapGet winD s.winBytes w
  (List.range n).map fun i => mapGet byteD m (off + i)

def putWin (s : State) (w off : Nat) (b : List Byte) : State :=
  let m := (b.zipIdx).foldl (fun (m : SMap Byte) e => mapSet byteD m (off + e.2) e.1) (mapGet winD s.winBytes w)
  { s with winBytes := mapSet winD s.winBytes w m }

/-- Fields of a window command (R484). -/
def winOp (v : Word) : Nat := bits v 191 188
def winLoop (v : Word) : Bool := bit v 187
def winAout (v : Word) : Bool := bit v 186
def winPlane (v : Word) : Nat := bits v 185 184
def winTarget (v : Word) : Nat := bits v 183 172
def winBase (v : Word) : Nat := bits v 171 156
def winChannels (v : Word) : Nat := bits v 155 143
def winStart (v : Word) : Nat := bits v 127 64
def winCount (v : Word) : Nat := bits v 63 32
def winCrc (v : Word) : Nat := bits v 31 0

/-- Size of a line record of `b` payload bytes (R272). -/
def recordSize (b : Nat) : Nat := (16 + b + 63) / 64 * 64

/-- Where record `i` of frame `k` stands, for `n` records of `r` bytes a frame (R273, R286): no record crosses a block, each
frame has its own blocks, and the header takes the first 16 bytes of the first. -/
def recordAt (r n k i : Nat) : Nat :=
  let q := 65536 / r
  let q0 := (65536 - 16) / r
  let b0 := if n ≤ q0 then 1 else 1 + (n - q0 + q - 1) / q
  if k = 0 then (if i < q0 then 16 + i * r else (1 + (i - q0) / q) * 65536 + (i - q0) % q * r)
  else (b0 + (k - 1) * ((n + q - 1) / q) + i / q) * 65536 + i % q * r

/-- A captured line's record (R272). -/
def lineRecord (f : Fmt) (n : Nat) (frame : Int) (line : Nat) (words : List Nat) (subst : Bool) : List Byte :=
  let b := packWords (wordBits f) words
  let head := crc32c b * 2 ^ 96 + ofBool subst * 2 ^ 94 + 4 * 2 ^ 91 + line * 2 ^ 78 + b.length * 2 ^ 62 +
    ofSigned 40 frame * 2 ^ 22 + n % 4096 * 2 ^ 10
  let all := toBytes 16 head ++ b
  all ++ List.replicate (recordSize b.length - all.length) 0

/-- The windows on which an operation of a kind runs; a video capture takes the lines of its first frame while it waits. -/
def State.winRunning (s : State) (op : Nat) (audio : Bool) : List Nat :=
  (s.windows.filter fun e => (e.2.state == 2 || (e.2.state == 1 && op == 1 && !audio)) && winOp e.2.command == op &&
    s.winAudio e.1 == audio).map Prod.fst

/-- Record `i` of the frame in hand, stored. -/
def storeLine (s : State) (w n i : Nat) (frame : Int) (words : List Nat) (subst : Bool) : State :=
  let f := s.srcFmt n
  let r := recordSize (lineBytes f.form f.samp)
  putWin s w (recordAt r (formActive f.form) (s.window w).done i) (lineRecord f n frame (rasterOf f.form i) words subst)

/-- Lines of the frame in hand that did not come, up to line `i`, are absent fill; a whole frame counts (R485). -/
def fillLines (s : State) (w n i : Nat) : State :=
  let op := s.window w
  let f := s.srcFmt n
  match op.frame with
  | some m =>
    let s := ((List.range i).drop op.lines).foldl (fun s k => storeLine s w n k m (flatLine f (blackOf f.samp false)) false) s
    if formActive f.form ≤ i ∧ op.lines < formActive f.form then s.setWindow w { op with lines := i, done := op.done + 1 }
    else s.setWindow w { op with lines := max op.lines i }
  | none => s

/-- The next frame of a capture begins, unless the count, the window's end or a stop ends it (R484, R485, R286). -/
def nextFrame (s : State) (w n : Nat) (frame : Int) : State :=
  let op := s.window w
  let f := s.srcFmt n
  let r := recordSize (lineBytes f.form f.samp)
  let last := recordAt r (formActive f.form) op.done (formActive f.form - 1) + r
  let ended := op.stopping || (winCount op.command != 0 && decide (winCount op.command ≤ op.done)) || decide (s.winSize w < last)
  s.setWindow w (if ended then { op with full := true } else { op with frame := some frame, lines := 0 })

/-- A line of source `n` at one window that captures it (R485). -/
def captureInto (n : Nat) (frame : Int) (i : Nat) (words : List Nat) (subst : Bool) (s : State) (w : Nat) : State :=
  let active := formActive (s.srcFmt n).form
  if winTarget (s.window w).command ≠ n ∨ frame < (s.window w).first ∨ active ≤ i then s
  else
    let s := if (s.window w).frame = some frame then s else nextFrame (fillLines s w n active) w n frame
    let op := s.window w
    if op.full || op.frame != some frame || decide (i < op.lines) then s
    else
      let s := storeLine (fillLines s w n i) w n i frame words subst
      let op := s.window w
      s.setWindow w { op with lines := i + 1, done := if i + 1 = active then op.done + 1 else op.done }

/-- A line of source `n`, by its raster line, to the windows that capture it. -/
def captureLine (s : State) (n : Nat) (frame : Int) (line : Nat) (words : List Nat) (subst : Bool) : State :=
  match s.winRunning 1 false with
  | [] => s
  | ws =>
    match (List.range (formActive (s.srcFmt n).form)).find? fun k => rasterOf (s.srcFmt n).form k == line with
    | some i => ws.foldl (captureInto n frame i words subst) s
    | none => s

/-- One period of the audio captures (R485): CHANNELS slots from BASE. -/
def captureAudio (s : State) (ain aout : Nat → Nat) : State :=
  (s.winRunning 1 true).foldl (fun s w =>
    let op := s.window w
    let v := op.command
    let size := winChannels v * s.winStep w
    let at_ := 16 + op.done * size
    if op.full then s
    else if op.stopping ∨ (winCount v ≠ 0 ∧ winCount v ≤ op.done) ∨ s.winSize w < at_ + size then s.setWindow w { op with full := true }
    else
      let bytes := (List.range (winChannels v)).flatMap fun i =>
        let x := if winAout v then aout (winBase v + i) else ain (winBase v + i)
        toBytes (s.winStep w) (if s.winStep w = 4 then x % 2 ^ 24 * 256 else x)
      (putWin s w at_ bytes).setWindow w { op with done := op.done + 1 }) s

/-! Inserts (R486). -/

/-- The window header (R286). -/
def State.winHeader (s : State) (w : Nat) : Word := ofBytes (s.readWin w 0 16)
/-- Frames or periods an insert plays before it ends or loops. -/
def State.insertTotal (s : State) (w : Nat) (v : Word) : Nat :=
  if winCount v = 0 then bits (s.winHeader w) 31 0 else min (winCount v) (bits (s.winHeader w) 31 0)

/-- The line that a record gives: legal black where its tag fails. -/
def State.insertLine (s : State) (w : Nat) (f : Fmt) (k i : Nat) : List Nat :=
  let b := lineBytes f.form f.samp
  let at_ := recordAt (recordSize b) (formActive f.form) k i
  let head := ofBytes (s.readWin w at_ 16)
  let data := s.readWin w (at_ + 16) b
  if bits head 127 96 = crc32c data ∧ bit head 95 = false ∧ bits head 77 62 = b then unpackWords (wordBits f) (lineWords f) data
  else flatLine f (blackOf f.samp false)

/-- Bytes an insert plays, from the window's start (R484). -/
def State.insertBytes (s : State) (w : Nat) (v : Word) (f : Fmt) : Nat :=
  let total := s.insertTotal w v
  if total = 0 then 16
  else if s.winAudio w then 16 + total * winChannels v * s.winStep w
  else
    let r := recordSize (lineBytes f.form f.samp)
    recordAt r (formActive f.form) (total - 1) (formActive f.form - 1) + r

/-- The next of an insert's frames or periods to play, none at its end. -/
def State.insertNext (s : State) (w : Nat) : Option Nat :=
  let op := s.window w
  let total := s.insertTotal w op.command
  if total = 0 ∨ op.stopping = true then none
  else if winLoop op.command then some (op.done % total)
  else if op.done < total then some op.done else none

/-- A frame of generator `g` starts: the next frame of the insert that runs on it, else its pattern. -/
def insertFrame (s : State) (g : Nat) : State :=
  let f := s.srcFmt (2064 + g)
  match (s.winRunning 2 false).find? fun w => winTarget (s.window w).command == g with
  | some w =>
    match s.insertNext w with
    | some k =>
      let lines := (List.range (formActive f.form)).map fun i => s.insertLine w f k i
      let op := s.window w
      { s.setWindow w { op with done := op.done + 1 } with inserted := mapSet wordsD s.inserted g lines }
    | none => { s with inserted := mapErase s.inserted g }
  | none => { s with inserted := mapErase s.inserted g }

/-- One period of the audio inserts: the first CHANNELS channels of their ports' frames. -/
def insertAudio (s : State) (frames : List (Nat × List (List Nat))) : State × List (Nat × List (List Nat)) :=
  (s.winRunning 2 true).foldl (fun (a : State × List (Nat × List (List Nat))) w =>
    let s := a.1
    match s.insertNext w with
    | some k =>
      let op := s.window w
      let n := winChannels op.command
      let at_ := 16 + k * n * s.winStep w
      let xs := (List.range n).map fun i =>
        let x := ofBytes (s.readWin w (at_ + i * s.winStep w) (s.winStep w))
        if s.winStep w = 4 then x / 256 else x
      (s.setWindow w { op with done := op.done + 1 },
       a.2.map fun e => if e.1 = winTarget op.command then (e.1, e.2.map fun fr => xs.take fr.length ++ fr.drop n) else e)
    | none => a) (s, frames)

end Sys2Proof.Machine
end

