-- ==== Sys2Proof/Machine/Cell.lean ====
section
/-! DEFINITION. Cells of the fabric (R199-R202): the 256 bytes of a cell, the packing of picture lines and ancillary records
into payloads, and what a reader checks. A line in cell memory is held as its sample words with the header's fields; its cells
are what these functions make of it. -/

namespace Sys2Proof.Machine

/-- A cell (R199): its header's fields and its 240 payload bytes. `meta_` holds COLORIMETRY [8:5], TCS [4:1], RANGE [0]. -/
structure Cell where
  source : Nat
  plane : Nat
  anc : Bool
  frame : Int
  line : Nat
  index : Nat
  last : Bool
  valid : Nat
  subst : Bool
  meta_ : Nat
  payload : List Byte
deriving DecidableEq, Repr

/-- PCRC: the CRC-32C of the 240 payload bytes, padding included (R199). -/
def Cell.pcrc (c : Cell) : Word := crc32c c.payload

/-- The header's fields from KIND down to the metadata (R199): colorimetry 0xF of R192 is 0x7 here. -/
def Cell.fields (c : Cell) : Word :=
  ofBool c.anc * 2 ^ 112 + ofSigned 40 c.frame * 2 ^ 72 +
    c.line % 2 ^ 13 * 2 ^ 59 + c.index % 2 ^ 9 * 2 ^ 50 + ofBool c.last * 2 ^ 49 + c.valid % 2 ^ 8 * 2 ^ 41 +
    ofBool c.subst * 2 ^ 40 + c.meta_ / 32 % 8 * 2 ^ 37 + c.meta_ % 32 * 2 ^ 32

/-- The 16 header bytes as one word (R199). -/
def Cell.header (c : Cell) : Word := c.source % 2 ^ 12 * 2 ^ 116 + c.plane % 4 * 2 ^ 114 + c.fields + c.pcrc

def Cell.bytes (c : Cell) : List Byte := toBytes 16 c.header ++ c.payload

/-! Cells on a tether link (R391). -/

/-- A cell as it leaves under a label on a virtual channel. -/
def Cell.onLink (label vc : Nat) (c : Cell) : LinkCell :=
  { label := label, vc := vc, reserved := false, anc := c.anc, frame := c.frame, line := c.line, index := c.index, last := c.last
    valid := c.valid, subst := c.subst, meta_ := c.meta_, pcrc := c.pcrc, payload := c.payload }

/-- The header on the link: LABEL in place of SOURCE, VC, a zero bit. -/
def linkHeader (c : LinkCell) : Word :=
  c.label % 2 ^ 12 * 2 ^ 116 + c.vc % 2 * 2 ^ 115 +
    { source := 0, plane := 0, anc := c.anc, frame := c.frame, line := c.line, index := c.index, last := c.last, valid := c.valid
      subst := c.subst, meta_ := c.meta_, payload := [] : Cell }.fields + c.pcrc

/-- The eight blocks of a cell, with their header bits: the header with payload bytes 0-15, then payload bytes 16-239. -/
def linkBlocks (c : LinkCell) : List (Bool × Word) :=
  let part (i n : Nat) : List Byte := (List.range n).map fun k => (c.payload[i + k]?).getD 0#8
  (true, linkHeader c * 2 ^ 128 + ofBytes (part 0 16)) :: (List.range 7).map fun k => (false, ofBytes (part (16 + 32 * k) 32))

/-- Whether a cell's PCRC holds. -/
def linkCrcOk (c : LinkCell) : Bool := c.pcrc == crc32c c.payload

/-! The cells of lines and runs (R200, R201). -/

/-- Payload bytes cut into cells of 240, the last one padded with zeros (R199, R200). -/
def cutCells (c : Cell) : Nat → Nat → List Byte → List Cell
  | 0, _, _ => []
  | n + 1, i, b =>
    { c with index := i, last := n == 0, valid := min 240 b.length, payload := b.take 240 ++ List.replicate (240 - b.length) 0#8 } ::
      cutCells c n (i + 1) (b.drop 240)

/-- The payload of a picture line: pixel groups in raster order, each sample most significant bit first (R200). A unit of an
OPAQUE frame is its T, K, L and I in one byte, then its bytes. -/
def State.lineBytesOf (s : State) (n : Nat) (words : List Nat) : List Byte :=
  packWords (if s.srcOpaque n then 8 else wordBits (s.srcFmt n)) words

/-- The fabric source number of a source, a moving binding's new side included. -/
def sourceNumber (n : Nat) : Nat := n % 0x8000

/-- The cells of a picture line (R199, R200). -/
def State.lineCells (s : State) (x : CellLine) : List Cell :=
  let b := s.lineBytesOf x.source x.picture
  cutCells { source := x.source, plane := x.plane, anc := false, frame := x.frame, line := x.line, index := 0, last := false
             valid := 0, subst := x.subst, meta_ := x.meta_, payload := [] } ((b.length + 239) / 240) 0 b

/-- Bytes of an ancillary record (R201). -/
def recordBytes (p : AncPkt) : Nat := 4 + (p.words.length * 10 + 7) / 8

/-- An ancillary record (R201): its head, and its 10-bit words most significant bit first, padded to a byte. -/
def recordOf (p : AncPkt) : List Byte :=
  toBytes 4 (p.line % 2 ^ 11 * 2 ^ 21 + ofBool p.c * 2 ^ 20 + p.stream % 8 * 2 ^ 17 + p.hoffset % 2 ^ 12 * 2 ^ 5) ++
    packWords 10 p.words

/-- Cells of an ancillary run (R201). -/
def ancCells (r : AncRun) : Nat := (sumNat (r.pkts.map recordBytes) + 239) / 240

/-- The cells of an ancillary run of a source; `line` is the first of its field or frame (R199, R201). -/
def State.runCells (s : State) (n line meta_ : Nat) (r : AncRun) : List Cell :=
  let b := r.pkts.flatMap recordOf
  cutCells { source := sourceNumber n, plane := s.srcPlane n, anc := true, frame := r.frame, line := line, index := 0
             last := false, valid := 0, subst := false, meta_ := meta_, payload := [] } ((b.length + 239) / 240) 0 b

/-- A line as its writer leaves it in cells: the header's SOURCE and PLANE, and the PCRC of each cell (R199). -/
def State.sealLine (s : State) (n : Nat) (x : CellLine) : CellLine :=
  let x := { x with source := sourceNumber n, plane := s.srcPlane n }
  { x with pcrc := (s.lineCells x).map Cell.pcrc }

/-- What a reader finds in order (R202): SOURCE, PLANE, FRAME and LINE as its pointer expects, and every PCRC it recomputes. -/
def State.cellsGood (s : State) (n : Nat) (m : Int) (line : Nat) (x : CellLine) : Bool :=
  !x.bad && x.source == sourceNumber n && x.plane == s.srcPlane n && x.frame == m && x.line == line &&
    x.pcrc == (s.lineCells x).map Cell.pcrc

/-- Metadata of a generator's frame (R141, R206): its RANGE; colorimetry and TCS unspecified. -/
def genMeta (conf : Word) : Nat := 15 * 32 + 15 * 2 + ofBool (bit conf 14)

/-! Digests of compare units (R434, R437). -/

/-- A digest entry: unit, link minus 1, number, position, epoch, and the CRC-32C of the unit's bytes (R437). -/
def digestEntry (unit link number pos epoch : Nat) (b : List Byte) : Word :=
  unit % 16 * 2 ^ 76 + link % 4 * 2 ^ 74 + number % 2 ^ 12 * 2 ^ 62 + pos % 2 ^ 14 * 2 ^ 48 + epoch % 256 * 2 ^ 40 + crc32c b

/-- A DIGEST record of one to three entries (R419). -/
def digestRecord (ds : List Word) : Word :=
  7 * 2 ^ 248 + ds.length % 4 * 2 ^ 246 + ds.getD 0 0 * 2 ^ 160 + ds.getD 1 0 * 2 ^ 80 + ds.getD 2 0

/-- The digest of a compare unit, while both members are in step (R434): kept to be compared, and sent in a record with two
others. The last 65,536 are kept (a DESIGN CHOICE). -/
def addDigest (s : State) (unit link number pos epoch : Nat) (b : List Byte) : State :=
  if !s.paired || !s.pair.inStep then s
  else
    let d := digestEntry unit link number pos epoch b
    let p := s.pair
    let out := p.digestsOut ++ [d]
    let s := { s with pair := { p with
      ownDigests := (p.ownDigests ++ [d]).drop (p.ownDigests.length + 1 - 65536)
      digestsOut := if 3 ≤ out.length then [] else out } }
    if 3 ≤ out.length then s.emit (.bridle (digestRecord out) []) else s

/-- The digest of an input line (R434): the cells written, SUBST included; of a synchronised input the record's words as cells. -/
def digestLine (s : State) (j : Nat) (x : CellLine) : State :=
  if !isInput j then s
  else addDigest s 8 0 j x.line (x.frame % 256).toNat ((s.lineCells (s.sealLine j x)).flatMap Cell.bytes)

/-- The digest of an input's ancillary run (R434): its records. -/
def digestRun (s : State) (j : Nat) (frame : Int) (field : Nat) (pkts : List AncPkt) : State :=
  if !isInput j || pkts.isEmpty then s else addDigest s 9 0 j field (frame % 256).toNat (pkts.flatMap recordOf)

/-- The position and epoch of a period or packet number (R437). -/
def digestPeriod (s : State) (unit : Nat) (k : Int) (b : List Byte) : State :=
  addDigest s unit 0 0 (k % 2 ^ 14).toNat (k / 2 ^ 14 % 256).toNat b

end Sys2Proof.Machine
end

