-- ==== Sys2Proof/Machine/Intake.lean ====
section
/-! DEFINITION. Intake (R139-R148, R203, R205, R222-R227, R232, R233, R275-R281): SDI lines taken apart, cells and window
lines written, input loss, mistiming and return, the frame-synchroniser reader. -/

namespace Sys2Proof.Machine

/-- Whether a raster line holds picture, and its field (0, 1). -/
def isActive (form line : Nat) : Bool :=
  let half := formActive form / formFields form
  let a := activeStart form
  (decide (a.1 ≤ line) && decide (line < a.1 + half)) ||
    (formFields form == 2 && decide (a.2 ≤ line) && decide (line < a.2 + half))
def fieldOf (form line : Nat) : Nat := if formFields form = 2 ∧ fieldTwo form ≤ line then 1 else 0

/-- The last active raster line of a field. -/
def lastActive (form field : Nat) : Nat :=
  let half := formActive form / formFields form
  (if field = 0 then (activeStart form).1 else (activeStart form).2) + half - 1

/-- Samples of a whole raster line: SMPTE ST 125, 274, 296, 2036 (PRESUMED). -/
def lineSamples (f : Fmt) : Nat :=
  let hd : Nat := match f.rate with
    | 0 | 1 | 5 | 6 => 2750
    | 2 | 7 | 10 => 2640
    | _ => 2200
  match f.form with
  | 0 => 858 | 1 => 864
  | 2 => (match f.rate with
    | 0 | 1 => 4125 | 2 => 3960 | 3 | 4 => 3300 | 5 | 6 => 2062 | 7 => 1980 | 10 => 990 | 11 | 12 => 825 | _ => 1650)
  | 6 => 2 * hd | 7 => 4 * hd | _ => hd

/-! Cell memory (R203, R205). -/

/-- When a reader with offset delay `o` launches a line of source `n` (R209). -/
def State.readTime (s : State) (n : Nat) (o : Rat) (frame : Int) (line : Nat) : Rat :=
  s.srcStart n frame + s.srcHops n + o + ((line - 1 : Nat) : Rat) * (s.srcFmt n).linePeriod

/-- The outputs whose active route names a source (R205), and those that still carry it. -/
def State.outReaders (s : State) (n : Nat) : List Nat :=
  (s.touched 0x5000).filter fun j => s.elem 0x5000 j == ownFlow n || s.airElem 0x5000 j == ownFlow n

/-- When the last of the readers that are due to read a line passes it (R205); none where no reader is due. -/
def State.releaseTime (s : State) (n : Nat) (frame : Int) (line : Nat) : Option Rat :=
  let k := ownFlow n
  let outs := (s.outReaders n).map fun j => s.readTime n (s.offsetDelay j n) frame line
  let others := if s.layerReads k || s.captureSources.contains k || s.spriteSources.contains k ||
      s.sends.any (fun t => t.source == k) then [s.readTime n 0 frame line] else []
  match outs ++ others with
  | [] => none
  | t :: l => some (if s.srcOpaque n then s.srcStart n (frame + 3) else l.foldl max t)

/-- Whether a line still waits for a reader. -/
def State.lineHeld (s : State) (n : Nat) (x : CellLine) : Bool :=
  match s.releaseTime n x.frame x.line with
  | some t => decide (s.now ≤ t + (s.srcFmt n).linePeriod)
  | none => false

/-- How long the words of a released line are still there for packets of IP outputs on their way (R176): a DESIGN CHOICE, they
count as no cells any more. -/
def State.keepTime (s : State) (n : Nat) : Rat :=
  if (s.outReaders n).any fun j => s.outKind j == 2 then (s.srcFmt n).period else 0

/-- Released lines removed (R205). -/
def releaseCells (s : State) (n : Nat) : State :=
  let c := s.cellsOf n
  s.setCells n { c with
    lines := c.lines.filter fun x => match s.releaseTime n x.frame x.line with
      | some t => decide (s.now ≤ t + (s.srcFmt n).linePeriod + s.keepTime n)
      | none => false
    anc := c.anc.filter fun x => match s.releaseTime n (x.frame + 1) 1 with
      | some t => decide (s.now ≤ t + s.keepTime n)
      | none => false }

/-- Lines of its frames that a head or a generator has in cells now (R203): written, and not passed by every reader. The model
holds such a frame as what it was made from. -/
def State.madeLines (s : State) (n : Nat) : Nat :=
  let frames := if isHead n then ((mapGet headD s.heads (n - 2048)).shots.filter fun x => !x.gap).map fun x => x.frame
    else if isGen n then (mapGet genD s.gens (n - 2064)).map GenShot.frame else []
  let f := s.srcFmt n
  let written (m : Int) (line : Nat) : Bool := isGen n || decide (s.srcArrival n m + ((line - 1 : Nat) : Rat) * f.linePeriod ≤ s.now)
  sumNat (frames.map fun m => ((List.range (formActive f.form)).filter fun i =>
    written m (rasterOf f.form i) && s.lineHeld n { frame := m, line := rasterOf f.form i, picture := [] }).length)

/-- Cells of picture that a source holds now. -/
def State.pictureCells (s : State) (n : Nat) : Nat :=
  let f := s.srcFmt n
  if s.srcOpaque n then sumNat (((s.cellsOf n).lines.filter (s.lineHeld n)).map fun x => x.pcrc.length)
  else (((s.cellsOf n).lines.filter (s.lineHeld n)).length + s.madeLines n) * cellsPerLine f.form f.samp

/-- Cells that hold essence now (0x5300:0004): those of each source, never more than its reservation, and staged frames. -/
def State.cellsNow (s : State) : Nat :=
  let staged (i : Nat) (x : Stage) : Nat :=
    let samp := (s.srcFmt (2048 + i / 64)).samp
    let groups := (x.conf.width + groupPixels samp - 1) / groupPixels samp
    x.frames.length * (x.conf.lines * ((groups * groupBytes samp + 239) / 240))
  let sources := ((s.cells.map Prod.fst) ++ (s.heads.map fun (e : Nat × _) => 2048 + e.1) ++ s.gens.map fun (e : Nat × _) => 2064 + e.1).eraseDups
  sumNat (sources.map fun n => min (s.reserved n) (s.pictureCells n + sumNat ((s.cellsOf n).anc.map ancCells))) +
    sumNat (s.layers.map fun e => sumNat (e.2.stages.map (staged e.1)))

/-- The high-water mark of 0x5300:0005. -/
def noteCells (s : State) : State :=
  let held := s.cellsNow
  if s.elem 0x5300 5 < held then s.put 0x5300 5 held else s

/-- An overflow of an input's reservation (R203, R227, R230). -/
def noteOverflow (s : State) (n : Nat) : State :=
  if !isInput n then s
  else
    let s := (s.count 0x4300 (0x4800 + n)).putFlag 0x4300 (0x4000 + n) 25 true
    let x := s.in_ n
    let due := match x.overflowNote with
      | some t => decide (t + 1000000000 ≤ s.up)
      | none => true
    let s := s.setIn n { x with overflowAt := some s.up, overflowNote := if due then some s.up else x.overflowNote }
    if due then declareFault s 0x083 n false false (s.srcPlane n) else s

/-- A cell that a layer, capture or tether send finds wrong (R202): a NOTE; only outputs have a count of them. -/
def noteCell (s : State) (n : Nat) : State := declareFault s 0x080 (sourceNumber n) false false (s.srcPlane n)

/-- A line kept for the stagers and captures that read its source (R364, R373), and stored in the windows that capture it
(R485). They check its cells as every reader does (R202): one that fails is missing to them. -/
def feedLine (s : State) (n : Nat) (x : CellLine) : State :=
  let reads := s.layerReads (ownFlow n) || s.spriteSources.contains n
  if !s.cellsGood n x.frame x.line x then (if reads || s.captureSources.contains n then noteCell s n else s)
  else
    let s := captureLine s n x.frame x.line x.picture x.subst
    if reads then
      { s with feeds := mapMod feedD s.feeds n fun l =>
          (l.filter fun y => decide (x.frame ≤ y.frame + 1) && !(y.frame == x.frame && y.line == x.line)) ++ [x] }
    else s

/-- Whether a frame of a source leaves by tether as absent fill (R515, R518). -/
def State.sendBlank (s : State) (n : Nat) (frame : Int) : Bool :=
  s.rests (s.srcStart n frame) || s.faults.stopped.any fun x => match x.what with
    | .all => true
    | .flow => x.detail % 65536 == n
    | .lane => isInput n && bindUsesLane (s.inBind n) x.detail
    | .stack => isInput n && s.synced n
    | _ => false

def State.tport (s : State) (p : Nat) : TetherPort := mapGet tportD s.tether.ports p
def State.setTport (s : State) (p : Nat) (x : TetherPort) : State :=
  { s with tether := { s.tether with ports := mapSet tportD s.tether.ports p x } }

def TetherPort.credit (x : TetherPort) (vc : Nat) : Nat := if vc = 0 then x.credit0 else x.credit1
def TetherPort.addCredit (x : TetherPort) (vc : Nat) (n : Int) : TetherPort :=
  let put (c : Nat) : Nat := (max 0 (min 512 ((c : Int) + n))).toNat
  if vc = 0 then { x with credit0 := put x.credit0 } else { x with credit1 := put x.credit1 }

/-- The virtual channel on which a cell leaves by port `q` (R404): VC1 where the port crosses the dateline. -/
def State.leaveVc (s : State) (q vc : Nat) : Nat := if s.flag 0xA100 q 19 then 1 else vc

/-- `k` credits of a channel spent (R404); a port with none left on a channel is dry from then on. -/
def spendCredit (s : State) (q vc k : Nat) : State :=
  let x := (s.tport q).addCredit vc (-(k : Int))
  let dry := x.credit0 == 0 || x.credit1 == 0
  s.setTport q { x with dryAt := if dry then (match x.dryAt with | some t => some t | none => some s.up) else none }

/-- A line or run of this node's own leaves against its credits, or waits for them in cell memory; what is older than the
frame before is gone from there. -/
def sendOwn (s : State) (c : OwnCells) : State :=
  let x := s.tport c.port
  if s.tether.own.any (fun w => w.port == c.port && w.vc == c.vc) || decide (x.credit c.vc < c.cells) then
    let own := (s.tether.own.filter fun w => w.port != c.port || decide (c.frame ≤ w.frame + 1)) ++ [c]
    ({ s with tether := { s.tether with own := own } }).setTport c.port
      { x with dryAt := match x.dryAt with | some t => some t | none => some s.up }
  else (spendCredit s c.port c.vc c.cells).emit c.out

/-- A line of a source leaves by the tether ports that send it, on VC1 where the port crosses the dateline (R396, R398,
R404), with STREAM_STATE once a frame. -/
def sendLineOf (s : State) (n : Nat) (frame : Int) (line : Nat) (subst : Bool) (meta_ : Nat) (picture : List Nat) : State :=
  let f := s.srcFmt n
  let picture := if s.sendBlank n frame then flatLine f (blackOf f.samp false) else picture
  (s.sends.filter fun t => t.source == n).foldl (fun s (t : Stream) => t.outs.foldl (fun s o =>
    if s.flag 0xA100 (0x100 + o.1) 31 then
      let y : CellLine := { frame := frame, line := line, subst := subst, meta_ := meta_, picture := picture }
      let s := if line = rasterOf f.form 0 then
          s.emit (.streamState o.1 o.2 (if isInput n then s.elem 0x4300 (0x4000 + n) / 2 ^ 26 else 8)) else s
      let vc := s.leaveVc o.1 0
      sendOwn s { port := o.1, vc := vc, cells := cellsPerLine f.form f.samp, frame := frame
                  out := .blocks o.1 ((s.lineCells (s.sealLine n y)).flatMap fun c => linkBlocks (c.onLink o.2 vc)) }
    else s) s) s

/-- An ancillary run of a source leaves by the tether ports that send it (R396). -/
def sendAncOf (s : State) (n : Nat) (frame : Int) (field : Nat) (pkts : List AncPkt) : State :=
  if pkts.isEmpty then s
  else (s.sends.filter fun t => t.source == n).foldl (fun s (t : Stream) => t.outs.foldl (fun s o =>
    if s.flag 0xA100 (0x100 + o.1) 31 then
      let vc := s.leaveVc o.1 0
      let run : AncRun := { frame := frame, field := field, pkts := pkts }
      sendOwn s { port := o.1, vc := vc, cells := ancCells run, frame := frame
                  out := .blocks o.1 ((s.runCells n (if field = 0 then 1 else fieldTwo (s.srcFmt n).form) (15 * 32 + 15 * 2) run).flatMap fun c =>
                    linkBlocks (c.onLink o.2 vc)) }
    else s) s) s

/-- A whole line written to cell memory (R200, R203, R205): cells no reader is due to read are released at once; a line
that does not fit its reservation is not written, and is missing to every reader. R211 sizes a reservation for lines in flight
and not for whole OPAQUE frames, which are kept until the end of the second frame after them (a DESIGN CHOICE). -/
def writeCells (s : State) (n : Nat) (x : CellLine) : State :=
  let s := releaseCells s n
  let x := s.sealLine n { x with written := s.now }
  match s.releaseTime n x.frame x.line with
  | none => s
  | some _ =>
    let f := s.srcFmt n
    if !s.srcOpaque n && decide (s.reserved n < s.pictureCells n + cellsPerLine f.form f.samp + s.srcAnc n * formFields f.form) then
      noteOverflow s n
    else
      let s := feedLine s n x
      let c := s.cellsOf n
      let s := if s.cellsGood n x.frame x.line x then sendLineOf s n x.frame x.line x.subst x.meta_ x.picture
        else if s.sends.any fun t => t.source == n then noteCell s n else s
      noteCells (s.setCells n { c with
        lines := (c.lines.filter fun y => !(y.frame == x.frame && y.line == x.line)) ++ [x] })

/-- An ancillary run written (R201): the records that fit ANC_CELLS are kept, in order, and from the first that does not, the
rest are dropped and counted. -/
def writeAnc (s : State) (n : Nat) (frame : Int) (field : Nat) (pkts : List AncPkt) : State :=
  let room := s.srcAnc n * 240
  let old := ((s.cellsOf n).anc.find? fun r => r.frame == frame && r.field == field).getD { frame := frame, field := field, pkts := [] }
  let fit := pkts.foldl (fun (a : List AncPkt × Nat × Bool) p =>
    if !a.2.2 && decide (a.2.1 + recordBytes p ≤ room) then (a.1 ++ [p], a.2.1 + recordBytes p, false) else (a.1, a.2.1, true))
    ([], sumNat (old.pkts.map recordBytes), old.full)
  let s := if isInput n then s.countBy 0x4300 (0x3000 + n) (pkts.length - fit.1.length) else s
  let s := sendAncOf s n frame field fit.1
  let c := s.cellsOf n
  noteCells (s.setCells n { c with
    anc := (c.anc.filter fun r => !(r.frame == frame && r.field == field)) ++
      [{ old with pkts := old.pkts ++ fit.1, full := fit.2.2 }] })

/-! Input state (R222-R227). -/

/-- STATE of 0x4300:4000 (R227). -/
def State.inState (s : State) (j : Nat) : Nat := s.field 0x4300 (0x4000 + j) 31 29
def setInState (s : State) (j st : Nat) : State := s.putField 0x4300 (0x4000 + j) 31 29 st

/-- The lanes of an SDI binding (R135). -/
def bindLanes (w : Word) : List Nat := if bindQuad w then (List.range 4).map (· + bindLane w) else [bindLane w]

/-- The input flows bound to lane `l`. -/
def State.flowsOn (s : State) (l : Nat) : List Nat :=
  ((s.elems 0x4000).filter fun e => (decide (e.1 < 2048) || (decide (0x8000 ≤ e.1) && decide (e.1 < 0x8800))) &&
    bindUsesLane e.2 l).map Prod.fst

/-- Whether an input's lines are taken (R223, R140, R195): locked, of an IP input a path present, with no mismatch and no
link fault. -/
def State.inputOk (s : State) (j : Nat) : Bool :=
  let w := s.elem 0x4300 j
  match bindKind (s.inBind j) with
  | 1 => bit w 31 && !bit w 29 && !bit w 28
  | 2 => (bit w 30 || bit w 29) && !bit w 28
  | 3 => s.field 0xA200 j 127 124 == 2
  | _ => false

/-- An input dropped (R223, R224): a synchronised one holds its last frame. -/
def dropInput (s : State) (j : Nat) : State :=
  let x := s.in_ j
  let s := s.setIn j { x with
    lostAt := some s.up, frame := none, whole := false, openLines := [], good := 0, arrivals := [], fresh := x.nextCount }
  (setInState s j (if s.synced j then 3 else 2)).putFlag 0x4300 (0x4000 + j) 26 false

/-- An input lost: a decision of the active's (R426). -/
def loseInput (s : State) (j : Nat) : State :=
  if (s.inState j = 1 ∨ s.inState j = 5) ∧ s.mirrored = false then mirror (dropInput s j) 2 j 0 else s

/-- A new binding starts (R135, R223): the input is lost, with no declaration, until it returns. -/
def startInput (s : State) (j : Nat) : State :=
  let w := s.inBind j
  let s := s.setIn j {}
  let s := s.setCells j {}
  let locked := bindKind w == 1 && (bindLanes w).all fun l => s.laneReady l && s.delivers l
  let s := s.put 0x4300 j (if bindKind w = 1 then ofBool locked * 2 ^ 31 + 7 * 2 ^ 11 else 0)
  s.put 0x4300 (0x4000 + j) (if bindKind w = 0 then 0 else 2 * 2 ^ 29 + ofBool (s.flag 0x4300 (0x4000 + j) 27) * 2 ^ 27)

/-- Whether a frame of input `j` has just begun: the events of R223, R225 and R226 fall at frame starts. -/
def State.atFrameStart (s : State) (j : Nat) : Bool :=
  (s.in_ j).frame.isSome && decide (s.now < (s.in_ j).beganAt + (s.srcFmt j).linePeriod)

/-- An input that returns (R223). -/
def returnInput (s : State) (j : Nat) : State := 
  setInState (s.setIn j { s.in_ j with lostAt := none, fresh := max (s.in_ j).fresh ((s.in_ j).nextCount - 1) }) j 1

def execInputReturn (j : Nat) (s : State) : Host.Outcome State Fault Refusal :=
  onUnit j 2048 s fun s =>
    let st := s.inState j
    if (st == 2 || st == 3 || st == 4) && s.inputOk j && (bindKind (s.inBind j) != 2 || s.flag 0x4300 j 31) &&
        (s.in_ j).whole && s.atFrameStart j && !s.mirrored then mirror (returnInput s j) 3 j 0
    else s

/-- The hold time in ns (R233). -/
def State.holdTime (s : State) (j : Nat) : Rat := (s.elem 0x4200 (0x800 + j) : Nat) * 10000000

def execHoldExpiry (j : Nat) (s : State) : Host.Outcome State Fault Refusal :=
  onUnit j 2048 s fun s => match (s.in_ j).lostAt with
    | some t => if s.inState j = 3 ∧ t + s.holdTime j ≤ s.up then setInState s j 4 else s
    | none => s

/-- Arrival less the nearest frame start (R142): the frame, and the difference in ns. -/
def State.arrivalDiff (s : State) (j : Nat) (t : Rat) : Int × Rat :=
  let f := (s.srcFmt j).period
  let o := (s.plane (s.srcPlane j)).origin
  let m : Int := if f = 0 then 0 else ((t - o) / f + 1 / 2).floor
  (m, t - o - (m : Rat) * f)

/-- Whether an arrival lies within the alignment window (R232). -/
def State.inWindow (s : State) (j : Nat) (diff : Rat) : Bool :=
  decide (-(2 * s.srcWindow j + pipeline) ≤ diff) && decide (diff ≤ -pipeline)

/-- The frame number and count that a frame beginning at a standby in step takes from what the active told (R275, R426); none
where it has told nothing of this frame yet. -/
def InFlow.toldOf (x : InFlow) (m : Int) : Option (Int × Nat) := x.told.find? fun e => decide (e.1 - m ≤ 1) && decide (m - e.1 ≤ 1)

/-- A frame begins to arrive at `t` (R142, R178, R225, R275): its frame number, its arrival report, the count of frames within
the window, and for a synchronised input a frame of the window. The number and count are a decision of the active's (R426). -/
def beginFrame (s : State) (j : Nat) (t : Rat) : State :=
  let d := s.arrivalDiff j t
  let units := (d.2 / s.houseLine (s.srcPlane j) * 4096).floor
  let s := s.put 0x4300 (0x800 + j) (ofSigned 32 units)
  let told := if s.mirrored then (s.in_ j).toldOf d.1 else none
  let x := s.in_ j
  let x := { x with
    untold := s.mirrored && told.isNone, beganAt := s.now, nextCount := (told.map Prod.snd).getD x.nextCount
    told := match told with
      | some e => x.told.filter fun y => decide (e.1 < y.1)
      | none => x.told }
  let d := ((told.map Prod.fst).getD d.1, d.2)
  -- the ancillary runs of the frame that ends here (R434)
  let runs : List (Int × Nat × List AncPkt) := if s.synced j then
      (x.win.getLast?.toList).flatMap fun g => [0, 1].map fun fd =>
        (((g.count : Nat) : Int), fd, (g.anc.filter fun e => e.1 == fd).map Prod.snd)
    else ((s.cellsOf j).anc.filter fun r => x.frame == some r.frame).map fun r => (r.frame, r.field, r.pkts)
  let s := runs.foldl (fun s r => digestRun s j r.1 r.2.1 r.2.2) s
  let s := mirror s 20 j (ofSigned 64 d.1 * 2 ^ 64 + x.nextCount % 2 ^ 64)
  let good := if s.inWindow j d.2 then x.good + 1 else 0
  let x := { x with
    frame := some d.1, arrival := t, whole := true, good := good
    openLines := x.openLines.filter fun o => decide (d.1 ≤ o.frame + 1)
    metas := (x.metas ++ [(d.1, x.meta_.getD 0)]).drop ((x.metas.length + 1) - 8)
    arrivals := (x.arrivals ++ [t]).drop ((x.arrivals.length + 1) - 9), ancField := 0, ancCount := 0 }
  if s.synced j then
    let depth := s.field 0x4200 j 29 29 + 2
    -- a frame that a loss cut short gives its place first
    let (broken, kept) := x.win.partition fun g => decide (g.count < x.fresh) && decide (g.lines.length < formActive (s.srcFmt j).form)
    let full := decide (depth ≤ kept.length)
    s.setIn j { x with
      evicted := if full then kept.take 1 else broken.take 1
      win := (if full then kept.drop 1 else kept) ++ [{ count := x.nextCount, arrival := t, meta_ := x.meta_.getD 0 }]
      nextCount := x.nextCount + 1 }
  else s.setIn j x

/-- The active's number and count of a frame at the standby (R275, R426): of the frame that arrives where they were not told yet,
else of one to come. -/
def numberFrame (s : State) (j : Nat) (m : Int) (count : Nat) : State :=
  let x := s.in_ j
  match x.untold, x.frame with
  | true, some f =>
    s.setIn j { x with
      untold := false, frame := some m
      openLines := x.openLines.map fun o => if o.frame = f then { o with frame := m } else o
      done := x.done.map fun k =>
        if f * (formActive (s.srcFmt j).form : Nat) ≤ k then k + (m - f) * (formActive (s.srcFmt j).form : Nat) else k
      win := if s.synced j then x.win.map fun g => if g.count + 1 = x.nextCount then { g with count := count } else g else x.win
      nextCount := if s.synced j then count + 1 else x.nextCount }
  | _, _ => s.setIn j { x with told := (x.told ++ [(m, count)]).drop (x.told.length + 1 - 8) }

/-! The frame-synchroniser reader (R233, R275-R281). -/

/-- When the reader reads active line `i` of slot `m` (R276): ready for a(m) + w_s + 0.6 µs plus the line's offset. -/
def State.slotTime (s : State) (j : Nat) (m : Int) (line : Nat) : Rat :=
  s.srcArrival j m + s.srcWindow j + 600 + ((line - 1 : Nat) : Rat) * (s.srcFmt j).linePeriod

/-- A stored frame of a window by its count. -/
def InFlow.frameOf (x : InFlow) (k : Nat) : Option FsFrame := (x.win ++ x.evicted).find? fun f => f.count == k

/-- Where record `i` of `bytes` payload bytes stands in its block (R272, R273): no record crosses a block. -/
def recordOffset (bytes i : Nat) : Nat :=
  let r := (16 + bytes + 63) / 64 * 64
  i % (65536 / r) * r

/-- A reader finds a record whose TAG fails or that is poisoned (R280): counted, reported with its offset and KIND, and declared.
Blocks are given in any order (R271): the block number is a free value. -/
def tagFailed (s : State) (kind offset : Nat) : State :=
  let block := s.drawn 20
  let s := (s.count 0x5500 6).put 0x5500 8 (block * 2 ^ 32 + offset % 65536 * 2 ^ 16 + kind * 2 ^ 8)
  declareFault s.draw 0x0A0 block

/-- A tag failure, a poisoned record or a missing line (R280): the line is repeated from the most recent earlier frame
whose copy verifies; none where none does. The count of R280 is made. -/
def replaceLine (s : State) (j k line : Nat) : State × Option FsLine :=
  let earlier := ((s.in_ j).win.filter fun f => decide (f.count < k) && f.stored).reverse
  let s := s.count 0x5510 (0x2000 + j)
  (s, (earlier.filterMap fun f => f.lines.find? fun l => l.line == line && !l.poison).head?)

/-- One line of the slot's frame read into cell memory (R276, R278, R280): from the frame before where the input was lost
part way through the frame. -/
def readSlotLine (s : State) (j : Nat) (m : Int) (k line : Nat) : State :=
  let x := s.in_ j
  let own := (x.frameOf k).bind fun f => f.lines.find? fun l => l.line == line
  let prev := x.before.bind fun b => (x.frameOf b).bind fun f => f.lines.find? fun l => l.line == line
  let cand := match own with
    | some l => some l
    | none => if s.inState j = 1 then none else prev
  let (s, got) : State × Option FsLine := match cand with
    | some l => if l.poison then replaceLine (tagFailed s 0 (recordOffset (lineBytes (s.srcFmt j).form (s.srcFmt j).samp) x.readNext)) j k line else (s, some l)
    | none => replaceLine s j k line
  match got with
  | some l => writeCells s j
      { frame := m, line := line, picture := l.picture, subst := l.subst
        meta_ := ((x.frameOf k).map FsFrame.meta_).getD 0 }
  | none => writeCells s j { frame := m, line := line, picture := [], fill := true }

/-- The reader's lines that have come due are read (R276). -/
def runReader (fuel : Nat) (s : State) (j : Nat) : State :=
  match fuel with
  | 0 => s
  | fuel + 1 =>
    let x := s.in_ j
    match x.slot, x.reading with
    | some m, some k =>
      let f := s.srcFmt j
      let line := rasterOf f.form x.readNext
      if x.readNext < formActive f.form ∧ s.slotTime j m line ≤ s.now then
        let s := readSlotLine s j m k line
        runReader fuel (s.setIn j { s.in_ j with readNext := x.readNext + 1 }) j
      else s
    | _, _ => s

/-- The ancillary packets of the slot's frame that have come go into its runs (R201, R233). -/
def passAnc (s : State) (j : Nat) : State :=
  let x := s.in_ j
  match x.slot, x.reading.bind x.frameOf with
  | some m, some f =>
    let new := f.anc.drop x.ancRead
    if new.isEmpty ∨ s.inState j = 4 then s
    else
      let s := s.setIn j { x with ancRead := f.anc.length }
      [0, 1].foldl (fun s field =>
        let pkts := (new.filter fun e => e.1 == field).map Prod.snd
        if pkts.isEmpty then s else writeAnc s j m field pkts) s
  | _, _ => s

/-- The reader brought up to the present. -/
def State.caughtUp (s : State) (j : Nat) : State := if s.synced j then passAnc (runReader 4320 s j) j else s

/-- A frame of a window not stored (R275). -/
def loseFrame (s : State) (j count : Nat) : State :=
  let x := s.in_ j
  (s.count 0x5510 (0x1800 + j)).setIn j { x with
    win := x.win.map fun g => if g.count = count then { g with stored := false } else g }

/-- A line of a synchronised input written to its window (R275): not where the reader still needs the line it replaces,
which leaves the frame not stored. That is a decision of the active's (R426): a standby in step writes the line. -/
def writeWindow (s : State) (j count line : Nat) (picture : List Nat) (subst : Bool) : State :=
  let s := s.caughtUp j
  let x := s.in_ j
  let put (f : FsFrame) : List FsFrame := x.win.map fun g => if g.count = count then f else g
  match x.win.find? (fun f => f.count == count) with
  | none => s
  | some f =>
    let needed := !s.mirrored && match x.evicted, x.slot, x.reading with
      | e :: _, some m, some k => e.count == k && decide (s.now < s.slotTime j m line)
      | _, _, _ => false
    if needed then
      if f.stored then mirror (loseFrame s j count) 14 j count else s
    else
      let ln : FsLine := { line := line, picture := picture, subst := subst }
      let f := { f with lines := (f.lines.filter fun l => l.line != line) ++ [ln] }
      let s := digestLine s j { frame := (count : Nat), line := line, picture := picture, subst := subst, meta_ := f.meta_ }
      s.setIn j { x with
        win := put f
        evicted := x.evicted.map fun e => { e with lines := e.lines.filter fun l => l.line != line } }

/-- A picture line of an input in its final place (R200, R223, R225): written while the input is present; a synchronised
input's lines go to its window. -/
def takeLine (s : State) (j : Nat) (m : Int) (count line : Nat) (picture : List Nat) (subst : Bool) : State :=
  if !s.inputOk j then s
  else if s.synced j then writeWindow s j count line picture subst
  else if s.inState j = 1 then
    let x : CellLine := { frame := m, line := line, picture := picture, subst := subst, meta_ := (s.in_ j).meta_.getD 0 }
    writeCells (digestLine s j x) j x
  else s

/-- A line of the frame that is arriving. -/
def takeNow (s : State) (j line : Nat) (picture : List Nat) : State :=
  match (s.in_ j).frame with
  | some m => takeLine s j m ((s.in_ j).nextCount - 1) line picture false
  | none => s

/-- The packets that intake regenerates rather than carries (R144), by DID and SDID: payload ID; EDH; the audio data, extended
data and audio control packets of ST 272, ST 299-1 and ST 299-2. The numbers are those of the SMPTE register (PRESUMED). -/
def regenerated (p : AncPkt) : Bool :=
  let did := p.words.getD 0 0 % 256
  (did == 0x41 && p.words.getD 1 0 % 256 == 0x01) || did == 0xF4 || decide (0xF8 ≤ did) ||
    (decide (0xEC ≤ did) && decide (did ≤ 0xEF)) || (decide (0xE0 ≤ did) && decide (did ≤ 0xE7)) ||
    (decide (0xA0 ≤ did) && decide (did ≤ 0xA7))

/-- Ancillary packets of a received line or stream (R144, R145): at most 256 in a field or frame. -/
def takeAnc (s : State) (j field : Nat) (pkts : List (AncPkt × Bool)) : State :=
  let pkts := pkts.filter fun p => !regenerated p.1
  let good := (pkts.filter (·.2)).map Prod.fst
  let x := s.in_ j
  let taken := if x.ancField = field then x.ancCount else 0
  let kept := good.take (256 - taken)
  let x := { x with ancField := field, ancCount := taken + kept.length }
  if pkts.isEmpty || !s.inputOk j then s
  else if s.synced j then
    match x.win.getLast? with
    | some f =>
      (s.countBy 0x4300 (0x3000 + j) (pkts.length - kept.length)).setIn j { x with
        win := x.win.dropLast ++ [{ f with anc := f.anc ++ kept.map fun p => (field, p) }] }
    | none => s
  else match x.frame with
    | some m =>
      if s.inState j = 1 then writeAnc ((s.countBy 0x4300 (0x3000 + j) (pkts.length - kept.length)).setIn j x) j m field kept
      else s
    | none => s

/-! The slot rule (R276). -/

/-- The mean of the last eight input frame periods; the declared period until there are two arrivals. -/
def meanPeriod (f : Rat) (ts : List Rat) : Rat :=
  match ts.head?, ts.getLast? with
  | some a, some b => if ts.length ≤ 1 then f else (b - a) / ((ts.length - 1 : Nat) : Rat)
  | _, _ => f

/-- g of R276: what keeps every line of a slower input written before it is read. -/
def State.readGuard (s : State) (j : Nat) : Rat :=
  let f := s.srcFmt j
  let r : Rat := ((lastActive f.form (formFields f.form - 1) - 1 : Nat) : Rat) / (rasterLines f.form : Nat)
  max 0 (meanPeriod f.period (s.in_ j).arrivals - f.period) * r

/-- The reader chooses the input frame of slot m, the next slot whose c(m) has come (R276, R278). -/
def slotSelect (s : State) (j : Nat) (given : Option (Option Nat)) : State :=
  let s := s.caughtUp j
  let x := s.in_ j
  -- the slot whose c(m) = t_start(m) - w_s has just come
  let m := s.srcFrameAt j (s.now + s.srcWindow j)
  if x.slot = some m then s
  else
    let c := s.srcStart j m - s.srcWindow j
    let g := s.readGuard j
    let lost := s.inState j != 1
    let choice := match given with
      | some k => k
      | none => if lost then none
        else ((x.win.filter fun f => f.stored && decide (x.fresh ≤ f.count) && decide (f.arrival + g ≤ c)).getLast?).map FsFrame.count
    -- a hold repeats the last complete frame (R224, R278)
    let heldFrame (k : Nat) : Nat := match x.frameOf k with
      | some f => if f.lines.length < formActive (s.srcFmt j).form then x.before.getD k else k
      | none => k
    let delay (k : Nat) : Nat := match x.frameOf k with
      | some f => (min (16777215 : Int) (((c - f.arrival) / s.houseLine (s.srcPlane j) * 4096).floor)).toNat
      | none => 0
    let rep (s : State) (last d : Nat) : State := (s.putField 0x5510 j 27 24 last).putField 0x5510 j 23 0 d
    let go (s : State) (k : Nat) : State :=
      s.setIn j { s.in_ j with
        slot := some m, reading := some k, before := x.reading, readNext := 0, ancRead := 0
        metas := (x.metas ++ [(m, ((x.frameOf k).map FsFrame.meta_).getD 0)]).drop ((x.metas.length + 1) - 8) }
    match choice, x.reading with
    | none, some k =>
      if s.inState j = 4 then rep (s.setIn j { x with slot := some m, readNext := formActive (s.srcFmt j).form }) 5 0 else rep (go s (heldFrame k)) 4 (delay (heldFrame k))
    | none, none => rep (s.setIn j { x with slot := some m }) (if s.inState j = 4 then 5 else 4) 0
    | some k, none => rep (go s k) 1 (delay k)
    | some k, some p =>
      if k = p then rep ((go s k).count 0x5510 (0x800 + j)) 2 (delay k)
      else if p + 1 < k then rep ((go s k).countBy 0x5510 (0x1000 + j) (k - p - 1)) 3 (delay k)
      else rep (go s k) (if k < p then 4 else 1) (delay k)

/-! SDI lines (R138-R148). -/

/-- Whether the NOTE condition of an SDI flow's bit holds on any flow; bit 28 is an IP flow's FORMAT_MISMATCH. -/
def State.anyFlow (s : State) (n : Nat) : Bool :=
  (s.bindings 0x4000).any fun e => (bindKind e.2 == 1 && s.flag 0x4300 e.1 n) || (bindKind e.2 == 2 && n == 29 && s.flag 0x4300 e.1 28)

/-- A NOTE condition that no flow is in any more is not ACTIVE (R553). -/
def settleNote (s : State) (e : Nat × Nat) : State := if s.anyFlow e.1 then s else clearActive s e.2

/-- A loss of flow lock (R139, R158). -/
def unlockFlow (s : State) (j : Nat) : State :=
  if s.flag 0x4300 j 31 then
    let s := s.putField 0x4300 j 31 25 0
    let s := s.count 0x4300 (0x2000 + j)
    let s := [(29, 0x061), (28, 0x062), (26, 0x063), (25, 0x064)].foldl settleNote s
    loseInput (declareFault (s.setIn j { s.in_ j with links := [], clean := 0 }) 0x060 j true false (s.srcPlane j)) j
  else s

/-- A flow locks when all its links are in TRS lock and R138 finds no link fault (R139). -/
def lockFlow (s : State) (j : Nat) : State :=
  let w := s.inBind j
  if !s.flag 0x4300 j 31 && !s.flag 0x4300 j 28 && (bindLanes w).all (fun l => s.laneReady l && s.delivers l) then
    let s := (s.putFlag 0x4300 j 31 true).setIn j { s.in_ j with frame := none, whole := false, clean := 0 }
    if (s.bindings 0x4000).any (fun e => bindKind e.2 == 1 && !s.flag 0x4300 e.1 31) then s else clearActive s 0x060
  else s

def trsLock (s : State) (l : Nat) : State :=
  if s.protocol l = protoSdi ∧ s.delivers l = true ∧ s.laneReady l = false then
    (s.flowsOn l).foldl lockFlow (s.putFlag 0x3200 l 29 true)
  else s

def execTrsLock (l : Nat) (s : State) : Host.Outcome State Fault Refusal := onUnit l 192 s fun s => trsLock s l

def trsLockLost (s : State) (l : Nat) : State :=
  if s.protocol l = protoSdi ∧ s.laneReady l = true then (s.flowsOn l).foldl unlockFlow (s.putFlag 0x3200 l 29 false) else s

def execTrsLockLost (l : Nat) (s : State) : Host.Outcome State Fault Refusal := onUnit l 192 s fun s => trsLockLost s l

/-- A rate comes in on an SDI receiver (R105). A fixed code locks only to its own; a rate that the quad does not serve
delivers nothing, so its flows lose lock. -/
def sdiRate (s : State) (l code : Nat) : State :=
  if s.protocol l = protoSdi ∧ s.rxOn l ∧ !s.laneLos l ∧ 1 ≤ code ∧ code ≤ 9 then
    let s := judgeRate (s.setLane l { s.lane l with incoming := code }) l
    if s.flag 0x3200 l 22 || s.otherRate l then trsLockLost s l else s
  else s

def execSdiRateDetected (l code : Nat) (s : State) : Host.Outcome State Fault Refusal :=
  onUnit l 192 s fun s => sdiRate s l code

/-- A format mismatch (R140, R158): input loss, with a NOTE when it begins. -/
def mismatch (s : State) (j bitNo : Nat) : State :=
  let was := s.flag 0x4300 j bitNo
  let s := (s.putFlag 0x4300 j bitNo true).setIn j { s.in_ j with clean := 0 }
  loseInput (if was then s else declareFault s 0x061 j true false (s.srcPlane j)) j

/-- A frame or packet that does not fit the declared format (R140, R175, R181). On an IP input that is not locked it is judged
only from the first complete frame on (R195). -/
def badFormat (s : State) (j : Nat) : State :=
  if bindKind (s.inBind j) != 2 then mismatch s j 29
  else if s.flag 0x4300 j 31 then mismatch s j 28
  else s.setIn j { s.in_ j with badFrame := true, clean := 0 }

/-- The MAP a binding expects, as DET_MAP (R142). -/
def detMap (w : Word) : Nat := if bits w 23 22 = 0 then 0 else if bits w 23 22 = 1 then 1 else 2

/-- The period of the 48 kHz grid that runs now (R53). -/
def State.gridNow (s : State) : Int := ((s.now - (s.plane 0).origin) / samplePeriod).floor

/-- A sample of a source for AIN slot `ain`: into its bridge, or to be presented in period `k` (R184, R293, R297). -/
def giveSample (s : State) (viaC : Bool) (ain : Nat) (k : Int) (v : Nat) : State :=
  if viaC then
    { s with
      bridgeIn := mapMod natsD s.bridgeIn ain fun q => (q ++ [v % 2 ^ 24]).drop (q.length + 1 - 4608)
      bridges := s.bridges.map fun (e : Nat × Bridge) =>
        if e.1 < 0x1000 ∧ e.2.base ≤ ain ∧ ain < e.2.base + e.2.slots then (e.1, { e.2 with lastAt := s.up }) else e }
  else { s with ainIn := mapMod ainInD s.ainIn ain fun q => q ++ [(k, v % 2 ^ 24)] }

/-- How many of groups 1 to 8 a mask of groups holds. -/
def groupCount (m : Nat) : Nat := sumNat ((List.range 8).map fun i => ofBool (bit m (i + 1)))

/-- The grid index of a group's next sample, on the grid of its rate of `step` samples a period (R151): the one its position
in the video gives, one sample period on. A sample next to the last one keeps the order of the grid. -/
def nextIndex (s : State) (j group step : Nat) (t : Rat) : Int :=
  let here := ((t - (s.plane 0).origin) / samplePeriod * (step : Nat)).floor + (step : Nat)
  match (s.in_ j).lastIndex.find? (fun e => e.1 == group) with
  | some e => if here - e.2 ≤ 2 ∧ e.2 - here ≤ 1 then e.2 + 1 else here
  | none => here

/-- One embedded sample of a group, its four channels (R147, R151). -/
def takeGroupSample (s : State) (j : Nat) (viaC : Bool) (e : Word) (group : Nat) (t : Rat) (chs : List Nat) : State :=
  let step := if embedB e then 2 else 1
  let q := nextIndex s j group step t
  let x := s.in_ j
  let s := s.setIn j { x with lastIndex := (x.lastIndex.filter fun e => e.1 != group) ++ [(group, q)] }
  (chs.zipIdx).foldl (fun s (v, c) =>
    giveSample s viaC (embedBase e + step * (4 * (group - 1) + c) + (if step = 2 && !viaC then (q % 2).toNat else 0))
      (q / (step : Nat)) v) s

/-- Embedded audio of a line that starts at device time `t` (R147, R148, R151). A group marked asynchronous with ASYNC = 0 is
muted, with a NOTE. An SD sample takes its lowest four bits from the extended data only with SD24. -/
def takeAudio (s : State) (j : Nat) (t : Rat) (groups : List AudioGroup) : State :=
  let e := s.elem 0x4000 (0x800 + j)
  let sdi := bindKind (s.inBind j) == 1
  let viaC := embedAsync e || s.synced j
  let short := decide ((s.srcFmt j).form ≤ 1) && !bit e 9
  groups.foldl (fun s g =>
    let x := s.in_ j
    let s := s.setIn j { x with
      groups := setBit x.groups g.group true, present := setBit x.present g.group true
      asyncs := if g.async then setBit x.asyncs g.group true else x.asyncs
      asyncNow := setBit x.asyncNow g.group g.async }
    let s := if sdi then s.putField 0x4300 j 10 7 (max (s.field 0x4300 j 10 7) (groupCount (s.in_ j).groups)) else s
    if g.group = 0 ∨ embedGroups e < g.group then s
    else if g.async && !embedAsync e then
      if !sdi || s.flag 0x4300 j 25 then s
      else declareFault (s.putFlag 0x4300 j 25 true) 0x064 j true false (s.srcPlane j)
    else
      (g.samples.zipIdx).foldl (fun s (chs, i) =>
        takeGroupSample s j viaC e g.group (t + (g.phases.getD i 0 : Nat))
          (if short then chs.map fun v => v / 16 * 16 else chs)) s) s

/-- A quad link's sub-image placed in the whole picture (R134, R135): the active line and the spans known so far; the
line when it is whole. Square division joins left and right; two-sample interleave joins pairs of pixels. -/
def joinPairs : List Nat → List Nat → List Nat
  | a :: b :: c :: d :: l, e :: f :: g :: h :: m => a :: b :: c :: d :: e :: f :: g :: h :: joinPairs l m
  | l, m => l ++ m

/-- What a flow knows of one of its lanes. -/
def InFlow.linkIn (x : InFlow) (l : Nat) : LinkIn := (x.links.find? fun k => k.lane == l).getD { lane := l }
def InFlow.setLink (x : InFlow) (k : LinkIn) : InFlow :=
  { x with links := (x.links.filter fun y => y.lane != k.lane) ++ [k] }

/-- The link a lane's line belongs to (R138): by the payload ID of its last frame, else by lane order. -/
def linkOf (x : InFlow) (l place : Nat) : Nat := ((x.linkIn l).link).getD (place + 1)

/-- A line noted for its lane (R138, R140): the payload ID it carries holds from the lane's next frame on, and one that has
not come for two frames no longer. -/
def noteLink (x : InFlow) (l : Nat) (ln : SdiLine) : InFlow :=
  let k := { x.linkIn l with kind := ln.form * 16 + ln.rate, skew := ln.skew }
  let k := if ln.num = 1 then
      match k.seen with
      | some p => { k with link := some (p.1 % 8), meta_ := p.2, age := 0, seen := none, fresh := true, frames := k.frames + 1 }
      | none =>
        { k with age := k.age + 1, link := if k.age < 1 then k.link else none, fresh := true, frames := k.frames + 1 }
    else k
  x.setLink (match ln.pid with
    | some p => { k with seen := some p }
    | none => k)

/-- The links of a quad input judged (R138), once each lane has brought its line 1 and had a frame to bring its payload ID:
a fault where a link number stands twice, a delay passes 10 µs, or a format differs from link 1's. -/
def linksBad (x : InFlow) (lanes : List Nat) : Bool :=
  let links := lanes.zipIdx.map fun (a, i) => linkOf x a i
  let one := (lanes.zipIdx.find? fun (a, i) => linkOf x a i == 1).map fun e => (x.linkIn e.1).kind
  !links.Nodup || lanes.any fun a => decide (10000 < (x.linkIn a).skew) || some (x.linkIn a).kind != one

/-- A quad input's links judged (R138, R139, R158): a fault ends the lock, and wiring put right gives it back.
LINK_ORDER_FIX stands until the lock is lost or the flow bound again. -/
def judgeLinks (s : State) (j : Nat) (lanes : List Nat) : State :=
  let x := s.in_ j
  if lanes.length ≠ 4 ∨ !(lanes.all fun a => (x.linkIn a).fresh && decide (2 ≤ (x.linkIn a).frames)) then s
  else
    let s := s.setIn j { x with links := x.links.map fun k => { k with fresh := false } }
    if linksBad x lanes then
      if s.flag 0x4300 j 28 then s
      else
        let s := (unlockFlow s j).setIn j { (unlockFlow s j).in_ j with links := (s.in_ j).links }
        declareFault (s.putFlag 0x4300 j 28 true) 0x062 j true false (s.srcPlane j)
    else
      let s := if s.flag 0x4300 j 28 then lockFlow (settleNote (s.putFlag 0x4300 j 28 false) (28, 0x062)) j else s
      if (lanes.zipIdx.map fun (a, i) => linkOf x a i) != [1, 2, 3, 4] then s.putFlag 0x4300 j 27 true else s

/-- Frame start checks of a link-1 line 1 (R140, R142, R147): format, payload ID, metadata, the frame's arrival: line 1 of link 1
came at `t`, and on a quad link it is that of the latest link. Sampling 7 is unknown, and no mismatch. The detected fields and flags stand in the SDI
status only. -/
def frameStart (s : State) (j : Nat) (lanes : List Nat) (t : Rat) (ln : SdiLine) : State :=
  let w := s.inBind j
  let sdi := bindKind w == 1
  let x := s.in_ j
  let f := s.srcFmt j
  let ks := lanes.map x.linkIn
  let bad := f.form != ln.form || f.rate != ln.rate || (ln.samp != 7 && f.samp != ln.samp) ||
    (sdi && (detMap w != ln.map || (bit w 20 && ks.any fun k => decide (2 ≤ k.age) && x.frame.isSome)))
  let s := if sdi then
      let s := s.put 0x4300 j (setBits (setBits (setBits (setBits (s.elem 0x4300 j) 23 20 ln.form) 19 16 ln.rate) 15 14 ln.map)
        13 11 ln.samp)
      let missing := ((List.range (embedGroups (s.elem 0x4000 (0x800 + j)))).any fun i => !bit x.groups (i + 1)) && x.frame.isSome
      let s := if missing && !s.flag 0x4300 j 26 then
          declareFault (s.putFlag 0x4300 j 26 true) 0x063 j true false (s.srcPlane j)
        else if missing || !s.flag 0x4300 j 26 then s
        else
          settleNote (s.putFlag 0x4300 j 26 false) (26, 0x063)
      let s := if s.flag 0x4300 j 25 && x.asyncs == 0 then
          settleNote (s.putFlag 0x4300 j 25 false) (25, 0x064)
        else s
      (s.putField 0x4300 j 10 7 (groupCount x.groups)).putFlag 0x4300 j 30 (ks.all fun k => k.link.isSome)
    else s
  let md := match (lanes.zipIdx.find? fun (a, i) => linkOf x a i == 1).map fun e => x.linkIn e.1 with
    | some k => if k.link.isSome then k.meta_ % 512 else s.field 0x4100 j 20 12
    | none => s.field 0x4100 j 20 12
  let late := ks.foldl (fun m k => max m k.skew) 0
  let s := beginFrame (s.setIn j { s.in_ j with
    meta_ := some md, groups := 0, asyncs := 0, present := x.groups, asyncNow := x.asyncs }) j (t + (late : Nat))
  if bad then badFormat s j else s.setIn j { s.in_ j with clean := (s.in_ j).clean + 1 }

/-- A line's place in a quad picture (R134, R138): the two halves of a picture line are joined within the deskew of 10 µs. -/
def joinQuad (s : State) (j : Nat) (w : Word) (link : Nat) (f : Fmt) (ln : SdiLine) : State :=
  let sub := formActive f.form / 2
  let subStart := if f.form = 6 then 42 else 83
  if ln.num < subStart ∨ subStart + sub ≤ ln.num then s
  else
    let i := ln.num - subStart
    let left := link % 2 == 1
    let line := if bit w 21 then rasterOf f.form (if link ≤ 2 then i else i + sub)
      else rasterOf f.form (2 * i + (if link ≤ 2 then 0 else 1))
    let x := s.in_ j
    let rest := x.openLines.filter fun o => o.line != line
    match x.openLines.find? (fun o => o.line == line && decide (s.up - o.cameAt ≤ 10000)) with
    | some o =>
      let other := (o.spans.head?.map Prod.snd).getD []
      let (a, b) := if left then (ln.picture, other) else (other, ln.picture)
      takeNow (s.setIn j { x with openLines := rest }) j line (if bit w 21 then a ++ b else joinPairs a b)
    | none =>
      s.setIn j { x with openLines := rest ++
        [{ line := line, frame := x.frame.getD 0, count := 0, spans := [(0, ln.picture)], cameAt := s.up }] }

/-- When a line of the frame that arrives began, by its place in the raster (R151). -/
def State.lineAt (s : State) (j num : Nat) : Rat :=
  (s.in_ j).arrival + ((num - 1 : Nat) : Rat) * (s.srcFmt j).linePeriod

/-- One SDI line taken by flow `j` (R138-R148); `t` is when its frame came where it is line 1. A flow that a link fault keeps
out of lock only judges its links. -/
def takeSdi (s : State) (j : Nat) (lanes : List Nat) (l : Nat) (t : Rat) (ln : SdiLine) : State :=
  let w := s.inBind j
  let place := l - lanes.headD 0
  let s := judgeLinks (s.setIn j (noteLink (s.in_ j) l ln)) j lanes
  if s.flag 0x4300 j 28 && lanes.length == 4 then s
  else
    let s := if ln.crcError then s.count 0x4300 (0x1000 + j) else s
    let s := if ln.lineError then s.count 0x4300 (0x1800 + j) else s
    let s := if ln.xyzFixed then s.count 0x4300 (0x1800 + j) else s
    let s := if ln.edh = some true then s.count 0x4300 (0x2800 + j) else s
    let s := if ln.crcError || ln.edh == some true then s.setIn j { s.in_ j with crcAt := some s.up } else s
    let link := linkOf (s.in_ j) l place
    let s := if ln.num = 1 ∧ link = 1 then frameStart s j lanes t ln else s
    let f := s.srcFmt j
    let anc := if lanes.length = 4 then ln.anc.map fun p => ({ p.1 with stream := link - 1 }, p.2) else ln.anc
    let s := takeAnc s j (if lanes.length = 4 then 0 else fieldOf f.form ln.num) anc
    let s := if link = 1 then takeAudio s j (s.lineAt j ln.num) ln.groups else s
    if lanes.length = 1 then
      if isActive f.form ln.num then takeNow s j ln.num ln.picture else s
    else joinQuad s j w link f ln

/-- A line that arrives on an SDI lane: each flow bound to the lane takes its own stream's lines (R137, R143). -/
def sdiLine (s : State) (l : Nat) (ln : SdiLine) : State :=
  let s := if s.field 0x3400 l 26 24 = 2 then s.emit (.farLine l ln) else s
  if !(s.hears l && s.laneReady l) || s.protocol l != protoSdi then s
  else ((s.flowsOn l).filter fun j => (bits (s.inBind j) 23 22 == 3) == (ln.stream == 2)).foldl
    (fun s j => takeSdi s j (bindLanes (s.inBind j)) l s.now ln) s

def execSdiLineReceived (l : Nat) (ln : SdiLine) (s : State) : Host.Outcome State Fault Refusal :=
  onUnit l 192 s fun s => sdiLine s l ln

/-- FORMAT_MISMATCH of a flow: bit 29 on SDI, bit 28 on IP (R142, R193). -/
def State.mismatchBit (s : State) (j : Nat) : Nat := if bindKind (s.inBind j) = 2 then 28 else 29

/-- A format mismatch ends at the first frame start after two whole frames without one (R140, R195). -/
def execFormatMismatchClear (j : Nat) (s : State) : Host.Outcome State Fault Refusal :=
  onUnit j 2048 s fun s =>
    if s.flag 0x4300 j (s.mismatchBit j) && decide (3 ≤ (s.in_ j).clean) &&
        decide (s.now < (s.in_ j).beganAt + (s.srcFmt j).linePeriod) then
      let s := s.putFlag 0x4300 j (s.mismatchBit j) false
      if (s.bindings 0x4000).any (fun e => s.flag 0x4300 e.1 (s.mismatchBit e.1)) then s else clearActive s 0x061
    else s

/-! Mistiming and promotion (R225, R226). -/

/-- Whether a timed input is outside its window now (R225): its last frame arrived outside, or the next frame's window has
ended with nothing received. -/
def State.outside (s : State) (j : Nat) : Bool :=
  let x := s.in_ j
  let f := (s.srcFmt j).period
  match x.frame with
  | none => false
  | some _ =>
    decide (x.good = 0) ||
      (decide (0 < f) && decide (s.srcStart j ((s.arrivalDiff j x.arrival).1 + 1) - pipeline < s.now))

/-- An input that becomes MISTIMED (R225). -/
def misTime (s : State) (j : Nat) : State :=
  let s := (setInState s j 5).putFlag 0x4300 (0x4000 + j) 26 true
  declareFault (s.setIn j { s.in_ j with good := 0, triedAt := none, missAt := s.now }) 0x081 j true false (s.srcPlane j)

def execInputMistimed (j : Nat) (s : State) : Host.Outcome State Fault Refusal :=
  onUnit j 2048 s fun s =>
    if s.inState j = 1 ∧ s.synced j = false ∧ bindKind (s.inBind j) ≠ 3 ∧ s.outside j = true ∧ s.mirrored = false then
      mirror (misTime s j) 4 j 0
    else s

/-- The frame start after two successive frames within the window (R225): the third frame begins, within it too. -/
def State.recovers (s : State) (j : Nat) : Bool :=
  s.inState j == 5 && decide (3 ≤ (s.in_ j).good) && s.atFrameStart j

def execMistimedRecovery (j : Nat) (s : State) : Host.Outcome State Fault Refusal :=
  onUnit j 2048 s fun s =>
    if s.recovers j then
      let s := (setInState s j 1).putFlag 0x4300 (0x4000 + j) 26 false
      if (s.bindings 0x4000).any (fun e => s.inState e.1 == 5) then s else clearActive s 0x081
    else s

/-- Whether an input may become synchronised (R226): a window, the synchronised aggregate and bridge slots are there, and every
reader's latency budget holds with it. -/
def State.syncFits (s : State) (j : Nat) : Bool :=
  let t := s.put 0x4200 j (setBit (s.elem 0x4200 j) 31 true)
  t.budgetCodes.isEmpty && decide (t.poolUsed ≤ poolBlocks) && !(t.routeCodesOf (t.readersOf j)).contains 0x0D &&
    !s.moves.any (fun m => m.index == 0x4200 && m.sub == j)

/-- Promotion (R226): tried at a frame start, and again once a second; the readers then have fill until the reader delivers. -/
def promote (s : State) (j : Nat) : State :=
  let w := setBit (s.elem 0x4200 j) 31 true
  let due := match (s.in_ j).triedAt with
    | none => true
    | some a => decide (a + 1000000000 ≤ s.up)
  if s.inState j = 5 ∧ s.flag 0x4200 j 30 = true ∧ due = true ∧ s.atFrameStart j = true ∧ (s.in_ j).missAt < (s.in_ j).beganAt then
    if s.syncFits j then
      let s := logEvent s 0x4200 j (logValue 4 (s.elem 0x4200 j)) (logValue 4 w) (s.srcPlane j) true
      let s := (s.put 0x4200 j w).setIn j { s.in_ j with
        win := [{ count := 0, arrival := (s.in_ j).arrival, meta_ := (s.in_ j).meta_.getD 0 }], nextCount := 1, slot := none
        reading := none, lostAt := none }
      let s := ((setInState s j 1).putFlag 0x4300 (0x4000 + j) 26 false).putFlag 0x4300 (0x4000 + j) 27 true
      s.put 0x5510 j (2 ^ 31 + s.field 0x4200 j 29 29 * 2 ^ 30)
    else declareFault (s.setIn j { s.in_ j with triedAt := some s.up }) 0x082 j false false (s.srcPlane j)
  else s

def execAutoSyncPromotion (j : Nat) (s : State) : Host.Outcome State Fault Refusal :=
  onUnit j 2048 s fun s => if (s.in_ j).triedAt = none then promote s j else s

def execPromotionRetry (j : Nat) (s : State) : Host.Outcome State Fault Refusal :=
  onUnit j 2048 s fun s => if (s.in_ j).triedAt = none then s else promote s j

/-- FS_SLOT_SELECT (R276): a standby in step takes the choice the active sent (R277, R426). -/
def execFsSlotSelect (j : Nat) (s : State) : Host.Outcome State Fault Refusal :=
  onUnit j 2048 s fun s =>
    if s.synced j && bindKind (s.inBind j) != 3 && !s.flag 0x4300 j (s.mismatchBit j) && !s.mirrored then
      let t := slotSelect s j none
      if (t.in_ j).slot = (s.in_ j).slot then t
      else mirror t 5 j (match (t.in_ j).reading with
        | some k => k + 1
        | none => 0)
    else s

end Sys2Proof.Machine
end

