-- ==== Sys2Proof/Machine/Network.lean ====
section
/-! DEFINITION. Ethernet ports (R159-R172): port identity, ARP, IGMP, and the checks and effects of writes to the receive
and send flow tables. -/

namespace Sys2Proof.Machine

/-! Frames of the port's own (R163, R164). -/

/-- Whether a port sends and answers: IPV4_EN, and its link up. -/
def State.portLive (s : State) (l : Nat) : Bool := s.ipv4On l && s.linkUp l

/-- An ARP message of RFC 826: operation 1 request, 2 reply. -/
def arpBytes (oper sha spa tha tpa : Nat) : List Byte :=
  toBytes 8 (0x0001080006040000 + oper) ++ toBytes 6 sha ++ toBytes 4 spa ++ toBytes 6 tha ++ toBytes 4 tpa

def sendArp (s : State) (l dst oper spa tha tpa : Nat) : State :=
  if s.portLive l then s.emit (.ethernet l dst (portMac l) (s.portVlan l) 0x0806 (arpBytes oper (portMac l) spa tha tpa)) else s

/-- A gratuitous ARP for MEDIA_IP where it differs from the host address (R163). A DESIGN CHOICE: it is a request (operation
1), of which R163 says nothing. -/
def gratuitousArp (s : State) (l : Nat) : State :=
  if s.ipv4On l && s.mediaIp l != s.hostIp l then sendArp s l 0xFFFFFFFFFFFF 1 (s.mediaIp l) 0 (s.mediaIp l) else s

/-- The ports that claiming sends a gratuitous ARP on (R163). -/
def claimArps (s : State) : State :=
  ((List.range 192).filter fun l => s.ethLeader l).foldl gratuitousArp s

/-- The ARP request for a next hop. -/
def askArp (s : State) (a : Arp) : State := sendArp s a.lane 0xFFFFFFFFFFFF 1 (s.hostIp a.lane) 0 a.ip

def putArp (s : State) (a : Arp) : State :=
  { s with arp := s.arp.map fun b => if b.lane = a.lane ∧ b.ip = a.ip then a else b }

/-- Whether a send entry's next hop is unresolved (R163): ARP_PENDING. -/
def State.arpPending (s : State) (w : Word) : Bool :=
  entryOn w && !isMulticast (entryDest w) &&
    (match s.nextHop (entryLane w) (entryDest w) with
     | none => true
     | some h => !s.arp.any fun a => a.lane == entryLane w && a.ip == h && a.mac.isSome)

/-- An entry's next hop becomes unresolved (R163, R195): a NOTE with the entry's number, on its flow's plane. -/
def pendHop (s : State) (e : Nat × Word) : State :=
  declareFault s 0x068 e.1 true false (if isAudioKind (entryKind e.2) then 0 else s.outPlane (entryTarget e.2))

/-- The NOTE of R163 is ACTIVE while any entry is pending. -/
def judgeArp (s : State) : State :=
  if s.txEntries.any fun e => s.arpPending e.2 then s else clearActive s 0x068

/-- The cache holds the next hops of the enabled entries: a new one is asked for at once, and each entry that became
pending is told (R163). -/
def syncArp (s : State) (before : State) : State :=
  let hops := s.nextHops
  let kept := s.arp.filter fun a => hops.contains (a.lane, a.ip)
  let new := (hops.filter fun h => !kept.any fun a => a.lane == h.1 && a.ip == h.2).map fun h =>
    ({ lane := h.1, ip := h.2, asked := some s.up } : Arp)
  let s := new.foldl askArp { s with arp := kept ++ new }
  judgeArp ((s.txEntries.filter fun e => s.arpPending e.2 && !before.arpPending (before.txEntry e.1)).foldl pendHop s)

/-! Acceptance (R161). -/

/-- Whether a PTP instance is bound to a port (R83). -/
def State.ptpBound (s : State) (l : Nat) : Bool := (List.range 2).any fun i => s.field 0x2100 (6 + i) 7 0 == l

/-- Whether a frame's VLAN and length are what a port accepts (R161). -/
def State.tagOk (s : State) (l vlan length : Nat) : Bool :=
  decide (64 ≤ length) && decide (length ≤ if vlan = 0 then 1518 else 1522) &&
    (vlan == 0 || (s.portVlan l != 0 && vlan == s.portVlan l % 4096) ||
      s.rxEntries.any (fun e => entryLane e.2 == l && rxVid e.2 == vlan) ||
      s.txEntries.any fun e => entryLane e.2 == l && txVid e.2 == vlan)

/-- Whether a MAC address is that of an enabled entry's group (R161). -/
def State.groupHeard (s : State) (l mac : Nat) : Bool :=
  s.rxEntries.any fun e => entryLane e.2 == l && isMulticast (entryDest e.2) && groupMac (entryDest e.2) == mac

/-- Media and PTP packets: unicast, the groups of enabled entries, and 224.0.1.129 while a PTP instance is bound (R161). -/
def State.ipOk (s : State) (l : Nat) (f : FrameIn) : Bool :=
  (f.mac == portMac l || s.groupHeard l f.mac || (f.mac == groupMac 0xE0000181 && s.ptpBound l)) && s.tagOk l f.vlan f.length

/-- What a port accepts that carries ARP: unicast or broadcast; IGMP: unicast, the groups of enabled entries, 224.0.0.1 and
224.0.0.22 (R161). -/
def State.arpOk (s : State) (l : Nat) (f : FrameIn) : Bool :=
  (f.mac == portMac l || f.mac == 0xFFFFFFFFFFFF) && s.tagOk l f.vlan f.length
def State.igmpOk (s : State) (l : Nat) (f : FrameIn) : Bool :=
  (f.mac == portMac l || f.mac == groupMac 0xE0000001 || f.mac == groupMac 0xE0000016 || s.groupHeard l f.mac) &&
    s.tagOk l f.vlan f.length

/-- A frame that a port does not accept (R161). -/
def rejectFrame (s : State) (l : Nat) : State := s.count 0x3500 (0x600 + l)

def arpFrame (s : State) (l : Nat) (f : FrameIn) (req : Bool) (target sender mac : Nat) : State :=
  if !s.linkUp l || !s.groupHears l then s
  else if !s.arpOk l f then rejectFrame s l
  else if !s.ipv4On l then s
  else if req then
    if target = s.hostIp l ∨ (target = s.mediaIp l ∧ s.drives = true) then sendArp s l mac 2 target mac sender else s
  else match s.arp.find? (fun a => a.lane == l && a.ip == sender) with
    | some a => judgeArp (putArp s { a with mac := some mac, misses := 0, asked := some s.up })
    | none => s

def execArpFrameReceived (f : LaneFrame) (req : Bool) (target sender mac : Nat) (s : State) :
    Host.Outcome State Fault Refusal :=
  onUnit f.lane 192 s fun s => arpFrame s f.lane f.frame req target sender mac

/-- An unresolved next hop is asked for again after 1 s (R163). -/
def arpRetry (s : State) (l ip : Nat) : State :=
  match s.arp.find? (fun a => a.lane == l && a.ip == ip) with
  | some a =>
    let due := match a.asked with
      | some t => decide (t + 1000000000 ≤ s.up)
      | none => true
    if a.mac = none ∧ due = true then
      let a := { a with asked := some s.up }
      askArp (putArp s a) a
    else s
  | none => s

def execArpResolveRetry (l ip : Nat) (s : State) : Host.Outcome State Fault Refusal := onUnit l 192 s fun s => arpRetry s l ip

/-- A resolved next hop is asked for again every 60 s; after three refreshes without an answer it is unresolved (R163). -/
def arpRefresh (s : State) (l ip : Nat) : State :=
  match s.arp.find? (fun a => a.lane == l && a.ip == ip) with
  | some a =>
    let due := match a.asked with
      | some t => decide (t + 60000000000 ≤ s.up)
      | none => true
    if a.mac.isSome ∧ due = true then
      if a.misses < 3 then
        let a := { a with asked := some s.up, misses := a.misses + 1 }
        askArp (putArp s a) a
      else
        let a := { a with asked := some s.up, mac := none, misses := 0 }
        let s := (s.txEntries.filter fun e => entryLane e.2 == l && !isMulticast (entryDest e.2) &&
          s.nextHop l (entryDest e.2) == some ip).foldl pendHop (putArp s a)
        askArp s a
    else s
  | none => s

def execArpRefresh (l ip : Nat) (s : State) : Host.Outcome State Fault Refusal := onUnit l 192 s fun s => arpRefresh s l ip

/-! IGMP (R164). -/

/-- A group's membership: sources of an INCLUDE; an empty list is EXCLUDE of the empty set. -/
abbrev Member := Nat × List Nat

/-- The membership of a port and VLAN (R164): entries of one destination merge their sources, and one without a source
makes the group EXCLUDE. -/
def State.membership (s : State) (l vlan : Nat) : List Member :=
  let es := s.rxEntries.filter fun e => entryLane e.2 == l && isMulticast (entryDest e.2) && rxVid e.2 == vlan
  ((es.map fun e => entryDest e.2).eraseDups).map fun g =>
    let srcs := (es.filter fun e => entryDest e.2 == g).map fun e => rxSource e.2
    (g, if srcs.contains 0 then [] else srcs.eraseDups)

/-- The RFC 1071 checksum of 16-bit words. -/
def ipChecksum (b : List Byte) : Nat :=
  let rec sum : List Byte → Nat
    | x :: y :: l => x.toNat * 256 + y.toNat + sum l
    | [x] => x.toNat * 256
    | [] => 0
  let n := sum b
  let n := n % 65536 + n / 65536
  65535 - (n % 65536 + n / 65536) % 65536

/-- The IPv4 header of an IGMP message (R164): TTL 1, Router Alert, the host address as source. Type of service 0xC0 is
RFC 3376's; the identification is a free value. -/
def igmpHeader (src dst len ident : Nat) : List Byte :=
  let h (c : Nat) : List Byte :=
    toBytes 4 (0x46C00000 + (24 + len)) ++ toBytes 4 (ident * 65536) ++ toBytes 4 (0x01020000 + c) ++ toBytes 4 src ++
      toBytes 4 dst ++ toBytes 4 0x94040000
  h (ipChecksum (h 0))

/-- The 802.1Q tag of IGMP in the VLAN of an entry (R160, R164): that VLAN, with the port's PCP; the port's own tag for untagged
entries. A DESIGN CHOICE: R160 tags the port's frames and R164 keeps a membership in each VLAN. -/
def State.igmpTag (s : State) (l vlan : Nat) : Nat :=
  if vlan = 0 then s.portVlan l else s.portVlan l / 4096 * 4096 + vlan

def sendIgmp (s : State) (l vlan dst : Nat) (msg : List Byte) : State :=
  let c := ipChecksum msg
  let msg := msg.take 2 ++ toBytes 2 c ++ msg.drop 4
  (s.emit (.ethernet l (groupMac dst) (portMac l) (s.igmpTag l vlan) 0x0800 (igmpHeader (s.hostIp l) dst msg.length (s.drawn 16) ++ msg))).draw

/-- Sources in runs of at most 365, as many as one report holds (R164): with the record's 8 bytes and the report's 8, 1,500
bytes of IPv4 packet. -/
def sourceRuns : Nat → List Nat → List (List Nat)
  | 0, _ => []
  | fuel + 1, l => if l.length ≤ 365 then [l] else l.take 365 :: sourceRuns fuel (l.drop 365)

/-- The group records of RFC 3376 for one membership: one of more sources than a report holds is split. -/
def groupRecords (typ : Nat) (m : Member) : List (List Byte) :=
  (sourceRuns (m.2.length + 1) m.2).map fun srcs =>
    toBytes 4 (typ * 2 ^ 24 + srcs.length) ++ toBytes 4 m.1 ++ srcs.flatMap (toBytes 4)

/-- Records in reports of at most 1,500 bytes of IPv4 packet (R164): 1,468 bytes of records each. -/
def splitRecords : List (List Byte) → List (List (List Byte))
  | [] => []
  | r :: l => match splitRecords l with
    | [] => [[r]]
    | p :: ps => if r.length + (p.map List.length).foldl (· + ·) 0 ≤ 1468 then (r :: p) :: ps else [r] :: p :: ps

def sendReports (s : State) (l vlan : Nat) (records : List (List Byte)) : State :=
  (splitRecords records).foldl (fun s p =>
    sendIgmp s l vlan 0xE0000016 (toBytes 8 (0x2200000000000000 + p.length) ++ p.flatten)) s

def State.igmpOf (s : State) (l vlan : Nat) : Igmp :=
  (s.igmp.find? fun g => g.lane == l && g.vlan == vlan).getD { lane := l, vlan := vlan }
def putIgmp (s : State) (g : Igmp) : State :=
  { s with igmp := (s.igmp.filter fun x => !(x.lane == g.lane && x.vlan == g.vlan)) ++ [g] }

/-- The compatibility mode of RFC 3376: version 1 while an IGMPv1 querier counts as present, else 2 while an IGMPv2 one does. -/
def Igmp.compat (g : Igmp) : Nat := if g.v1Until.isSome then 1 else if g.v2Until.isSome then 2 else 3

/-- The version a port speaks on a VLAN (R164). -/
def State.igmpVersion (s : State) (l vlan : Nat) : Nat :=
  if s.igmpMode l = 1 then 2 else (s.igmpOf l vlan).compat

/-- A version 1 or 2 report or leave (R164). -/
def sendOldReport (version l vlan : Nat) (leave : Bool) (s : State) (g : Nat) : State :=
  if leave then (if version = 1 then s else sendIgmp s l vlan 0xE0000002 (toBytes 4 0x17000000 ++ toBytes 4 g))
  else sendIgmp s l vlan g (toBytes 4 (if version = 1 then 0x12000000 else 0x16000000) ++ toBytes 4 g)

/-- The groups `gs` reported as they stand (R164): `change` chooses state-change records. -/
def reportGroups (s : State) (l vlan : Nat) (gs : List Nat) (change : Bool) : State :=
  if !s.portLive l || s.igmpMode l == 2 then s
  else
    let ms := s.membership l vlan
    let s := if s.igmpVersion l vlan < 3 then
        gs.foldl (fun s g => sendOldReport (s.igmpVersion l vlan) l vlan (!ms.any fun m => m.1 == g) s g) s
      else sendReports s l vlan (gs.flatMap fun g =>
        match ms.find? (fun m => m.1 == g) with
        | some m => groupRecords ((if m.2.isEmpty then 2 else 1) + (if change then 2 else 0)) m
        | none => groupRecords 3 (g, []))
    let x := s.igmpOf l vlan
    putIgmp s { x with reported := ms.map Prod.fst }

/-- The VLANs that hold, or held, a membership on any port. -/
def State.igmpPlaces (s : State) : List (Nat × Nat) :=
  (s.rxEntries.filter fun e => isMulticast (entryDest e.2)).map fun e => (entryLane e.2, rxVid e.2)

/-- The state-change reports that a commit causes, the first at once (R164). -/
def syncIgmp (s : State) (before : State) : State :=
  ((s.igmpPlaces ++ before.igmpPlaces).eraseDups).foldl (fun s (l, vlan) =>
    let old := before.membership l vlan
    let new := s.membership l vlan
    let gs := ((old ++ new).map Prod.fst).eraseDups.filter fun g =>
      old.find? (fun m => m.1 == g) != new.find? (fun m => m.1 == g)
    if gs.isEmpty then s
    else
      let x := s.igmpOf l vlan
      let s := putIgmp s { x with changed := (x.changed ++ gs).eraseDups, left := 1, lastAt := some s.up }
      reportGroups s l vlan gs true) s

def igmpStateChange (s : State) (l vlan : Nat) : State :=
  let x := s.igmpOf l vlan
  match x.lastAt with
  | some t =>
    if 0 < x.left ∧ t + 1000000000 ≤ s.up then
      reportGroups (putIgmp s { x with left := 0, changed := [], lastAt := some s.up }) l vlan x.changed true
    else s
  | none => s

def execIgmpStateChangeReport (l vlan : Nat) (s : State) : Host.Outcome State Fault Refusal :=
  onUnit l 192 s fun s => igmpStateChange s l vlan

/-- The memberships that a query in a VLAN asks (R164): that VLAN's, and in the port's own VLAN the untagged entries' too. -/
def State.queried (s : State) (l vlan : Nat) : List Nat :=
  if s.portVlan l ≠ 0 ∧ s.portVlan l % 4096 = vlan then [0, vlan] else [vlan]

/-- A query at one membership (R164): answered after a random delay within its maximum response time, which is a free value. An
older version's query sets that version's Older Version Querier Present time of RFC 3376: 2 x 125 s and the response time. -/
def takeQuery (l : Nat) (q : IgmpQuery) (s : State) (vlan : Nat) : State :=
  let x := s.igmpOf l vlan
  let until_ : Rat := s.up + 250000000000 + (q.maxResp : Nat)
  let x := if q.version = 1 then { x with v1Until := some until_ } else if q.version = 2 then { x with v2Until := some until_ } else x
  let due := s.up + (s.drawn 40 % (q.maxResp + 1) : Nat)
  putIgmp s.draw { x with due := x.due ++ [(due, q.group)] }

/-- An IGMP query on a port (R161, R164). -/
def igmpQuery (s : State) (l : Nat) (f : FrameIn) (q : IgmpQuery) : State :=
  if !s.linkUp l || !s.groupHears l then s
  else if !s.igmpOk l f then rejectFrame s l
  else if !s.ipv4On l then s
  else (s.queried l f.vlan).foldl (takeQuery l q) (s.count 0x3500 (0x800 + l))

def execIgmpQueryReceived (f : LaneFrame) (q : IgmpQuery) (s : State) : Host.Outcome State Fault Refusal :=
  onUnit f.lane 192 s fun s => igmpQuery s f.lane f.frame q

def igmpAnswer (s : State) (l vlan : Nat) : State :=
  let x := s.igmpOf l vlan
  let (now_, later) := x.due.partition fun d => decide (d.1 ≤ s.up)
  let gs := ((s.membership l vlan).map Prod.fst).filter fun g => now_.any fun d => d.2 == 0 || g == d.2
  let s := if now_.isEmpty then s else putIgmp s { x with due := later }
  if gs.isEmpty then s else reportGroups s l vlan gs false

def execIgmpQueryResponse (l vlan : Nat) (s : State) : Host.Outcome State Fault Refusal :=
  onUnit l 192 s fun s => igmpAnswer s l vlan

def execIgmpCompatTimeout (l vlan : Nat) (s : State) : Host.Outcome State Fault Refusal :=
  onUnit l 192 s fun s =>
    let x := s.igmpOf l vlan
    let live (t : Option Rat) : Option Rat := t.filter fun t => decide (s.up < t)
    let y := { x with v1Until := live x.v1Until, v2Until := live x.v2Until }
    if y = x then s else putIgmp s y

/-! PTP's own packets (R82, R83). -/

/-- An IPv4 header without options: type of service, identification and TTL are as given. -/
def ipHeader (tos ident ttl proto src dst len : Nat) : List Byte :=
  let h (c : Nat) : List Byte :=
    toBytes 2 (0x4500 + tos % 256) ++ toBytes 2 (20 + len) ++ toBytes 4 (ident % 65536 * 65536) ++ toBytes 1 ttl ++
      toBytes 1 proto ++ toBytes 2 c ++ toBytes 4 src ++ toBytes 4 dst
  h (ipChecksum (h 0))

/-- A UDP datagram with its checksum (RFC 768). -/
def udpDatagram (src dst sport dport : Nat) (data : List Byte) : List Byte :=
  let head (c : Nat) : List Byte := toBytes 2 sport ++ toBytes 2 dport ++ toBytes 2 (8 + data.length) ++ toBytes 2 c
  let c := ipChecksum (toBytes 4 src ++ toBytes 4 dst ++ toBytes 4 (17 * 65536 + 8 + data.length) ++ head 0 ++ data)
  head (if c = 0 then 0xFFFF else c) ++ data

/-- The clock identity of a lane's instance: the EUI-64 of the port's MAC address (PRESUMED). -/
def clockIdentity (mac : Nat) : Nat := mac / 2 ^ 24 * 2 ^ 40 + 0xFFFE * 2 ^ 24 + mac % 2 ^ 24

/-- A Delay_Req of IEEE 1588-2019 (R82): its origin timestamp is zero, as the standard allows. -/
def delayReqBytes (domain identity seq : Nat) (unicast : Bool) : List Byte :=
  toBytes 4 0x0112002C ++ toBytes 1 domain ++ toBytes 1 0 ++ toBytes 2 (if unicast then 0x0400 else 0) ++ toBytes 12 0 ++
    toBytes 8 identity ++ toBytes 2 1 ++ toBytes 2 seq ++ toBytes 2 0x017F ++ toBytes 10 0

/-- A Delay_Req leaves at the master's interval (R82, R83): from the lane port's addresses to event port 319 of 224.0.1.129,
or of the master. Type of service, identification and TTL are free values. -/
def sendDelayReq (s : State) (i : Nat) : State :=
  let p := s.ptpOf i
  let lane := s.field 0x2100 (6 + i) 7 0
  let tooSoon := match p.reqT3 with
    | some t => decide (s.now < t + p.reqInterval)
    | none => false
  if !p.slave || !s.linkUp lane || tooSoon then s
  else
    let seq := (p.reqSeq + 1) % 65536
    let c := s.elem 0x2150 i
    let one := bit c 23
    let vlan := if bit c 15 then bits c 14 12 * 4096 + bits c 11 0 else 0
    let ip := if one then p.parentIp else 0xE0000181
    let mac := if one then p.parentMac else groupMac 0xE0000181
    let x := s.drawn 32
    let data := udpDatagram (s.hostIp lane) ip 319 319 (delayReqBytes (bits c 31 24) (clockIdentity (portMac lane)) seq one)
    let s := (s.setPtp i { p with reqSeq := seq, reqT3 := some s.now }).draw
    s.emit (.ethernet lane mac (portMac lane) vlan 0x0800
      (ipHeader (bits x 7 0) (bits x 31 16) (1 + bits x 15 8 % 255) 17 (s.hostIp lane) ip data.length ++ data))

def execPtpDelayReqSend (i : Nat) (s : State) : Host.Outcome State Fault Refusal := onUnit i 2 s fun s => sendDelayReq s i

/-! Port identity (R160). -/

/-- Addresses that no port takes. -/
def badAddress (ip : Nat) : Bool := ip == 0xFFFFFFFF || ip / 2 ^ 24 == 127 || ip / 2 ^ 28 == 0xE

/-- Whether an entry enabled in either direction is on port `l`. -/
def State.portHasEntry (s : State) (l : Nat) : Bool :=
  s.rxEntries.any (fun e => entryLane e.2 == l) || s.txEntries.any fun e => entryLane e.2 == l

/-- A write to 0x3500 (R159, R160). -/
def portHandler (s : State) (sub : Nat) (payload : List Byte) : Handler :=
  let v := ofBytes payload
  let l := sub % 256
  let block := sub / 256
  let t := s.put 0x3500 sub v
  let on := bit v 31
  let prefix_ := bits v 28 23
  let bad :=
    if block ≤ 2 then v == 0 || badAddress v
    else if block = 3 ∨ block = 5 then badAddress v
    else (on && t.hostIp l == 0) || bits v 30 29 == 3 || (on && (decide (prefix_ < 8) || decide (30 < prefix_))) ||
      (bit v 22 && (bits v 18 7 == 0 || bits v 18 7 == 0xFFF))
  let h := plainHandler s 0x3500 sub payload
    { range := (s.leaderOf l).isSome || bad, headroom := block == 4 && s.ipv4On l && !on && s.portHasEntry l }
  { h with commit := fun s =>
      let old := s
      let s := rebuildDesc (s.commit 0x3500 sub v) (fun _ => false) (fun w => entryLane w == l)
      let s := if block = 4 ∧ on ∧ !old.ipv4On l ∧ !s.paired then gratuitousArp s l else s
      syncArp s old }

/-! The flow tables (R166-R172). -/

/-- TRO of a format in ns (R177). -/
def troDefault (f : Fmt) : Rat :=
  match f.form with
  | 0 => 20 * f.period / 525
  | 1 => 23 * f.period / 625
  | 2 => 28 * f.period / 750
  | 3 => 22 * f.period / 1125
  | 5 => 22 * f.period / 1125
  | 4 => 43 * f.period / 1125
  | _ => 86 * f.period / 2250

/-- The TRO of an entry in ns (R177, R179, R182, R187). -/
def troOf (w : Word) (f : Fmt) : Rat :=
  if entryKind w = kind2022 then 0
  else if entryOffset w = 0xFFFF then (if entryKind w = kind22 then 0 else troDefault f)
  else (entryOffset w : Nat) * 100

/-- What R167 and R171 find out of range in an enabled entry, the fields both tables have. `top` is one past the last
slot. A DESIGN CHOICE: CHANNELS = 0 in an audio entry is out of range; R183 gives an upper limit only. -/
def entryRange (w : Word) (f : Fmt) (top : Nat) : Bool :=
  let k := entryKind w
  let step := if entryArate w = 1 then 2 else 1
  let limit := streamLimit k (entryArate w) (entryPtime w) (entryL16 w)
  if isAudioKind k then
    entryChannels w == 0 || decide (limit < entryChannels w) || (k == kind31 && (entryChannels w % 2 == 1 || entryL16 w)) ||
      decide (top < entryTarget w + step * entryChannels w)
  else
    decide (2048 ≤ entryTarget w) || entryChannels w != 0 ||
      (entryOffset w != 0xFFFF && decide (f.period < (entryOffset w : Nat) * 1000))

/-- Reserved codes of an entry (R166): KIND and ARATE. -/
def entryReserved (w : Word) : Bool := decide (6 ≤ entryKind w) || decide (2 ≤ entryArate w)

/-- Whether kind `k` suits a flow that is OPAQUE, or that carries another video kind (R167, R171). -/
def kindFails (k : Nat) (opaque_ : Bool) (has2022 : Bool) (has40 : Bool) : Bool :=
  (k == kind22) != opaque_ || (k == kind40 && has2022) || (k == kind2022 && has40)

/-- The match key of R162: lane, VLAN, destination, port, source. -/
def rxKey (w : Word) : Nat × Nat × Nat × Nat × Nat := (entryLane w, rxVid w, entryDest w, rxPort w, rxSource w)

/-- Whether another entry of a table holds the flow's video, or ancillary, place on the same path (R167, R170). -/
def placeTaken (es : List (Nat × Word)) (e : Nat) (w : Word) : Bool :=
  es.any fun o => o.1 != e && !isAudioKind (entryKind o.2) && entryTarget o.2 == entryTarget w &&
    entryPath o.2 == entryPath w && (entryKind o.2 == kind40) == (entryKind w == kind40)

/-- The entry of the other ST 2022-7 path (R189, R192). -/
def twinEntry (es : List (Nat × Word)) (e : Nat) (w : Word) : Option Nat :=
  (es.find? fun o => o.1 != e && entryKind o.2 == entryKind w && entryTarget o.2 == entryTarget w &&
    entryPath o.2 != entryPath w).map Prod.fst

/-- The partner of an entry whose DUP or DUP_ENTRY a write of it changes has its description rebuilt (R192). -/
def retwin (rx : Bool) (before s : State) (e : Nat) : State :=
  let old := if rx then before.rxEntries else before.txEntries
  let new := if rx then s.rxEntries else s.txEntries
  (new.filter fun o => o.1 != e && twinEntry old o.1 o.2 != twinEntry new o.1 o.2).foldl (fun s o =>
    if rx then s.setRx o.1 { s.rxOf o.1 with desc := (s.rxOf o.1).desc + 1 }
    else s.setTx o.1 { s.txOf o.1 with desc := (s.txOf o.1).desc + 1 }) s

/-- A write to a receive entry (R166-R168). `t` is the state as the write would leave it. -/
def rxChecks (s : State) (e : Nat) (w : Word) : Checks :=
  let old := s.rxEntry e
  let t := s.put 0x4400 e w
  let l := entryLane w
  let j := entryTarget w
  let k := entryKind w
  let f := s.srcFmt j
  let on := entryOn w
  let audio := isAudioKind k
  let fixed (x : Word) : Word := setBits x 239 140 0
  let streams := ((t.rxEntries.filter fun o => isAudioKind (entryKind o.2)).map fun o => (entryTarget o.2, entryChannels o.2)).eraseDups
  let asyncChannels := sumNat ((t.rxEntries.filter fun o => rxAsync o.2).map fun o => entryChannels o.2)
  let own :=
    (s.leaderOf l).isSome || !s.ethLeader l || !laneRxEn (s.laneMode l) || !s.ipv4On l ||
    (if audio then t.ainOverlap || decide (1024 < streams.length) || decide (4096 < asyncChannels)
     else
      bindKind (s.inBind j) != 2 ||
      kindFails k (bindOpaque (s.inBind j)) (t.in2022 j) (t.rxEntries.any fun o => entryKind o.2 == kind40 && entryTarget o.2 == j) ||
      (k == kind2022 && (class2022 f).isNone) || placeTaken s.rxEntries e w ||
      (isVideoKind k && k != kind2022 && s.elem 0x4000 (0x800 + j) != 0) ||
      (entryPath w == 1 && !bit (s.inBind j) 25)) ||
    s.rxEntries.any (fun o => o.1 != e && rxKey o.2 == rxKey w)
  { range := entryReserved w ||
      (on && (rxPort w == 0 || (rxTagged w && (rxVid w == 0 || rxVid w == 0xFFF)) || (rxPt w != 0 && decide (rxPt w < 96)) ||
        (rxAsync w && !audio) || (!isMulticast (entryDest w) && entryDest w != s.hostIp l && entryDest w != s.mediaIp l) ||
        entryRange w f 40960))
    headroom := entryOn old && on && fixed old != fixed w
    admission := on && (own || !t.budgetCodes.isEmpty)
    reason := lowest ((if own then [0x13] else []) ++ t.budgetCodes) }

def rxHandler (s : State) (e : Nat) (payload : List Byte) : Handler :=
  let w := ofBytes payload
  let h := plainHandler s 0x4400 e payload (rxChecks s e w)
  { h with
    struct := true
    plane := if isAudioKind (entryKind w) then 0 else s.srcPlane (entryTarget w)
    commit := fun s =>
      let old := s
      let desc := (s.rxOf e).desc + 1
      let s := (s.commit 0x4400 e w).setRx e (if entryOn w && entryOn (old.rxEntry e) then { s.rxOf e with desc := desc } else { desc := desc })
      let s := s.put 0x4400 (0x2000 + e) 0
      syncIgmp (retwin true old s e) old }

def execRxEntryWrite (rq : Rq) (e : Nat) (v : Word) (s : State) : Host.Outcome State Fault Refusal :=
  act s fun s => request s rq opWrite 0x4400 e (valueBytes rq v) (rxHandler s e (valueBytes rq v))

/-- A write to a send entry (R170-R172). -/
def txChecks (s : State) (e : Nat) (w : Word) : Checks :=
  let old := s.txEntry e
  let t := s.put 0x6300 e w
  let l := entryLane w
  let j := entryTarget w
  let k := entryKind w
  let f := s.outFmt j
  let on := entryOn w
  let audio := isAudioKind k
  let fixed (x : Word) : Word := setBits (setBits x 239 154 0) 146 139 0
  let dual := bit (s.outBind j) 25
  let others := s.txEntries.filter fun o => o.1 != e && !isAudioKind (entryKind o.2) && entryTarget o.2 == j
  let own :=
    (s.leaderOf l).isSome || !s.ethLeader l || !laneTxEn (s.laneMode l) || !s.ipv4On l ||
    decide (1024 < t.nextHops.length) ||
    (if audio then t.aoutConflict ||
        decide (1024 < (t.txEntries.filter fun o => isAudioKind (entryKind o.2)).length)
     else
      bindKind (s.outBind j) != 2 ||
      kindFails k (s.outOpaque j) (t.out2022 j) (t.txEntries.any fun o => entryKind o.2 == kind40 && entryTarget o.2 == j) ||
      (k == kind2022 && (class2022 f).isNone) || (entryPath w == 1 && !dual) ||
      (isVideoKind k && k != kind2022 && s.elem 0x6000 (0x800 + j) != 0) ||
      (dual && (placeTaken s.txEntries e w ||
        others.any fun o => entryPath o.2 != entryPath w && (entryKind o.2 == kind40) == (k == kind40) &&
          (entryKind o.2 != k || txPt o.2 != txPt w || txSsrc o.1 o.2 != txSsrc e w))))
  { range := entryReserved w || (txLinear w && k != kind20) ||
      (on && (txSrcPort w == 0 || txDestPort w == 0 || (txTagged w && (txVid w == 0 || txVid w == 0xFFF)) ||
        txDscp w == 0 || txTtl w == 0 || decide (txPt w < 96) ||
        (bits w 79 69 != 0 && (decide (bits w 79 69 < 600) || decide (1452 < bits w 79 69))) ||
        (audio && entryOffset w != 0) || entryRange w f 49152 || t.followOverlap))
    headroom := entryOn old && on && fixed old != fixed w
    admission := on && (own || !t.budgetCodes.isEmpty)
    reason := lowest ((if own then [0x13] else []) ++ t.budgetCodes) }

/-- The entry's word as its packets show it: a header change waits for the next frame start (R172). -/
def State.txNow (s : State) (e : Nat) : Word := ((s.txOf e).held).getD (s.txEntry e)

def txHandler (s : State) (e : Nat) (payload : List Byte) : Handler :=
  let w := ofBytes payload
  let h := plainHandler s 0x6300 e payload (txChecks s e w)
  { h with
    struct := true
    plane := if isAudioKind (entryKind w) then 0 else s.outPlane (entryTarget w)
    commit := fun s =>
      let old := s
      let x := s.txOf e
      let goesOn := entryOn w && entryOn (old.txEntry e)
      let s := s.commit 0x6300 e w
      let s := s.setTx e (if goesOn then
          { x with desc := x.desc + 1, held := if isAudioKind (entryKind w) then none else some (old.txNow e) }
        else { desc := x.desc + 1 })
      syncArp (retwin false old s e) old }

def execTxEntryWrite (rq : Rq) (e : Nat) (v : Word) (s : State) : Host.Outcome State Fault Refusal :=
  act s fun s => request s rq opWrite 0x6300 e (valueBytes rq v) (txHandler s e (valueBytes rq v))

end Sys2Proof.Machine
end

