-- ==== Sys2Proof/Machine/Packet.lean ====
section
/-! DEFINITION. Received packets (R161, R162, R173-R188, R193-R195): acceptance, the match key, two paths, lines put
together, OPAQUE frames, audio samples, ancillary packets, and the losses of IP inputs. -/

namespace Sys2Proof.Machine

/-! Acceptance (R161, R162). -/

/-- Whether an accepted packet passes the checks of R162 before it is matched. -/
def State.ipPasses (s : State) (l : Nat) (p : Packet) : Bool :=
  p.ipOk && p.udpOk &&
    (p.dst == s.hostIp l || p.dst == s.mediaIp l ||
      s.rxEntries.any fun e => entryLane e.2 == l && isMulticast (entryDest e.2) && entryDest e.2 == p.dst)

/-- The entry a packet matches: one that names its source before one that names none (R162). -/
def State.matchEntry (s : State) (l : Nat) (p : Packet) : Option (Nat × Word) :=
  let es := s.rxEntries.filter fun e =>
    entryLane e.2 == l && rxVid e.2 == p.vlan && entryDest e.2 == p.dst && rxPort e.2 == p.dport
  match es.find? (fun e => rxSource e.2 == p.src) with
  | some e => some e
  | none => es.find? fun e => rxSource e.2 == 0

/-- A mismatched packet counted against its entry (R162, R175). -/
def countMismatch (s : State) (e : Nat) : State := s.count 0x4400 (0x7000 + e)
/-- A late packet or sample (R175, R184, R186). -/
def countLate (s : State) (e n : Nat) : State :=
  if n = 0 then s else (s.countBy 0x4400 (0x6000 + e) n).setRx e { s.rxOf e with lateAt := some s.up }

/-! Two paths and gaps (R188, R194). -/

/-- Sequences behind `new` in `w` bits that are still remembered. A flow's ancillary packets are remembered apart from
its video: `tag` is 2^32 for them. -/
def recentSeqs (w tag new : Nat) (l : List Nat) : List Nat :=
  l.filter fun q => q / 2 ^ 32 * 2 ^ 32 != tag || decide ((new + 2 ^ w - q % 2 ^ 32) % 2 ^ w < 32768)

/-- How long a gap may still be filled: one line period and MAX_SKEW of a DUAL flow (R175). -/
def State.closeTime (s : State) (j : Nat) : Rat :=
  (s.srcFmt j).linePeriod + (if bit (s.inBind j) 25 then (s.field 0x4500 j 31 16 : Nat) * 1000 else 0)

/-- The sequences skipped when `q` follows `expect`, at most 32,767. -/
def skipped (w expect q : Nat) : List Nat :=
  let d := (q + 2 ^ w - expect) % 2 ^ w
  if d < 32768 then (List.range d).map fun i => (expect + i) % 2 ^ w else []

/-- One copy of a packet of flow `j` on entry `e` (R188): whether it is the first copy. Gaps on the path are noted; a
packet that the other path brings is recovered, and one that none brings in time is missing. -/
def takeCopy (s : State) (j e w tag q : Nat) : State × Bool :=
  let x := s.in_ j
  let r := s.rxOf e
  let gone := x.missing.filter fun m => decide (m.2.2 + s.closeTime j ≤ s.up)
  let s := gone.foldl (fun s m => s.count 0x4400 (0x4000 + m.2.1)) s
  let here := (x.missing.filter fun m => decide (s.up < m.2.2 + s.closeTime j))
  let s := (here.filter fun m => m.1 == tag + q && m.2.1 != e).foldl (fun s m => s.count 0x4400 (0x5000 + m.2.1)) s
  let here := here.filter fun m => m.1 != tag + q
  let gap := match r.expect with
    | some n => skipped w n q
    | none => []
  let s := s.countBy 0x4400 (0x5000 + e) (gap.filter fun g => x.seen.contains (tag + g)).length
  let lost := (gap.filter fun g => !x.seen.contains (tag + g)).map fun g => (tag + g, e, s.up)
  let ahead := match r.expect with
    | some n => decide ((q + 2 ^ w - n) % 2 ^ w < 32768)
    | none => true
  let s := if ahead then s.setRx e { s.rxOf e with expect := some ((q + 1) % 2 ^ w) } else s
  let first := !x.seen.contains (tag + q)
  (s.setIn j { x with
    missing := here ++ lost, gap := x.gap || gone.any fun m => m.1 / 2 ^ 32 * 2 ^ 32 == tag
    seen := if first then recentSeqs w tag q x.seen ++ [tag + q] else x.seen }, first)

/-- A path of a flow present (R188, R193), and the NOTEs that end with it. -/
def pathPresent (s : State) (j path : Nat) : State :=
  let x := s.in_ j
  let was := s.flag 0x4300 j (30 - path)
  let s := s.setIn j (if path = 0 then { x with pathA := some s.up } else { x with pathB := some s.up })
  if was then s
  else
    let s := s.putFlag 0x4300 j (30 - path) true
    if (s.bindings 0x4000).any (fun e => bindKind e.2 == 2 && bit e.2 25 && !(s.flag 0x4300 e.1 30 && s.flag 0x4300 e.1 29))
    then s else clearActive s 0x066

/-! Frames of an IP input (R175, R178). -/

/-- RTP ticks of one frame at `clock` Hz. -/
def frameTicks (f : Fmt) (clock : Nat) : Rat := f.period * (clock : Nat) / 1000000000

/-- How many frames a timestamp lies after the frame being received (R175): 0 the same frame, negative an earlier one.
`field` 1 stands half a frame after its frame. A jump of more than one frame back is a new beginning. -/
def State.frameStep (s : State) (j ts field clock : Nat) : Int :=
  match (s.in_ j).stamp with
  | none => 1
  | some t0 =>
    let per := frameTicks (s.srcFmt j) clock
    let d : Rat := ((toSigned 32 ((ts + 2 ^ 32 - t0) % 2 ^ 32) : Int) : Rat) - (field : Nat) * per / 2
    let n : Int := if per = 0 then 1 else (d / per + 1 / 2).floor
    if n < -1 then 1 else n

/-- The field of the present frame that has a timestamp (R186). -/
def InFlow.stampField (x : InFlow) (ts : Nat) : Option Nat :=
  if x.stamp = some ts then some 0 else if x.stamp2 = some ts then some 1 else none

/-- Ancillary packets whose video frame or field has begun are attached to it (R186). -/
def attachWaiting (s : State) (j ts field : Nat) : State :=
  let x := s.in_ j
  let (now_, later) := x.ancWait.partition fun a => a.ts == ts
  now_.foldl (fun s a => takeAnc s j field a.pkts) (s.setIn j { x with ancWait := later })

/-- Whether nothing of the frame that arrives is missing, from its first packet to its marker (R193). -/
def InFlow.complete (x : InFlow) : Bool :=
  x.marked && x.whole && !x.gap && !(x.missing.any fun m => decide (m.1 < 2 ^ 32))

/-- An IP input that received a complete frame is locked (R193); the NOTE of its loss ends. A mismatch is judged from the first
complete frame on (R195). -/
def ipLock (s : State) (j : Nat) : State :=
  if s.flag 0x4300 j 31 then s
  else
    let s := (s.putFlag 0x4300 j 31 true).setIn j { s.in_ j with lost := false }
    let s := if (s.bindings 0x4000).any (fun e => bindKind e.2 == 2 && (s.in_ e.1).lost) then s else clearActive s 0x065
    if (s.in_ j).badFrame then mismatch (s.setIn j { s.in_ j with badFrame := false }) j 28 else s

/-- A frame with no packet missing on both paths locks the input (R193). -/
def settleFrame (s : State) (j : Nat) : State := if (s.in_ j).complete then ipLock s j else s

/-- The marker of a frame's last packet (R193). -/
def ipFrameEnd (s : State) (j : Nat) : State := settleFrame (s.setIn j { s.in_ j with marked := true }) j

/-- The first packet of a frame of an IP video input (R178): its arrival is this instant less the sender's TRO. `from_`
says that the frame is seen from its first packet on. A frame before it that did not come whole ends the lock (R193), and
SUBSTITUTED tells of that frame. -/
def ipFrame (s : State) (j ts : Nat) (tro : Rat) (from_ : Bool) : State :=
  let x := s.in_ j
  let s := if x.stamp.isSome && !x.complete && !s.srcOpaque j then s.putFlag 0x4300 j 31 false else s
  let s := s.putFlag 0x4300 j 26 (x.frame.isSome && x.substFrame == x.frame)
  let s := beginFrame (s.setIn j { x with meta_ := some (s.field 0x4100 j 20 12) }) j (s.now - tro)
  attachWaiting (s.setIn j { s.in_ j with
    stamp := some ts, stamp2 := none, whole := from_, gap := false, marked := false, badFrame := false
    clean := x.clean + 1 }) j ts 0

/-! ST 2110-20 lines (R173-R175). -/

/-- Spans painted over a line of `n` words that are not known. -/
def paintSpans (n : Nat) (spans : List (Nat × List Nat)) : List (Option Nat) :=
  spans.foldl (fun base sp => (base.take sp.1 ++ sp.2.map some ++ base.drop (sp.1 + sp.2.length)).take n)
    (List.replicate n none)

/-- A line of an open frame as one number, rising in the order of sending. -/
def lineKey (f : Fmt) (m : Int) (i : Nat) : Int := m * (formActive f.form : Nat) + (i : Nat)

/-- The video entries of a flow. -/
def State.videoEntries (s : State) (j : Nat) : List Nat :=
  (s.rxEntries.filter fun e => isVideoKind (entryKind e.2) && entryTarget e.2 == j).map Prod.fst

/-- The maximal runs of missing words of a line: where each starts, and how many words it has. -/
def missingRuns : Nat → List (Option Nat) → List (Nat × Nat)
  | _, [] => []
  | i, some _ :: l => missingRuns (i + 1) l
  | i, none :: l => match missingRuns (i + 1) l with
    | (a, n) :: r => if a = i + 1 then (i, n + 1) :: r else (i, 1) :: (a, n) :: r
    | [] => [(i, 1)]

/-- A line's number in a decision record: its frame and its place. -/
def lineValue (m : Int) (i : Nat) : Word := ofSigned 64 m * 2 ^ 16 + i % 2 ^ 16

/-- A line closed (R175): the words not received are those of the previous line of its field, each missing span counted. What
is missing is a decision of the active's (R426). -/
def closeLine (s : State) (j : Nat) (o : OpenLine) : State :=
  let f := s.srcFmt j
  let n := lineWords f
  let x := s.in_ j
  let words := paintSpans n o.spans
  let half := formActive f.form / formFields f.form
  let field := o.line / half
  let old := match x.prev.find? (fun p => p.1 == field) with
    | some p => p.2
    | none => List.replicate n (s.drawn 12)
  let runs := missingRuns 0 words
  let picture := (words.zip (old ++ List.replicate (n - old.length) 0)).map fun p => p.1.getD p.2
  let key := lineKey f o.frame o.line
  let s := s.setIn j { x with
    openLines := x.openLines.filter fun y => !(y.frame == o.frame && y.line == o.line)
    prev := (x.prev.filter fun p => p.1 != field) ++ [(field, picture)]
    substFrame := if runs.isEmpty then x.substFrame else some o.frame
    done := (x.done.filter fun k => decide (key < k + 2 * (formActive f.form : Nat))) ++ [key] }
  let s := runs.foldl (fun s r => mirror s 16 j (lineValue o.frame o.line * 2 ^ 32 + r.1 % 2 ^ 16 * 2 ^ 16 + r.2 % 2 ^ 16)) s
  let s := mirror s 17 j (lineValue o.frame o.line)
  let s := if runs.isEmpty then s
    else
      let s := if x.prev.any (fun p => p.1 == field) then s else s.draw
      -- SUBSTITUTED tells of the last frame: one that has ended shows at once
      let s := if x.frame.any fun m => decide (o.frame < m) then s.putFlag 0x4300 j 26 true else s
      (s.videoEntries j).foldl (fun s e => s.countBy 0x4400 (0x8000 + e) runs.length) s
  takeLine s j o.frame o.count (rasterOf f.form o.line) picture (!runs.isEmpty)

/-- A line that the active closed, at the standby (R426): what was missing there is substituted here too. -/
def closeTold (s : State) (j : Nat) (m : Int) (i : Nat) : State :=
  let x := s.in_ j
  let key := lineKey (s.srcFmt j) m i
  if x.done.contains key then s
  else
    let o := (x.openLines.find? fun o => o.frame == m && o.line == i).getD
      { line := i, frame := m, count := x.nextCount - 1 - (x.frame.getD m - m).toNat, spans := [] }
    let gone (p : Nat) : Bool := x.runs.any fun r => r.1 == key && decide (r.2.1 ≤ p) && decide (p < r.2.1 + r.2.2)
    let words := (paintSpans (lineWords (s.srcFmt j)) o.spans).zipIdx
    let spans := (words.filter fun w => !gone w.2).filterMap fun w => w.1.map fun v => (w.2, [v])
    closeLine (s.setIn j { x with runs := x.runs.filter fun r => decide (key < r.1) }) j { o with spans := spans }

/-- The line of an SRD opened if it is not open (R175): lines before it of which no packet came are open from now on, and
every earlier open line has its time run. -/
def openLine (s : State) (j : Nat) (m : Int) (count i : Nat) : State :=
  let f := s.srcFmt j
  let act := formActive f.form
  let x := s.in_ j
  let key := lineKey f m i
  if x.openLines.any fun o => lineKey f o.frame o.line == key then s
  else
    let keys := x.done ++ x.openLines.map fun o => lineKey f o.frame o.line
    let new : OpenLine := { line := i, frame := m, count := count, spans := [] }
    let skippedLines : List OpenLine := match keys with
      | [] => []
      | k :: ks =>
        let high := ks.foldl max k
        let n := (key - high - 1).toNat
        if act < n then [] else (List.range n).map fun d =>
          let kk := high + 1 + (d : Nat)
          let mm := kk / (act : Nat)
          ({ line := (kk % (act : Nat)).toNat, frame := mm, count := count - (m - mm).toNat, spans := []
             laterAt := some s.up } : OpenLine)
    let aged := x.openLines.map fun o =>
      if o.laterAt = none ∧ lineKey f o.frame o.line < key then { o with laterAt := some s.up } else o
    let later := (keys.any fun k => decide (key < k))
    s.setIn j { x with openLines := aged ++ skippedLines ++ [{ new with laterAt := if later then some s.up else none }] }

/-- One SRD placed (R175): the line is closed when every byte of it is there. A standby in step closes its lines as the
active tells it (R426). -/
def takeSrd (s : State) (j : Nat) (m : Int) (count i px : Nat) (words : List Nat) : State :=
  let f := s.srcFmt j
  if (s.in_ j).done.contains (lineKey f m i) then s
  else
    let s := openLine s j m count i
    let x := s.in_ j
    let at_ := px / groupPixels f.samp * groupWords f.samp
    match x.openLines.find? (fun o => o.frame == m && o.line == i) with
    | some o =>
      let o := { o with spans := (o.spans.filter fun sp => sp.1 != at_) ++ [(at_, words)] }
      let s := s.setIn j { x with openLines := x.openLines.map fun y => if y.frame = m ∧ y.line = i then o else y }
      if !s.mirrored && decide (lineWords f ≤ sumNat (o.spans.map fun sp => sp.2.length)) &&
          (paintSpans (lineWords f) o.spans).all Option.isSome
      then closeLine s j o else s
    | none => s

/-- Whether an SRD lies outside the declared picture (R175): line, pixel offset, words. -/
def srdBad (f : Fmt) (sr : Nat × Nat × List Nat) : Bool :=
  decide (formActive f.form / formFields f.form ≤ sr.1) || sr.2.2.length % groupWords f.samp != 0 ||
    sr.2.1 % groupPixels f.samp != 0 ||
    decide (formWidth f.form < sr.2.1 + sr.2.2.length / groupWords f.samp * groupPixels f.samp)

/-- A -20 packet (R173-R175, R178). One with bytes of a closed line is late, counted once. -/
def takeVideo (s : State) (j e : Nat) (w : Word) (p : Packet) (field : Nat) (srds : List (Nat × Nat × List Nat)) : State :=
  let f := s.srcFmt j
  let st := s.frameStep j p.timestamp (if field < formFields f.form then field else 0) 90000
  let first := field == 0 && (match srds.head? with
    | some sr => sr.1 == 0 && sr.2.1 == 0
    | none => false)
  let s := if 0 < st then ipFrame s j p.timestamp (troOf w f) (first || (s.in_ j).stamp.isSome) else s
  let s := if field = 1 ∧ st = 0 ∧ (s.in_ j).stamp2 = none then
      attachWaiting (s.setIn j { s.in_ j with stamp2 := some p.timestamp }) j p.timestamp 1
    else s
  let s := if srds.any (srdBad f) || decide (formFields f.form ≤ field) then badFormat (countMismatch s e) j
    else
      let m := (s.in_ j).frame.getD 0 + min st 0
      let count := (s.in_ j).nextCount - 1 - (-(min st 0)).toNat
      let half := formActive f.form / formFields f.form
      let late := srds.any fun sr => (s.in_ j).done.contains (lineKey f m (field * half + sr.1))
      let s := if late then countLate s e 1 else s
      srds.foldl (fun s sr => takeSrd s j m count (field * half + sr.1) sr.2.1 sr.2.2) s
  if p.marker ∧ field + 1 = formFields f.form ∧ 0 ≤ st then ipFrameEnd s j else s

/-! ST 2110-22 (R179). -/

/-- The units of a frame written to cells, one line each, with the payload header's T, K, L and I before them. -/
def writeUnits (s : State) (j : Nat) (m : Int) (us : List (Nat × List Nat)) : State :=
  let x := s.in_ j
  let count := x.nextCount - 1 - (x.frame.getD m - m).toNat
  (us.zipIdx).foldl (fun s (u, i) => takeLine s j m count (i + 1) (u.1 :: u.2) false) s

/-- Distance of a sequence behind another, in 16 bits. -/
def seqDist (from_ q : Nat) : Nat := (q + 65536 - from_) % 65536

/-- A unit put in its place in order of sequence. -/
def placeUnit (u : OpaqueUnit) : List OpaqueUnit → List OpaqueUnit
  | [] => [u]
  | v :: l => if seqDist u.seq v.seq < 32768 then u :: v :: l else v :: placeUnit u l

/-- The oldest frame of a flow in assembly: its number, its units in order, and since when its closing time runs. -/
def State.oldestUnits (s : State) (j : Nat) : Option (Int × List OpaqueUnit × Option Rat) :=
  let us := (s.in_ j).units
  match us.map OpaqueUnit.frame with
  | [] => none
  | m :: ms =>
    let m := ms.foldl min m
    let mine := (us.filter fun u => u.frame == m).foldl (fun l u => placeUnit u l) []
    let after := (us.filter fun u => u.frame != m || u.marker).map OpaqueUnit.at_
    some (m, mine, match after with
      | [] => none
      | t :: ts => some (ts.foldl min t))

/-- A frame closed (R179): stored where it is whole and within CBR, else counted and the last whole one repeated within the
hold time. -/
def closeUnits (s : State) (j : Nat) (m : Int) (us : List OpaqueUnit) (whole : Bool) : State :=
  let x := s.in_ j
  let rest := x.units.filter fun u => u.frame != m
  let next := match us.find? fun u => u.marker with
    | some u => some ((u.seq + 1) % 65536)
    | none => (rest.foldl (fun l u => placeUnit u l) []).head?.map OpaqueUnit.seq
  let s := s.setIn j { x with units := rest, nextSeq := next, closed := some m }
  let bytes := sumNat (us.map fun u => u.wire + 82)
  if whole && decide (((bytes * 8 : Nat) : Rat) * (s.srcFmt j).hz ≤ (bits (s.inBind j) 15 0 : Nat) * 1000000) then
    let data := us.map fun u => (u.head, u.data)
    let s := ipLock s j
    writeUnits (s.setIn j { s.in_ j with lastUnits := data, wholeAt := some s.up }) j m data
  else
    let s := if whole then ipLock s j else s.putFlag 0x4300 j 31 false
    let s := mirror s 13 j (ofSigned 64 m)
    let s := (s.videoEntries j).foldl (fun s e => s.count 0x4400 (0x8000 + e)) s
    match x.wholeAt with
    | some t => if s.up ≤ t + s.holdTime j then writeUnits s j m x.lastUnits else s
    | none => s

/-- The oldest frame closes when all its packets are there, or at the closing time of R175. -/
def settleUnits (s : State) (j : Nat) : State :=
  match s.oldestUnits j with
  | some (m, us, since) =>
    let whole := match (s.in_ j).nextSeq, us.find? fun u => u.marker with
      | some n, some u => us.length == seqDist n u.seq + 1
      | _, _ => false
    let due := match since with
      | some t => decide (t + s.closeTime j ≤ s.up)
      | none => false
    if whole || due then closeUnits s j m us whole else s
  | none => s

/-- A unit of an OPAQUE flow; a unit of a frame that is closed is late. -/
def takeOpaque (s : State) (j e : Nat) (w : Word) (p : Packet) (head wire : Nat) (data : List Nat) : State :=
  let st := s.frameStep j p.timestamp 0 90000
  let s := if 0 < st then ipFrame s j p.timestamp (troOf w (s.srcFmt j)) (s.in_ j).stamp.isSome else s
  let x := s.in_ j
  let m := x.frame.getD 0 + min st 0
  if x.closed.any (fun c => decide (m ≤ c)) then countLate s e 1
  else
    let u : OpaqueUnit := { frame := m, seq := p.seq % 65536, head := head, wire := wire, marker := p.marker, data := data, at_ := s.up }
    let s := s.setIn j { x with units := x.units ++ [u] }
    settleUnits (settleUnits s j) j

/-! ST 2022-6 (R181). -/

/-- Bits of a whole raster line of a 2022-6 stream, and those of them before its active words. -/
def streamBits (f : Fmt) : Nat × Nat := (20 * lineSamples f, 20 * (lineSamples f - formWidth f.form))

/-- The line that stands for one whose bytes went missing whole: the line before it, byte for byte, its line number with it. -/
def copiedLine (before : SdiLine) (num : Nat) : SdiLine := { before with num := num, lineError := true }

/-- A line some of whose bytes went missing (R181): those of the line before stand for them, and its CRC fails. `gone` tells
which of the frame's packets. -/
def mendLine (f : Fmt) (before : Option SdiLine) (gone : List Nat) (ln : SdiLine) : SdiLine :=
  let b := streamBits f
  let start := (ln.num - 1) * b.1
  let hit (lo hi : Nat) : Bool := gone.any fun k => decide (lo < (k + 1) * 11008) && decide (k * 11008 < hi)
  if !hit start (start + b.1) then ln
  else
    let old := (before.map SdiLine.picture).getD []
    { ln with
      crcError := true
      picture := ln.picture.zipIdx.map fun (v, i) =>
        let a := start + b.2 + 10 * i
        if hit a (a + 10) then old.getD i v else v }

/-- Lines of a 2022-6 stream (R139, R181): three in succession carry EAV and SAV before the flow takes any. -/
def streamLine (l j : Nat) (t : Rat) (s : State) (ln : SdiLine) : State :=
  let x := s.in_ j
  let s := s.setIn j { x with trs := min 3 (x.trs + 1), lastSdi := some ln }
  if x.trs < 2 then s else takeSdi s j [l] l t ln

/-- One packet of a 2022-6 stream in its place, after those that never came (R181). The lines that end in it are put right by
the lines before them. A DESIGN CHOICE: bytes put in from the line before keep TRS lock, EAV for EAV. -/
def takeHbrmt (s : State) (j l : Nat) (p : HeldPkt) (lines : List SdiLine) (gone : Nat) : State :=
  let f := s.srcFmt j
  let x := s.in_ j
  let n := packets2022 f
  let place := match x.sdiFirst with
    | some q => (p.pkt.seq + 65536 - q) % 65536
    | none => 0
  let wrapped := x.sdiFirst.isSome && decide (n ≤ place)
  let first := x.sdiFirst.isNone || wrapped || place == 0
  let place := if wrapped then place - n else place
  let lost := (List.range gone).filterMap fun i => if i < place then some (place - 1 - i) else none
  let s := s.setIn j { x with
    sdiFirst := if wrapped then x.sdiFirst.map fun q => (q + n) % 65536 else x.sdiFirst
    sdiAt := if first then s.now - (s.up - p.at_) else x.sdiAt }
  let tro : Rat := if entryOffset (s.rxEntry p.entry) = 0xFFFF then 0 else (entryOffset (s.rxEntry p.entry) : Nat) * 100
  let t := (s.in_ j).sdiAt - tro
  let fill (s : State) (upto : Nat) : State :=
    match (s.in_ j).lastSdi with
    | some b =>
      let last := if b.num < upto then b.num else 0
      let ends := if b.num < upto ∨ wrapped = false then [] else (List.range (rasterLines f.form - b.num)).map (b.num + 1 + ·)
      (ends ++ (List.range (upto - 1 - last)).map (last + 1 + ·)).foldl (fun s i => streamLine l j t s (copiedLine b i)) s
    | none => s
  let s := lines.foldl (fun s ln =>
    let s := if gone = 0 then s else fill s ln.num
    streamLine l j t s (mendLine f (s.in_ j).lastSdi lost ln)) s
  if p.pkt.marker then
    let s := ipFrameEnd s j
    s.setIn j { s.in_ j with sdiFirst := some ((p.pkt.seq + 1) % 65536) }
  else s

/-- A 2022-6 packet judged: its HBRMT format fields differ from the declared format, or its lines are taken (R181). -/
def judgeHbrmt (s : State) (j : Nat) (p : HeldPkt) (gone : Nat) : State :=
  match p.pkt.media with
  | .hbrmt ok lines =>
    let s := if (s.in_ j).sdiFirst.any fun q => q == p.pkt.seq then
        let x := s.in_ j
        let s := if !x.complete then s.putFlag 0x4300 j 31 false else s
        s.setIn j { x with stamp := some p.pkt.timestamp, whole := true, gap := false, marked := false, badFrame := false }
      else s.setIn j { s.in_ j with stamp := some p.pkt.timestamp, gap := (s.in_ j).gap || decide (0 < gone) }
    if ok then takeHbrmt s j p.lane p lines gone else badFormat (countMismatch s p.entry) j
  | _ => countMismatch s p.entry

/-- The packets of a 2022-6 flow that wait, taken in order (R181): the next in sequence at once, one after a gap when the time
in which the missing packets may still come is over (R175, R188): a DESIGN CHOICE, R181 gives no time of its own. -/
def drainStream : Nat → State → Nat → State
  | 0, s, _ => s
  | fuel + 1, s, j =>
    let x := s.in_ j
    let next := match x.nextSeq, x.queue with
      | some n, p :: ps => some (ps.foldl (fun (a b : HeldPkt) =>
          if (b.pkt.seq + 65536 - n) % 65536 < (a.pkt.seq + 65536 - n) % 65536 then b else a) p, n)
      | none, p :: _ => some (p, p.pkt.seq)
      | _, [] => none
    match next with
    | none => s
    | some (p, n) =>
      let gone := (p.pkt.seq + 65536 - n) % 65536
      let due := x.queue.any fun q => decide (q.at_ + s.closeTime j ≤ s.up)
      if gone = 0 ∨ due = true ∨ 32768 ≤ gone then
        let s := s.setIn j { x with
          queue := x.queue.filter fun q => q.num != p.num, nextSeq := some ((p.pkt.seq + 1) % 65536) }
        drainStream fuel (judgeHbrmt s j p (if 32768 ≤ gone then 0 else gone)) j
      else s

/-- A packet of a 2022-6 stream joins those that wait. -/
def queueHbrmt (s : State) (j e l : Nat) (p : Packet) : State :=
  let x := s.in_ j
  drainStream 4096 (s.setIn j { x with
    queue := x.queue ++ [{ object := j, num := p.seq % 65536, lane := l, entry := e, at_ := s.up, pkt := { p with seq := p.seq % 65536 } }] }) j

/-! Lines whose time is over (R175). -/

/-- A line whose time is over closes, unless the active tells when (R426). -/
def lineTimeout (s : State) (j i : Nat) : State :=
  if s.srcOpaque j then settleUnits s j
  else if bindKind (s.inBind j) = 2 ∧ s.in2022 j then drainStream 4096 s j
  else match (s.in_ j).openLines.find? (fun o => o.line == i) with
  | some o => match o.laterAt with
    | some t => if t + s.closeTime j ≤ s.up ∧ bindKind (s.inBind j) = 2 ∧ s.mirrored = false then closeLine s j o else s
    | none => s
  | none => s

/-- LINE_CLOSE_TIMEOUT (R175): `line` counts active lines from 0, field 1 before field 2; an OPAQUE flow's
oldest frame is judged. -/
def execLineCloseTimeout (j line : Nat) (s : State) : Host.Outcome State Fault Refusal :=
  onUnit j 2048 s fun s => lineTimeout s j line

/-! Copies that wait for the active's choice (R188, R426). -/

/-- The number of a packet in its flow or stream; ancillary packets are numbered apart. -/
def packetNum (k q : Nat) : Nat :=
  if k = kind40 then 2 ^ 32 + q % 2 ^ 32 else if k = kind20 then q % 2 ^ 32 else q % 65536

/-- Whether a standby in step waits for the active's choice of a copy: two paths carry the packets. -/
def State.waitsChoice (s : State) (dual : Bool) : Bool := s.mirrored && dual

/-- A packet kept until the active has chosen. Packets more than 32,767 behind it are forgotten. -/
def holdPacket (s : State) (object num l e : Nat) (p : Packet) : State :=
  { s with pair := { s.pair with held := (s.pair.held.filter fun h =>
      h.object != object || h.num / 2 ^ 32 != num / 2 ^ 32 || decide ((num + 2 ^ 32 - h.num) % 2 ^ 32 < 32768)) ++
      [{ object := object, num := num, lane := l, entry := e, at_ := s.up, pkt := p }] } }

/-- Whether the copy on `path` is the one chosen, with the choice used up. -/
def takeChoice (s : State) (object num path : Nat) : State × Bool :=
  if s.pair.choices.contains (object, num, path) then
    ({ s with pair := { s.pair with choices := s.pair.choices.filter fun c => c != (object, num, path) } }, true)
  else (s, false)

/-! Audio (R183-R185, R188). -/

/-- The first entry of a merged stream (R188): the path A twin of a path B copy. -/
def State.streamOf (s : State) (e : Nat) : Nat :=
  let w := s.rxEntry e
  match s.rxEntries.find? (fun o => isAudioKind (entryKind o.2) && entryPath o.2 == 0 && entryPath w == 1 &&
      entryTarget o.2 == entryTarget w && entryChannels o.2 == entryChannels w && entryArate o.2 == entryArate w &&
      entryKind o.2 == entryKind w && entryL16 o.2 == entryL16 w && entryPtime o.2 == entryPtime w) with
  | some o => o.1
  | none => e

/-- Packet time in ns. -/
def packetTime (w : Word) : Rat := if entryPtime w = 0 then 1000000 else 125000

/-- The link offset in ns (R184). -/
def linkOffset (w : Word) : Rat := if entryOffset w = 0xFFFF then 3 * packetTime w else (entryOffset w : Nat) * 100

/-- A 32-bit sample index unwrapped against the present one. -/
def unwrap32 (now ts : Int) : Int :=
  let d := (ts - now) % 2 ^ 32
  if d < 2 ^ 31 then now + d else now + d - 2 ^ 32

/-- TS_DRIFT of an entry set or cleared (R184). -/
def setDrift (s : State) (e : Nat) (on : Bool) : State :=
  let s := s.putFlag 0x4400 (0x2000 + e) 26 on
  if on then declareFault s 0x067 e true
  else if s.rxEntries.any (fun o => s.flag 0x4400 (0x2000 + o.1) 26) then s else clearActive s 0x067

/-- The timing of a stream judged (R184): in range, or since when out of it. TS_DRIFT is a decision of the active's (R426). -/
def judgeTiming (s : State) (e : Nat) (ok : Bool) : State :=
  let r := s.rxOf e
  let since := match r.timing with
    | some t => if t.1 = ok then t.2 else s.up
    | none => s.up
  let s := s.setRx e { r with timing := some (ok, since) }
  if ok ∧ s.flag 0x4400 (0x2000 + e) 26 ∧ since + 1000000000 ≤ s.up ∧ s.mirrored = false then mirror (setDrift s e false) 12 e 0
  else s

/-- A sample presentation period of index `i` of an entry's stream (R184). -/
def dueOf (w : Word) (i : Int) : Int :=
  (((i : Int) : Rat) / (if entryArate w = 1 then 2 else 1) + linkOffset w / samplePeriod).ceil

/-- A synchronous packet's samples presented (R184): index plus link offset, rounded up to a sample period. Those whose period
has passed are discarded, a decision of the active's (R426). -/
def takeSync (s : State) (e : Nat) (w : Word) (ts : Nat) (samples : List (List Nat)) : State :=
  let n := if entryArate w = 1 then 2 else 1
  let first := unwrap32 (s.gridNow * (n : Nat)) ts
  let off := linkOffset w
  let index (i : Nat) : Int := first + (i : Nat)
  let drops := (s.rxOf e).drops
  let gone (i : Nat) : Bool := if s.mirrored then drops.contains (index i) else decide (dueOf w (index i) ≤ s.gridNow)
  let late := ((List.range samples.length).filter gone).length
  let early := decide (2 * off < ((dueOf w first - s.gridNow : Int) : Rat) * samplePeriod)
  let s := if late = 0 then s else mirror s 18 e (ofSigned 64 first * 2 ^ 16 + late)
  let s := judgeTiming (countLate s e late) e (!early && late == 0)
  if s.flag 0x4400 (0x2000 + e) 26 then s
  else
    (samples.zipIdx).foldl (fun s (chs, i) =>
      if gone i ∨ dueOf w (index i) ≤ s.gridNow then s
      else (chs.zipIdx).foldl (fun s (v, c) =>
        giveSample s false (entryTarget w + n * c + (if n = 2 then (index i % 2).toNat else 0)) (dueOf w (index i)) v) s) s

/-- The samples that the active discarded are silent at the standby too (R426): those queued are taken out, and those to come
are remembered. -/
def dropTold (s : State) (e : Nat) (first : Int) (count : Nat) : State :=
  let w := s.rxEntry e
  let n := if entryArate w = 1 then 2 else 1
  let is := (List.range count).map fun i => first + (i : Nat)
  let r := s.rxOf e
  let s := s.setRx e { r with drops := (r.drops ++ is).drop (r.drops.length + count - 384) }
  (List.range (entryChannels w * n)).foldl (fun s c =>
    { s with ainIn := mapMod ainInD s.ainIn (entryTarget w + c) fun q =>
        q.filter fun x => !is.any fun i => dueOf w i == x.1 && (n == 1 || i % 2 == ((c % 2 : Nat) : Int)) }) s

/-- An asynchronous packet's samples put in its bridge in timestamp order, gaps filled with silence (R184). -/
def takeAsync (s : State) (e : Nat) (w : Word) (ts : Nat) (samples : List (List Nat)) : State :=
  let r := s.rxOf e
  let n := if entryArate w = 1 then 2 else 1
  let ahead := match r.nextTs with
    | some t => (ts + 2 ^ 32 - t) % 2 ^ 32
    | none => 0
  if 2 ^ 31 ≤ ahead then countLate s e samples.length
  else
    let fill := if ahead ≤ 96000 then List.replicate ahead (List.replicate (entryChannels w) 0) else []
    let s := s.setRx e { r with nextTs := some ((ts + samples.length) % 2 ^ 32) }
    (fill ++ samples).foldl (fun s chs =>
      (chs.zipIdx).foldl (fun s (v, c) => giveSample s true (entryTarget w + n * c) 0 v) s) s

/-- Whether an audio entry is one of a merged stream's two paths (R188). -/
def State.twoPaths (s : State) (e : Nat) : Bool :=
  (twinEntry (s.rxEntries.filter fun o => isAudioKind (entryKind o.2) && s.streamOf o.1 == s.streamOf e) e (s.rxEntry e)).isSome

/-- The copy of an audio packet that is used (R184, R185): 16-bit samples stand in the upper bits of the 24-bit word. -/
def useAudioPacket (s : State) (a : Nat) (w : Word) (p : Packet) (samples : List (List Nat)) : State :=
  let samples := samples.map fun chs => (chs.take (entryChannels w)).map fun v => if entryL16 w then v * 256 else v
  if rxAsync w then takeAsync s a w p.timestamp samples else takeSync s a w p.timestamp samples

/-- An audio packet (R184, R185, R188): the first valid copy of two paths is used, or the one that the active used. -/
def takeAudioPacket (s : State) (l e : Nat) (w : Word) (p : Packet) (samples : List (List Nat)) (nonAudio : Bool) : State :=
  let a := s.streamOf e
  let s := s.putFlag 0x4400 (0x2000 + e) 25 nonAudio
  let r := s.rxOf e
  let gap := match r.expect with
    | some n => skipped 16 n p.seq
    | none => []
  let seen := (s.rxOf a).seen
  let s := s.countBy 0x4400 (0x5000 + e) (gap.filter seen.contains).length
  let s := s.countBy 0x4400 (0x4000 + e) (gap.filter fun g => !seen.contains g).length
  let s := s.setRx e { s.rxOf e with expect := some ((p.seq + 1) % 65536) }
  let first := !seen.contains p.seq
  let s := if first then s.setRx a { s.rxOf a with seen := recentSeqs 16 0 p.seq seen ++ [p.seq] } else s
  if s.waitsChoice (s.twoPaths e) then
    let c := takeChoice s (0x4000 + a) p.seq (entryPath w)
    if c.2 then useAudioPacket c.1 a w p samples else holdPacket s (0x4000 + a) p.seq l e p
  else if first then
    useAudioPacket (if s.twoPaths e then mirror s 15 (0x4000 + a) (entryPath w * 2 ^ 64 + p.seq) else s) a w p samples
  else s

def execTsDriftDeclare (e : Nat) (s : State) : Host.Outcome State Fault Refusal :=
  onUnit e 4096 s fun s =>
    let w := s.rxEntry e
    match (s.rxOf e).timing with
    | some (ok, since) =>
      if entryOn w && isAudioKind (entryKind w) && !rxAsync w && !ok && decide (since + 1000000000 ≤ s.up) &&
          !s.flag 0x4400 (0x2000 + e) 26 && !s.mirrored then
        mirror (setDrift s e true) 12 e 1
      else s
    | none => s

/-! ST 2110-40 (R186). -/

/-- Whether every line of a field of the present frame has been written (R186). -/
def State.fieldWritten (s : State) (j field : Nat) : Bool :=
  let f := s.srcFmt j
  let half := formActive f.form / formFields f.form
  let x := s.in_ j
  match x.frame with
  | some m => (List.range half).all fun i => x.done.contains (lineKey f m (field * half + i))
  | none => false

/-- Ancillary packets that came too late (R186): a decision of the active's (R426). -/
def ancLate (s : State) (j e q n : Nat) : State := mirror (countLate s e n) 21 j (q % 2 ^ 32)

/-- Ancillary packets joined to the video frame or field of the same timestamp: late where it was written, kept where it
has not begun. A standby in step drops as late what the active did. -/
def takeAncPacket (s : State) (j e : Nat) (p : Packet) (pkts : List (AncPkt × Bool)) : State :=
  let x := s.in_ j
  let q := p.seq % 2 ^ 32
  let past : Bool := match x.stamp with
    | some t0 => decide (2 ^ 31 ≤ (p.timestamp + 2 ^ 32 - t0) % 2 ^ 32)
    | none => false
  if s.mirrored ∧ s.pair.choices.contains (j, 2 ^ 33 + q, 2) then
    countLate { s with pair := { s.pair with choices := s.pair.choices.filter fun c => c != (j, 2 ^ 33 + q, 2) } } e pkts.length
  else match x.stampField p.timestamp with
    | some field =>
      if !s.mirrored && s.fieldWritten j field then ancLate s j e q pkts.length else takeAnc s j field pkts
    | none =>
      if past then ancLate s j e q pkts.length
      else s.setIn j { x with
        ancWait := x.ancWait ++ [{ ts := p.timestamp, field := 0, pkts := pkts, at_ := s.up, entry := e, num := q }] }

/-- The active dropped a -40 packet as late (R426). -/
def dropAncTold (s : State) (j q : Nat) : State :=
  let x := s.in_ j
  match x.ancWait.find? (fun a => a.num == q) with
  | some a => countLate (s.setIn j { x with ancWait := x.ancWait.filter fun b => b.num != q }) a.entry a.pkts.length
  | none => { s with pair := { s.pair with choices := (s.pair.choices ++ [(j, 2 ^ 33 + q, 2)]).drop (s.pair.choices.length + 1 - 4096) } }

/-- ANC_ATTACH_TIMEOUT (R186): packets whose frame did not arrive within a frame period. -/
def ancTimeout (s : State) (j : Nat) : State :=
  let x := s.in_ j
  if s.mirrored then s
  else
    let (old, kept) := x.ancWait.partition fun a => decide (a.at_ + (s.srcFmt j).period ≤ s.up)
    old.foldl (fun s a => ancLate s j a.entry a.num a.pkts.length) (s.setIn j { x with ancWait := kept })

def execAncAttachTimeout (j : Nat) (s : State) : Host.Outcome State Fault Refusal := onUnit j 2048 s fun s => ancTimeout s j

/-! The packet (R161, R162). -/

/-! The choice of copies (R188, R426). -/

/-- The copy of a packet that is used, by the kind of its entry: a video or ancillary flow's. -/
def useFlowPacket (s : State) (l e j : Nat) (p : Packet) : State :=
  let w := s.rxEntry e
  let k := entryKind w
  match p.media with
  | .anc _ pkts => if k = kind40 then takeAncPacket s j e p pkts else countMismatch s e
  | .video field srds => if k = kind20 then takeVideo s j e w p field srds else countMismatch s e
  | .opaque head wire data => if k = kind22 then takeOpaque s j e w p head wire data else countMismatch s e
  | .hbrmt .. => if k = kind2022 then queueHbrmt s j e l p else countMismatch s e
  | .audio .. => countMismatch s e

/-- A packet of a video or ancillary entry taken by flow `j`: the copy of a packet that came first, or that the active used. -/
def takeFlowPacket (s : State) (l e j : Nat) (w : Word) (p : Packet) : State :=
  let k := entryKind w
  let dual := bit (s.inBind j) 25
  let num := packetNum k p.seq
  if bindKind (s.inBind j) ≠ 2 then s
  else
    let s := if k = kind40 then s else pathPresent s j (entryPath w)
    let r := takeCopy s j e (if k = kind20 ∨ k = kind40 then 32 else 16) (num / 2 ^ 32 * 2 ^ 32) (num % 2 ^ 32)
    let s := if k = kind40 then r.1 else settleFrame r.1 j
    if s.waitsChoice dual then
      let c := takeChoice s j num (entryPath w)
      if c.2 then useFlowPacket c.1 l e j p else holdPacket s j num l e p
    else if r.2 then
      useFlowPacket (if dual then mirror s 15 j (entryPath w * 2 ^ 64 + num) else s) l e j p
    else s

/-- A packet that its entry accepts. While its flow moves, the new side takes it too (R263). -/
def takePacket (s : State) (l e : Nat) (w : Word) (p : Packet) : State :=
  let s := s.put 0x4400 (0x3000 + e) (satAdd 64 (s.elem 0x4400 (0x3000 + e)) 1)
  let s := s.setRx e { s.rxOf e with lastAt := some s.up }
  if isAudioKind (entryKind w) then
    match p.media with
    | .audio samples nonAudio => takeAudioPacket s l e w p samples nonAudio
    | _ => countMismatch s e
  else
    let s := if bindKind (s.inBind (0x8000 + entryTarget w)) = 2 then
        (takeFlowPacket s l e (0x8000 + entryTarget w) w p).setRx e (s.rxOf e)
      else s
    takeFlowPacket s l e (entryTarget w) w p

/-- A frame received on a port (R161, R162). -/
def mediaPacket (s : State) (l : Nat) (p : Packet) : State :=
  let s := if s.field 0x3400 l 26 24 = 2 then s.emit (.farPacket l p) else s
  if !s.linkUp l || !s.groupHears l then s
  else if !s.ipOk l { mac := p.mac, vlan := p.vlan, length := p.length } then s.count 0x3500 (0x600 + l)
  else if !s.ipPasses l p then s.count 0x3500 (0x700 + l)
  else match s.matchEntry l p with
    | none => s.count 0x3500 (0x700 + l)
    | some (e, w) =>
      if p.version ≠ 2 ∨ (rxPt w ≠ 0 ∧ p.pt ≠ rxPt w) then countMismatch s e else takePacket s l e w p

def execMediaPacketReceived (l : Nat) (p : Packet) (s : State) : Host.Outcome State Fault Refusal :=
  onUnit l 192 s fun s => mediaPacket s l p

/-- A packet that waited is used. -/
def usePacket (s : State) (h : HeldPkt) : State :=
  match h.pkt.media with
  | .audio samples _ => useAudioPacket s (h.object - 0x4000) (s.rxEntry h.entry) h.pkt samples
  | _ => useFlowPacket s h.lane h.entry h.object h.pkt

/-- The active's choice of a copy (R188, R426): the copy on that path is used, and the other one discarded. -/
def copyTold (s : State) (object num path : Nat) : State :=
  let here := s.pair.held.filter fun h => h.object == object && h.num == num
  let s := { s with pair := { s.pair with held := s.pair.held.filter fun h => !(h.object == object && h.num == num) } }
  match here.find? (fun h => entryPath (s.rxEntry h.entry) == path) with
  | some h => usePacket s h
  | none => { s with pair := { s.pair with choices := (s.pair.choices ++ [(object, num, path)]).drop (s.pair.choices.length + 1 - 4096) } }

/-- A member that claims uses the first copy of each packet on which nothing was told. -/
def releaseHeld (s : State) : State :=
  let hs := s.pair.held.foldl (fun (l : List HeldPkt) h => if l.any fun o => o.object == h.object && o.num == h.num then l else l ++ [h]) []
  hs.foldl usePacket { s with pair := { s.pair with held := [], choices := [] } }

/-! Losses (R188, R195). -/

/-- Whether a path has been without packets for one frame period. -/
def State.pathSilent (s : State) (j path : Nat) : Bool :=
  match (if path = 0 then (s.in_ j).pathA else (s.in_ j).pathB) with
  | some t => decide (t + (s.srcFmt j).period ≤ s.up)
  | none => true

def pathLost (s : State) (j path : Nat) : State :=
  if s.flag 0x4300 j (30 - path) && s.pathSilent j path then
    let s := s.putFlag 0x4300 j (30 - path) false
    if bit (s.inBind j) 25 then declareFault s 0x066 (path * 65536 + j) true false (s.srcPlane j) else s
  else s

def execPathAbsent (j path : Nat) (s : State) : Host.Outcome State Fault Refusal :=
  onUnit j 2048 s fun s => if path < 2 ∧ bindKind (s.inBind j) = 2 then pathLost s j path else s

/-- An IP input lost (R195): no packets on any path for a frame period. -/
def ipLost (s : State) (j : Nat) : State :=
  if bindKind (s.inBind j) = 2 ∧ (s.in_ j).stamp.isSome = true ∧ s.pathSilent j 0 = true ∧ s.pathSilent j 1 = true then
    let s := settleNote (s.putField 0x4300 j 31 28 0) (29, 0x061)
    let s := s.setIn j { s.in_ j with
      stamp := none, stamp2 := none, done := [], seen := [], missing := [], units := [], nextSeq := none, closed := none
      lost := true, marked := false, badFrame := false, queue := [], trs := 0, sdiFirst := none, lastSdi := none, clean := 0 }
    loseInput (declareFault s 0x065 j true false (s.srcPlane j)) j
  else s

/-- IP_INPUT_LOST (R195). -/
def execIpInputLost (j : Nat) (s : State) : Host.Outcome State Fault Refusal := onUnit j 2048 s fun s => ipLost s j

end Sys2Proof.Machine
end

