-- ==== Sys2Proof/Machine/Sets.lean ====
section
/-! DEFINITION. Planes (R37-R48), the event queue (R55-R63), banks, takes, aborts, discards and salvos (R235-R261, R268). -/

namespace Sys2Proof.Machine

/-! Move points (R263). -/

/-- The first frame start of a plane's grid at or after the commit plus two frame periods (R263). -/
def State.twoFrames (s : State) (p : Nat) (per : Rat) : Rat := gridAtOrAfter (s.plane p).origin per (s.now + 2 * per)

/-- Members of a delay group (R314), and the longest delay set on one of them. -/
def State.groupMembers (s : State) (g : Nat) : List Nat :=
  ((s.span 0x7410 0 49152).filter fun e => bit e.2 15 && bits e.2 7 0 == g).map Prod.fst
def State.groupDelay (s : State) (g : Nat) : Nat := (s.groupMembers g).foldl (fun m n => max m (s.elem 0x7420 n)) 0

/-- The move point of a change to an element (R263); none where it waits for a condition. -/
def State.movePoint (s : State) (idx sub : Nat) (new : Word) : Option Rat :=
  let j := sub % 0x800
  let src := s.twoFrames (s.srcPlane j) (s.srcFmt j).period
  let out := s.twoFrames (s.outPlane j) (s.outFmt j).period
  if idx = 0x8000 then some (gridAtOrAfter (s.plane (s.srcPlane (2048 + sub))).origin (s.srcFmt (2048 + sub)).period (s.now + 64000))
  else if idx = 0x7410 then some (s.sampleAtOrAfter (s.twoFrames 0 (periodNs (s.planeRate 0))))
  else if idx = 0x5520 then some (s.sampleAtOrAfter (s.now + (s.groupDelay sub : Nat) * samplePeriod))
  else if idx = 0x4000 then some (if sub < 0x800 then src else s.sampleAtOrAfter src)
  else if idx = 0x6000 then some (if sub < 0x800 then out else s.sampleAtOrAfter out)
  else if idx = 0x4100 then some src
  else if idx = 0x4200 then (if bit new 31 && !s.flag 0x4200 j 31 then none else some src)
  else if idx = 0x5400 then some (s.twoFrames (s.srcPlane (2064 + sub)) (s.srcFmt (2064 + sub)).period)
  else if idx = 0x6100 then some (s.switchPoint j out)
  else
    -- the frame in hand ends at the first start of the new phase that leaves it its switch line (R154)
    let base := (s.plane (s.outPlane j)).origin + s.outOffset j
    let moved := (s.plane (s.outPlane j)).origin + (s.put 0x6200 j new).outOffset j
    let held := gridAtOrBefore base (s.outFmt j).period s.now + switchDelay (s.outKind j) (s.outFmt j)
    some (gridAtOrAfter moved (s.outFmt j).period (max s.now held))

/-- The plane on which a move is timed. -/
def State.movePlane (s : State) (m : Move) : Nat :=
  let j := m.sub % 0x800
  if m.index = 0x4000 ∨ m.index = 0x4100 ∨ m.index = 0x4200 then s.srcPlane j
  else if m.index = 0x5400 then s.srcPlane (2064 + m.sub)
  else if m.index = 0x8000 then s.srcPlane (2048 + m.sub)
  else if m.index = 0x6000 ∨ m.index = 0x6100 ∨ m.index = 0x6200 then s.outPlane j
  else 0

/-- The move points of plane `p` on its new timeline (R266); those on sample boundaries go with P0 too. -/
def replanMoves (s : State) (p : Nat) : State :=
  { s with moves := s.moves.map fun (m : Move) =>
      if m.point.isSome && (s.movePlane m == p || p == 0) then
        { m with point := ({ s with now := m.start }.movePoint m.index m.sub m.new).map (max s.now) }
      else m }

/-! Plane configuration (R37-R40, R44-R46). -/

/-- Whether the timebase tracks a candidate past its capture (R44). -/
def State.tracking (s : State) : Option Nat :=
  if s.ref.phase = .tracking ∧ (s.ref.tb = 1 ∨ s.ref.tb = 2) then s.ref.selected else none

/-- How far device time steps with a REORIGIN under candidate `c` (R46, R48, R76): by the build-out offset, for PTP. -/
def State.reoriginStep (s : State) (c : Nat) : Rat := if c = 6 ∨ c = 7 then -(s.ref.buildOut : Rat) else 0

/-- A plane enabled (R44): at the phase of the candidate tracked, or free-running with an arbitrary phase, a free value. -/
def enablePlane (s : State) (p : Nat) : State :=
  match s.tracking with
  | some c =>
    let r := planStep s p c s.now 0
    setOriginKind (s.setPlane p { origin := r.origin, hadLock := true }) p r.kind
  | none =>
    let frac : Rat := (s.drawn 32 : Nat) / (2 ^ 32 : Nat)
    setOriginKind (s.setPlane p { origin := s.now + frac * periodNs (s.planeRate p) }).draw p 0

/-- A pending step that a change of FORMAT or RATE cancels, decided again on the new frames (R39) by the candidate now selected.
A DESIGN CHOICE, where R39 is silent: with no candidate selected nothing is decided; the plane then waits for its first lock
again if the step was that, and keeps its origin if it was a REORIGIN. -/
def redecide (s : State) (p : Nat) (r : Reorigin) : State :=
  let s := s.setPlane p { s.plane p with step := none, hadLock := !r.first }
  match s.ref.selected with
  | some c =>
    let time := if r.first = false then s.reoriginStep c
      else if r.stepNs = 0 then 0
      else if c = 6 ∨ c = 7 then -s.ptpEpoch c else r.stepNs
    decideStep s p c time
  | none => s

/-- A write to 0x2010:p (R37-R40, R46). -/
def planeHandler (s : State) (p : Nat) (payload : List Byte) : Handler :=
  let v := ofBytes payload
  let old := s.elem 0x2010 p
  let on := bit v 31
  let rate := bits v 27 20 != bits old 27 20
  let word := setBits (setBits v 30 29 0) 19 18 (bits old 19 18)
  let h := plainHandler s 0x2010 p payload
    { range := decide (7 < bits v 27 24) || decide (12 < bits v 23 20) || (on && !planeComboOk (bits v 27 24) (bits v 23 20)) ||
        (p == 0 && !on)
      mode := s.inherited || (bit v 30 && (s.tracking.isNone || !bit old 31 || !on))
      headroom := s.planeInUse p && bit old 31 && (rate || !on) }
  { h with
    struct := true
    plane := p % 4
    old := logValue 4 (setBit old 29 s.inherited)
    commit := fun s =>
      let pending := (s.plane p).step
      let s := s.commit 0x2010 p word
      if !on then (s.setPlane p {}).putField 0x2010 p 19 18 0
      else if !bit old 31 then enablePlane s p
      else
        let s := match rate, pending with
          | true, some r => redecide s p r
          | _, _ => s
        match bit v 30, s.tracking with
        | true, some c => decideStep s p c (s.reoriginStep c)
        | _, _ => s }

def execPlaneConfigWrite (rq : Rq) (p : Nat) (v : Word) (s : State) : Host.Outcome State Fault Refusal :=
  act s fun s => request s rq opWrite 0x2010 p (valueBytes rq v) (planeHandler s p (valueBytes rq v))

/-- REORIGIN (R46): the write with its bit set. -/
def execReorigin (rq : Rq) (p : Nat) (v : Word) (s : State) : Host.Outcome State Fault Refusal :=
  let b := valueBytes rq (setBit v 30 true)
  act s fun s => request s rq opWrite 0x2010 p b (planeHandler s p b)

/-- A head's first frame boundary at or after `t`. -/
def State.headFrame (s : State) (h : Nat) (t : Rat) : Rat :=
  gridAtOrAfter (s.plane (s.srcPlane (2048 + h))).origin (s.srcFmt (2048 + h)).period t

/-! Banks (R235-R242). -/

/-- The scope bit of the bank an element belongs to (R235). -/
def bankNum (idx sub : Nat) : Option Nat := (bankOf idx sub).map Bank.num

def scopeHas (scope b : Nat) : Bool := bit scope b
/-- The scope bits of the banks that `f` picks. -/
def State.bankBits (s : State) (f : BankSt → Bool) : Nat :=
  sumNat ((List.range 5).map fun b => ofBool (f (s.bank b)) * 2 ^ b)
def State.anyBank (s : State) (scope : Nat) (f : BankSt → Bool) : Bool :=
  (List.range 5).any fun b => scopeHas scope b && f (s.bank b)

/-- The keys of bank `b` that any set holds at other than reset. -/
def State.bankKeys (s : State) (b : Nat) : List Nat :=
  (((s.shadow ++ s.dict).map Prod.fst).filter fun k => bankNum (k / 65536) (k % 65536) == some b).eraseDups

/-- The keys of bank `b` at which the shadow differs from the active set. -/
def State.bankDiff (s : State) (b : Nat) : List Nat :=
  (s.bankKeys b).filter fun k => mapGet keyReset s.shadow k != mapGet keyReset s.dict k

/-- LAST_REFUSAL of 0x1101:0000 (R268). -/
def noteRefusal (s : State) (code : Nat) : State := { s with lastRefusal := code }

/-- A write to a banked element (R236, R237, R241, R242): into the shadow. -/
def bankedHandler (s : State) (idx sub : Nat) (payload : List Byte) (c : Checks) : Handler :=
  let b := (bankNum idx sub).getD 0
  let h := plainHandler s idx sub payload
    { c with busy := c.busy || (s.bank b).armed, reseeding := c.reseeding || (s.bank b).reseeding }
  { h with
    bank := true
    old := match dictRow idx sub with
      | some r => logValue r.sizeHi (s.shadowElem idx sub)
      | none => 0
    commit := fun s => (s.putShadow idx sub (ofBytes payload)).setBank b { s.bank b with dirty := true } }

/-- 0x5200: RESULT and REASON of the last route write (R219); the rest is computed when it is read. -/
def noteRoute (s : State) (j status reason : Nat) : State := s.put 0x5200 j (status * 2 ^ 24 + reason * 2 ^ 16)

/-- Whether protection refuses a change of output `j` by a class and session (R217). -/
def State.protects (s : State) (j origin session : Nat) : Bool :=
  s.flag 0x5010 j 31 && !(s.field 0x5010 j 27 24 == origin && s.field 0x5010 j 15 0 == session)

/-- A route write (R214, R217, R236). -/
def routeHandler (s : State) (rq : Rq) (j : Nat) (payload : List Byte) : Handler :=
  let v := ofBytes payload
  let t := s.putShadow 0x5000 j v
  let codes := (if isInput v && (s.remoteOf v).asked.isSome then [0x01] else []) ++ t.routeCodes j v ++ t.budgetCodes
  let h := bankedHandler s 0x5000 j payload
    { range := v != noSource && decide (2080 ≤ v)
      prot := s.protects j rq.origin rq.session
      admission := !codes.isEmpty, reason := lowest codes }
  { h with
    plane := if s.outKind j = 0 then 0 else s.outPlane j
    commit := fun s => noteRoute (h.commit s) j 0 0
    refused := fun st s => noteRoute s j st (if st = stAdmission then lowest codes else 0) }

/-- A write to an audio route or gain (R252, R308, R310). -/
def audioRouteHandler (s : State) (idx n : Nat) (payload : List Byte) : Handler :=
  let v := ofBytes payload
  let t := s.putShadow idx n v
  let g := toSigned 16 v
  bankedHandler s idx n payload
    (if idx = 0x7000 then
      { range := s.aoutSecond n || (decide (0xC000 ≤ v) && v != 0xFFFF) || (decide (v < 0xC000) && s.ainSecond v)
        prot := (s.followerOf n).isSome
        admission := !t.budgetCodes.isEmpty, reason := lowest t.budgetCodes }
    else { range := s.aoutSecond n || (v != 0x8000 && (decide (g < -9600) || decide (2400 < g))) })

/-! Effect points (R52, R53, R59). -/

/-- The heads that a compositor or coefficient key of the dictionary affects. -/
def State.headsOf (s : State) (k : Nat) : List Nat :=
  let idx := k / 65536
  if 0x8100 ≤ idx ∧ idx < 0x8500 then [(idx - 0x8100) / 64]
  else if idx = 0x8800 then
    (s.liveLayers.filter fun i => (s.layerWords i).any fun w => bits w 29 27 == k % 65536 / 0x400).map (· / 64)
  else []

/-- The effect points of a take of `scope` at device time `t`, each with its plane (R52, R53): none where it changes nothing. -/
def State.effectPoints (s : State) (scope : Nat) (t : Rat) : List (Nat × Rat) :=
  (List.range 5).flatMap fun b =>
    if !scopeHas scope b then [] else
    let ks := s.bankDiff b
    if ks.isEmpty then []
    else if b = 0 then ks.map fun k => (s.outPlane (k % 65536), s.switchPoint (k % 65536) t)
    else if b = 1 ∨ b = 3 then [(0, s.sampleAtOrAfter t)]
    else ((ks.flatMap s.headsOf).eraseDups).map fun h => (s.srcPlane (2048 + h), s.headFrame h t)

/-- Their device times: the take's TP where it changes nothing. -/
def State.effects (s : State) (scope : Nat) (t : Rat) : List Rat :=
  let es := s.effectPoints scope t
  if es.isEmpty then [t] else es.map Prod.snd

def minRat : List Rat → Rat
  | [] => 0
  | t :: l => l.foldl min t

/-- The lead of 64 µs (R59, R60, R63). -/
abbrev lead : Rat := 64000

/-- Whether a take of `scope` at `tp` misses its lead (R59). -/
def State.takeLate (s : State) (plane tp scope : Nat) : Bool :=
  let t := s.tpTime plane tp
  tpLater (s.posAt plane s.now) tp || decide (minRat (s.effects scope t) < s.now + lead)

/-- The position at t0 + 64 µs on a plane (R61). -/
def State.nextTp (s : State) (plane : Nat) : Word := s.posUp plane (s.now + lead)

/-- Whether a bank of `scope` is stale, or will be before `t` by a pending salvo (R240, R261). -/
def State.staleBy (s : State) (scope : Nat) (t : Rat) : Bool :=
  s.anyBank scope BankSt.stale ||
    s.events.any fun e => e.kind == 2 && !e.fired && decide (s.tpTime e.plane e.tp < t) &&
      s.anyBank (scope &&& e.scope) BankSt.dirty

/-- The fields of a take's argument (R239). -/
def takeTp (v : Word) : Word := bits v 95 32
def takePlane (v : Word) : Nat := bits v 31 30
def takeNext (v : Word) : Bool := bit v 29
def takeCascade (v : Word) : Bool := bit v 28
def takeForce (v : Word) : Bool := bit v 27
def takeScope (v : Word) : Nat := bits v 4 0

/-- The TP a take holds, and whether the device chose it (R61). -/
def State.takeChoice (s : State) (v : Word) : Word × Bool :=
  let p := takePlane v
  let tp := takeTp v
  if takeNext v ∧ (tp = 0 ∨ s.takeLate p tp (takeScope v) = true) then (s.nextTp p, true) else (tp, false)

/-- A take accepted (R241): its banks armed, its entry queued. -/
def armTake (s : State) (rq : Rq) (v tp : Word) (chosen : Bool) : State :=
  let s := (List.range 5).foldl (fun s b =>
    if scopeHas (takeScope v) b then s.setBank b { s.bank b with armed := true } else s) s
  queueEvent s
    { tp := tp, plane := takePlane v, kind := 1, scope := takeScope v, next := chosen, cascade := takeCascade v
      force := takeForce v, rq := some rq }

/-- A take that was refused (R240, R268): counted, with its reason. -/
def takeRefused (stale : Bool) (status : Nat) (s : State) : State :=
  let s := s.count 0x1101 2
  if status = stBusy then noteRefusal s 2
  else if status = stReseeding then noteRefusal s 3
  else if status = stAdmission ∧ stale = true then noteRefusal s 1 else s

/-- Whether a class's mask lacks a write bit for the range of a bank in `scope` (R492). -/
def State.scopeDenied (s : State) (origin scope : Nat) : Bool :=
  ((scope &&& 1) != 0 && !s.maskAllows origin 0x5000 true) || ((scope &&& 10) != 0 && !s.maskAllows origin 0x7000 true) ||
    ((scope &&& 20) != 0 && !s.maskAllows origin 0x8000 true)

/-- A TAKE of this device (R239-R243, R59-R61, R406). -/
def takeHandler (s : State) (rq : Rq) (payload : List Byte) : Handler :=
  let v := ofBytes payload
  let p := takePlane v
  let c := s.takeChoice v
  let stale := !takeForce v && s.staleBy (takeScope v) (s.tpTime p c.1)
  { checks :=
      { range := !s.planeOn p || takeScope v == 0 || bits v 26 5 != 0 ||
          !((takeTp v == 0 && takeNext v) || tpValid (s.planeLines p) (takeTp v))
        access := s.scopeDenied rq.origin (takeScope v)
        mode := (takeScope v &&& s.bound) != 0
        busy := s.anyBank (takeScope v) BankSt.armed
        reseeding := s.anyBank (takeScope v) BankSt.reseeding
        late := !takeNext v && s.takeLate p (takeTp v) (takeScope v)
        admission := s.queueFull || stale }
    commit := fun s => armTake s rq v c.1 c.2
    data := fun _ => toBytes 8 c.1
    new := logBytes payload
    plane := p
    refused := takeRefused (stale && !s.queueFull) }

/-- Fired entries whose last effect point has passed leave the queue (R55). -/
def purgeEvents (s : State) : State :=
  { s with events := s.events.filter fun e => !(e.fired && decide (e.ends ≤ s.now)) }

/-- An entry fired at device time `t` (R55): its effect points, and the last of them. -/
def markFired (s : State) (order : Nat) (t : Rat) (points : List (Nat × Rat)) : State :=
  { s with events := s.events.map fun (x : Event) =>
      if x.order = order then { x with fired := true, points := points, ends := maxRat (t :: points.map Prod.snd) } else x }

/-- The outputs whose active route is not the one on air go to it at their switch points from `t` on (R245). -/
def scheduleSwitches (s : State) (t : Rat) (js : List Nat) : State :=
  js.foldl (fun s j =>
    let x := s.out j
    if s.elem 0x5000 j = s.airElem 0x5000 j then s.setOut j { x with swapAt := none }
    else if s.outKind j = 0 then s.putAir 0x5000 j (s.elem 0x5000 j)
    else s.setOut j { x with swapAt := some t }) s

/-- A take's TP (R54, R242): every bank in scope swaps at once and starts its reseed. -/
def fireTake (s : State) (e : Event) : State :=
  let t := s.tpTime e.plane e.tp
  let points := s.effectPoints e.scope t
  let routes := if scopeHas e.scope 0 then (s.bankDiff 0).map (· % 65536) else []
  let s := (List.range 5).foldl (fun s b =>
    if scopeHas e.scope b then
      let s := (s.bankKeys b).foldl (fun s k => { s with dict := mapSet keyReset s.dict k (mapGet keyReset s.shadow k) }) s
      s.setBank b { s.bank b with armed := false, reseeding := true }
    else s) s
  let s := scheduleSwitches s t routes
  let s := markFired s e.order t points
  purgeEvents (logEvent (s.count 0x1101 1) 0x1100 0 0 (logValue 8 e.tp) e.plane)

/-- A reseed ends (R242, R249, R250): at most 2 ms after its start. -/
def reseedDone (s : State) (b : Nat) : State := if (s.bank b).reseeding then s.setBank b {} else s

def execReseedComplete (b : Nat) (s : State) : Host.Outcome State Fault Refusal := onUnit b 5 s fun s => reseedDone s b

/-! ABORT and DISCARD (R248, R249). -/

/-- The pending takes whose scope shares a bit with `scope`. -/
def State.takesIn (s : State) (scope : Nat) (cascade : Bool) : List Event :=
  s.events.filter fun e => e.kind == 1 && !e.fired && (e.scope &&& scope) != 0 && e.cascade == cascade

/-- A take cancelled by an ABORT: its entry leaves the queue, its shadow keeps every edit. -/
def cancelTake (s : State) (e : Event) : State :=
  let s := disarm { s with events := s.events.filter fun x => x.order != e.order } e.scope
  logEvent (s.count 0x1101 3) 0x1100 1 (logValue 8 e.tp) 0 e.plane

/-- An ABORT of takes of this device (R248): from their origin, LOCAL or SERVICE, in time for each. -/
def abortHandler (s : State) (rq : Rq) (payload : List Byte) : Handler :=
  let v := ofBytes payload
  let es := s.events.filter fun e => e.kind == 1 && !e.fired && (e.scope &&& bits v 4 0) != 0
  { checks :=
      { access := rq.origin != 0 && rq.origin != 4 &&
          es.any fun e => match e.rq with
            | some r => r.origin != rq.origin
            | none => true
        range := bits v 27 5 != 0 || bits v 31 29 != 0
        mode := (bits v 4 0 &&& s.bound) != 0
        late := es.any fun e => decide (minRat (s.effects e.scope (s.tpTime e.plane e.tp)) < s.now + lead) }
    commit := fun s => es.foldl cancelTake s
    data := fun _ => toBytes 1 (es.foldl (fun a e => a ||| e.scope) 0)
    new := logBytes payload }

/-- A DISCARD (R249): the shadows are reseeded from the active sets. -/
def discardHandler (s : State) (payload : List Byte) : Handler :=
  let v := ofBytes payload
  { checks :=
      { range := decide (32 ≤ v), mode := (v &&& s.bound) != 0, busy := s.anyBank v BankSt.armed, reseeding := s.anyBank v BankSt.reseeding }
    commit := fun s => (List.range 5).foldl (fun s b =>
      if scopeHas v b then
        let s := (s.bankKeys b).foldl (fun s k => { s with shadow := mapSet keyReset s.shadow k (mapGet keyReset s.dict k) }) s
        s.setBank b { reseeding := true }
      else s) s
    new := logBytes payload }

def execDiscard (rq : Rq) (v : Word) (s : State) : Host.Outcome State Fault Refusal :=
  act s fun s => request s rq opWrite 0x1100 2 (valueBytes rq v) (discardHandler s (valueBytes rq v))

/-! Salvos (R255-R260). -/

def salvoCount (image : List Byte) : Nat := ofBytes (image.take 2)
def salvoPlane (image : List Byte) : Nat := bits (ofBytes (image.take 8)) 47 46

/-- The entries of an image: index, sub-index, value, and whether the reserved bits are zero. -/
def salvoEntries : Nat → List Byte → List (Nat × Nat × Nat × Bool)
  | 0, _ => []
  | n + 1, b =>
    let w := ofBytes (b.take 8)
    (bits w 63 48, bits w 47 32, bits w 15 0, bits w 31 16 == 0) :: salvoEntries n (b.drop 8)

def imageEntries (image : List Byte) : List (Nat × Nat × Nat) :=
  (salvoEntries (salvoCount image) (image.drop 8)).map fun e => (e.1, e.2.1, e.2.2.1)

/-- What an entry fails at store (R256): 0 where it fails nothing. -/
def State.salvoEntryFails (s : State) (e : Nat × Nat × Nat × Bool) : Nat :=
  let idx := e.1
  let sub := e.2.1
  let v := e.2.2.1
  let g := toSigned 16 v
  if idx ≠ 0x5000 ∧ idx ≠ 0x7000 ∧ idx ≠ 0x7100 then stRange
  else if (dictRow idx sub).isNone then stNoSub
  else if idx = 0x5000 ∧ v ≠ noSource ∧ 2080 ≤ v then stRange
  else if idx = 0x7000 ∧ (s.aoutSecond sub ∨ (0xC000 ≤ v ∧ v ≠ 0xFFFF) ∨ (v < 0xC000 ∧ s.ainSecond v)) then stRange
  else if idx = 0x7100 ∧ (s.aoutSecond sub ∨ (v ≠ 0x8000 ∧ (g < -9600 ∨ 2400 < g))) then stRange
  else if e.2.2.2 then 0 else stRange

/-- The first failure of an image's entries, in turn (R256): an element named before is out of range. -/
def State.salvoFirst (s : State) : List (Nat × Nat) → List (Nat × Nat × Nat × Bool) → Nat
  | _, [] => 0
  | seen, e :: l =>
    let f := s.salvoEntryFails e
    if f ≠ 0 then f
    else if seen.contains (e.1, e.2.1) then stRange
    else s.salvoFirst ((e.1, e.2.1) :: seen) l

/-- The entries stored in all salvos (R255, 0x1110:0041). -/
def State.salvoTotal (s : State) : Nat := sumNat ((List.range 64).map fun n => salvoCount (s.blob 0x1110 n))

/-- A salvo store (R255, R256): the first failure refuses the whole image. -/
def salvoHandler (s : State) (n : Nat) (image : List Byte) : Handler :=
  let es := salvoEntries (salvoCount image) (image.drop 8)
  let head := ofBytes (image.take 8)
  let shape := image.length != 8 + 8 * salvoCount image
  let first := if bits head 45 32 ≠ 0 ∨ 32768 < salvoCount image then stRange
    else s.salvoFirst [] es
  { checks :=
      { type := shape, noSub := !shape && first == stNoSub, range := !shape && first == stRange
        admission := decide (32768 < s.salvoTotal - salvoCount (s.blob 0x1110 n) + salvoCount image) }
    commit := fun s => s.putBlob 0x1110 n image
    old := logBytes (s.blob 0x1110 n)
    new := logBytes image }

def execSalvoStore (rq : Rq) (n : Nat) (image : List Byte) (s : State) : Host.Outcome State Fault Refusal :=
  act s fun s => request s rq opWrite 0x1110 n image (salvoHandler s n image)

/-- The scope of a salvo (R259). -/
def imageScope (es : List (Nat × Nat × Nat)) : Nat :=
  ofBool (es.any fun e => e.1 == 0x5000) + 2 * ofBool (es.any fun e => e.1 != 0x5000)

/-- The TP of a firing (R259): t0 + 64 µs, or an armed take's TP on a bank it touches where that is later. -/
def State.salvoTp (s : State) (plane scope : Nat) : Word :=
  let ts := (s.events.filter fun e => e.kind == 1 && !e.fired && (e.scope &&& scope) != 0).map fun e => s.tpTime e.plane e.tp
  s.posUp plane (ts.foldl max (s.now + lead))

/-- What a firing checks (R257, R258), for an origin class and session. -/
def fireChecks (s : State) (n origin session : Nat) : Checks :=
  let image := s.blob 0x1110 n
  let es := imageEntries image
  let e : Event := { tp := 0, plane := salvoPlane image, kind := 2, scope := imageScope es, image := es }
  let t := { s with events := s.events ++ [e] }
  let codes := (es.flatMap fun i => if i.1 = 0x5000 then t.routeCodes i.2.1 i.2.2 else []) ++ t.budgetCodes
  { access := s.scopeDenied origin (imageScope es)
    range := salvoCount image == 0 || !s.planeOn (salvoPlane image)
    mode := (imageScope es &&& s.bound) != 0
    prot := es.any fun i => (i.1 == 0x5000 && s.protects i.2.1 origin session) ||
      (i.1 == 0x7000 && (s.followerOf i.2.1).isSome)
    admission := !codes.isEmpty || s.queueFull
    reason := lowest codes }

/-- A firing accepted (R257, R259). -/
def queueSalvo (s : State) (n : Nat) (rq : Option Rq) : State :=
  let image := s.blob 0x1110 n
  let es := imageEntries image
  let p := salvoPlane image
  queueEvent s { tp := s.salvoTp p (imageScope es), plane := p, kind := 2, scope := imageScope es, arg := n, next := true
                 image := es, rq := rq }

/-- A firing refused (R258, R268). -/
def fireRefused (status : Nat) (s : State) : State :=
  let s := s.count 0x1101 5
  if status = stProtected then noteRefusal s 4 else if status = stAdmission then noteRefusal s 5 else s

def fireHandler (s : State) (rq : Rq) (payload : List Byte) : Handler :=
  let v := ofBytes payload
  let n := bits v 5 0
  let image := s.blob 0x1110 n
  let p := salvoPlane image
  let tp := s.salvoTp p (imageScope (imageEntries image))
  let c := fireChecks s n rq.origin rq.session
  { checks := { c with range := c.range || decide (64 ≤ v) }
    commit := fun s => queueSalvo s n (some rq)
    data := fun _ => toBytes 8 tp
    new := logBytes payload
    plane := p
    refused := fireRefused }

/-- A salvo fired by a field-bank input (R257, R258): LOCAL, session 0; a refusal raises a NOTE. -/
def fireFromField (s : State) (n : Nat) : State :=
  let c := fireChecks s n 0 0
  let status := firstFailure [(s.mode == .faulted, stFaulted), (c.range, stRange),
    (s.mode == .boot || c.mode, stMode), (c.prot, stProtected), (s.logStrict && s.logFull, stLogFull),
    (c.admission, stAdmission)]
  if status = stOk then
    logEvent (queueSalvo s n none) 0x1110 0x40 0 (logValue 2 n) (salvoPlane (s.blob 0x1110 n))
  else
    let s := fireRefused status s
    let s := if status = stAdmission then
        s.put 0x5300 8 (0x1110 * 2 ^ 48 + 0x40 * 2 ^ 32 + status * 2 ^ 24 + (if c.reason = 0 then 0x13 else c.reason) * 2 ^ 16)
      else s
    logEvent (declareFault s 0x085 n) 0x1110 0x40 0 (logValue 2 n) 0 false status

def execSalvoFire (who : Firer) (v : Word) (s : State) : Host.Outcome State Fault Refusal :=
  match who with
  | .dumus rq => act s fun s => request s rq opWrite 0x1110 0x40 (valueBytes rq v) (fireHandler s rq (valueBytes rq v))
  | .fieldInput _ => actRunning s fun s => fireFromField s (v % 64)

/-- A salvo at its TP (R260): its entries enter the active set, and the shadow where its bank is clean or reseeding. -/
def fireSalvo (s : State) (e : Event) : State :=
  let t := s.tpTime e.plane e.tp
  let changed := e.image.filter fun i => s.elem i.1 i.2.1 != i.2.2
  let s := e.image.foldl (fun s i =>
    let b := if i.1 = 0x5000 then 0 else 1
    let s := s.put i.1 i.2.1 i.2.2
    if (s.bank b).reseeding || !(s.bank b).dirty then s.putShadow i.1 i.2.1 i.2.2 else s) s
  let s := [0, 1].foldl (fun s b =>
    if scopeHas e.scope b && (s.bank b).dirty && !(s.bank b).reseeding then s.setBank b { s.bank b with stale := true } else s) s
  let routes := (changed.filter fun i => i.1 == 0x5000).map fun i => i.2.1
  let points := (routes.map fun j => (s.outPlane j, s.switchPoint j t)) ++
    (if changed.any fun i => i.1 != 0x5000 then [(0, s.sampleAtOrAfter t)] else [])
  let s := scheduleSwitches s t routes
  let s := markFired s e.order t points
  purgeEvents (logEvent (s.count 0x1101 4) 0x1110 0x40 0 (logValue 2 e.arg) e.plane)

/-- The earliest due take or salvo in commit order fires (R57). -/
def fireNext (s : State) (kinds : List Nat) : State :=
  match s.dueEvent kinds with
  | some e => if e.kind = 1 then fireTake s e else fireSalvo s e
  | none => purgeEvents s

def execTakeSwap (s : State) : Host.Outcome State Fault Refusal := actRunning s fun s => fireNext s [1]
def execSalvoExecute (s : State) : Host.Outcome State Fault Refusal := actRunning s fun s => fireNext s [2]

/-- 0x1101:0000 (R268). -/
def State.setStatus (s : State) : Word :=
  s.bankBits BankSt.armed * 2 ^ 27 + s.bankBits BankSt.reseeding * 2 ^ 22 + s.bankBits BankSt.dirty * 2 ^ 17 +
    s.bankBits BankSt.stale * 2 ^ 12 + s.lastRefusal * 2 ^ 8 + s.moves.length % 256

/-! Protection and budgets (R217, R218). -/

/-- A write to 0x5010:j (R217). -/
def protectHandler (s : State) (rq : Rq) (j : Nat) (payload : List Byte) : Handler :=
  let v := ofBytes payload
  let held := s.flag 0x5010 j 31
  let other := s.protects j rq.origin rq.session
  let word := if bit v 31 then 2 ^ 31 + rq.origin * 2 ^ 24 + rq.session else 0
  { checks := { range := bits v 30 28 != 0 || bits v 23 16 != 0
                prot := if bit v 31 then other else held && other && rq.origin != 0 && rq.origin != 4 }
    commit := fun s => s.commit 0x5010 j word
    old := plainOld s 0x5010 j
    new := logBytes payload
    plane := if s.outKind j = 0 then 0 else s.outPlane j }

def execProtectionWrite (rq : Rq) (j : Nat) (v : Word) (s : State) : Host.Outcome State Fault Refusal :=
  act s fun s => request s rq opWrite 0x5010 j (valueBytes rq v) (protectHandler s rq j (valueBytes rq v))

/-- A write to 0x5100:j (R218). -/
def latencyHandler (s : State) (j : Nat) (payload : List Byte) : Handler :=
  let v := ofBytes payload
  let beyond := (s.routes j).any fun n => n != noSource && s.srcBound n && decide ((v : Rat) < s.promise j n)
  plainHandler s 0x5100 j payload
    { range := decide (v < 1000) || decide (1000000000 < v), admission := beyond, reason := 0x0D }

end Sys2Proof.Machine
end

