-- ==== Sys2Proof/Machine/Moves.lean ====
section
/-! DEFINITION. Structural changes of flows and generators (R135-R137, R147, R149, R154, R169, R188, R197, R206, R207,
R215, R231-R234, R251, R253, R262-R266): own rules, in use, moves and move points. -/

namespace Sys2Proof.Machine

/-! In use (R221). -/

def State.inputUsed (s : State) (n : Nat) : Bool :=
  !(s.readersOf n).isEmpty || s.layerReads n || s.captureSources.contains n || s.spriteSources.contains n ||
    s.sends.any fun t => t.source == n
/-- A generator is in use like an input, and while an insert waits or runs on it (R221). -/
def State.genUsed (s : State) (g : Nat) : Bool :=
  s.inputUsed (2064 + g) || s.windows.any fun e => (e.2.state == 1 || e.2.state == 2) && winOp e.2.command == 2 &&
    !s.winAudio e.1 && winTarget e.2.command == g
/-- Whether a source carries a tether send (R402). -/
def State.sentOut (s : State) (n : Nat) : Bool := s.sends.any fun t => t.source == n
def State.outputUsed (s : State) (j : Nat) : Bool := (s.routes j).any (· != noSource)

def State.moveOf (s : State) (idx sub : Nat) : Option Move := s.moves.find? fun m => m.index == idx && m.sub == sub

/-! Moves (R263-R266). -/

/-- The new side of an input built beside the old one (R263): flow 0x8000 + j with the new elements. -/
def buildNewSide (s : State) (m : Move) : State :=
  let j := m.sub
  let v := 0x8000 + j
  let copy (s : State) (idx : Nat) : State :=
    s.put idx v (match s.moveOf idx j with
      | some x => x.new
      | none => s.elem idx j)
  let s := [0x4000, 0x4100, 0x4200, 0x4500].foldl copy s
  startInput (s.put 0x4200 (0x800 + v) (s.elem 0x4200 (0x800 + j))) v

/-- Whether a moved element has an intake side of its own. -/
def Move.isIntake (m : Move) : Bool :=
  (m.index == 0x4000 || m.index == 0x4100 || m.index == 0x4200) && decide (m.sub < 0x800)

def startMove (s : State) (m : Move) : State :=
  let s := { s with moves := s.moves ++ [m] }
  if m.isIntake then buildNewSide s m else s

/-- The synchroniser status word of an input (0x5510): SYNC and depth. -/
def settleSync (s : State) (j : Nat) : State :=
  if s.synced j && bindKind (s.inBind j) != 3 && bindKind (s.inBind j) != 0 then
    s.put 0x5510 j (2 ^ 31 + s.field 0x4200 j 29 29 * 2 ^ 30)
  else s.put 0x5510 j 0

/-- The fewest free pool blocks (0x5500:0005). -/
def notePool (s : State) : State :=
  let free := poolBlocks - s.poolUsed
  if free < s.elem 0x5500 5 then s.put 0x5500 5 free else s

/-- The new side takes the flow's place (R263). -/
def adoptNewSide (s : State) (j : Nat) : State :=
  let v := 0x8000 + j
  let new := (s.cellsOf v).lines
  let old := (s.cellsOf j).lines.filter fun y => !(new.any fun x => x.frame == y.frame && x.line == y.line)
  let s := (s.setIn j (s.in_ v)).setCells j { lines := old ++ new, anc := (s.cellsOf j).anc ++ (s.cellsOf v).anc }
  let s := s.put 0x4300 j (s.elem 0x4300 v)
  let s := s.put 0x4300 (0x4000 + j) (s.elem 0x4300 (0x4000 + v))
  dropNewSide (s.put 0x4300 (0x800 + j) (s.elem 0x4300 (0x800 + v))) j

/-- The origin node and source that a tether binding names (R399). -/
def bindOrigin (w : Word) : Nat × Nat := (bits w 23 12, bits w 11 0)

/-- Whether input `j` takes a stream: by its binding, a move, or a reservation asked for. -/
def State.takesStream (s : State) (t : Stream) (j : Nat) : Bool :=
  let names (w : Word) : Bool := bindKind w == 3 && bindOrigin w == (t.node, t.source)
  names (s.inBind j) || (s.moveOf 0x4000 j).any (fun m => names m.new) || (s.remoteOf j).asked.any names

/-- Streams that nothing takes or forwards any more give their holds back, here and toward the origin (R400). -/
def tidyStreams (s : State) : State :=
  let own := s.elem 0xA000 0
  let ts := s.tether.streams.map fun (t : Stream) => { t with flows := t.flows.filter (s.takesStream t) }
  let gone (t : Stream) : Bool := t.outs.isEmpty && t.flows.isEmpty
  let s := { s with tether := { s.tether with streams := ts.filter fun t => !gone t } }
  (ts.filter fun t => gone t && t.node != own).foldl (fun s (t : Stream) => match t.from_ with
    | some o => s.emit (.reserve o.1 (.free t.node t.source))
    | none => s) s

/-- An input that is no longer a tether input reports no remote route. -/
def settleRemote (s : State) (j : Nat) : State :=
  let s := if bindKind (s.inBind j) = 3 ∨ (s.remoteOf j).asked.isSome then s
    else (s.put 0xA200 j 0) |> fun s => { s with remote := mapErase s.remote j }
  tidyStreams s

/-- What follows a changed flow element: its new intake, its output's run, its stream descriptions. -/
def settleFlow (s : State) (idx sub : Nat) (fresh : Bool) : State :=
  let j := sub % 0x800
  let isIn := decide (idx < 0x5000)
  let desc (s : State) : State := rebuildDesc s (fun w => isIn && !isAudioKind (entryKind w) && entryTarget w == j)
    (fun w => !isIn && !isAudioKind (entryKind w) && entryTarget w == j)
  if idx = 0x7410 ∨ idx = 0x5520 ∨ idx = 0x8000 then notePool s
  else if idx = 0x5400 ∨ 0x800 ≤ sub then s
  else if isIn then
    let s := if idx = 0x4200 then s.putFlag 0x4300 (0x4000 + j) 27 false else s
    let s := notePool (desc (settleSync (if fresh && idx != 0x4500 then startInput s j else s) j))
    if idx = 0x4000 then settleRemote s j else s
  else
    let x := s.out j
    desc (s.setOut j (if idx = 0x6000 then { force := x.force }
      else if idx = 0x6100 then { x with force := none, frame := none, changeTo := none }
      else { x with frame := none, changeTo := none }))

/-- The format of a source or of a declaration that an output goes to (R153, R191, R216): a change starts at `t`, with fill until
the first frame start of the new format. -/
def startChange (s : State) (j : Nat) (old new : Fmt) (t : Rat) : State :=
  if old = new then s
  else (s.setOut j { s.out j with force := some old.code, changeTo := some new.code, changeAt := t }).putFlag 0x6400 j 29 true

/-- A FOLLOW output takes the format of the source it carries (R216). -/
def followFormat (s : State) (j : Nat) (t : Rat) : State :=
  let n := s.airElem 0x5000 j
  if s.follows j && s.outKind j != 0 && s.srcBound n then startChange s j (s.outFmt j) (s.srcFmt n) t else s

/-- The FOLLOW outputs that carry source `n` take its new format at its move point (R216, R263). -/
def followSource (s : State) (n : Nat) : State :=
  ((s.touched 0x5000).filter fun j => s.airElem 0x5000 j == n).foldl (fun s j => followFormat s j s.now) s

/-- A format policy at its move point (R215, R263): the output changes to its declared format, or a FOLLOW output to that of
its source, by R153 or R191. -/
def movePolicy (s : State) (m : Move) : State :=
  let j := m.sub
  let old := s.outFmt j
  let s := s.put 0x6100 j m.new
  let n := s.airElem 0x5000 j
  let new := if s.follows j && s.srcBound n then s.srcFmt n else fmtOfWord m.new
  let s := if old = new then s.setOut j { s.out j with force := if s.follows j then some new.code else none, changeTo := none }
    else startChange s j old new s.now
  rebuildDesc s (fun _ => false) fun w => !isAudioKind (entryKind w) && entryTarget w == j

/-- Whether a move is due (R263); a head's is HEAD_TIMING_CHANGE's (R381): SYNC from 0 to 1 waits for a complete frame in the new window. -/
def State.moveDue (s : State) (m : Move) : Bool :=
  match m.point with
  | some t => decide (t ≤ s.now) && m.index != 0x8000
  | none => (s.in_ (0x8000 + m.sub)).win.any fun f =>
      f.stored && decide (formActive (s.srcFmt (0x8000 + m.sub)).form ≤ f.lines.length)

/-- A move point (R262-R265): the users are transferred, the old resources freed, the change logged. -/
def finishMove (s : State) (m : Move) : State :=
  let s := { s with moves := s.moves.filter fun (x : Move) => !(x.index == m.index && x.sub == m.sub) }
  let s := if m.index = 0x6100 then movePolicy s m else s.put m.index m.sub m.new
  let others := s.moves.any fun x => x.isIntake && x.sub == m.sub
  let s := if m.isIntake && !others then adoptNewSide s m.sub else s
  let s := if m.index = 0x6100 then s else settleFlow s m.index m.sub (m.isIntake && others)
  let s := if m.isIntake then followSource s m.sub else if m.index = 0x5400 then followSource s (2064 + m.sub) else s
  logEvent s m.index m.sub (logValue 4 m.old) (logValue 4 m.new) 0 true

def execMovePoint (idx sub : Nat) (s : State) : Host.Outcome State Fault Refusal :=
  actRunning s fun s => match s.moveOf idx sub with
    | some m => if s.moveDue m then finishMove s m else s
    | none => s

/-! Own rules of bindings (R133-R137, R169). -/

/-- What a binding fails with OUT_OF_RANGE (R33, R135, R169, R399). -/
def bindRange (s : State) (isIn : Bool) (_j : Nat) (w : Word) : Bool :=
  let lane := bindLane w
  match bindKind w with
  | 0 => w != 0
  | 1 => bits w 25 24 == 2 || bits w 25 24 == 3 || bits w 19 16 != 0 || bits w 7 0 != 0 || (bit w 21 && !bindQuad w) ||
      (bit w 20 && !isIn) || decide (191 < lane) || (bindQuad w && lane % 4 != 0) || !s.planeOn (bindPlane w)
  | 2 => bits w 23 16 != 0 || !s.planeOn (bindPlane w) ||
      (if bit w 24 then bits w 15 0 == 0 || decide (48000 < bits w 15 0) else bits w 15 0 != 0)
  | 3 => !isIn || bits w 25 24 != 0 || bits w 23 12 == s.elem 0xA000 0 || decide (2079 < bits w 11 0) ||
      !s.planeOn (bindPlane w)
  | _ => true

/-- Whether another flow has one of the binding's lanes, or is moving to it, Level B-DS partners apart (R136, R137). -/
def laneTaken (s : State) (isIn : Bool) (j : Nat) (w : Word) (f : Fmt) : Bool :=
  let idx := if isIn then 0x4000 else 0x6000
  let moving := (s.moves.filter fun m => m.index == idx && decide (m.sub < 0x800)).map fun m => (m.sub, m.new)
  (bindLanes w).any fun l => (s.bindings idx ++ moving).any fun e =>
    e.1 != j && bindUsesLane e.2 l &&
      !(decide (2 ≤ bits w 23 22) && decide (2 ≤ bits e.2 23 22) && bits w 23 22 != bits e.2 23 22 &&
        bindPlane e.2 == bindPlane w && (if isIn then s.srcFmt e.1 else s.outFmt e.1) == f)

/-- Whether a binding fails a condition of its own rule, reason 0x13 (R36, R133, R136, R173, R234). -/
def bindFails (s : State) (isIn : Bool) (j : Nat) (w : Word) (f : Fmt) : Bool :=
  let family := rateFamily f.rate != rateFamily (s.planeRateCode (bindPlane w))
  match bindKind w with
  | 1 => family || laneTaken s isIn j w f || (bindLanes w).any fun l =>
      s.protocol l != protoSdi || !(if isIn then laneRxEn (s.laneMode l) else laneTxEn (s.laneMode l)) ||
        (!isIn && lanePlane (s.laneMode l) != bindPlane w) ||
        !sdiCarries f (if isIn then s.rxCode l else s.txCode l) (bits w 23 22) (bindQuad w)
  | 2 => family || !f.ok
  | _ => false

/-- The rule of a change: range, its own codes, whether it moves, whether use forbids it outright. -/
structure Change where
  range : Bool := false
  mode : Bool := false
  codes : List Nat := []
  used : Bool := false
  moves : Bool := true
  forbidden : Bool := false
  plane : Nat := 0
deriving DecidableEq, Repr

/-- A structural write checked twice (R262, R264, R265) and applied, at once or by a move. -/
def structuralHandler (s : State) (idx sub : Nat) (payload : List Byte) (c : Change) : Handler :=
  let v := ofBytes payload
  let old := s.elem idx sub
  let t := s.put idx sub v
  let codes := c.codes ++ t.budgetCodes
  let m : Move := { index := idx, sub := sub, old := old, new := v, start := s.now, point := s.movePoint idx sub v }
  let during := { s with moves := s.moves ++ [m] }
  let moving := c.used && c.moves && v != old
  let h := plainHandler s idx sub payload
    { range := c.range, mode := c.mode
      headroom := c.forbidden || (s.moveOf idx sub).isSome || decide (poolBlocks < t.poolUsed) ||
        (c.used && !c.moves && v != old) || (moving && (decide (255 ≤ s.moves.length) || during.overlapFails))
      admission := !codes.isEmpty, reason := lowest codes }
  { h with
    struct := true
    plane := c.plane
    commit := fun s =>
      if moving then notePool (startMove s m)
      else if idx = 0x4200 ∧ setBit v 30 false = setBit old 30 false then s.commit idx sub v  -- AUTO_SYNC alone (R231)
      else settleFlow (s.commit idx sub v) idx sub (v != old) }

def own (b : Bool) : List Nat := if b then [0x13] else []

/-- 0x4000:j and 0x6000:j (R135, R136, R169); KIND = TETHER apart. -/
def bindChange (s : State) (isIn : Bool) (j : Nat) (w : Word) : Change :=
  let idx := if isIn then 0x4000 else 0x6000
  let t := s.put idx j w
  let used := if isIn then s.inputUsed j else s.outputUsed j
  let f := if isIn then t.srcFmt j else t.outFmt j
  let p := bindPlane w
  let off := toSigned 32 (s.elem 0x6200 j)
  let max : Int := (s.planeLines p * 4096 : Nat)
  -- embedded audio of an IP flow is for ST 2022-6 alone (R169)
  let embed := bindKind w == 2 && s.elem idx (0x800 + j) != 0 && !(if isIn then s.in2022 j else s.out2022 j)
  -- no layer, capture or tether send reads an OPAQUE source (R180)
  let read := isIn && bindOpaque w && (s.layerReads j || s.spriteSources.contains j || s.captureSources.contains j || s.sentOut j)
  { range := bindRange s isIn j w || (isIn && bindOpaque w && s.elem 0x4200 j != 0x04000000) || (!isIn && (decide (off ≤ -max) || decide (max ≤ off) || t.followOverlap))
    codes := own (bindFails s isIn j w f || embed) ++ (if read then [0x06] else []) ++
      t.routeCodesOf (if isIn then s.readersOf j else [j])
    used := used
    forbidden := used && (bindKind w == 0 || (isIn && s.sentOut j && p != s.srcPlane j)), plane := p }

/-- Most groups of embedded audio for a flow (R147, R149). -/
def State.groupLimit (s : State) (isIn : Bool) (j : Nat) : Nat :=
  let w := if isIn then s.inBind j else s.outBind j
  let f := if isIn then s.srcFmt j else s.outFmt j
  if bindKind w = 1 then
    let code := if isIn then s.rxCode (bindLane w) else s.txCode (bindLane w)
    let cls := if code = 0x0F then ((List.range 5).find? fun c => sdiListed f c (bits w 23 22) (bindQuad w)).getD 0
      else code / 2
    if bindQuad w then 8 else if cls ≤ 1 ∨ 2 ≤ bits w 23 22 then 4 else 8
  else if bindKind w = 2 then
    (if (if isIn then s.in2022 j else s.out2022 j) then (if class2022 f = some 2 then 8 else 4) else 0)
  else if bindKind w = 3 then 0 else 8

/-- De-embedding and embedding (R147, R149, R169). A DESIGN CHOICE: at 96 kHz half the channels of R148 are half the groups, each
with its four channels. -/
def embedChange (s : State) (isIn : Bool) (j : Nat) (w : Word) : Change :=
  let idx := if isIn then 0x4000 else 0x6000
  let t := s.put idx (0x800 + j) w
  let top := if isIn then 40960 else 49152
  let limit := s.groupLimit isIn j
  { range := decide (2 ≤ bits w 11 10) || bits w 7 0 != 0 || (!isIn && bit w 8) ||
      decide ((if embedB w then limit / 2 else limit) < embedGroups w) || decide (top < embedBase w + embedSlots w) ||
      decide (top ≤ embedBase w) || (limit == 0 && w != 0) || t.followOverlap
    codes := own (if isIn then t.ainOverlap else t.aoutConflict)
    used := if isIn then s.inputUsed j else s.outputUsed j
    plane := if isIn then s.srcPlane j else s.outPlane j }

/-- Associated audio (R251, R252). -/
def assocChange (s : State) (isIn : Bool) (j : Nat) (w : Word) : Change :=
  let idx := if isIn then 0x4000 else 0x6000
  let t := s.put idx (0x1000 + j) w
  let top := if isIn then 40960 else 49152
  let step := if bit w 29 then 2 else 1
  { range := (isIn && bit w 31) || (bit w 30 && (bit w 29 || bits w 28 22 != 0 || bits w 15 0 != 0)) ||
      decide (64 < bits w 28 22) || decide (top < bits w 15 0 + step * bits w 28 22) || bits w 21 16 != 0 || t.followOverlap
    codes := t.budgetCodes
    used := if isIn then s.inputUsed j else s.outputUsed j
    plane := if isIn then s.srcPlane j else s.outPlane j }

/-- COLORIMETRY and TCS codes of R192. -/
def metaReserved (w : Word) : Bool :=
  (decide (4 ≤ bits w 20 17) && bits w 20 17 != 0xF) || (decide (3 ≤ bits w 16 13) && bits w 16 13 != 0xF)

/-- 0x4100:j (R197). A tether input's declaration is the origin's (R400). -/
def declareChange (s : State) (j : Nat) (w : Word) : Change :=
  let t := s.put 0x4100 j w
  let f := fmtOfWord w
  let b := s.inBind j
  { range := decide (8 ≤ f.form) || decide (13 ≤ f.rate) || decide (6 ≤ f.samp) || decide (512 < bits w 11 2) ||
      metaReserved w
    mode := bindKind b == 3
    forbidden := s.sentOut j && w != s.elem 0x4100 j
    codes := (if bindKind b = 0 then [] else own (bindFails t true j b f)) ++
      (if !bindOpaque b && decide (48000000000 < f.cellRate (bits w 11 2)) then [0x0B] else []) ++ t.routeCodesOf (s.readersOf j)
    used := s.inputUsed j
    plane := s.srcPlane j }

/-- 0x4200:j (R231, R234): a change of AUTO_SYNC alone touches no resource. -/
def syncChange (s : State) (j : Nat) (w : Word) : Change :=
  let t := s.put 0x4200 j w
  let old := s.elem 0x4200 j
  { range := bits w 28 24 == 0 || decide (16 < bits w 28 24) || (!bit w 31 && bit w 29) ||
      (bindKind (s.inBind j) == 3 && w != 0x04000000) ||
      (bindOpaque (s.inBind j) && bits w 31 30 != 0)  -- an OPAQUE input is timed only (R522)
    codes := t.routeCodesOf (s.readersOf j)
    used := s.inputUsed j && setBit w 30 false != setBit old 30 false
    forbidden := s.sentOut j && (bit w 31 != bit old 31 || bits w 28 24 != bits old 28 24)
    plane := s.srcPlane j }

/-- 0x4500:j (R188): not listed in R263, so refused while the flow is in use. -/
def mergeChange (s : State) (j : Nat) (w : Word) : Change :=
  let t := s.put 0x4500 j w
  { range := decide (2000 < bits w 31 16), codes := t.budgetCodes, used := s.inputUsed j, moves := false
    plane := s.srcPlane j }

/-- 0x5400:g (R206). -/
def generatorChange (s : State) (g : Nat) (w : Word) : Change :=
  let t := s.put 0x5400 g w
  let f := fmtOfCode (bits w 25 15)
  let on := bit w 31
  { range := decide (6 ≤ bits w 30 28) || decide (8 ≤ f.form) || decide (13 ≤ f.rate) || decide (6 ≤ f.samp) ||
      (on && !s.planeOn (bits w 27 26))
    codes := own (on && (!f.ok || rateFamily f.rate != rateFamily (s.planeRateCode (bits w 27 26)))) ++
      t.routeCodesOf (s.readersOf (2064 + g))
    used := s.genUsed g, forbidden := s.genUsed g && !on, plane := bits w 27 26 }

/-- 0x6100:j (R215). -/
def policyChange (s : State) (j : Nat) (w : Word) : Change :=
  let t := (s.put 0x6100 j w).setOut j { s.out j with force := none }
  let f := fmtOfWord w
  let b := s.outBind j
  { range := decide (8 ≤ f.form) || decide (13 ≤ f.rate) || decide (6 ≤ f.samp)
    codes := (if bindKind b = 0 then [] else own (bindFails t false j b f)) ++ t.routeCodesOf [j]
    used := s.outputUsed j
    plane := s.outPlane j }

/-- 0x6200:j (R154). -/
def offsetChange (s : State) (j : Nat) (w : Word) : Change :=
  let t := s.put 0x6200 j w
  let max : Int := (s.planeLines (s.outPlane j) * 4096 : Nat)
  let v := toSigned 32 w
  { range := decide (v ≤ -max) || decide (max ≤ v), codes := t.routeCodesOf [j], used := s.outputUsed j
    plane := s.outPlane j }

/-- The structural elements of flows and generators. -/
def flowHandler (s : State) (idx sub : Nat) (payload : List Byte) : Handler :=
  let w := ofBytes payload
  let j := sub % 0x800
  let isIn := decide (idx < 0x5000)
  structuralHandler s idx sub payload
    (if idx = 0x4000 ∨ idx = 0x6000 then
      (if sub < 0x800 then bindChange s isIn j w else if sub < 0x1000 then embedChange s isIn j w else assocChange s isIn j w)
    else if idx = 0x4100 then declareChange s j w
    else if idx = 0x4200 then syncChange s j w
    else if idx = 0x4500 then mergeChange s j w
    else if idx = 0x5400 then generatorChange s sub w
    else if idx = 0x6100 then policyChange s j w
    else offsetChange s j w)

/-- Immediate elements of flows (R207, R233, R253): hold time, flat colour, crossfade length. -/
def flowImmediate (s : State) (idx sub : Nat) (payload : List Byte) : Handler :=
  let v := ofBytes payload
  let badCode (c : Nat) : Bool := decide (c ≤ 3) || decide (1020 ≤ c)
  plainHandler s idx sub payload
    { range :=
        if idx = 0x4200 then decide (6000 < v)
        else if idx = 0x5400 then decide (2 ^ 30 ≤ v) || badCode (bits v 29 20) || badCode (bits v 19 10) || badCode (bits v 9 0)
        else decide (1024 < v) }

end Sys2Proof.Machine
end

