-- ==== Sys2Proof/Machine/Picture.lean ====
section
/-! DEFINITION. The compositor's pixel arithmetic (R354-R363, R374, R378-R380): sample words and pixels, colour, scaling,
blending, meters, cursor, output depth, and a whole composed line. -/

namespace Sys2Proof.Machine

/-! Pixels and sample words (R196, R356). -/

/-- Whether a sampling structure is Y'CbCr, 4:2:2, 12-bit. -/
def sampYuv (samp : Nat) : Bool := decide (samp ≤ 3)
def samp422 (samp : Nat) : Bool := decide (samp ≤ 1)
def samp12 (samp : Nat) : Bool := samp % 2 == 1

/-- 4:4:4 words as pixels. -/
def pixels444 : List Nat → List Pix
  | a :: b :: c :: l => (a, b, c) :: pixels444 l
  | _ => []

/-- Co-sited chroma pairs and both lumas of each 4:2:2 group: (Cb, Y0, Cr, Y1). -/
def groups422 : List Nat → List (Nat × Nat × Nat × Nat)
  | a :: b :: c :: d :: l => (a, b, c, d) :: groups422 l
  | _ => []

/-- 4:2:2 brought to 4:4:4: the sample between two co-sited ones is their mean, truncated; the last one is repeated. -/
def expand422 : List (Nat × Nat × Nat × Nat) → List Pix
  | [] => []
  | (cb, y0, cr, y1) :: l =>
    let (nb, nr) := match l with
      | (b, _, r, _) :: _ => (b, r)
      | [] => (cb, cr)
    (y0, cb, cr) :: (y1, (cb + nb + 1) / 2, (cr + nr + 1) / 2) :: expand422 l

/-- A line's pixels at 12 bits in 4:4:4. -/
def pixelsOf (samp : Nat) (words : List Nat) : List Pix :=
  let ws := if samp12 samp then words else words.map (· * 4)
  if samp422 samp then expand422 (groups422 ws)
  else if sampYuv samp then (pixels444 ws).map fun p => (p.2.1, p.1, p.2.2)
  else pixels444 ws

/-- Chroma at even x of a 4:2:2 line: (left + 2 x here + right + 2) / 4, truncated, edges repeated (R356). -/
def subsample : Pix → List Pix → List (Nat × Nat × Nat × Nat)
  | prev, p :: q :: l =>
    let r := q
    (((prev.2.1 + 2 * p.2.1 + r.2.1 + 2) / 4), p.1, ((prev.2.2 + 2 * p.2.2 + r.2.2 + 2) / 4), q.1) :: subsample q l
  | prev, [p] => [(((prev.2.1 + 3 * p.2.1 + 2) / 4), p.1, ((prev.2.2 + 3 * p.2.2 + 2) / 4), p.1)]
  | _, [] => []

/-- Pixels as 12-bit sample values in the order of a structure, each with its column. -/
def samplesOf (samp : Nat) (ps : List Pix) : List (Nat × Nat) :=
  if samp422 samp then
    ((subsample (ps.headD (0, 0, 0)) ps).zipIdx).flatMap fun (g, k) =>
      [(g.1, k), (g.2.1, 2 * k), (g.2.2.1, k), (g.2.2.2, 2 * k + 1)]
  else (ps.zipIdx).flatMap fun (p, x) =>
    if sampYuv samp then [(p.2.1, x), (p.1, x), (p.2.2, x)] else [(p.1, x), (p.2.1, x), (p.2.2, x)]

/-! Colour (R360, R361). -/

/-- K_R and K_B of a COLORIMETRY code (BT.709; BT.2020 and BT.2100 share theirs; PRESUMED from those standards). -/
def colourWeights (col : Nat) : Rat × Rat := if col = 1 then (2126 / 10000, 722 / 10000) else (2627 / 10000, 593 / 10000)

abbrev Colour := Rat × Rat × Rat

/-- Codes to 0-1 (Y', R', G', B') and -0.5 to +0.5 (Cb, Cr) under a range (R360). -/
def normLuma (full : Bool) (v : Rat) : Rat := if full then v / 4095 else (v - 256) / 3504
def normChroma (full : Bool) (v : Rat) : Rat := if full then (v - 2048) / 4095 else (v - 2048) / 3584
def normalise (yuv full : Bool) (p : Colour) : Colour :=
  if yuv then (normLuma full p.1, normChroma full p.2.1, normChroma full p.2.2)
  else (normLuma full p.1, normLuma full p.2.1, normLuma full p.2.2)

def codeLuma (full : Bool) (v : Rat) : Rat := if full then 4095 * v else 256 + 3504 * v
def codeChroma (full : Bool) (v : Rat) : Rat := if full then 2048 + 4095 * v else 2048 + 3584 * v
def toCodes (yuv full : Bool) (p : Colour) : Colour :=
  if yuv then (codeLuma full p.1, codeChroma full p.2.1, codeChroma full p.2.2)
  else (codeLuma full p.1, codeLuma full p.2.1, codeLuma full p.2.2)

/-- Normalised R'G'B' and Y'CbCr. -/
def rgbToYuv (col : Nat) (p : Colour) : Colour :=
  let (kr, kb) := colourWeights col
  let y := kr * p.1 + (1 - kr - kb) * p.2.1 + kb * p.2.2
  (y, (p.2.2 - y) / (2 * (1 - kb)), (p.1 - y) / (2 * (1 - kr)))
def yuvToRgb (col : Nat) (p : Colour) : Colour :=
  let (kr, kb) := colourWeights col
  let r := p.1 + 2 * (1 - kr) * p.2.2
  let b := p.1 + 2 * (1 - kb) * p.2.1
  (r, (p.1 - kr * r - kb * b) / (1 - kr - kb), b)

/-- A colour brought from one form to another. -/
def changeForm (col : Nat) (fromYuv toYuv : Bool) (p : Colour) : Colour :=
  if fromYuv == toYuv then p else if toYuv then rgbToYuv col p else yuvToRgb col p

def pixColour (p : Pix) : Colour := ((p.1 : Rat), (p.2.1 : Rat), (p.2.2 : Rat))

/-- A value in a table of 1,024 entries, between two of them by linear interpolation (R361). -/
def lookUp (table : Nat → Nat) (x : Rat) : Rat :=
  if x < 0 ∨ 1 < x then Config.lutBeyond x
  else
    let n := (x * 1023).floor.toNat
    let a : Rat := (table n : Nat) / 65535
    let b : Rat := (table (min 1023 (n + 1)) : Nat) / 65535
    a + (b - a) * (x * 1023 - (n : Nat))

/-- A table set on a colour: Cb and Cr are raised by 0.5 on the way in and lowered on the way out. -/
def applyLut (table : Nat → Nat → Nat) (yuv : Bool) (p : Colour) : Colour :=
  let chroma (c : Nat) (x : Rat) : Rat := if yuv then lookUp (table c) (x + 1 / 2) - 1 / 2 else lookUp (table c) x
  (lookUp (table 0) p.1, chroma 1 p.2.1, chroma 2 p.2.2)

/-- The matrix of nine Q16.16 elements and three offsets of 1/4,096. -/
def applyMatrix (m : List Word) (p : Colour) : Colour :=
  let e (i : Nat) : Rat := (toSigned 32 (m.getD i 0) : Int) / 65536
  let o (i : Nat) : Rat := (toSigned 16 (m.getD (9 + i) 0) : Int) / 4096
  let row (i : Nat) : Rat := e (3 * i) * p.1 + e (3 * i + 1) * p.2.1 + e (3 * i + 2) * p.2.2 + o i
  (row 0, row 1, row 2)

def clipRat (lo hi : Rat) (x : Rat) : Rat := if x < lo then lo else if hi < x then hi else x

/-- A head's form: Y'CbCr, full range, COLORIMETRY. -/
abbrev Form := Bool × Bool × Nat
def formOf (conf : Word) : Form := (sampYuv (bits conf 20 18), bit conf 17, bits conf 16 13)

/-- The colour conversion of a layer (R360): `ctl` is the colour control element, `m` the matrix and offsets. -/
def convertPix (lut : Nat → Nat → Nat → Nat) (ctl : Word) (m : List Word) (srcYuv srcFull : Bool) (h : Form) (p : Pix) :
    Colour :=
  let (yuv, full, col) := h
  let c := pixColour p
  if !bit ctl 31 then
    (if srcYuv == yuv && srcFull == full then c
     else toCodes yuv full (changeForm col srcYuv yuv (normalise srcYuv srcFull c)))
  else
    let x := normalise srcYuv srcFull c
    let x := if bits ctl 30 26 = 0 then x else applyLut (lut (bits ctl 30 26)) srcYuv x
    let x := applyMatrix m x
    let x := if bits ctl 25 21 = 0 then x else applyLut (lut (bits ctl 25 21)) yuv x
    let x := toCodes yuv full x
    (clipRat 4 4091 x.1, clipRat 4 4091 x.2.1, clipRat 4 4091 x.2.2)

/-! Scaling (R363). -/

/-- The nearest code, ties up, clipped to the legal codes. -/
def legalCode (x : Rat) : Nat := (max 16 (min 4079 (x + 1 / 2).floor)).toNat

/-- Where output sample `i` falls: first tap's centre and phase. -/
def tapPosition (i nOut nIn : Nat) : Int × Nat :=
  let p : Rat := ((i : Rat) + 1 / 2) * (nIn : Nat) / (nOut : Nat) - 1 / 2
  let n := p.floor
  let phi := (64 * (p - (n : Rat)) + 1 / 2).floor.toNat
  if phi = 64 then (n + 1, 0) else (n, phi)

def clampIndex (n : Int) (len : Nat) : Nat := (max 0 (min n ((len : Int) - 1))).toNat

/-- A weighted sum of `taps` samples whose first is `first`; samples beyond the edges repeat the edge. -/
def tapSum (coef : Nat → Int) (taps : Nat) (first : Int) (xs : List Colour) : Colour :=
  ((List.range taps).foldl (fun (a : Colour) (t : Nat) =>
    let x := xs.getD (clampIndex (first + (t : Int)) xs.length) (0, 0, 0)
    (a.1 + (coef t : Rat) * x.1, a.2.1 + (coef t : Rat) * x.2.1, a.2.2 + (coef t : Rat) * x.2.2)) ((0 : Rat), (0 : Rat), (0 : Rat)))

def legalPix (c : Colour) : Pix := (legalCode (c.1 / 16384), legalCode (c.2.1 / 16384), legalCode (c.2.2 / 16384))

/-- One cropped line scaled to the visible columns [x0, x0 + w) of a destination of `dw` pixels. -/
def scaleRow (coef : Nat → Nat → Int) (x0 w dw : Nat) (row : List Colour) : List Pix :=
  (List.range w).map fun x =>
    let (n, phi) := tapPosition (x0 + x) dw row.length
    legalPix (tapSum (coef phi) 8 (n - 3) row)

/-- Scaled lines scaled to the visible lines [y0, y0 + h) of a destination of `dh` lines. -/
def scaleColumns (coef : Nat → Nat → Int) (y0 h dh w : Nat) (rows : List (List Pix)) : List (List Pix) :=
  (List.range h).map fun y =>
    let (n, phi) := tapPosition (y0 + y) dh rows.length
    (List.range w).map fun x => legalPix (tapSum (coef phi) 6 (n - 2) (rows.map fun r => pixColour (r.getD x (0, 0, 0))))

/-- A staged line as the head's sampling structure and depth hold it, brought back to 4:4:4 for blending (R356, R364). -/
def holdRow (samp : Nat) (row : List Pix) : List Pix :=
  let cut (v : Nat) : Nat := if samp12 samp then v else min 4076 ((v + 2) / 4 * 4)
  let row := row.map fun p => (cut p.1, cut p.2.1, cut p.2.2)
  if samp422 samp then
    (expand422 ((subsample (row.headD (0, 0, 0)) row).map fun g => (cut g.1, g.2.1, cut g.2.2.1, g.2.2.2))).take row.length
  else row

/-! Blending (R356). -/

/-- `num / den` of an element over the picture below, to the nearest code, ties up. -/
def mixCode (num den e b : Nat) : Nat := (2 * (num * e + (den - num) * b) + den) / (2 * den)
def mixPix (num den : Nat) (e b : Pix) : Pix := (mixCode num den e.1 b.1, mixCode num den e.2.1 b.2.1, mixCode num den e.2.2 b.2.2)

def roundUp (x : Rat) : Nat := (x + 1 / 2).floor.toNat
def roundPix (c : Colour) : Pix := (roundUp c.1, roundUp c.2.1, roundUp c.2.2)

/-- A colour of three 10-bit codes at 12 bits. -/
def pix10 (w : Word) : Pix := (4 * bits w 29 20, 4 * bits w 19 10, 4 * bits w 9 0)

/-- Legal black of a form (R222, R354). -/
def blackPix (h : Form) : Pix :=
  if h.1 then (if h.2.1 then 0 else 256, 2048, 2048) else if h.2.1 then (0, 0, 0) else (256, 256, 256)

/-- An R'G'B' colour of 10-bit codes in a head's form at 12 bits, before it is rounded. -/
def rgbIn (h : Form) (full : Bool) (c : Nat × Nat × Nat) : Colour :=
  toCodes h.1 h.2.1 (changeForm h.2.2 false h.1
    (normalise false full (if full then ((c.1 : Rat) * 4095 / 1023, (c.2.1 : Rat) * 4095 / 1023, (c.2.2 : Rat) * 4095 / 1023)
      else (4 * (c.1 : Rat), 4 * (c.2.1 : Rat), 4 * (c.2.2 : Rat)))))

/-- A pixel of the row changed. -/
def setPix (row : List Pix) (x : Int) (f : Pix → Pix) : List Pix :=
  if x < 0 then row else row.modify x.toNat f

/-- Line `y` of a layer's contribution over the picture below (R356-R359, R365). -/
def layLine (h : Form) (y : Nat) (row : List Pix) (c : Contribution) : List Pix :=
  let g := c.geom
  let b : Int := (bits c.stack 15 12 : Nat)
  let alpha := bits c.stack 23 16
  let yy : Int := (y : Int) - g.dy
  if yy < 0 ∨ (g.dh : Int) ≤ yy then row
  else
    let y0 := max g.dy 0
    let x0 := max g.dx 0
    let line := c.staged.map fun s => s.rows.getD ((y : Int) - y0).toNat []
    (row.zipIdx).map fun (p, x) =>
      let xx : Int := (x : Int) - g.dx
      if xx < 0 ∨ (g.dw : Int) ≤ xx then p
      else if xx < b ∨ (g.dw : Int) - b ≤ xx ∨ yy < b ∨ (g.dh : Int) - b ≤ yy then mixPix alpha 255 (pix10 c.border) p
      else match line with
        | some l => (match l[((x : Int) - x0).toNat]? with
          | some e => mixPix alpha 255 e p
          | none => p)
        | none => mixPix alpha 255 (blackPix h) p

/-- The level of a filled pixel in 0.01 dB, and the zones' colours (R378). -/
def meterColour (bar : Word) (level : Int) : Nat × Nat × Nat :=
  if level < -100 * (bits bar 39 32 : Nat) then (64, 721, 64)
  else if level < -100 * (bits bar 31 24 : Nat) then (721, 721, 64) else (721, 64, 64)

/-- Line `y` of a meter bar (R378): `rms` and `peak` in 0.01 dBFS. -/
def barLine (h : Form) (y : Nat) (row : List Pix) (e : BarShot) : List Pix :=
  let bar := e.bar
  let len := bits bar 71 60
  let wid := bits bar 59 54
  let floor : Int := 100 * (bits bar 47 40 : Nat)
  let x0 := toSigned 16 (bits bar 103 88)
  let y0 := toSigned 16 (bits bar 87 72)
  let place (v : Int) : Int := max 0 (min (len : Int) (((v + floor : Int) : Rat) * (len : Nat) / (floor : Rat) + 1 / 2).floor)
  let fill := place e.rms
  let mark := place e.peak
  let pixel (k : Nat) : Pix :=
    let c := if (k : Int) < mark && mark - 2 ≤ (k : Int) then (940, 940, 940)
      else if (k : Int) < fill then meterColour bar (-floor + (floor * (k : Int)) / (len : Int)) else (180, 180, 180)
    roundPix (rgbIn h false c)
  if bit bar 124 then
    let k : Int := y0 + (len : Int) - 1 - (y : Int)
    if k < 0 ∨ (len : Int) ≤ k then row
    else (List.range wid).foldl (fun row (x : Nat) => setPix row (x0 + (x : Int)) fun _ => pixel k.toNat) row
  else if (y : Int) < y0 ∨ y0 + (wid : Int) ≤ (y : Int) then row
  else (List.range len).foldl (fun row (k : Nat) => setPix row (x0 + (k : Int)) fun _ => pixel k) row

/-- Line `y` of the cursor (R379). -/
def cursorLine (h : Form) (y : Nat) (row : List Pix) (pos : Word) (image : List Byte) : List Pix :=
  let top : Int := toSigned 16 (bits pos 15 0) - (bits pos 49 44 : Nat)
  let left : Int := toSigned 16 (bits pos 31 16) - (bits pos 55 50 : Nat)
  let r : Int := (y : Int) - top
  if !bit pos 63 || decide (r < 0) || decide (64 ≤ r) then row
  else
    let line := image.drop (r.toNat * 256)
    (List.range 64).foldl (fun row (k : Nat) =>
      let at_ (i : Nat) : Nat := (((line)[4 * k + i]?).map BitVec.toNat).getD 0
      let ten (v : Nat) : Nat := (2 * v * 1023 + 255) / 510
      setPix row (left + (k : Int)) fun p => mixPix (at_ 0) 255 (roundPix (rgbIn h true (ten (at_ 1), ten (at_ 2), ten (at_ 3)))) p) row

/-! Output depth (R380). -/

def ditherMatrix : List Nat := [0, 8, 2, 10, 12, 4, 14, 6, 3, 11, 1, 9, 15, 7, 13, 5]
def ditherShift (f : Nat) : Nat × Nat := match f % 4 with | 0 => (0, 0) | 1 => (2, 2) | 2 => (2, 0) | _ => (0, 2)

/-- A blended code at the head's depth. -/
def depthCode (samp dither : Nat) (frame : Nat) (y x v : Nat) : Nat :=
  let k := if dither = 0 then (if samp12 samp then 0 else 2) else 2 * dither
  let (tx, ty) := ditherShift frame
  let m := ditherMatrix.getD (4 * ((y + ty) % 4) + (x + tx) % 4) 0
  let q := if dither = 0 then (2 * v + 2 ^ k) / (2 * 2 ^ k) else (32 * v + (2 * m + 1) * 2 ^ k) / (32 * 2 ^ k)
  let lo := (16 + 2 ^ k - 1) / 2 ^ k
  let hi := 4079 / 2 ^ k
  let code := max lo (min hi q) * 2 ^ k
  if samp12 samp then code else code / 4

/-! A line of a head (R353, R355). -/

/-- Active line `y` of a head's frame, blended at 12 bits. -/
def blendLine (x : HeadShot) (y : Nat) : List Pix :=
  let h := formOf x.conf
  let f := fmtOfCode (bits x.conf 28 18)
  let bg := if bit x.bg 31 then blackPix h else pix10 x.bg
  let row := List.replicate (formWidth f.form) bg
  if x.bgOnly then row
  else
    let row := x.layers.foldl (layLine h y) row
    let row := match x.plane[y]? with
      | some pl => (row.zipIdx).map fun (p, k) => match pl[k]? with
        | some e => mixPix e.a 1023 (4 * e.c.1, 4 * e.c.2.1, 4 * e.c.2.2) p
        | none => p
      | none => row
    let row := x.bars.foldl (barLine h y) row
    cursorLine h y row x.cursor x.image

/-- The same as the head's sample words. -/
def headWords (x : HeadShot) (y : Nat) : List Nat :=
  let samp := bits x.conf 20 18
  (samplesOf samp (blendLine x y)).map fun (v, col) => depthCode samp (bits x.conf 8 7) x.count y col v

end Sys2Proof.Machine
end

