-- ==== Sys2Proof/Machine/Pattern.lean ====
section
/-! DEFINITION. Colours, absent fill and the generators (R206, R207, R222). -/

namespace Sys2Proof.Machine

/-! Generators (R206, R207). -/

/-- Colour bars of a level in percent, narrow range, Y'CbCr BT.709 (values of RP 219's bars, PRESUMED) or R'G'B'. -/
def barColour (samp : Nat) (full : Bool) (level k : Nat) : Nat × Nat × Nat :=
  let on (b : Bool) : Nat := if b then level else 0
  let r : Int := (on ([0, 1, 4, 5].contains k) : Nat)
  let g : Int := (on ([0, 1, 2, 3].contains k) : Nat)
  let b : Int := (on ([0, 2, 4, 6].contains k) : Nat)
  let lo : Int := if full then 0 else 64
  let span : Int := if full then 1023 else 876
  let cspan : Int := if full then 1023 else 896
  let code (x : Int) : Nat := (lo + (x * span + 50) / 100).toNat
  if 4 ≤ samp then (code r, code g, code b)
  else
    let y : Int := 2126 * r + 7152 * g + 722 * b
    let cb : Int := (b * 10000 - y) * cspan
    let cr : Int := (r * 10000 - y) * cspan
    ((lo + (y * span + 500000) / 1000000).toNat, (512 + (cb + 927800) / 1855600).toNat, (512 + (cr + 787400) / 1574800).toNat)

/-- Line `i` of a generator's frame (R206): its pattern, or the window frame that takes its place (R486). The SDI check field is
ST RP 198's two words. -/
def GenShot.line (x : GenShot) (i : Nat) : List Nat :=
  if !x.lines.isEmpty then x.lines.getD i [] else
  let w := x.conf
  let f := fmtOfCode (bits w 25 15)
  let full := bit w 14
  let groups := formWidth f.form / groupPixels f.samp
  match bits w 30 28 with
  | 0 => flatLine f (blackOf f.samp full)
  | 1 => (List.range groups).flatMap fun k => groupOf f.samp (barColour f.samp full 75 (k * 8 / groups))
  | 2 => (List.range groups).flatMap fun k => groupOf f.samp (barColour f.samp full 100 (k * 8 / groups))
  | 3 =>
    flatLine f (bits x.colour 29 20, bits x.colour 19 10, bits x.colour 9 0)
  | 4 => (List.range groups).flatMap fun k =>
      let y := (if full then 0 else 64) + k * (if full then 1023 else 876) / (groups - 1)
      groupOf f.samp (if 4 ≤ f.samp then (y, y, y) else (y, 512, 512))
  | _ =>
    let k := if f.samp = 1 ∨ f.samp = 3 ∨ f.samp = 5 then 4 else 1
    let c := if i < formActive f.form / 2 then 0x300 * k else 0x200 * k
    let y := if i < formActive f.form / 2 then 0x198 * k else 0x110 * k
    (List.range (lineWords f)).map fun n => if n % 2 = 0 then c else y

/-- A line of a generator's frame (R206), as it was written. Its metadata's colorimetry and TCS are unspecified. -/
def State.genLine (s : State) (n : Nat) (m : Int) (line : Nat) : Option CellLine :=
  ((mapGet genD s.gens (n - 2064)).find? fun x => x.frame == m).bind fun x =>
    ((List.range (formActive (s.srcFmt n).form)).find? fun k => rasterOf (s.srcFmt n).form k == line).map fun i =>
      s.sealLine n { frame := m, line := line, picture := x.line i, meta_ := genMeta x.conf }

/-- A line of a head's frame (R353): absent fill in a gap. -/
def State.headLine (s : State) (n : Nat) (m : Int) (line : Nat) : Option CellLine :=
  ((mapGet headD s.heads (n - 2048)).shots.find? fun x => x.frame == m).bind fun x =>
    let f := fmtOfCode (bits x.conf 28 18)
    ((List.range (formActive f.form)).find? fun k => rasterOf f.form k == line).map fun i =>
      s.sealLine n { frame := m, line := line, fill := x.gap, meta_ := bits x.conf 16 13 * 32 + bits x.conf 12 9 * 2 + bits x.conf 17 17
                     picture := if x.gap then flatLine f (blackOf f.samp (bit x.conf 17)) else headWords x i }

/-- The line of a source that is in cells: an input's, a head's or a generator's. One with an uncorrectable word is missing
(R202). -/
def State.lineOf (s : State) (n : Nat) (m : Int) (line : Nat) : Option CellLine :=
  if isGen n then s.genLine n m line
  else if isHead n then s.headLine n m line
  else (s.cellsOf n).lines.find? fun y => y.frame == m && y.line == line && !y.gone

/-- The frame of a head or generator, line by line, to the tether ports that send it and the windows that capture it
(R396, R485); a head's lines to the comparison of a pair (R434). -/
def sendPicture (s : State) (n : Nat) (m : Int) : State :=
  if s.sends.any (fun t => t.source == n) || s.captureSources.contains n || (isHead n && s.paired && s.pair.inStep) then
    (List.range (formActive (s.srcFmt n).form)).foldl (fun s i =>
      let line := rasterOf (s.srcFmt n).form i
      match s.lineOf n m line with
      | some y =>
        let s := if isHead n then
            addDigest s 2 0 (n - 2048) line (m % 256).toNat ((s.lineCells y).flatMap Cell.bytes) else s
        captureLine (sendLineOf s n m line y.subst y.meta_ y.picture) n m line y.picture y.subst
      | none => s) s
  else s

/-- A generator's frame starts (R206, R207): one frame is written, with the pattern and colour of this instant. -/
def generatorFrame (s : State) (g : Nat) : State :=
  let n := 2064 + g
  if s.srcBound n then
    let s := insertFrame s g
    let m := s.srcFrameAt n s.now
    let shot : GenShot := { frame := m, conf := s.elem 0x5400 g, colour := s.eff 0x5400 (0x10 + g), lines := mapGet wordsD s.inserted g }
    let old := (mapGet genD s.gens g).filter fun x => decide (m ≤ x.frame + 2) && x.frame != m
    noteCells (sendPicture { s with gens := mapSet genD s.gens g (old ++ [shot]) } n m)
  else s

def execGeneratorFrameStart (g : Nat) (s : State) : Host.Outcome State Fault Refusal :=
  onUnit g 16 s fun s => generatorFrame s g

end Sys2Proof.Machine
end

