-- ==== Sys2Proof/Machine/Serial.lean ====
section
/-! DEFINITION. The SDI line as playout builds it (R143, R146, R149, R150, R152, R182): EAV and SAV, line numbers, line CRCs,
EDH, payload ID, embedded audio and ancillary packets, as 10-bit words in the order they are sent. The spec names the SMPTE
standards for these words and leaves their layout to them: what is taken from the standards is PRESUMED. An interface of
more than one pair of data streams is held as one pair, the even words of the picture on C and the odd ones on Y. -/

namespace Sys2Proof.Machine

/-- The switch line of a format (R51). -/
def switchLine (f : Fmt) : Nat := match f.form with
  | 0 => 10 | 1 => 6 | _ => 7

/-! Words (ST 291-1, ST 292-1). -/

/-- Whether a number has an odd count of ones in its low `n` bits. -/
def oddOnes (n v : Nat) : Bool := (List.range n).foldl (fun p i => xor p (bit v i)) false

/-- Eight bits with even parity in b8 and its complement in b9; and nine bits with the complement of b8 in b9. -/
def parityWord (v : Nat) : Nat := v % 256 + (if oddOnes 8 v then 256 else 512)
def nineWord (v : Nat) : Nat := v % 512 + (if bit v 8 then 0 else 512)

/-- An ancillary packet of DID, SDID or block number, and data words of 10 bits, with its flag and checksum. -/
def ancWords (did sdid : Nat) (data : List Nat) : List Nat :=
  let body := parityWord did :: parityWord sdid :: parityWord data.length :: data
  [0, 0x3FF, 0x3FF] ++ body ++ [nineWord (sumNat (body.map fun w => w % 512))]

/-- The XYZ word of a TRS: field, blanking, EAV. -/
def xyzWord (f v h : Bool) : Nat :=
  0x200 + ofBool f * 256 + ofBool v * 128 + ofBool h * 64 + ofBool (xor v h) * 32 + ofBool (xor f h) * 16 +
    ofBool (xor f v) * 8 + ofBool (xor (xor f v) h) * 4
def trsWords (f v h : Bool) : List Nat := [0x3FF, 0, 0, xyzWord f v h]

/-- The two line-number words. -/
def lineWordsOf (line : Nat) : List Nat := [nineWord (line % 128 * 4), nineWord (line / 128 % 16 * 4)]

/-- A CRC of `n` bits run over 10-bit words, lowest bit first, with the reflected polynomial `poly`. -/
def crcWords (poly : Nat) (c : Nat) (ws : List Nat) : Nat :=
  ws.foldl (fun c w => (List.range 10).foldl (fun c i =>
    let fb := xor (bit c 0) (bit w i)
    if fb then c / 2 ^^^ poly else c / 2) c) c

/-- The line CRC of ST 292-1, x^18 + x^5 + x^4 + 1, and its two words. -/
def crc18 (c : Nat) (ws : List Nat) : Nat := crcWords 0x23000 c ws
def crcPair (c : Nat) : List Nat := [nineWord (c % 512), nineWord (c / 512 % 512)]
/-- The EDH CRC of RP 165, x^16 + x^12 + x^5 + 1. -/
def crc16 (c : Nat) (ws : List Nat) : Nat := crcWords 0x8408 c ws

/-! Payload ID (ST 352, R152). -/

/-- The first byte: the standard of the interface, by format, link count and MAP. -/
def pidStandard (f : Fmt) (quad : Bool) (map_ code : Nat) : Nat :=
  if f.form ≤ 1 then 0x81
  else if f.form = 2 then 0x84
  else if f.form = 7 then 0xD2
  else if f.form = 6 then (if quad then (if map_ = 1 then 0x98 else 0x97) else if code ≤ 7 then 0xC0 else 0xCE)
  else if map_ = 1 then 0x8A
  else if 2 ≤ map_ then 0x8C
  else if 6 ≤ code then 0xC1
  else if 4 ≤ code then 0x89
  else 0x85

/-- The picture rate code of ST 352. -/
def pidRate (rate : Nat) : Nat :=
  match rate with
  | 0 => 2 | 1 => 3 | 2 => 5 | 3 => 6 | 4 => 7 | 5 => 4 | 6 => 8 | 7 => 9 | 8 => 10 | 9 => 11 | 10 => 13 | 11 => 14 | _ => 15

/-- The four payload ID bytes: format, mapping and link number, sampling structure, and the metadata COLORIMETRY [8:5],
TCS [4:1] and RANGE [0] of R141. -/
def pidBytes (f : Fmt) (quad : Bool) (map_ code link meta_ : Nat) : List Nat :=
  let prog := ofBool (!formInterlaced f.form)
  let tcs := match bits meta_ 4 1 with
    | 0 => 0 | 1 => 2 | 2 => 1 | _ => 3
  let col := match bits meta_ 8 5 with
    | 1 => 0 | 2 => 2 | 3 => 2 | _ => 3
  let samp := match f.samp with
    | 0 => 0 | 1 => 0 | 2 => 1 | 3 => 1 | _ => 2
  let depth := if f.samp = 1 ∨ f.samp = 3 ∨ f.samp = 5 then 2 else 1
  let full := bit meta_ 0
  [pidStandard f quad map_ code, ofBool (formFields f.form == 1) * 128 + prog * 64 + tcs * 16 + pidRate f.rate,
   ofBool (f.form ≠ 0 && f.form ≠ 1) * 128 + col / 2 * 32 + col % 2 * 16 + samp,
   (link - 1) % 8 * 32 + (if full then depth - 1 else depth)]

/-- The lines that carry the payload ID: once in each field. -/
def pidLines (f : Fmt) : List Nat :=
  match f.form with
  | 0 => [13, 276] | 1 => [9, 322] | 3 => [10, 572] | 5 => [10, 572] | _ => [10]

/-! Embedded audio (R149, R150). -/

/-- Channel status of AES3, byte by byte: professional, the rate, the word length; the rest zero; the last byte its CRC. -/
def statusBytes (b96 b20 : Bool) : List Nat :=
  let head := [if b96 then 0x05 else 0x85, 0, if b20 then 0x28 else 0x2C, 0, if b96 then 0x10 else 0] ++ List.replicate 18 0
  let crc := head.foldl (fun c w => (List.range 8).foldl (fun c i =>
    let fb := xor (bit c 0) (bit w i)
    if fb then c / 2 ^^^ 0xB8 else c / 2) c) 0xFF
  head ++ [crc]

/-- The channel-status bit of frame `n` of a block of 192, and whether the block starts there. -/
def statusBit (b96 b20 : Bool) (n : Nat) : Bool := bit ((statusBytes b96 b20).getD (n % 192 / 8) 0) (n % 8)
def statusStart (n : Nat) : Bool := n % 192 == 0

/-- The four data words of one channel's sample (ST 299-1): Z, 24 bits, V and U zero, C and the parity of the subframe. -/
def hdChannel (z c : Bool) (v : Nat) : List Nat :=
  let p := xor (oddOnes 24 v) c
  [parityWord (v % 16 * 16 + ofBool z * 8), parityWord (v / 16 % 256), parityWord (v / 4096 % 256),
   parityWord (ofBool p * 128 + ofBool c * 64 + v / 1048576 % 16)]

/-- The six error-correction words over the 24 words before them, bit by bit, (x + 1)(x^5 + x^2 + 1). -/
def eccWords (ws : List Nat) : List Nat :=
  (ws.foldl (fun (r : List Nat) w =>
    let fb := r.getD 5 0 ^^^ (w % 256)
    [fb, r.getD 0 0 ^^^ fb, r.getD 1 0 ^^^ fb, r.getD 2 0 ^^^ fb, r.getD 3 0, r.getD 4 0 ^^^ fb]) [0, 0, 0, 0, 0, 0]).map parityWord

/-- An HD audio data packet of group `g` from 1 (ST 299-1, ST 299-2): the clock phase, one sample of four channels. -/
def hdAudioPacket (g clk : Nat) (z c : Bool) (chs : List Nat) : List Nat :=
  let did := if g ≤ 4 then 0xE8 - g else 0xAC - g
  let data := [parityWord (clk % 256), parityWord (clk / 256 % 16 + clk / 4096 % 2 * 32)] ++
    (List.range 4).flatMap fun i => hdChannel z c (chs.getD i 0)
  let ecc := eccWords ([0, 0x3FF, 0x3FF, parityWord did, parityWord 0, parityWord 24] ++ data)
  ancWords did 0 (data ++ ecc)

/-- An HD audio control packet: frame number, synchronous, rate, four active channels, no delay. -/
def hdControl (g number : Nat) (b96 : Bool) : List Nat :=
  ancWords (if g ≤ 4 then 0xE4 - g else 0xA8 - g) 0
    ([nineWord number, parityWord (if b96 then 8 else 0), parityWord 15] ++ List.replicate 8 0x200)

/-- SD audio packets of a group (ST 272): 20-bit samples, and with `ext` their lowest four bits in an extended packet; every
sample is `(z, c, four channels)`. -/
def sdAudioPackets (g : Nat) (ext : Bool) (samples : List (Bool × Bool × List Nat)) : List (List Nat) :=
  if samples.isEmpty then []
  else
    let word (z c : Bool) (ch v : Nat) : List Nat :=
      let a := v / 16
      let p := xor (oddOnes 20 a) (xor c (xor (oddOnes 2 ch) z))
      [nineWord (ofBool z + ch * 2 + a % 64 * 8), nineWord (a / 64 % 512), nineWord (a / 32768 % 32 + ofBool c * 128 + ofBool p * 256)]
    let data := samples.flatMap fun e => (List.range 4).flatMap fun i => word e.1 e.2.1 i (e.2.2.getD i 0)
    let aux := samples.flatMap fun e => [parityWord (e.2.2.getD 0 0 % 16 + e.2.2.getD 1 0 % 16 * 16),
      parityWord (e.2.2.getD 2 0 % 16 + e.2.2.getD 3 0 % 16 * 16)]
    ancWords (0x101 - 2 * g) 0 data :: (if ext then [ancWords (0x100 - 2 * g) 0 aux] else [])

/-- An SD audio control packet: frame number of both pairs, synchronous, four active channels, no delay. -/
def sdControl (g number : Nat) : List Nat :=
  ancWords (0xF0 - g) 0 ([nineWord number, nineWord number, nineWord 0, nineWord 15] ++ List.replicate 14 0x200)

/-- The audio frame number of frame `n` (R150): 1 to 5 in turn on 525i and every rate with 1/1.001, else 0. -/
def audioFrameNumber (f : Fmt) (n : Int) : Nat :=
  if f.form = 0 ∨ [0, 3, 5, 8, 11].contains f.rate then (n % 5).toNat + 1 else 0

/-! EDH (RP 165, R152). -/

/-- The EDH packet of an SD field: its active-picture and full-field CRCs, no flag set. -/
def edhPacket (ap ff : Nat) : List Nat :=
  let crc (c : Nat) : List Nat := [parityWord (c % 64 * 4), parityWord (c / 64 % 64 * 4), parityWord (c / 4096 % 16 * 4 + 128)]
  ancWords 0xF4 0 (crc ap ++ crc ff ++ List.replicate 10 0x200)

/-- The lines that carry EDH. -/
def edhLines (f : Fmt) : List Nat := if f.form = 0 then [9, 272] else if f.form = 1 then [5, 318] else []

/-! The line (R152). -/

/-- Packets laid one after another over blanking of `n` words; `a` and `b` alternate as the blanking level. -/
def layWords (n a b : Nat) (pkts : List (List Nat)) : List Nat :=
  let ws := pkts.flatten
  (List.range n).map fun i => (ws[i]?).getD (if i % 2 = 0 then a else b)

/-- One data stream of a line of `total` words: EAV, line number, the CRC run since the last SAV, HANC, SAV, active words;
and the CRC of these active words. -/
def streamWords (line crc total blank : Nat) (f v : Bool) (hanc : List (List Nat)) (active : List Nat) : List Nat × Nat :=
  let head := trsWords f v true ++ lineWordsOf line
  (head ++ crcPair (crc18 crc head) ++ layWords (total - active.length - 12) blank blank hanc ++ trsWords f v false ++ active,
   crc18 0 active)

/-- Two data streams in the order they are sent, C before Y. -/
def interleave : List Nat → List Nat → List Nat
  | c :: cs, y :: ys => c :: y :: interleave cs ys
  | _, _ => []

/-- The even and the odd words of a picture line. -/
def splitWords : List Nat → List Nat × List Nat
  | c :: y :: l => let r := splitWords l; (c :: r.1, y :: r.2)
  | _ => ([], [])

/-- What a line of one link holds. -/
structure LinePlan where
  fmt : Fmt
  quad : Bool
  line : Nat
  field2 : Bool
  picture : List Nat
  hancC : List (List Nat)
  hancY : List (List Nat)
  vancC : List (List Nat)
  vancY : List (List Nat)

/-- The words of an HD line (or finer) of one link as they are sent, and the CRCs of C and Y active words to go on with. -/
def hdWords (p : LinePlan) (crcC crcY : Nat) : List Nat × Nat × Nat :=
  let k := if p.quad then 2 else 1
  let width := formWidth p.fmt.form / k
  let (c, y) := if p.picture.isEmpty then (layWords width 0x200 0x200 p.vancC, layWords width 0x040 0x040 p.vancY)
    else splitWords p.picture
  let total := lineSamples p.fmt / k - width + c.length
  let v := p.picture.isEmpty
  let rc := streamWords p.line crcC total 0x200 p.field2 v p.hancC c
  let ry := streamWords p.line crcY total 0x040 p.field2 v p.hancY y
  (interleave rc.1 ry.1, rc.2, ry.2)

/-- The words of an SD line: one stream of 8-bit-spaced TRS, HANC, SAV and 1,440 active words. -/
def sdWords (p : LinePlan) : List Nat :=
  let v := p.picture.isEmpty
  let active := if v then layWords (2 * formWidth p.fmt.form) 0x200 0x040 p.vancY else p.picture
  trsWords p.field2 v true ++ layWords (2 * lineSamples p.fmt - active.length - 8) 0x200 0x040 p.hancY ++
    trsWords p.field2 v false ++ active

/-- The bits of words as they go on the line, each least significant bit first (R106). -/
def serialBits (ws : List Nat) : List Bool := ws.flatMap fun w => (List.range 10).map fun i => bit w i

end Sys2Proof.Machine
end

