-- ==== Sys2Proof/Machine/Rtp.lean ====
section
/-! DEFINITION. What sent packets carry (R173-R191): RTP payloads of each stream kind, headers, and the schedule of R176. The
spec names RFC 4175, RFC 9134, RFC 8331, ST 2022-6 and ST 2110-31 for the payloads and leaves their layout to them: what is
taken from those texts is PRESUMED. -/

namespace Sys2Proof.Machine

/-- The upper 16 bits of the extended sequence number, before a -20 or -40 payload (R190). -/
def extension (seq : Nat) : List Byte := toBytes 2 (seq / 65536 % 65536)

/-- A -20 payload of one or two SRDs (RFC 4175): line from 0 in its frame or field, pixel offset, sample words. -/
def videoPayload (f : Fmt) (field : Nat) (srds : List (Nat × Nat × List Nat)) : List Byte :=
  let data := srds.map fun r => packWords (wordBits f) r.2.2
  let heads := (srds.zip data).zipIdx.flatMap fun (x, i) =>
    toBytes 2 x.2.length ++ toBytes 2 (field % 2 * 2 ^ 15 + x.1.1 % 2 ^ 15) ++
      toBytes 2 (ofBool (decide (i + 1 < srds.length)) * 2 ^ 15 + x.1.2.1 % 2 ^ 15)
  heads ++ data.flatten

/-- The place of a -22 packet in its slice: the slices ended before it, and its number in its slice. -/
def sliceOf : List (Nat × List Nat) → Nat → Nat × Nat
  | _, 0 => (0, 0)
  | [], _ => (0, 0)
  | u :: l, k + 1 => let r := sliceOf l k
    if bit u.1 2 then (r.1 + 1, r.2) else if r.1 = 0 then (0, r.2 + 1) else r

/-- A -22 payload (R179, RFC 9134): T, K, L and I as they came, with the frame and packet counters made anew. In codestream mode
the packet counter runs on into SEP; in slice mode SEP counts slices and the packet counter starts again in each. -/
def compressedPayload (frame : Int) (units : List (Nat × List Nat)) (k : Nat) : List Byte :=
  let u := units.getD k (0, [])
  let place := if bit u.1 3 then sliceOf units k else (k / 2048, k % 2048)
  toBytes 4 (bits u.1 4 4 * 2 ^ 31 + bits u.1 3 3 * 2 ^ 30 + bits u.1 2 2 * 2 ^ 29 + u.1 % 4 * 2 ^ 27 +
    (frame % 32).toNat * 2 ^ 22 + place.1 % 2048 * 2 ^ 11 + place.2 % 2048) ++ u.2.map (BitVec.ofNat 8)

/-- Audio samples of a -30 payload, channel after channel for each sample time; 16-bit samples are the upper bits (R183, R185). -/
def pcmPayload (l16 : Bool) (rows : List (List Nat)) : List Byte :=
  rows.flatMap fun row => row.flatMap fun v => if l16 then toBytes 2 (v / 256) else toBytes 3 v

/-- The AES3 subframes of a -31 payload (R185, ST 2110-31): block and frame start, parity, channel status of R150, U and V zero. -/
def aesPayload (k : Int) (rows : List (List Nat)) : List Byte :=
  (rows.zipIdx).flatMap fun (row, i) =>
    let n := ((k + (i : Nat)) % 192).toNat
    let c := statusBit false false n
    (row.zipIdx).flatMap fun (v, ch) =>
      let p := xor (oddOnes 24 v) c
      toBytes 4 (ofBool (statusStart n) * 2 ^ 29 + ofBool (ch % 2 == 0) * 2 ^ 28 + ofBool p * 2 ^ 27 + ofBool c * 2 ^ 26 + v % 2 ^ 24)

/-- An ancillary packet in a -40 payload (RFC 8331): C, line, offset, stream, then its words padded to 32 bits. -/
def ancEntry (p : AncPkt) : List Byte :=
  let ws := packWords 10 p.words
  toBytes 4 (ofBool p.c * 2 ^ 31 + p.line % 2 ^ 11 * 2 ^ 20 + p.hoffset % 2 ^ 12 * 2 ^ 8 + 2 ^ 7 + p.stream % 2 ^ 7) ++
    ws ++ List.replicate ((4 - ws.length % 4) % 4) 0#8

/-- A -40 payload (R187, RFC 8331): length, count, the field (0 progressive, 2 first, 3 second), the packets. -/
def ancPayload (fields field : Nat) (ps : List AncPkt) : List Byte :=
  let data := ps.flatMap ancEntry
  toBytes 2 data.length ++ toBytes 1 ps.length ++ toBytes 3 ((if fields = 1 then 0 else 2 + field % 2) * 2 ^ 22) ++ data

/-- HBRMT codes of a format (ST 2022-6): frame, frame rate, sampling. -/
def hbrmtFrame (f : Fmt) : Nat :=
  match f.form with
  | 0 => 0x10 | 1 => 0x11 | 2 => 0x30 | 3 => 0x20 | 5 => 0x22 | _ => 0x21
def hbrmtRate (f : Fmt) : Nat :=
  match f.rate with
  | 0 => 0x1B | 1 => 0x1A | 2 => 0x18 | 3 => 0x17 | 4 => 0x16 | 5 => 0x15 | 6 => 0x14 | 7 => 0x12 | 8 => 0x11 | _ => 0x10
def hbrmtSamp (f : Fmt) : Nat :=
  match f.samp with
  | 0 => 1 | 1 => 6 | 3 => 7 | 5 => 7 | _ => 2

/-- The HBRMT header (R182): the format, a frame counter, no video timestamp. -/
def hbrmtHeader (f : Fmt) (frame : Int) : List Byte :=
  toBytes 4 (2 ^ 27 + (frame % 256).toNat * 2 ^ 16) ++
    toBytes 4 (hbrmtFrame f * 2 ^ 20 + hbrmtRate f * 2 ^ 12 + hbrmtSamp f * 2 ^ 8)

/-- The 1,376 bytes of packet `k` of a frame's SDI words, zeros after the last (R182). -/
def hbrmtBytes (words : List Nat) (k : Nat) : List Byte :=
  let first := k * 11008 / 10
  let skip := k * 11008 - first * 10
  let ws := (words.drop first).take 1102
  let v := ws.foldl (fun a x => a * 1024 + x % 1024) 0 * 2 ^ (10 * (1102 - ws.length))
  toBytes 1376 (v / 2 ^ (11020 - 11008 - skip) % 2 ^ 11008)

/-! The schedule (R176, R177). -/

/-- The active fraction of a format (R177). -/
def rActive (f : Fmt) : Rat :=
  match f.form with
  | 0 => 486 / 525 | 1 => 576 / 625 | 2 => 720 / 750 | 6 => 2160 / 2250 | 7 => 4320 / 4500 | _ => 1080 / 1125

/-- Time between packets of a frame or field of `n` packets (R176, R179, R182). -/
def packetSpacing (w : Word) (f : Fmt) (n : Nat) : Rat :=
  let period := if entryKind w = kind20 then f.period / (formFields f.form : Nat) else f.period
  if entryKind w = kind20 ∧ txLinear w = false then period * rActive f / (n : Nat) else period / (n : Nat)

/-- Packets leave within ±100 ns of their time (R176). -/
def State.dueAt (s : State) (t : Rat) : Bool := decide (t ≤ s.now + 100)

end Sys2Proof.Machine
end

