-- ==== Sys2Proof/Machine/Playout.lean ====
section
/-! DEFINITION. Playout and sending (R138, R146, R150-R153, R172-R191, R222, R228, R244-R247, R514, R557): frame starts,
switch points, lines on SDI lanes, packets of send entries, absent fill, generators. -/

namespace Sys2Proof.Machine

/-! Absent fill (R222). -/

/-- RANGE of the essence on an output: its on-air source's metadata, else narrow. -/
def State.outFull (s : State) (j : Nat) : Bool :=
  let n := s.airElem 0x5000 j
  if isInput n then bit ((s.in_ n).meta_.getD 0) 0 else if isGen n then s.flag 0x5400 (n - 2064) 14
  else if isHead n then s.flag 0x8000 (n - 2048) 17 else false

def State.fillLine (s : State) (j : Nat) (f : Fmt) : List Nat := flatLine f (blackOf f.samp (s.outFull j))

/-! What stops (R518, R557). -/

/-- Whether playout of output `j` is stopped: by FAULTED for a path its source implicates. -/
def State.outStopped (s : State) (j : Nat) : Bool :=
  let n := s.airElem 0x5000 j
  s.faults.stopped.any fun x => match x.what with
    | .all => true
    | .flow => x.detail % 65536 == j || x.detail % 65536 == n
    | .lane => bindUsesLane (s.outBind j) x.detail || (isInput n && bindUsesLane (s.inBind n) x.detail)
    | .stack => isInput n && s.synced n
    | .word => x.detail % 65536 == j
    | _ => false

/-- Whether output `j` ends the last frame of its old phase, past its switch line (R154). -/
def State.rephasing (s : State) (j : Nat) : Bool :=
  s.moves.any fun m => m.index == 0x6200 && m.sub == j &&
    decide ((s.out j).startAt + switchDelay (s.outKind j) (s.outFmt j) ≤ s.now)

/-- Whether the frame that output `j` sends is absent fill whatever its route says: at rest (R516), stopped (R518), or the
last of its phase (R154). -/
def State.blanked (s : State) (j : Nat) : Bool := s.rests (s.out j).startAt || s.outStopped j || s.rephasing j

/-- Whether output `j`'s plane stands between b and b' (R45). -/
def State.outGap (s : State) (j : Nat) : Bool := (s.plane (s.outPlane j)).gap

/-! The lines an output reads (R209, R222, R228). -/

/-- Whether a source gives absent fill (R222-R226): none, unbound, lost, mistimed, past its hold time, or synchronised and not
yet delivered. -/
def State.srcAbsent (s : State) (n : Nat) : Bool :=
  !s.srcBound n || (isInput n && s.stackStopped && s.synced n) ||
    (isInput n && s.synced n && bindKind (s.inBind n) != 3 && (s.in_ n).reading.isNone) ||
    (s.faults.stopped.any fun x => x.what == .flow && x.detail % 65536 == n && isInput n) || (isInput n && (s.inState n == 2 || s.inState n == 4 || s.inState n == 5 || s.inState n == 0))

/-- A PCRC failure (R202, R230): counted, with a NOTE. -/
def cellFailure (s : State) (j : Nat) : State :=
  declareFault (s.count 0x6400 (0x1800 + j)) 0x080 j false false (s.outPlane j)

/-- What an SDI output reads now, or a packet of the frame an IP output sends: in the second field its route of then, in the
first the one with which the frame began (R51, R176). An OPAQUE output reads the frame it took at its start. -/
def State.viewOf (s : State) (j field : Nat) : FrameView :=
  let o := s.out j
  let src := if s.outKind j = 2 ∧ field = 0 then o.src else s.airElem 0x5000 j
  { src := src, from_ := (if s.outOpaque j then o.units else none).getD (s.pairFrame src o.startAt)
    frame := o.frame.getD 0, startAt := o.startAt }

/-- A line missing at launch (R228): the held frame's line of a synchronised source, else the line the output read before;
counted once for each line of a frame. -/
def replaceMissing (s : State) (j : Nat) (v : FrameView) (line : Nat) (bad : Bool) : State × List Nat :=
  let n := v.src
  let x := s.out j
  let i := s.in_ n
  let held := if s.synced n then
      (i.reading.bind fun k => (i.frameOf k).bind fun g => g.lines.find? fun l => l.line == line && !l.poison).map FsLine.picture
    else none
  let p := held.getD (if x.lastLine.isEmpty then s.fillLine j (s.outFmt j) else x.lastLine)
  let key := (v.frame, line)
  let s := if x.replaced = some key then s
    else
      let s := s.count 0x6400 (0x1000 + j)
      if bad then cellFailure s j else s
  (s.setOut j { s.out j with lastLine := p, replaced := some key }, p)

/-- The line that output `j` sends for raster line `line` of the frame in view: the source's, checked (R202), its replacement,
or absent fill. -/
def readView (s : State) (j : Nat) (v : FrameView) (line : Nat) : State × List Nat :=
  let n := v.src
  let f := s.outFmt j
  let x := s.out j
  let fill := s.fillLine j f
  if n = noSource ∨ s.blanked j = true ∨ s.outGap j = true ∨ (x.changeTo.isSome || decide (s.now < x.changeAt)) = true then
    (s.setOut j { x with lastLine := fill }, fill)
  else
    let s := s.caughtUp n
    match s.lineOf n v.from_ line with
    | some y =>
      if !s.cellsGood n v.from_ line y then replaceMissing s j v line true
      else
        let p := if y.fill then fill else y.picture
        (s.setOut j { x with lastLine := p }, p)
    | none => if s.srcAbsent n then (s.setOut j { x with lastLine := fill }, fill) else replaceMissing s j v line false

/-- The line that output `j` launches for raster line `line` of its frame. -/
def readLine (s : State) (j line : Nat) : State × List Nat := readView s j (s.viewOf j 1) line

/-- Whether an output stands between two formats (R153, R191). -/
def State.changing (s : State) (j : Nat) : Bool := (s.out j).changeTo.isSome || decide (s.now < (s.out j).changeAt)

/-- Whether an output carries absent fill now: FILL. -/
def State.filling (s : State) (j : Nat) : Bool :=
  let n := s.airElem 0x5000 j
  n == noSource || s.blanked j || s.outGap j || s.srcAbsent n || s.changing j

/-- The ancillary packets of the source's frame and field that output `j` reads (R146, R187). -/
def State.ancOf (s : State) (j field : Nat) : List AncPkt :=
  let v := s.viewOf j field
  if s.filling j then [] else
  match (s.cellsOf v.src).anc.find? (fun r => r.frame == v.from_ && r.field == field) with
  | some r => r.pkts
  | none => []

/-! Frame starts and switch points (R50-R52, R153, R191, R244, R245). -/

/-- The metadata of a source's frame (R141): what travels with its cells. -/
def State.frameMeta (s : State) (n : Nat) (frame : Int) : Nat :=
  if isInput n then
    match ((s.in_ n).metas.filter fun e => decide (e.1 ≤ frame)).getLast? with
    | some e => e.2
    | none => (s.in_ n).meta_.getD (s.field 0x4100 n 20 12)
  else if isHead n then
    s.field 0x8000 (n - 2048) 16 13 * 32 + s.field 0x8000 (n - 2048) 12 9 * 2 + s.field 0x8000 (n - 2048) 17 17
  else if isGen n then genMeta (((mapGet genD s.gens (n - 2064)).find? fun x => x.frame == frame).map GenShot.conf |>.getD (s.elem 0x5400 (n - 2064)))
  else 0

/-- The metadata of what an output reads now. -/
def State.sourceMeta (s : State) (j : Nat) : Nat :=
  s.frameMeta (s.airElem 0x5000 j) (s.pairFrame (s.airElem 0x5000 j) (s.out j).startAt)

/-- Metadata of the payload ID and the stream descriptions of an output (R141, R152, R192): that of the frame it sends. A
DESIGN CHOICE between R141 and R152: metadata are the source's and change at the output's next frame start, after a plain
switch too; the switch itself changes no payload ID word, and in the fill of a format change the old words go on (R153). -/
def State.outMeta (s : State) (j : Nat) : Nat := if (s.out j).frame.isSome then (s.out j).meta_ else s.sourceMeta j

/-- What follows the source that an output's frame begins with: its metadata (R141, R192), and of an OPAQUE source the newest
frame stored whole (R179: each compressed frame is stored and sent whole; a DESIGN CHOICE where the paired frame is not yet). -/
def noteSource (s : State) (j : Nat) : State :=
  let y := s.out j
  let src := s.airElem 0x5000 j
  let units := if s.outOpaque j then
      ((((s.cellsOf src).lines.map CellLine.frame).filter fun m => decide (m ≤ s.pairFrame src y.startAt)).foldl
        (fun (a : Option Int) m => some (match a with | some b => max b m | none => m)) none)
    else none
  let s := s.setOut j { y with units := units }
  let md := if y.changeTo.isSome then y.meta_ else s.sourceMeta j
  if md = y.meta_ then s
  else rebuildDesc (s.setOut j { s.out j with meta_ := md }) (fun _ => false)
    fun w => !isAudioKind (entryKind w) && entryTarget w == j

/-- A frame of an output begins. A pending change of format happens at the first frame start of the new format at or after
the switch point (R153, R191). -/
def frameBegin (s : State) (j : Nat) : State :=
  let x := s.out j
  let f := s.outFmt j
  let base := (s.plane (s.outPlane j)).origin + s.outOffset j
  let s := match x.changeTo with
    | some c =>
      let g := fmtOfCode c
      let t := gridAtOrBefore base g.period s.now
      if x.changeAt ≤ t then
        let s := s.setOut j { x with
          force := some c, changeTo := none, frame := none, prev := none
          changeAt := if s.outKind j = 1 then t + switchDelay 1 g else t }
        let s := if s.outKind j = 1 then s else s.putFlag 0x6400 j 29 false
        rebuildDesc s (fun _ => false) fun w => !isAudioKind (entryKind w) && entryTarget w == j
      else s
    | none => s
  let n := s.outFrameAt j s.now
  let y := s.out j
  if y.frame = some n then s
  else
    let g := s.outFmt j
    let s := s.setOut j { y with
      frame := some n, startAt := s.outStart j n, stream := [], nextLine := 1, src := s.airElem 0x5000 j
      prev := if s.outKind j = 2 then y.frame.map fun _ => s.viewOf j 1 else none
      sent := y.sent.filter fun e => decide (n ≤ e.1 + 1) }
    let s := noteSource s j
    let s := s.putField 0x6400 j 31 30 (2 + ofBool (s.filling j))
    let s := if s.outKind j = 1 then s.putField 0x6400 j 27 20 (g.form * 16 + g.rate) else s
    let _ := f
    -- header changes wait for this frame start (R172); next hops no longer needed leave the cache (R163)
    let es := s.txEntries.filter fun e => !isAudioKind (entryKind e.2) && entryTarget e.2 == j && (s.txOf e.1).held.isSome
    if es.isEmpty then s
    else
      let t := es.foldl (fun s e => s.setTx e.1 { s.txOf e.1 with held := none }) s
      syncArp t s

/-- Whether an SDI output's synthesiser is locked (R152). -/
def State.sdiRuns (s : State) (j : Nat) : Bool := (bindLanes (s.outBind j)).all fun l => s.txRuns l

def startFrame (s : State) (j : Nat) : State :=
  if s.outKind j = 0 ∨ s.outKind j = 3 then s
  else if s.outKind j = 1 ∧ s.sdiRuns j = false then s.putFlag 0x6400 j 31 false
  else if s.outGap j then s else frameBegin s j

def execOutputFrameStart (j : Nat) (s : State) : Host.Outcome State Fault Refusal := onUnit j 2048 s fun s => startFrame s j

/-- An output goes to its active route at its point `t` (R244, R245). A FOLLOW output whose source has another format starts its
change (R153, R191). -/
def switchNow (s : State) (j : Nat) (t : Rat) : State :=
  let n := s.elem 0x5000 j
  -- an IP output's frame that starts at the point belongs to the new source, the one before it to the old (R51, R176)
  let s := if s.outKind j = 2 ∧ (s.out j).frame.isSome ∧ s.outGap j = false then frameBegin s j else s
  let s := (s.putAir 0x5000 j n).setOut j { s.out j with swapAt := none }
  let s := if s.outKind j = 2 ∧ t ≤ (s.out j).startAt then noteSource (s.setOut j { s.out j with src := n }) j else s
  let s := followFormat s j t
  s.putFlag 0x6400 j 30 (s.filling j)

/-- An output's switch point (R244, R245). -/
def switchOutput (s : State) (j : Nat) : State :=
  match (s.out j).swapAt with
  | some t => if s.switchPoint j t ≤ s.now then purgeEvents (switchNow s j (s.switchPoint j t)) else s
  | none => s

/-! SDI lines (R138, R146, R150-R153). -/

/-- The pieces of a quad picture line (R138): (link, line of the link counted from its first active line, words). -/
def takeEven (k : Nat) : Nat → List Nat → List Nat × List Nat
  | 0, _ => ([], [])
  | _, [] => ([], [])
  | fuel + 1, l =>
    let r := takeEven k fuel (l.drop (2 * k))
    (l.take k ++ r.1, (l.drop k).take k ++ r.2)

def quadPieces (square : Bool) (form i : Nat) (words : List Nat) : List (Nat × Nat × List Nat) :=
  let half := formActive form / 2
  if square then
    let base := if i < half then 1 else 3
    [(base, i % half, words.take (words.length / 2)), (base + 1, i % half, words.drop (words.length / 2))]
  else
    let r := takeEven 4 words.length words
    let base := if i % 2 = 0 then 1 else 3
    [(base, i / 2, r.1), (base + 1, i / 2, r.2)]

/-- Words of ancillary data that a line of a link takes in its HANC or VANC space, per data stream (PRESUMED: what TRS, line
number and CRC leave of the standard raster; SD has one stream of both components). -/
def ancRoom (f : Fmt) (quad hanc : Bool) : Nat :=
  let k := if quad then 2 else 1
  let blank := (lineSamples f - formWidth f.form) / k
  if f.form ≤ 1 then (if hanc then 2 * blank - 8 else 2 * formWidth f.form)
  else if hanc then blank - 12 else formWidth f.form / k

/-- The first active line of a link's raster of a quad, and how many it has. -/
def quadStart (form : Nat) : Nat := if form = 6 then 42 else 83
def quadActive (form : Nat) : Nat := formActive form / 2

/-- Where playout puts a packet (R146): link, line, HANC or VANC, data stream, and the words it takes there. -/
structure AncPlace where
  link : Nat
  line : Nat
  hanc : Bool
  c : Bool
  size : Nat
  id : Nat
deriving DecidableEq, Repr

/-- Whether a line of a link may carry a packet (R146): not the switch line nor the next, and in VANC no picture line. -/
def ancLineOk (f : Fmt) (quad hanc : Bool) (line : Nat) : Bool :=
  let sw := switchLine f
  let picture := if quad then decide (quadStart f.form ≤ line) && decide (line < quadStart f.form + quadActive f.form)
    else isActive f.form line
  line != sw && line != sw + 1 && (hanc || !picture)

/-- One packet placed (R146): on its recorded line, or the first with room after it; a packet with no recorded line from
the first VANC line after the switch line on, in the second field as many lines into it (DEDUCED: R51 gives no second switch
line); never before one of the same DID and SDID. None: it fits nowhere. -/
def placeAnc (f : Fmt) (quad : Bool) (start last : Nat) (done : List AncPlace) (p : AncPkt) : Option AncPlace :=
  let hanc := p.hoffset != 0xFFF
  let link := if quad then p.stream % 4 + 1 else 1
  let c := p.c && decide (2 ≤ f.form)
  let id := (p.words.getD 0 0 % 256) * 256 + p.words.getD 1 0 % 256
  let size := p.words.length + 3
  let first := if p.line = 0x7FF then start + switchLine f + 2 else p.line
  let first := (done.filter fun q => q.link == link && q.hanc == hanc && q.id == id).foldl (fun a q => max a q.line) first
  let used (line : Nat) : Nat :=
    sumNat ((done.filter fun q => q.link == link && q.line == line && q.hanc == hanc && q.c == c).map AncPlace.size)
  let line? := if first = 0 then none else (List.range (last + 1 - first)).find? fun i =>
    ancLineOk f quad hanc (first + i) && decide (used (first + i) + size ≤ ancRoom f quad hanc)
  line?.map fun i => { link := link, line := first + i, hanc := hanc, c := c, size := size, id := id }

/-- The last line of a field in the raster of one link. -/
def ancFieldEnd (f : Fmt) (quad : Bool) (field : Nat) : Nat :=
  let lines := if quad then rasterLines f.form / 2 else rasterLines f.form
  if formFields f.form = 2 ∧ field = 0 then lines / 2 else lines

/-- The packets of a field with their places, and how many fit nowhere (R146). -/
def State.fieldAnc (s : State) (j field : Nat) : List (AncPkt × AncPlace) × Nat :=
  let f := s.outFmt j
  let quad := bindQuad (s.outBind j)
  let r := (s.ancOf j field).foldl (fun (a : List (AncPkt × AncPlace) × Nat) p =>
    match placeAnc f quad (if field = 0 then 0 else ancFieldEnd f quad 0) (ancFieldEnd f quad field) (a.1.map Prod.snd) p with
    | some q => (a.1 ++ [(p, q)], a.2)
    | none => (a.1, a.2 + 1)) ([], 0)
  r

/-- The packets that line `line` of a link carries. -/
def State.linkPackets (s : State) (j link line : Nat) : List AncPkt :=
  let field := if bindQuad (s.outBind j) then 0 else fieldOf (s.outFmt j).form line
  ((s.fieldAnc j field).1.filter fun e => e.2.link == link && e.2.line == line).map Prod.fst

/-- The packets of a field that a 2022-6 stream carries (R182): line, data stream, horizontal offset, words. -/
def State.sentAnc (s : State) (j field : Nat) : List (List Nat) :=
  (s.fieldAnc j field).1.map fun e => e.2.line :: ofBool e.2.c :: e.1.hoffset :: e.1.words

/-- At the end of a field the packets that fitted nowhere are counted; ANC_DROP is of the last frame (R146, R154). -/
def countDropped (s : State) (j line : Nat) : State :=
  let f := s.outFmt j
  let field := fieldOf f.form line
  if line ≠ rasterLines f.form ∧ line ≠ ancFieldEnd f false field then s
  else
    let d := (s.fieldAnc j field).2
    (s.countBy 0x6400 (0x800 + j) d).putFlag 0x6400 j 28 (decide (0 < d) || (field == 1 && s.flag 0x6400 j 28))

/-- When line `line` of the frame that an output sends starts. -/
def State.outLineAt (s : State) (j line : Nat) : Rat :=
  (s.out j).startAt + ((line - 1 : Nat) : Rat) * (s.outFmt j).linePeriod

/-- The samples embedded on a line, each with how long before the line it was taken (R150, R151): those whose sample time
the output has passed, on every line but the switch line and the next. -/
def takeEmbedded (s : State) (j line : Nat) : State × List (Rat × List Nat) :=
  let x := s.out j
  let e := s.elem 0x6000 (0x800 + j)
  let sw := switchLine (s.outFmt j)
  if embedGroups e = 0 ∨ line = sw ∨ line = sw + 1 then (s, [])
  else
    let per : Rat := samplePeriod / (if embedB e then 2 else 1)
    let age (i : Nat) : Rat := s.outLineAt j line - (x.audioAt - ((x.audio.length - 1 - i : Nat) : Rat) * per)
    let n := ((List.range x.audio.length).filter fun i => decide (0 < age i)).length
    (s.setOut j { x with audio := x.audio.drop n, status := (x.status + n) % 192 },
     ((x.audio.take n).zipIdx).map fun e => (age e.2, e.1))

/-- The packets of the embedded samples of a line (R149, R150): data on C, control once a field on Y; on SD all in one. -/
def audioPackets (f : Fmt) (e : Word) (line : Nat) (frame : Int) (status : Nat) (rows : List (Rat × List Nat)) :
    List (List Nat) × List (List Nat) :=
  let b20 := decide (f.form ≤ 1) && !bit e 9
  let groups := (List.range (embedGroups e)).map (· + 1)
  let c (i : Nat) : Bool := statusBit (embedB e) b20 (status + i)
  let chs (g : Nat) (r : List Nat) : List Nat := (r.drop (4 * (g - 1))).take 4
  let control := [switchLine f + 2, rasterLines f.form / formFields f.form + switchLine f + 2].contains line
  let number := audioFrameNumber f frame
  if f.form ≤ 1 then
    ([], groups.flatMap fun g => (if control then [sdControl g number] else []) ++
      sdAudioPackets g (!b20) ((rows.zipIdx).map fun (r, i) => (statusStart (status + i), c i, chs g r.2)))
  else
    (groups.flatMap fun g => (rows.zipIdx).map fun (r, i) =>
      let line : Rat := f.linePeriod
      let phase : Rat := line * (r.1 / line).ceil - r.1
      hdAudioPacket g ((phase / line * (lineSamples f : Nat)).floor.toNat) (statusStart (status + i)) (c i) (chs g r.2),
     if control then groups.map fun g => hdControl g number (embedB e) else [])

/-- The rate code of the SDI interface that an output's lines are built for: its lane's, or that of a 2022-6 stream's format. -/
def State.lineCode (s : State) (j : Nat) : Nat :=
  if s.outKind j = 1 then s.txCode (bindLane (s.outBind j))
  else match class2022 (s.outFmt j) with
    | some 0 => 1 | some 1 => 2 | _ => 4

/-- The words of one line of a link as they are sent (R146, R150, R152), with the CRCs that run on. -/
def buildLine (s : State) (j link line : Nat) (pic : List Nat) (status : Nat) (rows : List (Rat × List Nat)) :
    State × List Nat :=
  let x := s.out j
  let w := s.outBind j
  let f := s.outFmt j
  let quad := bindQuad w && s.outKind j == 1
  let pkts := s.linkPackets j link line
  let at_ (hanc c : Bool) : List (List Nat) :=
    (pkts.filter fun p => (p.hoffset != 0xFFF) == hanc && (p.c && decide (2 ≤ f.form)) == c).map fun p => [0, 0x3FF, 0x3FF] ++ p.words
  let audio := if link = 1 then audioPackets f (s.elem 0x6000 (0x800 + j)) line (x.frame.getD 0) status rows else ([], [])
  let map_ := if s.outKind j = 1 then bits w 23 22 else 0
  let pid := if (pidLines f).contains line then
      [ancWords 0x41 0x01 ((pidBytes f quad map_ (s.lineCode j) link x.meta_).map parityWord)] else []
  let edh := if (edhLines f).contains line then [edhPacket x.edh.1 x.edh.2] else []
  let plan : LinePlan := {
    fmt := f, quad := quad, line := line, field2 := !quad && fieldOf f.form line == 1, picture := pic
    hancC := audio.1 ++ at_ true true, hancY := pid ++ audio.2 ++ at_ true false ++ edh
    vancC := at_ false true, vancY := at_ false false }
  if f.form ≤ 1 then
    let ws := sdWords plan
    let (ap, ff) := if (edhLines f).contains line then (0, 0) else x.edh
    (s.setOut j { x with edh := (if pic.isEmpty then ap else crc16 ap pic, crc16 ff ws) }, ws)
  else
    let k := 2 * (link - 1)
    let r := hdWords plan (x.crcs.getD k 0) (x.crcs.getD (k + 1) 0)
    (s.setOut j { x with crcs := (List.range 8).map fun i => if i = k then r.2.1 else if i = k + 1 then r.2.2 else x.crcs.getD i 0 },
     r.1)

/-- A line of one link put on its lane (R138, R152). A receiver in near-end loopback is given the line by the commands that
bring lines in (R128). -/
def sendLink (s : State) (j status : Nat) (rows : List (Rat × List Nat)) (link line : Nat) (pic : List Nat) : State :=
  let r := buildLine s j link line pic status rows
  let r := (addDigest r.1 0 (link - 1) j line (((s.out j).frame.getD 0) % 256).toNat (packWords 10 r.2), r.2)
  r.1.emit (.sdiLine j link line pic (s.linkPackets j link line) (if link = 1 then rows.map Prod.snd else []) (s.outMeta j) r.2)

/-- A line of an SDI output launched on its lanes. -/
def launchLine (s : State) (j line : Nat) : State :=
  let w := s.outBind j
  let f := s.outFmt j
  if s.outKind j ≠ 1 ∨ s.sdiRuns j = false ∨ (s.out j).frame = none ∨ line = 0 ∨
      rasterLines f.form < line then s
  else
    let s := if s.flag 0x6400 j 29 && !s.changing j then (s.putFlag 0x6400 j 29 false).putFlag 0x6400 j 30 (s.filling j) else s
    let s := countDropped s j line
    let status := (s.out j).status
    let (s, rows) := takeEmbedded s j line
    let send (s : State) (link ln : Nat) (pic : List Nat) : State := sendLink s j status rows link ln pic
    let (s, pic) := if isActive f.form line then readLine s j line else (s, [])
    let after := lastActive f.form 0
    if !bindQuad w then send s 1 line pic
    else if isActive f.form line then
      let i := (List.range (formActive f.form)).find? (fun k => rasterOf f.form k == line)
      (quadPieces (bit w 21) f.form (i.getD 0) pic).foldl (fun s p => send s p.1 (quadStart f.form + p.2.1) p.2.2) s
    else if line < quadStart f.form then [1, 2, 3, 4].foldl (fun s k => send s k line []) s
    else
      -- the link lines below the picture
      let ln := quadStart f.form + quadActive f.form + (line - after - 1)
      if after < line ∧ ln ≤ rasterLines f.form / 2 then [1, 2, 3, 4].foldl (fun s k => send s k ln []) s else s

def execOutputLineLaunch (j line : Nat) (s : State) : Host.Outcome State Fault Refusal :=
  onUnit j 2048 s fun s => launchLine s j line

/-! Send entries (R172-R191). -/

/-- Media entries are gated on a member without the claim (R191, R429). -/
def State.gated (s : State) : Bool := s.paired && !s.holds

/-- Whether an entry's packet can reach the wire: the port up and not quenched, the next hop known. -/
def State.reaches (s : State) (w : Word) : Bool :=
  s.linkUp (entryLane w) && s.txRuns (entryLane w) && !s.pair.ripIn && !s.arpPending w

/-- The Ethernet, IPv4 and UDP header fields of an entry's packets (R160, R161, R170, R172). -/
def State.netHead (s : State) (w : Word) : NetHead :=
  let l := entryLane w
  let mac := if isMulticast (entryDest w) then groupMac (entryDest w)
    else (((s.nextHop l (entryDest w)).bind fun h => s.arp.find? fun a => a.lane == l && a.ip == h).bind Arp.mac).getD 0
  { lane := l, dstMac := mac, srcMac := portMac l, tag := if txTagged w then txPcp w * 2 ^ 12 + txVid w else 0, dscp := txDscp w
    ttl := txTtl w, src := s.mediaIp l, dst := entryDest w, srcPort := txSrcPort w, dstPort := txDestPort w }

/-- An RTP header in its 12 bytes (R190). -/
def RtpHead.bytes (h : RtpHead) : List Byte :=
  toBytes 1 (h.version * 64 + ofBool h.padding * 32 + ofBool h.extension * 16 + h.csrcs) ++
    toBytes 1 (ofBool h.marker * 128 + h.pt % 128) ++ toBytes 2 h.seq ++ toBytes 4 h.timestamp ++ toBytes 4 h.ssrc

/-- The word whose packing, pacing and offset both entries of a DUAL output follow, as their packets are identical (R189): that of
PATH A (a DESIGN CHOICE where the two differ). -/
def State.leadEntry (s : State) (e : Nat) : Word :=
  let w := s.txNow e
  if !bit (s.outBind (entryTarget w)) 25 || entryPath w == 0 || isAudioKind (entryKind w) then w
  else match twinEntry s.txEntries e w with
    | some o => s.txNow o
    | none => w

/-- One packet of an entry that the schedule places (R190, R191, R194): its sequence advances whatever happens. Both members
of a pair make its digest, before gating (R434). -/
def sendPacket (s : State) (e ts : Nat) (marker silent : Bool) (payload : Nat → List Byte) : State :=
  let w := s.txNow e
  let x := s.txOf e
  let head : RtpHead := { marker := marker, pt := txPt w, seq := x.seq % 65536, timestamp := ts, ssrc := txSsrc e w }
  let data := payload x.seq
  let s := s.setTx e { x with seq := (x.seq + 1) % 2 ^ 32 }
  if silent then s
  else
    let s := addDigest s 1 0 e (x.seq % 2 ^ 14) (x.seq / 2 ^ 14 % 256) (head.bytes ++ data)
    if s.gated then s
    else if s.reaches w then
      let s := s.put 0x6300 (0x3000 + e) (satAdd 64 (s.elem 0x6300 (0x3000 + e)) 1)
      s.emit (.rtp e (entryPath w) (s.netHead w) head data)
    else s.count 0x6300 (0x4000 + e)

/-- A payload made once and sent by both entries of a DUAL output (R189): by frame, and number in it. -/
def sharedPayload (s : State) (j : Nat) (dual : Bool) (frame : Int) (k : Nat) (make : State → State × List Byte) :
    State × List Byte :=
  match (s.out j).sent.find? (fun p => dual && p.1 == frame && p.2.1 == k) with
  | some p => (s, p.2.2)
  | none =>
    let r := make s
    if dual then (r.1.setOut j { r.1.out j with sent := (r.1.out j).sent ++ [(frame, k, r.2)] }, r.2) else r

/-- RTP timestamp of a reference instant (R190). -/
def rtpTime (t : Rat) (clock : Nat) : Nat := (((t * (clock : Nat)) / 1000000000).floor % 2 ^ 32).toNat

/-- The reference instant of the field or frame an output sends (R176). -/
def State.refInstant (s : State) (j field : Nat) : Rat :=
  (s.out j).startAt + (field : Nat) * (s.outFmt j).period / 2

/-- The words `k` counts of groups hold from group `a` on of active line `i`. -/
def readGroups (s : State) (j : Nat) (v : FrameView) (i a k : Nat) : State × List Nat :=
  let f := s.outFmt j
  let g := groupWords f.samp
  let r := readView s j v (rasterOf f.form i)
  (r.1, (r.2.drop (a * g)).take (k * g))

/-- Packet `k` of a field of -20 video in general packing mode (R174): one SRD. -/
def gpmPacket (s : State) (j : Nat) (v : FrameView) (w : Word) (field k : Nat) : State × List (Nat × Nat × List Nat) :=
  let f := s.outFmt j
  let p := formWidth f.form / groupPixels f.samp
  let n := gpmPackets f (txMaxPayload w)
  let each := (p + n - 1) / n
  let half := formActive f.form / formFields f.form
  let r := readGroups s j v (field * half + k / n) (k % n * each) each
  (r.1, [(k / n, k % n * each * groupPixels f.samp, r.2)])

/-- Packet `k` of a field in block packing mode (R174): 1,260 bytes, one or two SRDs. -/
def bpmPacket (s : State) (j : Nat) (v : FrameView) (field k : Nat) : State × List (Nat × Nat × List Nat) :=
  let f := s.outFmt j
  let p := formWidth f.form / groupPixels f.samp
  let per := 1260 / groupBytes f.samp
  let half := formActive f.form / formFields f.form
  let a := k * per
  let i := a / p
  let first := min per (p - a % p)
  let r := readGroups s j v (field * half + i) (a % p) first
  if first < per ∧ i + 1 < half then
    let q := readGroups r.1 j v (field * half + i + 1) 0 (per - first)
    (q.1, [(i, a % p * groupPixels f.samp, r.2), (i + 1, 0, q.2)])
  else (r.1, [(i, a % p * groupPixels f.samp, r.2)])

/-- The stored units of the compressed frame in view (R179). -/
def State.viewUnits (s : State) (v : FrameView) : List (Nat × List Nat) :=
  let ls := (s.cellsOf v.src).lines.filter fun y => y.frame == v.from_ && s.cellsGood v.src v.from_ y.line y
  (List.range ls.length).filterMap fun i => (ls.find? fun y => y.line == i + 1).map fun y => (y.picture.headD 0, y.picture.drop 1)

/-- Packets of a frame or field of an entry (R174, R179, R182): -22 sends the source's stored units. -/
def State.fieldPackets (s : State) (j : Nat) (w : Word) : Nat :=
  let f := s.outFmt j
  if entryKind w = kind20 then videoPackets f (txBlocks w) (txMaxPayload w)
  else if entryKind w = kind2022 then packets2022 f
  else (s.viewUnits (s.viewOf j 0)).length

/-- The lines of a 2022-6 stream that its next packet needs, built as SDI lines are (R152, R182), the words `need` of the frame. -/
def buildStream : Nat → State → Nat → Nat → State
  | 0, s, _, _ => s
  | fuel + 1, s, j, need =>
    let x := s.out j
    let f := s.outFmt j
    if need ≤ x.stream.length ∨ rasterLines f.form < x.nextLine then s
    else
      let line := x.nextLine
      let s := countDropped s j line
      let status := (s.out j).status
      let (s, rows) := takeEmbedded s j line
      let (s, pic) := if isActive f.form line then readView s j (s.viewOf j (fieldOf f.form line)) line else (s, [])
      let r := buildLine s j 1 line pic status rows
      let y := r.1.out j
      buildStream fuel (r.1.setOut j { y with stream := y.stream ++ r.2, nextLine := line + 1 }) j need

/-- The sequence number with which an entry begins frame `n`: its own, or on a DUAL output the other path's there (R189). -/
def State.seqAt (s : State) (e : Nat) (n : Int) : Nat :=
  let w := s.txEntry e
  let own := (s.txOf e).seq
  if !bit (s.outBind (entryTarget w)) 25 then own
  else match twinEntry s.txEntries e w with
    | some o =>
      let y := s.txOf o
      if y.frame = some n then y.base
      else if y.frame.isSome ∧ (s.txOf e).frame.isNone then (y.seq + (y.count * (if entryKind w = kind20 then
        formFields (s.outFmt (entryTarget w)).form else 1) - y.next)) % 2 ^ 32
      else own
    | none => own

/-- An entry begins a frame with its first packet. -/
def State.beginTx (s : State) (e : Nat) (n : Int) (count : Nat) : TxSt :=
  let q := s.seqAt e n
  { s.txOf e with frame := some n, next := 0, count := count, seq := q, base := q }

/-- The payload of packet `k` of a field of a video entry (R174, R179, R182). -/
def videoData (s : State) (j : Nat) (w : Word) (v : FrameView) (field k : Nat) : State × List Byte :=
  let f := s.outFmt j
  if entryKind w = kind20 then
    let r := if txBlocks w then bpmPacket s j v field k else gpmPacket s j v w field k
    (r.1, videoPayload f field r.2)
  else if entryKind w = kind22 then (s, compressedPayload v.frame (s.viewUnits v) k)
  else
    let s := buildStream 4500 s j (((k + 1) * 11008 + 9) / 10)
    (s, hbrmtHeader f v.frame ++ hbrmtBytes (s.out j).stream k)

/-- The next packet of a video entry (R176, R179, R182, R190): at its time, or after it. The packets of the frame before that are
still due when a frame begins go out first, with what that frame read. -/
def videoSend (s : State) (e : Nat) : State :=
  let w := s.txEntry e
  let j := entryTarget w
  let lead := s.leadEntry e
  let f := s.outFmt j
  let x := s.txOf e
  let o := s.out j
  let fields := if entryKind w = kind20 then formFields f.form else 1
  if !entryOn w || !isVideoKind (entryKind w) || s.outKind j != 2 then s
  else match o.frame with
    | none => s
    | some n =>
      let old := if entryKind w = kind2022 then none
        else o.prev.filter fun v => x.frame == some v.frame && decide (x.next < x.count * fields)
      let x := if old.isSome ∨ x.frame = some n then x else s.beginTx e n (s.fieldPackets j lead)
      if x.count * fields ≤ x.next then s.setTx e x
      else
        let field := x.next / x.count
        let k := x.next % x.count
        let v := old.getD (s.viewOf j field)
        let ref := v.startAt + (field : Nat) * f.period / 2
        if !s.dueAt (ref + troOf lead f + (k : Nat) * packetSpacing lead f x.count) then s
        else
          let s := s.setTx e { x with next := x.next + 1 }
          let silent := s.outGap j || o.changeTo.isSome || (entryKind w == kind22 && s.filling j)
          let r := sharedPayload s j (bit (s.outBind j) 25) v.frame x.next fun s => videoData s j lead v field k
          sendPacket r.1 e (rtpTime ref (if entryKind w = kind2022 then 27000000 else 90000)) (k + 1 == x.count) silent
            fun seq => (if entryKind w = kind20 then extension seq else []) ++ r.2

def execVideoPacketSend (e : Nat) (s : State) : Host.Outcome State Fault Refusal := onUnit e 4096 s fun s => videoSend s e

/-- The AOUT value of a slot now, as the audio engine last drove it: presented each period in `aoutNow`. -/
def State.aoutNow (s : State) (n : Nat) : List Nat := mapGet natsD s.aoutOut n

/-- A sample as an audio sink takes it in period `k` (R516, R518): silence at rest, with a fade of 48 samples each way. -/
def State.sinkGate (s : State) (k : Int) (v : Nat) : Nat :=
  let r := s.mode == .service || s.boot.dormantAt.isSome
  if s.allStopped then 0
  else match s.boot.restAt with
    | none => if r then 0 else v
    | some a =>
      let i := k - ((a + 2000 - (s.plane 0).origin) / samplePeriod).ceil
      if i < 0 then (if r then v else 0)
      else if 48 ≤ i then (if r then 0 else v)
      else if v = 0 then 0
      else if r then (Config.raisedCosine i.toNat 48 0 v).toNat
      else (Config.raisedCosine i.toNat 48 v 0).toNat

/-- The values of AOUT slot `n` for the grid periods from `k` on, `per` of them. -/
def State.aoutFrom (s : State) (n : Nat) (k : Int) (per : Nat) : List Nat :=
  let l := s.aoutNow n
  let behind := ((s.period.getD k) - k + 1).toNat
  ((l.drop (l.length - behind)).take per) ++ List.replicate (per - min per (min behind l.length)) 0

/-- A packet of an audio entry (R185): the grid samples from k on, once their last period has run; its timestamp is k. An entry
starts with the packet that ends now, and goes on without a gap. -/
def audioSend (s : State) (e : Nat) : State :=
  let w := s.txEntry e
  let n := if entryArate w = 1 then 2 else 1
  let per := if entryPtime w = 0 then 48 else 6
  if !entryOn w || !isAudioKind (entryKind w) then s
  else
    let x := s.txOf e
    let k := match x.frame with
      | some k => if s.gridNow ≤ k + 96 ∧ k ≤ s.gridNow then k else s.gridNow - (per : Nat)
      | none => s.gridNow - (per : Nat)
    if s.gridNow < k + (per : Nat) ∨ (s.period.all fun p => decide (p < k + (per : Nat) - 1)) = true then s
    else
      let ts := ((k * (n : Nat)) % 2 ^ 32).toNat
      let gate (i : Nat) (v : Nat) : Nat := s.sinkGate (k + (i : Nat)) v
      let slot (a : Nat) : List Nat := (s.aoutFrom a k per).zipIdx.map fun e => gate e.2 e.1
      let chans := (List.range (entryChannels w)).map fun c =>
        let a := slot (entryTarget w + n * c)
        if n = 2 then ((a.zip (slot (entryTarget w + n * c + 1))).flatMap fun p => [p.1, p.2]) else a
      let rows := (List.range (per * n)).map fun i => chans.map fun c => c.getD i 0
      sendPacket (s.setTx e { x with frame := some (k + (per : Nat)) }) e ts false false fun _ =>
        if entryKind w = kind31 then aesPayload k rows else pcmPayload (entryL16 w) rows

def execAudioPacketSend (e : Nat) (s : State) : Host.Outcome State Fault Refusal := onUnit e 4096 s fun s => audioSend s e

/-- Ancillary packets gathered into payloads of at most 1,452 bytes (R187). -/
def packAnc : List AncPkt → List (List AncPkt)
  | [] => []
  | p :: l =>
    let size (q : AncPkt) : Nat := 4 + (q.words.length * 10 + 31) / 32 * 4
    match packAnc l with
    | [] => [[p]]
    | g :: gs => if size p + sumNat (g.map size) ≤ 1444 then (p :: g) :: gs else [p] :: g :: gs

/-- The next packet of an ancillary entry (R187): the first of a frame or field at the reference instant plus TRO, the others
1 µs apart. -/
def ancSend (s : State) (e : Nat) : State :=
  let w := s.txEntry e
  let j := entryTarget w
  let lead := s.leadEntry e
  let f := s.outFmt j
  let o := s.out j
  if !entryOn w || entryKind w != kind40 || s.outKind j != 2 then s
  else match o.frame with
    | none => s
    | some n =>
      let x := s.txOf e
      let x := if x.frame = some n then x else s.beginTx e n 0
      let field := x.count
      let ref := s.refInstant j field
      if formFields f.form ≤ field then s.setTx e x
      else if !s.dueAt (ref + troOf lead f + (x.next : Nat) * 1000) then s
      else
        let groups := packAnc (s.ancOf j field)
        let last := groups.length ≤ x.next + 1
        let s := s.setTx e (if last then { x with next := 0, count := field + 1 } else { x with next := x.next + 1 })
        let r := sharedPayload s j (bit (s.outBind j) 25) n (2 ^ 24 + field * 2 ^ 20 + x.next) fun s =>
          (s, ancPayload (formFields f.form) field ((groups[x.next]?).getD []))
        sendPacket r.1 e (rtpTime ref 90000) last (s.outGap j || o.changeTo.isSome) fun seq => extension seq ++ r.2

def execAncPacketSend (e : Nat) (s : State) : Host.Outcome State Fault Refusal := onUnit e 4096 s fun s => ancSend s e

end Sys2Proof.Machine
end

