-- ==== Sys2Proof/Machine/Spool.lean ====
section
/-! DEFINITION. The mix engine and its spools (R325-R350): instruction words, load checks, banks, coefficients and ramps,
the period a spool runs, and the swap of SELECT. -/

namespace Sys2Proof.Machine

/-! Numbers (R330). -/

/-- `x / d` to the nearest integer, ties to even. -/
def roundDiv (x : Int) (d : Nat) : Int :=
  let q := x / (d : Int)
  let r := 2 * (x % (d : Int))
  if r < d then q else if (d : Int) < r then q + 1 else if q % 2 = 0 then q else q + 1

/-- A Q9.47 value narrowed to a multiple of 2^-23. -/
def narrow (v : Int) : Int := roundDiv v (2 ^ 24)

/-- A sample loaded into an accumulator. -/
def loadSample (v : Nat) : Int := toSigned 24 v * 2 ^ 24

/-! Instruction words (R331, R332). -/

def wordOp (w : Word) : Nat := bits w 63 58
def wordA (w : Word) : Nat := bits w 57 40
def wordB (w : Word) : Nat := bits w 39 22
def wordNeg (w : Word) : Bool := bit w 21
def wordClr (w : Word) : Bool := bit w 20
def wordRamp (w : Word) : Nat := bits w 19 16
def wordIndex (w : Word) : Nat := bits w 15 0

/-- Operand addresses (R329). -/
def isAinAout (a : Nat) : Bool := decide (a < 0xC000) || (decide (0x10000 ≤ a) && decide (a < 0x1C000))
def isScratch (a : Nat) : Bool := decide (0x20000 ≤ a) && decide (a < 0x22000)
def isBus (a : Nat) : Bool := decide (0xA000 ≤ a) && decide (a < 0xC000)
def isLine (a : Nat) : Bool := decide (0x30000 ≤ a) && decide (a < 0x30400)
def isBiquad (a : Nat) : Bool := decide (0x38000 ≤ a) && decide (a < 0x40000)

/-- Check 0x6: the opcode is defined and every field is within R331 and R332. Store targets are check 0x8. -/
def wordOk (w : Word) : Bool :=
  let a := wordB w
  let f := bits w 21 0
  match wordOp w with
  | 0 => w == 0
  | 1 => wordA w == 0 && a == 0 && decide (f ≤ 1)
  | 2 => decide (wordA w < 8) && (isAinAout a || isScratch a) && f == 0
  | 3 => decide (wordA w < 8) && (isAinAout a || isScratch a) && f % 2 ^ 21 == 0
  | 4 => decide (wordA w < 8) && isAinAout a && wordRamp w == 0
  | 5 => decide (wordA w < 8) && isAinAout a
  | 6 => decide (wordA w < 8) && f == 0
  | 7 => decide (wordA w < 8) && f == 0
  | 8 => decide (wordA w < 8) && isBiquad a && bits w 21 16 == 0
  | 9 => decide (wordA w < 8) && isLine a && bits w 21 16 == 0
  | 10 => decide (wordA w < 8) && a == 0 && bits w 19 10 == 0
  | _ => false

/-! Steps and sections (R325, R326). -/

/-- The words of a program as steps of 32. -/
def stepsOf : Nat → List Word → List (List Word)
  | 0, _ => []
  | fuel + 1, ws => if ws.isEmpty then [] else ws.take 32 :: stepsOf fuel (ws.drop 32)

/-- A marker step with argument `arg`. -/
def isMarker (arg : Nat) (st : List Word) : Bool := st.all fun w => w == 2 ^ 58 + arg

/-- The steps as one period runs them: (B section, pass, words); a B section's steps run twice. -/
def unroll : Bool → List (List Word) → List (List Word) → List (Bool × Nat × List Word)
  | _, acc, [] => acc.map fun st => (false, 0, st)
  | false, _, st :: l => (false, 0, st) :: (if isMarker 1 st then unroll true [] l else unroll false [] l)
  | true, acc, st :: l =>
    if isMarker 0 st then
      (acc.reverse.map fun x => (true, 0, x)) ++ (acc.reverse.map fun x => (true, 1, x)) ++ (false, 0, st) :: unroll false [] l
    else unroll true (st :: acc) l

/-- Each word with its number and whether it stands in a B section. -/
def sections : Bool → Nat → List (List Word) → List (Nat × Word × Bool)
  | _, _, [] => []
  | b, i, st :: l =>
    let mark := isMarker 0 st || isMarker 1 st
    (st.zipIdx.map fun e => (i + e.2, e.1, b && !mark)) ++
      sections (if isMarker 1 st then true else if isMarker 0 st then false else b) (i + 32) l

/-- Check 0x7: the first word of a broken structure. `opened` is where the open B section begins, `len` its steps. -/
def structureFail : Option Nat → Nat → Nat → List (List Word) → Option Nat
  | opened, _, _, [] => opened
  | opened, len, i, st :: l =>
    if isMarker 1 st then (if opened.isSome then some i else structureFail (some i) 0 (i + 32) l)
    else if isMarker 0 st then (if opened.isNone || len == 0 then some i else structureFail none 0 (i + 32) l)
    else match st.findIdx? fun w => wordOp w == 1 with
      | some k => some (i + k)
      | none => structureFail opened (len + 1) (i + 32) l

/-! The image and its checks (R340, R341). -/

/-- The 32-bit numbers that bytes spell. -/
def words32 : Nat → List Byte → List Nat
  | 0, _ => []
  | n + 1, b => ofBytes (b.take 4) :: words32 n (b.drop 4)
def words64 : Nat → List Byte → List Nat
  | 0, _ => []
  | n + 1, b => ofBytes (b.take 8) :: words64 n (b.drop 8)

def imageHead (image : List Byte) : Word := ofBytes (image.take 64)
def imageWords (h : Word) : Nat := bits h 447 416
def imageA (h : Word) : Nat := bits h 415 384
def imageB (h : Word) : Nat := bits h 383 352
def imageCoefs (h : Word) : Nat := bits h 351 320
def imageDelays (h : Word) : Nat := bits h 319 288

/-- Whether an opcode stores, and to which keys it is the one writer (R341): addresses, biquad states, meters. -/
def wordStores (w : Word) : Bool := wordOp w == 6 || wordOp w == 7
def writerKeys (w : Word) (b : Bool) : List Nat :=
  if wordStores w then (if b && isBus (wordB w) then [wordB w, wordB w + 1] else [wordB w])
  else if wordOp w = 8 then [wordB w]
  else if wordOp w = 10 then [0x40000 + bits w 9 0]
  else []

/-- Check 0x8. -/
def targetOk (delays : Nat) (w : Word) (b : Bool) : Bool :=
  !wordStores w || (isBus (wordB w) && (!b || isBus (wordB w + 1))) || (isScratch (wordB w) && wordOp w == 6) ||
    (isLine (wordB w) && decide (wordB w - 0x30000 < delays))

/-- Check 0x9: the first word that writes what an earlier word writes. -/
def secondWriter : List Nat → List (Nat × Word × Bool) → Option Nat
  | _, [] => none
  | keys, (i, w, b) :: l =>
    if (writerKeys w b).any keys.contains then some i else secondWriter (writerKeys w b ++ keys) l

/-- The kind of section that writes a key: none where no word does. -/
def writerKind (ws : List (Nat × Word × Bool)) (key : Nat) : Option Bool :=
  (ws.find? fun e => (writerKeys e.2.1 e.2.2).contains key).map fun e => e.2.2
def sameKind (ws : List (Nat × Word × Bool)) (b : Bool) (key : Nat) : Bool :=
  match writerKind ws key with
  | some k => k == b
  | none => true

/-- The RAMP of the first MACR word that names an entry (R338). -/
def rampOf (ws : List Word) (entry : Nat) : Option Nat :=
  (ws.find? fun w => wordOp w == 5 && wordIndex w == entry).map wordRamp

/-- Check 0xA. -/
def indexOk (coefs : Nat) (delays : List Nat) (ws : List (Nat × Word × Bool)) (plain : List Word) (w : Word) (b : Bool) :
    Bool :=
  let op := wordOp w
  (!(op == 4 || op == 5) || decide (wordIndex w < coefs)) &&
  (op != 8 || decide (wordIndex w + 4 < coefs)) &&
  (op != 5 || rampOf plain (wordIndex w) == some (wordRamp w)) &&
  (op != 9 || (decide (wordIndex w + 1 ≤ (delays[wordB w - 0x30000]?).getD 0) && sameKind ws b (wordB w))) &&
  (!(decide (2 ≤ op) && decide (op ≤ 5) && isBus (wordB w)) ||
    (sameKind ws b (wordB w) && (!b || sameKind ws b (wordB w + 1))))

/-- The load checks in their order: status, check code, first failing word; zeros where the image is accepted. -/
def checkImage (image : List Byte) : Nat × Nat × Nat :=
  let h := imageHead image
  let n := imageWords h
  let body := image.take (image.length - 8)
  let tail := image.drop (image.length - 8)
  let ws := words64 n (image.drop 64)
  let delays := words32 (imageDelays h) (image.drop (64 + 8 * n + 4 * imageCoefs h))
  let steps := stepsOf n ws
  let secs := sections false 0 steps
  let first (p : Word → Bool → Bool) : Option Nat := (secs.find? fun e => !p e.2.1 e.2.2).map fun e => e.1
  let countB := (secs.filter fun e => e.2.2).length
  if image.length < 72 ∨ bits h 511 480 ≠ 0x53504F4C ∨ bits h 479 464 ≠ 1 ∨ bits h 463 448 ≠ 0 ∨ bits h 127 0 ≠ 0 ∨
      image.length ≠ 72 + 8 * n + 4 * imageCoefs h + 4 * imageDelays h then (stType, 1, 0)
  else if ofBytes tail ≠ crc32c body * 2 ^ 32 then (stType, 2, 0)
  else if n < 32 ∨ 1048576 < n ∨ n % 32 ≠ 0 ∨ n ≠ imageA h + imageB h then (stAdmission, 3, 0)
  else if 1040000 < imageA h + 2 * imageB h then (stAdmission, 4, 0)
  else if 65536 < imageCoefs h ∨ 1024 < imageDelays h ∨ 262144 < sumNat delays ∨
      delays.any (fun d => d == 0 || decide (65536 < d)) then (stAdmission, 5, 0)
  else match first (fun w _ => wordOk w) with
  | some i => (stRange, 6, i)
  | none => match structureFail none 0 0 steps with
    | some i => (stRange, 7, i)
    | none =>
      if countB ≠ imageB h then (stRange, 7, 0)
      else match first (targetOk (imageDelays h)) with
      | some i => (stRange, 8, i)
      | none => match secondWriter [] secs with
        | some i => (stRange, 9, i)
        | none => match first (indexOk (imageCoefs h) delays secs ws) with
          | some i => (stRange, 10, i)
          | none => (stOk, 0, 0)

/-! Banks (R342, R343). -/

/-- Bank `b`'s coefficient entries at 0. -/
def clearCoefs (s : State) (b : Nat) : State :=
  { s with
    dict := s.dict.filter fun (e : Nat × Word) => e.1 / 65536 != 0x7220 + b
    mix := { s.mix with coefs := s.mix.coefs.filter fun (c : CoefWrite) => c.bank != b } }

/-- Whether a bank is named by the on-air spool, by SELECT in the active or shadow set, or by a fade. -/
def State.spoolHeld (s : State) (b : Nat) : Bool :=
  s.spoolNamed.contains b || s.mix.engine.any (·.bank == b) || s.mix.fading.any fun f => f.1.bank == b

/-- What a load or an empty of bank `b` is refused with (R343). -/
def bankChecks (s : State) (b : Nat) : Checks :=
  { busy := (s.bank 3).armed, reseeding := (s.bank 3).reseeding, headroom := s.spoolHeld b }

/-- The first frame of a load: the bank is LOADING, its coefficients and program are gone (R342). -/
def startLoad (s : State) (b : Nat) : State := (clearCoefs s b).setSpoolBank b { st := 1, frameAt := s.up }

/-- The last byte of a load: the bank is CHECKING. -/
def spoolArrived (s : State) (b : Nat) (image : List Byte) : State :=
  (clearCoefs s b).setSpoolBank b { st := 2, image := image, frameAt := s.up }

def loadHandler (s : State) (b : Nat) (image : List Byte) : Handler :=
  { checks := bankChecks s b, commit := fun s => spoolArrived s b image, pending := true, new := logBytes image }

def execSpoolLoad (rq : Rq) (bank : Nat) (image : List Byte) (s : State) : Host.Outcome State Fault Refusal :=
  act s fun s => request s rq opBlockWrite 0x7210 bank image (loadHandler s bank image)

/-- The load result 0x7200:0004-0005, and its log entry (R350). -/
def noteLoad (s : State) (b status check word : Nat) : State :=
  let v := status * 2 ^ 24 + check * 2 ^ 20 + word
  logEvent (s.put 0x7200 (4 + b) v) 0x7200 (4 + b) 0 (logValue 4 v) 0 false status

/-- The loaded program of an image that passes its checks. -/
def loadedBank (image : List Byte) : SpoolBank :=
  let h := imageHead image
  let n := imageWords h
  let ws := words64 n (image.drop 64)
  let secs := sections false 0 (stepsOf n ws)
  let reads (b : Bool) : List Nat := ((secs.filter fun e => e.2.2 == b && decide (2 ≤ wordOp e.2.1) &&
    decide (wordOp e.2.1 ≤ 5) && isAinAout (wordB e.2.1) && !isBus (wordB e.2.1)).map fun e => wordB e.2.1).eraseDups
  let stores (b : Bool) : List Nat := (secs.filter fun e => e.2.2 == b && wordStores e.2.1 && isBus (wordB e.2.1)).map
    fun e => wordB e.2.1
  { st := 3, words := ws, delays := words32 (imageDelays h) (image.drop (64 + 8 * n + 4 * imageCoefs h))
    label := bits h 287 256, aWords := imageA h, bWords := imageB h, coefs := imageCoefs h
    readsA := reads false, readsB := reads true, busA := stores false, busB := (stores true).map fun a => (a, a + 2) }

/-- The checks end (R341, R342). -/
def spoolChecked (s : State) (b : Nat) : State :=
  let x := s.spoolBank b
  if x.st ≠ 2 then s
  else
    let (status, check, word) := checkImage x.image
    let s := noteLoad s b status check word
    let s :=
      if status = stOk then
        let h := imageHead x.image
        let cs := words32 (imageCoefs h) (x.image.drop (64 + 8 * imageWords h))
        (cs.zipIdx).foldl (fun s c => s.put (0x7220 + b) c.2 c.1) (s.setSpoolBank b (loadedBank x.image))
      else s.setSpoolBank b { st := 4 }
    finishWaiting s 0x7210 b status []

def execSpoolCheckComplete (bank : Nat) (s : State) : Host.Outcome State Fault Refusal :=
  onUnit bank 2 s fun s => spoolChecked s bank

/-- An open transfer taken away, with its NOTIFY (R460). -/
def abandonTransfer (s : State) (idx sub status : Nat) : State :=
  match s.req.transfers.find? fun t => t.index == idx && t.sub == sub with
  | some t =>
    notify { s with req := { s.req with transfers := s.req.transfers.filter fun (x : Transfer) =>
      !(x.index == idx && x.sub == sub) } } t.rq idx sub status []
  | none => s

/-- A load that received no frame for 1 s (R342). -/
def loadAbandoned (s : State) (b : Nat) : State :=
  let x := s.spoolBank b
  if x.st = 1 ∧ x.frameAt + 1000000000 ≤ s.up then
    abandonTransfer ((noteLoad s b stType 0xF 0).setSpoolBank b { st := 4 }) 0x7210 b stType
  else s

def execSpoolLoadAbandon (bank : Nat) (s : State) : Host.Outcome State Fault Refusal :=
  onUnit bank 2 s fun s => loadAbandoned s bank

/-- A write of a bank number to 0x7200:0006 (R342). -/
def emptyHandler (s : State) (payload : List Byte) : Handler :=
  let b := ofBytes payload
  { checks := { bankChecks s b with range := decide (2 ≤ b) }
    commit := fun s => (clearCoefs s b).setSpoolBank b {}
    new := logBytes payload }

def execSpoolBankEmpty (rq : Rq) (value : Word) (s : State) : Host.Outcome State Fault Refusal :=
  act s fun s => request s rq opWrite 0x7200 6 (valueBytes rq value) (emptyHandler s (valueBytes rq value))

/-- The execution count of bank `b` (R327), 0 where it names none. -/
def State.spoolCount (s : State) (b : Nat) : Nat := (s.spoolBank b).aWords + 2 * (s.spoolBank b).bWords

/-- Whether the shadow's spool `b` and the on-air one pass the budget together (R344). -/
def State.fadeFails (s : State) (b : Nat) : Bool :=
  let air := s.airElem 0x7200 0
  decide (b < 2) && decide (air < 2) && b != air && decide (1040000 < s.spoolCount b + s.spoolCount air)

/-- 0x7200:0000 SELECT (R344). -/
def selectHandler (s : State) (payload : List Byte) : Handler :=
  let v := ofBytes payload
  let t := s.putShadow 0x7200 0 v
  let own := decide (v < 2) && ((s.spoolBank v).st != 3 || (s.elem 0x7200 1 != 0 && s.fadeFails v))
  let codes := (if own then [0x12] else []) ++ t.budgetCodes
  bankedHandler s 0x7200 0 payload
    { range := decide (2 ≤ v) && v != 0xFF, admission := !codes.isEmpty, reason := lowest codes }

/-- 0x7200:0001 FADE (R346). -/
def fadeHandler (s : State) (payload : List Byte) : Handler :=
  let v := ofBytes payload
  plainHandler s 0x7200 1 payload
    { range := decide (1024 < v), admission := v != 0 && s.fadeFails (s.shadowElem 0x7200 0), reason := 0x12 }

/-! Coefficients and ramps (R337, R338). -/

/-- A coefficient as the engine sees it: a write not yet in force leaves the old value. -/
def State.coef (s : State) (b i : Nat) : Int :=
  toSigned 32 (match s.mix.coefs.find? fun c => c.bank == b && c.entry == i with
    | some c => c.old
    | none => s.elem (0x7220 + b) i)

/-- The ramped value of an entry whose stored value is `c`. -/
def Engine.ramped (e : Engine) (i : Nat) (c : Int) : Int :=
  match e.ramps.find? (·.1 == i) with
  | some (_, r) =>
    let j := e.period - r.start
    if r.len ≤ j then r.new else roundDiv (r.old * (r.len : Int) + (r.new - r.old) * (j : Int)) r.len
  | none => c

/-- An entry of bank `b` changes from `old` to `new` under a running spool: its ramp starts at this period. -/
def startRamp (ws : List Word) (b i : Nat) (old new : Int) (e : Engine) : Engine :=
  match (if e.bank = b then rampOf ws i else none) with
  | some ramp =>
    { e with ramps := mapPut e.ramps i { old := e.ramped i old, new := new, start := e.period, len := 64 * (ramp + 1) } }
  | none => e

/-- The first period whose computation begins at least 2 µs from now (R337): the engine computes a period in those after it
(R328). -/
def State.effectPeriod (s : State) : Int := ((s.now + effectDelay - (s.plane 0).origin) / samplePeriod).ceil - 1

/-- Whether a coefficient write is in force in the period now computed. -/
def State.coefDue (s : State) (c : CoefWrite) : Bool := decide (c.due < s.gridNow)

/-- The coefficient writes whose effect period has come take effect (R337). -/
def coefEffects (s : State) : State :=
  (s.mix.coefs.filter s.coefDue).foldl (fun s c =>
    let (b, i) := (c.bank, c.entry)
    let old := s.coef b i
    let s := { s with mix := { s.mix with coefs := s.mix.coefs.erase c } }
    let f := startRamp (s.spoolBank b).words b i old (s.coef b i)
    { s with mix := { s.mix with engine := s.mix.engine.map f, fading := s.mix.fading.map fun x => (f x.1, x.2) } }) s

/-- The entries of one frame written (R337): they take effect together, at a period that the active chooses. -/
def writeCoefs (s : State) (b entry : Nat) (vs : List Nat) : State :=
  let n := s.mix.coefs.foldl (fun m c => max m (c.frame + 1)) 0
  let due := s.effectPeriod
  (vs.zipIdx).foldl (fun s v =>
    let c : CoefWrite := { frame := n, due := due, bank := b, entry := entry + v.2, old := s.elem (0x7220 + b) (entry + v.2) }
    let s := s.put (0x7220 + b) (entry + v.2) v.1
    { s with mix := { s.mix with coefs := s.mix.coefs ++ [c], damaged := s.mix.damaged.filter (· != (b, entry + v.2)) } }) s

/-- A write of consecutive entries of a coefficient memory, at once (R337). -/
def coefHandler (s : State) (b entry : Nat) (payload : List Byte) : Handler :=
  let vs := words32 ((payload.length + 3) / 4) payload
  { checks := { headroom := (s.spoolBank b).st != 3, type := payload.length % 4 != 0
                noSub := decide (65536 < entry + vs.length), range := vs.isEmpty || decide (256 < vs.length) }
    commit := fun s => writeCoefs s b entry vs
    old := logValue 4 (s.elem (0x7220 + b) entry)
    new := logValue 4 (vs.headD 0)
    tp := some (s.posAt 0 ((s.plane 0).origin + (s.effectPeriod : Rat) * samplePeriod)) }

def execCoefficientEffect (s : State) : Host.Outcome State Fault Refusal := actRunning s coefEffects

/-! One period (R326-R336). -/

/-- A sample of AIN or AOUT in the present period, as the shuffle left it. -/
def State.ainSlot (s : State) (n : Nat) : AinSlot := mapGet ainSlotD s.ain n
def State.ainVal (s : State) (n : Nat) : Nat := (s.ainSlot n).value
def State.aoutVal (s : State) (n : Nat) : Nat := (s.aoutNow n).getLastD 0
def State.sampleAt (s : State) (a : Nat) : Nat := if a < 0x10000 then s.ainVal a else s.aoutVal (a - 0x10000)

/-- A period in progress: the engine, this period's scratch writes as (step, value) newest first, bus stores, saturations
of accumulators and of STC, and what PKA words met as (meter, WINDOW, sample). -/
structure Run where
  e : Engine
  writes : SMap (List (Nat × Int)) := []
  bus : SMap Nat := []
  sat : Nat := 0
  clip : Nat := 0
  peaks : List (Nat × Nat × Nat) := []

def Run.acc (r : Run) (k : Nat) : Int := mapGet intD r.e.acc k

/-- A result put in an accumulator, saturated and counted (R330). -/
def Run.setAcc (r : Run) (k : Nat) (v : Int) : Run :=
  let c := clampSigned 56 v
  { r with e := { r.e with acc := mapSet intD r.e.acc k c }, sat := r.sat + ofBool (c != v) }

/-- A scratch word read at execution step `t` (R334). -/
def Run.scratch (r : Run) (t a : Nat) : Int :=
  match (mapGet (fun _ => []) r.writes a).find? fun x => decide (x.1 + 4 ≤ t) with
  | some x => x.2
  | none => mapGet intD r.e.scratch a

/-- A sample written to a delay line of `len` samples with write number `p` (R336). -/
def Run.writeLine (r : Run) (a len p v : Nat) : Run :=
  let l := mapGet lineD r.e.lines a
  { r with e := { r.e with lines := mapSet lineD r.e.lines a (p, (v :: l.2).take (len + 1)) } }

/-- The sample written `d` writes before write number `p`. -/
def Run.readLine (r : Run) (a d p : Nat) : Nat :=
  let l := mapGet lineD r.e.lines a
  if p < d ∨ l.1 + d < p then 0 else (l.2[l.1 + d - p]?).getD 0

/-- A store of a narrowed value to the bus or a delay line (R332). -/
def Run.store (r : Run) (x : SpoolBank) (b : Bool) (pass a v : Nat) : Run :=
  if isBus a then { r with bus := mapPut r.bus (if b then a + pass else a) v }
  else r.writeLine a ((x.delays[a - 0x30000]?).getD 0) (if b then 2 * r.e.period + pass else r.e.period) v

/-- A biquad section (R335). -/
def Run.runBiquad (r : Run) (c : Nat → Int) (k a i : Nat) : Run :=
  let p (coef v : Int) : Int := roundDiv (coef * v) (2 ^ 24)
  let (s1, s2) := mapGet biquadD r.e.biquad a
  let x := r.acc k
  let r := r.setAcc k (p (c i) x + s1)
  let y := r.acc k
  let n1 := p (c (i + 1)) x - p (c (i + 3)) y + s2
  let n2 := p (c (i + 2)) x - p (c (i + 4)) y
  { r with
    e := { r.e with biquad := mapSet biquadD r.e.biquad a (clampSigned 56 n1, clampSigned 56 n2) }
    sat := r.sat + ofBool (clampSigned 56 n1 != n1) + ofBool (clampSigned 56 n2 != n2) }

/-- One word at execution step `t`, on `lane`, in pass `pass` of a B section or in an A section (R332). -/
def runWord (s : State) (x : SpoolBank) (b : Bool) (pass t lane : Nat) (r : Run) (w : Word) : Run :=
  let k := 8 * lane + wordA w
  let a := wordB w
  let c (i : Nat) : Int := s.coef r.e.bank i
  let sample := s.sampleAt (if b then a + pass else a)
  let sign (v : Int) : Int := if wordNeg w then -v else v
  let from_ : Int := if wordClr w then 0 else r.acc k
  match wordOp w with
  | 2 => r.setAcc k (if isScratch a then r.scratch t a else loadSample sample)
  | 3 => r.setAcc k (r.acc k + sign (if isScratch a then r.scratch t a else loadSample sample))
  | 4 => r.setAcc k (from_ + sign (toSigned 24 sample * c (wordIndex w)))
  | 5 => r.setAcc k (from_ + sign (toSigned 24 sample * r.e.ramped (wordIndex w) (c (wordIndex w))))
  | 6 =>
    if isScratch a then { r with writes := mapPut r.writes a ((t, r.acc k) :: mapGet (fun _ => []) r.writes a) }
    else r.store x b pass a (ofSigned 24 (narrow (r.acc k)))
  | 7 =>
    let v := clampSigned 24 (narrow (r.acc k))
    { r.store x b pass a (ofSigned 24 v) with clip := r.clip + ofBool (v != narrow (r.acc k)) }
  | 8 => r.runBiquad c k a (wordIndex w)
  | 9 => r.setAcc k (loadSample (r.readLine a (wordIndex w + 1) (if b then 2 * r.e.period + pass else r.e.period)))
  | 10 => { r with peaks := r.peaks ++ [(bits w 9 0, bits w 21 20, ofSigned 24 (clampSigned 24 (narrow (r.acc k))))] }
  | _ => r

/-- Reads of coefficient entries that a word makes. -/
def wordCoefs (w : Word) : List Nat :=
  match wordOp w with
  | 4 => [wordIndex w]
  | 5 => [wordIndex w]
  | 8 => (List.range 5).map fun i => wordIndex w + i
  | _ => []

/-- Reads of damaged coefficient entries in one period of an engine (R348). -/
def State.badReads (s : State) (e : Engine) : Nat :=
  if s.mix.damaged.isEmpty then 0
  else
    let x := s.spoolBank e.bank
    let words := (unroll false [] (stepsOf x.words.length x.words)).flatMap fun st => st.2.2
    ((words.flatMap wordCoefs).filter fun i => s.mix.damaged.contains (e.bank, i)).length

/-- Uncorrectable data reads of the engine (R348): each counts in 0x7200:0013 and raises the alarm; the read gives 0. -/
def dataReads (n memory : Nat) (s : State) : State :=
  (List.range n).foldl (fun s _ => declareFault (s.count 0x7200 0x13) 0x0C3 (memory * 2 ^ 56)) s

/-- A spool's whole period. -/
def runSpool (s : State) (e : Engine) : Run :=
  let x := s.spoolBank e.bank
  let steps := unroll false [] (stepsOf x.words.length x.words)
  let r := (steps.zipIdx).foldl (fun r st =>
    (st.1.2.2.zipIdx).foldl (fun r w => runWord s x st.1.1 st.1.2.1 st.2 w.2 r w.1) r) ({ e := e } : Run)
  let scratch := r.writes.foldl (fun m w => mapSet intD m w.1 ((w.2.map Prod.snd).headD 0)) r.e.scratch
  { r with e := { r.e with scratch := scratch, period := e.period + 1 } }

/-- A meter takes a sample (R319). -/
def Meter.take (m : Meter) (v : Nat) : Meter :=
  let a := (toSigned 24 v).natAbs
  { m with peak := max m.peak a, sum := m.sum + a * a, n := m.n + 1 }

/-- The domain of a bus slot in a bank's program: none where it stores none. -/
def SpoolBank.busDomain (x : SpoolBank) (n : Nat) : Option Bool :=
  if x.busA.contains n then some false else if x.busB.any fun r => r.1 == n || r.1 + 1 == n then some true else none

/-- The results of one period of a fade (R346). -/
def fadeBus (x y : SpoolBank) (i n : Nat) (new old : SMap Nat) : SMap Nat :=
  ((new.map Prod.fst ++ old.map Prod.fst).eraseDups).foldl (fun m k =>
    let dn := x.busDomain k
    let do_ := y.busDomain k
    let a := mapGet natD new k
    let b := mapGet natD old k
    let isB := (dn.orElse fun _ => do_) == some true
    let second := x.busB.any (fun r => r.1 + 1 == k) || (dn.isNone && y.busB.any fun r => r.1 + 1 == k)
    mapPut m k (if dn.isSome && do_.isSome && dn != do_ then a
      else if a = b then a
      else if isB then (Config.raisedCosine (2 * i + ofBool second) (2 * n) a b).toNat
      else (Config.raisedCosine i n a b).toNat)) []

/-- Whether the engine has trapped (R348): a fatal fault that implicates the spool stops it until reset. -/
def State.trapped (s : State) : Bool := s.faults.stopped.any fun x => x.what == .spool

/-- The period the last AUDIO_PERIOD left is computed (R328): its results wait for their presentation. -/
def computePeriod (s : State) : State :=
  if s.mix.computed then s
  else
    let s := coefEffects { s with mix := { s.mix with computed := true } }
    match (if s.trapped then none else s.mix.engine) with
    | none => { s with mix := { s.mix with results := s.mix.results ++ [[]] } }
    | some e =>
      let r := runSpool s e
      let old := s.mix.fading.map fun f => (runSpool s f.1, f.2)
      let bus := match old with
        | some (q, i, n) => fadeBus (s.spoolBank e.bank) (s.spoolBank q.e.bank) i n r.bus q.bus
        | none => r.bus
      let sat := r.sat + (old.map fun f => f.1.sat).getD 0
      let clip := r.clip + (old.map fun f => f.1.clip).getD 0
      let s := { s with mix := { s.mix with
        engine := some r.e
        fading := match old with
          | some (q, i, n) => if i + 1 < n then some (q.e, i + 1, n) else none
          | none => none
        results := s.mix.results ++ [bus]
        satAt := if sat = 0 then s.mix.satAt else some s.up
        clipAt := if clip = 0 then s.mix.clipAt else some s.up } }
      let bad := s.badReads e + (s.mix.fading.map fun f => s.badReads f.1).getD 0
      let s := dataReads bad 11 ((s.countBy 0x7200 0x12 sat).countBy 0x7200 0x11 clip)
      r.peaks.foldl (fun s p => { s with meters := mapMod meterD s.meters (0x20000 + p.1) fun m =>
        { m.take p.2.2 with window := p.2.1 } }) s

/-! Swaps (R345, R346). -/

/-- Whether the effect point of every fired take and salvo that touches an audio bank has come (R53). -/
def State.sampleEffectDue (s : State) (b : Nat) : Bool :=
  !(s.events.any fun e => e.fired && decide (e.kind ≤ 2) && scopeHas e.scope b &&
    decide (s.now < s.sampleAtOrAfter (s.tpTime e.plane e.tp)))

/-- The spool meters start again (R345). -/
def restartMeters (s : State) : State :=
  { s with
    meters := s.meters.filter fun (m : Nat × Meter) => decide (m.1 < 0x20000)
    dict := s.dict.filter fun (e : Nat × Word) => e.1 / 65536 != 0x7230 }

/-- SELECT takes effect: the spool on air has computed its last period, the new one starts with zero state. -/
def spoolSwap (s : State) : State :=
  let v := s.elem 0x7200 0
  let old := s.airElem 0x7200 0
  if old = v ∨ !s.sampleEffectDue 3 then s
  else
    let fade := s.eff 0x7200 1
    let s := restartMeters (s.putAir 0x7200 0 v)
    let s := { s with
      mix := { s.mix with
        busNext := s.mix.busNext ++ [(3, if v < 2 then (s.spoolBank v).busB else [])]
        engine := if v < 2 then some { bank := v } else none
        fading := if v < 2 ∧ 0 < fade then s.mix.engine.map fun e => (e, 0, fade) else none } }
    logEvent s 0x7200 0 (logValue 1 old) (logValue 1 v)

/-- A SPOOL effect point: the first sample boundary at or after the TP. -/
def spoolEffect (s : State) : State :=
  if s.period.any fun k => decide (s.gridNow ≤ k) then s else spoolSwap (computePeriod s)

def execSpoolEffectPoint (s : State) : Host.Outcome State Fault Refusal := actRunning s spoolEffect

end Sys2Proof.Machine
end

