-- ==== Sys2Proof/Machine/Audio.lean ====
section
/-! DEFINITION. The audio engine (R293-R323): bridges, ports and their elastic stores, filters, lip-sync delay, the channel
shuffle with its crossfades and gain moves, side-tone, meters, and the order of work in one 48 kHz period. -/

namespace Sys2Proof.Machine

def State.audioPort (s : State) (p : Nat) : PortSt := mapGet audioPortD s.audioPorts p
def State.setAudioPort (s : State) (p : Nat) (x : PortSt) : State :=
  { s with audioPorts := mapSet audioPortD s.audioPorts p x }
def State.setAin (s : State) (n : Nat) (x : AinSlot) : State := { s with ain := mapSet ainSlotD s.ain n x }
def State.aoutSlot (s : State) (n : Nat) : AoutSlot := mapGet aoutSlotD s.aout n
def State.setAout (s : State) (n : Nat) (x : AoutSlot) : State := { s with aout := mapSet aoutSlotD s.aout n x }

/-! Port elements (R301, R305): AP00-AP15 are ports 0-15, the Exair port of 0x7310:p is port 16 + p. -/

def State.portWord (s : State) (p : Nat) : Word := if p < 16 then s.elem 0x7300 p else s.elem 0x7310 (p - 16)
def State.portIn (s : State) (p : Nat) : Bool :=
  bit (s.portWord p) 31 && (if p < 16 then bit (s.portWord p) 25 else exairInput (p - 16))
def State.portOut (s : State) (p : Nat) : Bool :=
  bit (s.portWord p) 31 && (if p < 16 then bit (s.portWord p) 24 else !exairInput (p - 16))
/-- Clocking: a serial master, a port with an elastic store, a bridged port, an output that follows an input. -/
def State.portMaster (s : State) (p : Nat) : Bool := decide (p < 16) && bits (s.portWord p) 28 27 == 0
def State.portLocked (s : State) (p : Nat) : Bool :=
  if p < 16 then bits (s.portWord p) 28 27 == 1 else exairInput (p - 16) && bits (s.portWord p) 30 29 == 1
def State.portAsync (s : State) (p : Nat) : Bool :=
  if p < 16 then bits (s.portWord p) 28 27 == 2 else exairInput (p - 16) && bits (s.portWord p) 30 29 == 0
def State.portFollows (s : State) (p : Nat) : Bool :=
  decide (16 ≤ p) && !exairInput (p - 16) && bits (s.portWord p) 30 29 == 1
/-- The input port that a follow-input output follows (R305). -/
def State.followPort (s : State) (p : Nat) : Nat :=
  if p < 32 then 16 + bits (s.portWord p) 18 16 else 32 + bits (s.portWord p) 18 16
/-- Samples of each channel in one 48 kHz period (R301, R305). -/
def State.portPer (s : State) (p : Nat) : Nat :=
  if (if p < 16 then bit (s.portWord p) 26 else bit (s.portWord p) 28) then 2 else 1
def State.portChannels (s : State) (p : Nat) : Nat :=
  if p < 16 then serialChannels (s.portWord p) else exairChannels (p - 16) (s.portWord p)
def State.portInBase (s : State) (p : Nat) : Nat :=
  if p < 16 then s.field 0x7300 (0x10 + p) 31 16 else bits (s.portWord p) 15 0
def State.portOutBase (s : State) (p : Nat) : Nat :=
  if p < 16 then s.field 0x7300 (0x10 + p) 15 0 else bits (s.portWord p) 15 0

/-- The port of an AIN or AOUT binding's owner (R292). -/
def bindPort (kind owner : Nat) (out : Bool) : Nat :=
  if kind = 3 then owner
  else if kind = 4 then 16 + owner + (if out then 8 else 0)
  else 32 + owner + (if out then 4 else 0)

/-! Sources (R320). -/

/-- Whether a receive entry of a stream has packets within its last 4 packet times (R193). -/
def State.rxAudioActive (s : State) (e : Nat) : Bool :=
  match (s.rxOf e).lastAt with
  | some t => decide (s.up < t + 4 * packetTime (s.rxEntry e))
  | none => false

/-- Whether the source of channel `c` of a binding delivers samples by this member's own detection, its bridge apart. -/
def State.sourceHeard (s : State) (x : AudioBind) (c : Nat) : Bool :=
  if x.kind = 1 then
    !s.inputSilent x.owner && (bindKind (s.inBind x.owner) != 1 ||
      (bit (s.in_ x.owner).present (c / 4 + 1) &&
        (embedAsync (s.elem 0x4000 (0x800 + x.owner)) || !bit (s.in_ x.owner).asyncNow (c / 4 + 1))))
  else if x.kind = 2 then
    !s.flag 0x4400 (0x2000 + x.owner) 26 &&
      ((s.rxEntries.map Prod.fst).any fun e => s.streamOf e == x.owner && s.rxAudioActive e)
  else
    let p := bindPort x.kind x.owner false
    s.portMaster p || ((s.audioPort p).clock && !(s.audioPort p).rateErr)

/-- The source of channel `c` as `State.silent` names it: by group for de-embedded audio. -/
def AudioBind.sourceKey (x : AudioBind) (c : Nat) : Nat :=
  x.kind * 2 ^ 20 + x.owner * 2 ^ 4 + (if x.kind = 1 then c / 4 else 0)

/-- Whether the source of channel `c` of a binding delivers samples, its bridge apart: at a standby in step, as the active declared
(R321). -/
def State.sourcePresent (s : State) (x : AudioBind) (c : Nat) : Bool :=
  if s.mirrored then !s.silent.contains (x.sourceKey c) else s.sourceHeard x c

/-- A source declared lost or returned (R320). -/
def setSilent (s : State) (key : Nat) (lost : Bool) : State :=
  { s with silent := if lost then (s.silent.filter (· != key)) ++ [key] else s.silent.filter (· != key) }

/-- The detections of loss and return of this period, each a decision of the active's (R320, R321, R426). -/
def detectSources (s : State) : State :=
  if s.mirrored then s
  else
    let heard := (s.ainBinds.filter fun x => !x.copy).flatMap fun x =>
      (List.range (if x.kind = 1 then x.slots / (if x.b then 8 else 4) else 1)).map fun g => (x.sourceKey (4 * g), s.sourceHeard x (4 * g))
    let s := { s with silent := s.silent.filter fun k => heard.any fun h => h.1 == k }
    heard.foldl (fun s h =>
      if h.2 = !s.silent.contains h.1 then s else mirror (setSilent s h.1 (!h.2)) 22 (h.1 / 2 ^ 16) (h.1 % 2 ^ 16 * 2 + ofBool (!h.2))) s

/-! Bridges (R296-R300). -/

def State.bridge (s : State) (i : Nat) : Bridge := mapGet bridgeD s.bridges i
def State.setBridge (s : State) (i : Nat) (x : Bridge) : State := { s with bridges := mapPut s.bridges i x }
def State.hasBridge (s : State) (i : Nat) : Bool := s.bridges.any (·.1 == i)

/-- The lowest instance number from `first` on that is free (R300). -/
def freeNumber (used : List Nat) (first : Nat) : Nat :=
  ((List.range (used.length + 1)).map (first + ·)).find? (fun i => !used.contains i) |>.getD first

/-- A bridge as its binding makes it: it measures its clock from now on. -/
def newBridge (now : Rat) (x : AudioBind) : Bridge :=
  { kind := x.kind, owner := x.owner, base := x.base, slots := x.slots, per := if x.b then 2 else 1
    nominal := if x.kind ≤ 2 then (if x.b then 96000 else 48000) else 0, since := now, lastAt := now }

/-- The bridges brought in line with the bindings (R296, R300). -/
def syncBridges (s : State) : State :=
  let wanted := ((s.ainBinds.filter fun x => x.viaC && !x.copy).map fun x => (0, x)) ++
    ((s.aoutBinds.filter fun x => x.viaC).map fun x => (0x1000, x))
  let fits (i : Nat) (y : Bridge) (w : Nat × AudioBind) : Bool :=
    i / 0x1000 * 0x1000 == w.1 && y.kind == w.2.kind && y.owner == w.2.owner && y.base == w.2.base && y.slots == w.2.slots
  let kept := s.bridges.filter fun (e : Nat × Bridge) => wanted.any (fits e.1 e.2)
  let s := { s with bridges := kept }
  (wanted.filter fun w => !(kept.any fun e => fits e.1 e.2 w)).foldl (fun s w =>
    s.setBridge (freeNumber (s.bridges.map Prod.fst) w.1) (newBridge s.up w.2)) s

/-- The target fill in periods (R298). -/
def State.bridgeTarget (s : State) (i : Nat) : Nat :=
  let b := s.bridge i
  if i < 0x1000 ∧ b.kind = 1 ∧ s.synced b.owner = true then
    64 + ((((s.srcFmt b.owner).period / samplePeriod).ceil.toNat) + 1) / 2
  else 64

/-- Source samples that pass in one sample of the domain the bridge meets; for an output bridge, domain samples in one
frame of its pin. -/
def Bridge.inc (b : Bridge) (out : Bool) : Rat :=
  let pin : Rat := (b.nominal : Rat) * (1 + (b.ratio : Rat) / 1000000000)
  let grid : Rat := (48000 * b.per : Nat)
  if pin = 0 then 1 else if out then grid / pin else pin / grid

/-- Samples each queue of the bridge holds. -/
def State.bridgeHeld (s : State) (i : Nat) : Nat :=
  if i < 0x1000 then (mapGet natsD s.bridgeIn (s.bridge i).base).length else (s.bridge i).buf.length

/-- Buffered samples in one 48 kHz period: source samples for an input bridge, domain samples for an output bridge. -/
def State.bridgeRate (s : State) (i : Nat) : Rat :=
  let b := s.bridge i
  if i < 0x1000 then b.inc false * (b.per : Nat) else (b.per : Nat)

/-- Fill minus target in 1/16 period (R300). -/
def State.bridgeFill (s : State) (i : Nat) : Int :=
  ((((s.bridgeHeld i : Nat) - (s.bridge i).phase) / s.bridgeRate i - (s.bridgeTarget i : Nat)) * 16).floor

/-- A queue cut or filled with silence to `n` samples. -/
def fitQueue {α : Type} (zero : α) (n : Nat) (q : List α) : List α :=
  if n ≤ q.length then q.drop (q.length - n) else List.replicate (n - q.length) zero ++ q

/-- The channels' first slots of a bridge. -/
def Bridge.heads (b : Bridge) : List Nat := (List.range (b.slots / b.per)).map fun c => b.base + b.per * c

/-- A bridge's buffer reset to its target, the ratio kept (R299). -/
def resetBuffer (s : State) (i : Nat) : State :=
  let b := s.bridge i
  let n := ((s.bridgeTarget i : Nat) * s.bridgeRate i).ceil.toNat
  let s := s.setBridge i { b with phase := 0, fadeIn := 0, fadeOut := 0, buf := fitQueue [] n b.buf }
  if i < 0x1000 then
    b.heads.foldl (fun s h => { s with bridgeIn := mapMod natsD s.bridgeIn h fun q => fitQueue 0 n q }) s
  else s

/-- The resampled value at a read position; silence stays silence. -/
def resampleAt (phase : Rat) (q : List Nat) : Nat :=
  let w := q.take 64
  if w.all (· == 0) then 0 else (Config.resample phase w).toNat

/-- A fade's sample (R297, R299, R320). -/
def fadeSample (i v : Nat) : Nat := if v = 0 then 0 else if 48 ≤ i then v else (Config.fadeIn i v).toNat

/-- Whether the standard rates hold a measured rate within 1,000 ppm (R297). -/
def standardRate (rate : Rat) : Option Nat :=
  [32000, 44100, 48000, 88200, 96000, 176400, 192000].find? fun n =>
    decide ((n : Rat) * 999 / 1000 ≤ rate) && decide (rate ≤ (n : Rat) * 1001 / 1000)

/-- The port of a bridge, where it has one. -/
def Bridge.port (b : Bridge) (i : Nat) : Option Nat :=
  if 3 ≤ b.kind then some (bindPort b.kind b.owner (decide (0x1000 ≤ i))) else none

/-- The NOTE of rate errors, and of lost port clocks, ends with the last port or bridge that has one (R324). -/
def settleRate (s : State) : State :=
  if s.audioPorts.any (fun e => e.2.rateErr) || s.bridges.any (fun e => e.2.st == 4 || e.2.st == 5) then s else clearActive s 0x0C1
def settleClock (s : State) : State := if s.audioPorts.any fun e => e.2.absent then s else clearActive s 0x0C0

/-- A bridge's rate error declared or cleared, with its NOTE (R297, R324). -/
def setRateErr (s : State) (i : Nat) (on : Bool) : State :=
  let b := s.bridge i
  let s := match b.port i with
    | some p => s.setAudioPort p { s.audioPort p with rateErr := on }
    | none => s
  if on then declareFault s 0x0C1 i true else settleRate s

/-- A nominal rate taken, or none (R297). -/
def acquireBridge (s : State) (i : Nat) (found : Option (Nat × Int)) : State :=
  let b := s.bridge i
  match found with
  | some (n, ratio) =>
    let s := s.setBridge i { b with
      st := 1, nominal := n, ratio := ratio, integ := (ratio : Rat) / 1000000000, band := 1, bandAt := s.up, updAt := s.up }
    resetBuffer (if b.st = 4 then setRateErr s i false else s) i
  | none => if b.st = 4 then s else setRateErr (s.setBridge i { b with st := 4 }) i true

/-- 10 ms of measurement end (R297): a decision of the active's (R426), 0 where no nominal rate is found. -/
def bridgeAcquired (s : State) (i : Nat) (rate : Rat) : State :=
  let b := s.bridge i
  if !s.hasBridge i || b.band != 0 || (b.st != 1 && b.st != 4) || decide (s.up < b.since + 10000000) || s.mirrored then s
  else
    let nominal := if b.kind ≤ 2 then
        (if (b.nominal : Rat) * 999 / 1000 ≤ rate ∧ rate ≤ (b.nominal : Rat) * 1001 / 1000 then some b.nominal else none)
      else standardRate rate
    match nominal with
    | some n =>
      let ratio := ((rate / (n : Nat) - 1) * 1000000000).floor
      mirror (acquireBridge s i (some (n, ratio))) 8 i (n * 2 ^ 32 + ofSigned 32 ratio)
    | none => mirror (acquireBridge s i none) 8 i 0

def execBridgeAcquire (bridge : Nat) (rate : Rat) (s : State) : Host.Outcome State Fault Refusal :=
  onUnit bridge 0x2000 s fun s => bridgeAcquired (syncBridges s) bridge rate

/-- The next bandwidth (R297). -/
def widenBridge (s : State) (i : Nat) : State :=
  let b := s.bridge i
  s.setBridge i { b with band := b.band + 1, bandAt := s.up, st := if b.band = 5 then 2 else 1 }

/-- A bandwidth step (R297): a decision of the active's (R426). -/
def bridgeStep (s : State) (i : Nat) : State :=
  let b := s.bridge i
  if !s.hasBridge i || b.st != 1 || b.band == 0 || decide (6 ≤ b.band) || decide (s.up < b.bandAt + 400000000) || s.mirrored then s
  else mirror (widenBridge s i) 9 i 0

def execBridgeBandwidthStep (bridge : Nat) (s : State) : Host.Outcome State Fault Refusal :=
  onUnit bridge 0x2000 s fun s => bridgeStep s bridge

/-- A ratio taken (R297): past the tracking range it is a rate error. -/
def setRatio (s : State) (i : Nat) (ratio : Int) : State :=
  let b := s.bridge i
  if ratio < -1000000 ∨ 1000000 < ratio then setRateErr (s.setBridge i { b with st := 4, band := 0, since := s.up }) i true
  else s.setBridge i { b with next := some ratio, updAt := s.up }

/-- The loop's bandwidth in 1/100 Hz (R297). -/
def Bridge.bandwidth (b : Bridge) : Nat :=
  match b.band with
  | 1 => 2000 | 2 => 1000 | 3 => 500 | 4 => 250 | 5 => 125 | _ => 100

/-- One update of the loop for an error in seconds (R297): second order with a damping factor of 1.0, so that the proportional
gain is twice the natural frequency and the integral gain its square; updates are 1 ms apart. The new integrator, and the ratio
in 10^-9. -/
def Bridge.loop (b : Bridge) (error : Rat) : Rat × Int :=
  let w := Config.bridgeNatural b.bandwidth
  let integ := b.integ + w * w * error / 1000
  (integ, ((integ + 2 * w * error) * 1000000000).floor)

/-- A ratio update (R297): a decision of the active's (R426). -/
def bridgeRatio (s : State) (i : Nat) (error : Rat) : State :=
  let b := s.bridge i
  if !s.hasBridge i || b.band == 0 || (b.st != 1 && b.st != 2) || decide (s.up < b.updAt + 1000000) || s.mirrored then s
  else
    let r := b.loop error
    mirror (setRatio (s.setBridge i { b with integ := r.1 }) i r.2) 6 i (ofSigned 32 r.2)

def execBridgeRatioUpdate (bridge : Nat) (error : Rat) (s : State) : Host.Outcome State Fault Refusal :=
  onUnit bridge 0x2000 s fun s => bridgeRatio s bridge error

/-- A bridge without its source (R299): an input bridge plays out; an output bridge holds its ratio, with RATE_ERR. -/
def dropBridge (s : State) (i : Nat) : State :=
  if i < 0x1000 then s.setBridge i { s.bridge i with st := 3 } else setRateErr (s.setBridge i { s.bridge i with st := 5 }) i true

/-- A lost source (R299): a decision of the active's (R426). -/
def bridgeLost (s : State) (i : Nat) : State :=
  let b := s.bridge i
  let lost := if i < 0x1000 then decide (b.lastAt + 10000000 ≤ s.up) else match b.port i with
    | some p => s.portFollows p && !(s.audioPort (s.followPort p)).clock
    | none => false
  if !s.hasBridge i || (b.st != 1 && b.st != 2) || !lost || s.mirrored then s
  else mirror (dropBridge s i) 10 i 0

def execBridgeSourceLost (bridge : Nat) (s : State) : Host.Outcome State Fault Refusal :=
  onUnit bridge 0x2000 s fun s => bridgeLost s bridge

/-- `m` samples of one queue from a read position, each `inc` on from the last. -/
def takeResampled (inc : Rat) : Nat → Rat → List Nat → List Nat
  | 0, _, _ => []
  | m + 1, phase, q =>
    let n := (phase + inc).floor.toNat
    resampleAt phase q :: takeResampled inc m (phase + inc - (n : Nat)) (q.drop n)

/-- Fixed delays of a bridged input beyond its fill, in periods (R294). -/
def extraDelay (kind : Nat) : Nat := if kind = 2 then 0 else if kind ≤ 3 then 1 else 2

/-- A re-centre begins (R299): counted, with a fade out. -/
def recentre (s : State) (i : Nat) : State :=
  let b := s.bridge i
  s.setBridge i { b with recentres := wrapAdd 16 b.recentres 1, recentreAt := some s.up, fadeOut := 48 }

/-- One period of an input bridge (R297-R299): its samples go on to AIN. -/
def runInputBridge (k : Int) (s : State) (i : Nat) : State :=
  let b0 := s.bridge i
  let src := (s.ainBinds.find? fun x => x.viaC && x.kind == b0.kind && x.owner == b0.owner).any fun x =>
    (List.range x.slots).any (s.sourcePresent x)
  let b := { b0 with ratio := b0.next.getD b0.ratio, next := none }
  let b := if !src && (b.st == 1 || b.st == 2) && b.band != 0 then { b with st := 3 }
    else if src && b.st == 3 && decide (b.since < b.lastAt) && decide (s.up < b.lastAt + 10000000) then
      { b with st := 1, band := 0, since := s.up }
    else b
  let s := s.setBridge i b
  if b.band = 0 ∨ b.st = 4 then s
  else
    let s := if b.st != 3 && b.fadeOut == 0 && b.fadeIn == 48 && decide (256 < (s.bridgeFill i).natAbs) && !s.mirrored then
        mirror (recentre s i) 11 i 0
      else s
    let b := s.bridge i
    let inc := b.inc false
    let left := ((s.bridgeHeld i : Nat) / s.bridgeRate i).floor.toNat
    let moved := ((b.phase + inc * (b.per : Nat)).floor).toNat
    let shape (v : Nat) : Nat :=
      if b.st = 3 then fadeSample left v else if b.fadeOut ≠ 0 then fadeSample (b.fadeOut - 1) v else fadeSample b.fadeIn v
    let s := b.heads.foldl (fun s h =>
      let q := mapGet natsD s.bridgeIn h
      let vs := takeResampled inc b.per b.phase q
      let s := { s with bridgeIn := mapSet natsD s.bridgeIn h (q.drop moved) }
      (vs.zipIdx).foldl (fun s v => giveSample s false (h + v.2) (k + (extraDelay b.kind : Nat)) (shape v.1)) s) s
    let s := s.setBridge i { b with
      phase := b.phase + inc * (b.per : Nat) - (moved : Nat)
      fadeIn := min 48 (b.fadeIn + 1), fadeOut := b.fadeOut - 1 }
    if b.fadeOut = 1 then resetBuffer s i else s

/-! Elastic stores (R307). -/

/-- The writer puts a frame in: a full store loses its oldest frames until 4 remain, and slips. -/
def Elastic.put (x : Elastic) (frame : List Nat) : Elastic × Bool :=
  if 8 ≤ x.frames.length then ({ x with frames := x.frames.drop (x.frames.length - 4) ++ [frame], hold := true }, true)
  else ({ x with frames := x.frames ++ [frame] }, false)

/-- The reader takes a frame: an empty store repeats its last one until it holds 4, and slips once. -/
def Elastic.get (x : Elastic) : Elastic × List Nat × Bool :=
  if x.hold && 4 ≤ x.frames.length then ({ x with hold := false }, x.last, false)
  else if x.hold then (x, x.last, false)
  else match x.frames with
    | f :: l => ({ x with frames := l, last := f }, f, false)
    | [] => ({ x with hold := true }, x.last, true)

/-- A store as it starts: half full of silence. -/
def newElastic (channels : Nat) : Elastic :=
  { frames := List.replicate 4 (List.replicate channels 0), last := List.replicate channels 0 }

/-- A store of a port, its input's or its output's. -/
def PortSt.store (x : PortSt) (out : Bool) : Elastic := if out then x.output else x.input
def PortSt.setStore (x : PortSt) (out : Bool) (e : Elastic) : PortSt := if out then { x with output := e } else { x with input := e }

/-- A slip of a port (R307). -/
def noteSlip (s : State) (p : Nat) : State :=
  (if p < 16 then s.count 0x7300 (0x200 + p) else s.count 0x7310 (0x200 + (p - 16))).setAudioPort p
    { s.audioPort p with slipAt := some s.up }

/-- A frame into a port's store. A slip is a decision of the active's (R426): a standby in step makes none of its own. -/
def putStore (s : State) (p : Nat) (out : Bool) (frame : List Nat) : State :=
  let x := s.audioPort p
  let e := x.store out
  if s.mirrored then s.setAudioPort p (x.setStore out { e with frames := (e.frames ++ [frame]).drop (e.frames.length + 1 - 16) })
  else
    let r := e.put frame
    let s := s.setAudioPort p (x.setStore out r.1)
    if r.2 then mirror (noteSlip s p) 19 p (ofBool out * 2 + 1) else s

/-- A frame out of a port's store. -/
def getStore (s : State) (p : Nat) (out : Bool) : State × List Nat :=
  let x := s.audioPort p
  let e := x.store out
  if s.mirrored ∧ e.frames = [] then (s, e.last)
  else
    let r := e.get
    let s := s.setAudioPort p (x.setStore out r.1)
    (if r.2.2 then mirror (noteSlip s p) 19 p (ofBool out * 2) else s, r.2.1)

/-- A slip that the active made: the standby's store moves as the active's did (R307, R426). -/
def slipTold (s : State) (p : Nat) (out overflow : Bool) : State :=
  let x := s.audioPort p
  let e := x.store out
  noteSlip (s.setAudioPort p (x.setStore out
    { e with hold := true, frames := if overflow then e.frames.drop (e.frames.length - 4) else e.frames })) p

/-! AOUT as sinks take it (R293, R294). -/

/-- The value AOUT slot `n` had `d` periods before the last one. -/
def State.aoutBack (s : State) (n d : Nat) : Nat :=
  let l := s.aoutNow n
  if d < l.length then (l[l.length - 1 - d]?).getD 0 else 0

/-- The frames a port's AOUT channels give for one period, `d` periods before the last: two in domain B. -/
def State.outFrames (s : State) (base channels per d : Nat) : List (List Nat) :=
  (List.range per).map fun i => (List.range channels).map fun c => s.sinkGate (s.gridNow - d) (s.aoutBack (base + per * c + i) d)

/-! Gains (R309-R311). -/

def gainOf (w : Word) : Option Int := if w = 0x8000 then none else some (toSigned 16 w)

/-- A sample under a gain: unity leaves it, mute gives silence (R309). -/
def gainSample (g : Option Int) (v : Nat) : Nat :=
  match g with
  | none => 0
  | some g => if g = 0 ∨ v = 0 then v else (Config.gained g v).toNat

/-- One step toward the target: 0.5 dB, the last one what remains; to mute by way of -96.00 dB, and from it too. -/
def stepGain (now target : Option Int) : Option Int :=
  match now, target with
  | none, none => none
  | none, some _ => some (-9600)
  | some g, none => if g ≤ -9600 then none else some (max (g - 50) (-9600))
  | some g, some t => if g < t then some (min (g + 50) t) else some (max (g - 50) t)

def GainSt.step (g : GainSt) (now : Rat) : GainSt := { g with now := stepGain g.now g.target, stepAt := now }

/-- The timeout of 0x7400:E011 in ns. -/
def State.gainTimeout (s : State) : Rat := (s.eff 0x7400 0xE011 : Nat) * 1000000

/-- A gain watches one input sample and takes a step at a zero crossing or at the timeout (R311). -/
def GainSt.watch (g : GainSt) (s : State) (target : Option Int) (x : Nat) : GainSt :=
  let g := if g.target = target then g else { g with target := target, stepAt := s.up }
  let v := toSigned 24 x
  let g := if g.now != g.target && (decide (g.last * v ≤ 0) || decide (g.stepAt + s.gainTimeout ≤ s.up)) then g.step s.up else g
  { g with last := v }

/-- No zero crossing came in time (R311). -/
def gainTimeoutStep (s : State) (slot : Nat) : State :=
  let late (g : GainSt) : Bool := g.now != g.target && decide (g.stepAt + s.gainTimeout ≤ s.up)
  if slot < 0x10000 then
    let x := s.aoutSlot slot
    if late x.gain then s.setAout slot { x with gain := x.gain.step s.up } else s
  else
    let g := mapGet gainD s.sideGains (slot - 0x10000)
    if late g then { s with sideGains := mapSet gainD s.sideGains (slot - 0x10000) (g.step s.up) } else s

def execGainStepTimeout (slot : Nat) (s : State) : Host.Outcome State Fault Refusal :=
  if slot < 0xC000 then actRunning s fun s => gainTimeoutStep s slot
  else onUnit (slot - 0x10000 + (if slot < 0x10000 then 256 else 0)) 256 s fun s => gainTimeoutStep s slot

/-- One frame on a serial port's pins (R302): 32 BCLK periods a slot, the sample first and then eight zeros; FS low for channel
0 of I2S, high for one period of TDM; the data one period late in I2S and with FS_DELAY. -/
def serialPins (w : Word) (frame : List Nat) : List (Bool × Bool) :=
  let i2s := bits w 30 29 == 0
  let data := frame.flatMap fun v => (List.range 32).map fun b => decide (b < 24) && bit v (23 - b)
  let data := if i2s || bit w 23 then data.getLast?.toList ++ data.dropLast else data
  (data.zipIdx).map fun d => (if i2s then decide (32 ≤ d.2) else d.2 == 0, d.1)

/-- The samples of a serial port's slots as they stand from the FS edge on (R302). -/
def serialSamples (w : Word) (slots : List Nat) : List Nat :=
  slots.map fun v => (if bits w 30 29 == 0 || bit w 23 then v / 128 else v / 256) % 2 ^ 24

/-- The subframes of one frame (R306): the channel status of R150, V and U zero, even parity. The time slots 0-3 are the model's
shorthand for the preambles of AES3 and the mode bits of AES10 (PRESUMED). -/
def subframes (b96 : Bool) (n : Nat) (frame : List Nat) : List Nat :=
  (frame.zipIdx).map fun v =>
    let c := statusBit b96 false n
    ofBool (statusStart n && (v.2 % 2 == 0)) * 8 + ofBool (v.2 % 2 == 1) * 4 + v.1 % 2 ^ 24 * 16 + ofBool c * 2 ^ 30 +
      ofBool (xor (oddOnes 24 v.1) c) * 2 ^ 31

/-- A frame driven on a port's pins: silence where a fault stops every audio sink, or the AES3 and MADI ports (R557). -/
def driveAudio (s : State) (p : Nat) (frame : List Nat) : State :=
  let frame := if s.allStopped = true ∨ (16 ≤ p ∧ s.exairStopped = true) then frame.map fun _ => 0 else frame
  if p < 16 then s.emit (.serial p (!bit (s.portWord p) 22) (serialPins (s.portWord p) frame))
  else
    let x := s.audioPort p
    let s := s.setAudioPort p { x with blockOut := (x.blockOut + 1) % 192 }
    s.emit (.audio p (subframes (bit (s.portWord p) 28) x.blockOut frame))

/-- A frame that output bridge `i` sends on port `p` at its pin clock (R296, R299). -/
def bridgedFrame (s : State) (p i : Nat) : State :=
  let b := s.bridge i
  if b.band = 0 ∨ b.st = 4 then driveAudio (s.setBridge i { b with lastAt := s.up }) p (List.replicate (s.portChannels p) 0)
  else
    let s := if b.fadeOut == 0 && b.fadeIn == 48 && decide (256 < (s.bridgeFill i).natAbs) && !s.mirrored then
        mirror (recentre s i) 11 i 0
      else s
    let b := s.bridge i
    let n := ((b.phase + b.inc true).floor).toNat
    let frame := (List.range (s.portChannels p)).map fun c =>
      fadeSample (if b.fadeOut ≠ 0 then b.fadeOut - 1 else b.fadeIn)
        (resampleAt b.phase (b.buf.map fun f => (f[c]?).getD 0))
    let s := s.setBridge i { b with
      phase := b.phase + b.inc true - (n : Nat), buf := b.buf.drop n, lastAt := s.up
      fadeIn := min 48 (b.fadeIn + 1), fadeOut := b.fadeOut - 1 }
    driveAudio (if b.fadeOut = 1 then resetBuffer s i else s) p frame

/-- A bridge whose followed input is lost keeps its ratio and its own pin clock: each period it sends the frames that hold
its fill at the target (R299). -/
def heldFrames (s : State) (p i : Nat) : State :=
  if (s.bridge i).st != 5 then s
  else (List.range 8).foldl (fun s _ => if 0 < s.bridgeFill i then bridgedFrame s p i else s) s

/-! Side-tone (R316, R317). -/

def sideOn (w : Word) : Bool := bit w 127
def sideOutPort (w : Word) : Nat := bits w 122 119
def sideOutCh (w : Word) : Nat := bits w 118 114
/-- Input `i`: port, channel, gain. -/
def sideIn (w : Word) (i : Nat) : Nat × Nat × Word :=
  let f := bits w (111 - 28 * i) (84 - 28 * i)
  (bits f 27 24, bits f 23 19, bits f 15 0)
def State.sidePaths (s : State) : List (Nat × Word) :=
  ((s.span 0x7600 0 64).map fun e => (e.1, s.eff 0x7600 e.1)).filter fun e => sideOn e.2

/-- The output frame `i` of a period of master port `p`, with the side-tone sums of inputs 3 pin frames old. -/
def sideTone (s : State) (p i : Nat) (frame : List Nat) : State × List Nat :=
  (s.sidePaths.filter fun e => sideOutPort e.2 == p).foldl (fun (s, fr) (n, w) =>
    let (s, sum) := (List.range (bits w 125 123)).foldl (fun (s, sum) j =>
      let (q, ch, g) := sideIn w j
      let x := ((((s.audioPort q).frames[2 - i]?).getD [])[ch]?).getD 0
      let st := (mapGet gainD s.sideGains (4 * n + j)).watch s (gainOf g) x
      ({ s with sideGains := mapSet gainD s.sideGains (4 * n + j) st }, sum + toSigned 24 (gainSample st.now x)))
      (s, (0 : Int))
    let sum := toSigned 24 (s.sinkGate s.gridNow (ofSigned 24 (clampSigned 24 sum)))
    let old := toSigned 24 ((fr[sideOutCh w]?).getD 0)
    (s, fr.set (sideOutCh w) (ofSigned 24 (if bit w 126 then clampSigned 24 (old + sum) else sum)))) (s, frame)

/-! Sinks (R293 step 8, R294). -/

/-- What an output embeds while its format changes (R153): silence, then a fade in over the crossfade length. -/
def embedFade (s : State) (j : Nat) (rows : List (List Nat)) : List (List Nat) :=
  let x := s.out j
  let len := s.eff 0x6000 (0x1800 + j)
  let i := ((s.now - x.changeAt) / samplePeriod).floor
  if x.changeTo.isSome ∨ s.now < x.changeAt then rows.map fun r => r.map fun _ => 0
  else if x.force.isSome = true ∧ 0 ≤ i ∧ i < (len : Int) then
    rows.map fun r => r.map fun v => if v = 0 then 0 else (Config.raisedCosine i.toNat len v 0).toNat
  else rows

/-- What every sink takes at the start of a period: the AOUT values its fixed delay makes due. -/
def sendSinks (s : State) : State :=
  s.aoutBinds.foldl (fun s x =>
    let per := if x.b then 2 else 1
    let ch := x.slots / per
    if x.kind = 1 then
      s.setOut x.owner { s.out x.owner with
        audioAt := s.now
        audio := ((s.out x.owner).audio ++ embedFade s x.owner (s.outFrames x.base ch per 0)).drop ((s.out x.owner).audio.length + per - 4096) }
    else if x.kind = 2 then s
    else
      let p := bindPort x.kind x.owner true
      if s.portMaster p then
        ((s.outFrames x.base ch per 0).zipIdx).foldl (fun s f =>
          let r := sideTone s p f.2 f.1
          driveAudio r.1 p r.2) s
      else if x.viaC then
        match s.bridges.find? fun e => decide (0x1000 ≤ e.1) && e.2.kind == x.kind && e.2.owner == x.owner with
        | some (i, b) =>
          let buf := b.buf ++ s.outFrames x.base ch per (if p < 16 then 0 else 1)
          heldFrames (s.setBridge i { b with
            buf := buf.drop (buf.length - 1152 * per), ratio := b.next.getD b.ratio, next := none }) p i
        | none => s
      else if s.portLocked p then
        (s.outFrames x.base ch per 0).foldl (fun s f => putStore s p true f) s
      else (s.outFrames x.base ch per 1).foldl (fun s f => driveAudio s p f) s) s

/-! Sources into AIN (R293 steps 1 and 2). -/

/-- The pin frames of a master port: they reach AIN one period on, and side-tone three pin frames on. -/
def masterFrames (k : Int) (s : State) (e : Nat × List (List Nat)) : State :=
  let p := e.1
  if !s.portMaster p || !s.portIn p then s
  else
    let per := s.portPer p
    ((e.2.take per).zipIdx).foldl (fun s f =>
      let fr := f.1.take (s.portChannels p)
      let s := s.setAudioPort p { s.audioPort p with frames := (fr :: (s.audioPort p).frames).take 3 }
      (fr.zipIdx).foldl (fun s v => giveSample s false (s.portInBase p + per * v.2 + f.2) (k + 1) v.1) s) s

/-- A locked input's store gives the period's frames. -/
def storeFrames (k : Int) (s : State) (p : Nat) : State :=
  if !(s.portIn p && s.portLocked p && (s.audioPort p).clock) then s
  else
    let per := s.portPer p
    (List.range per).foldl (fun s i =>
      let r := getStore s p false
      (r.2.zipIdx).foldl (fun s v =>
        giveSample s false (s.portInBase p + per * v.2 + i) (k + (if p < 16 then 1 else 2)) v.1) r.1) s

/-! The AIN stage (R293 steps 1-5, R313-R315, R320). -/

/-- The sample due for AIN slot `n` in period `k`: silence where none came. -/
def popAin (s : State) (n : Nat) (k : Int) : State × Nat :=
  let q := mapGet ainInD s.ainIn n
  match q with
  | (k', v) :: l => if k' ≤ k then ({ s with ainIn := mapSet ainInD s.ainIn n l }, v) else (s, 0)
  | [] => (s, 0)

/-- A filter that is assigned, or zero state (R313). -/
def filterOne (on : Bool) (corner : Nat) (b : Bool) (st v : Nat) : Nat × Nat :=
  if !on then (0, v)
  else if st = 0 ∧ v = 0 then (0, 0)
  else (Config.filterNext corner b st v, (Config.filterOut corner b st v).toNat)

/-- Offset removal, then the high-pass filter, on a channel. -/
def filterSample (w : Word) (b : Bool) (x : AinSlot) (v : Nat) : AinSlot × Nat :=
  let (o, v) := filterOne (bit w 14) 2 b x.offset v
  let (h, v) := filterOne (bit w 15) (20 + bits w 7 0) b x.high v
  ({ x with offset := o, high := h }, v)

/-- A delay crossfade ends after 240 samples, and a new value starts one (R315). -/
def settleDelay (req : Nat) (x : AinSlot) : AinSlot :=
  let x := if x.at_.any fun i => decide (240 ≤ i) then { x with at_ := none } else x
  if x.at_.isNone && x.delay != req then
    (if x.line.isEmpty then { x with delay := req } else { x with was := x.delay, delay := req, at_ := some 0 })
  else x

/-- The delayed sample of a line (R314): zero where the line holds too little history. `ctl` is the channel's control,
`second` the second slot of a B channel. -/
def delaySample (ctl : AinSlot) (line : List Nat) (b second : Bool) : Nat :=
  let new := ((line)[ctl.delay]?).getD 0
  match ctl.at_ with
  | none => new
  | some i =>
    let old := ((line)[ctl.was]?).getD 0
    if new = old then new
    else if b then (Config.raisedCosine (2 * i + ofBool second) 480 new old).toNat
    else (Config.raisedCosine i 240 new old).toNat

/-- One AIN channel in period `k`: its first slot holds the channel's control. -/
def runChannel (k : Int) (x : AudioBind) (s : State) (c : Nat) : State :=
  let per := if x.b then 2 else 1
  let n := x.base + per * c
  let src := s.sourcePresent x c
  let bridged := s.bridges.any fun e => decide (e.1 < 0x1000) && e.2.kind == x.kind && e.2.owner == x.owner &&
    e.2.band != 0 && (e.2.st == 1 || e.2.st == 2)
  let present := src && (!x.viaC || bridged)
  let fw := s.eff 0x7500 n
  let g := s.elem 0x7410 n
  let ctl0 := s.ainSlot n
  let ctl0 := if present then ctl0 else { ctl0 with fade := if x.viaC then 48 else 0 }
  let ctl := if bit g 15 then settleDelay (s.eff 0x7420 n) ctl0 else { ctl0 with delay := 0, at_ := none }
  let limit := 48 * s.field 0x5520 (bits g 7 0) 29 18 + 1
  let step (acc : State × AinSlot) (i : Nat) : State × AinSlot :=
    let (s, ctl) := acc
    let r := popAin s (n + i) k
    let v := if present || x.viaC then fadeSample ctl.fade r.2 else 0
    let (ctl, v) := filterSample fw x.b ctl v
    let old := if i = 0 then ctl else r.1.ainSlot (n + i)
    let line := if bit g 15 then (v :: old.line).take limit else []
    let v := if bit g 15 then (if s.stackStopped then 0 else delaySample ctl line x.b (i == 1)) else v
    let new : AinSlot := { old with value := v, present := present, line := line, hist := (v :: old.hist).take 33 }
    if i = 0 then (r.1, { new with offset := ctl.offset, high := ctl.high })
    else (r.1.setAin (n + i) { new with fade := 48, offset := 0, high := 0, delay := 0, was := 0, at_ := none }, ctl)
  let (s, ctl) := (List.range per).foldl step (s, ctl)
  s.setAin n { ctl with fade := min 48 (ctl.fade + ofBool present), at_ := ctl.at_.map (· + 1) }

def execDelayCrossfadeEnd (slot : Nat) (s : State) : Host.Outcome State Fault Refusal :=
  onUnit slot 49152 s fun s =>
    if s.flag 0x7410 slot 15 then s.setAin slot (settleDelay (s.eff 0x7420 slot) (s.ainSlot slot)) else s

/-- Slots that no source binds any more read silence. -/
def clearUnbound (s : State) : State :=
  { s with
    ain := s.ain.filter fun (e : Nat × AinSlot) => decide (40960 ≤ e.1) || s.ainBinds.any (·.covers e.1)
    ainIn := s.ainIn.filter fun (e : Nat × List (Int × Nat)) => s.ainBinds.any (·.covers e.1) }

/-- The results of three periods ago are presented in AIN 40960-49151 (R293 step 5, R328). -/
def presentBus (s : State) : State :=
  let due := s.mix.results.length ≥ 3
  let bus : SMap Nat := if due then s.mix.results.headD [] else []
  let domains : List (Nat × List (Nat × Nat)) := s.mix.busNext
  let waiting := (domains.filter fun x => x.1 != 0).map fun x => (x.1 - 1, x.2)
  let now := ((domains.find? fun x => x.1 == 0).map Prod.snd).getD s.busSlotsB
  let s := { s with
    busSlotsB := now
    mix := { s.mix with
      results := if due then s.mix.results.drop 1 else s.mix.results
      busNext := waiting }
    ain := s.ain.filter fun (e : Nat × AinSlot) => decide (e.1 < 40960) || bus.any (fun (b : Nat × Nat) => b.1 == e.1) }
  if s.trapped then { s with ain := s.ain.filter fun (e : Nat × AinSlot) => decide (e.1 < 40960) }
  else bus.foldl (fun s (b : Nat × Nat) =>
    s.setAin b.1 { s.ainSlot b.1 with value := b.2, present := true, hist := (b.2 :: (s.ainSlot b.1).hist).take 33 }) s

/-! The shuffle (R252, R253, R295, R308-R312). -/

/-- The AIN slot AOUT slot `n` takes on air, whatever the state of its source, and whether it is silenced (R252). -/
def State.airRoute (s : State) (n : Nat) : Nat × Bool :=
  match s.followerOf n with
  | some j =>
    let src := s.airElem 0x5000 j
    if !isInput src || !s.srcBound src then (0xFFFF, true)
    else
      let ro := s.outRange j
      let ri := s.inRange src
      let k := (n - ro.1) / rangeStep ro
      if k < ri.2.1 then (ri.1 + rangeStep ri * k, s.inputSilent src) else (0xFFFF, true)
  | none => (s.airElem 0x7000 n, false)

/-- The present and past samples of an AIN channel, newest first: a B channel's two slots interleaved. -/
def State.chanHist (s : State) (n : Nat) (b : Bool) : List Nat :=
  let l := (s.ainSlot n).hist
  if b then (((s.ainSlot (n + 1)).hist).zip l).flatMap fun p => [p.1, p.2] else l

/-- AIN channel `r` as slot `n + i` of an AOUT channel sees it, through a converter where the domains differ (R295). -/
def State.viewed (s : State) (r i : Nat) (toB : Bool) : Nat :=
  if 0xC000 ≤ r then 0
  else if toB && !s.ainB r then
    let h := s.chanHist r false
    if h.all (· == 0) then 0 else (Config.interpolate i h).toNat
  else if !toB && s.ainB r then
    let h := s.chanHist r true
    if h.all (· == 0) then 0 else (Config.decimate h).toNat
  else s.ainVal (r + i)

/-- A route's fade length (R253, R309). -/
def State.fadeLen (s : State) (n : Nat) : Nat :=
  match s.followerOf n with
  | some j => s.eff 0x6000 (0x1800 + j)
  | none => s.eff 0x7400 0xE010

def pushAout (s : State) (n v : Nat) : State :=
  { s with aoutOut := mapMod natsD s.aoutOut n fun l => (l ++ [v]).drop (l.length + 1 - 96) }

/-- One AOUT channel: crossfade, zero-crossing detector, gain (R309-R312). -/
def runOut (s : State) (n : Nat) : State :=
  let b := s.aoutB n
  let x := s.aoutSlot n
  let (r, muted) := s.airRoute n
  let len := s.fadeLen n
  let x := if r = x.route then x
    else { x with old := x.route, route := r, at_ := if len = 0 then none else some 0, len := len }
  let target := gainOf (s.airElem 0x7100 n)
  let step (acc : State × AoutSlot) (i : Nat) : State × AoutSlot :=
    let (s, x) := acc
    let new := if muted then 0 else s.viewed x.route i b
    let v := match x.at_ with
      | none => new
      | some k =>
        let old := s.viewed x.old i b
        if new = old then new
        else if b then (Config.raisedCosine (2 * k + i) (2 * x.len) new old).toNat
        else (Config.raisedCosine k x.len new old).toNat
    let g := x.gain.watch s target v
    (pushAout s (n + i) (gainSample g.now v), { x with gain := g })
  let (s, x) := (List.range (if b then 2 else 1)).foldl step (s, x)
  let at_ := match x.at_ with
    | some k => if k + 1 < x.len then some (k + 1) else none
    | none => none
  s.setAout n { x with at_ := at_ }

/-- The AOUT channels that are not at rest in silence. -/
def State.liveOut (s : State) : List Nat :=
  ((s.routedSlots ++ s.aout.map Prod.fst).filter fun n => !s.aoutSecond n).eraseDups

/-! Meters (R318, R319, R333). -/

def meterValue (peak sum n : Nat) : Word :=
  let p := if peak = 0 then 0xC7C0 else (Config.peakDb peak).toNat
  let r := if sum = 0 ∨ n = 0 then 0xC7C0 else ofSigned 16 (max (-14400) (toSigned 16 (Config.rmsDb sum n).toNat))
  p * 65536 + r

/-- Intervals in the RMS window. -/
def windowIntervals (w : Nat) : Nat := match w with | 0 => 1 | 1 => 10 | 2 => 30 | _ => 100

/-- A 10 ms interval ends: every reading changes at once (R319). -/
def publishMeters (s : State) (interval : Int) : State :=
  let s := s.meters.foldl (fun s (e : Nat × Meter) =>
    let n := e.1 % 0x10000
    let (idx, w) := if e.1 < 0x10000 then (0x7710, s.field 0x7700 n 6 5) else if e.1 < 0x20000 then
      (0x7711, s.field 0x7701 n 6 5) else (0x7230, e.2.window)
    let past := ((e.2.sum, e.2.n) :: e.2.past).take 100
    let win := past.take (windowIntervals w)
    let old := s.elem idx n
    let s := s.put idx n (meterValue e.2.peak (sumNat (win.map Prod.fst)) (sumNat (win.map Prod.snd)))
    { s with
      meters := mapPut s.meters e.1 { past := past, window := e.2.window }
      meterOld := mapSet keyReset s.meterOld (ekey idx n) old }) { s with meterOld := [] }
  { s with meterAt := interval, meterStamp := (s.plane 0).origin + (interval : Rat) * 480 * samplePeriod }

/-- The interval of the meters that a period belongs to. -/
def intervalOf (k : Int) : Int := k / 480

def meterTick (s : State) : State :=
  if intervalOf s.gridNow = s.meterAt then s else publishMeters s (intervalOf s.gridNow)

def execMeterIntervalEnd (s : State) : Host.Outcome State Fault Refusal := actRunning s meterTick

/-- The channels metered in one space, as (slot, domain B). -/
def State.metered (s : State) (out : Bool) : List (Nat × Bool) :=
  ((s.span (if out then 0x7701 else 0x7700) 0 49152).filter fun e => bit e.2 7).map fun e =>
    (e.1, if out then s.aoutB e.1 else s.ainB e.1)

def runMeters (s : State) : State :=
  let tick (out : Bool) (s : State) (e : Nat × Bool) : State :=
    (List.range (if e.2 then 2 else 1)).foldl (fun s i =>
      let v := if out then s.aoutVal (e.1 + i) else s.ainVal (e.1 + i)
      let key := (if out then 0x10000 else 0) + e.1
      { s with meters := mapPut s.meters key ((mapGet meterD s.meters key).take v) }) s
  (s.metered true).foldl (tick true) ((s.metered false).foldl (tick false) s)

/-! The period (R293). -/

/-- The AUDIO bank's active set goes on air at its effect points (R53). -/
def audioSwap (s : State) : State :=
  if !s.sampleEffectDue 1 then s
  else ((s.bankKeys 1 ++ (s.onAir.map Prod.fst).filter fun k => bankNum (k / 65536) (k % 65536) == some 1).eraseDups).foldl
    (fun s k => { s with onAir := mapSet keyReset s.onAir k (mapGet keyReset s.dict k) }) s

/-- The digests of a period (R434): every AOUT slot, and AIN 0-40959, three bytes each. -/
def digestAudio (s : State) (k : Int) : State :=
  if !s.paired || !s.pair.inStep then s
  else
    let s := digestPeriod s 10 k ((List.range 40960).flatMap fun n => toBytes 3 (s.ainVal n))
    digestPeriod s 3 k ((List.range 49152).flatMap fun n => toBytes 3 (s.aoutVal n))

/-- Steps 1 to 8 of a period, once for each period of the grid. -/
def audioPeriod (s : State) (frames : List (Nat × List (List Nat))) : State :=
  let k := s.gridNow
  if s.period = some k then s
  else
    let s := audioSwap (spoolSwap (computePeriod (meterTick s)))
    let s := sendSinks (syncBridges (clearUnbound s))
    let s := detectSources s
    let (s, frames) := insertAudio s (frames.map fun e => (e.1, e.2.map (serialSamples (s.portWord e.1))))
    let s := frames.foldl (masterFrames k) s
    let s := (List.range 40).foldl (storeFrames k) s
    let s := ((s.bridges.map Prod.fst).filter fun i => decide (i < 0x1000)).foldl (runInputBridge k) s
    let s := (s.ainBinds.filter fun x => !x.copy).foldl (fun s x =>
      (List.range (x.slots / (if x.b then 2 else 1))).foldl (runChannel k x) s) s
    let s := presentBus s
    let s := s.liveOut.foldl runOut s
    let s := digestAudio (captureAudio (runMeters s) s.ainVal s.aoutVal) k
    { s with period := some k, mix := { s.mix with computed := false } }

/-! Pin clocks (R303, R306, R307, R322). -/

/-- Whether a port takes its clock from its pins: a slave port or an input (R303, R306). -/
def State.portClocked (s : State) (p : Nat) : Bool :=
  bit (s.portWord p) 31 && !s.portMaster p && (decide (p < 16) || exairInput (p - 16))

/-- A clock comes back (R307): the stores start half full. -/
def clockReturns (s : State) (p : Nat) : State :=
  let x := s.audioPort p
  if x.clock then s
  else settleClock (s.setAudioPort p { x with
    clock := true, absent := false, input := newElastic (s.portChannels p), output := newElastic (s.portChannels p) })

/-- Whether a locked input's rate is the one it must run at (R306). -/
def State.lockedRateOk (s : State) (p rate : Nat) : Bool := standardRate (rate : Nat) == some (48000 * s.portPer p)

/-- A frame goes out on a slave or follow-input port at its pin clock. -/
def sendPinFrame (s : State) (p : Nat) : State :=
  if !s.portOut p then s
  else if s.portLocked p then
    let r := getStore s p true
    driveAudio r.1 p r.2
  else match s.bridges.find? fun e => decide (0x1000 ≤ e.1) && e.2.port e.1 == some p with
    | some (i, b) => bridgedFrame (if b.st = 5 then setRateErr (s.setBridge i { b with st := 2 }) i false else s) p i
    | none => s

/-- A frame at a pin clock: into a bridge or a store, and out of one. Bit 1 of a channel-status block marks non-audio data (R306). -/
def pinFrame (s : State) (p rate : Nat) (slots bad : List Nat) (block : Bool) : State :=
  if !s.portClocked p then s
  else
    let s := clockReturns (syncBridges s) p
    let x := s.audioPort p
    let rateErr := if s.portLocked p && decide (16 ≤ p) then !s.lockedRateOk p rate else x.rateErr
    let s := if rateErr && !x.rateErr then declareFault s 0x0C1 p true else s
    let slots := slots.take (s.portChannels p)
    let samples := if p < 16 then serialSamples (s.portWord p) slots else slots.map fun v => bits v 27 4
    let odd := (slots.zipIdx).filterMap fun v => if oddOnes 28 (v.1 / 16) then some v.2 else none
    let bad := if p < 16 then [] else ((bad.filter fun c => decide (c < s.portChannels p)) ++ odd).eraseDups
    let place := if block then 0 else x.blockIn + 1
    let nonAudio := if p < 16 then false else if place = 1 then slots.any fun v => bit v 30 else x.nonAudio
    let frame := (List.range (s.portChannels p)).map fun c =>
      if bad.contains c then (x.last[c]?).getD 0 else (samples[c]?).getD 0 % 2 ^ 24
    let s := if bad.isEmpty then s else s.countBy 0x7310 (0x300 + (p - 16)) bad.length
    let s := s.setAudioPort p { s.audioPort p with
      edgeAt := s.up, rate := rate, rateErr := rateErr, last := frame
      nonAudio := nonAudio, blockIn := place
      errAt := if bad.isEmpty then (s.audioPort p).errAt else some s.up }
    let s := if x.rateErr && !rateErr then settleRate s else s
    let s :=
      if !s.portIn p then s
      else if s.portAsync p then
        let s := (frame.zipIdx).foldl (fun s v => giveSample s true (s.portInBase p + s.portPer p * v.2) 0 v.1) s
        match s.bridges.find? fun e => decide (e.1 < 0x1000) && e.2.port e.1 == some p with
        | some (i, b) => s.setBridge i { b with lastAt := s.up }
        | none => s
      else
        putStore s p false frame
    let outs := if p < 16 then [p] else (List.range 24).map (16 + ·) |>.filter fun q => s.portFollows q && s.followPort q == p
    outs.foldl sendPinFrame s

def execAudioPortFrame (port rate : Nat) (samples bad : List Nat) (block : Bool) (s : State) :
    Host.Outcome State Fault Refusal :=
  onUnit port 40 s fun s => pinFrame s port rate samples bad block

/-- 10 ms without edges (R303, R324). -/
def clockLost (s : State) (p : Nat) : State :=
  let x := s.audioPort p
  if !s.portClocked p || x.absent || decide (s.up < x.edgeAt + 10000000) then s
  else
    let s := s.setAudioPort p { x with clock := false, absent := true, rate := 0, input := {}, output := {} }
    declareFault s 0x0C0 p true

def execAudioPortClockLost (port : Nat) (s : State) : Host.Outcome State Fault Refusal :=
  onUnit port 40 s fun s => clockLost s port

end Sys2Proof.Machine
end

