-- ==== Sys2Proof/Machine/AudioConf.lean ====
section
/-! DEFINITION. The elements of the audio chapters (R282, R284, R301-R305, R308-R318) and what their writes are refused
with: ports, filters, delay groups and delays, side-tone paths, meters, totals. -/

namespace Sys2Proof.Machine

/-- A structural element without a move (R262): applied at its commit. -/
def fixedHandler (s : State) (idx sub : Nat) (payload : List Byte) (c : Checks) (after : State → State) : Handler :=
  let h := plainHandler s idx sub payload c
  { h with struct := true, commit := fun s => after (h.commit s) }

/-! Ports (R301-R305). -/

/-- Whether a range of AIN slots is named by a route in any set, or read by an active or loaded spool (R304). -/
def State.ainNamed (s : State) (base slots : Nat) : Bool :=
  let within (n : Nat) : Bool := decide (base ≤ n) && decide (n < base + slots)
  (s.routedSlots.any fun j => ([View.air, .active, .shadow].any fun v => within (s.aoutRoute v j)) ||
    (s.salvoWrites 0x7000 j).any within) ||
  ([0, 1].any fun b => (s.spoolBank b).readsA.any within ||
    (s.spoolBank b).readsB.any fun a => within a || within (a + 1))

/-- Whether a side-tone path names serial port `p`. -/
def State.sideNames (s : State) (p : Nat) : Bool :=
  (s.span 0x7600 0 64).any fun e => sideOn e.2 &&
    (sideOutPort e.2 == p || (List.range (bits e.2 125 123)).any fun i => (sideIn e.2 i).1 == p)

/-- Whether a port is in use (R304). -/
def State.portInUse (s : State) (p : Nat) : Bool :=
  bit (s.portWord p) 31 &&
    ((s.portIn p && s.ainNamed (s.portInBase p) (s.portPer p * s.portChannels p)) || (decide (p < 16) && s.sideNames p))

/-- A port range past AIN 40959 or AOUT 49151 (R301, R305). -/
def State.portRangeFails (s : State) (p : Nat) : Bool :=
  let n := s.portPer p * s.portChannels p
  let hasIn := if p < 16 then bit (s.portWord p) 25 else exairInput (p - 16)
  let hasOut := if p < 16 then bit (s.portWord p) 24 else !exairInput (p - 16)
  (hasIn && decide (40960 < s.portInBase p + n)) || (hasOut && decide (49152 < s.portOutBase p + n))

/-- Fields of a serial port element out of range (R301, R302). -/
def serialRange (w : Word) : Bool := bits w 28 27 == 3 || (bits w 30 29 == 3 && bit w 26 && bits w 28 27 != 2)

/-- Fields of an Exair port element out of range (R305). -/
def exairRange (p : Nat) (w : Word) : Bool :=
  let madi := decide (0x10 ≤ p)
  let mode := bits w 27 26
  let clock := bits w 30 29
  decide (2 ≤ clock) || (if madi then mode == 3 else mode != 0) ||
    (if !exairInput p && clock == 1 then madi && decide (3 < bits w 18 16) else bits w 18 16 != 0) ||
    (madi && (if exairInput p then clock == 1 else clock == 0) && (mode == 2) != bit w 28)

/-- A changed port starts anew: its pins are idle, its clock is not yet seen. -/
def restartPort (p : Nat) (s : State) : State := settleClock (settleRate (syncBridges (s.setAudioPort p { edgeAt := s.up })))

/-- 0x7300 and 0x7310 port elements and channel bases. -/
def audioPortHandler (s : State) (idx sub : Nat) (payload : List Byte) : Handler :=
  let w := ofBytes payload
  let p := if idx = 0x7300 then sub % 16 else 16 + sub
  let t := s.put idx sub w
  let codes := (if t.ainOverlap || t.aoutConflict then [0x13] else []) ++ t.budgetCodes
  fixedHandler s idx sub payload
    { range := t.portRangeFails p || (if idx = 0x7310 then exairRange sub w else decide (sub < 16) && serialRange w)
      headroom := w != s.elem idx sub && s.portInUse p
      admission := !codes.isEmpty, reason := lowest codes }
    (restartPort p)

/-! Filters, delays, delay groups (R282, R284, R313-R315). -/

/-- Slots that the channels picked by `f` use, a B channel counting two. -/
def State.slotsUsed (s : State) (idx : Nat) (f : Word → Bool) : Nat :=
  sumNat (((s.span idx 0 49152).filter fun e => f e.2).map fun e => if s.ainB e.1 then 2 else 1)

def filterOn (w : Word) : Bool := bit w 15 || bit w 14

def filterHandler (s : State) (n : Nat) (payload : List Byte) : Handler :=
  let w := ofBytes payload
  plainHandler s 0x7500 n payload
    { range := decide (230 < bits w 7 0) || s.ainSecond n
      admission := decide (4096 < (s.put 0x7500 n w).slotsUsed 0x7500 filterOn), reason := 0x13 }

/-- Slots of a group and what its members use. -/
def State.groupSlots (s : State) (g : Nat) : Nat := if s.flag 0x5520 g 31 then s.field 0x5520 g 15 0 else 0
def State.groupOver (s : State) (g : Nat) : Bool :=
  decide (s.groupSlots g < s.slotsUsed 0x7410 fun w => bit w 15 && bits w 7 0 == g)

/-- 0x7410:n. A channel that a route names or a spool reads is moved (R314). -/
def memberChange (s : State) (n : Nat) (w : Word) : Change :=
  let g := bits w 7 0
  { range := bits w 14 8 != 0 || s.ainSecond n || (bit w 15 && decide (48 * s.field 0x5520 g 29 18 < s.elem 0x7420 n))
    codes := own (bit w 15 && (s.put 0x7410 n w).groupOver g)
    used := s.ainNamed n (if s.ainB n then 2 else 1) }

/-- 0x7420:n. -/
def delayHandler (s : State) (n : Nat) (payload : List Byte) : Handler :=
  let v := ofBytes payload
  let g := s.elem 0x7410 n
  plainHandler s 0x7420 n payload
    { range := decide (192000 < v) || s.ainSecond n || (bit g 15 && decide (48 * s.field 0x5520 (bits g 7 0) 29 18 < v)) }

/-- 0x5520:g. -/
def groupChange (s : State) (g : Nat) (w : Word) : Change :=
  let t := s.put 0x5520 g w
  let total := sumNat ((t.span 0x5520 0 256).map fun e => t.groupSlots e.1)
  { range := (bit w 31 && (bits w 29 18 == 0 || decide (4000 < bits w 29 18) || bits w 15 0 == 0 || decide (49152 < bits w 15 0))) ||
      decide (48 * bits w 29 18 < s.groupDelay g)
    codes := own (decide (49152 < total) || t.groupOver g)
    used := s.flag 0x5520 g 31 && (s.groupMembers g).any fun n => s.ainNamed n (if s.ainB n then 2 else 1) }

/-! Side-tone (R316, R317). -/

/-- A port that a path names as input or output must be an enabled master (R317). -/
def State.sidePortOk (s : State) (p : Nat) (out : Bool) : Bool :=
  s.portMaster p && (if out then s.portOut p else s.portIn p)

def sideHandler (s : State) (n : Nat) (payload : List Byte) : Handler :=
  let w := ofBytes payload
  let ins := (List.range (bits w 125 123)).map (sideIn w)
  let po := sideOutPort w
  let gainBad (g : Word) : Bool := g != 0x8000 && (decide (toSigned 16 g < -9600) || decide (2400 < toSigned 16 g))
  let taken := (s.span 0x7600 0 64).any fun e => e.1 != n && sideOn e.2 && sideOutPort e.2 == po && sideOutCh e.2 == sideOutCh w
  let reserved := [108, 80, 52, 24].any fun lo => bits w (lo - 6) (lo - 8) != 0
  plainHandler s 0x7600 n payload
    { range := reserved || (sideOn w && (bits w 125 123 == 0 || decide (4 < bits w 125 123) || taken ||
        decide (s.portChannels po ≤ sideOutCh w) || ins.any fun i => decide (s.portChannels i.1 ≤ i.2.1) || gainBad i.2.2))
      admission := sideOn w && !(s.sidePortOk po true && ins.all fun i =>
        s.sidePortOk i.1 false && s.portPer i.1 == s.portPer po)
      reason := 0x13 }

/-! Meters (R318). -/

def meterHandler (s : State) (idx n : Nat) (payload : List Byte) : Handler :=
  let w := ofBytes payload
  let out := decide (idx = 0x7701)
  let t := s.put idx n w
  let count := (t.metered false).length + (t.metered true).length
  let key := if out then 0x10000 + n else n
  let h := plainHandler s idx n payload
    { range := bits w 4 0 != 0 || (if out then s.aoutSecond n else s.ainSecond n)
      admission := decide (8192 < count), reason := 0x13 }
  { h with commit := fun s =>
      let s := h.commit s
      if bit w 7 then s
      else { s.put (if out then 0x7711 else 0x7710) n 0xC7C0C7C0 with meters := mapErase s.meters key } }

/-! Every element of range 0x7 and the delay groups. -/

/-- The handler of a write to a named element of the audio chapters. -/
def audioHandler (s : State) (idx sub : Nat) (payload : List Byte) : Handler :=
  let v := ofBytes payload
  if idx = 0x7000 ∨ idx = 0x7100 then audioRouteHandler s idx sub payload
  else if idx = 0x7200 then
    (if sub = 0 then selectHandler s payload else if sub = 1 then fadeHandler s payload
     else if sub = 6 then emptyHandler s payload else zeroHandler s idx sub payload)
  else if idx = 0x7220 ∨ idx = 0x7221 then coefHandler s (idx - 0x7220) sub payload
  else if idx = 0x7300 ∨ idx = 0x7310 then
    (if sub < 0x100 then audioPortHandler s idx sub payload else zeroHandler s idx sub payload)
  else if idx = 0x7400 then
    plainHandler s idx sub payload { range := if sub = 0xE010 then decide (1024 < v) else v == 0 || decide (50 < v) }
  else if idx = 0x7410 then structuralHandler s idx sub payload (memberChange s sub v)
  else if idx = 0x7420 then delayHandler s sub payload
  else if idx = 0x7500 then filterHandler s sub payload
  else if idx = 0x7600 then sideHandler s sub payload
  else if idx = 0x5520 then structuralHandler s idx sub payload (groupChange s sub v)
  else meterHandler s idx sub payload

end Sys2Proof.Machine
end

