-- ==== Sys2Proof/Machine/Compositor.lean ====
section
/-! DEFINITION. The compositor (R351-R383): heads, layers, stagings, static graphics, the blitter, meters and cursor, and
the writes of its elements. -/

namespace Sys2Proof.Machine

def State.layer (s : State) (i : Nat) : LayerSt := mapGet layerD s.layers i
def State.setLayer (s : State) (i : Nat) (x : LayerSt) : State := { s with layers := mapSet layerD s.layers i x }
def State.head (s : State) (h : Nat) : HeadSt := mapGet headD s.heads h
def State.setHead (s : State) (h : Nat) (x : HeadSt) : State := { s with heads := mapSet headD s.heads h x }
def State.sprite (s : State) (n : Nat) : Sprite := mapGet spriteD s.gfx.sprites n
def State.setSprite (s : State) (n : Nat) (x : Sprite) : State :=
  { s with gfx := { s.gfx with sprites := mapSet spriteD s.gfx.sprites n x } }

/-! The cache (R270-R272, R371). -/

def cacheBlocks : Nat := 65536
/-- Blocks of `h` rows of `w` pixels of 5 bytes. -/
def rowBlocks (w h : Nat) : Nat :=
  let q := 65536 / ((16 + 5 * w + 63) / 64 * 64)
  if w = 0 then 0 else (h + q - 1) / q

/-- The static layers of a head that are enabled, as (number, word) (R374). -/
def State.staticLayers (s : State) (h : Nat) : List (Nat × Word) :=
  ((List.range 4).map fun k => (k, s.elem 0x8000 (0x2000 + 4 * h + k))).filter fun e => bit e.2 63

/-- Blocks of a head's two static planes. -/
def State.planeBlocks (s : State) (h : Nat) : Nat :=
  let f := s.srcFmt (2048 + h)
  if (s.staticLayers h).isEmpty then 0 else 2 * rowBlocks (formWidth f.form) (formActive f.form)

/-- The size an upload in progress announced in its first bytes (R372). -/
def State.loadingSizes (s : State) : List (Nat × Nat × Nat) :=
  (s.req.transfers.filter fun t => t.index == 0x8900 && decide (0x100 ≤ t.sub) && decide (t.sub < 0x140)).map fun t =>
    (t.sub - 0x100, ofBytes (t.data.take 2), ofBytes ((t.data.drop 2).take 2))

/-- Cache blocks in use (0x5500:0004): sprites, uploads, captures, static planes. -/
def State.cacheUsed (s : State) : Nat :=
  sumNat (s.gfx.sprites.map fun e => rowBlocks e.2.w e.2.h) + sumNat (s.loadingSizes.map fun e => rowBlocks e.2.1 e.2.2) +
    sumNat (s.gfx.captures.map fun c => rowBlocks (formWidth (s.srcFmt c.source).form) (formActive (s.srcFmt c.source).form)) +
    sumNat ((List.range 16).map s.planeBlocks)

/-! Effect boundaries (R370). -/

/-- The first boundary of head `h` at least `delay` from now, as the uptime it falls at. -/
def State.effectAt (s : State) (h : Nat) (delay : Rat) : Rat :=
  gridAtOrAfter (s.plane (s.srcPlane (2048 + h))).origin (s.srcFmt (2048 + h)).period (s.now + delay) - s.stepped

/-- A flattened plane waits for its effect boundary: this member chooses it, or the active tells it. -/
def awaitPlane (s : State) (h : Nat) (plane : PlaneRows) : State :=
  let x := s.head h
  if s.mirrored then s.setHead h { x with spare := some (plane, x.told.head?), told := x.told.drop 1 }
  else
    let t := s.effectAt h 100000
    mirror (s.setHead h { x with spare := some (plane, some t) }) 23 h (s.posAt (s.srcPlane (2048 + h)) (t + s.stepped))

/-- The active's effect boundary of a head's flattened plane (R370, R426), a position on the head's plane. -/
def planeTold (s : State) (h : Nat) (tp : Word) : State :=
  let x := s.head h
  let t := s.tpTime (s.srcPlane (2048 + h)) (tp % 2 ^ 64) - s.stepped
  match x.spare with
  | some (p, none) => s.setHead h { x with spare := some (p, some t) }
  | _ => s.setHead h { x with told := (x.told ++ [t]).drop (x.told.length + 1 - 64) }

/-! Flattens (R374, R375). -/

/-- A flatten asked for: one that waits and has not started is joined. -/
def queueFlatten (s : State) (h : Nat) : State :=
  if s.gfx.queue.contains (.flatten h) then s
  else { s with gfx := { s.gfx with queue := s.gfx.queue ++ [.flatten h] } }

/-- Every head that shows sprite `n` flattens again (R372). -/
def flattenUsers (s : State) (n : Nat) : State :=
  (List.range 16).foldl (fun s h => if (s.staticLayers h).any (fun e => bits e.2 61 56 == n) then queueFlatten s h else s) s

def ten (x : Rat) : Nat := min 1023 (roundUp x)

/-- A sprite pixel at a layer's ALPHA over a plane pixel (R374). -/
def overPlane (f : Form) (alpha : Nat) (p : Nat) (b : PlanePix) : PlanePix :=
  let a : Rat := (bits p 39 30 : Nat) * (alpha : Rat) / (1023 * 255)
  let pl : Rat := (b.a : Rat) / 1023
  let c := rgbIn f true (bits p 29 20, bits p 19 10, bits p 9 0)
  let out := a + pl * (1 - a)
  let mix (x : Rat) (y : Nat) : Nat := if out = 0 then 0 else ten ((a * (x / 4) + pl * (1 - a) * (y : Nat)) / out)
  { a := ten (out * 1023), c := (mix c.1 b.c.1, mix c.2.1 b.c.2.1, mix c.2.2 b.c.2.2) }

/-- Row `y` of a head's static plane: S0 to S3 over a transparent row; a poisoned sprite row is transparent. -/
def State.flattenRow (s : State) (h y : Nat) : List PlanePix :=
  let conf := s.elem 0x8000 h
  let f := formOf conf
  (s.staticLayers h).foldl (fun (row : List PlanePix) e =>
    let sp := s.sprite (bits e.2 61 56)
    let r : Int := (y : Int) - toSigned 16 (bits e.2 31 16)
    let x0 := toSigned 16 (bits e.2 47 32)
    if r < 0 ∨ (sp.h : Int) ≤ r ∨ sp.poisoned.contains r.toNat then row
    else
      let line := sp.rows.getD r.toNat []
      (row.zipIdx).map fun (b, x) =>
        let k : Int := (x : Int) - x0
        if k < 0 then b else match (line)[k.toNat]? with
          | some p => overPlane f (bits e.2 15 8) p b
          | none => b) (List.replicate (formWidth (s.srcFmt (2048 + h)).form) {})

/-- The places of the sprite rows that a flatten of head `h` reads and finds poisoned (R280, R374). -/
def State.flattenFaults (s : State) (h : Nat) : List Nat :=
  (s.staticLayers h).flatMap fun e =>
    let x := s.sprite (bits e.2 61 56)
    x.poisoned.map (recordOffset (5 * x.w))

/-- A flattened plane: none where no static layer is enabled. -/
def State.flattened (s : State) (h : Nat) : PlaneRows :=
  if (s.staticLayers h).isEmpty then []
  else (List.range (formActive (s.srcFmt (2048 + h)).form)).map (s.flattenRow h)

/-! Sprites (R371-R373). -/

/-- A sprite image's pixels, row by row. -/
def spriteRows (w : Nat) : Nat → List Byte → List (List Nat)
  | 0, _ => []
  | h + 1, b => ((List.range w).map fun x => ofBytes ((b.drop (5 * x)).take 5)) :: spriteRows w h (b.drop (5 * w))

/-- The checks of an upload's size (R372): `image` may hold the first frame alone. -/
def uploadRange (image : List Byte) : Bool :=
  let w := ofBytes (image.take 2)
  let h := ofBytes ((image.drop 2).take 2)
  w == 0 || h == 0 || decide (3840 < w) || decide (2160 < h) || ofBytes ((image.drop 4).take 4) != 0
def uploadType (image : List Byte) : Bool :=
  image.length != 8 + 5 * ofBytes (image.take 2) * ofBytes ((image.drop 2).take 2)
/-- Whether an upload's rows do not fit beside what the cache holds. -/
def State.uploadOver (s : State) (image : List Byte) : Bool :=
  decide (cacheBlocks < s.cacheUsed + rowBlocks (ofBytes (image.take 2)) (ofBytes ((image.drop 2).take 2)))

/-- A whole image arrived (R372): it replaces the sprite's rows. -/
def putSprite (s : State) (n : Nat) (image : List Byte) : State :=
  let w := ofBytes (image.take 2)
  let h := ofBytes ((image.drop 2).take 2)
  flattenUsers (s.setSprite n { w := w, h := h, rows := spriteRows w h (image.drop 8) }) n

def uploadHandler (s : State) (n : Nat) (image : List Byte) : Handler :=
  { checks := { type := uploadType image, range := uploadRange image, admission := s.uploadOver image }
    commit := fun s => putSprite s n image
    pending := true
    new := logBytes image }

def execSpriteUpload (rq : Rq) (n : Nat) (image : List Byte) (s : State) : Host.Outcome State Fault Refusal :=
  act s fun s =>
    let h := uploadHandler s n image
    let t := request s rq opBlockWrite 0x8900 (0x100 + n) image h
    if s.accepts rq opBlockWrite 0x8900 (0x100 + n) image h.checks then finishWaiting t 0x8900 (0x100 + n) stOk [] else t

def deleteHandler (s : State) (payload : List Byte) : Handler :=
  let n := ofBytes payload
  let named := (List.range 16).any fun h => (s.staticLayers h).any fun e => bits e.2 61 56 == n
  { checks := { range := decide (64 ≤ n), headroom := named }
    commit := fun s => s.setSprite n {}
    new := logBytes payload }

def execSpriteDelete (rq : Rq) (v : Word) (s : State) : Host.Outcome State Fault Refusal :=
  act s fun s => request s rq opWrite 0x8900 0x141 (valueBytes rq v) (deleteHandler s (valueBytes rq v))

/-- Frame-store bandwidth of a window's essence in bits per second (R31, R285). -/
def State.winRate (s : State) (w : Nat) (v : Word) : Rat :=
  if s.winAudio w then (winChannels v * s.winStep w * 8 * 48000 : Nat)
  else
    let f := s.srcFmt (if winOp v = 1 then winTarget v else 2064 + winTarget v)
    (formActive f.form * recordSize (lineBytes f.form f.samp) * 8 : Nat) * f.hz

/-- Whether captures, inserts and sprite captures would exceed their 0.5 Tb/s (R31, R285). -/
def State.winShareOver (s : State) : Bool :=
  let run := s.windows.filter fun e => e.2.state == 1 || e.2.state == 2
  decide (500000000000 < sumRat (run.map fun e => s.winRate e.1 e.2.command) + sumRat (s.spriteSources.map s.srcRate))

/-- A capture asked for (R373). A sprite past the 64, cache past its blocks, or bandwidth past the capture share is refused with
ADMISSION_REFUSED (R29, R285). -/
def captureHandler (s : State) (rq : Rq) (payload : List Byte) : Handler :=
  let v := ofBytes payload
  let n := bits v 63 56
  let src := bits v 47 32
  let c : SpriteCapture := { sprite := n, source := src, at_ := s.up, rq := rq }
  let t := { s with gfx := { s.gfx with captures := s.gfx.captures ++ [c] } }
  let codes := (if s.srcBound src then [] else [0x01]) ++ t.budgetCodes ++
    own (decide (64 ≤ n) || t.winShareOver || decide (cacheBlocks < t.cacheUsed))
  { checks :=
      { range := decide (2080 ≤ src) || bits v 55 48 != 0 || bits v 31 0 != 0 ||
          decide (3840 < formWidth (s.srcFmt src).form) || s.srcOpaque src
        admission := !codes.isEmpty, reason := lowest codes }
    commit := fun s => { s with gfx := { s.gfx with captures := s.gfx.captures ++ [c] } }
    pending := true
    new := logBytes payload }

def execSpriteCapture (rq : Rq) (v : Word) (s : State) : Host.Outcome State Fault Refusal :=
  act s fun s => request s rq opWrite 0x8900 0x140 (valueBytes rq v) (captureHandler s rq (valueBytes rq v))

/-- A capture ends with a status (R373). -/
def endCapture (s : State) (c : SpriteCapture) (status : Nat) : State :=
  let s := { s with
    gfx := { s.gfx with captures := s.gfx.captures.filter fun x => !(x.sprite == c.sprite && x.rq == c.rq) }
    req := { s.req with waiting := s.req.waiting.eraseP fun x => x.index == 0x8900 && x.sub == 0x140 && x.rq == c.rq } }
  notify s c.rq 0x8900 0x140 status []

/-! Source lines (R364, R366). -/

/-- Raster line of active line `a` of a frame whose fields are woven (R358): even lines come from the first field. -/
def wovenLine (form a : Nat) : Nat :=
  if formFields form = 2 then rasterOf form (a % 2 * (formActive form / 2) + a / 2) else rasterOf form a

/-- The line of a source as a stager reads it. -/
def State.feedLineOf (s : State) (n : Nat) (m : Int) (line : Nat) : Option CellLine :=
  if isInput n then (mapGet feedD s.feeds n).find? fun y => y.frame == m && y.line == line else s.lineOf n m line

/-- Active line `a` of a frame, or the nearest line before it in its field that came (R228). -/
def State.woven (s : State) (n : Nat) (m : Int) (form : Nat) : Nat → Nat → Option CellLine
  | 0, _ => none
  | fuel + 1, a =>
    match s.feedLineOf n m (wovenLine form a) with
    | some y => some y
    | none => if a < formFields form then none else s.woven n m form fuel (a - formFields form)

/-- Whether frame m of a source may be staged (R366): none of its lines is absent fill, and some came. -/
def State.stageable (s : State) (n : Nat) (m : Int) : Bool :=
  if isInput n then
    let ls := (mapGet feedD s.feeds n).filter fun y => y.frame == m
    !ls.isEmpty && !(ls.any CellLine.fill) && !s.srcAbsent n
  else if isHead n then (s.head (n - 2048)).shots.any fun x => x.frame == m && !x.gap
  else s.srcBound n

/-- A capture's frame as sprite rows (R373). -/
def State.captureRows (s : State) (n : Nat) (m : Int) : List (List Nat) :=
  let f := s.srcFmt n
  (List.range (formActive f.form)).map fun a =>
    match s.woven n m f.form (formActive f.form) a with
    | some y => (pixelsOf f.samp y.picture).map fun p =>
        let full := y.meta_ % 2 == 1
        let c := changeForm (y.meta_ / 32) (sampYuv f.samp) false (normalise (sampYuv f.samp) full (pixColour p))
        let code (x : Rat) : Nat := (Config.roundCode (clipRat 0 1023 (x * 1023))).toNat
        1023 * 2 ^ 30 + code c.1 * 2 ^ 20 + code c.2.1 * 2 ^ 10 + code c.2.2
    | none => List.replicate (formWidth f.form) (1023 * 2 ^ 30)

/-- The instant raster line `line` of frame m of a source has been read. -/
def State.lineTime (s : State) (n : Nat) (m : Int) (line : Nat) : Rat := s.srcStart n m + (line : Rat) * (s.srcFmt n).linePeriod

/-- The capture of a sprite takes its frame (R373): the first one that starts 64 µs after the commit and can be staged. -/
def captureDone (s : State) (n : Nat) : State :=
  match s.gfx.captures.find? fun c => c.sprite == n with
  | none => s
  | some c =>
    let src := c.source
    let s := s.caughtUp src
    let f := s.srcFmt src
    let cur := s.srcFrameAt src s.now
    let last := wovenLine f.form (formActive f.form - 1)
    match ([cur - 2, cur - 1, cur].filter fun m =>
        decide (c.at_ + s.stepped + 64000 ≤ s.srcStart src m) && decide (s.lineTime src m last ≤ s.now) && s.stageable src m).head? with
    | some m =>
      let sp : Sprite := { w := formWidth f.form, h := formActive f.form, rows := s.captureRows src m }
      flattenUsers (endCapture (s.setSprite n sp) c stOk) n
    | none => s

def execSpriteCaptureDone (n : Nat) (s : State) : Host.Outcome State Fault Refusal := onUnit n 64 s fun s => captureDone s n

/-- No frame within 1 s (R373). -/
def captureTimeout (s : State) (n : Nat) : State :=
  match s.gfx.captures.find? fun c => c.sprite == n with
  | some c => if c.at_ + 1000000000 ≤ s.up then endCapture s c stLate else s
  | none => s

def execSpriteCaptureTimeout (n : Nat) (s : State) : Host.Outcome State Fault Refusal := onUnit n 64 s fun s => captureTimeout s n

/-! Static layers (R374). -/

def staticHandler (s : State) (k : Nat) (payload : List Byte) : Handler :=
  let v := ofBytes payload
  let t := s.put 0x8000 (0x2000 + k) v
  let h := plainHandler s 0x8000 (0x2000 + k) payload
    { range := bit v 63 && (s.sprite (bits v 61 56)).w == 0
      admission := decide (cacheBlocks < t.cacheUsed) }
  { h with commit := fun s => queueFlatten (s.put 0x8000 (0x2000 + k) v) (k / 4) }

def execStaticLayerWrite (rq : Rq) (k : Nat) (v : Word) (s : State) : Host.Outcome State Fault Refusal :=
  act s fun s => request s rq opWrite 0x8000 (0x2000 + k) (valueBytes rq v) (staticHandler s k (valueBytes rq v))

/-! The blitter (R375, R376, R279, R281). -/

/-- Whether a blit's rectangles lie within their sprites. -/
def State.blitFits (s : State) (v : Word) : Bool :=
  let src := s.sprite (bits v 187 182)
  let dst := s.sprite (bits v 181 176)
  let w := bits v 143 128
  let h := bits v 127 112
  decide (1 ≤ w) && decide (1 ≤ h) && decide (bits v 111 96 + w ≤ dst.w) && decide (bits v 95 80 + h ≤ dst.h) &&
    (bits v 191 188 != 1 || (decide (bits v 175 160 + w ≤ src.w) && decide (bits v 159 144 + h ≤ src.h)))

def blitHandler (s : State) (payload : List Byte) : Handler :=
  let v := ofBytes payload
  { checks :=
      { range := (bits v 191 188 != 1 && bits v 191 188 != 2) || bits v 39 0 != 0 || !s.blitFits v
        admission := decide (16 ≤ s.gfx.queue.length) }
    commit := fun s => { s with gfx := { s.gfx with queue := s.gfx.queue ++ [.host v] } }
    pending := true
    new := logBytes payload }

def blitRequest (rq : Rq) (v : Word) (s : State) : State :=
  request s rq opWrite 0x8900 0x200 (valueBytes rq v) (blitHandler s (valueBytes rq v))

def execBlitCopy (rq : Rq) (v : Word) (s : State) : Host.Outcome State Fault Refusal :=
  act s fun s => blitRequest rq (setBits v 191 188 1) s
def execBlitFill (rq : Rq) (v : Word) (s : State) : Host.Outcome State Fault Refusal :=
  act s fun s => blitRequest rq (setBits v 191 188 2) s

/-- The pixels that row `r` of a blit writes: for COPY, the source row as it stood before the blit, transparent where it
is poisoned. -/
def blitRow (src : Sprite) (v : Word) (r : Nat) : List Nat :=
  let w := bits v 143 128
  let y := bits v 159 144 + r
  if bits v 191 188 = 2 then List.replicate w (bits v 79 40)
  else if src.poisoned.contains y then List.replicate w 0
  else ((src.rows.getD y []).drop (bits v 175 160)).take w

/-- A span of a row replaced. -/
def spliceRow (row : List Nat) (x : Nat) (l : List Nat) : List Nat := row.take x ++ l ++ row.drop (x + l.length)

/-- One destination row of a blit: a whole row is written with a fresh tag; a partial write to a row that fails leaves it
poisoned, counts it and raises the alarm. -/
def blitOne (src : Sprite) (v : Word) (s : State) (r : Nat) : State :=
  let d := bits v 181 176
  let dst := s.sprite d
  let y := bits v 95 80 + r
  let l := blitRow src v r
  let s := if bits v 191 188 != 2 && src.poisoned.contains (bits v 159 144 + r) then tagFailed s 2 (recordOffset (5 * src.w) (bits v 159 144 + r)) else s
  let rows := dst.rows.modify y fun row => spliceRow row (bits v 111 96) l
  if l.length = dst.w then s.setSprite d { dst with rows := rows, poisoned := dst.poisoned.filter (· != y) }
  else
    let s := s.setSprite d { dst with rows := rows }
    if dst.poisoned.contains y then (declareFault (s.count 0x5500 7) 0x0A0 (s.drawn 16)).draw else s

/-- A job ends (R375). -/
def jobDone (s : State) : State :=
  match s.gfx.busy with
  | none => s
  | some (.flatten h) =>
    let plane := s.gfx.work
    let s := { s with gfx := { s.gfx with busy := none, work := [], last := stOk } }
    awaitPlane s h plane
  | some (.host v) =>
    let ok := s.blitFits v
    let s := if ok then (List.range (bits v 127 112)).foldl (blitOne (s.sprite (bits v 187 182)) v) s else s
    let status := if ok then stOk else stRange
    let s := { s with gfx := { s.gfx with busy := none, last := status } }
    let s := if ok then flattenUsers s (bits v 181 176) else s
    finishWaiting s 0x8900 0x200 status []

def execBlitterJobComplete (s : State) : Host.Outcome State Fault Refusal := actRunning s jobDone

/-- The next job starts: a flatten takes its layers and sprites as they stand. -/
def jobStart (s : State) : State :=
  match s.gfx.busy, s.gfx.queue with
  | none, j :: rest =>
    let work := match j with
      | .flatten h => s.flattened h
      | .host _ => []
    let s := match j with
      | .flatten h => (s.flattenFaults h).foldl (fun s o => tagFailed s 2 o) s
      | .host _ => s
    { s with gfx := { s.gfx with queue := rest, busy := some j, work := work } }
  | _, _ => s

def execBlitterJobStart (s : State) : Host.Outcome State Fault Refusal := actRunning s jobStart

/-- 0x8900:0201 and 0x8900:0000-003F (R375). -/
def State.blitStatus (s : State) : Word :=
  ofBool s.gfx.busy.isSome * 2 ^ 31 + min 31 s.gfx.queue.length * 2 ^ 26 + s.gfx.last * 2 ^ 18
def State.spriteStatus (s : State) (n : Nat) : Word :=
  let x := s.sprite n
  let st := if s.gfx.captures.any (fun c => c.sprite == n) then 3
    else if s.loadingSizes.any (fun e => e.1 == n) then 1 else if x.w = 0 then 0 else 2
  st * 2 ^ 29 + ofBool (!x.poisoned.isEmpty) * 2 ^ 28 + x.w * 2 ^ 12 + x.h % 4096

/-! The cursor (R379). -/

def cursorHandler (s : State) (sub : Nat) (payload : List Byte) : Handler :=
  let v := ofBytes payload
  if sub < 0x40 then
    let h := plainHandler s 0x8000 sub payload { range := bits v 62 56 != 0 || bits v 43 32 != 0 }
    { h with commit := fun s =>
        let x := s.head (sub - 0x30)
        (s.put 0x8000 sub v).setHead (sub - 0x30) { x with cursorQ := x.cursorQ ++ [(s.effectAt (sub - 0x30) 16000, v)] } }
  else
    { checks := { type := payload.length != 16384 }
      commit := fun s =>
        let x := s.head (sub - 0x40)
        (s.putBlob 0x8000 sub payload).setHead (sub - 0x40) { x with imageQ := x.imageQ ++ [(s.effectAt (sub - 0x40) 16000, payload)] }
      old := logBytes (if s.blob 0x8000 sub = [] then List.replicate 16384 0#8 else s.blob 0x8000 sub)
      new := logBytes payload }

def execCursorWrite (rq : Rq) (sub : Nat) (payload : List Byte) (s : State) : Host.Outcome State Fault Refusal :=
  act s fun s => request s rq (if sub < 0x40 then opWrite else opBlockWrite) 0x8000 sub payload (cursorHandler s sub payload)

/-! Staging (R362-R368). -/

/-- A scaler coefficient of a staging: 14 fraction bits. -/
def Staging.coef (c : Staging) (k : Nat) : Int :=
  toSigned 16 (match c.coefs.find? fun e => e.1 == k with
    | some e => e.2
    | none => scalerReset k)
def Staging.horizontal (c : Staging) (phi t : Nat) : Int := c.coef (8 * phi + t)
def Staging.vertical (c : Staging) (phi t : Nat) : Int := c.coef (0x200 + 8 * phi + t)

/-- First visible line and column within the destination. -/
def LayerGeom.top (g : LayerGeom) : Nat := (max g.dy 0 - g.dy).toNat
def LayerGeom.left (g : LayerGeom) : Nat := (max g.dx 0 - g.dx).toNat

/-- r_last (R364): the last raster line that the visible lines' taps reach within the crop. -/
def State.lastLine (s : State) (c : Staging) : Nat :=
  let g := c.geom
  let n := (tapPosition (g.top + c.lines - 1) g.dh g.ch).1
  ((List.range 6).map fun (t : Nat) =>
    wovenLine (s.srcFmt g.source).form (g.cy + clampIndex (n - 2 + (t : Int)) g.ch)).foldl max 0

/-- C(k) (R364). -/
def State.stagedAt (s : State) (c : Staging) (k : Int) : Rat := s.lineTime c.geom.source k (s.lastLine c)

/-- A staged frame's lines: colour, horizontal scaling, vertical scaling, the head's structure and depth. -/
def State.stageRows (s : State) (h : Nat) (c : Staging) (k : Int) : List (List Pix) :=
  let g := c.geom
  let f := s.srcFmt g.source
  let conf := s.elem 0x8000 h
  let lut (n comp e : Nat) : Nat := s.elem (0x8820 + n) (0x400 * comp + e)
  let rows := (List.range g.ch).map fun a =>
    let cols : List Colour := match s.woven g.source k f.form (formActive f.form) (g.cy + a) with
      | some y => (((pixelsOf f.samp y.picture).drop g.cx).take g.cw).map fun p =>
          convertPix lut (c.colour.headD 0) c.colour.tail (sampYuv f.samp) (y.meta_ % 2 == 1) (formOf conf) p
      | none => List.replicate g.cw (pixColour (blackPix (formOf conf)))
    scaleRow c.horizontal g.left c.width g.dw cols
  (scaleColumns c.vertical g.top c.lines g.dh c.width rows).map (holdRow (bits conf 20 18))

/-- The newest frame of a staging's source whose lines have all been read, staged if it can be (R364-R366). -/
def State.stageOne (s : State) (h : Nat) (c : Staging) (frames : List Staged) : List Staged :=
  let n := c.geom.source
  let k := s.srcFrameAt n (s.now - (s.lastLine c : Nat) * (s.srcFmt n).linePeriod)
  if (frames.any fun x => x.frame == k) || !s.srcBound n || !s.stageable n k then frames
  else ({ frame := k, start := s.srcStart n k, done := s.stagedAt c k, rows := s.stageRows h c k : Staged } :: frames).take 3

/-- A layer's stager completes a frame in each of its stagings (R367). -/
def stageLayer (s : State) (i : Nat) : State :=
  if !s.liveLayers.contains i then s
  else
    let s := (s.layerSources i).foldl State.caughtUp s
    let x := s.layer i
    let confs := (s.stagings i).map fun v => s.staging v i
    let framesOf (c : Staging) : List Staged := match x.stages.find? fun g => g.conf == c with
      | some g => g.frames
      | none => []
    noteCells (s.setLayer i { x with stages := confs.map fun c => { conf := c, frames := s.stageOne (i / 64) c (framesOf c) } })

def execStagedFrameComplete (h l : Nat) (s : State) : Host.Outcome State Fault Refusal :=
  if l < 64 then onUnit h 16 s fun s => stageLayer s (64 * h + l) else .fault .noSuchUnit

/-- The staging a view names, among those that run. -/
def State.stageOf (s : State) (v : View) (i : Nat) : List Staged :=
  match (s.layer i).stages.find? fun g => g.conf == s.staging v i with
  | some g => g.frames
  | none => []

/-- SHADOW_READY (R367, R383). -/
def State.shadowReady (s : State) (i : Nat) : Bool :=
  s.staging .shadow i == s.staging .active i || (s.stageOf .shadow i).any fun x => decide (x.done ≤ s.now)

/-- The layer as the sets in force place it, with what it shows. -/
def State.contribution (s : State) (i : Nat) (x : Option Staged) : Contribution :=
  { staged := x, geom := s.layerGeom .air i, stack := s.airElem (0x8100 + i) 3, border := s.airElem (0x8100 + i) 4 }

/-- A layer's choice at boundary `b` (R365, R367): its run-time state, and whether it missed and whether absent fill begins. -/
def State.chooseLayer (s : State) (i : Nat) (b : Rat) : LayerSt × Bool × Bool :=
  let x := s.layer i
  let conf := s.staging .air i
  let changed := x.conf != some conf
  let newest := (s.stageOf .air i).find? fun f => decide (f.done ≤ b - 2000)
  let fresh := newest.filter fun f => changed || (match x.last with
    | some k => decide (k < f.frame)
    | none => true)
  match fresh with
  | some f => ({ x with conf := some conf, shown := some (s.contribution i (some f)), last := some f.frame, misses := 0, stale := false, absent := false }, false, false)
  | none =>
    match x.last with
    | none => ({ x with absent := true }, false, false)
    | some k =>
      let missed := changed || x.conf.any (fun c => decide (s.stagedAt c (k + 1) ≤ b - 2000))
      if missed then
        let n := x.misses + 1
        let gone := decide (bits (s.airElem (0x8100 + i) 0) 23 16 ≤ n)
        ({ x with misses := n, stale := true, absent := x.absent || gone }, true, gone && !x.absent)
      else
        let shown := if x.stale then x.shown else x.shown.map fun c => { s.contribution i c.staged with geom := c.geom }
        ({ x with shown := shown }, false, false)

/-- The layer status word (R383). -/
def State.layerStatus (s : State) (i : Nat) (x : LayerSt) (on : Bool) (b : Rat) : Word :=
  let delay : Nat := match x.shown.bind Contribution.staged with
    | some f => min 1048575 (((b - f.start) / 1000).floor.toNat)
    | none => 0
  if on then
    ofBool (x.shown.isSome && !x.absent) * 2 ^ 31 + ofBool x.stale * 2 ^ 30 + ofBool x.absent * 2 ^ 29 +
      ofBool (s.shadowReady i) * 2 ^ 28 + min 255 x.misses * 2 ^ 20 + (if x.absent then 0 else delay)
  else ofBool (s.shadowReady i) * 2 ^ 28

/-- One layer at its head's boundary. -/
def layerBoundary (b : Rat) (s : State) (i : Nat) : State :=
  let confs := (s.stagings i).map fun v => s.staging v i
  let x := s.layer i
  let s := s.setLayer i { x with stages := x.stages.filter fun g => confs.contains g.conf }
  if bit (s.airElem (0x8100 + i) 0) 31 then
    let c := s.chooseLayer i b
    let s := s.setLayer i c.1
    let s := if c.2.1 then s.count (0x8100 + i) 0x101 else s
    let s := if c.2.2 then declareFault s 0x0E0 (i / 64 * 256 + i % 64) false false (s.srcPlane (2048 + i / 64)) else s
    s.put (0x8100 + i) 0x100 (s.layerStatus i (s.layer i) true b)
  else
    let s := s.setLayer i { stages := (s.layer i).stages }
    s.put (0x8100 + i) 0x100 (s.layerStatus i {} false b)

/-! The head's frame boundary (R353, R369, R370, R377, R378). -/

/-- Banked elements whose key `p` picks go on air. -/
def putOnAir (s : State) (p : Nat → Bool) : State :=
  ((((s.onAir ++ s.dict).map Prod.fst).filter p).eraseDups).foldl (fun s k =>
    { s with onAir := mapSet keyReset s.onAir k (mapGet keyReset s.dict k) }) s

/-- The COMPOSITOR elements of head `h`. -/
def headKey (h k : Nat) : Bool :=
  let idx := k / 65536
  let sub := k % 65536
  if idx = 0x8000 then sub == 0x10 + h || sub == 0x50 + h || (decide (0x1000 + 64 * h ≤ sub) && decide (sub < 0x1040 + 64 * h))
  else decide (0x8100 + 64 * h ≤ idx) && decide (idx < 0x8140 + 64 * h) && decide (sub < 0x100)

/-- Whether a fired take of bank `n` has its TP after `b`. -/
def State.tookAfter (s : State) (n : Nat) (b : Rat) : Bool :=
  s.events.any fun e => e.fired && e.kind == 1 && scopeHas e.scope n && decide (b < s.tpTime e.plane e.tp)

/-- The sets in force at a head's boundary go on air. -/
def applySets (s : State) (h : Nat) (b : Rat) : State :=
  let s := if s.tookAfter 2 b then s else putOnAir s (headKey h)
  if s.tookAfter 4 b then s else putOnAir s fun k => k / 65536 == 0x8800

/-- The immediate elements whose effect boundary has come (R370). -/
def applyImmediate (s : State) (h : Nat) (b : Rat) : State :=
  let u := b - s.stepped
  let p := s.srcPlane (2048 + h)
  let x := s.head h
  let s := match (x.cursorQ.filter fun e => decide (e.1 ≤ u)).getLast? with
    | some e => logEvent (s.setHead h { s.head h with cursor := e.2 }) 0x8000 (0x30 + h) (logValue 8 x.cursor) (logValue 8 e.2) p
    | none => s
  let s := match (x.imageQ.filter fun e => decide (e.1 ≤ u)).getLast? with
    | some e => logEvent (s.setHead h { s.head h with image := e.2 }) 0x8000 (0x40 + h) 0 (logBytes e.2) p
    | none => s
  let s := match x.spare with
    | some e => if (match e.2 with | some t => decide (t ≤ u) | none => !s.mirrored) then
        logEvent (s.setHead h { s.head h with plane := e.1, poisoned := [], spare := none }) 0x8000 (0x2000 + 4 * h) 0 0 p else s
    | none => s
  let y := s.head h
  s.setHead h { y with cursorQ := y.cursorQ.filter fun e => decide (u < e.1)
                       imageQ := y.imageQ.filter fun e => decide (u < e.1) }

/-- A meter's reading at `b` (R378): the one before where its interval ended less than 2 µs before. -/
def State.meterReading (s : State) (bar : Word) (b : Rat) : Word :=
  let idx := match bits bar 126 125 with | 0 => 0x7710 | 1 => 0x7711 | _ => 0x7230
  let n := bits bar 119 104
  if b - 2000 < s.meterStamp then mapGet keyReset s.meterOld (ekey idx n) else s.elem idx n

/-- The held peak of a bar: the highest for HOLD, then the present one. -/
def heldPeak (hold : Rat) (b : Rat) (old : Int × Rat) (peak : Int) : Int × Rat :=
  if old.1 ≤ peak then (peak, b) else if b < old.2 + hold then old else (peak, old.2)

def holdD (_ : Nat) : Int × Rat := (-14400, 0)

/-- The bars of a head at its boundary, and the peaks they hold. -/
def State.bars (s : State) (h : Nat) (b : Rat) : List BarShot × SMap (Int × Rat) :=
  let ctl := s.airElem 0x8000 (0x50 + h)
  let hold : Rat := (bits ctl 30 24 : Nat) * 100000000
  if !bit ctl 31 then ([], [])
  else (List.range 64).foldl (fun (a : List BarShot × SMap (Int × Rat)) (k : Nat) =>
    let bar := s.airElem 0x8000 (0x1000 + 64 * h + k)
    if bit bar 127 then
      let r := s.meterReading bar b
      let p := heldPeak hold b (mapGet holdD (s.head h).holds k) (toSigned 16 (bits r 31 16))
      (a.1 ++ [{ bar := bar, rms := toSigned 16 (bits r 15 0), peak := p.1 }], mapSet holdD a.2 k p)
    else a) ([], [])

/-- Ascending Z, equal Z in the order given (R355). -/
def insertZ (c : Contribution) : List Contribution → List Contribution
  | [] => [c]
  | d :: l => if bits c.stack 31 24 < bits d.stack 31 24 then c :: d :: l else d :: insertZ c l

/-- What the layers of a head draw, from the bottom up. -/
def State.contributions (s : State) (h : Nat) : List Contribution :=
  ((List.range 64).filterMap fun l =>
    let i := 64 * h + l
    let w := s.airElem (0x8100 + i) 0
    let x := s.layer i
    if !bit w 31 || !s.liveLayers.contains i then none
    else if x.absent then (if bit w 30 then none else some (s.contribution i none))
    else x.shown).foldl (fun a c => insertZ c a) []

/-- The head status word (R383). -/
def State.headStatus (s : State) (h : Nat) (bgOnly : Bool) : Word :=
  let n (f : LayerSt → Bool) : Nat := ((List.range 64).filter fun l => f (s.layer (64 * h + l))).length
  2 ^ 31 + ofBool bgOnly * 2 ^ 30 +
    ofBool (s.gfx.queue.contains (.flatten h) || s.gfx.busy == some (.flatten h)) * 2 ^ 29 +
    ofBool (!bgOnly && !(s.head h).plane.isEmpty) * 2 ^ 28 + n LayerSt.stale * 2 ^ 16 + n LayerSt.absent * 2 ^ 8

/-- The static plane that a head reads (R280, R374): a poisoned row is transparent and is reported, once for each frame. -/
def readPlane (s : State) (h : Nat) : State × PlaneRows :=
  let x := s.head h
  let width := formWidth (s.srcFmt (2048 + h)).form
  if s.stackStopped then (s, [])
  else (x.poisoned.foldl (fun s y => tagFailed s 3 (recordOffset (5 * width) y)) s,
    (x.plane.zipIdx).map fun (r, y) => if x.poisoned.contains y then [] else r)

/-- A head's frame boundary (R353): the frame is composed from what is in force. -/
def headBoundary (s : State) (h : Nat) : State :=
  let n := 2048 + h
  let m := s.srcFrameAt n s.now
  let b := s.srcStart n m
  let x := s.head h
  let due := (s.moveOf 0x8000 h).any fun v => v.point.any fun t => decide (t ≤ b)
  let waits := x.gapUntil.any fun t => decide (s.now < t)
  if !s.srcBound n || due || waits || (x.shots.any fun y => y.frame == m && !y.gap) then s
  else
    let s := applyImmediate (applySets s h b) h b
    let bg := x.bgNext
    let s := if bg then s else ((List.range 64).map fun l => 64 * h + l).foldl (layerBoundary b) s
    let bars := if bg then ([], (s.head h).holds) else s.bars h b
    let (s, plane) := if bg then (s, []) else readPlane s h
    let y := s.head h
    let shot : HeadShot :=
      { frame := m, start := b, conf := s.elem 0x8000 h, bg := s.airElem 0x8000 (0x10 + h), layers := if bg then [] else s.contributions h
        plane := plane, bars := bars.1, cursor := y.cursor, image := y.image, bgOnly := bg
        count := bits (s.posAt (s.srcPlane n) b) 63 24 }
    let s := s.setHead h { y with shots := (shot :: y.shots).take 3, bgNext := false, holds := bars.2, gapUntil := none }
    sendPicture (s.put 0x8000 (0x20 + h) (s.headStatus h bg)) n m

def execHeadFrameBoundary (h : Nat) (s : State) : Host.Outcome State Fault Refusal := onUnit h 16 s fun s => headBoundary s h

/-! Head configuration and timing changes (R351, R352, R381). -/

/-- What follows a changed configuration of a head: an absent head keeps nothing, a new raster or form flattens again. -/
def settleHead (s : State) (h : Nat) (old : Word) : State :=
  let v := s.elem 0x8000 h
  let s := if bit v 31 then s
    else { (((s.setHead h { s.head h with shots := [], gapUntil := none, bgNext := false }).put 0x8000 (0x20 + h) 0)) with
      layers := s.layers.filter fun e => e.1 / 64 != h }
  if bits v 28 13 = bits old 28 13 ∨ (s.staticLayers h).isEmpty then s else queueFlatten s h

/-- The new timing of a head begins (R381). -/
def headTiming (s : State) (h : Nat) : State :=
  match s.moveOf 0x8000 h with
  | none => s
  | some m =>
    match m.point with
    | none => s
    | some b =>
      if s.now < b then s
      else
        let n := 2048 + h
        let s := { s with moves := s.moves.filter fun x => !(x.index == 0x8000 && x.sub == h) }
        let s := s.put 0x8000 h m.new
        let next := gridAtOrAfter (s.plane (s.srcPlane n)).origin (s.srcFmt n).period b
        let x := s.head h
        let old := x.shots.map fun y => { y with frame := s.srcFrameAt n y.start }
        let gap : HeadShot := { frame := s.srcFrameAt n b, start := b, conf := m.old, gap := true }
        let s := s.setHead h { x with
          shots := if b < next then gap :: old else old
          bgNext := true, gapUntil := if b < next then some next else none }
        notePool (logEvent (followSource (settleHead s h m.old) n) 0x8000 h (logValue 4 m.old) (logValue 4 m.new) (s.srcPlane n) true)

def execHeadTimingChange (h : Nat) (s : State) : Host.Outcome State Fault Refusal := onUnit h 16 s fun s => headTiming s h

/-- 0x8000:h (R351, R352, R381). -/
def headChange (s : State) (h : Nat) (w : Word) : Change :=
  let t := s.put 0x8000 h w
  let old := s.elem 0x8000 h
  let f := fmtOfCode (bits w 28 18)
  let on := bit w 31
  let used := s.inputUsed (2048 + h)
  { range := !(f.form == 2 || f.form == 4 || f.form == 6) || decide (13 ≤ f.rate) || decide (6 ≤ f.samp) ||
      !(decide (1 ≤ bits w 16 13) && decide (bits w 16 13 ≤ 3)) || (decide (3 ≤ bits w 12 9) && bits w 12 9 != 0xF) ||
      (on && !s.planeOn (bits w 30 29))
    codes := own (on && (!f.ok || rateFamily f.rate != rateFamily (s.planeRateCode (bits w 30 29)))) ++
      own (!used && decide (cacheBlocks < t.cacheUsed)) ++ t.routeCodesOf (s.readersOf (2048 + h))
    used := used && bit old 31 && setBits w 8 7 0 != setBits old 8 7 0
    forbidden := (used && bit old 31 && !on) ||
      (used && decide (cacheBlocks < s.cacheUsed + t.planeBlocks h) && setBits w 8 7 0 != setBits old 8 7 0)
    plane := bits w 30 29 }

def headHandler (s : State) (h : Nat) (payload : List Byte) : Handler :=
  let c := headChange s h (ofBytes payload)
  let x := structuralHandler s 0x8000 h payload c
  let old := s.elem 0x8000 h
  { x with commit := fun s => if c.used then x.commit s else settleHead (x.commit s) h old }

/-! The banked and immediate elements (R354, R357-R362, R377). -/

/-- C0-C2 codes that R354 refuses. -/
def codesBad (v : Word) : Bool :=
  [bits v 29 20, bits v 19 10, bits v 9 0].any fun c => decide (c ≤ 3) || decide (1020 ≤ c)

/-- A meter bar's ranges (R377). -/
def barBad (v : Word) : Bool :=
  bit v 127 && (bits v 126 125 == 3 || decide ((if bits v 126 125 = 2 then 1023 else 49151) < bits v 119 104) ||
    bits v 71 60 == 0 || bits v 59 54 == 0 || decide (bits v 47 40 < 20) || decide (96 < bits v 47 40) ||
    decide (bits v 47 40 < bits v 39 32) || decide (bits v 39 32 < bits v 31 24))

/-- Crop within the source's extent, and each dimension of the destination within 1/8 to 8 times the crop's (R358), as
the shadow would stand. -/
def State.geometryBad (t : State) (i : Nat) : Bool :=
  let g := t.layerGeom .shadow i
  let crop := t.shadowElem (0x8100 + i) 1
  let f := t.srcFmt g.source
  let ratio (a b : Nat) : Bool := decide (8 * b < a) || decide (8 * a < b)
  decide (formWidth f.form ≤ g.cx) || decide (formActive f.form ≤ g.cy) || decide (formWidth f.form < g.cx + bits crop 31 16) ||
    decide (formActive f.form < g.cy + bits crop 15 0) || ratio g.dw g.cw || ratio g.dh g.ch

/-- The look-up-table sets that any layer names in any state (R361). -/
def State.lutsNamed (s : State) : List Nat :=
  ((s.onAir ++ s.dict ++ s.shadow).filter fun e =>
    decide (0x8100 ≤ e.1 / 65536) && decide (e.1 / 65536 < 0x8500) && e.1 % 65536 == 5).flatMap fun e =>
      [bits e.2 30 26, bits e.2 25 21]

/-- A write to a compositor element with no command of its own. -/
def compHandler (s : State) (idx sub : Nat) (payload : List Byte) : Handler :=
  let v := ofBytes payload
  let t := s.putShadow idx sub v
  let banked (range : Bool) (codes : List Nat) (noSub : Bool := false) : Handler :=
    bankedHandler s idx sub payload { range := range, noSub := noSub, admission := !codes.isEmpty, reason := lowest codes }
  if idx = 0x8000 then
    (if sub < 0x10 then headHandler s sub payload
     else if sub < 0x20 then banked (if bit v 31 then bits v 29 0 != 0 else codesBad v) []
     else if sub < 0x50 then cursorHandler s sub payload
     else if sub < 0x60 then banked (bits v 23 0 != 0 || decide (50 < bits v 30 24)) []
     else if sub < 0x2000 then banked (barBad v) []
     else staticHandler s (sub - 0x2000) payload)
  else if idx < 0x8500 then
    let i := idx - 0x8100
    let n := bits v 11 0
    if sub = 0 then banked (bits v 23 16 == 0 || decide (2080 ≤ n) || (bit v 31 && decide (n < 2080) && t.geometryBad i))
      ((if bit v 31 && !s.srcBound n then [0x01] else []) ++ (if bit v 31 && s.srcOpaque n then [0x06] else []) ++ t.budgetCodes)
    else if sub ≤ 2 then banked (t.geometryBad i) t.budgetCodes
    else if sub = 3 then banked (bits v 11 0 != 0) t.budgetCodes
    else if sub = 4 then banked (bits v 31 30 != 0 || codesBad v) t.budgetCodes
    else if sub = 5 then banked (bits v 20 0 != 0 || (!bit v 31 && bits v 30 21 != 0)) t.budgetCodes
    else if sub < 0x19 then banked (decide (toSigned 32 v < -524288) || decide (524288 < toSigned 32 v)) t.budgetCodes
    else if sub < 0x100 then banked (decide (toSigned 16 v < -4096) || decide (4096 < toSigned 16 v)) t.budgetCodes
    else zeroHandler s idx sub payload
  else if idx = 0x8800 then banked false t.budgetCodes (decide (0x200 ≤ sub % 0x400) && decide (6 ≤ sub % 8))
  else if idx < 0x8900 then plainHandler s idx sub payload { headroom := s.lutsNamed.contains (idx - 0x8820) }
  else if sub < 0x140 then uploadHandler s (sub - 0x100) payload
  else if sub = 0x141 then deleteHandler s payload
  else blitHandler s payload

end Sys2Proof.Machine
end

