-- ==== Sys2Proof/Machine/Tether.lean ====
section
/-! DEFINITION. The tether block (R385-R413): ports, HELLO and the cascade map, the timeline down the cascade, streams and
reservations, cells and credits, tunnelled Dumus, cascade takes and aborts, and the writes of its elements. -/

namespace Sys2Proof.Machine

/-- The node ID (R389). -/
def State.nodeId (s : State) : Nat := s.elem 0xA000 0
/-- UP of 0xA100:0100 + p (R388). -/
def State.tUp (s : State) (p : Nat) : Bool := s.flag 0xA100 (0x100 + p) 31
def State.upPorts (s : State) : List Nat := (List.range 8).filter s.tUp
/-- Every lane of an enabled port READY, and the port aligned (R388). -/
def State.portReady (s : State) (p : Nat) : Bool :=
  s.portOn p && (s.lanesOfPort p).all s.laneReady && !s.portFault.contains p &&
    !s.faults.stopped.any fun x => x.what == .port && x.detail == p

/-- A control block: TYPE over a body of 240 bits (R391). -/
def controlBlock (type body : Nat) : Word := type * 2 ^ 248 + 3 * 2 ^ 240 + body % 2 ^ 240

/-! The cascade map (R390). -/

/-- This node's up ports with their peers. -/
def State.ownLinks (s : State) : List (Nat × Nat) := s.upPorts.filterMap fun p => (s.tport p).peer.map fun e => (p, e.1)

/-- The HELLO this node sends on port `p`. -/
def State.ownHello (s : State) (p : Nat) : Hello :=
  { node := s.nodeId, port := p, master := s.cascadeMaster, bound := s.bound, changeover := s.flag 0xA010 0 22
    sideB := s.boot.sideB, links := s.ownLinks }

/-- The peers of a node as far as this node knows them. -/
def State.peersOf (s : State) (a : Nat) : List Nat :=
  (if a = s.nodeId then s.ownLinks.map Prod.snd
   else (s.tether.hellos.filter fun e => e.hello.node == a).flatMap fun e => e.hello.links.map Prod.snd).eraseDups

/-- Breadth-first search: the distance at which `t` is met. -/
def hopSearch (next : Nat → List Nat) (t : Nat) : (fuel d : Nat) → (seen front : List Nat) → Option Nat
  | 0, _, _, _ => none
  | fuel + 1, d, seen, front =>
    if front.contains t then some d
    else
      let n := ((front.flatMap next).eraseDups).filter fun x => !seen.contains x
      if n.isEmpty then none else hopSearch next t fuel (d + 1) (seen ++ n) n

/-- Hops between two nodes by the fewest (R390). -/
def State.hops (s : State) (a t : Nat) : Option Nat :=
  hopSearch s.peersOf t (s.tether.hellos.length + 3) 0 [a] [a]

/-- The port a path to node `t` leaves by (R390): fewest hops, lowest first port, the trunk's port with the most free
capacity. -/
def State.portToward (s : State) (t : Nat) : Option Nat :=
  match s.hops s.nodeId t with
  | none => none
  | some d =>
    let cands := s.ownLinks.filter fun e => (s.hops e.2 t).any fun k => k + 1 == d
    match cands with
    | [] => none
    | (p, peer) :: _ =>
      let trunk := (cands.filter fun e => e.2 == peer).map Prod.fst
      some (trunk.foldl (fun (b : Nat) q =>
        if s.portCapacity b - s.arriving b < s.portCapacity q - s.arriving q then q else b) p)

/-- The nodes known, this one apart: those heard that a path still reaches. -/
def State.knownNodes (s : State) : List Nat :=
  ((s.tether.hellos.map fun e => e.hello.node).eraseDups).filter fun a => a != s.nodeId && (s.hops s.nodeId a).isSome

/-- The masters heard, lowest first, this node among them when it is one. -/
def State.masters (s : State) : List Nat :=
  let l := ((s.tether.hellos.filter fun e => e.hello.master && s.knownNodes.contains e.hello.node).map fun e => e.hello.node) ++
    (if s.cascadeMaster then [s.nodeId] else [])
  (List.range 4096).filter l.contains

/-- Whether another node with this node's ID is heard (R390). -/
def State.dupNode (s : State) : Bool := s.tether.ports.any fun e => e.2.dupAt.isSome

/-- 0xA010:0001-0003 (R389): the master followed, the hops from it, the nodes known. -/
def noteMap (s : State) : State :=
  if !s.cascadeOn then ((s.put 0xA010 1 0).put 0xA010 2 0).put 0xA010 3 0
  else
    let m := if s.cascadeMaster then s.nodeId else s.masters.headD 0
    ((s.put 0xA010 1 m).put 0xA010 2 ((s.hops s.nodeId m).getD 0)).put 0xA010 3 (s.knownNodes.length + 1)

def execHelloSend (s : State) : Host.Outcome State Fault Refusal :=
  actRunning s fun s => ((List.range 8).filter s.portOn).foldl (fun s p => s.emit (.hello p (s.ownHello p))) s

/-- The HELLO's own port in the port status: peer, pair side (R388, R410). -/
def notePeer (s : State) (p : Nat) (h : Hello) : State :=
  let s := s.setTport p { s.tport p with peer := some (h.node, h.port), sideB := h.sideB }
  let s := (s.putField 0xA100 (0x100 + p) 27 16 h.node).putField 0xA100 (0x100 + p) 15 13 h.port
  let bad := h.sideB != s.boot.sideB
  let was := s.flag 0xA100 (0x100 + p) 29
  let s := s.putFlag 0xA100 (0x100 + p) 29 bad
  if bad && !was then declareFault s 0x121 p true
  else if was && !bad && (List.range 8).all (fun q => !s.flag 0xA100 (0x100 + q) 29) then clearActive s 0x121 else s

/-- DUP_NODE of the port, and the alarm for it and for two masters (R390). -/
def noteIds (s : State) (p : Nat) (dup : Bool) (node : Nat) : State :=
  let x := s.tport p
  let stale := x.dupAt.any fun t => decide (t + 200000 ≤ s.up)
  let s := if dup then s.setTport p { x with dupAt := some s.up } else if stale then s.setTport p { x with dupAt := none } else s
  let s := s.putFlag 0xA100 (0x100 + p) 30 (s.tport p).dupAt.isSome
  let two := !s.cascadeMaster && decide (2 ≤ s.masters.length)
  let active := (s.source 0x120).active
  if (dup || two) && !active then declareFault s 0x120 node true
  else if active && !two && !s.dupNode then clearActive s 0x120 else s

/-- A HELLO received (R390): a new one goes out of the other up ports once and changes the map. -/
def helloReceived (s : State) (p : Nat) (h : Hello) : State :=
  if !s.portReady p then s
  else
    let own := h.node == s.nodeId
    let direct := (((s.lanesOfPort p).head?).bind fun l => (s.lane l).marker).any fun w =>
      markerNode w == h.node && markerPort w == h.port
    let dup := own && (direct || h != s.ownHello h.port)
    let new := !own && !(s.tether.hellos.any fun e => e.hello == h && decide (s.up < e.at_ + 50000))
    let s := if own then s
      else { s with tether := { s.tether with
        hellos := (s.tether.hellos.filter fun e => !(e.hello.node == h.node && e.hello.port == h.port)) ++
          [{ hello := h, port := p, at_ := s.up }] } }
    let s := if direct then notePeer s p h else s
    let s := if new then (s.upPorts.filter (· != p)).foldl (fun s q => s.emit (.hello q h)) s else s
    noteMap (noteIds s p dup h.node)

def execHelloReceived (p : Nat) (h : Hello) (s : State) : Host.Outcome State Fault Refusal :=
  onPort p s fun s => helloReceived s p h

/-! Streams and reservations (R396, R400-R403). -/

def State.stream? (s : State) (node source : Nat) : Option Stream :=
  s.tether.streams.find? fun t => t.node == node && t.source == source
def setStream (s : State) (t : Stream) : State :=
  { s with tether := { s.tether with
    streams := (s.tether.streams.filter fun x => !(x.node == t.node && x.source == t.source)) ++ [t] } }
def dropStream (s : State) (t : Stream) : State :=
  { s with tether := { s.tether with streams := s.tether.streams.filter fun x => !(x.node == t.node && x.source == t.source) } }

def State.setRemote (s : State) (j : Nat) (x : Remote) : State := { s with remote := mapSet remoteD s.remote j x }

/-- The lanes of a port leave idle with its first reservation (R125, R388); a short that shows then is TX_SHORT_DECLARE's. -/
def wakePort (s : State) (p : Nat) : State := (s.lanesOfPort p).foldl (fun s l => idleExit s l false) s

/-- The lowest free label of a port and direction (R396). -/
def State.freeLabel (s : State) (p : Nat) : Option Nat :=
  let used := s.tether.streams.flatMap fun t => (t.outs.filter fun o => o.1 == p).map Prod.snd
  (List.range 4096).find? fun l => !used.contains l

/-- Whether a port cannot hold `rate` more, leaving or arriving (R387). -/
def State.leaveOver (s : State) (p : Nat) (rate : Rat) : Bool := decide (s.portCapacity p < s.leaving p + rate)
def State.arriveOver (s : State) (p : Nat) (rate : Rat) : Bool := decide (s.portCapacity p < s.arriving p + rate)

/-- What the origin's RESERVE brings back (R400, R401): the declaration of a head or generator is its format. -/
def State.originAnswer (s : State) (n : Nat) : Reserved :=
  { plane := s.srcPlane n
    decl := if isInput n then s.elem 0x4100 n else (s.srcFmt n).code * 2 ^ 21
    mode := if isInput n then s.elem 0x4200 n else 0
    internal := !isInput n
    house := s.houseLine (s.srcPlane n)
    rate := s.srcRate n }

/-- The status word of 0xA200 for a confirmed route (R401, R403). -/
def routeWord (t : Stream) : Word :=
  let o := t.from_.getD (0, 0)
  (if t.broken then 3 else 2) * 2 ^ 124 + t.answer.hops * 2 ^ 112 + t.node * 2 ^ 100 + t.source * 2 ^ 88 + o.1 * 2 ^ 69 +
    (t.answer.hops * 1200000 + t.answer.ps) % 2 ^ 32 * 2 ^ 32 + o.2 * 2 ^ 20

/-- A reservation refused at the reader (R400): STATUS and REASON, the NOTIFY, every hold freed. -/
def refuseRemote (s : State) (j code : Nat) : State :=
  let s := s.setRemote j { s.remoteOf j with asked := none }
  let s := if bindKind (s.inBind j) = 3 then s else s.put 0xA200 j 0
  let s := (s.putField 0xA200 j 87 80 stAdmission).putField 0xA200 j 79 72 code
  let s := s.put 0x5300 8 (0x4000 * 2 ^ 48 + j * 2 ^ 32 + stAdmission * 2 ^ 24 + code * 2 ^ 16)
  tidyStreams (finishWaiting s 0x4000 j stAdmission [])

/-- A reservation returned to its reader (R400): ingress and cells are checked, the declaration written, the binding takes
effect, by a move where the input is in use. -/
def completeRemote (t : Stream) (s : State) (j : Nat) : State :=
  match (s.remoteOf j).asked with
  | none => s
  | some w =>
    let r := t.answer
    let rem : Remote := { mode := r.mode, internal := r.internal, house := r.house }
    let would := (((s.setRemote j rem).put 0x4000 j w).put 0x4100 j r.decl).put 0xA200 j (routeWord t)
    let codes := (if r.plane = bindPlane w then [] else [0x03]) ++ would.budgetCodes ++ would.routeCodesOf (s.readersOf j)
    if !codes.isEmpty then refuseRemote s j (lowest codes)
    else
      let c := bindChange s true j w
      let h := structuralHandler s 0x4000 j (toBytes 4 w) c
      let s := ((s.setRemote j rem).setRemote (0x8000 + j) rem).put 0xA200 j (routeWord t)
      let s := if c.used then
          let s := h.commit s
          if s.elem 0x4100 j = r.decl then s
          else startMove s { index := 0x4100, sub := j, old := s.elem 0x4100 j, new := r.decl, start := s.now
                             point := s.movePoint 0x4100 j r.decl }
        else h.commit (s.put 0x4100 j r.decl)
      finishWaiting s 0x4000 j stOk []

/-- The flows of a stream whose reservation is asked for. -/
def State.askingFlows (s : State) (t : Stream) : List Nat :=
  t.flows.filter fun j => (s.remoteOf j).asked.any fun w => bindOrigin w == (t.node, t.source)

/-- A stream asked for by a reader at this node, or by a neighbour (R400): joined where it crosses already, else held on
the port toward its origin. Answers none where it is refused, with the reason. -/
def holdStream (s : State) (t : Stream) : State × Nat :=
  match s.portToward t.node with
  | none => (s, 0x0C)
  | some q =>
    if s.dupNode || s.arriveOver q t.rate then (s, 0x0C)
    else
      let s := wakePort (setStream s { t with from_ := some (q, 0), pending := true }) q
      (s.emit (.reserve q (.ask t.node t.source t.plane t.rate)), 0)

/-- A RESERVE that asks for a stream to leave by port `p`. -/
def reserveAsk (s : State) (p node source plane : Nat) (rate : Rat) : State :=
  let refuse (s : State) (r : Nat) : State := s.emit (.reserve p (.answer node source { reason := r }))
  let out (t : Stream) (o : Nat × Nat) (s : State) : State := s.emit (.reserve o.1 (.answer node source { t.answer with label := o.2 }))
  match s.stream? node source with
  | some t =>
    match t.outs.find? (fun o => o.1 == p) with
    | some o => if t.pending then s else out t o s
    | none =>
      match s.freeLabel p with
      | none => refuse s 0x0C
      | some l =>
        if s.leaveOver p t.rate || s.dupNode then refuse s 0x0C
        else if node = s.nodeId ∧ s.srcPlane source ≠ plane then refuse s 0x03
        else
          let t := { t with outs := t.outs ++ [(p, l)] }
          let s := wakePort (setStream s t) p
          if t.pending then s else out t (p, l) s
  | none =>
    match s.freeLabel p with
    | none => refuse s 0x0C
    | some l =>
      if s.dupNode then refuse s 0x0C
      else if node = s.nodeId then
        let a := s.originAnswer source
        let t : Stream := { node := node, source := source, plane := plane, rate := a.rate, outs := [(p, l)], answer := a }
        let codes := (if s.srcBound source then [] else [0x01]) ++ (if a.plane = plane then [] else [0x03]) ++
          -- no tether input is OPAQUE, so a tether output is always of another kind (R180)
          (if s.srcOpaque source then [0x06] else []) ++
          ((setStream s t).budgetCodes.filter fun c => c == 0x08 || c == 0x0C)
        if codes.isEmpty then out t (p, l) (wakePort (setStream s t) p) else refuse s (lowest codes)
      else if s.leaveOver p rate then refuse s 0x0C
      else
        let r := holdStream s { node := node, source := source, plane := plane, rate := rate, outs := [(p, l)] }
        if r.2 = 0 then wakePort r.1 p else refuse s r.2

/-- A RESERVE returned from the origin by port `q`. -/
def reserveAnswer (s : State) (q node source : Nat) (r : Reserved) : State :=
  match s.stream? node source with
  | none => s
  | some t =>
    if !t.pending || !(t.from_.any fun o => o.1 == q) then s
    else
      let asking := s.askingFlows t
      if r.reason ≠ 0 then
        let s := dropStream s t
        let s := t.outs.foldl (fun s o => s.emit (.reserve o.1 (.answer node source { reason := r.reason }))) s
        asking.foldl (fun s j => refuseRemote s j r.reason) s
      else
        let a := { r with hops := r.hops + 1, ps := r.ps + ((s.tport q).flight.getD 0).toNat }
        let t := { t with pending := false, from_ := some (q, r.label), rate := r.rate, answer := a }
        let s := setStream s t
        let s := t.outs.foldl (fun s o => s.emit (.reserve o.1 (.answer node source { a with label := o.2 }))) s
        asking.foldl (completeRemote t) s

/-- A RESERVE that frees a stream's hold on port `p`. -/
def reserveFree (s : State) (p node source : Nat) : State :=
  match s.stream? node source with
  | some t => tidyStreams (setStream s { t with outs := t.outs.filter fun o => o.1 != p })
  | none => s

/-- A stream's path broken, or whole again (R403): its tether inputs are lost, and the nodes further on are told. -/
def breakStream (broken : Bool) (s : State) (t : Stream) : State :=
  let t := { t with broken := broken }
  let s := setStream s t
  let s := t.outs.foldl (fun s o => s.emit (.reserve o.1 (.path t.node t.source broken))) s
  t.flows.foldl (fun s j =>
    if s.field 0xA200 j 127 124 < 2 then s
    else
      let s := s.putField 0xA200 j 127 124 (if broken then 3 else 2)
      if broken then
        setInState (s.setIn j { s.in_ j with lostAt := some s.up, frame := none, whole := false, openLines := [] }) j 2
      else s) s

def reserveReceived (s : State) (p : Nat) (m : ReserveMsg) : State :=
  if !s.tUp p then s
  else match m with
    | .ask node source plane rate => reserveAsk s p node source plane rate
    | .answer node source r => reserveAnswer s p node source r
    | .free node source => reserveFree s p node source
    | .path node source broken => match s.stream? node source with
      | some t => if t.from_.any (fun o => o.1 == p) then breakStream broken s t else s
      | none => s

def execReserveReceived (p : Nat) (m : ReserveMsg) (s : State) : Host.Outcome State Fault Refusal :=
  onPort p s fun s => reserveReceived s p m

/-- The stream that a binding asks for, as held here before it is asked for. -/
def State.wanted (s : State) (j : Nat) (w : Word) : Stream :=
  let o := bindOrigin w
  (s.stream? o.1 o.2).getD { node := o.1, source := o.2, plane := bindPlane w, rate := (fmtOfWord (s.elem 0x4100 j)).cellRate (s.srcAnc j) }

/-- A tether binding (R399, R400): the local check, then OK_PENDING and the RESERVE. -/
def tetherBind (s : State) (j : Nat) (payload : List Byte) : Handler :=
  let w := ofBytes payload
  let o := bindOrigin w
  let t := s.wanted j w
  let known := (s.stream? o.1 o.2).isSome
  let c := bindChange s true j w
  let beyond := match s.portToward o.1 with
    | none => true
    | some q => !s.cascadeOn || s.dupNode || (!known && s.arriveOver q t.rate)
  let codes := (if beyond then [0x0C] else []) ++ ((s.put 0x4000 j w).budgetCodes.filter fun c => c == 0x09 || c == 0x0A) ++
    own ((s.remoteOf j).asked.isSome)
  let h := plainHandler s 0x4000 j payload
    { range := c.range || s.elem 0x4200 j != 0x04000000
      headroom := c.forbidden || (s.moveOf 0x4000 j).isSome || (c.used && decide (255 ≤ s.moves.length))
      admission := !codes.isEmpty, reason := lowest codes }
  { h with
    struct := true
    plane := bindPlane w
    pending := true
    commit := fun s =>
      let s := s.setRemote j { s.remoteOf j with asked := some w }
      let s := if bindKind (s.inBind j) = 3 then s else s.put 0xA200 j (2 ^ 124 + o.1 * 2 ^ 100 + o.2 * 2 ^ 88)
      let t := { t with flows := t.flows ++ [j] }
      if known then setStream s t else (holdStream s t).1 }

/-- A tether binding write, completed at once where the stream already crosses to this node. -/
def bindTether (s : State) (rq : Rq) (j : Nat) (payload : List Byte) : State :=
  let h := tetherBind s j payload
  let t := request s rq opWrite 0x4000 j payload h
  if s.accepts rq opWrite 0x4000 j payload h.checks then
    match (t.remoteOf j).asked with
    | some w =>
      (match t.stream? (bindOrigin w).1 (bindOrigin w).2 with
       | some x => if x.pending then t else completeRemote x t j
       | none => refuseRemote t j 0x0C)
    | none => t
  else t

def execTetherBindingWrite (rq : Rq) (j : Nat) (v : Word) (s : State) : Host.Outcome State Fault Refusal :=
  act s fun s => bindTether s rq j (valueBytes rq (setBits v 31 28 3))

/-! Ports up and down (R388, R394, R395, R403). -/

/-- The upstream port (R395): up, with fresh records of the followed master, the lowest HOPS, the lowest number. -/
def State.upstreamPort (s : State) : Option Nat :=
  let m := s.elem 0xA010 1
  let ps := s.upPorts.filter fun p =>
    (s.tport p).timeAt.any (fun t => decide (s.up < t + 64000)) && bits (s.tport p).timeline 143 132 == m
  ps.foldl (fun (b : Option Nat) p => match b with
    | none => some p
    | some q => if bits (s.tport p).timeline 131 120 < bits (s.tport q).timeline 131 120 then some p else b) none
def chooseUpstream (s : State) : State := { s with tether := { s.tether with upstream := s.upstreamPort } }

/-- The streams that arrive by a port. -/
def State.streamsFrom (s : State) (p : Nat) : List Stream :=
  s.tether.streams.filter fun t => t.from_.any fun o => o.1 == p

def tetherPortUp (s : State) (p : Nat) : State :=
  if s.tUp p || !s.portReady p || (s.tport p).peer.isNone || s.flag 0xA100 (0x100 + p) 29 then s
  else
    let x := s.tport p
    let s := (s.putFlag 0xA100 (0x100 + p) 31 true).setTport p
      { x with flight := none, credit0 := 512, credit1 := 512, dryAt := none, freed0 := 0, freed1 := 0 }
    let s := s.emit (.tether p (controlBlock 3 0) [])
    noteMap ((s.streamsFrom p).foldl (breakStream false) s)

def execTetherPortUp (p : Nat) (s : State) : Host.Outcome State Fault Refusal := onUnit p 8 s fun s => tetherPortUp s p

/-- The alarms of miswired and stalled ports end with the last one (R413). -/
def settlePorts (s : State) : State :=
  let none_ (i : Nat) : Bool := (List.range 8).all fun q => !s.flag 0xA100 (0x100 + q) i
  let s := if none_ 28 then clearActive s 0x123 else s
  if none_ 29 then clearActive s 0x121 else s

/-- Whether an up port no longer meets R388. -/
def State.portLost (s : State) (p : Nat) : Bool :=
  s.tUp p && (!s.portReady p || (s.tport p).peer.isNone || s.flag 0xA100 (0x100 + p) 29)

def tetherPortDown (s : State) (p : Nat) : State :=
  if !s.portLost p then s
  else
    let s := s.put 0xA100 (0x100 + p) (s.elem 0xA100 (0x100 + p) &&& 0x60000000)
    let s := s.setTport p { dupAt := (s.tport p).dupAt }
    let s := { s with tether := { s.tether with 
      queue := s.tether.queue.filter fun e => e.1 != p && e.2.1 != p, own := s.tether.own.filter (·.port != p) } }
    let s := settlePorts s
    judgePlaced (chooseUpstream (noteMap ((s.streamsFrom p).foldl (breakStream true) s)))

/-- A PATH exchange (R394): the flight taken at alignment stays; a later one that differs by more than 2 ns raises the
alarm. -/
def pathEcho (s : State) (p : Nat) (t1 t2 t3 t4 : Rat) : State :=
  if !s.tUp p then s
  else
    let ps : Rat := ((t4 - t1) - (t3 - t2)) / 2 * 1000 - (toSigned 32 (s.elem 0xA100 (0x400 + p)) : Int)
    let f : Int := (ps / 10 + 1 / 2).floor * 10
    let s := s.put 0xA100 (0x208 + p) (ofSigned 32 f)
    match (s.tport p).flight with
    | none => (s.setTport p { s.tport p with flight := some f }).put 0xA100 (0x200 + p) (ofSigned 32 f)
    | some a => if f - a > 2000 ∨ a - f > 2000 then declareFault s 0x122 p else s

/-- A PATH exchange of the bridle (R422), which is link 8 here. -/
def bridlePath (s : State) (t1 t2 t3 t4 : Rat) : State :=
  if !s.bridleUp then s
  else
    let ps : Rat := ((t4 - t1) - (t3 - t2)) / 2 * 1000 - (toSigned 32 (s.elem 0x9000 2) : Int)
    let f : Int := (ps / 10 + 1 / 2).floor * 10
    match (s.tport 8).flight with
    | none => s.setTport 8 { s.tport 8 with flight := some f }
    | some a => if f - a > 2000 ∨ a - f > 2000 then declareFault s 0x122 8 else s

def execPathEcho (p : Nat) (t1 t2 t3 t4 : Rat) (s : State) : Host.Outcome State Fault Refusal :=
  onUnit p 9 s fun s => if p = 8 then bridlePath s t1 t2 t3 t4 else pathEcho s p t1 t2 t3 t4

/-! The timeline (R393, R395, R40, R47). -/

/-- The TIMELINE body (R393). -/
def State.timelineBody (s : State) : Word :=
  let up := ((s.tether.upstream).map fun p => (s.tport p).timeline).getD 0
  let frac : Rat := s.now - (s.ns : Rat)
  ofSigned 64 s.ns * 2 ^ 176 + (frac * 4294967296).floor.toNat * 2 ^ 144 + s.elem 0xA010 1 % 4096 * 2 ^ 132 +
    s.elem 0xA010 2 % 4096 * 2 ^ 120 + (if s.cascadeMaster then s.ref.tb else bits up 119 118) * 2 ^ 118 +
    (if s.cascadeMaster then ofBool s.onPtpTime else bits up 117 117) * 2 ^ 117

def execTetherTimelineSend (s : State) : Host.Outcome State Fault Refusal :=
  actRunning s fun s =>
    if s.cascadeOn then s.upPorts.foldl (fun s p => s.emit (.tether p (controlBlock 1 s.timelineBody) [])) s else s

/-- A TIMELINE record (R393, R395): from the upstream port it is TETHER-UP's measurement; a change of MASTER is a loss. -/
def timelineReceived (s : State) (p : Nat) (w : Word) : State :=
  if !s.tUp p then s
  else
    let s := s.setTport p { s.tport p with timeline := w, timeAt := some s.up }
    let s := chooseUpstream s
    if !s.cascadeOn || s.cascadeMaster || s.tether.upstream != some p then s
    else
      let sent : Rat := (toSigned 64 (bits w 239 176) : Int) + (bits w 175 144 : Nat) / (4294967296 : Rat)
      let off := sent + ((s.tport p).flight.getD 0 : Int) / (1000 : Rat) - s.now
      let changed := s.ref.srcAt.any (fun e => e.1 == 9) && s.ref.srcMaster != bits w 143 132
      let s := if changed then loseCandidate s 9 6 else s
      let s := s |> noteClock fun s => { s with ref := { s.ref with
        srcOffset := mapPut s.ref.srcOffset 9 off, srcAt := mapPut s.ref.srcAt 9 s.up
        srcMaster := bits w 143 132, srcPtp := bit w 117 } }
      let s := s.put 0xA010 2 ((bits w 131 120 + 1) % 65536)
      if s.ref.selected = some 9 then measure s off.floor (s.cand 9).freq s.now else s

def execTetherTimelineReceived (p : Nat) (w : Word) (s : State) : Host.Outcome State Fault Refusal :=
  onPort p s fun s => timelineReceived s p w

/-- A PLANECFG body: plane, 0x2010 word, origin time in ns, and of a pending step STEP, b in ns and whether and where device time
steps with it (R47, R391; the layout is the model's). -/
def planecfgBody (p : Nat) (w : Word) (origin : Rat) (pending : Option (Rat × Rat)) : Word :=
  p * 2 ^ 238 + w * 2 ^ 206 + ofSigned 64 origin.floor * 2 ^ 142 +
    match pending with
    | some x => 2 ^ 141 + ofSigned 70 x.1.floor * 2 ^ 71 + ofSigned 70 x.2.floor
    | none => 0

/-- A PLANECFG record for the next plane in turn (R391, R419). A plane whose step is pending sends the origin and the ORIGIN code
that it will have, and when (R47). -/
def planecfgSend (s : State) : State :=
  let p := s.tether.planecfg % 4
  let w := s.elem 0x2010 p
  let body := match (s.plane p).step with
    | some r => planecfgBody p (setBits w 19 18 r.kind) r.origin (some (r.b, r.stepNs))
    | none => planecfgBody p w (s.plane p).origin none
  let rec_ := controlBlock 2 body
  let s := { s with tether := { s.tether with planecfg := (p + 1) % 4 } }
  let s := if s.cascadeMaster then s.upPorts.foldl (fun s q => s.emit (.tether q rec_ [])) s else s
  if s.paired && s.holds then s.emit (.bridle rec_ []) else s

def execPlanecfgSend (s : State) : Host.Outcome State Fault Refusal := actRunning s planecfgSend

/-- Whether the plane configuration that came by a link is inherited (R40). -/
def State.inherits (s : State) (link : Nat) : Bool :=
  if link = 8 then s.mode == .standby else s.cascadeOn && !s.cascadeMaster && s.tether.upstream == some link && s.mode != .standby

/-- A plane that the source enables, or whose FORMAT or RATE it changes (R40, R44). A plane newly enabled takes the source's
positions where this device has captured the source's timeline, and free-runs until then with an arbitrary phase, a free value;
an enabled plane keeps its origin. -/
def inheritConfig (s : State) (p c : Nat) (w old : Word) (here : Rat) : State :=
  let s := discardEvents s (fun e => e.plane == p) stLate
  let s := s.put 0x2010 p (setBits (setBits w 30 29 0) 19 18 (bits old 19 18))
  if bit old 31 then
    match (s.plane p).step with
    | some r => redecide s p r
    | none => s
  else if s.tracking = some c then setOriginKind (s.setPlane p { origin := here, hadLock := true }) p (bits w 19 18)
  else
    let frac : Rat := (s.drawn 32 : Nat) / (2 ^ 32 : Nat)
    setOriginKind (s.setPlane p { origin := s.now + frac * periodNs (s.planeRate p) }).draw p 0

/-- The step of an inherited plane that its source announces (R47): at the source's b, with its step of device time. -/
def inheritStep (s : State) (p c kind : Nat) (here : Rat) (x : Rat × Rat) : State :=
  match (s.plane p).step with
  | some _ => s
  | none =>
    let b := x.1 - mapGet ratD s.ref.srcOffset c
    putStep s p
      { b := b, b' := gridAtOrAfter here (periodNs (s.planeRate p)) b, origin := here, kind := kind, stepNs := x.2
        first := !(s.plane p).hadLock, carried := true }

/-- A plane's configuration inherited (R40, R47): a re-origin that the source announces is made here at the same instant. An
origin that is found to have moved more than 1 µs without such a record is a step decided at its arrival. -/
def inheritPlane (s : State) (link p : Nat) (w : Word) (origin : Rat) (pending : Option (Rat × Rat)) : State :=
  let c := if link = 8 then 8 else 9
  let was := mapGet pairD s.ref.srcPlanes p
  let old := s.elem 0x2010 p
  let s := { s with ref := { s.ref with srcPlanes := mapPut s.ref.srcPlanes p (bits w 19 18, origin) } }
  let here := origin - mapGet ratD s.ref.srcOffset c
  if !bit w 31 then
    if bit old 31 then (s.put 0x2010 p (setBits (setBits w 30 29 0) 19 18 0)).setPlane p {} else s
  else if !bit old 31 || bits w 27 20 != bits old 27 20 then inheritConfig s p c w old here
  else if (s.plane p).hadLock then
    match pending with
    | some x => inheritStep s p c (bits w 19 18) here x
    | none =>
      if was.2 != origin && decide (1000000 < (here - (s.plane p).origin) * (here - (s.plane p).origin)) then decideStep s p c 0
      else s
  else s

def planecfgReceived (s : State) (link p : Nat) (w : Word) (origin : Rat) (pending : Option (Rat × Rat)) : State :=
  if !(link == 8 || s.tUp link) || !s.inherits link || decide (4 ≤ p) then s
  else
    let s := inheritPlane s link p w origin pending
    if link = 8 then s
    else (s.upPorts.filter (· != link)).foldl
      (fun s q => s.emit (.tether q (controlBlock 2 (planecfgBody p w origin pending)) [])) s

def execTetherPlanecfgReceived (link p : Nat) (w : Word) (t : PlaneTimes) (s : State) : Host.Outcome State Fault Refusal :=
  onUnit link 9 s fun s => if s.portHears link then planecfgReceived s link p w t.origin t.pending else s

/-! Cells and credits (R391, R396, R404). -/

/-- Ancillary records of a run (R201). -/
def ancRecords : Nat → List Byte → List AncPkt
  | 0, _ => []
  | fuel + 1, b =>
    if b.length < 8 then []
    else
      let h := ofBytes (b.take 4)
      let n := (unpackWords 10 3 (b.drop 4)).getD 2 0 % 256 + 4
      let len := (10 * n + 7) / 8
      { line := bits h 31 21, c := bit h 20, stream := bits h 19 17, hoffset := bits h 16 5
        words := unpackWords 10 n ((b.drop 4).take len) } :: ancRecords fuel (b.drop (4 + len))

/-- A cell of a tether input (R396): a line or run whose cells are all here is written; a failed PCRC leaves it bad. -/
def takeCell (c : LinkCell) (s : State) (j : Nat) : State :=
  if s.field 0xA200 j 127 124 ≠ 2 then s
  else
    let f := s.srcFmt j
    let x := s.in_ j
    let key := c.line + (if c.anc then 65536 else 0)
    let mine (o : OpenLine) : Bool := o.line == key && o.frame == c.frame
    let o := (x.openLines.find? mine).getD { line := key, frame := c.frame, count := 0, spans := [] }
    let spans := (o.spans.filter fun e => e.1 != c.index) ++ [(c.index, (c.payload.take c.valid).map BitVec.toNat)] ++
      (if linkCrcOk c then [] else [(4096, [])])
    let count := if c.last then c.index + 1 else o.count
    let whole := count != 0 && (List.range count).all fun i => spans.any fun e => e.1 == i
    let rest := x.openLines.filter fun y => !mine y && decide (c.frame ≤ y.frame + 1)
    let first := !c.anc && c.line == rasterOf f.form 0 && x.frame != some c.frame
    let x := if first then { x with frame := some c.frame, whole := true, arrival := s.now } else x
    if whole then
      let bytes := (List.range count).flatMap fun i => match spans.find? fun e => e.1 == i with
        | some e => e.2.map (BitVec.ofNat 8)
        | none => []
      let s := s.setIn j { x with openLines := rest }
      if c.anc then
        let pkts := ancRecords 512 bytes
        writeAnc (digestRun s j c.frame (fieldOf f.form c.line) pkts) j c.frame (fieldOf f.form c.line) pkts
      else
        let y : CellLine :=
          { frame := c.frame, line := c.line, picture := unpackWords (if samp12 f.samp then 12 else 10) (lineWords f) bytes
            subst := c.subst, meta_ := c.meta_, bad := spans.any fun e => e.1 == 4096 }
        writeCells (digestLine s j y) j y
    else s.setIn j { x with openLines := rest ++ [{ o with spans := spans, count := count }] }

def TetherPort.addFreed (x : TetherPort) (vc : Nat) : TetherPort :=
  if vc = 0 then { x with freed0 := x.freed0 + 1 } else { x with freed1 := x.freed1 + 1 }

/-- A cell leaves by port `q` against one credit (R404), on VC1 where the port crosses the dateline. -/
def launchCell (s : State) (q : Nat) (c : LinkCell) : State :=
  let vc := s.leaveVc q c.vc
  (spendCredit s q vc 1).emit (.blocks q (linkBlocks { c with vc := vc }))

/-- Cells of a channel that a port's express buffer holds (R404): a cell that waits for several ports counts once. -/
def State.expressHeld (s : State) (p vc : Nat) : Nat :=
  (((s.tether.queue.filter fun e => e.1 == p && e.2.2.vc == vc).map fun e => { e.2.2 with label := 0 }).eraseDups).length

/-- A cell that arrived by port `p` (R391, R396, R404): copied to each port its stream leaves by and to the inputs that take
it; what finds no credit waits in the express buffer, and what finds no space there is discarded. -/
def cellReceived (s : State) (p : Nat) (c : LinkCell) : State :=
  if !s.tUp p then s
  else match (if c.reserved then none else s.tether.streams.find? fun t => !t.pending && t.from_ == some (p, c.label)) with
    | none => s.count 0xA100 (0x508 + p)
    | some t =>
      let r := t.outs.foldl (fun (a : State × Bool) o =>
        let s := a.1
        let d := { c with label := o.2 }
        if 0 < (s.tport o.1).credit (s.leaveVc o.1 c.vc) then (launchCell s o.1 d, a.2)
        else if s.expressHeld p c.vc < 512 then
          ({ s with tether := { s.tether with queue := s.tether.queue ++ [(p, o.1, d)] } }, true)
        else (s.count 0xA100 (0x500 + p), a.2)) (s, false)
      let s := t.flows.foldl (takeCell c) r.1
      if r.2 then s else s.setTport p ((s.tport p).addFreed c.vc)

def execTetherCellReceived (p : Nat) (c : LinkCell) (s : State) : Host.Outcome State Fault Refusal :=
  onPort p s fun s => cellReceived s p c

/-- The cells that wait for port `q`, oldest first, as far as its credit goes; a cell that no port waits for any more
frees its place at the port it came by. -/
def drainQueue (q : Nat) : List (Nat × Nat × LinkCell) → State → State
  | [], s => s
  | e :: l, s =>
    if e.2.1 = q ∧ 0 < (s.tport q).credit (s.leaveVc q e.2.2.vc) then
      let s := launchCell s q e.2.2
      let kept := (s.tether.queue ++ l).any fun x => x.1 == e.1 && { x.2.2 with label := 0 } == { e.2.2 with label := 0 }
      drainQueue q l (if kept then s else s.setTport e.1 ((s.tport e.1).addFreed e.2.2.vc))
    else drainQueue q l { s with tether := { s.tether with queue := s.tether.queue ++ [e] } }

def creditReceived (s : State) (p vc0 vc1 : Nat) : State :=
  if !s.tUp p then s
  else
    let x := ((s.tport p).addCredit 0 vc0).addCredit 1 vc1
    let dry := x.credit0 == 0 || x.credit1 == 0
    let s := s.setTport p { x with dryAt := if dry then x.dryAt else none }
    let s := if dry || !s.flag 0xA100 (0x100 + p) 28 then s
      else
        settlePorts (s.putFlag 0xA100 (0x100 + p) 28 false)
    let q := s.tether.queue
    let s := drainQueue p q { s with tether := { s.tether with queue := [] } }
    let own := s.tether.own.filter (·.port == p)
    own.foldl sendOwn { s with tether := { s.tether with own := s.tether.own.filter (·.port != p) } }

def execCreditReceived (p vc0 vc1 : Nat) (s : State) : Host.Outcome State Fault Refusal :=
  onPort p s fun s => creditReceived s p vc0 vc1

def creditStall (s : State) (p : Nat) : State :=
  if s.tUp p && (s.tport p).dryAt.any (fun t => decide (t + 100000 ≤ s.up)) && !s.flag 0xA100 (0x100 + p) 28 then
    declareFault (s.putFlag 0xA100 (0x100 + p) 28 true) 0x123 p true
  else s

def execCreditStall (p : Nat) (s : State) : Host.Outcome State Fault Refusal := onUnit p 8 s fun s => creditStall s p

def creditSend (s : State) (p : Nat) : State :=
  if s.tUp p then
    let x := s.tport p
    (s.setTport p { x with freed0 := 0, freed1 := 0 }).emit
      (.tether p (controlBlock 5 (x.freed0 % 4096 * 2 ^ 228 + x.freed1 % 4096 * 2 ^ 216)) [])
  else s

def execCreditSend (p : Nat) (s : State) : Host.Outcome State Fault Refusal := onUnit p 8 s fun s => creditSend s p

/-- STREAM_STATE (R398): the origin's state is that of the tether inputs, and goes on to the nodes beyond. -/
def streamState (s : State) (p label : Nat) (w : Word) : State :=
  match s.tether.streams.find? fun t => !t.pending && t.from_ == some (p, label) with
  | some t =>
    if !s.tUp p || t.broken then s
    else
      let s := t.outs.foldl (fun s o => s.emit (.streamState o.1 o.2 w)) s
      t.flows.foldl (fun s j => if s.field 0xA200 j 127 124 = 2 then s.putField 0x4300 (0x4000 + j) 31 26 w else s) s
  | none => s

def execStreamStateReceived (p label : Nat) (w : Word) (s : State) : Host.Outcome State Fault Refusal :=
  onPort p s fun s => streamState s p label w

/-! Tunnelled Dumus (R405). -/

/-- A frame in fragments of 24 bytes on the port toward its target (R391; the record's layout is the model's). -/
def sendFragments (s : State) (target source : Nat) (frame : List Byte) : State :=
  match s.portToward target with
  | none => s
  | some q =>
    let n := (frame.length + 23) / 24
    (List.range n).foldl (fun s i =>
      let part := (frame.drop (24 * i)).take 24
      s.emit (.tether q (controlBlock 6 (target * 2 ^ 228 + source * 2 ^ 216 + i * 2 ^ 200 + ofBool (i + 1 == n) * 2 ^ 199 +
        ofBytes part * 2 ^ (8 * (24 - part.length)))) [])) s

/-- A request for a mapped remote node (R405). -/
def tunnelRequest (s : State) (rq : Rq) (op idx sub : Nat) (payload : List Byte) : State :=
  let target := s.elem 0xA020 rq.node
  if !s.takesUp rq || rq.node == s.elem 0x1000 0 || decide (255 < rq.node) || target == 0xFFFF then s
  else
    let s := unbuffer s rq op idx sub payload
    if !admitted rq.port rq.origin then refuseRequest s rq op idx sub stAccess {}
    else if target = s.nodeId ∨ (s.portToward target).isNone then sendReply (countPort s rq.port 0xB) rq idx sub stMode []
    else
      let s := countPort s rq.port 0xA
      let s := { s with tether := { s.tether with
        tunnels := s.tether.tunnels ++ [{ rq := rq, node := target, index := idx, sub := sub, at_ := s.up }] } }
      let s := sendFragments s target s.nodeId (headerBytes op 0 rq idx sub rq.len rq.typ ++ payload ++ toBytes 8 rq.tag)
      sendReply s rq idx sub stPending []

def execTunnelRequest (rq : Rq) (op idx sub : Nat) (payload : List Byte) (s : State) : Host.Outcome State Fault Refusal :=
  act s fun s => tunnelRequest s rq op idx sub payload

/-- A whole tunnelled frame at its target: a reply becomes a NOTIFY on the port the request came by; a request waits to be
processed. -/
def tunnelFrame (s : State) (source : Nat) (frame : List Byte) : State :=
  let h := ofBytes (frame.take 16)
  let op := bits h 123 120
  if op = 9 ∨ op = 7 then
    match s.tether.tunnels.find? fun t => t.node == source && t.rq.origin == bits h 99 96 && t.rq.session == bits h 95 80 &&
        t.rq.seq == bits h 79 64 with
    | some t =>
      let st := bits h 119 112
      let s := if st = stPending then s
        else { s with tether := { s.tether with tunnels := s.tether.tunnels.filter (· != t) } }
      notify s t.rq t.index t.sub st ((frame.drop 16).take (bits h 31 16))
    | none => s
  else if frameBad frame false then countPort s .tunnel 3
  else if 16384 < queueBytes s.req.bufTunnel + frame.length then countPort s .tunnel 1
  else { s with req := { s.req with bufTunnel := s.req.bufTunnel ++ [frame] } }

/-- A DUMUS record (R405): passed on toward its target, or collected here. -/
def tunnelFragment (s : State) (p target source number : Nat) (last : Bool) (data : List Byte) : State :=
  if !s.tUp p then s
  else if target ≠ s.nodeId then
    match s.portToward target with
    | some q => s.emit (.tether q (controlBlock 6 (target * 2 ^ 228 + source * 2 ^ 216 + number * 2 ^ 200 + ofBool last * 2 ^ 199 +
        ofBytes (data.take 24) * 2 ^ (8 * (24 - (data.take 24).length)))) [])
    | none => s
  else
    let all := (if number = 0 then [] else mapGet bytesD s.tether.parts source) ++ data
    if last then tunnelFrame { s with tether := { s.tether with parts := mapErase s.tether.parts source } } source all
    else { s with tether := { s.tether with parts := mapSet bytesD s.tether.parts source all } }

def execTunnelFragmentReceived (p target source number : Nat) (last : Bool) (data : List Byte) (s : State) :
    Host.Outcome State Fault Refusal :=
  onPort p s fun s => tunnelFragment s p target source number last data

/-- A reply not received within 1 ms (R405). -/
def tunnelTimeout (s : State) : State :=
  match s.tether.tunnels.find? fun t => decide (t.at_ + 1000000 ≤ s.up) with
  | some t =>
    let s := { s with tether := { s.tether with tunnels := s.tether.tunnels.filter (· != t) } }
    notify (countPort s t.rq.port 0xB) t.rq t.index t.sub stMode []
  | none => s

def execTunnelTimeout (s : State) : Host.Outcome State Fault Refusal := actRunning s tunnelTimeout

/-! Cascade takes and aborts (R406-R409). -/

/-- H (R62, R407): the largest hop count to a node with a bank of `scope` bound. -/
def State.cascadeHops (s : State) (scope : Nat) : Nat :=
  (s.knownNodes.filter fun a => s.tether.hellos.any fun e => e.hello.node == a && (e.hello.bound &&& scope) != 0).foldl
    (fun m a => max m ((s.hops s.nodeId a).getD 0)) 0

/-- The lead of a cascade take or abort in ns. -/
def State.cascadeLead (s : State) (scope : Nat) : Rat := 64000 + 2000 * (s.cascadeHops scope : Nat)

/-- The cascade takes that wait at this node on a bank of `scope`. -/
def State.cascadeTakes (s : State) (scope : Nat) : List Event := s.takesIn scope true

/-- The master's own cascade takes that have not reached their TP, on a bank of `scope` (R407). -/
def State.issuedTakes (s : State) (scope : Nat) : List Issued :=
  s.tether.issued.filter fun i => (i.scope &&& scope) != 0 && tpLater i.tp (s.posAt i.plane s.now)

/-- A cascade take arms this node's bound banks (R408): a bank that reseeds completes its reseed at once. -/
def armCascade (s : State) (tp : Word) (plane scope : Nat) (next force : Bool) (rq : Option Rq) : State :=
  let b := scope &&& s.bound
  if b = 0 then s
  else
    let s := (List.range 5).foldl (fun s i =>
      if bit b i then
        let s := reseedDone s i
        s.setBank i { s.bank i with armed := true }
      else s) s
    queueEvent s { tp := tp, plane := plane, kind := 1, scope := b, next := next, cascade := true, force := force, rq := rq }

def floodCascade (s : State) (m : CascadeMsg) (except : Option Nat) : State :=
  let s := { s with tether := { s.tether with flooded := (m :: s.tether.flooded).take 64 } }
  (s.upPorts.filter fun q => some q != except).foldl (fun s q => s.emit (.cascade q m)) s

/-- A TAKE with CASCADE at this node (R407). -/
def cascadeTakeHandler (s : State) (rq : Rq) (payload : List Byte) : Handler :=
  let v := ofBytes payload
  let p := takePlane v
  let scope := takeScope v
  let lead := s.cascadeLead scope
  let tp := if takeNext v then s.posUp p (s.now + lead) else takeTp v
  { checks :=
      { range := !s.planeOn p || scope == 0 || bits v 26 5 != 0 ||
          !((takeTp v == 0 && takeNext v) || tpValid (s.planeLines p) (takeTp v))
        access := s.scopeDenied rq.origin scope
        mode := !s.cascadeMaster
        busy := !(s.issuedTakes scope).isEmpty
        reseeding := (List.range 5).any fun b => scopeHas scope b && decide (s.up < mapGet ratD s.tether.bankFree b)
        late := !takeNext v && (tpLater (s.posAt p s.now) (takeTp v) || decide (s.tpTime p (takeTp v) < s.now + lead))
        admission := decide (4096 ≤ s.events.length) }
    commit := fun s =>
      let free := (max (s.tpTime p tp) s.now) - s.stepped + 2000000
      let s := { s with tether := { s.tether with
        bankFree := (List.range 5).foldl (fun m b => if scopeHas scope b then mapSet ratD m b free else m) s.tether.bankFree
        issued := s.issuedTakes 31 ++ [{ tp := tp, plane := p, scope := scope, origin := rq.origin }] } }
      let s := armCascade s tp p scope (takeNext v) (takeForce v) (some rq)
      floodCascade s (.take tp p scope (takeForce v) rq.origin rq.session rq.seq) none
    data := fun _ => toBytes 8 tp
    new := logBytes payload
    plane := p
    refused := takeRefused false }

/-- A TAKE, of this device or of the cascade (R239, R407). -/
def takeAny (s : State) (rq : Rq) (payload : List Byte) : State :=
  request s rq opTake 0x1100 0 payload
    (if takeCascade (ofBytes payload) then cascadeTakeHandler s rq payload else takeHandler s rq payload)

def execTake (rq : Rq) (v : Word) (s : State) : Host.Outcome State Fault Refusal := act s fun s => takeAny s rq (valueBytes rq v)
def execCascadeTake (rq : Rq) (v : Word) (s : State) : Host.Outcome State Fault Refusal :=
  act s fun s => takeAny s rq (valueBytes rq (setBit v 28 true))

/-- An ABORT with CASCADE (R63, R409): at the master alone, with the same lead before the TP, which counts the hops to every
node that the take's scope reaches. -/
def cascadeAbortHandler (s : State) (rq : Rq) (payload : List Byte) : Handler :=
  let v := ofBytes payload
  let scope := bits v 4 0
  let is := s.issuedTakes scope
  let all := is.foldl (fun a i => a ||| i.scope) 0
  { checks :=
      { access := rq.origin != 0 && rq.origin != 4 && is.any fun i => i.origin != rq.origin
        range := bits v 27 5 != 0 || bits v 31 29 != 0
        mode := !s.cascadeMaster
        late := is.any fun i => decide (s.tpTime i.plane i.tp < s.now + s.cascadeLead i.scope) }
    commit := fun s =>
      let s := (s.cascadeTakes scope).foldl cancelTake s
      let s := dropIssued s is
      floodCascade s (.abort scope rq.origin rq.session rq.seq) none
    data := fun _ => toBytes 1 all
    new := logBytes payload }

def abortAny (s : State) (rq : Rq) (payload : List Byte) : State :=
  request s rq opAbort 0x1100 1 payload
    (if bit (ofBytes payload) 28 then cascadeAbortHandler s rq payload else abortHandler s rq payload)

def execAbort (rq : Rq) (v : Word) (s : State) : Host.Outcome State Fault Refusal := act s fun s => abortAny s rq (valueBytes rq v)
def execCascadeAbort (rq : Rq) (v : Word) (s : State) : Host.Outcome State Fault Refusal :=
  act s fun s => abortAny s rq (valueBytes rq (setBit v 28 true))

/-- A CASCADE record (R408, R409, R412): passed on once, and carried out. -/
def cascadeReceived (s : State) (p : Nat) (m : CascadeMsg) : State :=
  if !s.tUp p || !s.cascadeOn || s.tether.flooded.contains m then s
  else
    let s := floodCascade s m (some p)
    match m with
    | .take tp plane scope force origin session seq =>
      let rq : Rq := { port := .stream, origin := origin, session := session, seq := seq }
      logEvent (armCascade s tp plane scope false force (some rq)) 0x1100 0 0 (logValue 8 tp) plane
    | .abort scope _ _ _ => (s.cascadeTakes scope).foldl cancelTake s
    | .drill tp plane force origin session seq =>
      if s.flag 0xA010 0 22 && s.paired then
        queueEvent s { tp := tp, plane := plane, kind := 4, force := force
                       rq := some { port := .stream, origin := origin, session := session, seq := seq } }
      else s

def execCascadeRecordReceived (p : Nat) (m : CascadeMsg) (s : State) : Host.Outcome State Fault Refusal :=
  onPort p s fun s => cascadeReceived s p m

/-! The elements (R385, R386, R389, R394, R405). -/

/-- Whether a reservation crosses a port (R386). -/
def State.portUsed (s : State) (p : Nat) : Bool :=
  s.tether.streams.any fun t => t.from_.any (fun o => o.1 == p) || t.outs.any fun o => o.1 == p

def tetherPortHandler (s : State) (p : Nat) (payload : List Byte) : Handler :=
  let v := ofBytes payload
  let first := bits v 27 20
  let lanes := (List.range (bits v 30 28 + 1)).map (· + first)
  let on := bit v 31
  let last := first + bits v 30 28
  let beyond := (List.range 8).any fun q => q != p && lanes.any (s.portHas q)
  let code := s.txCode first
  let wrong := lanes.any fun l => s.protocol l != protoTether || !laneRxEn (s.laneMode l) || !laneTxEn (s.laneMode l) ||
    s.txCode l != code || s.rxCode l != code
  let h := plainHandler s 0xA100 p payload
    { range := on && (decide (191 < last) || beyond), headroom := s.portUsed p, admission := on && wrong, reason := 0x13 }
  { h with
    struct := true
    commit := fun s =>
      let same := v == s.elem 0xA100 p
      let s := s.commit 0xA100 p v
      if same then s
      else
        let s := (s.put 0xA100 (0x100 + p) 0).setTport p {}
        judgePlaced (settlePorts (chooseUpstream (noteMap s))) }

/-- 0xA010 (R389). -/
def roleHandler (s : State) (payload : List Byte) : Handler :=
  let v := ofBytes payload
  let old := s.elem 0xA010 0
  let key (w : Word) : Nat × Nat := (bits w 31 30, bits w 27 23)
  let busy := !s.tether.streams.isEmpty || s.events.any fun e => e.kind == 1 && !e.fired && e.cascade
  let h := plainHandler s 0xA010 0 payload { range := bits v 29 28 == 3, headroom := key v != key old && busy }
  { h with struct := true, commit := fun s => judgePlaced (noteMap (s.commit 0xA010 0 v)) }

def tetherHandler (s : State) (idx sub : Nat) (payload : List Byte) : Handler :=
  let v := ofBytes payload
  if idx = 0xA000 then
    { plainHandler s idx sub payload { range := decide (4095 < v), headroom := s.cascadeOn } with struct := true }
  else if idx = 0xA010 then roleHandler s payload
  else if idx = 0xA020 then plainHandler s idx sub payload { range := decide (4095 < v) && v != 0xFFFF }
  else if sub < 8 then tetherPortHandler s sub payload
  else if sub < 0x500 then
    plainHandler s idx sub payload { range := decide (toSigned 32 v < -10000) || decide (10000 < toSigned 32 v) }
  else zeroHandler s idx sub payload

/-- The computed reports of 0xA100 (R385-R388). -/
def State.portReport (s : State) (sub : Nat) : Word :=
  let p := sub % 8
  let mb (x : Rat) : Rat := x / 1000000
  if sub < 0x200 then
    let idle := s.portOn p && (s.lanesOfPort p).drop 1 != [] && ((s.lanesOfPort p).drop 1).all fun l => s.flag 0x3200 l 24
    setBit (s.elem 0xA100 sub) 12 idle
  else if sub < 0x308 then (mb (s.portCapacity p)).floor.toNat
  else if sub < 0x310 then (mb (s.leaving p)).ceil.toNat
  else (mb (s.arriving p)).ceil.toNat

end Sys2Proof.Machine
end

