-- ==== Sys2Proof/Machine/Snapshot.lean ====
section
/-! DEFINITION. The memories of a join's snapshot beside the sets (R431, R432): each is a run of 192-bit contents, which STATE
records carry in order. The encoding is the model's own. -/

namespace Sys2Proof.Machine

/-- A way to write a value as contents and to read it back with the contents that follow it. -/
abbrev Codec (α : Type) := (α → List Nat) × (List Nat → α × List Nat)

def cNat : Codec Nat := (fun n => [n % 2 ^ 192], fun l => (l.headD 0, l.drop 1))
def cMap {α β : Type} (f : α → β) (g : β → α) (c : Codec α) : Codec β :=
  (fun b => c.1 (g b), fun l => (f (c.2 l).1, (c.2 l).2))
def cPair {α β : Type} (a : Codec α) (b : Codec β) : Codec (α × β) :=
  (fun x => a.1 x.1 ++ b.1 x.2, fun l => let r := a.2 l; let q := b.2 r.2; ((r.1, q.1), q.2))
def takeN {α : Type} (c : Codec α) : Nat → List Nat → List α × List Nat
  | 0, l => ([], l)
  | n + 1, l =>
    let r := c.2 l
    let q := takeN c n r.2
    (r.1 :: q.1, q.2)
/-- A list after its length; a length past the contents at hand is cut to them. -/
def cList {α : Type} (c : Codec α) : Codec (List α) :=
  (fun xs => xs.length :: xs.flatMap c.1, fun l => takeN c (min (l.headD 0) l.length) (l.drop 1))
def cOpt {α : Type} (c : Codec α) : Codec (Option α) := cMap List.head? Option.toList (cList c)
def cBool : Codec Bool := cMap (· != 0) ofBool cNat
def cInt : Codec Int := cMap (toSigned 192) (ofSigned 192) cNat
def cRat : Codec Rat := cMap (fun x => (x.1 : Rat) / (x.2 : Nat)) (fun r => (r.num, r.den)) (cPair cInt cNat)
/-- An instant of the member's own uptime, as its age at `up`. -/
def cAgo (up : Rat) : Codec Rat := cMap (up - ·) (up - ·) cRat
/-- A number of any size, in digits of 192 bits, the least first. -/
def digits192 : Nat → Nat → List Nat
  | 0, _ => []
  | fuel + 1, n => if n = 0 then [] else n % 2 ^ 192 :: digits192 fuel (n / 2 ^ 192)
def cBig : Codec Nat :=
  cMap (fun l => l.foldr (fun d a => a * 2 ^ 192 + d) 0) (fun n => digits192 (n.log2 / 192 + 1) n) (cList cNat)
/-- Bytes, 24 to a content. -/
def packBytes : Nat → List Byte → List Nat
  | 0, _ => []
  | fuel + 1, b => if b.isEmpty then [] else
      ofBytes (b.take 24) * 256 ^ (24 - min 24 b.length) :: packBytes fuel (b.drop 24)
def cBytes : Codec (List Byte) :=
  cMap (fun x => (x.2.flatMap (toBytes 24)).take x.1) (fun b => (b.length, packBytes (b.length / 24 + 1) b)) (cPair cNat (cList cNat))

/-! Requests, events, moves, banks, the master's takes (R55, R237, R263, R407). -/

def portCodes : List Port := [.card, .dumusA, .dumusB, .tunnel, .relay, .stream]
def cPort : Codec Port := cMap (fun n => portCodes.getD n .card) (fun p => portCodes.findIdx (· == p)) cNat

def cRq : Codec Rq :=
  cMap
    (fun (p, a, b, c, d, e, f, g, h, i, j, k, l, m, n) =>
      { port := p, tnode := a, src := b, node := c, origin := d, session := e, seq := f, len := g, shadow := h, first := i
        last := j, key := k, typ := l, tag := m, rsv := n })
    (fun r => (r.port, r.tnode, r.src, r.node, r.origin, r.session, r.seq, r.len, r.shadow, r.first, r.last, r.key, r.typ, r.tag,
      r.rsv))
    (cPair cPort (cPair cNat (cPair cNat (cPair cNat (cPair cNat (cPair cNat (cPair cNat (cPair cNat (cPair cBool (cPair cBool
      (cPair cBool (cPair cNat (cPair cNat (cPair cNat cNat))))))))))))))

def cEvent : Codec Event :=
  cMap
    (fun (a, b, c, d, e, f, g, h, i, j, k, l, m, n) =>
      { tp := a, plane := b, kind := c, scope := d, arg := e, next := f, cascade := g, force := h, fired := i, ends := j
        order := k, image := l, rq := m, points := n })
    (fun x => (x.tp, x.plane, x.kind, x.scope, x.arg, x.next, x.cascade, x.force, x.fired, x.ends, x.order, x.image, x.rq, x.points))
    (cPair cNat (cPair cNat (cPair cNat (cPair cNat (cPair cNat (cPair cBool (cPair cBool (cPair cBool (cPair cBool (cPair cRat
      (cPair cNat (cPair (cList (cPair cNat (cPair cNat cNat))) (cPair (cOpt cRq) (cList (cPair cNat cRat)))))))))))))))

def cIssued : Codec Issued :=
  cMap (fun (a, b, c, d) => { tp := a, plane := b, scope := c, origin := d }) (fun x => (x.tp, x.plane, x.scope, x.origin))
    (cPair cNat (cPair cNat (cPair cNat cNat)))

def cMove : Codec Move :=
  cMap (fun (a, b, c, d, e, f) => { index := a, sub := b, old := c, new := d, start := e, point := f })
    (fun x => (x.index, x.sub, x.old, x.new, x.start, x.point))
    (cPair cNat (cPair cNat (cPair cBig (cPair cBig (cPair cRat (cOpt cRat))))))

def cBank : Codec BankSt :=
  cMap (fun (a, b, c, d) => { armed := a, reseeding := b, dirty := c, stale := d })
    (fun x => (x.armed, x.reseeding, x.dirty, x.stale)) (cPair cBool (cPair cBool (cPair cBool cBool)))

/-! Spools and the mix engine (R338, R342, R345). -/

def cNats : Codec (List Nat) := cList cNat
def cPairs : Codec (List (Nat × Nat)) := cList (cPair cNat cNat)

def cSpool (up : Rat) : Codec SpoolBank :=
  cMap
    (fun (a, b, c, d, e, f, g, h, i, j, k, l, m) =>
      { st := a, image := b, frameAt := c, words := d, delays := e, label := f, aWords := g, bWords := h, coefs := i, readsA := j
        readsB := k, busA := l, busB := m })
    (fun x => (x.st, x.image, x.frameAt, x.words, x.delays, x.label, x.aWords, x.bWords, x.coefs, x.readsA, x.readsB, x.busA, x.busB))
    (cPair cNat (cPair cBytes (cPair (cAgo up) (cPair cNats (cPair cNats (cPair cNat (cPair cNat (cPair cNat (cPair cNat
      (cPair cNats (cPair cNats (cPair cNats cPairs))))))))))))

def cRamp : Codec Ramp :=
  cMap (fun (a, b, c, d) => { old := a, new := b, start := c, len := d }) (fun x => (x.old, x.new, x.start, x.len))
    (cPair cInt (cPair cInt (cPair cNat cNat)))

def cEngine : Codec Engine :=
  cMap
    (fun (a, b, c, d, e, f, g) => { bank := a, period := b, acc := c, scratch := d, biquad := e, lines := f, ramps := g })
    (fun x => (x.bank, x.period, x.acc, x.scratch, x.biquad, x.lines, x.ramps))
    (cPair cNat (cPair cNat (cPair (cList (cPair cNat cInt)) (cPair (cList (cPair cNat cInt))
      (cPair (cList (cPair cNat (cPair cInt cInt))) (cPair (cList (cPair cNat (cPair cNat cNats))) (cList (cPair cNat cRamp))))))))

def cCoef : Codec CoefWrite :=
  cMap (fun (a, b, c, d, e) => { frame := a, due := b, bank := c, entry := d, old := e }) (fun x => (x.frame, x.due, x.bank, x.entry, x.old))
    (cPair cNat (cPair cInt (cPair cNat (cPair cNat cNat))))

def cMix (up : Rat) : Codec MixSt :=
  cMap
    (fun (a, b, c, d, e, f, g, h) =>
      { engine := a, fading := b, results := c, computed := d, coefs := e, satAt := f, clipAt := g, busNext := h })
    (fun x => (x.engine, x.fading, x.results, x.computed, x.coefs, x.satAt, x.clipAt, x.busNext))
    (cPair (cOpt cEngine) (cPair (cOpt (cPair cEngine (cPair cNat cNat))) (cPair (cList cPairs) (cPair cBool
      (cPair (cList cCoef) (cPair (cOpt (cAgo up)) (cPair (cOpt (cAgo up))
        (cList (cPair cNat cPairs)))))))))

/-! Bridges, elastic stores, gain moves, crossfades, filters (R297, R307, R309, R311, R313). -/

def cBridge (up : Rat) : Codec Bridge :=
  cMap
    (fun (a, b, c, d, e, f, g, h, w, i, j, k, l, m, n, o, p, q, r, t, u) =>
      { kind := a, owner := b, base := c, slots := d, per := e, st := f, nominal := g, ratio := h, integ := w, next := i, since := j, band := k
        bandAt := l, updAt := m, lastAt := n, phase := o, recentres := p, recentreAt := q, fadeOut := r, fadeIn := t, buf := u })
    (fun x => (x.kind, x.owner, x.base, x.slots, x.per, x.st, x.nominal, x.ratio, x.integ, x.next, x.since, x.band, x.bandAt, x.updAt,
      x.lastAt, x.phase, x.recentres, x.recentreAt, x.fadeOut, x.fadeIn, x.buf))
    (cPair cNat (cPair cNat (cPair cNat (cPair cNat (cPair cNat (cPair cNat (cPair cNat (cPair cInt (cPair cRat (cPair (cOpt cInt)
      (cPair (cAgo up) (cPair cNat (cPair (cAgo up) (cPair (cAgo up) (cPair (cAgo up) (cPair cRat (cPair cNat
        (cPair (cOpt (cAgo up)) (cPair cNat (cPair cNat (cList cNats)))))))))))))))))))))

def cElastic : Codec Elastic :=
  cMap (fun (a, b, c) => { frames := a, last := b, hold := c }) (fun x => (x.frames, x.last, x.hold))
    (cPair (cList cNats) (cPair cNats cBool))

def cGain (up : Rat) : Codec GainSt :=
  cMap (fun (a, b, c, d) => { now := a, target := b, stepAt := c, last := d }) (fun x => (x.now, x.target, x.stepAt, x.last))
    (cPair (cOpt cInt) (cPair (cOpt cInt) (cPair (cAgo up) cInt)))

def cAout (up : Rat) : Codec AoutSlot :=
  cMap (fun (a, b, c, d, e) => { route := a, old := b, at_ := c, len := d, gain := e })
    (fun x => (x.route, x.old, x.at_, x.len, x.gain)) (cPair cNat (cPair cNat (cPair (cOpt cNat) (cPair cNat (cGain up)))))

/-- What of an AIN slot is not filled by the member's own intake: filter states, fades and delays. -/
def cAin : Codec AinSlot :=
  cMap
    (fun (a, b, c, d, e, f) => { fade := a, offset := b, high := c, delay := d, was := e, at_ := f })
    (fun x => (x.fade, x.offset, x.high, x.delay, x.was, x.at_))
    (cPair cNat (cPair cBig (cPair cBig (cPair cNat (cPair cNat (cOpt cNat))))))

/-! Graphics (R371, R379). -/

/-- A sprite; poison stays with the member that has it (R426). -/
def cSprite : Codec Sprite :=
  cMap (fun (a, b, c) => { w := a, h := b, rows := c }) (fun x => (x.w, x.h, x.rows)) (cPair cNat (cPair cNat (cList cNats)))
def cPlane : Codec PlaneRows :=
  cList (cList (cMap (fun n => { a := n / 2 ^ 30, c := (bits n 29 20, bits n 19 10, bits n 9 0) })
    (fun x => x.a * 2 ^ 30 + x.c.1 * 2 ^ 20 + x.c.2.1 * 2 ^ 10 + x.c.2.2) cNat))
/-- What a head shows beside its layers. -/
def cHead (up : Rat) : Codec HeadSt :=
  cMap
    (fun (a, b, c, d, e, f, g) => { plane := a, spare := b, cursor := c, image := d, cursorQ := e, imageQ := f, holds := g })
    (fun x => (x.plane, x.spare, x.cursor, x.image, x.cursorQ, x.imageQ, x.holds))
    (cPair cPlane (cPair (cOpt (cPair cPlane (cOpt (cAgo up)))) (cPair cNat (cPair cBytes (cPair (cList (cPair (cAgo up) cNat))
      (cPair (cList (cPair (cAgo up) cBytes)) (cList (cPair cNat (cPair cInt cRat)))))))))

def cTx : Codec TxSt :=
  cMap (fun (a, b, c, d, e, f) => { seq := a, frame := b, next := c, count := d, held := e, desc := f })
    (fun x => (x.seq, x.frame, x.next, x.count, x.held, x.desc))
    (cPair cNat (cPair (cOpt cInt) (cPair cNat (cPair cNat (cPair (cOpt cNat) cNat)))))

def cTable {α : Type} (c : Codec α) : Codec (SMap α) := cList (cPair cNat c)

/-! The memories, from code 0x30 on. -/

/-- The contents of memory `m` at the active. -/
def State.memoryOut (s : State) (m : Nat) : List Nat :=
  match m with
  | 0x30 => (cTable cBytes).1 s.blobs
  | 0x31 => (cTable cBank).1 s.banks
  | 0x32 => (cPair cNat (cList cEvent)).1 (s.order, s.events)
  | 0x33 => (cList cMove).1 s.moves
  | 0x34 => (cTable (cSpool s.up)).1 s.spools
  | 0x35 => (cTable cSprite).1 s.gfx.sprites
  | 0x36 => (cTable (cHead s.up)).1 s.heads
  | 0x37 => (cTable cTx).1 s.tx
  | 0x38 => cPairs.1 ((s.ins.filter fun e => s.synced e.1).map fun e => (e.1, e.2.nextCount))
  | 0x39 => (cPair (cTable (cBridge s.up)) (cTable cNats)).1 (s.bridges, s.bridgeIn)
  | 0x3A => (cTable (cPair cElastic (cPair cElastic cNat))).1 (s.audioPorts.map fun e => (e.1, e.2.input, e.2.output, e.2.blockOut))
  | 0x3B => (cPair (cTable (cAout s.up)) (cTable (cGain s.up))).1 (s.aout, s.sideGains)
  | 0x3C => (cPair (cTable cAin) cNats).1 (s.ain, s.silent)
  | 0x3D => (cMix s.up).1 s.mix
  | 0x3E => (cPair (cTable (cAgo s.up)) (cList cIssued)).1 (s.tether.bankFree, s.tether.issued)
  | _ => []

def memoryCodes : List Nat := (List.range 15).map (0x30 + ·)

/-- A joining member counts the frames of a window as the active does (R275): its own frames keep their places. -/
def recount (s : State) (e : Nat × Nat) : State :=
  let x := s.in_ e.1
  let shift (n : Nat) : Nat := ((n : Int) + e.2 - x.nextCount).toNat
  s.setIn e.1 { x with
    nextCount := e.2, reading := x.reading.map shift, before := x.before.map shift
    win := x.win.map fun f => { f with count := shift f.count }
    evicted := x.evicted.map fun f => { f with count := shift f.count } }

/-- Memory `m` taken whole at the joining standby. -/
def State.memoryIn (s : State) (m : Nat) (l : List Nat) : State :=
  match m with
  | 0x30 => { s with blobs := ((cTable cBytes).2 l).1 }
  | 0x31 => { s with banks := ((cTable cBank).2 l).1 }
  | 0x32 =>
    let r := ((cPair cNat (cList cEvent)).2 l).1
    { s with order := r.1, events := r.2 }
  | 0x33 => { s with moves := ((cList cMove).2 l).1 }
  | 0x34 => { s with spools := ((cTable (cSpool s.up)).2 l).1 }
  | 0x35 => { s with gfx := { s.gfx with sprites := ((cTable cSprite).2 l).1 } }
  | 0x36 => ((cTable (cHead s.up)).2 l).1.foldl (fun s e =>
      let x := mapGet headD s.heads e.1
      let y := e.2
      { s with heads := mapSet headD s.heads e.1 { x with
        plane := y.plane, spare := y.spare, cursor := y.cursor, image := y.image, cursorQ := y.cursorQ, imageQ := y.imageQ
        holds := y.holds } }) s
  | 0x37 => { s with tx := ((cTable cTx).2 l).1 }
  | 0x38 => (cPairs.2 l).1.foldl recount s
  | 0x39 =>
    let r := ((cPair (cTable (cBridge s.up)) (cTable cNats)).2 l).1
    { s with bridges := r.1, bridgeIn := r.2 }
  | 0x3A => ((cTable (cPair cElastic (cPair cElastic cNat))).2 l).1.foldl (fun s e =>
      s.setAudioPort e.1 { s.audioPort e.1 with input := e.2.1, output := e.2.2.1, blockOut := e.2.2.2 }) s
  | 0x3B =>
    let r := ((cPair (cTable (cAout s.up)) (cTable (cGain s.up))).2 l).1
    { s with aout := r.1, sideGains := r.2 }
  | 0x3C =>
    let r := ((cPair (cTable cAin) cNats).2 l).1
    r.1.foldl (fun s e =>
      let y := e.2
      s.setAin e.1 { s.ainSlot e.1 with
        fade := y.fade, offset := y.offset, high := y.high, delay := y.delay, was := y.was, at_ := y.at_ }) { s with silent := r.2 }
  | 0x3D => { s with mix := ((cMix s.up).2 l).1 }
  | 0x3E =>
    let r := ((cPair (cTable (cAgo s.up)) (cList cIssued)).2 l).1
    { s with tether := { s.tether with bankFree := r.1, issued := r.2 } }
  | _ => s

end Sys2Proof.Machine
end

