-- ==== Sys2Proof/Machine/Pair.lean ====
section
/-! DEFINITION. Mirrored pairs (R414-R446): the claim and the ripcord, heartbeats, joining, comparison, takeover, handover,
drills, and the elements 0x9000-0x9040. -/

namespace Sys2Proof.Machine

/-! State words (R420, R444). -/

/-- ROLE (R444). -/
def State.role (s : State) : Nat :=
  if !s.paired then 0
  else match s.mode with
    | .active => 4
    | .standby => if s.pair.inStep then 3 else if s.pair.role = 5 then 5 else 2
    | _ => 1

/-- 0x9010:0000 (R444). -/
def State.pairWord (s : State) : Word :=
  s.role * 2 ^ 29 + ofBool s.pair.partnerHere * 2 ^ 28 + ofBool s.pair.inStep * 2 ^ 27 + ofBool s.pair.suspect * 2 ^ 26 +
    ofBool s.pair.incompatible * 2 ^ 25 + ofBool s.pair.claimOut * 2 ^ 24 + ofBool s.pair.claimIn * 2 ^ 23 +
    ofBool s.pair.ripOut * 2 ^ 22 + ofBool s.pair.ripIn * 2 ^ 21 + ofBool s.boot.sideB * 2 ^ 20 +
    s.pair.lastChange * 2 ^ 16 + s.pair.sessionVersion * 2 ^ 8

/-- 0x9010:0001 and 0x9010:0008 (R444). -/
def State.partnerBytes (s : State) : List Byte := toBytes 16 (s.pair.partner / 2 ^ 128)
def State.lastClaimBytes (s : State) : List Byte := toBytes 16 (s.pair.lastChangeTp * 2 ^ 64 + s.pair.lastChange * 2 ^ 56)

/-- Fields of the partner's last HEARTBEAT (R420). -/
def PairSt.partnerRole (p : PairSt) : Nat := bits p.partner 247 245
def PairSt.partnerClaim (p : PairSt) : Bool := bit p.partner 244
def PairSt.partnerCur (p : PairSt) : Nat := bits p.partner 239 232
def PairSt.partnerMin (p : PairSt) : Nat := bits p.partner 231 224
def PairSt.partnerStream (p : PairSt) : Nat := bits p.partner 223 192
def PairSt.partnerResets (p : PairSt) : Nat := bits p.partner 191 176
def PairSt.partnerMode (p : PairSt) : Nat := bits p.partner 95 88

/-- The bridle protocol version a session with the partner runs (R430), none where the two are not compatible or both
strapped to one side (R520). -/
def State.sessionWith (s : State) : Option Nat :=
  let v := min Config.bridleProtoCur.toNat s.pair.partnerCur
  if max Config.bridleProtoMin.toNat s.pair.partnerMin ≤ v ∧ bit s.pair.partner 243 ≠ s.boot.sideB then some v else none

/-- A change of the pair's state, logged (R446). -/
def pairChange (s : State) (f : PairSt → PairSt) : State :=
  let t : State := { s with pair := f s.pair }
  if s.running then logEvent t 0x9010 0 (logValue 4 s.pairWord) (logValue 4 t.pairWord) else t

/-- A claim change by cause `last` (R444, R445): causes up to 0x7 are changeovers. -/
def claimChange (s : State) (last : Nat) (f : PairSt → PairSt) : State :=
  let t := if last ≤ 7 then s.count 0x9010 2 else s
  let t := pairChange t fun p => { f p with lastChange := last, lastChangeTp := s.pos 0 }
  if t.pair.claimOut && !s.pair.claimOut then claimArps t else t

/-! Records on the bridle (R419). -/

/-- A record of 256 bits that arrives: a reserved type is discarded and counted. -/
def onRecord (w : Word) (s : State) (f : State → State) : Host.Outcome State Fault Refusal :=
  onBridle s fun s => if s.paired && decide (0x0B ≤ bits w 255 248) then s.count 0x9010 7 else f s

/-! Joining (R430, R431, R520, R521). -/

/-- A partner that is not compatible (R430): neither joins, with an ALARM. -/
def notCompatible (s : State) : State :=
  declareFault { s with pair := { s.pair with incompatible := true } } 0x104 s.pair.partnerCur true

/-- Whether the member may ask to join now (R430, R515, R521). -/
def State.mayAsk (s : State) : Bool :=
  s.paired && !s.pair.claimOut && !s.pair.ripIn &&
    (s.mode == .solo || (s.mode == .standby && s.role == 5) || (s.mode == .boot && s.boot.phase == .bridleWait))

/-- Whether the partner, by its last HEARTBEAT, can be joined (R430). -/
def State.joinable (s : State) : Bool :=
  s.pair.partnerHere && s.pair.partnerClaim && (s.pair.partnerMode == 3 || s.pair.partnerMode == 4)

/-- A join REQUEST sent, or refused here for what the partner's HEARTBEAT shows (R430). -/
def askJoin (s : State) : State :=
  if !s.mayAsk then s
  else
    let s := { s with pair := { s.pair with joinAsked := some s.up } }
    if !s.pair.partnerHere then s
    else if s.sessionWith = none then notCompatible s
    else if s.joinable then s.emit (.bridle (0x0A * 2 ^ 248 + 0x01 * 2 ^ 240) []) else s

/-- The joining member's start of the join (R430, R512): STANDBY, not in step. -/
def beginJoin (s : State) : State :=
  let s := { s with boot := { s.boot with phase := if s.mode = .boot then .ended else s.boot.phase } }
  let s := setMode s .standby
  pairChange s fun p => { p with role := 2, joinPhase := 1, inStep := false, joinAsked := none,
                                 sessionVersion := s.sessionWith.getD 0, streamed := [], decisions := [], copied := [], copiedAt := none }

/-- BOOT ends in SOLO (R521). -/
def enterSolo (s : State) : State := setMode { s with boot := { s.boot with phase := .ended } } .solo

/-- A claim holder takes a join REQUEST (R430): ACTIVE from the start of the join; otherwise the request is refused. -/
def acceptJoin (s : State) : State :=
  if !s.paired || !s.pair.claimOut || s.pair.ripOut || !(s.mode == .solo || s.mode == .active) || !s.pair.partnerHere then s
  else match s.sessionWith with
    | none => notCompatible s
    | some v =>
      let s := setMode s .active
      pairChange s fun p => { p with joinPhase := 1, inStep := false, sessionVersion := v, partnerSuspect := false }

def execJoinRequestReceived (s : State) : Host.Outcome State Fault Refusal := onBridle s acceptJoin

/-- A standby leaves step (R428): an ALARM, and with AUTO_JOIN it joins again at once. -/
def outOfStep (s : State) : State :=
  if s.mode = .standby ∧ s.role ≠ 5 then
    let s := pairChange s fun p => { p with role := 5, inStep := false, joinPhase := 0 }
    let s := declareFault s 0x103 s.pair.streamApplied true
    if s.flag 0x9000 0 30 then askJoin s else s
  else s

/-- A refused request is retried every second while AUTO_JOIN = 1 (R430). -/
def joinAgain (s : State) : State :=
  match s.pair.joinAsked with
  | some t => if s.flag 0x9000 0 30 = true ∧ t + 1000000000 ≤ s.up then askJoin s else s
  | none => s

def execJoinRetry (s : State) : Host.Outcome State Fault Refusal := actRunning s joinAgain

/-- A streamed request keeps the number of the port it came by above its source address, so that a new active can answer it. -/
def viaStream (rq : Rq) : Rq := { rq with port := .stream, src := rq.src % 2 ^ 48 + portNum rq.port * 2 ^ 48 }
/-- A STATE record's words (R419): memory, offset, 24 bytes of content. -/
def stateRecord (memory offset content : Nat) : Word :=
  0x09 * 2 ^ 248 + memory % 2 ^ 8 * 2 ^ 240 + offset % 2 ^ 32 * 2 ^ 208 + content % 2 ^ 192 * 2 ^ 16

/-- The STATE records of a table of elements: three parts of 24 bytes each, the offset being index and sub-index. -/
def stateRecords (memory : Nat) (m : SMap Word) : List Word :=
  m.flatMap fun (e : Nat × Word) => (List.range 3).map fun i => stateRecord (memory + i) e.1 (e.2 / 2 ^ (192 * i))

/-- The STATE records of a memory of contents: how many there are, then each. -/
def memoryRecords (m : Nat) (l : List Nat) : List Word := ((l.length :: l).zipIdx).map fun x => stateRecord m x.2 x.1

/-- The cut point (R431): the active sends the snapshot; the standby that has locked to BRIDLE counts CHANGE records from it.
The model's STATE memories are 0x00 the active sets and plain elements, 0x10 the shadow sets, 0x20 what is on air, and those
of `State.memoryOut`. -/
def snapshot (s : State) : State :=
  if s.pair.joinPhase ≠ 1 then s
  else if s.mode = .active ∧ s.pair.partnerRole = 2 then
    let s := { s with pair := { s.pair with joinPhase := 2 } }
    (stateRecords 0x00 s.dict ++ stateRecords 0x10 s.shadow ++ stateRecords 0x20 s.onAir ++
        memoryCodes.flatMap fun m => memoryRecords m (s.memoryOut m)).foldl
      (fun s r => s.emit (.bridle r [])) s
  else if s.mode = .standby ∧ s.ref.tb = 2 ∧ s.ref.selected = some 8 then
    { s with pair := { s.pair with joinPhase := 2, streamApplied := s.pair.partnerStream, copied := [], copiedAt := none } }
  else s

def execJoinSnapshot (s : State) : Host.Outcome State Fault Refusal := actRunning s snapshot

/-- A word with its part `i` of 192 bits replaced. -/
def setPart (w : Word) (i x : Nat) : Word := setBits w (192 * i + 191) (192 * i) x

/-- A content of a memory beside the sets: it joins what came before it in order, and the last one makes the memory the
active's. One out of its order is the failed cross-check of R428 (a DESIGN CHOICE: the spec gives the check no form). -/
def takeContent (s : State) (m k x : Nat) : State :=
  let got := s.pair.copied.filter (·.1 == m)
  if got.length ≠ k then outOfStep s
  else
    let got := got ++ [(m, k, x)]
    let rest := s.pair.copied.filter (·.1 != m)
    let size := ((got.head?).map fun e => e.2.2).getD 0
    if k < size then { s with pair := { s.pair with copied := rest ++ got } }
    else
      let t := ({ s with pair := { s.pair with copied := rest } } : State).memoryIn m ((got.drop 1).map fun e => e.2.2)
      let t := if m = 0x3E then { t with pair := { t.pair with copiedAt := some s.up } } else t
      if m = 0x32 then
        { t with events := t.events.map fun e => { e with rq := e.rq.map fun r => if r.port = .stream then r else viaStream r } }
      else t

/-- A STATE record at the joining standby (R431, R432): the element takes the content, other memories once they are whole. -/
def applyState (s : State) (w : Word) : State :=
  if s.mode ≠ .standby ∨ s.pair.inStep = true ∨ s.pair.joinPhase ≠ 2 ∨ bits w 255 248 ≠ 9 then s
  else
    let m := bits w 247 240
    let k := bits w 239 208
    let x := bits w 207 16
    let part := m % 16
    let own := match dictRow (k / 65536) (k % 65536) with
      | some r => r.profile == .m || r.kind == .ro
      | none => true
    if part < 3 ∧ own = false then
      match m / 16 with
      | 0 => { s with dict := mapSet keyReset s.dict k (setPart (mapGet keyReset s.dict k) part x) }
      | 1 => { s with shadow := mapSet keyReset s.shadow k (setPart (mapGet keyReset s.shadow k) part x) }
      | 2 => { s with onAir := mapSet keyReset s.onAir k (setPart (mapGet keyReset s.onAir k) part x) }
      | _ => takeContent s m k x
    else if m / 16 < 3 then s
    else takeContent s m k x

def execStateRecordApply (w : Word) (s : State) : Host.Outcome State Fault Refusal := onRecord w s fun s => applyState s w

/-- The mix engine's memories and filter states as STATE records (R432): while the partner joins, the active sends them with every
period it computes, and the standby uses them in place of its own. -/
def trackMix (s : State) : State :=
  if s.mode = .active ∧ s.pair.joinPhase = 2 then
    ([0x3C, 0x3D].flatMap fun m => memoryRecords m (s.memoryOut m)).foldl (fun s r => s.emit (.bridle r [])) s
  else s

def execAudioPeriod (frames : List (Nat × List (List Nat))) (s : State) : Host.Outcome State Fault Refusal :=
  actRunning s fun s => trackMix (audioPeriod s frames)

/-- How long the standby's own intake takes to fill what the snapshot does not hold (R431): FS_FRAMES + 2 frames of every
synchroniser window, MAX_MS of every delay group. -/
def State.longestFill (s : State) : Rat :=
  let windows := (s.elems 0x4200).filterMap fun e =>
    if s.synced e.1 then some (((bits e.2 28 24 + 2 : Nat) : Rat) * (s.srcFmt e.1).period) else none
  let groups := (s.elems 0x5520).filterMap fun e =>
    if e.1 < 0x100 ∧ bit e.2 31 = true then some (((bits e.2 29 18 : Nat) : Rat) * 1000000) else none
  maxRat (0 :: (windows ++ groups))

/-- The join ends (R431): IN_STEP at both members, once what the snapshot does not hold has filled. -/
def joinDone (s : State) : State :=
  if s.pair.joinPhase ≠ 2 ∨ s.pair.partnerHere = false then s
  else if s.mode = .standby then
    if !s.pair.copiedAt.any fun t => decide (t + s.longestFill ≤ s.up) then s
    else clearActive (pairChange s fun p => { p with inStep := true, role := 3, joinPhase := 0, compares := [], inputDiffs := [] }) 0x103
  else if s.mode = .active ∧ s.pair.partnerRole = 3 then
    clearActive (pairChange s fun p => { p with inStep := true, joinPhase := 0 }) 0x100
  else s

def execJoinInStep (s : State) : Host.Outcome State Fault Refusal := actRunning s joinDone

/-! Heartbeats (R418, R420). -/

/-- A HEARTBEAT that arrives: the ripcord of a partner that was reset goes (R418); the active follows IN_STEP; a member
that asked to join sees its acceptance; AUTO_JOIN asks (R430); BOOT that waits for a partner decides (R521). -/
def heartbeat (s : State) (w : Word) : State :=
  if !s.paired || !s.bridleUp || bits w 255 248 != 1 then s
  else
    let s := { s with pair := { s.pair with partner := w, partnerHere := true, partnerAt := some s.up } }
    let s := if s.pair.ripOut = true ∧ s.pair.partnerResets ≠ s.pair.quenchResets then
        pairChange s fun p => { p with ripOut := false, partnerSuspect := false }
      else s
    let sameSide := bit w 243 == s.boot.sideB
    let s := if sameSide && !s.pair.incompatible then notCompatible s
      else if s.pair.incompatible && s.sessionWith.isSome then
        clearActive { s with pair := { s.pair with incompatible := false } } 0x104
      else s
    let s := if s.mode = .active then
        (if s.pair.inStep = true ∧ s.pair.partnerRole ≠ 3 then pairChange s fun p => { p with inStep := false } else joinDone s)
      else s
    let accepted := s.pair.joinAsked.isSome && s.mayAsk && s.pair.partnerClaim && s.pair.partnerMode == 4
    if accepted then beginJoin s
    else if s.mode = .boot ∧ s.boot.phase = .bridleWait then
      (if s.pair.joinAsked.isSome then s
       else if s.joinable && s.sessionWith.isSome && s.flag 0x9000 0 30 then askJoin s
       else enterSolo s)
    else if s.flag 0x9000 0 30 && s.mayAsk && s.joinable && s.pair.joinAsked.isNone then askJoin s
    else s

def execHeartbeatReceived (w : Word) (s : State) : Host.Outcome State Fault Refusal := onRecord w s fun s => heartbeat s w

/-! The claim and the ripcord (R416-R418, R438-R441). -/

/-- CLAIM_IN rises (R416): a holder lowers CLAIM_OUT. For an active member that is a handover, which completes at the first
whole microsecond at least 2 µs later (R441). -/
def claimRises (s : State) : State :=
  let s := { s with pair := { s.pair with claimIn := true, claimInLowAt := none } }
  if !s.pair.claimOut then s
  else if s.mode = .active ∧ s.pair.handover = none then
    let cause := if s.pair.changeoverAsked then 7 else 6
    let at_ : Rat := (((s.now + 2000) / 1000).ceil * 1000 : Int)
    claimChange s cause fun p => { p with claimOut := false, handover := some (at_, cause), changeoverAsked := false }
  else if s.pair.handover.isSome then { s with pair := { s.pair with claimOut := false, handover := none } }
  else pairChange s fun p => { p with claimOut := false }

/-- The pins act in every mode (R416, R417). -/
def execClaimInRise (s : State) : Host.Outcome State Fault Refusal := act s claimRises

/-- Both CLAIM_OUT pins high for 0.1 µs (R416): side B lowers its own. -/
def claimClash (s : State) : State :=
  if s.pair.claimOut then
    let s := { s with pair := { s.pair with claimIn := true, claimInLowAt := none } }
    if s.boot.sideB then pairChange s fun p => { p with claimOut := false, handover := none } else s
  else s

def execClaimConflict (s : State) : Host.Outcome State Fault Refusal := act s claimClash

/-- RIP_IN_N falls (R417, R439): the member is quenched. A former active becomes STANDBY, SUSPECT and out of step; a side-B
member releases its own ripcord. -/
def quenched (s : State) : State :=
  if s.pair.ripIn then s
  else
    let wasActive := s.mode == .active && s.running
    let s := pairChange s fun p => { p with ripIn := true, claimOut := false, handover := none
                                            ripOut := p.ripOut && !s.boot.sideB }
    if wasActive then
      let s := setMode s .standby
      declareFault (pairChange s fun p => { p with suspect := true, inStep := false, role := 5, joinPhase := 0, joinAsked := none })
        0x103 s.pair.streamSent true
    else s

def execQuench (s : State) : Host.Outcome State Fault Refusal := act s quenched

/-- RIP_IN_N rises (R418, R439): the gating ends, and a quenched member is no longer SUSPECT. -/
def unquenched (s : State) : State :=
  if s.pair.ripIn then pairChange s fun p => { p with ripIn := false, suspect := p.suspect && s.mode != .standby } else s

def execQuenchRelease (s : State) : Host.Outcome State Fault Refusal := act s unquenched

/-- A CHANGEOVER record to every up port but one (R411). -/
def floodChangeover (s : State) (except : Option Nat) : State :=
  (s.upPorts.filter fun q => some q != except).foldl (fun s q => s.emit (.tether q (controlBlock 9 0) [])) s

/-- The request of a streamed one as it came to the active. -/
def fromStream (rq : Rq) : Rq :=
  if rq.port = .stream then
    { rq with
      port := (match rq.src / 2 ^ 48 with
        | 0 => .card
        | 1 => .dumusA
        | 2 => .dumusB
        | _ => .tunnel)
      src := rq.src % 2 ^ 48 }
  else rq

/-- Work that the stream had begun is finished by the new active, which sends the NOTIFYs (R439). -/
def adoptWork (s : State) : State :=
  { s with req := { s.req with
    waiting := s.req.waiting.map fun w => { w with rq := fromStream w.rq }
    transfers := s.req.transfers.map fun t => { t with rq := fromStream t.rq } } }

/-- A new holder of the claim selects again (R70, R86): it transfers to the active's last mirrored selection where that is
qualified here, otherwise it selects by R71. -/
def reselect (s : State) : State :=
  let s := judgePresence s
  match s.pair.decisions.reverse.find? fun w => bits w 247 240 == 1 with
  | some w =>
    let c := bits w 239 224
    if (s.cand c).qualified && !s.allStopped then
      (if s.ref.selected = some c then s else startTransfer s c)
    else selectorEvaluate s
  | none => selectorEvaluate s

/-- The takeover itself (R417, R438, R439, R411): the ripcord pulled, the claim raised, ACTIVE, the timebase transferred. -/
def takeOver (s : State) (trigger : Nat) : State :=
  if s.mode ≠ .standby ∨ s.pair.ripIn = true ∨ s.pair.claimOut = true then s
  else
    let s := claimChange s trigger fun p =>
      { p with ripOut := true, claimOut := true, quenchResets := p.partnerResets, inStep := false, joinPhase := 0
               role := 0, joinAsked := none, streamSent := p.streamApplied }
    let s := releaseHeld (reselect (adoptWork (setMode s .active)))
    if s.flag 0xA010 0 22 then floodChangeover s none else s

/-- A handover by a changeover record or request begins at the standby (R440, R441, R411). -/
def handOver (s : State) (cause : Nat) (except : Option Nat) : State :=
  if s.mode ≠ .standby ∨ s.pair.ripIn = true ∨ s.pair.claimOut = true then s
  else
    let at_ : Rat := (((s.now + 2000) / 1000).ceil * 1000 : Int)
    let s := claimChange s cause fun p => { p with claimOut := true, handover := some (at_, cause) }
    if s.flag 0xA010 0 22 then floodChangeover s except else s

/-- A CHANGEOVER record (R411): a standby claims, and its claim carries the record on; a member that neither stands by nor
holds the claim passes it on. -/
def changeoverReceived (s : State) (p : Nat) : State :=
  if !s.tUp p || !s.flag 0xA010 0 22 then s
  else if s.mode = .standby then handOver s 6 (some p)
  else if s.pair.claimOut then s else floodChangeover s (some p)

def execChangeoverRecordReceived (p : Nat) (s : State) : Host.Outcome State Fault Refusal :=
  onPort p s fun s => changeoverReceived s p

/-- A changeover REQUEST (R412): the partner's failed port must be UP here. -/
def execChangeoverRequestReceived (p : Nat) (s : State) : Host.Outcome State Fault Refusal :=
  onUnit p 8 s fun s => if s.paired && s.portHears 8 && s.tUp p then handOver s 7 none else s

/-- A tether port leaves UP (R388, R403); an active member asks for a changeover if reservations crossed it (R412). -/
def tetherDown (s : State) (p : Nat) : State :=
  let ask := s.portLost p && s.portUsed p && s.mode == .active && s.pair.partnerHere
  let s := tetherPortDown s p
  if ask then
    ({ s with pair := { s.pair with changeoverAsked := true } } : State).emit
      (.bridle (0x0A * 2 ^ 248 + 0x02 * 2 ^ 240 + p * 2 ^ 232) [])
  else s

def execTetherPortDown (p : Nat) (s : State) : Host.Outcome State Fault Refusal := onUnit p 8 s fun s => tetherDown s p

/-- A SOLO member claims once CLAIM_IN has been low for 1 µs (R445). -/
def soloClaims (s : State) : State :=
  let quiet := match s.pair.claimInLowAt with
    | some t => decide (t + 1000 ≤ s.up)
    | none => decide (1000 ≤ s.up)
  if s.mode = .solo ∧ s.paired = true ∧ s.pair.claimOut = false ∧ s.pair.claimIn = false ∧ s.pair.ripIn = false ∧ quiet = true then
    judgePlaced (claimChange s 8 fun p => { p with claimOut := true, joinAsked := none })
  else s

def execSoloClaim (s : State) : Host.Outcome State Fault Refusal := actRunning s soloClaims

/-- The roles swap at a TP that both members know (R440, R441): the new active goes on from the stream's last number. -/
def becomeActive (s : State) : State :=
  releaseHeld (reselect (adoptWork (setMode { s with pair := { s.pair with
    handover := none, role := 0, joinPhase := 0, joinAsked := none, streamSent := s.pair.streamApplied } } .active)))

def becomeStandby (s : State) : State :=
  setMode { s with
    pair := { s.pair with role := 3, joinPhase := 0, joinAsked := none, streamApplied := s.pair.streamSent, streamed := [] }
    req := { s.req with bufA := [], bufB := [] } } .standby

/-- A DRILL entry at its TP (R442): the handover of R440 where both members are in step and neither is FAULTED. -/
def fireDrill (s : State) (e : Event) : State :=
  let ready := s.paired && s.pair.inStep && s.pair.partnerHere && !s.pair.ripIn && s.pair.partnerMode != 6
  let s := if ready && s.mode == .active then
      becomeStandby (claimChange s 5 fun p =>
        { p with handover := some (s.now, 5), suspect := false, partnerSuspect := false, drillResult := 1 })
    else if ready && s.mode == .standby then
      becomeActive (claimChange s 5 fun p => { p with claimOut := true, suspect := false, partnerSuspect := false, drillResult := 1 })
    else { s with pair := { s.pair with drillResult := 2 } }
  purgeEvents (markFired s e.order s.now [])

/-! Comparison (R434-R437). -/

def digUnit (w : Word) : Nat := bits w 79 76
def digNumber (w : Word) : Nat := bits w 73 62

/-- The inputs a source comes from, through heads that read heads (R436). -/
def State.inputsOf (s : State) : Nat → Nat → List Nat
  | 0, _ => []
  | fuel + 1, n =>
    if isHead n then
      (s.liveLayers.filter fun i => i / 64 == n - 2048).flatMap fun i =>
        let w := s.airElem (0x8100 + i) 0
        if bit w 31 then s.inputsOf fuel (bits w 11 0) else []
    else if isInput n then [n] else []

/-- The AIN periods, as a member of a dependency set. -/
abbrev ainUnit : Nat := 0x10000

/-- The dependency set of an output flow (R436). -/
def State.flowDeps (s : State) (j : Nat) : List Nat :=
  s.inputsOf 17 (s.airElem 0x5000 j) ++ (if embedGroups (s.elem 0x6000 (0x800 + j)) = 0 then [] else [ainUnit])

/-- What a compare unit belongs to, and its dependency set (R436): flow j at j, head h at 0x1000 + h, the AOUT space at
0x2000. -/
def State.compared (s : State) (w : Word) : Nat × List Nat :=
  let n := digNumber w
  match digUnit w with
  | 0 => (n, s.flowDeps n)
  | 1 =>
    let e := s.txEntry n
    if isAudioKind (entryKind e) then (0x2000, [ainUnit]) else (entryTarget e, s.flowDeps (entryTarget e))
  | 2 => (0x1000 + n, s.inputsOf 17 (2048 + n))
  | _ => (0x2000, [ainUnit])

/-- Whether an instant lies within the evidence window (R435). -/
def State.withinWindow (s : State) (t : Option Rat) : Bool :=
  match t with
  | some t => decide (s.up ≤ t + (s.field 0x9020 0 21 16 : Nat) * 1000000000)
  | none => false

/-- A classified mismatch's ALARM, at most once a second per output (R436). -/
def raiseMismatch (s : State) (key n : Nat) (detail : Word) : State :=
  let c := mapGet compareD s.pair.compares key
  if (match c.lastRaised with
      | some t => decide (t + 1000000000 ≤ s.up)
      | none => true) then
    declareFault { s with pair := { s.pair with compares := mapSet compareD s.pair.compares key { c with lastRaised := some s.up } } }
      n detail
  else s

/-- What a mismatch does (R435, R436), before a takeover: the state, and whether the standby takes over. -/
def classify (s : State) (key : Nat) (deps : List Nat) : State × Bool :=
  let s := s.count 0x9010 3
  if !s.flag 0x9020 0 31 then (s, false)
  else if deps.any fun d => s.withinWindow ((s.pair.inputDiffs.find? fun e => e.1 == d).map Prod.snd) then
    (raiseMismatch (s.count 0x9010 4) key 0x101 key, false)
  else
    let own := s.withinWindow s.pair.ownFault
    let theirs := s.withinWindow s.pair.partnerFault
    let suspect (s : State) : State := raiseMismatch (pairChange s fun p => { p with suspect := true }) key 0x102 key
    if theirs && !own then (s, true)
    else if own && !theirs then (suspect s, false)
    else if s.flag 0x9020 0 30 then (s, !s.pair.suspect)
    else (suspect s, false)

/-- Two digests of one compare unit (R434, R436): whether a takeover follows. -/
def compareDigests (s : State) (a b : Word) : State × Bool :=
  if s.mode ≠ .standby ∨ s.pair.inStep = false ∨ a / 2 ^ 40 ≠ b / 2 ^ 40 then (s, false)
  else
    let differ := bits a 31 0 != bits b 31 0
    let u := digUnit a
    if 8 ≤ u then
      (if differ && decide (u ≤ 10) then
        { s with pair := { s.pair with
          inputDiffs := mapPut s.pair.inputDiffs (if u = 10 then ainUnit else digNumber a) s.up } }
       else s, false)
    else if 4 ≤ u then (s, false)
    else
      let k := s.compared a
      let c := mapGet compareD s.pair.compares k.1
      let run := if differ then c.run + 1 else 0
      let full := decide (s.field 0x9020 0 29 22 ≤ run) && differ
      let s := { s with pair := { s.pair with
        compares := mapSet compareD s.pair.compares k.1 { c with run := if full then 0 else run } } }
      if full then classify s k.1 k.2 else (s, false)

/-- A FAULT record (R419, R436): evidence, if the partner logged a fault, and its SUSPECT. -/
def partnerFaulted (s : State) (w : Word) : State :=
  if !s.paired || bits w 255 248 != 8 then s
  else
    let counts := bits w 238 237 != 0 || s.flag 0xB000 (bits w 247 239) 28
    { s with pair := { s.pair with
      partnerFault := if counts then some s.up else s.pair.partnerFault
      partnerSuspect := s.pair.partnerSuspect || bits w 247 239 == 0x102
      partnerFaults := (w :: s.pair.partnerFaults).take 64 } }

def execFaultRecordReceived (w : Word) (s : State) : Host.Outcome State Fault Refusal :=
  onRecord w s fun s => partnerFaulted s w

/-! The timeline on the bridle (R419, R422). -/

def execBridleTimelineSend (s : State) : Host.Outcome State Fault Refusal :=
  actRunning s fun s =>
    if s.paired && s.holds then s.emit (.bridle (2 * 2 ^ 248 + setBits s.timelineBody 131 120 0) []) else s

/-- A bridle TIMELINE record (R422): BRIDLE's phase measurement at a member without the claim. -/
def bridleTimeline (s : State) (w : Word) : State :=
  if !s.paired || s.holds || !s.bridleUp || bits w 255 248 != 2 then s
  else
    let sent : Rat := (toSigned 64 (bits w 239 176) : Int) + (bits w 175 144 : Nat) / (4294967296 : Rat)
    let off := sent + ((s.tport 8).flight.getD 0 : Int) / (1000 : Rat) - s.now
    let s := s |> noteClock fun s => { s with ref := { s.ref with
      srcOffset := mapPut s.ref.srcOffset 8 off, srcAt := mapPut s.ref.srcAt 8 s.up
      srcPtp := if s.ref.selected = some 8 then bit w 117 else s.ref.srcPtp } }
    if s.ref.selected = some 8 then measure s off.floor (s.cand 8).freq s.now else s

def execBridleTimelineReceived (w : Word) (s : State) : Host.Outcome State Fault Refusal :=
  onRecord w s fun s => bridleTimeline s w

/-! The elements (R415, R433, R435, R442, R445). -/

/-- 0x9000:0000 (R415). -/
def pairHandler (s : State) (payload : List Byte) : Handler :=
  let v := ofBytes payload
  let lanesOk := (List.range 4).all fun i =>
    s.protocol (188 + i) == protoBridle && laneRxEn (s.laneMode (188 + i)) && laneTxEn (s.laneMode (188 + i))
  let h := plainHandler s 0x9000 0 payload
    { mode := s.paired && !bit v 31 && s.mode != .service && s.mode != .solo
      admission := bit v 31 && !s.paired && !lanesOk }
  { h with
    struct := true
    commit := fun s =>
      let s := s.commit 0x9000 0 v
      judgePlaced (if bit v 31 then s
        else { s with pair := { s.pair with
          claimOut := false, partnerHere := false, inStep := false, joinAsked := none, handover := none } }) }

/-- 0x9000:0001 (R415, R418, R446, R515): commands to this member. -/
def pairCommand (s : State) (payload : List Byte) : Handler :=
  let v := ofBytes payload
  { checks := { range := bits v 31 3 != 0, mode := bit v 0 && s.mode == .service }
    commit := fun s =>
      let s := if bit v 1 && s.pair.ripOut then pairChange s fun p => { p with ripOut := false } else s
      let s := if bit v 2 && s.pair.suspect then pairChange s fun p => { p with suspect := false } else s
      if bit v 0 then askJoin s else s
    new := logBytes payload }

/-- 0x9030:0000 (R442): with CHANGEOVER = 1 the drill runs chain-wide (R412). -/
def drillHandler (s : State) (rq : Rq) (payload : List Byte) : Handler :=
  let v := ofBytes payload
  let tp := bits v 79 16
  let plane := bits v 15 8
  let force := bit v 0
  { checks := { range := s.scheduleRange plane tp || bits v 7 1 != 0, late := s.scheduleLate plane tp
                mode := s.mode != .active || !s.pair.inStep || (s.pair.partnerSuspect && !force)
                admission := s.queueFull }
    commit := fun s =>
      let at_ := s.scheduleTp plane tp
      let s := queueEvent s { tp := at_, plane := plane, kind := 4, force := force, rq := some rq }
      if s.flag 0xA010 0 22 then floodCascade s (.drill at_ plane force rq.origin rq.session rq.seq) none else s
    new := logBytes payload
    plane := plane % 4 }

/-- 0x9040:0000 (R433): the frame goes to the partner, whose reply a NOTIFY brings. -/
def relayHandler (s : State) (payload : List Byte) : Handler :=
  { checks := { mode := !s.paired || !s.pair.claimOut }
    commit := fun s => s.emit (.bridle (0x0A * 2 ^ 248 + 0x03 * 2 ^ 240) payload)
    pending := true
    new := logBytes payload }

/-- The elements 0x9000-0x9040. -/
def pairElement (s : State) (rq : Rq) (idx sub : Nat) (payload : List Byte) : Handler :=
  let v := ofBytes payload
  if idx = 0x9000 then
    (if sub = 0 then pairHandler s payload
     else if sub = 1 then pairCommand s payload
     else plainHandler s idx sub payload { range := decide (toSigned 32 v < -10000) || decide (10000 < toSigned 32 v) })
  else if idx = 0x9010 then zeroHandler s idx sub payload
  else if idx = 0x9020 then
    plainHandler s idx sub payload { range := bits v 29 22 == 0 || bits v 21 16 == 0 || decide (60 < bits v 21 16) }
  else if idx = 0x9030 then drillHandler s rq payload
  else relayHandler s payload

def execJoin (rq : Rq) (v : Word) (s : State) : Host.Outcome State Fault Refusal :=
  act s fun s => request s rq opWrite 0x9000 1 (valueBytes rq (setBit v 0 true)) (pairCommand s (valueBytes rq (setBit v 0 true)))
def execRelease (rq : Rq) (v : Word) (s : State) : Host.Outcome State Fault Refusal :=
  act s fun s => request s rq opWrite 0x9000 1 (valueBytes rq (setBit v 1 true)) (pairCommand s (valueBytes rq (setBit v 1 true)))
def execClearSuspect (rq : Rq) (v : Word) (s : State) : Host.Outcome State Fault Refusal :=
  act s fun s => request s rq opWrite 0x9000 1 (valueBytes rq (setBit v 2 true)) (pairCommand s (valueBytes rq (setBit v 2 true)))
def execPartnerRelay (rq : Rq) (frame : List Byte) (s : State) : Host.Outcome State Fault Refusal :=
  act s fun s => request s rq opWrite 0x9040 0 frame (relayHandler s frame)
def execDrill (rq : Rq) (arg : Word) (s : State) : Host.Outcome State Fault Refusal :=
  act s fun s => request s rq opWrite 0x9030 0 (valueBytes rq arg) (drillHandler s rq (valueBytes rq arg))

end Sys2Proof.Machine
end

