-- ==== Sys2Proof/Machine/WindowOps.lean ====
section
/-! DEFINITION. Capture and insert windows as the host drives them (R285, R286, R484-R486, R469). -/

namespace Sys2Proof.Machine

/-- 0x1300:0010 + w (R484). -/
def State.windowReport (s : State) (w : Nat) : Word := (s.window w).state * 2 ^ 29 + (s.window w).done % 2 ^ 29

def State.winBusy (s : State) (w : Nat) : Bool := (s.window w).state == 1 || (s.window w).state == 2

/-- 0x5530:w (R285): a window's contents go with its blocks. -/
def windowConfHandler (s : State) (w : Nat) (payload : List Byte) : Handler :=
  let v := ofBytes payload
  let c : Change :=
    { range := (bit v 31 && (bits v 16 0 == 0 || decide (65536 < bits v 16 0))) || (!bit v 30 && bit v 29)
      forbidden := s.winBusy w }
  { structuralHandler s 0x5530 w payload c with
    commit := fun s => notePool { s.commit 0x5530 w v with
      winBytes := if v = s.elem 0x5530 w then s.winBytes else mapErase s.winBytes w } }

/-- The first frame of a source that starts at or after an instant (R485). -/
def State.firstFrame (s : State) (n : Nat) (t : Rat) : Int :=
  let m := s.srcFrameAt n t
  if s.srcStart n m < t then m + 1 else m

/-- Whether a video insert does not fit its generator, or an insert's header its window (R286, R486). -/
def State.insertTypeFails (s : State) (w : Nat) (v : Word) : Bool :=
  let h := s.winHeader w
  let f := s.srcFmt (2064 + winTarget v)
  let b := lineBytes f.form f.samp
  let recordOk (i : Nat) : Bool :=
    let head := ofBytes (s.readWin w (recordAt (recordSize b) (formActive f.form) 0 i) 16)
    bits head 77 62 == b && bits head 90 78 == rasterOf f.form i
  bit h 60 != s.winAudio w || bit h 61 != s.flag 0x5530 w 29 ||
    (!s.winAudio w && (!s.flag 0x5400 (winTarget v) 31 || !(List.range (formActive f.form)).all recordOk)) ||
    decide (s.winSize w < s.insertBytes w v f) || crc32c (s.readWin w 0 (s.insertBytes w v f)) != winCrc v

/-- Whether an audio insert's port does not suit it (R486). -/
def State.insertPortFails (s : State) (v : Word) : Bool :=
  let p := winTarget v
  decide (16 ≤ p) || !s.portMaster p || !s.portIn p || s.portPer p != 1 || decide (s.portChannels p < winChannels v)

/-- A window command that starts something (R484-R486). -/
def startHandler (s : State) (w : Nat) (payload : List Byte) : Handler :=
  let v := ofBytes payload
  let audio := winChannels v != 0
  let plane := winPlane v
  let tp := s.scheduleTp plane (winStart v)
  let op : WindowOp := { state := 1, command := v, startTp := tp }
  let t := s.setWindow w op
  { checks :=
      { type := s.winSize w == 0 || s.winAudio w != audio || (winOp v == 2 && s.insertTypeFails w v)
        range := winOp v == 0 || decide (3 < winOp v) || bits v 142 128 != 0 || decide (4096 < winChannels v) ||
          s.scheduleRange plane (winStart v) ||
          (if winOp v = 1 then (if audio then winTarget v != 0 else decide (2080 ≤ winTarget v))
           else if audio then s.insertPortFails v else decide (16 ≤ winTarget v))
        late := s.scheduleLate plane (winStart v)
        headroom := s.winBusy w
        admission := t.winShareOver || !t.budgetCodes.isEmpty
        reason := lowest t.budgetCodes }
    commit := fun s => s.setWindow w { op with
      first := if winOp v = 1 ∧ audio = false then s.firstFrame (winTarget v) (s.tpTime plane tp) else 0 }
    pending := true
    new := logBytes payload
    plane := plane }

/-- 0x1300:w (R484): a stop ends the operation at the next frame or period boundary. Its reserved bits must be zero (R7), and a
START that it gives must be a position of its plane (R8). -/
def windowHandler (s : State) (w : Nat) (payload : List Byte) : Handler :=
  let v := ofBytes payload
  if winOp v = 3 then
    { checks := { range := bits v 142 128 != 0 || (winStart v != 0 && s.scheduleRange (winPlane v) (winStart v)) }
      commit := fun s => if s.winBusy w then s.setWindow w { s.window w with stopping := true } else s
      new := logBytes payload }
  else startHandler s w payload

def execWindowCapture (rq : Rq) (w : Nat) (v : Word) (s : State) : Host.Outcome State Fault Refusal :=
  act s fun s =>
    let b := valueBytes rq (setBits v 191 188 1)
    request s rq opWrite 0x1300 w b (windowHandler s w b)
def execWindowInsert (rq : Rq) (w : Nat) (v : Word) (s : State) : Host.Outcome State Fault Refusal :=
  act s fun s =>
    let b := valueBytes rq (setBits v 191 188 2)
    request s rq opWrite 0x1300 w b (windowHandler s w b)
def execWindowStop (rq : Rq) (w : Nat) (v : Word) (s : State) : Host.Outcome State Fault Refusal :=
  act s fun s =>
    let b := valueBytes rq (setBits v 191 188 3)
    request s rq opWrite 0x1300 w b (windowHandler s w b)

/-- A waiting operation reaches its START (R485, R486). -/
def windowStart (s : State) (w : Nat) : State :=
  let op := s.window w
  if op.state = 1 ∧ s.tpTime (winPlane op.command) op.startTp ≤ s.now then s.setWindow w { op with state := 2 } else s

def execWindowOperationStart (w : Nat) (s : State) : Host.Outcome State Fault Refusal := onUnit w 16 s fun s => windowStart s w

/-- Frames of a capture whose time has passed with nothing received are absent fill, as an output's would be (R485). -/
def captureElapsed : (fuel : Nat) → State → Nat → State
  | 0, s, _ => s
  | fuel + 1, s, w =>
    let op := s.window w
    let n := winTarget op.command
    let active := formActive (s.srcFmt n).form
    let m := match op.frame with
      | some m => if op.lines < active then m else m + 1
      | none => op.first
    if op.full ∨ s.now < s.srcStart n (m + 1) then s
    else captureElapsed fuel (fillLines (if op.frame = some m then s else nextFrame s w n m) w n active) w

/-- Whether a running operation has reached its end (R484-R486). -/
def State.windowOver (s : State) (w : Nat) : Bool :=
  let op := s.window w
  let v := op.command
  if winOp v = 2 then (s.insertNext w).isNone
  else
    let next :=
      if s.winAudio w then 16 + (op.done + 1) * winChannels v * s.winStep w
      else
        let f := s.srcFmt (winTarget v)
        let r := recordSize (lineBytes f.form f.samp)
        recordAt r (formActive f.form) op.done (formActive f.form - 1) + r
    op.full || op.stopping || (winCount v != 0 && decide (winCount v ≤ op.done)) || decide (s.winSize w < next)

/-- The header a capture leaves (R286). -/
def State.captureHeader (s : State) (w : Nat) : Word :=
  let op := s.window w
  let v := op.command
  let audio := s.winAudio w
  let n := winTarget v
  let plane := if audio then 0 else s.srcPlane n
  let start := if audio then s.posUp 0 (s.tpTime (winPlane v) op.startTp) else s.posUp plane (s.srcStart n op.first)
  start * 2 ^ 64 + plane * 2 ^ 62 + ofBool (s.flag 0x5530 w 29) * 2 ^ 61 + ofBool audio * 2 ^ 60 +
    (if audio then winChannels v else n) * 2 ^ 32 + op.done % 2 ^ 32

/-- An operation that reaches its count, the window's end or its stop finishes with a NOTIFY (R484-R486, R456). -/
def windowEnd (s : State) (w : Nat) : State :=
  if (s.window w).state ≠ 2 ∨ s.dmaStopped = true then s
  else
    let v := (s.window w).command
    let s := if winOp v = 1 && !s.winAudio w then captureElapsed 4096 s w else s
    if !s.windowOver w then s
    else
      let s := if winOp v = 1 then putWin s w 0 (toBytes 16 (s.captureHeader w)) else s
      finishWaiting (s.setWindow w { s.window w with state := if (s.window w).stopping then 4 else 3 }) 0x1300 w stOk []

/-- WINDOW_OPERATION_END (R485): a DMA channel that halts ends the operation with TYPE_MISMATCH (R549). -/
def execWindowOperationEnd (w : Nat) (halt : Option DmaHalt) (s : State) : Host.Outcome State Fault Refusal :=
  onUnit w 16 s fun s => match halt with
    | some h => if (s.window w).state = 2 then dmaHalts s h fun s => failWindow stType s w else s
    | none => windowEnd s w

/-! The card port's window commands (R469). -/

/-- A window transfer out of place is ignored and counted. -/
def windowRead (s : State) (w off n : Nat) : State :=
  let op := s.window w
  if 16 ≤ w ∨ s.winSize w < off + n ∨ (op.state = 2 ∧ winOp op.command = 1) then countPort s .card 3
  else s.emit (.card (s.readWin w off n))

def windowWrite (s : State) (w off : Nat) (data : List Byte) : State :=
  if 16 ≤ w ∨ s.winSize w < off + data.length ∨ (s.window w).state = 2 then countPort s .card 3
  else putWin s w off data

def execWindowRead (w off n : Nat) (s : State) : Host.Outcome State Fault Refusal := actRunning s fun s => windowRead s w off n
def execWindowWrite (w off : Nat) (data : List Byte) (s : State) : Host.Outcome State Fault Refusal :=
  actRunning s fun s => windowWrite s w off data

end Sys2Proof.Machine
end

