-- ==== Sys2Proof/Machine/Dumus.lean ====
section
/-! DEFINITION. The Dumus ports (R447-R450, R452-R454, R457, R460, R462-R468), session keys (R473), access masks (R471) and
the change log's own elements (R479, R480). -/

namespace Sys2Proof.Machine

/-! Frames (R451-R453, R464). -/

/-- Whether a NODE is this device's or a mapped one (R464, R405). -/
def State.nodeTaken (s : State) (node : Nat) : Bool :=
  decide (node ≠ 0xFF) && (node == s.elem 0x1000 0 || s.elem 0xA020 node != 0xFFFF)

/-- A field port's own MAC address (R463). -/
def dumusMac (p : Port) : Nat := Config.baseMac + (if p = .dumusB then 193 else 192)

/-- A request a standby hears on a field port (R427, R439): kept to be looked for in the stream. -/
def hear (s : State) (p : Port) (src : Nat) (frame : List Byte) : State :=
  let h := ofBytes (frame.take 16)
  if opChanges (hdrOpcode h) then
    { s with pair := { s.pair with heard := s.pair.heard ++
        [{ at_ := s.up, rq := headerRq p 0xFFF src frame, opcode := hdrOpcode h, index := hdrIndex h, sub := hdrSub h
           payload := framePayload frame }] } }
  else s

/-- A field-port frame (R462, R464): filtered, checked, buffered. A WAKE frame outside DORMANT is discarded and counted
(R466). -/
def dumusFrame (s : State) (p : Port) (dst etherType src : Nat) (tagged fcsOk : Bool) (frame : List Byte) : State :=
  let h := ofBytes (frame.take 16)
  let bad := frameBad frame true
  let frame := frame.take (24 + hdrLength h)
  if !s.portRuns p || tagged || !(dst == s.elem 0x1001 1 || dst == dumusMac p) || etherType != s.field 0x1001 0 15 0 then s
  else if !fcsOk then countPort s p 2
  else if hdrOpcode h = 8 ∧ hdrVersion h = 1 then countPort s p 0xC
  else if bad then countPort s p 3
  else if !s.nodeTaken (hdrNode h) then s
  else if s.mode = .standby then hear s p src frame
  else
    let buf := if p = .dumusA then s.req.bufA else s.req.bufB
    if 16384 < queueBytes buf + frame.length then countPort s p 1
    else if p = .dumusA then { s with req := { s.req with bufA := s.req.bufA ++ [frame] } }
    else { s with req := { s.req with bufB := s.req.bufB ++ [frame] } }

/-- The wake detector (R466): it raises MAIN_PWR_EN; BOOT begins at the release. Outside DORMANT a WAKE frame is counted. -/
def wakeFrame (s : State) (p : Port) (frame : List Byte) : State :=
  let h := ofBytes (frame.take 16)
  if s.mode = .dormant then
    if hdrVersion h = 1 ∧ hdrOpcode h = 8 ∧ hdrNode h = s.wake.node ∧ hdrLength h = 6 ∧ s.wake.code ≠ 0 ∧
        ofBytes (framePayload frame) = s.wake.code ∧ 30 ≤ frame.length then
      { s with boot := { s.boot with mainPwrEn := true, inReset := true } }
    else s
  else whenRunning s fun s => countPort s p 0xC

/-- A field-port frame (R462, R466): in DORMANT the wake detector checks what passes the filter it took at the entry. -/
def fieldFrame (s : State) (p : Port) (dst etherType src : Nat) (tagged fcsOk : Bool) (frame : List Byte) : State :=
  if s.mode = .dormant then
    if !tagged && fcsOk && (dst == s.wake.group || dst == dumusMac p) && etherType == s.wake.etherType then wakeFrame s p frame else s
  else whenRunning s fun s => dumusFrame s p dst etherType src tagged fcsOk frame

def execDumusFrameReceived (p : Port) (dst etherType src : Nat) (tagged fcsOk : Bool) (frame : List Byte) (s : State) :
    Host.Outcome State Fault Refusal :=
  match p with
  | .dumusA => act s fun s => fieldFrame s .dumusA dst etherType src tagged fcsOk frame
  | .dumusB => act s fun s => fieldFrame s .dumusB dst etherType src tagged fcsOk frame
  | .card => .fault .noSuchUnit
  | .tunnel => .fault .noSuchUnit
  | .relay => .fault .noSuchUnit
  | .stream => .fault .noSuchUnit

/-- A request the stream did not carry within 20 µs of its arrival (R427). -/
def missingRequest (s : State) (origin session seq : Nat) : State :=
  let same (h : Heard) : Bool := h.rq.origin == origin && h.rq.session == session && h.rq.seq == seq
  match s.pair.heard.find? same with
  | some h =>
    if s.mode = .standby ∧ h.at_ + 20000 ≤ s.up then
      let s := { s with pair := { s.pair with heard := s.pair.heard.filter fun x => !same x } }
      if s.pair.streamed.contains (origin, session, seq) then s else s.count 0x9010 6
    else s
  | none => s

def execRequestsMissingFromStream (origin session seq : Nat) (s : State) : Host.Outcome State Fault Refusal :=
  actRunning s fun s => missingRequest s origin session seq

/-! NOTIFYs and replies (R454, R457). -/

/-- A PENDING_DONE (R457, R470): it ends the repetition of its NOTIFY. -/
def pendingDone (s : State) (rq : Rq) (idx sub : Nat) : State :=
  if !s.takesUp rq then s
  else
    let s := unbuffer s rq opPendingDone idx sub []
    if s.tagFails rq opPendingDone idx sub [] then countPort s rq.port 4
    else if !admitted rq.port rq.origin then countPort s rq.port 5
    else { s with req := { s.req with notifies := s.req.notifies.filter fun n =>
      !(n.rq.origin == rq.origin && n.rq.session == rq.session && n.rq.seq == rq.seq) } }

def execPendingDone (rq : Rq) (idx sub : Nat) (s : State) : Host.Outcome State Fault Refusal := act s fun s => pendingDone s rq idx sub

/-- A NOTIFY sent again 1 ms after its last send, or abandoned after the eighth (R457). -/
def resendNotify (s : State) (origin session seq : Nat) : State :=
  let same (n : Notify) : Bool := n.rq.origin == origin && n.rq.session == session && n.rq.seq == seq
  match s.req.notifies.find? fun n => same n && decide (n.last + 1000000 ≤ s.up) with
  | none => s
  | some n =>
    let others := s.req.notifies.erase n
    if 8 ≤ n.sends then countPort { s with req := { s.req with notifies := others } } n.rq.port 9
    else
      let s := countPort (sendFrame s n.rq (answerFrame s 7 n.status n.rq n.index n.sub n.data)) n.rq.port 8
      { s with req := { s.req with notifies := others ++ [{ n with sends := n.sends + 1, last := s.up }] } }

def execNotifyResend (origin session seq : Nat) (s : State) : Host.Outcome State Fault Refusal :=
  actRunning s fun s => resendNotify s origin session seq

/-- A deferred or colliding reply tried again after its back-off (R454): the sixteenth attempt is the last. -/
def retryReply (s : State) (p : Port) (collides : Bool) : State :=
  match s.req.deferred.find? fun d => d.port == p with
  | none => s
  | some d =>
    let others := s.req.deferred.filter fun x => x.port != p
    if collides then
      (if 16 ≤ d.attempts + 1 then countPort { s with req := { s.req with deferred := others } } p 7
       else { s with req := { s.req with deferred := others ++ [{ d with attempts := d.attempts + 1 }] } })
    else
      let s := { s with req := { s.req with deferred := others } }
      if s.fieldReplies && s.portRuns p then s.emit (.dumus p d.dst d.frame) else s

def execReplyBackoffRetry (p : Port) (collides : Bool) (s : State) : Host.Outcome State Fault Refusal :=
  actRunning s fun s => retryReply s p collides

/-- A transfer with no frame for 1 s is abandoned (R460); a spool bank's load fails with it (R342). -/
def idleTransfer (s : State) (idx sub : Nat) : State :=
  match s.req.transfers.find? fun t => t.index == idx && t.sub == sub with
  | some t =>
    if t.last + 1000000000 ≤ s.up then (if idx = 0x7210 then loadAbandoned s sub else abandonTransfer s idx sub stType) else s
  | none => s

/-- A transfer ended by its DMA channel (R549): a spool bank's load fails with it (R342). -/
def haltTransfer (s : State) (idx sub : Nat) (h : DmaHalt) : State :=
  if s.req.transfers.any fun t => t.index == idx && t.sub == sub then
    dmaHalts s h fun s =>
      abandonTransfer (if idx = 0x7210 ∧ (s.spoolBank sub).st = 1 then (noteLoad s sub stType 0xF 0).setSpoolBank sub { st := 4 } else s)
        idx sub stType
  else s

/-- BLOCK_TRANSFER_ABANDON (R460, R549). -/
def execBlockTransferAbandon (idx sub : Nat) (halt : Option DmaHalt) (s : State) : Host.Outcome State Fault Refusal :=
  actRunning s fun s => match halt with
    | some h => haltTransfer s idx sub h
    | none => idleTransfer s idx sub

/-! The card port (R467, R468). -/

/-- SEND: `length` is LEN as sent, `frame` the bytes that came before CARD_CS_N rose. -/
def cardSend (s : State) (length : Nat) (frame : List Byte) (crc : Word) : State :=
  if length < 24 ∨ 1048 < length ∨ frame.length ≠ length then countPort s .card 3
  else if crc32c (toBytes 2 length ++ frame) ≠ crc then countPort s .card 2
  else if 16384 < queueBytes s.req.bufCard + length then countPort s .card 1
  else
    let h := ofBytes (frame.take 16)
    if hdrOpcode h = 8 ∧ hdrVersion h = 1 then countPort s .card 0xC
    else if frameBad frame false then countPort s .card 3
    else if !s.nodeTaken (hdrNode h) then s
    else { s with req := { s.req with bufCard := s.req.bufCard ++ [frame] } }

def execCardSend (length : Nat) (frame : List Byte) (crc : Word) (s : State) : Host.Outcome State Fault Refusal :=
  actRunning s fun s => cardSend s length frame crc

/-- RECEIVE: LEN, the oldest queued frame, CRC. -/
def cardReceive (s : State) : State :=
  let frame := s.req.outQueue.headD []
  let head := toBytes 2 frame.length
  ({ s with req := { s.req with outQueue := s.req.outQueue.drop 1 } } : State).emit
    (.card (head ++ frame ++ toBytes 4 (crc32c (head ++ frame))))

def execCardReceive (s : State) : Host.Outcome State Fault Refusal := actRunning s cardReceive

/-- STATUS: OUT_WAITING, frames queued, free bytes of the input buffer. -/
def State.cardWord (s : State) : Word :=
  ofBool (!s.req.outQueue.isEmpty) * 2 ^ 31 + s.req.outQueue.length % 2 ^ 15 * 2 ^ 16 + (16384 - queueBytes s.req.bufCard)

/-- CARD_IRQ_N is low while the output queue holds a frame (R468). -/
def State.cardIrqLow (s : State) : Bool := !s.req.outQueue.isEmpty

def execCardStatus (s : State) : Host.Outcome State Fault Refusal := actRunning s fun s => s.emit (.card (toBytes 4 s.cardWord))

/-- A transaction with an unknown command is ignored and counted. -/
def execUnknownCardCommand (code : Nat) (s : State) : Host.Outcome State Fault Refusal :=
  actRunning s fun s => if [0x5A, 0xA5, 0x3C, 0xC3, 0x96].contains code then s else countPort s .card 3

/-! The control crossbar (R447, R450). -/

/-- The masters each target grants (R447). -/
def crossbarGrants (target master : Nat) : Bool :=
  match target with
  | 0 => decide (master ≤ 11)
  | 1 | 2 => decide (master ≤ 4) || (decide (6 ≤ master) && decide (master ≤ 11))
  | 3 => master == 0 || master == 4
  | 4 | 5 => master == 0 || master == 3 || (decide (7 ≤ master) && decide (master ≤ 11))
  | _ => false

/-- A request to a target that does not grant its master, or to no target, raises a NOTE (R450). -/
def execCrossbarAccessError (master target : Nat) (s : State) : Host.Outcome State Fault Refusal :=
  onUnit master 12 s fun s => if crossbarGrants target master then s else declareFault s 0x00D (master * 256 + target % 256)

/-! Session keys and the wake code (R466, R473). -/

/-- 0x1020:0002-0009 (R473): key `sub % 2` of class `sub / 2`; its class's reply records go. -/
def keyHandler (rq : Rq) (sub : Nat) (payload : List Byte) : Handler :=
  let c := sub / 2
  { checks := { access := c == 4 && rq.origin == 0 && rq.port != .card && rq.port != .stream }
    commit := fun s => { s with
      keys := { s.keys with session := mapSet natD s.keys.session sub (ofBytes payload) }
      req := { s.req with records := s.req.records.filter fun r => r.origin != c } } }

/-- 0x1020:0010 (R473). -/
def State.keysHeld (s : State) : Nat :=
  (List.range 8).foldl (fun v i => if mapGet natD s.keys.session (i + 2) = 0 then v else v + 2 ^ i) 0

def execKeyWrite (rq : Rq) (sub : Nat) (payload : List Byte) (s : State) : Host.Outcome State Fault Refusal :=
  act s fun s => request s rq opWrite 0x1020 sub payload (keyHandler rq sub payload)

/-- 0x1030:0000 (R466); logged with zeros, as a key is. -/
def wakeHandler (payload : List Byte) : Handler :=
  { commit := fun s => { s with keys := { s.keys with wakeCode := ofBytes payload } } }

/-! The change log (R479, R480). -/

/-- 0x1200:0001, 2 and 4. -/
def State.logNewest (s : State) : Word := if s.log.any then (s.log.next + 2 ^ 32 - 1) % 2 ^ 32 else 0xFFFFFFFF
def State.logOldest (s : State) : Word :=
  match s.log.entries with
  | e :: _ => e.entry
  | [] => if s.log.any then s.log.next else 0xFFFFFFFF

/-- How far an ENTRY lies after the oldest. -/
def State.logAge (s : State) (e : Nat) : Nat := (e + 2 ^ 32 - s.logOldest) % 2 ^ 32

/-- A release (R480). -/
def releaseHandler (s : State) (payload : List Byte) : Handler :=
  let v := ofBytes payload
  { checks := { range := s.log.entries.isEmpty || decide (s.logAge s.logNewest < s.logAge v) }
    commit := fun s =>
      let upTo := s.logAge v
      { s with log := { s.log with entries := s.log.entries.filter fun e => decide (upTo < s.logAge e.entry) } }
    new := logBytes payload }

def execLogRelease (rq : Rq) (entry : Word) (s : State) : Host.Outcome State Fault Refusal :=
  act s fun s => request s rq opWrite 0x1200 3 (valueBytes rq entry) (releaseHandler s (valueBytes rq entry))

/-- 0x1200. -/
def logHandler (s : State) (sub : Nat) (payload : List Byte) : Handler :=
  if sub = 0 then plainHandler s 0x1200 0 payload { range := bits (ofBytes payload) 29 0 != 0 }
  else if sub = 3 then releaseHandler s payload
  else
    { checks := { range := ofBytes payload != 0 }
      commit := fun s => { s with log := if sub = 5 then { s.log with lost := 0 } else { s.log with notLogged := 0 } }
      old := logValue 4 (if sub = 5 then s.log.lost else s.log.notLogged)
      new := logBytes payload }

/-- A log entry's 64 bytes (R477). -/
def LogEntry.word (e : LogEntry) : Word :=
  e.tp * 2 ^ 448 + ofSigned 64 e.time * 2 ^ 384 + e.entry * 2 ^ 352 + e.plane * 2 ^ 350 + e.origin * 2 ^ 346 + e.kind * 2 ^ 343 +
    ofBool e.bank * 2 ^ 342 + ofBool e.struct * 2 ^ 341 + ofBool e.refused * 2 ^ 340 + e.node * 2 ^ 328 + e.status * 2 ^ 320 +
    e.session * 2 ^ 304 + e.seq * 2 ^ 288 + e.index * 2 ^ 272 + e.sub * 2 ^ 256 + e.old * 2 ^ 128 + e.new

/-- 0x1201:n (R483): KIND 0x7 and zeros where the slot is empty. -/
def State.logSlot (s : State) (n : Nat) : Word :=
  match s.log.entries.find? fun e => e.entry % 65536 == n with
  | some e => if e.kind = 7 then 7 * 2 ^ 343 else e.word
  | none => 7 * 2 ^ 343

/-! Ports, masks and the node number (R462, R463, R465, R471). -/

def dumusHandler (s : State) (rq : Rq) (idx sub : Nat) (payload : List Byte) : Handler :=
  let v := ofBytes payload
  match idx with
  | 0x1000 => plainHandler s idx sub payload { range := decide (0xFF ≤ v) }
  | 0x1001 =>
    if sub = 0 then
      { plainHandler s idx sub payload { range := decide (bits v 15 0 < 0x0600) } with
        commit := fun s =>
          let stops (p : Port) : Bool := (p == .dumusA && !bit v 31) || (p == .dumusB && !bit v 30)
          let (gone, kept) := s.req.notifies.partition fun (n : Notify) => stops n.rq.port
          gone.foldl (fun s n => countPort s n.rq.port 9) { s.commit idx sub v with req := { s.req with notifies := kept } } }
    else if sub = 1 then plainHandler s idx sub payload { range := !bit v 40 }
    else zeroHandler s idx sub payload
  | 0x1010 =>
    plainHandler s idx sub payload
      { access := sub == 0 || sub == 4 || sub == 5, range := decide (6 ≤ sub) && decide (1 < v) }
  | 0x1020 => keyHandler rq sub payload
  | 0x1030 => wakeHandler payload
  | 0x1200 => logHandler s sub payload
  | _ => windowHandler s sub payload

end Sys2Proof.Machine
end

