-- ==== Sys2Proof/Machine/Modes.lean ====
section
/-! DEFINITION. Mode requests, SERVICE, DORMANT and waking (R466, R510-R519). -/

namespace Sys2Proof.Machine

/-- CLAIM_OUT lowered by a mode change (R416, R516). -/
def releaseClaim (s : State) : State :=
  if s.pair.claimOut then pairChange s fun p => { p with claimOut := false, handover := none } else s

/-- Essence begins or ends its rest in absent fill and silence at this commit (R516). -/
def turnRest (s : State) : State := { s with boot := { s.boot with restAt := some s.now } }

/-- A WRITE to 0x0011 (R512, R514, R515, R519). -/
def modeHandler (s : State) (payload : List Byte) : Handler :=
  let v := ofBytes payload
  let free := s.mode == .service || s.mode == .solo
  { checks :=
      { range := v != 0 && v != 2 && v != 3
        mode := !free || (v == 0 && (!s.events.isEmpty || !s.moves.isEmpty || !s.req.transfers.isEmpty)) }
    commit := fun s =>
      match v with
      | 2 => if s.mode = .solo then turnRest (setMode (releaseClaim s) .service) else s
      | 3 => if s.mode = .service then turnRest (setMode s .solo) else s
      | _ =>
        if s.boot.dormantAt.isSome then s
        else
          let s := releaseClaim (if s.mode = .solo then turnRest s else s)
          { s with boot := { s.boot with dormantAt := some s.up } }
    new := logBytes payload }

def execRequestService (rq : Rq) (s : State) : Host.Outcome State Fault Refusal :=
  act s fun s => request s rq opWrite 0x0011 0 (valueBytes rq 2) (modeHandler s (valueBytes rq 2))
def execRequestSolo (rq : Rq) (s : State) : Host.Outcome State Fault Refusal :=
  act s fun s => request s rq opWrite 0x0011 0 (valueBytes rq 3) (modeHandler s (valueBytes rq 3))
def execRequestDormant (rq : Rq) (s : State) : Host.Outcome State Fault Refusal :=
  act s fun s => request s rq opWrite 0x0011 0 (valueBytes rq 0) (modeHandler s (valueBytes rq 0))

/-- How long ago the entry to DORMANT was committed reaches `d` ns (R519). -/
def State.dormantFor (s : State) (d : Rat) : Bool :=
  match s.boot.dormantAt with
  | some t => decide (t + d ≤ s.up)
  | none => false

/-- 10 ms: the wake detector takes its parameters (R466, R519); every lane goes quiet (`State.laneQuiet`). -/
def execDormantPrepare (s : State) : Host.Outcome State Fault Refusal :=
  actRunning s fun s =>
    if s.dormantFor 10000000 then
      { s with wake := { node := s.elem 0x1000 0, group := s.elem 0x1001 1, etherType := s.field 0x1001 0 15 0, code := s.keys.wakeCode } }
    else s

/-- 20 ms: MAIN_PWR_EN falls and the device is DORMANT (R519). -/
def execDormantPowerDown (s : State) : Host.Outcome State Fault Refusal :=
  actRunning s fun s =>
    if s.dormantFor 20000000 then
      let s := setMode s .dormant
      { s with boot := { s.boot with mainPwrEn := false, dormantAt := none } }
    else s

def execWake (p : Port) (frame : List Byte) (s : State) : Host.Outcome State Fault Refusal :=
  match p with
  | .dumusA => act s fun s => wakeFrame s .dumusA frame
  | .dumusB => act s fun s => wakeFrame s .dumusB frame
  | .card => .fault .noSuchUnit
  | .tunnel => .fault .noSuchUnit
  | .relay => .fault .noSuchUnit
  | .stream => .fault .noSuchUnit

/-- A FATAL declaration (R518, R552): only a source whose class is FATAL makes one. A self-check failure is
SELF_CHECK_COMPLETE's. -/
def execFatalDeclaration (n : Nat) (detail : Word) (s : State) : Host.Outcome State Fault Refusal :=
  onUnit n 512 s fun s => if s.sourceClass n = 2 ∧ n ≠ 0 then declareFault s n detail else s

end Sys2Proof.Machine
end

