-- ==== Sys2Proof/Machine/Boot.lean ====
section
/-! DEFINITION. Power, reset, boot, packages, staging, trial and the stored configuration (R523-R545). Its installation is in
Install.lean. -/

namespace Sys2Proof.Machine

/-! Packages (R530, R533, R534). -/

def pkgHead (b : List Byte) : Word := ofBytes (b.take 64)
def pkgCount (b : List Byte) : Nat := bits (pkgHead b) 435 432
def pkgLength (b : List Byte) : Nat := bits (pkgHead b) 431 400
def pkgVersion (b : List Byte) : Nat := bits (pkgHead b) 463 448

/-- Largest package, and a slot's size. -/
def pkgMax : Nat := 28311552

/-- The directory, in the order it stands. -/
def pkgEntries (b : List Byte) : List Word := (List.range (pkgCount b)).map fun i => ofBytes ((b.drop (64 + 32 * i)).take 32)

def dirId (e : Word) : Nat := bits e 255 248
def dirKey (e : Word) : Nat := bits e 247 244
def dirVersion (e : Word) : Nat := bits e 239 224
def dirOffset (e : Word) : Nat := bits e 223 192
def dirSize (e : Word) : Nat := bits e 191 160

/-- The entry of a component. -/
def pkgEntry (b : List Byte) (id : Nat) : Option Word := (pkgEntries b).find? fun e => dirId e == id

def pkgBody (b : List Byte) (e : Word) : List Byte := (b.drop (dirOffset e)).take (dirSize e)
def pkgSignature (b : List Byte) (e : Word) : List Byte := (b.drop (dirOffset e + dirSize e)).take 64

/-- The signed message of a component: SHA-512 of its entry, with OFFSET zero, and its body. -/
def signedMessage (b : List Byte) (e : Word) : List Byte := sha512 (toBytes 32 (setBits e 223 192 0) ++ pkgBody b e)

/-- The header, reserved fields and directory checks of a slot or a recovery file, which holds all five components. -/
def formatBad (b : List Byte) : Bool :=
  let h := pkgHead b
  bits h 511 480 != 0x504D504B || bits h 479 464 != 1 || bits h 447 440 != 0 || bits h 399 0 != 0 || decide (4 ≤ bits h 439 436) ||
    pkgCount b != 5 || decide (pkgMax < pkgLength b) || decide (b.length < pkgLength b) ||
    !((pkgEntries b).map dirId).Nodup || (pkgEntries b).any fun e =>
      decide (dirId e = 0) || decide (5 < dirId e) || bits e 243 240 != 0 || bits e 31 0 != 0 ||
        decide (dirOffset e < 64 + 32 * pkgCount b) || decide (pkgLength b < dirOffset e + dirSize e + 64)

/-- R533's checks: the reason and COMPONENT of the first that fails. -/
def verifyImage (b : List Byte) : Option (Nat × Nat) :=
  if formatBad b then some (2, 0)
  else if (pkgEntries b).any fun e => decide (4 ≤ dirKey e) || !Config.releaseKeyFused (dirKey e) then some (4, 0)
  else
    (([1, 2, 3, 4, 5].filterMap fun i => pkgEntry b i).find? fun e =>
      !ed25519Ok (Config.releaseKey (Fin.ofNat 4 (dirKey e))) (signedMessage b e) (pkgSignature b e)).map fun e => (1, dirId e)

/-- Whether component `i` accepts a version of component `j` (R530): four ranges, in the ID order of the others. -/
def accepts (e : Word) (j version : Nat) : Bool :=
  let k := if j < dirId e then j - 1 else j - 2
  let r := bits e (159 - 32 * k) (128 - 32 * k)
  decide (bits r 31 16 ≤ version) && decide (version ≤ bits r 15 0)

/-- Whether component `i` may start beside the components before it (R534). -/
def mayStart (b : List Byte) (i : Nat) : Bool :=
  match pkgEntry b i with
  | none => false
  | some e => (List.range (i - 1)).all fun k =>
    match pkgEntry b (k + 1) with
    | some d => accepts e (k + 1) (dirVersion d) && accepts d i (dirVersion e)
    | none => false

/-! Slots (R528, R532, R535). -/

def State.slot (s : State) (n : Nat) : Slot := if n = 0 then s.boot.slotA else s.boot.slotB
def State.setSlot (s : State) (n : Nat) (x : Slot) : State :=
  { s with boot := if n = 0 then { s.boot with slotA := x } else { s.boot with slotB := x } }

/-- The slot the device is not running from: slot A from a recovery file (R540). -/
def State.spareSlot (s : State) : Nat := if s.boot.running = some 0 then 1 else 0

/-- The image that runs, or is being started. -/
def State.bootImage (s : State) : List Byte :=
  match s.boot.chosen with
  | some n => (s.slot n).image
  | none => s.boot.recoveryFile

/-- The five running versions (R535, R420): zero before they run. -/
def State.versions (s : State) : Word :=
  if s.boot.running.isNone && !s.boot.recovery then 0
  else [1, 2, 3, 4, 5].foldl (fun v i => v * 2 ^ 16 + ((pkgEntry s.bootImage i).map dirVersion).getD 0) 0

/-- 0xD000:n (R535). -/
def State.slotRecord (s : State) (n : Nat) : Word :=
  let x := s.slot n
  let b := x.image
  let own := x.state * 2 ^ 248 + x.reason * 2 ^ 240
  if x.state ≤ 1 then own
  else
    own + ofBool (s.boot.running == some n) * 2 ^ 247 + ofBool x.next * 2 ^ 246 + x.boots * 2 ^ 244 + x.component * 2 ^ 232 +
      pkgVersion b * 2 ^ 216 + ([1, 2, 3, 4, 5].foldl (fun v i => v * 2 ^ 16 + ((pkgEntry b i).map dirVersion).getD 0) 0) * 2 ^ 136 +
      pkgLength b * 2 ^ 104 + ofBytes ((sha512 (b.take (64 + 32 * pkgCount b))).take 8)

/-- NEXT on slot `n` alone. -/
def nextSlot (s : State) (n : Nat) : State :=
  { s with boot := { s.boot with slotA := { s.boot.slotA with next := n == 0 }, slotB := { s.boot.slotB with next := n == 1 } } }

/-- A slot's change of state, for the log of the first boot that reaches its end (R545): slot, OLD and NEW. -/
def noteSlot (s : State) (n : Nat) (t : State) : State :=
  { t with boot := { t.boot with
    pendingLog := t.boot.pendingLog ++ [(n, logValue 32 (s.slotRecord n), logValue 32 (t.slotRecord n))] } }

/-- R532: a trial slot whose boots are exhausted is rejected, and the good slot is chosen; with none, the recovery file. -/
def chooseSlot (s : State) : State :=
  let rejected (s : State) (n : Nat) : State :=
    let x := s.slot n
    if x.next ∧ x.state = 3 ∧ x.boots = 3 then
      noteSlot s n (s.setSlot n { x with state := 5, reason := 8, next := false })
    else s
  let s := rejected (rejected s 0) 1
  let trial (n : Nat) : Bool := (s.slot n).next && ((s.slot n).state == 2 || (s.slot n).state == 3)
  let good (n : Nat) : Bool := (s.slot n).state == 4
  let take (s : State) (n : Nat) : State := { s with boot := { s.boot with chosen := some n, phase := .verify, recovery := false } }
  match [0, 1].find? trial with
  | some n =>
    let x := s.slot n
    take (s.setSlot n { x with state := 3, boots := (if x.state = 2 then 0 else x.boots) + 1 }) n
  | none =>
    match ([0, 1].filter fun n => good n && (s.slot n).next) ++ [0, 1].filter good with
    | n :: _ => take s n
    | [] => { s with boot := { s.boot with chosen := none, phase := .verify, recovery := true } }

/-- The media die held in reset: CLAIM_OUT low, the ripcord released (R416, R418, R527). -/
def holdReset (s : State) : State :=
  { s with
    boot := { s.boot with inReset := true, dormantAt := none }
    pair := { s.pair with claimOut := false, ripOut := false, handover := none } }

/-- A rejected slot (R533): NEXT to the other slot if it is GOOD, then a reset; a recovery file that fails leaves BOOT where it
is (R540). -/
def rejectSlot (s : State) (reason component : Nat) : State :=
  match s.boot.chosen with
  | none => { s with boot := { s.boot with phase := .stuck } }
  | some n =>
    let s := noteSlot s n (s.setSlot n { s.slot n with state := 5, reason := reason, component := component, next := false })
    let s := if (s.slot (1 - n)).state = 4 then nextSlot s (1 - n) else s
    holdReset { s with boot := { s.boot with pendingAlarms := s.boot.pendingAlarms ++ [(0x009, n)], running := none } }

/-! Power (R524-R526). -/

def execExairPowerOn (s : State) : Host.Outcome State Fault Refusal :=
  act s fun s => if s.boot.exOn then s else { s with boot := { s.boot with exOn := true } }

/-- OSC_IN has been present for 1 ms, or the second after a failed sequence has passed. -/
def raisePower (s : State) : State :=
  if s.boot.exOn ∧ s.boot.mainPwrEn = false ∧ s.mode ≠ .dormant then { s with boot := { s.boot with mainPwrEn := true } } else s

def execMainPowerEnable (s : State) : Host.Outcome State Fault Refusal := act s raisePower
def execPowerSequenceRetry (s : State) : Host.Outcome State Fault Refusal := act s raisePower

/-- PWR_GOOD_IN not high within 100 ms (R525): the ALARM waits for the next boot that succeeds. -/
def execPowerSequenceTimeout (s : State) : Host.Outcome State Fault Refusal :=
  act s fun s =>
    if s.boot.mainPwrEn ∧ s.boot.inReset then
      { s with boot := { s.boot with mainPwrEn := false, pendingAlarms := s.boot.pendingAlarms ++ [(0x004, 0)] } }
    else s

/-- What a loss of VDD_SRAM takes (R479, R526, R550, R565): the change log, the history, the first-fatal record, LAST and the
most-corrected table. -/
def loseSram (s : State) : State :=
  { s with log := {}, faults := { s.faults with history := [], firstFatal := none, lastFreeze := 0, corrected := [] } }

/-- PWR_GOOD_IN low for 1 µs after the release (R525). -/
def execPowerGoodLost (sramKept : Bool) (s : State) : Host.Outcome State Fault Refusal :=
  act s fun s =>
    if s.boot.inReset ∨ s.boot.mainPwrEn = false then s
    else
      let s := holdReset (if sramKept then s else loseSram s)
      { s with boot := { s.boot with pendingAlarms := s.boot.pendingAlarms ++ [(0x005, 0)] } }

def execPorstAssert (s : State) : Host.Outcome State Fault Refusal :=
  act s fun s => if s.mode = .dormant then s else holdReset s

/-- PORST_N rises in DORMANT (R525): MAIN_PWR_EN rises; BOOT follows the release. -/
def execPorstNRisesInDormant (s : State) : Host.Outcome State Fault Refusal :=
  act s fun s => if s.mode = .dormant then holdReset { s with boot := { s.boot with mainPwrEn := true } } else s

/-- The rails leave their ranges, VDD_EX among them (R526): no mode is left, and a new start follows R524. -/
def execPowerDown (s : State) : Host.Outcome State Fault Refusal :=
  act s fun s =>
    let s := holdReset (loseSram s)
    { s with
      mode := if s.mode = .dormant then .boot else s.mode
      wake := {}
      boot := { s.boot with mainPwrEn := false, exOn := false } }

/-- The state at a release (R524): everything at reset but what the flash, the key store, the one-time memory, VDD_SRAM and
the pins hold; the reset count one up, the straps sampled (R520). -/
def released (s : State) (nodeSel : Nat) (sideB sramKept : Bool) : State :=
  let s := endStaging (if sramKept then s else loseSram s) 7 none
  let b := s.boot
  let t : State := { State.reset with
    pending := s.pending
    free := s.free
    emitted := s.emitted
    keys := s.keys
    wake := s.wake
    log := s.log
    faults := { State.reset.faults with
      history := s.faults.history, firstFatal := s.faults.firstFatal, lastFreeze := s.faults.lastFreeze
      corrected := s.faults.corrected, age := s.faults.age }
    dbg := { s.dbg with stream := 0, challenge := none, failures := 0, lastOpen := 0 }
    pair := { State.reset.pair with ripIn := s.pair.ripIn, claimIn := s.pair.claimIn }
    boot := { State.reset.boot with
      exOn := b.exOn, mainPwrEn := b.mainPwrEn, resets := (b.resets + 1) % 2 ^ 16, slotA := b.slotA, slotB := b.slotB
      recoveryFile := b.recoveryFile, copy0 := b.copy0, copy1 := b.copy1, pendingAlarms := b.pendingAlarms
      pendingLog := b.pendingLog
      nodeSel := nodeSel % 64, sideB := sideB } }
  let t := (t.put 0x1000 0 (nodeSel % 64)).put 0xA000 0 (nodeSel % 64)
  let t := if s.mode = .boot then t else logEvent t 0x0010 0 (logValue 1 s.mode.code) (logValue 1 Mode.boot.code)
  if b.pendingAlarms.contains (0x005, 0) then
    declareFault { t with boot := { t.boot with pendingAlarms := t.boot.pendingAlarms.filter (· != (0x005, 0)) } } 0x005 0
  else t

def execPorstRelease (nodeSel : Nat) (sideB sramKept : Bool) (s : State) : Host.Outcome State Fault Refusal :=
  act s fun s => if s.boot.inReset ∧ s.boot.exOn ∧ s.boot.mainPwrEn then released s nodeSel sideB sramKept else s

/-! The boot sequence (R531-R534, R540, R521). -/

def State.booting (s : State) (p : BootPhase) : Bool := s.mode == .boot && s.running && s.boot.phase == p

/-- The self-check ends (R531): a failure latches the first-fatal record and stops the boot (R545, R558). -/
def execSelfCheckComplete (failed : Option Nat) (s : State) : Host.Outcome State Fault Refusal :=
  actRunning s fun s =>
    if s.booting .selfCheck then
      match failed with
      | none => chooseSlot { s with boot := { s.boot with selfCheckOk := true } }
      | some m => { noteFault s 0x000 (m * 2 ^ 56) with boot := { s.boot with phase := .stuck } }
    else s

def execSlotVerifyComplete (s : State) : Host.Outcome State Fault Refusal :=
  actRunning s fun s =>
    if s.booting .verify then
      match verifyImage s.bootImage with
      | some (reason, comp) => rejectSlot s reason comp
      | none => { s with boot := { s.boot with phase := .start 1, running := s.boot.chosen } }
    else s

/-- A component starts if its version and those before it accept each other (R534). -/
def execComponentStart (s : State) : Host.Outcome State Fault Refusal :=
  actRunning s fun s =>
    match s.boot.phase with
    | .start i =>
      if s.mode ≠ .boot then s
      else if mayStart s.bootImage i then { s with boot := { s.boot with phase := .waitReady i } }
      else rejectSlot s 5 i
    | _ => s

def execComponentReady (s : State) : Host.Outcome State Fault Refusal :=
  actRunning s fun s =>
    match s.boot.phase with
    | .waitReady i =>
      if s.mode = .boot then { s with boot := { s.boot with phase := if 5 ≤ i then .install else .start (i + 1) } } else s
    | _ => s

def execComponentReadyTimeout (s : State) : Host.Outcome State Fault Refusal :=
  actRunning s fun s =>
    match s.boot.phase with
    | .waitReady i => if s.mode = .boot then rejectSlot s 6 i else s
    | _ => s

/-- Every lane that a protocol and a receiver are configured for reports READY (R531). -/
def State.lanesReady (s : State) : Bool :=
  (s.elems 0x3000).all fun e => !(decide (e.1 < 192) && laneProtocol e.2 != protoOff && laneRxEn e.2) || s.laneReady e.1

/-- Alarms that waited for a boot that succeeds (R525, R545), and the wait for a trial's confirmation (R539). -/
def bootDone (s : State) : State :=
  let ps := s.boot.pendingAlarms
  let trial := match s.boot.running with
    | some n => (s.slot n).state == 3
    | none => false
  let es := s.boot.pendingLog
  let s := { s with boot := { s.boot with pendingAlarms := [], pendingLog := [], health := if trial then some s.up else none } }
  let s := es.foldl (fun s e => logEvent s 0xD000 e.1 e.2.1 e.2.2) s
  ps.foldl (fun s a => declareFault s a.1 a.2) s

/-- The end of boot (R521): SERVICE, SOLO, or the wait for a partner; FAULTED where a waiting declaration is FATAL by the
installed configuration (R512). -/
def endBoot (s : State) : State :=
  let auto := s.boot.installed && s.boot.auto && !s.boot.recovery
  if !s.booting .ready || (auto && !s.lanesReady && decide (s.up < 5500000000)) then s
  else
    let s := bootDone s
    if s.mode ≠ .boot then { s with boot := { s.boot with phase := .ended } }
    else if !auto then setMode { s with boot := { s.boot with phase := .ended } } .service
    else if !s.paired then enterSolo s
    else
      let s := { s with boot := { s.boot with phase := .bridleWait, enabledAt := some s.up } }
      if !s.pair.partnerHere || !s.bridleUp then s
      else if s.joinable && s.sessionWith.isSome && s.flag 0x9000 0 30 then askJoin s
      else enterSolo s

def execBootEnd (s : State) : Host.Outcome State Fault Refusal := actRunning s endBoot

def execBootPartnerWaitEnd (s : State) : Host.Outcome State Fault Refusal :=
  actRunning s fun s =>
    match s.boot.enabledAt with
    | some t => if s.booting .bridleWait && decide (t + 500000000 ≤ s.up) then enterSolo s else s
    | none => s

/-! Staging (R536-R538). -/

def stageHandler (s : State) (payload : List Byte) : Handler :=
  { checks :=
      { range := payload.any fun c => decide (c.toNat < 0x20) || decide (0x7E < c.toNat)
        mode := s.boot.health.isSome
        headroom := s.boot.stageState == 1 || s.boot.saving.isSome || s.boot.erasing }
    commit := fun s =>
      let n := s.spareSlot
      let s := s.setSlot n { state := 1 }
      let s := match s.boot.running with
        | some r => nextSlot s r
        | none => s
      { s with boot := { s.boot with stagePath := payload, stageState := 1, stageResult := 0, stageKiB := 0 } }
    pending := true
    new := logBytes payload }

def execStagePackage (rq : Rq) (path : List Byte) (s : State) : Host.Outcome State Fault Refusal :=
  act s fun s => request s rq opWrite 0xD020 0 path (stageHandler s path)

/-- The image staged (R537): the file's components, and the running slot's for those the file does not carry, with the
directory in ID order and the header rebuilt. -/
def stagedImage (file running : List Byte) : List Byte :=
  let parts := [1, 2, 3, 4, 5].filterMap fun i =>
    match pkgEntry file i with
    | some e => some (e, pkgBody file e, pkgSignature file e)
    | none => (pkgEntry running i).map fun e => (e, pkgBody running e, pkgSignature running e)
  let placed := parts.foldl (fun (a : List Word × List Byte) p =>
    (a.1 ++ [setBits p.1 223 192 (64 + 32 * 5 + a.2.length)], a.2 ++ p.2.1 ++ p.2.2)) ([], [])
  let body := placed.2
  let head := 0x504D504B * 2 ^ 480 + 1 * 2 ^ 464 + pkgVersion file * 2 ^ 448 + bits (pkgHead file) 439 436 * 2 ^ 436 +
    5 * 2 ^ 432 + (64 + 160 + body.length) * 2 ^ 400
  toBytes 64 head ++ (placed.1.flatMap (toBytes 32)) ++ body

def stagingDone (s : State) (file : List Byte) : State :=
  if s.boot.stageState ≠ 1 ∨ s.dmaStopped = true then s
  else
    let img := stagedImage file (match s.boot.running with
      | some n => (s.slot n).image
      | none => [])
    if pkgMax < file.length ∨ pkgMax < img.length then endStaging s 4 (some stRange)
    else
      let n := s.spareSlot
      let s := nextSlot (s.setSlot n { state := 2, image := img }) n
      let s := { s with boot := { s.boot with stageState := 2, stageResult := 0, stageKiB := img.length / 1024 } }
      finishWaiting s 0xD020 0 stOk []

def execStagingComplete (file : List Byte) (s : State) : Host.Outcome State Fault Refusal :=
  actRunning s fun s => stagingDone s file

/-- R538's failures; a result the table does not list ends nothing. -/
def stagingFails (s : State) (result : Nat) : State :=
  match result with
  | 1 => endStaging s 1 (some stMode)
  | 2 => endStaging s 2 (some stMode)
  | 3 => endStaging s 3 (some stRange)
  | 4 => endStaging s 4 (some stRange)
  | 5 => endStaging s 5 (some stType)
  | 6 => endStaging s 6 (some stType)
  | _ => s

/-- STAGING_FAILURE (R538): a DMA channel that halts ends the staging with RESULT 0x05 (R549). -/
def execStagingFailure (result : Nat) (halt : Option DmaHalt) (s : State) : Host.Outcome State Fault Refusal :=
  actRunning s fun s => match halt with
    | some h => if s.boot.stageState = 1 then dmaHalts s h fun s => stagingFails s 5 else s
    | none => stagingFails s result

/-- 0xD020:0001. -/
def State.stageWord (s : State) : Word := s.boot.stageState * 2 ^ 29 + s.boot.stageResult * 2 ^ 24 + s.boot.stageKiB % 2 ^ 24

/-! Trial (R539-R541). -/

def healthHandler (s : State) (payload : List Byte) : Handler :=
  { checks := { range := ofBytes payload != 1, mode := s.boot.health.isNone }
    commit := fun s =>
      let s := { s with boot := { s.boot with health := none } }
      match s.boot.running with
      | some n => nextSlot (s.setSlot n { s.slot n with state := 4, boots := 0, reason := 0, component := 0 }) n
      | none => s
    new := logBytes payload }

def execHealthConfirm (rq : Rq) (v : Word) (s : State) : Host.Outcome State Fault Refusal :=
  act s fun s => request s rq opWrite 0xD010 0 (valueBytes rq v) (healthHandler s (valueBytes rq v))

/-- 0xD010:0001. -/
def State.healthWord (s : State) : Word :=
  match s.boot.health with
  | none => 0
  | some t =>
    let boots := match s.boot.running with
      | some n => (s.slot n).boots
      | none => 0
    2 ^ 31 + boots % 4 * 2 ^ 29 + (600 - ((s.up - t) / 1000000000).floor).toNat

/-- 600 s without confirmation (R540). -/
def healthLost (s : State) : State :=
  match s.boot.health, s.boot.running with
  | some t, some n =>
    if t + 600000000000 ≤ s.up then
      let old := s.slotRecord n
      let s := s.setSlot n { s.slot n with state := 5, reason := 7, next := false }
      let s := if (s.slot (1 - n)).state = 4 then nextSlot s (1 - n) else s
      let s := logEvent s 0xD000 n (logValue 32 old) (logValue 32 (s.slotRecord n))
      holdReset { s with boot := { s.boot with pendingAlarms := s.boot.pendingAlarms ++ [(0x009, n)], health := none } }
    else s
  | _, _ => s

def execHealthConfirmTimeout (s : State) : Host.Outcome State Fault Refusal := actRunning s healthLost

/-! The stored configuration (R541-R543). -/

/-- Whether a snapshot holds an element that differs from reset (R543). -/
def savedElem (k : Nat) : Bool :=
  match dictRow (k / 65536) (k % 65536) with
  | some r => r.kind == .rw && (r.profile == .o || r.profile == .e || r.profile == .v) &&
      !(decide (0x7220 ≤ k / 65536) && decide (k / 65536 ≤ 0x7221)) && k != ekey 0x7200 0
  | none => false

/-- What SAVE takes. -/
def State.configSnapshot (s : State) : Saved :=
  { seq := 0
    pkg := match s.boot.running with
      | some n => pkgVersion (s.slot n).image
      | none => 0
    elems := (s.dict.filter fun e => savedElem e.1 && e.1 != ekey 0x1000 0) ++
      [(ekey 0x1000 0, s.elem 0x1000 0), (ekey 0xD030 0, s.elem 0xD030 0)]
    blobs := s.blobs.filter fun e => e.1 / 65536 == 0x1110 }

/-- Bytes of a snapshot as it is written: a header and a record for each element (R543; record sizes are the model's). -/
def Saved.size (x : Saved) : Nat :=
  16 + x.elems.foldl (fun n e => n + 8 + (match dictRow (e.1 / 65536) (e.1 % 65536) with
    | some r => r.sizeHi
    | none => 0)) 0 + x.blobs.foldl (fun n e => n + 8 + e.2.length) 0

/-- The newest copy, under 32-bit serial arithmetic (R529). -/
def State.savedCopy (s : State) : Option Saved :=
  match s.boot.copy0, s.boot.copy1 with
  | some a, some b => if (b.seq + 2 ^ 32 - a.seq) % 2 ^ 32 < 2 ^ 31 ∧ a.seq ≠ b.seq then some b else some a
  | some a, none => some a
  | none, c => c

/-- 0xD030:0001 (R541, R542). -/
def configCommand (s : State) (payload : List Byte) : Handler :=
  let v := ofBytes payload
  let busy := s.boot.stageState == 1 || s.boot.saving.isSome || s.boot.erasing || !s.moves.isEmpty
  let other := match s.boot.running with
    | some n => some (1 - n)
    | none => none
  let otherGood := match other with
    | some n => (s.slot n).state == 4
    | none => false
  { checks :=
      { range := v == 0 || decide (3 < v)
        mode := v == 3 && (!otherGood || s.boot.health.isSome)
        headroom := v != 3 && busy }
    commit := fun s => match v with
      | 1 => { s with boot := { s.boot with saving := some s.configSnapshot } }
      | 2 => { s with boot := { s.boot with erasing := true } }
      | _ => match other with
        | some n => nextSlot s n
        | none => s
    pending := v != 3
    new := logBytes payload }

def execConfigSave (rq : Rq) (s : State) : Host.Outcome State Fault Refusal :=
  act s fun s => request s rq opWrite 0xD030 1 (valueBytes rq 1) (configCommand s (valueBytes rq 1))
def execConfigErase (rq : Rq) (s : State) : Host.Outcome State Fault Refusal :=
  act s fun s => request s rq opWrite 0xD030 1 (valueBytes rq 2) (configCommand s (valueBytes rq 2))
def execSelectGoodSlot (rq : Rq) (s : State) : Host.Outcome State Fault Refusal :=
  act s fun s => request s rq opWrite 0xD030 1 (valueBytes rq 3) (configCommand s (valueBytes rq 3))

/-- A save or an erase ends (R543, R529): the older copy is written, with the next sequence. -/
def configDone (s : State) : State :=
  if s.boot.erasing then
    finishWaiting { s with boot := { s.boot with copy0 := none, copy1 := none, erasing := false } } 0xD030 1 stOk []
  else match s.boot.saving with
    | none => s
    | some x =>
      let t := { s with boot := { s.boot with saving := none } }
      if 4194304 < x.size then finishWaiting t 0xD030 1 stNoHeadroom []
      else
        let x := { x with seq := ((s.savedCopy.map Saved.seq).getD 0 + 1) % 2 ^ 32 }
        let newest1 := s.boot.copy1.isSome && s.savedCopy == s.boot.copy1
        finishWaiting { t with boot :=
          if newest1 ∨ s.boot.copy0 = none then { t.boot with copy0 := some x } else { t.boot with copy1 := some x } } 0xD030 1 stOk []

def execConfigSaveComplete (s : State) : Host.Outcome State Fault Refusal := actRunning s configDone

/-- The elements 0xD010-0xD030. -/
def bootElement (s : State) (idx sub : Nat) (payload : List Byte) : Handler :=
  if idx = 0xD010 then healthHandler s payload
  else if idx = 0xD020 then stageHandler s payload
  else if sub = 0 then plainHandler s idx sub payload { range := bits (ofBytes payload) 30 0 != 0 }
  else configCommand s payload

end Sys2Proof.Machine
end

