-- ==== Sys2Proof/Machine/Integrity.lean ====
section
/-! DEFINITION. Memory errors and scrubbing (R546-R551), fault sources, their history and forcing (R552-R560), freezing
(R561-R565), temperature and clock conditions (R558, R584, R586), licence tokens (R572). -/

namespace Sys2Proof.Machine

/-! Pins and reports. -/

/-- Fault sources with an ALARM bit set. -/
def State.alarms (s : State) : Nat := (s.faults.src.filter fun e => e.2.alarm).length

/-- Whether ERR_N is low (R510, R527, R555). -/
def State.errLow (s : State) : Bool :=
  decide (0 < s.alarms) || s.boot.inReset || s.mode == .dormant || s.mode == .faulted || (s.mode == .frozen && s.faults.frozenMode == some .faulted) ||
    !s.boot.selfCheckOk || s.boot.recovery || s.boot.phase == .stuck

/-- An entry of the history or the first-fatal record (R559). -/
def HistEntry.word (h : HistEntry) : Word :=
  h.tp % 2 ^ 64 * 2 ^ 192 + ofSigned 64 h.time * 2 ^ 128 + h.source * 2 ^ 119 + h.cls * 2 ^ 117 + ofBool h.forced * 2 ^ 116 +
    h.mode.code * 2 ^ 104 + h.count * 2 ^ 72 + h.detail % 2 ^ 64

def histWord (h : Option HistEntry) : Word :=
  match h with
  | some h => h.word
  | none => 0

/-- 0xB100:n. -/
def State.historyWord (s : State) (n : Nat) : Word := histWord s.faults.history[n]?

/-- 0xB200:0x100 + n (R550). -/
def State.correctedWord (s : State) (n : Nat) : Word :=
  match s.faults.corrected[n]? with
  | some c => c.memory * 2 ^ 120 + c.address % 2 ^ 32 * 2 ^ 88 + c.count * 2 ^ 56
  | none => 0

/-- 0xB400:0002 (R565). -/
def State.freezeWord (s : State) : Word :=
  ofBool (s.events.any fun e => e.kind == 5 && !e.fired) * 2 ^ 31 + s.faults.lastFreeze * 2 ^ 28

/-- A memory DETAIL (R558). -/
def memoryDetail (n a : Nat) : Word := n * 2 ^ 56 + a % 2 ^ 32

/-! Corrections and scrubbing (R548-R551). -/

/-- An entry in its place by descending count, after older ones of the same count. -/
def insertCount (c : Corrected) : List Corrected → List Corrected
  | [] => [c]
  | d :: l => if d.count < c.count then c :: d :: l else d :: insertCount c l

/-- The most-corrected table after a correction, and the address's count in it (R550). The table stands in descending
order; the entry that goes is the lowest count's oldest. -/
def correctedTable (l : List Corrected) (memory address age : Nat) : List Corrected × Nat :=
  let is (c : Corrected) : Bool := c.memory == memory && c.address == address
  match l.find? is with
  | some c =>
    let n := satAdd 32 c.count 1
    (insertCount { c with count := n } (l.filter fun x => !is x), n)
  | none =>
    let low := l.foldl (fun m c => min m c.count) (2 ^ 32)
    let oldest := (l.filter fun c => c.count == low).foldl (fun m c => min m c.age) age
    let l := if l.length < 16 then l else l.filter fun c => !(c.count == low && c.age == oldest)
    (insertCount { memory := memory, address := address, count := 1, age := age } l, 1)

/-- A corrected error (R548, R550): written back on the next idle cycle, counted, declared. -/
def corrected (s : State) (n a : Nat) : State :=
  let r := correctedTable s.faults.corrected n a s.faults.age
  let s := { s.count 0xB200 n with faults := { s.faults with
    corrected := r.1, age := s.faults.age + 1
    writebacks := if s.faults.writebacks.contains (n, a) then s.faults.writebacks else s.faults.writebacks ++ [(n, a)] } }
  let s := declareFault s 0x00F (memoryDetail n a)
  if r.2 = 16 ∨ r.2 = 256 ∨ r.2 = 4096 then declareFault s 0x010 (memoryDetail n a) else s

def execEccWriteback (memory address : Nat) (s : State) : Host.Outcome State Fault Refusal :=
  onUnit memory 24 s fun s =>
    { s with faults := { s.faults with writebacks := s.faults.writebacks.filter fun w => !(w == (memory, address)) } }

/-- A slot of the key store that can no longer be read: it reads as empty (R546). Which slot an address lies in is not
stated: slots 0-7 are the session keys, 8 the wake code, 9-24 the tokens, 25 the identity key, in the model's own order. -/
def emptyKeySlot (s : State) (k : Nat) : State :=
  if k < 8 then { s with keys := { s.keys with session := mapErase s.keys.session (k + 2) } }
  else if k = 8 then { s with keys := { s.keys with wakeCode := 0 } }
  else if k < 25 then { s with keys := { s.keys with tokens := mapErase s.keys.tokens (k - 9) } }
  else { s with keys := { s.keys with identity := none } }

/-- A slot of the change log that can no longer be read: an empty slot (R546). -/
def emptyLogSlot (s : State) (k : Nat) : State :=
  { s with log := { s.log with entries := s.log.entries.map fun (e : LogEntry) =>
      if e.entry % 65536 = k then { entry := e.entry, tp := 0, time := 0, plane := 0, origin := 0, kind := 7, node := 0 }
      else e } }

/-- A line of cell memory with a word that can no longer be read: missing to every reader (R202, R546). Which line an address
lies in is not stated: a free value chooses it, or a word that no line uses. -/
def loseCellLine (s : State) : State :=
  let all := s.cells.flatMap fun e => e.2.lines.map fun l => (e.1, l)
  match all[s.drawn 40 % (all.length + 1)]? with
  | some (n, l) =>
    let c := s.cellsOf n
    let s := { s with feeds := mapMod feedD s.feeds n fun f => f.filter fun y => !(y.frame == l.frame && y.line == l.line) }
    (s.setCells n { c with lines := c.lines.map fun y => if y = l then { y with gone := true } else y }).draw
  | none => s.draw

/-- A cell in an express buffer that can no longer be read: discarded, and counted at the port it waited for (R546). -/
def loseExpressCell (s : State) : State :=
  let q := s.tether.queue
  match q[s.drawn 40 % (q.length + 1)]? with
  | some e =>
    let same (x : Nat × Nat × LinkCell) : Bool := x.1 == e.1 && { x.2.2 with label := 0 } == { e.2.2 with label := 0 }
    let s := ({ s with tether := { s.tether with queue := q.filter fun x => !same x } }.count 0xA100 (0x500 + e.1)).draw
    s.setTport e.1 ((s.tport e.1).addFreed e.2.2.vc)
  | none => s.draw

/-- A sample of a delay line that its stack can no longer correct (R283): it is 0. -/
def zeroDelaySample (s : State) (n k : Nat) : State :=
  let x := s.ainSlot n
  (s.setAin n { x with line := x.line.set k 0 }).count 0x5500 6

/-- The records of the video windows' captured frames, as (window, offset). -/
def State.windowRecords (s : State) : List (Nat × Nat) :=
  s.windows.flatMap fun e =>
    let f := s.srcFmt (winTarget e.2.command)
    let n := formActive f.form
    if s.winAudio e.1 || winOp e.2.command != 1 then []
    else (List.range e.2.done).flatMap fun k =>
      (List.range n).map fun i => (e.1, recordAt (recordSize (lineBytes f.form f.samp)) n k i)

/-- The record at an offset of a window takes its POISON bit, [95] of its head (R272, R280). -/
def poisonWindow (s : State) (w off : Nat) : State := putWin s w (off + 4) ((s.readWin w (off + 4) 1).map (· ||| 0x80))

/-- A line of a compositor line buffer that can no longer be read is transparent (R546). -/
def clearStagedLine (s : State) : State :=
  let all := s.layers.flatMap fun e => (e.2.stages.zipIdx).flatMap fun g => (g.1.frames.zipIdx).flatMap fun f =>
    (List.range f.1.rows.length).map fun y => (e.1, g.2, f.2, y)
  match all[s.drawn 40 % (all.length + 1)]? with
  | some (i, g, f, y) =>
    let x := s.layer i
    (s.setLayer i { x with stages := x.stages.modify g fun st =>
      { st with frames := st.frames.modify f fun fr => { fr with rows := fr.rows.set y [] } } }).draw
  | none => s.draw

/-- A coefficient entry that can no longer be read gives 0 until it is written again (R348): memory 11. -/
def damageCoef (s : State) : State :=
  let all := (s.elems 0x7220).map (fun e => (0, e.1)) ++ (s.elems 0x7221).map fun e => (1, e.1)
  match all[s.drawn 40 % (all.length + 1)]? with
  | some (b, i) =>
    let plain (e : Engine) : Engine := if e.bank = b then { e with ramps := e.ramps.filter fun r => r.1 != i } else e
    let s := s.put (0x7220 + b) i 0
    { s with mix := { s.mix with
      damaged := (b, i) :: s.mix.damaged.filter (· != (b, i))
      engine := s.mix.engine.map plain, fading := s.mix.fading.map fun (f : Engine × Nat × Nat) => (plain f.1, f.2) } }.draw
  | none => s.draw

/-- A scratch word, biquad state or spool delay-line sample that can no longer be read gives 0 for its read (R348): memory 12. -/
def damageWork (s : State) : State :=
  match s.mix.engine with
  | none => s
  | some e =>
    let lines := e.lines.flatMap fun l => (List.range l.2.2.length).map fun k => (l.1, k)
    let k := s.drawn 40 % (e.scratch.length + e.biquad.length + lines.length + 1)
    let k2 := k - e.scratch.length
    let hit (f : Engine → Engine) : State :=
      dataReads 1 12 { s with mix := { s.mix with engine := some (f e) } }.draw
    match e.scratch[k]?, e.biquad[k2]?, lines[k2 - e.biquad.length]? with
    | some (a, _), _, _ => hit fun e => { e with scratch := mapErase e.scratch a }
    | none, some (a, _), _ => hit fun e => { e with biquad := mapErase e.biquad a }
    | none, none, some (a, i) => hit fun e => { e with lines := e.lines.map fun l => if l.1 = a then (a, (l.2.1, l.2.2.set i 0)) else l }
    | none, none, none => s.draw

/-- A record of the frame store that its stack can no longer correct: it counts as poisoned (R280, R546); a delay-line sample
is 0 (R283). -/
def poisonRecord (s : State) : State :=
  let lines := s.ins.flatMap fun e => e.2.win.flatMap fun g => g.lines.map fun l => (e.1, g.count, l.line)
  let rows := s.gfx.sprites.flatMap fun e => (List.range e.2.h).map fun y => (e.1, y)
  let planes := s.heads.flatMap fun e => (List.range e.2.plane.length).map fun y => (e.1, y)
  let samples := s.ain.flatMap fun e => (List.range e.2.line.length).map fun k => (e.1, k)
  let records := s.windowRecords
  let k := s.drawn 40 % (lines.length + rows.length + planes.length + samples.length + records.length + 1)
  let s := s.draw
  match lines[k]?, rows[k - lines.length]? with
  | some (j, c, i), _ => s.setIn j { s.in_ j with win := (s.in_ j).win.map fun g =>
      if g.count = c then { g with lines := g.lines.map fun l => if l.line = i then { l with poison := true } else l } else g }
  | none, some (n, y) => s.setSprite n { s.sprite n with poisoned := (s.sprite n).poisoned ++ [y] }
  | none, none =>
    let k := k - lines.length - rows.length
    match planes[k]?, samples[k - planes.length]?, records[k - planes.length - samples.length]? with
    | some (h, y), _, _ => s.setHead h { s.head h with poisoned := (s.head h).poisoned ++ [y] }
    | none, some (n, i), _ => zeroDelaySample s n i
    | none, none, some (w, off) => poisonWindow s w off
    | none, none, none => s

/-- An audio engine word that can no longer be read gives 0 for one period (R546). -/
def zeroSample (s : State) : State :=
  let n := s.drawn 16 % 49152
  (s.setAin n { s.ainSlot n with value := 0 }).draw

/-- An uncorrectable error of memory `n` that a scrubber meets (R546, R551): counted, its source declared with the DETAIL
R558 gives it. Where that is a stack, a block or a key slot, the number is a free value. -/
def uncorrectable (s : State) (n a : Nat) : State :=
  let s := s.count 0xB200 (0x20 + n)
  if n ≤ 3 then declareFault s 0x00E (memoryDetail n a)
  else if n = 4 then
    let k := s.drawn 5
    declareFault (emptyKeySlot s.draw k) 0x011 k
  else if n = 5 then declareFault (emptyLogSlot s (a / 64 % 65536)) 0x012 (a / 64 % 65536)
  else if n ≤ 9 then declareFault s 0x00B (memoryDetail (n - 6) a)
  else if n = 10 then declareFault s 0x0C2 (a / 8)
  else if n ≤ 12 then declareFault (if n = 11 then damageCoef s else damageWork s) 0x0C3 (memoryDetail n a)
  else if n = 13 then declareFault (zeroSample s) 0x0C4 (memoryDetail n a)
  else if n = 15 then declareFault (loseExpressCell s) 0x084 (memoryDetail n a)
  else if n ≤ 17 then declareFault (if n = 17 then clearStagedLine s else loseCellLine s) 0x084 (memoryDetail n a)
  else if n = 18 then declareFault s.draw 0x0A1 (s.drawn 2)
  else if n ≤ 22 then declareFault (poisonRecord s).draw 0x0A0 ((poisonRecord s).drawn 20)
  else declareFault s 0x003 (memoryDetail n a)

/-- Lap limits in s (R546). -/
def lapLimit (n : Nat) : Nat := if n = 5 ∨ n = 14 then 10 else if 19 ≤ n ∧ n ≤ 22 then 3600 else 1

def State.lapTime (s : State) (n : Nat) : Rat := s.up - mapGet ratD s.faults.lapStart n

/-- A lap that passes its limit declares its NOTE, once (R551). -/
def lapCheck (s : State) (n : Nat) : State :=
  if (lapLimit n : Rat) * 1000000000 < s.lapTime n ∧ s.faults.lapNoted.contains n = false then
    let s := { s with faults := { s.faults with lapNoted := n :: s.faults.lapNoted } }
    declareFault s 0x013 (memoryDetail n 0)
  else s

def scrubbed (s : State) (n : Nat) (e : ScrubError) : State :=
  let a := mapGet natD s.faults.scrubAddr n
  let s := { s with faults := { s.faults with scrubAddr := mapSet natD s.faults.scrubAddr n (a + 1) } }
  let s := lapCheck s n
  match e with
  | .none => s
  | .corrected => corrected s n a
  | .uncorrectable => uncorrectable s n a

def execScrubRead (memory : Nat) (error : ScrubError) (s : State) : Host.Outcome State Fault Refusal :=
  onUnit memory 24 s fun s => scrubbed s memory error

/-- The end of a lap (R551). -/
def lapEnd (s : State) (n : Nat) : State :=
  let s := lapCheck s n
  let s := s.put 0xB300 n (min 0xFFFFFFFE (s.lapTime n / 1000000).floor.toNat)
  { s with faults := { s.faults with
    scrubAddr := mapErase s.faults.scrubAddr n
    lapStart := mapSet ratD s.faults.lapStart n s.up
    lapNoted := s.faults.lapNoted.filter (· != n) } }

def execScrubLapEnd (memory : Nat) (s : State) : Host.Outcome State Fault Refusal := onUnit memory 24 s fun s => lapEnd s memory

/-! Fault sources (R552-R554). -/

/-- A write to 0xB000:n (R552). -/
def sourceConfHandler (s : State) (n : Nat) (payload : List Byte) : Handler :=
  let v := ofBytes payload
  let old := s.elem 0xB000 n
  let v' := bits v 31 30 * 2 ^ 30 + bits old 29 28 * 2 ^ 28 + ofBool (bit v 27) * 2 ^ 27
  { plainHandler s 0xB000 n payload
      { range := (faultRow n).isNone || bits v 31 30 == 3 || (bit old 29 && bits v 31 30 != 2) } with
    commit := fun s => s.commit 0xB000 n v' }

/-- What clearing a source's alarm bit lets go: the halted DMA channels of 0x00C (R549), TX_SHORT with 0x047 (R127). -/
def alarmCleared (n : Nat) (s : State) : State :=
  if n = 0x00C then { s with faults := { s.faults with dmaHalted := [] } }
  else if n = 0x047 then (s.elems 0x3200).foldl (fun s e => if bit e.2 27 then s.putFlag 0x3200 e.1 27 false else s) s
  else s

/-- A write to 0xB010:n (R553). -/
def sourceStateHandler (s : State) (n : Nat) (payload : List Byte) : Handler :=
  let v := ofBytes payload
  let c := bits v 23 0
  { checks := { range := (faultRow n).isNone || bits v 28 24 != 0 || (c != 0 && c != 0xFFFFFF) }
    commit := fun s =>
      let f := s.source n
      let s := s.setSource n { f with alarm := f.alarm && !bit v 31, count := if c = 0 then 0 else f.count }
      if bit v 31 then alarmCleared n s else s
    old := logValue 4 (sourceWord (s.source n))
    new := logBytes payload }

/-- A write to 0xB020:n (R554). -/
def forceHandler (s : State) (rq : Rq) (n : Nat) (payload : List Byte) : Handler :=
  let v := ofBytes payload
  { checks := { access := s.sourceClass n == 2 && v == 1 && rq.origin != 0 && rq.origin != 4
                range := (faultRow n).isNone || decide (1 < v) }
    commit := fun s => if v = 1 then declareFault s n 0 false true else s
    new := logBytes payload }

def execFaultForce (rq : Rq) (source : Nat) (v : Word) (s : State) : Host.Outcome State Fault Refusal :=
  act s fun s => request s rq opWrite 0xB020 source (valueBytes rq v) (forceHandler s rq source (valueBytes rq v))

def execAlarmClear (rq : Rq) (source : Nat) (v : Word) (s : State) : Host.Outcome State Fault Refusal :=
  act s fun s => request s rq opWrite 0xB010 source (valueBytes rq v) (sourceStateHandler s source (valueBytes rq v))

/-! Freezing (R560-R565). -/

/-- A write to 0xB400:0000 (R560, R561). -/
def freezeControl (s : State) (payload : List Byte) : Handler :=
  let v := ofBytes payload
  { plainHandler s 0xB400 0 payload {} with
    commit := fun s =>
      let s := s.commit 0xB400 0 (bits v 31 30 * 2 ^ 30)
      if bit v 29 then { s with faults := { s.faults with firstFatal := none } } else s }

def execRearm (rq : Rq) (v : Word) (s : State) : Host.Outcome State Fault Refusal :=
  let p := valueBytes rq (setBit v 29 true)
  act s fun s => request s rq opWrite 0xB400 0 p (freezeControl s p)

/-- A write to 0xB400:0001 (R562). -/
def freezeHandler (s : State) (rq : Rq) (payload : List Byte) : Handler :=
  let v := ofBytes payload
  let tp := bits v 79 16
  let plane := bits v 15 8
  let pends (e : Event) : Bool := e.kind == 5 && !e.fired
  if bit v 0 then
    { checks := { range := v != 1 }
      commit := fun s => { s with events := s.events.filter fun e => !pends e }
      new := logBytes payload }
  else
    { checks := { range := s.scheduleRange plane tp || bits v 7 1 != 0, late := s.scheduleLate plane tp
                  admission := s.queueFull || s.events.any pends }
      commit := fun s => queueEvent s { tp := s.scheduleTp plane tp, plane := plane, kind := 5, rq := some rq }
      new := logBytes payload
      plane := plane % 4 }

def execFreezeSchedule (rq : Rq) (arg : Word) (s : State) : Host.Outcome State Fault Refusal :=
  let p := valueBytes rq (setBit arg 0 false)
  act s fun s => request s rq opWrite 0xB400 1 p (freezeHandler s rq p)

def execFreezeCancel (rq : Rq) (arg : Word) (s : State) : Host.Outcome State Fault Refusal :=
  let p := valueBytes rq (setBit arg 0 true)
  act s fun s => request s rq opWrite 0xB400 1 p (freezeHandler s rq p)

/-- FREEZE_N low for 5 ns (R561). -/
def execFreezePin (s : State) : Host.Outcome State Fault Refusal :=
  act s fun s => if s.flag 0xB400 0 31 then s else freeze s 1

/-- A FREEZE entry at its TP, after every other entry of its core cycle (R57, R563). -/
def fireFreeze (s : State) : State :=
  match s.dueEvent [1, 2, 3, 4], s.dueEvent [5] with
  | none, some e => freeze { s with events := s.events.filter fun x => x.order != e.order } 2
  | _, _ => s

def execScheduledFreeze (s : State) : Host.Outcome State Fault Refusal := actRunning s fireFreeze

/-- 1 µs after a FATAL declaration made while ON_FATAL = 1 (R563). -/
def fatalFreeze (s : State) : State :=
  match s.faults.fatalAt with
  | some t => if t + 1000 ≤ s.up ∧ s.flag 0xB400 0 30 = true then freeze s 3 else s
  | none => s

def execFreezeOnFatal (s : State) : Host.Outcome State Fault Refusal := actRunning s fatalFreeze

/-- The elements 0xB000-0xB400. -/
def integrityElement (s : State) (rq : Rq) (idx sub : Nat) (payload : List Byte) : Handler :=
  if idx = 0xB000 then sourceConfHandler s sub payload
  else if idx = 0xB010 then sourceStateHandler s sub payload
  else if idx = 0xB020 then forceHandler s rq sub payload
  else if idx = 0xB400 then (if sub = 0 then freezeControl s payload else freezeHandler s rq payload)
  else zeroHandler s idx sub payload

/-! Temperature, clock and die link (R15, R558, R584, R586). -/

/-- Since when a reading is above its limit. -/
def aboveSince (above : Bool) (since : Option Rat) (t : Rat) : Option Rat :=
  if above then (match since with
    | some a => some a
    | none => some t) else none

/-- A condition that holds since `since` for `d` ns declares its source, once until it ends. -/
def declareAbove (s : State) (n : Nat) (since : Option Rat) (d : Rat) (detail : Word) : State :=
  match since with
  | some t => if t + d ≤ s.up ∧ (s.source n).active = false then declareFault s n detail true else s
  | none => clearActive s n

/-- The hottest of the 17 sensors, every 1 ms: 0x007 above 105 °C for 1 s, 0x008 above 125 °C for 1 ms. -/
def sensorRead (s : State) (t : Int) : State :=
  let s := { s with
    fieldBank := { s.fieldBank with tj := t }
    faults := { s.faults with
      hot := aboveSince (decide (1050 < t)) s.faults.hot s.up
      hotter := aboveSince (decide (1250 < t)) s.faults.hotter s.up } }
  let d := ofSigned 64 t
  declareAbove (declareAbove s 0x008 s.faults.hotter 1000000 d) 0x007 s.faults.hot 1000000000 d

def execThermalSensorRead (hottest : Int) (s : State) : Host.Outcome State Fault Refusal := actRunning s fun s => sensorRead s hottest

/-- THERM_ALERT_N: low for 10 ms, or high again. -/
def thermPin (s : State) (low : Bool) : State :=
  let s := { s with fieldBank := { s.fieldBank with therm := low } }
  if low then (if (s.source 0x006).active then s else declareFault s 0x006 0 true) else clearActive s 0x006

def execThermAlert (low : Bool) (s : State) : Host.Outcome State Fault Refusal := actRunning s fun s => thermPin s low

def execOscInFailed (s : State) : Host.Outcome State Fault Refusal := actRunning s fun s => declareFault s 0x002 0

def execInterDieLinkTimeout (s : State) : Host.Outcome State Fault Refusal :=
  actRunning s fun s => if s.boot.exOn then declareFault s 0x001 0 else s

/-- A transfer sent again (R15): what it carries arrives by the commands that carry it. -/
def execInterDieResend (s : State) : Host.Outcome State Fault Refusal := act s id

/-! Licence tokens (R572). -/

def licenceMessage (slot : Nat) : List Byte := toBytes 8 Config.serial ++ [BitVec.ofNat 8 slot]

/-- A write to 0xE010:slot: a token that verifies, or zeros. It is logged with zeros, as a key is (R478). -/
def licenceHandler (slot : Nat) (payload : List Byte) : Handler :=
  { checks := { auth := ofBytes payload != 0 && !signatureOk (Config.releaseKey 0) (licenceMessage slot) payload }
    commit := fun s => { s with keys := { s.keys with tokens := mapSet natD s.keys.tokens slot (ofBytes payload) } } }

/-- 0xE010:0010. -/
def State.tokensHeld (s : State) : Word :=
  (List.range 16).foldl (fun v i => if mapGet natD s.keys.tokens i = 0 then v else v + 2 ^ i) 0

def execLicenceTokenWrite (rq : Rq) (slot : Nat) (payload : List Byte) (s : State) : Host.Outcome State Fault Refusal :=
  act s fun s => request s rq opWrite 0xE010 slot payload (licenceHandler slot payload)

end Sys2Proof.Machine
end

