-- ==== Sys2Proof/Machine/Debug.lean ====
section
/-! DEFINITION. The debug port's instructions, the lifecycle states, opening and relocking (R566, R569-R571). Each command is
an instruction with the act of its data register. -/

namespace Sys2Proof.Machine

/-- The lifecycle state (R569) as 0xE000:0000 codes it (R509). -/
def State.lifecycle (s : State) : Nat :=
  if s.dbg.development then 0 else if s.dbg.relocks < s.dbg.openings then 2 else 1

/-- Whether the debug master is connected and the port allows EXTEST and DEBUG_ACCESS (R569). -/
def State.debugOpen (s : State) : Bool := s.lifecycle != 1

/-- Whether an instruction is allowed now (R566); an unlisted code is not. -/
def State.irAllowed (s : State) (code : Nat) : Bool :=
  match code with
  | 0x00 => s.debugOpen
  | 0x01 => true
  | 0x02 => true
  | 0x10 => s.mode == .frozen
  | 0x11 => s.mode == .frozen
  | 0x20 => true
  | 0x21 => s.lifecycle == 1
  | 0x22 => s.lifecycle == 1
  | 0x23 => s.lifecycle == 2
  | 0x30 => s.debugOpen
  | 0xFF => true
  | _ => false

/-- An instruction loaded, with what its data register does; one that is not allowed acts as BYPASS (R566). -/
def instruct (s : State) (code : Nat) (f : State → State) : Host.Outcome State Fault Refusal :=
  act s fun s =>
    if s.irAllowed code then f { s with dbg := { s.dbg with ir := code } }
    else { s with dbg := { s.dbg with ir := 0xFF } }

/-- A data register's value at TDO. -/
def shiftOut (len : Nat) (v : Word) (s : State) : State := s.emit (.tdo (toBytes len v))

/-- TRST_N low (R566): IEEE 1149.1 has IDCODE loaded then. -/
def execTrstReset (s : State) : Host.Outcome State Fault Refusal := act s fun s => { s with dbg := { s.dbg with ir := 0x02 } }

/-- The pins follow the boundary scan register (R566); what each of its bits drives is not stated. -/
def execExtest (s : State) : Host.Outcome State Fault Refusal := instruct s 0x00 id

/-- The boundary scan register takes the pins' levels: a free value (R566). -/
def execSamplePreload (s : State) : Host.Outcome State Fault Refusal :=
  instruct s 0x01 fun s => { s with dbg := { s.dbg with scan := s.drawn Config.boundaryLength } }.draw

/-- IDCODE (R566). -/
def idcodeWord : Word := Config.mediaRev.toNat * 2 ^ 28 + 0x2048 * 2 ^ 12 + 0x5A6 * 2 + 1

def execIdcode (s : State) : Host.Outcome State Fault Refusal := instruct s 0x02 (shiftOut 4 idcodeWord)

/-- BYPASS, an unlisted code, or an instruction that is not allowed (R566). -/
def execBypass (code : Nat) (s : State) : Host.Outcome State Fault Refusal :=
  act s fun s => { s with dbg := { s.dbg with ir := if s.irAllowed code then code else 0xFF } }

/-- LIFECYCLE (R566). -/
def State.lifecycleWord (s : State) : Word :=
  Config.serial * 2 ^ 64 + s.lifecycle * 2 ^ 56 + s.dbg.lastOpen * 2 ^ 48 + (32 - s.dbg.openings) * 2 ^ 40 + s.dbg.openings

def execLifecycle (s : State) : Host.Outcome State Fault Refusal := instruct s 0x20 fun s => shiftOut 16 s.lifecycleWord s

/-- 0xE000:0002 (R569): the identity public key. -/
def State.identityPublic (s : State) : Word :=
  match s.dbg.development, s.keys.identity with
  | false, some k => (Config.ed25519Public k).toNat
  | _, _ => 0

/-- Whether R570's steps are carried out in the present mode. -/
def State.opens (s : State) : Bool := s.mode == .service || s.mode == .faulted

/-- A fresh challenge on Capture-DR (R570): none after four failures, or in another mode, when what is shifted out is open. -/
def challenge (s : State) : State :=
  if s.opens = true ∧ s.dbg.failures < 4 then
    let head := toBytes 8 Config.serial ++ toBytes 4 s.dbg.openings ++ toBytes 32 (s.drawn 256) ++ toBytes 32 s.identityPublic
    let s := s.draw
    let r : Word × State := match s.keys.identity with
      | some k => ((Config.ed25519Sign k (sha512 head)).toNat, s)
      | none => (s.drawn 512, s.draw)
    let c := head ++ toBytes 64 r.1
    let s := r.2
    { s with dbg := { s.dbg with challenge := some c } }.emit (.tdo c)
  else (shiftOut 140 (s.drawn 1120) s).draw

def execOpenChallenge (s : State) : Host.Outcome State Fault Refusal := instruct s 0x21 challenge

/-- A response refused (R570): the challenge goes, a NOTE is declared. -/
def openingRefused (s : State) (status : Nat) : State :=
  let s := { s with dbg := { s.dbg with lastOpen := status, challenge := none, failures := s.dbg.failures + 1 } }
  declareFault s 0x161 status

/-- The key store erased and read back; then debug opened (R570, steps 4-8). -/
def openDebug (s : State) (failing : Option Nat) : State :=
  let s := { s with keys := {} }
  match failing with
  | some w => declareFault { s with dbg := { s.dbg with lastOpen := 6 } } 0x162 w
  | none =>
    let s := logEvent s 0xE000 0 (logValue 1 1) (logValue 1 2)
    let s := declareFault { s with dbg := { s.dbg with lastOpen := 1 } } 0x160 s.dbg.openings
    { s with dbg := { s.dbg with openings := s.dbg.openings + 1 } }

/-- OPEN_RESPONSE (R570). -/
def openResponse (sig : List Byte) (failing : Option Nat) (s : State) : State :=
  if !s.opens then { s with dbg := { s.dbg with lastOpen := 3 } }
  else if 32 ≤ s.dbg.openings then { s with dbg := { s.dbg with lastOpen := 5 } }
  else
    match s.dbg.challenge with
    | none => openingRefused s 4
    | some c => if signatureOk Config.debugAuthorityKey c sig then openDebug s failing else openingRefused s 2

def execOpenResponse (signature : List Byte) (failing : Option Nat) (s : State) : Host.Outcome State Fault Refusal :=
  instruct s 0x22 (openResponse signature failing)

/-- RELOCK (R571): a new identity key (R569). -/
def relock (v : Word) (s : State) : State :=
  if v % 256 = 0xA5 then
    let s := { s with
      dbg := { s.dbg with relocks := s.dbg.relocks + 1 }
      keys := { s.keys with identity := some (BitVec.ofNat 256 (s.drawn 256)) } }.draw
    logEvent s 0xE000 0 (logValue 1 2) (logValue 1 1)
  else s

def execRelock (v : Word) (s : State) : Host.Outcome State Fault Refusal := instruct s 0x23 (relock v)

/-- 0xE000:0000-0002 (R509, R569). -/
def State.securityWord (s : State) (sub : Nat) : Word :=
  if sub = 0 then s.lifecycle else if sub = 1 then s.dbg.openings else s.identityPublic

end Sys2Proof.Machine
end

