-- ==== Sys2Proof/Machine/FieldBank.lean ====
section
/-! DEFINITION. The field bank and the field ports' lines (R592-R606). -/

namespace Sys2Proof.Machine

def State.fline (s : State) (n : Nat) : FieldLine := mapGet fieldLineD s.fieldBank.lines n
def State.setFline (s : State) (n : Nat) (x : FieldLine) : State :=
  { s with fieldBank := { s.fieldBank with lines := mapSet fieldLineD s.fieldBank.lines n x } }

/-- MODE of a line (R593): 1 INPUT, 2 OUTPUT. -/
def State.lineMode (s : State) (n : Nat) : Nat := s.field 0xC000 n 31 30

/-- Whether VFIELD is normal (R603); before its first measurement it is not taken to be. -/
def State.vfieldOk (s : State) : Bool := s.fieldBank.vfState == 1

/-- Whether the bank may drive outputs and sense currents (R597, R604, R557). -/
def State.bankDriven (s : State) : Bool :=
  let m := if s.mode = .frozen then s.faults.frozenMode.getD .frozen else s.mode
  m != .dormant && m != .boot && m != .service && !s.boot.inReset && s.drives && !s.exairStopped

/-! Tally rules (R599). -/

/-- A tally rule's fields in range (R599). -/
def ruleRange (v : Word) : Bool :=
  let kind := bits v 127 124
  let src := bits v 111 100
  decide (4 < kind) ||
    (kind == 1 && (decide (2079 < src) || decide (2047 < bits v 95 84) || decide (2047 < bits v 83 72) ||
      decide (bits v 83 72 < bits v 95 84))) ||
    (kind == 2 && decide (2047 < src)) || (kind == 3 && decide (2079 < src))

/-- Whether a layer that is enabled, neither stale nor absent, shows a source. -/
def State.layerShows (s : State) (i src : Nat) : Bool :=
  let x := s.layer i
  bit (s.airElem (0x8100 + i) 0) 31 && !x.stale && !x.absent &&
    (match x.shown with
     | some c => c.geom.source == src
     | none => false)

/-- What a tally rule commands (R599). -/
def State.ruleOn (s : State) (v : Word) : Bool :=
  let src := bits v 111 100
  let on := match bits v 127 124 with
    | 0 => bit v 122
    | 1 => (List.range (bits v 83 72 + 1 - bits v 95 84)).any fun k => s.airElem 0x5000 (bits v 95 84 + k) == src
    | 2 => s.inState src == 1
    | 3 => (List.range 64).any fun l => s.layerShows (64 * bits v 71 68 + l) src
    | _ => s.errLow
  on != bit v 123

/-- Whether output line `n` is commanded on (R599). -/
def State.commanded (s : State) (n : Nat) : Bool := s.lineMode n == 2 && s.ruleOn (s.eff 0xC100 n)

/-- An output's driver follows its command (R599, R600, R603, R604): a latched line stays off, its first retry due at once
when it is next commanded on; where the bank is not driven the state is kept. -/
def settleLine (s : State) (n : Nat) : State :=
  let x := s.fline n
  if s.lineMode n ≠ 2 ∨ x.hold.isSome = true then s
  else if s.vfieldOk = false then (if x.st = 5 then s else s.setFline n { x with st := 5 })
  else if s.bankDriven = false then s
  else
    let command := s.commanded n
    let on := command && x.latched.isNone
    let st := if on then 6 else 5
    let retry := x.latched.map fun t => if command then t else minRat [t, s.up]
    if x.st = st ∧ x.latched = retry then s
    else s.setFline n { x with st := st, latched := retry, onAt := if on then some s.up else x.onAt }

/-- A source of the field bank is ACTIVE while some line or port has its condition (R553, R606). -/
def settleSource (n : Nat) (now : Bool) (s : State) : State := if now || !(s.source n).active then s else clearActive s n

def State.anyLine (s : State) (f : FieldLine → Bool) : Bool := (List.range 32).any fun n => f (s.fline n)

def settleBank (s : State) : State :=
  settleSource 0x140 (s.anyLine fun x => x.latched.isSome) <| settleSource 0x141 (s.anyLine fun x => x.contention) <|
    settleSource 0x142 (s.anyLine fun x => x.openLoad) <| settleSource 0x144 (s.anyLine fun x => x.st == 1 || x.st == 4) s

def settleLines (s : State) : State := settleBank ((List.range 32).foldl settleLine s)

/-- Field-bank supervision runs: not in DORMANT, FROZEN or reset (R17, R563). -/
def onLine (n : Nat) (s : State) (f : State → State) : Host.Outcome State Fault Refusal :=
  if n < 32 then act s fun s => if s.running then settleLines (f s) else s else .fault .noSuchUnit

/-- The commanded states follow an output's route at its switch point (R244, R599). -/
def execOutputSwitchPoint (j : Nat) (s : State) : Host.Outcome State Fault Refusal :=
  onUnit j 2048 s fun s => settleLines (switchOutput s j)

/-! Configuration (R593, R594). -/

/-- A line configuration's fields in range (R593). -/
def lineRange (v : Word) : Bool :=
  match bits v 31 30 with
  | 0 => bits v 29 12 != 0
  | 1 =>
    let action := bits v 21 19
    let salvo := bits v 18 13
    bits v 27 22 == 0 || decide (50 < bits v 27 22) || decide (3 < action) || (action == 2 && decide (62 < salvo)) ||
      ((action == 0 || action == 3) && salvo != 0) || bit v 12
  | 2 => bits v 29 13 != 0
  | _ => true

/-- A write to 0xC000:n (R594). -/
def lineHandler (s : State) (n : Nat) (payload : List Byte) : Handler :=
  let v := ofBytes payload
  { plainHandler s 0xC000 n payload { range := lineRange v } with
    commit := fun s =>
      let x := s.fline n
      let moved := bits v 31 30 != s.lineMode n
      let s := s.put 0xC000 n v
      if moved then settleBank (s.setFline n { value := x.value, hold := some (s.up + 1000000) })
      else s.setFline n { x with runSt := 0, runLen := 0 } }

def ruleHandler (s : State) (n : Nat) (payload : List Byte) : Handler :=
  let h := plainHandler s 0xC100 n payload { range := ruleRange (ofBytes payload) }
  { h with commit := fun s => whenRunning (h.commit s) settleLines }

/-- The elements 0xC000-0xC300. -/
def fieldElement (s : State) (idx sub : Nat) (payload : List Byte) : Handler :=
  if idx = 0xC000 then lineHandler s sub payload
  else if idx = 0xC100 then ruleHandler s sub payload
  else zeroHandler s idx sub payload

def execFieldLineConfigWrite (rq : Rq) (line : Nat) (v : Word) (s : State) : Host.Outcome State Fault Refusal :=
  act s fun s => request s rq opWrite 0xC000 line (valueBytes rq v) (lineHandler s line (valueBytes rq v))

def execTallyRuleWrite (rq : Rq) (line : Nat) (v : Word) (s : State) : Host.Outcome State Fault Refusal :=
  act s fun s => request s rq opWrite 0xC100 line (valueBytes rq v) (ruleHandler s line (valueBytes rq v))

/-- The hold after a change of MODE ends (R594): the state starts from unknown. -/
def holdEnd (s : State) (n : Nat) : State :=
  let x := s.fline n
  match x.hold with
  | some t => if t ≤ s.up then s.setFline n { x with hold := none, st := 0 } else s
  | none => s

def execFieldLineHoldEnd (line : Nat) (s : State) : Host.Outcome State Fault Refusal := onLine line s fun s => holdEnd s line

/-! Inputs (R595-R597). -/

/-- The state a loop resistance reads (R595): 1 OPEN, 2 INACTIVE, 3 ACTIVE, 4 SHORT. -/
def loopState (v : Word) (ohms : Nat) : Nat :=
  let nc := bit v 28
  let closed := if nc then 2 else 3
  let open_ := if nc then 3 else 2
  if bit v 29 then
    (if ohms < 500 then 4 else if ohms < 4000 then closed else if ohms ≤ 25000 then open_ else 1)
  else if ohms < 4000 then closed else open_

/-- Whether a member skips measurements, 100 µs round a handover's TP (R597). -/
def State.nearHandover (s : State) : Bool :=
  match s.pair.handover with
  | some (t, _) => decide (t - 100000 ≤ s.now) && decide (s.now ≤ t + 100000)
  | none =>
    let t := s.tpTime 0 s.pair.lastChangeTp
    decide (5 ≤ s.pair.lastChange) && decide (s.pair.lastChange ≤ 7) && s.planeOn 0 && decide (t ≤ s.now) &&
      decide (s.now ≤ t + 100000)

/-- Whether an input line is sensed and judged now: a member without the claim takes its states from the active. -/
def State.sensed (s : State) (n : Nat) : Bool :=
  s.lineMode n == 1 && (s.fline n).hold.isNone && s.bankDriven && s.vfieldOk && !s.nearHandover

/-- A measurement, every 250 µs (R595, R596): it continues the run that agrees with it or starts one. -/
def measureLine (s : State) (n ohms : Nat) : State :=
  if s.sensed n then
    let x := s.fline n
    let st := loopState (s.elem 0xC000 n) ohms
    s.setFline n { x with
      value := min 0xFFFF (ohms / 10), runSt := st, runLen := if x.runSt = st ∧ 0 < x.runLen then x.runLen + 1 else 1 }
  else s

def execFieldInputMeasure (line ohms : Nat) (s : State) : Host.Outcome State Fault Refusal :=
  onLine line s fun s => measureLine s line ohms

/-- An ABORT of scope 0x1F by an input line (R596, R248): LOCAL, session 0, with no reply and no reply record. -/
def fieldAbort (s : State) : State :=
  let r := s.req.records
  let rq : Rq := { port := .stream, len := 4, typ := 0x13 }
  let s := abortAny { s with req := { s.req with records := [] } } rq (toBytes 4 0x1F)
  { s with req := { s.req with records := r } }

/-- What an accepted change does (R596): counted; a wiring fault declared; the line's action, except in SERVICE and in
FAULTED. -/
def acceptLine (s : State) (n st : Nat) : State :=
  let x := s.fline n
  let old := x.st
  let v := s.elem 0xC000 n
  let s := (s.setFline n { x with st := st }).count 0xC300 n
  let s := settleBank (if st = 1 ∨ st = 4 then declareFault s 0x144 n true else s)
  if s.mode = .service ∨ s.mode = .faulted then s
  else
    let action := bits v 21 19
    if old = 2 ∧ st = 3 then
      (if action = 1 ∨ action = 2 then fireFromField s (bits v 18 13) else if action = 3 then fieldAbort s else s)
    else if old = 3 ∧ st = 2 ∧ action = 2 then fireFromField s (bits v 18 13 + 1)
    else s

/-- The measurement DEBOUNCE ms after the first of an unbroken run accepts its state (R596). -/
def acceptRun (s : State) (n : Nat) : State :=
  let x := s.fline n
  if s.sensed n = true ∧ s.mirrored = false ∧ x.runSt ≠ x.st ∧ 4 * s.field 0xC000 n 27 22 + 1 ≤ x.runLen then
    mirror (acceptLine s n x.runSt) 7 n x.runSt
  else s

def execFieldInputAccept (line : Nat) (s : State) : Host.Outcome State Fault Refusal := onLine line s fun s => acceptRun s line

/-! Outputs (R598-R602). -/

/-- Since when a condition has held. -/
def heldSince (now : Bool) (since : Option Rat) (t : Rat) : Option Rat := aboveSince now since t

/-- A condition that has held for `d` ns. -/
def State.heldFor (s : State) (since : Option Rat) (d : Rat) : Bool :=
  match since with
  | some t => decide (t + d ≤ s.up)
  | none => false

/-- Whether an output's line is judged: driven, powered and out of its hold. -/
def State.outputLive (s : State) (n : Nat) : Bool :=
  s.lineMode n == 2 && (s.fline n).hold.isNone && s.bankDriven && s.vfieldOk

/-- A readback, every 250 µs, in 10 mV (R601, R602). -/
def readback (s : State) (n volts : Nat) : State :=
  if s.lineMode n = 2 then
    let x := { s.fline n with value := min 0xFFFF volts }
    if s.outputLive n then
      let on := s.commanded n
      let mismatch := if on then decide (200 < volts) else decide (volts < 200)
      let judged := x.latched.isNone
      let sense := !on && s.flag 0xC000 n 12
      s.setFline n { x with
        mismatchAt := heldSince (judged && mismatch) x.mismatchAt s.up
        matchAt := heldSince (judged && !mismatch) x.matchAt s.up
        openAt := heldSince (sense && decide (300 ≤ volts) && decide (volts ≤ 700)) x.openAt s.up
        loadAt := heldSince (decide (700 < volts)) x.loadAt s.up }
    else s.setFline n { x with mismatchAt := none, matchAt := none, openAt := none, loadAt := none }
  else s

def execFieldOutputReadback (line volts : Nat) (s : State) : Host.Outcome State Fault Refusal :=
  onLine line s fun s => readback s line volts

/-- Contention on another output whose last change to on came within 1 ms before the mismatch began (R601); its 10 ms without
mismatch count from its next readback. -/
def alsoContends (since : Rat) (n : Nat) (s : State) (m : Nat) : State :=
  let x := s.fline m
  match x.onAt with
  | some t =>
    if m ≠ n ∧ s.lineMode m = 2 ∧ since - 1000000 ≤ t ∧ t ≤ since then s.setFline m { x with contention := true, matchAt := none } else s
  | none => s

/-- A mismatch of 10 ms (R601). -/
def contends (s : State) (n : Nat) : State :=
  let x := s.fline n
  match x.mismatchAt with
  | some t =>
    if s.heldFor x.mismatchAt 10000000 = true ∧ x.contention = false ∧ x.latched = none then
      (List.range 32).foldl (alsoContends t n) (declareFault (s.setFline n { x with contention := true }) 0x141 n true)
    else s
  | none => s

def execContentionDeclare (line : Nat) (s : State) : Host.Outcome State Fault Refusal := onLine line s fun s => contends s line

def contentionEnds (s : State) (n : Nat) : State :=
  let x := s.fline n
  if s.heldFor x.matchAt 10000000 = true ∧ x.latched = none then s.setFline n { x with contention := false } else s

def execContentionClear (line : Nat) (s : State) : Host.Outcome State Fault Refusal := onLine line s fun s => contentionEnds s line

/-- The current at its limit for 500 µs, or the driver too hot (R600): latched off. -/
def overcurrent (s : State) (n : Nat) : State :=
  let x := s.fline n
  if s.outputLive n = true ∧ x.st = 6 ∧ x.latched = none then
    let s := s.setFline n { x with latched := some (s.up + 100000000), st := 5, mismatchAt := none, matchAt := none }
    declareFault (s.count 0xC300 n) 0x140 n true
  else s

def execOutputOvercurrent (line : Nat) (s : State) : Host.Outcome State Fault Refusal := onLine line s fun s => overcurrent s line

/-- A retry of a latched line that is commanded on (R600), every 100 ms; the current at its limit keeps the latch. -/
def retryLine (s : State) (n : Nat) (atLimit : Bool) : State :=
  let x := s.fline n
  match x.latched with
  | some t =>
    if s.outputLive n = true ∧ s.commanded n = true ∧ t ≤ s.up then
      s.setFline n { x with latched := if atLimit then some (s.up + 100000000) else none }
    else s
  | none => s

def execOvercurrentRetry (line : Nat) (atLimit : Bool) (s : State) : Host.Outcome State Fault Refusal :=
  onLine line s fun s => retryLine s line atLimit

/-- 3.0-7.0 V for 100 ms on a line commanded off with OPEN_SENSE (R602). -/
def openLoads (s : State) (n : Nat) : State :=
  let x := s.fline n
  if s.heldFor x.openAt 100000000 = true ∧ x.openLoad = false then
    declareFault (s.setFline n { x with openLoad := true }) 0x142 n true
  else s

def execOpenLoadDeclare (line : Nat) (s : State) : Host.Outcome State Fault Refusal := onLine line s fun s => openLoads s line

def openLoadEnds (s : State) (n : Nat) : State :=
  let x := s.fline n
  if s.heldFor x.loadAt 100000000 then s.setFline n { x with openLoad := false } else s

def execOpenLoadClear (line : Nat) (s : State) : Host.Outcome State Fault Refusal := onLine line s fun s => openLoadEnds s line

/-! Supply (R603) and reports (R605). -/

/-- Every input unknown, with no run (R603). -/
def forgetInputs (s : State) : State :=
  (List.range 32).foldl (fun s n =>
    if s.lineMode n = 1 then s.setFline n { s.fline n with st := 0, runSt := 0, runLen := 0 } else s) s

/-- VFIELD judged, every 1 ms, in 0.1 V (R603). -/
def judgeVfield (s : State) (v : Int) : State :=
  let f := s.fieldBank
  let low := aboveSince (decide (v < 105)) f.lowAt s.up
  let rev := aboveSince (decide (v < -10)) f.revAt s.up
  let s := { s with fieldBank := { f with volts := v, lowAt := low, revAt := rev } }
  let st := if 110 ≤ v then 1 else if s.heldFor rev 10000000 then 3 else if s.heldFor low 10000000 then 2 else f.vfState
  if st = f.vfState then s
  else
    let s := { s with fieldBank := { s.fieldBank with vfState := st } }
    if st = 1 then clearActive s 0x143 else forgetInputs (declareFault s 0x143 0 true)

def execVfieldCheck (volts : Int) (s : State) : Host.Outcome State Fault Refusal :=
  act s fun s => if s.running then settleLines (judgeVfield s volts) else s

/-- 0xC200:n (R605). -/
def State.lineWord (s : State) (n : Nat) : Word :=
  let x := s.fline n
  let mode := s.lineMode n
  x.st * 2 ^ 29 + ofBool x.latched.isSome * 2 ^ 28 + ofBool x.contention * 2 ^ 27 + ofBool x.openLoad * 2 ^ 26 +
    ofBool (s.commanded n) * 2 ^ 25 + ofBool (mode != 0 && (!s.bankDriven || !s.vfieldOk)) * 2 ^ 24 +
    (if mode = 0 then 0 else x.value)

def State.fieldPort (s : State) (p : Nat) : PortLine := if p = 0 then s.fieldBank.portA else s.fieldBank.portB
def State.setFieldPort (s : State) (p : Nat) (x : PortLine) : State :=
  { s with fieldBank := if p = 0 then { s.fieldBank with portA := x } else { s.fieldBank with portB := x } }

def PortLine.code (x : PortLine) : Nat := if x.stuck then 4 else x.st

/-- 0xC400:0000 (R605). -/
def State.monitorWord (s : State) : Word :=
  let f := s.fieldBank
  f.vfState * 2 ^ 30 + f.portA.code * 2 ^ 27 + f.portB.code * 2 ^ 24 + ofBool f.therm * 2 ^ 23 +
    min 511 f.volts.toNat * 2 ^ 14 + ofSigned 14 f.tj

/-! The field ports' lines (R592). -/

def settleFieldPorts (s : State) : State := settleSource 0x145 ([s.fieldBank.portA, s.fieldBank.portB].any fun x => decide (2 ≤ x.code)) s

/-- The amplitude of a frame sent, in mV peak-to-peak; while the line is STUCK it is not judged. -/
def judgeAmplitude (s : State) (p mv : Nat) : State :=
  let x := s.fieldPort p
  if x.stuck then s
  else
    let low := if mv < 300 then x.low + 1 else 0
    let high := if 1600 < mv then x.high + 1 else 0
    let good := if 600 ≤ mv ∧ mv ≤ 1400 then x.good + 1 else 0
    let st := if low = 3 then 3 else if high = 3 then 2 else if x.st = 0 ∨ 8 ≤ good then 1 else x.st
    let s := s.setFieldPort p { x with st := st, low := low, high := high, good := good }
    if (low = 3 ∧ x.st ≠ 3) ∨ (high = 3 ∧ x.st ≠ 2) then declareFault s 0x145 p true else settleFieldPorts s

def execFieldPortLineCheck (port amplitude : Nat) (s : State) : Host.Outcome State Fault Refusal :=
  onUnit port 2 s fun s => judgeAmplitude s port amplitude

def portStuck (s : State) (p : Nat) : State :=
  let x := s.fieldPort p
  if x.stuck then s else declareFault (s.setFieldPort p { x with stuck := true, low := 0, high := 0, good := 0 }) 0x145 p true

def execFieldPortStuck (port : Nat) (s : State) : Host.Outcome State Fault Refusal := onUnit port 2 s fun s => portStuck s port

def execFieldPortStuckClear (port : Nat) (s : State) : Host.Outcome State Fault Refusal :=
  onUnit port 2 s fun s => settleFieldPorts (s.setFieldPort port { s.fieldPort port with stuck := false })

end Sys2Proof.Machine
end

