-- ==== Sys2Proof/Machine/Write.lean ====
section
/-! DEFINITION. A write to any element of the dictionary, by its element's own rule (R236, R262, R475); block writes and block
transfers (R459, R460). -/

namespace Sys2Proof.Machine

/-! Which rule takes a write, by index range (R488, R489). -/

def controlElement (s : State) (rq : Rq) (idx sub : Nat) (payload : List Byte) : Handler :=
  if idx = 0x0011 then modeHandler s payload
  else if idx = 0x1100 then
    (if sub = 0 then (if takeCascade (ofBytes payload) then cascadeTakeHandler s rq payload else takeHandler s rq payload)
     else if sub = 1 then (if bit (ofBytes payload) 28 then cascadeAbortHandler s rq payload else abortHandler s rq payload)
     else discardHandler s payload)
  else if idx = 0x1101 then zeroHandler s idx sub payload
  else if idx = 0x1110 then (if sub < 0x40 then salvoHandler s sub payload else fireHandler s rq payload)
  else if idx = 0x1300 then windowHandler s sub payload
  else dumusHandler s rq idx sub payload

def referenceElement (s : State) (rq : Rq) (idx sub : Nat) (payload : List Byte) : Handler :=
  if idx = 0x2010 then planeHandler s sub payload
  else if idx = 0x2100 then candidateConfig s sub payload
  else if idx = 0x2110 then (if sub = 0x20 then refselHandler s rq payload else priorityHandler s sub payload)
  else if idx = 0x2140 ∧ sub = 2 then manualHandler payload
  else if idx = 0x2200 then zeroHandler s idx sub payload fun s => s.events.length
  else timebaseHandler s idx sub payload

/-- A write to a port's counter (R159, R194): OUT_OF_RANGE for a partner lane. -/
def portCounterHandler (s : State) (sub : Nat) (payload : List Byte) : Handler :=
  let h := zeroHandler s 0x3500 sub payload
  { h with checks := { h.checks with range := h.checks.range || (s.leaderOf (sub % 256)).isSome } }

def laneElement (s : State) (idx sub : Nat) (payload : List Byte) : Handler :=
  if idx = 0x3300 then equaliserHandler s sub payload
  else if idx = 0x3400 then (if sub < 0x100 then diagHandler s sub payload else laneCounterHandler s sub payload)
  else if idx = 0x3500 then (if sub < 0x600 then portHandler s sub payload else portCounterHandler s sub payload)
  else laneHandler s idx sub payload

def intakeElement (s : State) (idx sub : Nat) (payload : List Byte) : Handler :=
  if idx = 0x4300 then zeroHandler s idx sub payload
  else if idx = 0x4400 then (if sub < 0x1000 then rxHandler s sub payload else zeroHandler s idx sub payload)
  else if idx = 0x4200 ∧ 0x800 ≤ sub then flowImmediate s idx sub payload
  else flowHandler s idx sub payload

def fabricElement (s : State) (rq : Rq) (idx sub : Nat) (payload : List Byte) : Handler :=
  if idx = 0x5000 then routeHandler s rq sub payload
  else if idx = 0x5010 then protectHandler s rq sub payload
  else if idx = 0x5100 then latencyHandler s sub payload
  else if idx = 0x5300 then zeroHandler s idx sub payload State.cellsNow
  else if idx = 0x5400 then (if sub < 0x10 then flowHandler s idx sub payload else flowImmediate s idx sub payload)
  else if idx = 0x5500 then
    zeroHandler s idx sub payload fun s => if sub = 5 then poolBlocks - s.poolUsed else 0
  else if idx = 0x5520 then audioHandler s idx sub payload
  else if idx = 0x5530 then windowConfHandler s sub payload
  else zeroHandler s idx sub payload

def playoutElement (s : State) (idx sub : Nat) (payload : List Byte) : Handler :=
  if idx = 0x6000 ∧ 0x1800 ≤ sub then flowImmediate s idx sub payload
  else if idx = 0x6300 then (if sub < 0x1000 then txHandler s sub payload else zeroHandler s idx sub payload)
  else if idx = 0x6400 then zeroHandler s idx sub payload
  else flowHandler s idx sub payload

/-- The rule that takes a write to an element: a flow bound to the cascade under R400. -/
def elementHandler (s : State) (rq : Rq) (idx sub : Nat) (payload : List Byte) : Handler :=
  match idx / 4096 with
  | 0x0 => controlElement s rq idx sub payload
  | 0x1 => controlElement s rq idx sub payload
  | 0x2 => referenceElement s rq idx sub payload
  | 0x3 => laneElement s idx sub payload
  | 0x4 =>
    if idx = 0x4000 ∧ sub < 0x800 ∧ bindKind (ofBytes payload) = 3 then tetherBind s sub payload
    else intakeElement s idx sub payload
  | 0x5 => fabricElement s rq idx sub payload
  | 0x6 => playoutElement s idx sub payload
  | 0x7 => if idx = 0x7210 then loadHandler s sub payload else audioHandler s idx sub payload
  | 0x8 => if idx = 0x8900 ∧ sub = 0x140 then captureHandler s rq payload else compHandler s idx sub payload
  | 0x9 => pairElement s rq idx sub payload
  | 0xA => tetherHandler s idx sub payload
  | 0xB => integrityElement s rq idx sub payload
  | 0xC => fieldElement s idx sub payload
  | 0xD => bootElement s idx sub payload
  | 0xE => licenceHandler sub payload
  | _ => {}

/-- What completes at once after an element's request was answered OK_PENDING: a stored sprite (R372); a tether binding whose
stream already crosses to this node, or has no path (R400). -/
def settleElement (s : State) (idx sub : Nat) : State :=
  if idx = 0x8900 ∧ 0x100 ≤ sub ∧ sub < 0x140 then finishWaiting s idx sub stOk []
  else if idx = 0x4000 ∧ sub < 0x800 then
    match (s.remoteOf sub).asked with
    | some w =>
      (match s.stream? (bindOrigin w).1 (bindOrigin w).2 with
       | some t => if t.pending then s else completeRemote t s sub
       | none => refuseRemote s sub 0x0C)
    | none => s
  else s

/-- A request that changes one element (R475). -/
def writeElement (s : State) (rq : Rq) (op idx sub : Nat) (payload : List Byte) : State :=
  let h := elementHandler s rq idx sub payload
  let t := request s rq op idx sub payload h
  if s.accepts rq op idx sub payload h.checks then settleElement t idx sub else t

def execWrite (rq : Rq) (index sub : Nat) (payload : List Byte) (s : State) : Host.Outcome State Fault Refusal :=
  act s fun s => writeElement s rq opWrite index sub payload

/-- A write to a banked element (R236): on any other element the command changes nothing. -/
def execShadowWrite (rq : Rq) (index sub : Nat) (v : Word) (s : State) : Host.Outcome State Fault Refusal :=
  act s fun s => if (bankOf index sub).isSome then writeElement s rq opWrite index sub (valueBytes rq v) else s

/-- Whether an element is structural (R262, R489). -/
def isStructural (idx sub : Nat) : Bool :=
  match dictRow idx sub with
  | some r => r.attr == .structural
  | none => false

/-- A write to a structural element (R262): on any other element the command changes nothing. -/
def execStructuralWrite (rq : Rq) (index sub : Nat) (v : Word) (s : State) : Host.Outcome State Fault Refusal :=
  act s fun s => if isStructural index sub then writeElement s rq opWrite index sub (valueBytes rq v) else s

/-! Block writes (R459). -/

/-- The fixed size of an element, none where its length may differ. -/
def fixedSize (idx sub : Nat) : Option Nat :=
  match dictRow idx sub with
  | some r => if r.sizeLo = r.sizeHi then some r.sizeHi else none
  | none => none

/-- The first `n` runs of `size` bytes. -/
def chunks (size : Nat) : Nat → List Byte → List (List Byte)
  | 0, _ => []
  | n + 1, l => l.take size :: chunks size n (l.drop size)

/-- What the elements of a block make of a state in turn: the first failure and its reason, else their commits, each with its own
log entry, and whether one of them answers OK_PENDING. -/
def blockCommit (rq : Rq) (idx : Nat) : Nat → List (List Byte) → State → Bool → State × Option (Nat × Handler) × Bool
  | _, [], s, pend => (s, none, pend)
  | sub, p :: ps, s, pend =>
    let h := elementHandler s rq idx sub p
    let status := requestStatus s rq opBlockWrite idx sub p h.checks
    if status ≠ stOk then (s, some (status, h), pend)
    else
      let s := h.commit (appendLog s (requestEntry s rq idx sub (if h.pending then stPending else stOk) h false))
      let s := if h.pending then
          { s with req := { s.req with waiting := s.req.waiting ++ [{ rq := rq, index := idx, sub := sub }] } }
        else s
      blockCommit rq idx (sub + 1) ps s (pend || h.pending)

/-- What a block is refused with before its elements are judged: no one fixed size, or a length of no whole elements; more than
256; past the last sub-index. -/
def blockChecks (idx sub : Nat) (payload : List Byte) : Checks × Nat :=
  match fixedSize idx sub with
  | none => ({ type := (dictRow idx sub).isSome }, 0)
  | some n =>
    let k := payload.length / n
    let same := (List.range (min k 256)).all fun i => match dictRow idx (sub + i), dictRow idx sub with
      | some a, some b => a.typ == b.typ && a.sizeHi == b.sizeHi && a.sizeLo == b.sizeLo
      | _, _ => true
    ({ type := payload.length % n != 0 || payload.isEmpty || !same
       range := decide (256 < k)
       noSub := (List.range (min k 256)).any fun i => (dictRow idx (sub + i)).isNone }, k)

/-- A BLOCK_WRITE with FIRST and LAST (R459): one request of consecutive elements. -/
def blockElements (s : State) (rq : Rq) (idx sub : Nat) (payload : List Byte) : State :=
  if !s.takesUp rq then s
  else
    let s := countPort (unbuffer s rq opBlockWrite idx sub payload) rq.port 0
    match (if s.tagFails rq opBlockWrite idx sub payload then .new else s.seen rq) with
    | .again status data => sendReply s rq idx sub status data
    | _ =>
      let c := blockChecks idx sub payload
      -- MODE_REFUSED and LOG_FULL have their places in the order of R13 among each element's own checks
      let status := firstFailure
        ((checkList s rq opBlockWrite idx sub payload c.1).filter fun x => x.2 != stMode && x.2 != stLogFull)
      if status ≠ stOk then refuseRequest s rq opBlockWrite idx sub status { checks := c.1, new := logBytes payload }
      else
        let parts := chunks ((fixedSize idx sub).getD 1) c.2 payload
        let (t, bad, pend) := blockCommit rq idx sub parts s false
        match bad with
        | some (status, h) => refuseRequest s rq opBlockWrite idx sub status h
        | none =>
          let status := if pend then stPending else stOk
          let t := streamChange t rq opBlockWrite idx sub status payload []
          let t := sendReply (recordReply t rq status []) rq idx sub status []
          (List.range c.2).foldl (fun s i => settleElement s idx (sub + i)) t

/-! Block transfers (R460). -/

/-- Whether an element takes block transfers: OCTETS whose image may exceed 1,024 bytes. -/
def takesTransfer (idx sub : Nat) : Bool :=
  match dictRow idx sub with
  | some r => r.typ == 0x41 && decide (1024 < r.sizeHi)
  | none => false

/-- What every frame of a transfer is checked for beside R13's own checks: a bank load's refusals (R343), and at the first frame
the new rows of a sprite (R372). -/
def frameChecks (s : State) (rq : Rq) (idx sub : Nat) (payload : List Byte) : Checks :=
  if idx = 0x7210 then bankChecks s sub
  else if idx = 0x8900 ∧ rq.first then { range := uploadRange payload, admission := s.uploadOver payload }
  else {}

/-- The image of a transfer applies after its last frame (R460): a refusal is its NOTIFY's status. -/
def applyTransfer (s : State) (t : Transfer) : State :=
  let h := elementHandler s t.rq t.index t.sub t.data
  let status := firstFailure [(h.checks.auth, stAuth), (h.checks.access, stAccess), (h.checks.noSub, stNoSub),
    (h.checks.type, stType), (h.checks.range, stRange), (h.checks.mode, stMode), (h.checks.prot, stProtected),
    (h.checks.busy, stBusy), (h.checks.reseeding, stReseeding), (s.logRefuses t.rq opBlockWrite, stLogFull), (h.checks.late, stLate), (h.checks.headroom, stNoHeadroom),
    (h.checks.admission, stAdmission)]
  if status ≠ stOk then
    notify (h.refused status (logRefusal s t.rq opBlockWrite t.index t.sub status h)) t.rq t.index t.sub status []
  else
    let s := h.commit (appendLog s (requestEntry s t.rq t.index t.sub (if h.pending then stPending else stOk) h false))
    if h.pending then
      settleElement { s with req := { s.req with waiting := s.req.waiting ++ [{ rq := t.rq, index := t.index, sub := t.sub }] } }
        t.index t.sub
    else notify s t.rq t.index t.sub stOk []

/-- A frame of a transfer (R460). -/
def transferFrame (s : State) (rq : Rq) (idx sub : Nat) (payload : List Byte) : State :=
  if !s.takesUp rq then s
  else
    let s := countPort (unbuffer s rq opBlockWrite idx sub payload) rq.port 0
    match (if s.tagFails rq opBlockWrite idx sub payload then .new else s.seen rq) with
    | .again status data => sendReply s rq idx sub status data
    | _ =>
      let open_ := s.req.transfers.find? fun t => t.index == idx && t.sub == sub
      let expected := match open_ with
        | some t => !rq.first && t.rq.origin == rq.origin && t.rq.session == rq.session && t.nextSeq == rq.seq
        | none => false
      let f := frameChecks s rq idx sub payload
      let c : Checks := { f with
        type := f.type || !takesTransfer idx sub || (!rq.first && !expected)
        admission := f.admission || (rq.first && (open_.isSome || decide (8 ≤ s.req.transfers.length))) }
      -- LOG_FULL is the image's own, which alone makes an entry (R460, R482)
      let status := firstFailure ((checkList s rq opBlockWrite idx sub payload c).filter fun x => x.2 != stLogFull)
      if status = stType ∧ open_.isSome ∧ !rq.first ∧ !expected then sendReply s rq idx sub status []
      else if status ≠ stOk then refuseRequest s rq opBlockWrite idx sub status { checks := c, new := logBytes payload }
      else
        let seq := (rq.seq + 1) % 65536
        let t : Transfer := match (if rq.first then none else open_) with
          | some t => { t with nextSeq := seq, data := t.data ++ payload, last := s.up }
          | none => { rq := rq, index := idx, sub := sub, nextSeq := seq, data := payload, last := s.up }
        let others := s.req.transfers.filter fun x => !(x.index == idx && x.sub == sub)
        let s := { s with req := { s.req with transfers := if rq.last then others else others ++ [t] } }
        let s := if idx = 0x7210 then
            (if rq.first then startLoad s sub else s.setSpoolBank sub { s.spoolBank sub with frameAt := s.up })
          else s
        let s := sendReply (recordReply s rq stPending []) rq idx sub stPending []
        streamChange (if rq.last then applyTransfer s t else s) rq opBlockWrite idx sub stPending payload []

/-- A BLOCK_WRITE frame: consecutive elements, or the next part of a transfer. -/
def blockWrite (s : State) (rq : Rq) (idx sub : Nat) (payload : List Byte) : State :=
  if rq.first && rq.last && !takesTransfer idx sub then blockElements s rq idx sub payload
  else transferFrame s rq idx sub payload

def execBlockWrite (rq : Rq) (index sub : Nat) (payload : List Byte) (s : State) : Host.Outcome State Fault Refusal :=
  act s fun s => blockWrite s rq index sub payload

/-- A write of one coefficient, or a block of consecutive ones (R337). -/
def execCoefficientWrite (rq : Rq) (bank entry : Nat) (payload : List Byte) (s : State) : Host.Outcome State Fault Refusal :=
  act s fun s =>
    if payload.length ≤ 4 then writeElement s rq opWrite (0x7220 + bank % 2) entry payload
    else blockElements s rq (0x7220 + bank % 2) entry payload

/-- Any request that changes something, by its opcode (R452): TAKE and ABORT go to 0x1100. -/
def changeRequest (s : State) (rq : Rq) (op idx sub : Nat) (payload : List Byte) : State :=
  if op = opBlockWrite then blockWrite s rq idx sub payload
  else if op = opTake ∨ op = opAbort then
    let c : Checks := { noSub := (idx, sub) != (0x1100, op - opTake) }
    if c.noSub then request s rq op idx sub payload { checks := c, new := logBytes payload } else writeElement s rq op idx sub payload
  else writeElement s rq op idx sub payload

end Sys2Proof.Machine
end

