-- ==== Sys2Proof/Machine/Reports.lean ====
section
/-! DEFINITION. What each element reads: the values that reports compute from the state (R56, R88-R91, R142, R154, R192, R193,
R219, R220, R227, R270, R292, R300, R322, R323, R343, R349, R444, R495-R499). -/

namespace Sys2Proof.Machine

/-- A flag that shows an event of the last second. -/
def State.lastSecond (s : State) (t : Option Rat) : Bool :=
  match t with
  | some t => decide (s.up < t + 1000000000)
  | none => false

/-! 0x0000-0x1FFF. -/

/-- Device status, 0x0020 (R497). -/
def State.statusWord (s : State) : Word :=
  ofBool s.errLow * 2 ^ 31 + ofBool s.faults.firstFatal.isSome * 2 ^ 30 + s.ref.tb * 2 ^ 28 + s.mode.code * 2 ^ 24 +
    s.role * 2 ^ 21 + ofBool s.logFull * 2 ^ 20 + ofBool (s.anyBank 0x1F BankSt.armed) * 2 ^ 19 +
    ofBool (!s.moves.isEmpty) * 2 ^ 18 + ofBool s.boot.health.isSome * 2 ^ 17 + s.alarms

/-- The identity element, 0x0001 (R495). -/
def identityWord : Word :=
  0x2048 * 2 ^ 240 + Config.mediaRev.toNat * 2 ^ 232 + Config.exairRev.toNat * 2 ^ 224 + Config.serial * 2 ^ 160 +
    Config.baseMac * 2 ^ 112 + 0x504D323034382D4836342D58

def State.controlReport (s : State) (idx sub : Nat) : Option Word :=
  if idx = 0x0001 then some identityWord
  else if idx = 0x0010 then some s.mode.code
  else if idx = 0x0020 then some s.statusWord
  else if idx = 0x1001 ∧ sub = 2 then some (dumusMac .dumusA)
  else if idx = 0x1001 ∧ sub = 3 then some (dumusMac .dumusB)
  else if idx = 0x1020 then some s.keysHeld
  else if idx = 0x1101 ∧ sub = 0 then some s.setStatus
  else if idx = 0x1110 then some s.salvoTotal
  else if idx = 0x1200 ∧ sub = 1 then some s.logNewest
  else if idx = 0x1200 ∧ sub = 2 then some s.logOldest
  else if idx = 0x1200 ∧ sub = 4 then some s.log.entries.length
  else if idx = 0x1200 ∧ sub = 5 then some s.log.lost
  else if idx = 0x1200 ∧ sub = 6 then some s.log.notLogged
  else if idx = 0x1201 then some (s.logSlot sub)
  else if idx = 0x1300 then some (s.windowReport (sub % 16))
  else none

/-! 0x2000: the timeline and the timebase. -/

/-- The order of kinds that fire together (R57). -/
def Event.rank (e : Event) : Nat := if e.kind = 3 then 0 else if e.kind = 1 ∨ e.kind = 2 then 1 else if e.kind = 4 then 2 else 3

/-- Whether one entry fires before another (R56, R57). -/
def State.firesBefore (s : State) (a b : Event) : Bool :=
  let ta := s.tpTime a.plane a.tp
  let tb := s.tpTime b.plane b.tp
  decide (ta < tb) || (ta == tb && (decide (a.rank < b.rank) || (a.rank == b.rank && decide (a.order < b.order))))

/-- An entry put in its place in firing order. -/
def State.placeEvent (s : State) (e : Event) : List Event → List Event
  | [] => [e]
  | x :: l => if s.firesBefore e x then e :: x :: l else x :: s.placeEvent e l

/-- The queue in order of firing (R56). -/
def State.firingOrder (s : State) : List Event := s.events.foldl (fun l e => s.placeEvent e l) []

/-- An entry's 16 bytes (R56). -/
def Event.word (e : Event) : Word :=
  let seq := match e.rq with
    | some rq => rq.seq * 2 ^ 16 + rq.origin * 2 ^ 12
    | none => 0
  e.tp * 2 ^ 64 + e.plane * 2 ^ 62 + e.kind * 2 ^ 56 + (if e.kind = 1 then e.scope * 2 ^ 48 else 0) +
    (if e.kind = 2 ∨ e.kind = 3 then e.arg * 2 ^ 32 else 0) + seq + ofBool e.next * 2 ^ 11 + ofBool e.cascade * 2 ^ 10

/-- Whole seconds since the end of the ballast's window (R80). -/
def State.ballastAge (s : State) : Word :=
  match s.ref.ballast with
  | some b => (s.now.floor / 1000000000 - b.2).toNat
  | none => 0xFFFFFFFF

def State.holdSeconds (s : State) : Word :=
  if s.ref.tb = 3 then
    match s.ref.holdSince with
    | some t => ((s.up - t) / 1000000000).floor.toNat
    | none => 0
  else 0

/-- A rational to the nearest integer. -/
def nearest (x : Rat) : Int := (x + 1 / 2).floor

def State.timeReport (s : State) (idx sub : Nat) : Option Word :=
  match idx with
  | 0x2000 => some (if sub < 4 then s.pos sub else ofSigned 64 s.ns)
  | 0x2010 => some (if 4 ≤ sub then ofSigned 64 (s.plane (sub - 4)).origin.floor else setBit (s.elem 0x2010 sub) 29 s.inherited)
  | 0x2110 => if sub = 0x10 then some (ofBytes (s.table.flatMap (toBytes 2))) else none
  | 0x2120 =>
    if sub = 0 then some s.tbWord
    else if sub = 1 then some (ofSigned 32 s.ref.buildOut)
    else if sub = 2 then some (ofSigned 32 (nearest s.freqNow))
    else if sub = 3 then some (ofSigned 32 s.ref.phaseErr)
    else if sub < 8 then some (if s.planeOn (sub - 4) then s.ref.tb else 0)
    else if sub < 0x1A then some (s.candWord (sub - 0x10))
    else none
  | 0x2130 =>
    if sub = 2 then some (ofSigned 32 (match s.ref.ballast with
      | some b => nearest b.1
      | none => 0))
    else if sub = 3 then some s.ballastAge
    else if sub = 4 then some s.holdSeconds
    else none
  | 0x2150 => if 4 ≤ sub then some (ofSigned 16 (s.ptpOf (sub - 4)).utc) else none
  | 0x2200 =>
    if sub < 0x1000 then some (match s.firingOrder[sub]? with
      | some e => e.word
      | none => 0)
    else if sub = 0x1000 then some s.events.length
    else none
  | _ => none

/-! 0x3000: lanes. -/

def State.laneReport (s : State) (idx sub : Nat) : Option Word :=
  if idx = 0x3100 ∧ 0x200 ≤ sub then some (s.synthWord (sub - 0x200))
  else if idx = 0x3500 ∧ sub < 0xC0 then some (portMac sub)
  else none

/-! 0x4000 and 0x6000: flows and entries. -/

/-- The readers of a source in either set (R227): outputs, layers and tether sends. -/
def State.readerCount (s : State) (n : Nat) : Nat :=
  (s.readersOf n).length + (s.liveLayers.filter fun i => (s.layerSources i).contains n).length +
    ((s.sends.filter fun t => t.source == n).map fun t => t.outs.length).foldl (· + ·) 0

/-- Whether a video or ancillary receive entry had a packet within the last frame period, an audio one within four packet
times (R193). -/
def State.rxActive (s : State) (e : Nat) : Bool :=
  let w := s.rxEntry e
  entryOn w && (if isAudioKind (entryKind w) then s.rxAudioActive e
    else match (s.rxOf e).lastAt with
      | some t => decide (s.up < t + (s.srcFmt (entryTarget w)).period)
      | none => false)

/-- Whether an entry's membership is reported, or it is unicast (R193). -/
def State.rxJoined (s : State) (e : Nat) : Bool :=
  let w := s.rxEntry e
  entryOn w && (!isMulticast (entryDest w) ||
    s.igmp.any fun g => g.lane == entryLane w && g.vlan == rxVid w && g.reported.contains (entryDest w))

/-- Whether an entry sends (R193). -/
def State.txActive (s : State) (e : Nat) : Bool :=
  let w := s.txEntry e
  entryOn w && !s.gated && s.reaches w && s.running &&
    (if isAudioKind (entryKind w) then s.planeOn 0 else s.flag 0x6400 (entryTarget w) 31)

def State.rxStatus (s : State) (e : Nat) : Word :=
  let w := s.rxEntry e
  if entryOn w then
    ofBool (s.rxActive e) * 2 ^ 31 + ofBool (s.rxJoined e) * 2 ^ 30 + ofBool (!s.linkUp (entryLane w)) * 2 ^ 28 +
      ofBool (s.lastSecond (s.rxOf e).lateAt) * 2 ^ 27 + s.field 0x4400 (0x2000 + e) 26 25 * 2 ^ 25
  else 0

def State.txStatus (s : State) (e : Nat) : Word :=
  let w := s.txEntry e
  if entryOn w then
    ofBool (s.txActive e) * 2 ^ 31 + ofBool (s.arpPending w) * 2 ^ 29 + ofBool (!s.linkUp (entryLane w)) * 2 ^ 28
  else 0

/-- A frame rate as numerator and denominator (R192). -/
def rateParts (code : Nat) : Nat × Nat :=
  if rateM code then (((rateHz code * 1001).floor).toNat, 1001) else ((rateHz code).floor.toNat, 1)

/-- The parts of a description that follow the format of a video, ancillary or OPAQUE flow (R192). -/
def describeFormat (kind : Nat) (f : Fmt) (meta_ : Nat) (tp : Nat) (blocks : Bool) (opaque_ : Bool) : Word :=
  let r := rateParts f.rate
  let scan := if f.form = 5 then 2 else if formInterlaced f.form then 1 else 0
  (if kind = kind2022 then 27000000 else 90000) * 2 ^ 464 + formWidth f.form * 2 ^ 448 + formActive f.form * 2 ^ 432 + r.1 * 2 ^ 412 + r.2 * 2 ^ 400 + scan * 2 ^ 398 +
    (if kind = kind20 ∨ kind = kind2022 then
      f.samp * 2 ^ 395 + bits meta_ 8 5 * 2 ^ 388 + bits meta_ 4 1 * 2 ^ 384 + bits meta_ 0 0 * 2 ^ 383
     else 7 * 2 ^ 395 + 0xFF * 2 ^ 384) +
    ofBool blocks * 2 ^ 382 + tp * 2 ^ 380 + (if kind = kind40 ∨ opaque_ then 0 else (if samp12 f.samp then 12 else 10) * 2 ^ 64)

/-- The parts of a description of an audio stream (R183, R192). -/
def describeAudio (w : Word) : Word :=
  (if entryArate w = 1 then 96000 else 48000) * 2 ^ 464 + 7 * 2 ^ 395 + 0xFF * 2 ^ 384 +
    (if entryPtime w = 0 then 1000 else 125) * 2 ^ 336 + entryChannels w * 2 ^ 328 + (if entryL16 w then 16 else 24) * 2 ^ 64

/-- DUP and DUP_ENTRY (R192). -/
def twinOf (es : List (Nat × Word)) (e : Nat) (w : Word) : Word :=
  match twinEntry es e w with
  | some o => 2 ^ 254 + o * 2 ^ 72
  | none => 0

def offWord : Word := 0xFF * 2 ^ 504 + 7 * 2 ^ 395 + 0xFF * 2 ^ 384

/-- TROFF of an entry in 0.1 µs (R177, R192). -/
def troffOf (w : Word) (f : Fmt) : Nat := ((troOf w f) / 100).floor.toNat % 65536

/-- The stream description of a receive entry (R192). -/
def State.rxDescription (s : State) (e : Nat) : Word :=
  let w := s.rxEntry e
  let seq := (s.rxOf e).desc % 2 ^ 32
  if !entryOn w then offWord + seq
  else
    let k := entryKind w
    let j := entryTarget w
    let md := ((s.in_ j).meta_).getD (s.field 0x4100 j 20 12)
    k * 2 ^ 504 + rxPt w * 2 ^ 496 +
      (if isAudioKind k then describeAudio w
       else describeFormat k (s.srcFmt j) md 0 false (k == kind22) + troffOf w (s.srcFmt j) * 2 ^ 352) +
      s.describeClock + twinOf s.rxEntries e w + rxSource w * 2 ^ 160 + entryDest w * 2 ^ 128 + rxPort w * 2 ^ 96 +
      rxVid w * 2 ^ 84 + (s.rxWire w / 1000).ceil.toNat % 2 ^ 32 * 2 ^ 32 + seq

/-- The sender type of a send entry (R177, R192). DEDUCED: -22 and 2022-6 packets, spaced evenly over the frame period (R179,
R182), are linear too. -/
def tpOf (w : Word) : Nat := if entryKind w = kind22 ∨ entryKind w = kind2022 ∨ txLinear w = true then 1 else 0

/-- The stream description of a send entry (R192). -/
def State.txDescription (s : State) (e : Nat) : Word :=
  let w := s.txEntry e
  let seq := (s.txOf e).desc % 2 ^ 32
  if !entryOn w then offWord + seq
  else
    let k := entryKind w
    let j := entryTarget w
    let body := if isAudioKind k then describeAudio w
      else describeFormat k (s.outFmt j) (s.outMeta j) (tpOf w) (txBlocks w) (k == kind22) + troffOf w (s.outFmt j) * 2 ^ 352
    k * 2 ^ 504 + txPt w * 2 ^ 496 + body + s.describeClock + twinOf s.txEntries e w + txSsrc e w * 2 ^ 192 +
      s.mediaIp (entryLane w) * 2 ^ 160 + entryDest w * 2 ^ 128 + txSrcPort w * 2 ^ 112 + txDestPort w * 2 ^ 96 +
      txVid w * 2 ^ 84 + (s.txWire w / 1000).ceil.toNat % 2 ^ 32 * 2 ^ 32 + seq

/-- Input status (R142, R193). -/
def State.inputStatus (s : State) (j : Nat) : Word :=
  let v := s.elem 0x4300 j
  match bindKind (s.inBind j) with
  | 1 => setBit v 24 (s.lastSecond (s.in_ j).crcAt)
  | 2 => setBit v 27 (s.rxEntries.any fun e => entryKind e.2 == kind40 && entryTarget e.2 == j && s.rxActive e.1)
  | _ => 0

/-- Input fabric state (R227). -/
def State.inputFabric (s : State) (j : Nat) : Word :=
  let v := s.elem 0x4300 (0x4000 + j)
  setBits (setBit (setBit v 28 (bindKind (s.inBind j) != 0 && s.synced j)) 25 (s.lastSecond (s.in_ j).overflowAt)) 11 0
    (s.readerCount j)

/-- Output status (R154, R193): FILL follows what the output sends now. -/
def State.outputStatus (s : State) (j : Nat) : Word :=
  let v := s.elem 0x6400 j
  match s.outKind j with
  | 1 => setBit (setBit v 30 (bit v 31 && s.filling j)) 19 ((bindLanes (s.outBind j)).any fun l => s.flag 0x3200 l 26)
  | 2 => setBit (setBit v 30 (bit v 31 && s.filling j)) 28 s.gated
  | _ => 0

def State.intakeReport (s : State) (idx sub : Nat) : Option Word :=
  if idx = 0x4300 ∧ sub < 0x800 then some (s.inputStatus sub)
  else if idx = 0x4300 ∧ 0x4000 ≤ sub ∧ sub < 0x4800 then some (s.inputFabric (sub - 0x4000))
  else if idx = 0x4400 ∧ 0x1000 ≤ sub ∧ sub < 0x2000 then some (s.rxDescription (sub - 0x1000))
  else if idx = 0x4400 ∧ 0x2000 ≤ sub ∧ sub < 0x3000 then some (s.rxStatus (sub - 0x2000))
  else none

def State.playoutReport (s : State) (idx sub : Nat) : Option Word :=
  if idx = 0x6300 ∧ 0x1000 ≤ sub ∧ sub < 0x2000 then some (s.txDescription (sub - 0x1000))
  else if idx = 0x6300 ∧ 0x2000 ≤ sub ∧ sub < 0x3000 then some (s.txStatus (sub - 0x2000))
  else if idx = 0x6400 ∧ sub < 0x800 then some (s.outputStatus sub)
  else none

/-! 0x5000: the fabric and the frame store. -/

/-- PATH of a route (R219). -/
def State.pathOf (s : State) (n : Nat) : Nat := if n = noSource then 0 else if isInput n && !s.synced n then 1 else 2

/-- The promise and admission report, 0x5200:j (R219). -/
def State.routeReport (s : State) (j : Nat) : Word :=
  let a := s.airElem 0x5000 j
  let h := s.shadowElem 0x5000 j
  let ns (n : Nat) (x : Int) : Nat := if n = noSource then 0xFFFFFFFF else x.toNat % 2 ^ 32
  ns a (s.promise j a).ceil * 2 ^ 96 + ns a (s.floor j a).floor * 2 ^ 64 + ns h (s.promise j h).ceil * 2 ^ 32 +
    s.field 0x5200 j 31 16 * 2 ^ 16 + s.pathOf a * 2 ^ 14 + s.pathOf h * 2 ^ 12 +
    (if isInput h && bindKind (s.inBind h) == 3 then min 255 (s.field 0xA200 h 123 112) else 0) * 2 ^ 4

/-- Mb/s, rounded up (R220). -/
def megabits (x : Rat) : Word := (x / 1000000).ceil.toNat

def State.budgetReport (s : State) (sub : Nat) : Option Word :=
  if sub = 0 then some (megabits s.ingress)
  else if sub = 1 then some (megabits s.egress)
  else if sub = 2 then some (megabits (s.egressOf false))
  else if sub = 3 then some s.cellTotal
  else if sub = 4 then some s.cellsNow
  else if sub = 6 then some (megabits s.syncTotal)
  else if sub = 7 then some (megabits s.compIntake)
  else if 0x1000 ≤ sub ∧ sub < 0x1820 then
    some (if s.sources.contains (sub - 0x1000) then s.reserved (sub - 0x1000) else 0)
  else if 0x2000 ≤ sub then
    let n := sub - 0x2000
    some (if s.sources.contains n && !s.srcAbsent n then (s.rateNow n / 1000).ceil.toNat else 0)
  else none

def State.poolReport (s : State) (sub : Nat) : Option Word :=
  if sub = 0 then some (poolBlocks - s.poolUsed)
  else if sub = 1 then some s.windowTotal
  else if sub = 2 then some s.delayTotal
  else if sub = 3 then some s.captureTotal
  else if sub = 4 then some s.cacheUsed
  else none

def State.fabricReport (s : State) (idx sub : Nat) : Option Word :=
  if idx = 0x5200 then some (s.routeReport sub)
  else if idx = 0x5300 then s.budgetReport sub
  else if idx = 0x5500 then s.poolReport sub
  else if idx = 0x5520 ∧ 0x100 ≤ sub then some (groupBlocks (s.elem 0x5520 (sub - 0x100)))
  else none

/-! 0x7000: audio. -/

/-- A spool bank's state (R343). -/
def State.spoolReport (s : State) (b : Nat) : Word :=
  let x := s.spoolBank b
  let running := (match s.mix.engine with
    | some e => e.bank == b
    | none => false) || (match s.mix.fading with
    | some f => f.1.bank == b
    | none => false)
  x.st * 2 ^ 125 + ofBool (s.elem 0x7200 0 == b) * 2 ^ 124 + ofBool (s.shadowElem 0x7200 0 == b) * 2 ^ 123 +
    ofBool running * 2 ^ 122 + x.label * 2 ^ 64 + x.aWords * 2 ^ 44 + x.bWords * 2 ^ 24 + x.coefs * 2 ^ 7

/-- Engine status (R349). -/
def State.engineWord (s : State) : Word :=
  let run := match s.mix.engine with
    | some e =>
      let x := s.spoolBank e.bank
      (if s.mix.fading.isSome then 2 else 1) * 2 ^ 30 + e.bank * 2 ^ 29 +
        (unroll false [] (stepsOf x.words.length x.words)).length
    | none => if s.mix.fading.isSome then 2 * 2 ^ 30 else 0
  (if s.trapped then setBits run 31 30 3 else run) + ofBool (s.lastSecond s.mix.satAt) * 2 ^ 28 +
    ofBool (s.lastSecond s.mix.clipAt) * 2 ^ 27

/-- An AIN slot's state (R292). -/
def State.slotReport (s : State) (n : Nat) : Word :=
  let base :=
    if 0xA000 ≤ n then
      let named := match s.mix.engine with
        | some e => ((s.spoolBank e.bank).busDomain n).orElse fun _ =>
          s.mix.fading.bind fun f => (s.spoolBank f.1.bank).busDomain n
        | none => none
      match named with
      | some b => 6 * 2 ^ 28 + ofBool b * 2 ^ 27 + ofBool (b && s.ainSecond n) * 2 ^ 26 +
          ofBool (s.ainSlot n).present * 2 ^ 24 + (n - 0xA000)
      | none => 0
    else match s.ainBind n with
      | some x =>
        x.kind * 2 ^ 28 + ofBool x.b * 2 ^ 27 + ofBool (s.ainSecond n) * 2 ^ 26 + ofBool x.viaC * 2 ^ 25 +
          ofBool (s.ainSlot n).present * 2 ^ 24 + x.owner
      | none => 0
  let first := if s.ainSecond n then n - 1 else n
  base + ofBool (filterOn (s.elem 0x7500 first)) * 2 ^ 23 + ofBool (bit (s.elem 0x7410 first) 15) * 2 ^ 22

/-- A bridge instance (R300). -/
def State.bridgeReport (s : State) (i : Nat) : Word :=
  if s.hasBridge i then
    let b := s.bridge i
    b.kind * 2 ^ 124 + b.owner * 2 ^ 112 + b.slots * 2 ^ 96 + b.st * 2 ^ 88 + b.nominal * 2 ^ 64 + ofSigned 32 b.ratio * 2 ^ 32 +
      ofSigned 16 (clampSigned 16 (s.bridgeFill i)) * 2 ^ 16 + b.recentres % 65536
  else 0

/-- Audio totals (R323). -/
def State.audioTotals (s : State) (k : Nat) : Word :=
  match k with
  | 0 => s.inBridgeSlots
  | 1 => s.outBridgeSlots
  | 2 => (s.converters true).length
  | 3 => (s.converters false).length
  | 4 => s.slotsUsed 0x7500 filterOn
  | 5 => (s.metered false).length + (s.metered true).length
  | _ => sumNat ((s.ainBinds.filter fun x => !x.copy).map AudioBind.slots)

/-- The bridge of a port, if it has one. -/
def State.portBridge (s : State) (p : Nat) : Option (Nat × Bridge) := s.bridges.find? fun e => e.2.port e.1 == some p

/-- Whether an elastic store has started and gives frames. -/
def Elastic.runs (x : Elastic) : Bool := !x.last.isEmpty && !x.hold

/-- Audio port status (R322). -/
def State.portStatus (s : State) (p : Nat) : Word :=
  let x := s.audioPort p
  let own := bit (s.portWord p) 31
  let timed := s.portMaster p || (decide (16 ≤ p) && !s.portIn p && !s.portFollows p)
  let held := s.portFollows p && (s.portBridge p).any fun e => e.2.st == 5
  let x := if s.portFollows p then
      { x with clock := held || (s.audioPort (s.followPort p)).clock, rate := (s.audioPort (s.followPort p)).rate } else x
  let x := if held then { x with rate := ((s.portBridge p).map fun e => ((e.2.nominal : Rat) * (1 + (e.2.ratio : Rat) / 1000000000)).floor.toNat).getD 0 } else x
  let clock := own && (timed || x.clock)
  let locked := match s.portBridge p with
    | some e => e.2.st == 2
    | none => clock && (timed || x.input.runs || x.output.runs)
  let again := match s.portBridge p with
    | some e => s.lastSecond e.2.recentreAt
    | none => false
  if own then
    ofBool clock * 2 ^ 31 + ofBool (clock && locked) * 2 ^ 30 + ofBool x.rateErr * 2 ^ 29 + ofBool (s.lastSecond x.slipAt) * 2 ^ 28 +
      ofBool again * 2 ^ 27 + ofBool x.nonAudio * 2 ^ 26 + ofBool (s.lastSecond x.errAt) * 2 ^ 25 +
      (if timed then 48000 * s.portPer p else if x.clock then x.rate % 2 ^ 24 else 0)
  else 0

def State.audioReport (s : State) (idx sub : Nat) : Option Word :=
  if idx = 0x7000 ∧ ((s.followerOf sub).isSome ∨ s.aoutSecond sub = true) then some (s.routeReading .active sub)
  else if idx = 0x7100 ∧ s.aoutSecond sub = true then some (s.elem 0x7100 (sub - 1))
  else if idx = 0x7200 ∧ (sub = 2 ∨ sub = 3) then some (s.spoolReport (sub - 2))
  else if idx = 0x7200 ∧ sub = 0x10 then some s.engineWord
  else if idx = 0x7300 ∧ 0x100 ≤ sub ∧ sub < 0x200 then some (s.portStatus (sub - 0x100))
  else if idx = 0x7310 ∧ 0x100 ≤ sub ∧ sub < 0x200 then some (s.portStatus (sub - 0x100 + 16))
  else if idx = 0x7400 ∧ sub < 0xC000 then some (s.slotReport sub)
  else if idx = 0x7400 ∧ sub < 0xD000 then some (s.bridgeReport (sub - 0xC000))
  else if idx = 0x7400 ∧ sub < 0xE000 then some (s.bridgeReport (sub - 0xD000 + 0x1000))
  else if idx = 0x7400 ∧ sub < 0xE007 then some (s.audioTotals (sub - 0xE000))
  else none

/-! 0x8000-0xE000. -/

def State.otherReport (s : State) (idx sub : Nat) : Option Word :=
  if idx = 0x8900 ∧ sub < 0x40 then some (s.spriteStatus sub)
  else if idx = 0x8900 ∧ sub = 0x201 then some s.blitStatus
  else if idx = 0x9010 ∧ sub = 0 then some s.pairWord
  else if idx = 0x9010 ∧ sub = 1 then some (ofBytes s.partnerBytes)
  else if idx = 0x9010 ∧ sub = 8 then some (ofBytes s.lastClaimBytes)
  else if idx = 0x9030 ∧ sub = 1 then some s.pair.drillResult
  else if idx = 0xA100 ∧ 0x100 ≤ sub ∧ sub < 0x400 ∧ ¬ (0x200 ≤ sub ∧ sub < 0x300) then some (s.portReport sub)
  else if idx = 0xB010 then some (sourceWord (s.source sub))
  else if idx = 0xB100 ∧ sub < 0x20 then some (s.historyWord sub)
  else if idx = 0xB100 then some s.faults.history.length
  else if idx = 0xB110 then some (histWord s.faults.firstFatal)
  else if idx = 0xB200 ∧ 0x100 ≤ sub then some (s.correctedWord (sub - 0x100))
  else if idx = 0xB400 ∧ sub = 2 then some s.freezeWord
  else if idx = 0xC200 then some (s.lineWord sub)
  else if idx = 0xC400 then some s.monitorWord
  else if idx = 0xD000 then some (s.slotRecord sub)
  else if idx = 0xD001 then some s.versions
  else if idx = 0xD010 then some s.healthWord
  else if idx = 0xD020 then some s.stageWord
  else if idx = 0xE000 then some (s.securityWord sub)
  else if idx = 0xE010 then some s.tokensHeld
  else none

/-- An associated range as it reads (R251): with DERIVED the derived BASE, RATE and COUNT. -/
def State.assocReading (s : State) (idx sub : Nat) (w : Word) : Word :=
  if (idx = 0x4000 ∨ idx = 0x6000) ∧ 0x1000 ≤ sub ∧ sub < 0x1800 ∧ bit w 30 = true then
    let r := if idx = 0x4000 then s.inRange (sub - 0x1000) else s.outRange (sub - 0x1000)
    bits w 31 30 * 2 ^ 30 + ofBool r.2.2 * 2 ^ 29 + r.2.1 * 2 ^ 22 + r.1
  else w

/-- The value an element reads: a computed report, else the register, with the new value of a move in progress (R263, R475). -/
def State.reading (s : State) (idx sub : Nat) : Word :=
  let computed := match idx / 4096 with
    | 0x0 => s.controlReport idx sub
    | 0x1 => s.controlReport idx sub
    | 0x2 => s.timeReport idx sub
    | 0x3 => s.laneReport idx sub
    | 0x4 => s.intakeReport idx sub
    | 0x5 => s.fabricReport idx sub
    | 0x6 => s.playoutReport idx sub
    | 0x7 => s.audioReport idx sub
    | _ => s.otherReport idx sub
  match computed with
  | some v => v
  | none =>
    match s.moves.find? fun m => m.index == idx && m.sub == sub with
    | some m => s.assocReading idx sub m.new
    | none => s.assocReading idx sub (s.elem idx sub)

/-- Whether an element is WO: it reads as zeros where its class may write it (R492). -/
def writeOnly (idx sub : Nat) : Bool :=
  match dictRow idx sub with
  | some r => r.kind == .wo
  | none => false

/-- An element whose bytes are kept as a block: a salvo image, an empty one reading as eight zero bytes (R255), or a cursor
image (R374). -/
def isBlob (idx sub : Nat) : Bool := (idx == 0x1110 && decide (sub < 0x40)) || (idx == 0x8000 && decide (0x40 ≤ sub) && decide (sub < 0x50))

/-- The bytes of an element as a read gives them (R236, R456, R475): the shadow value of a banked element where SHADOW asks for
it. -/
def State.elemBytes (s : State) (shadow : Bool) (idx sub : Nat) : List Byte :=
  let size := match dictRow idx sub with
    | some r => r.sizeLo
    | none => 0
  if writeOnly idx sub then List.replicate size 0
  else if isBlob idx sub then
    (if (s.blob idx sub).isEmpty then List.replicate size 0 else s.blob idx sub)
  else
    let banked := shadow && (bankOf idx sub).isSome
    let follow := idx == 0x7000 && ((s.followerOf sub).isSome || s.aoutSecond sub)
    let first := if idx = 0x7100 ∧ s.aoutSecond sub = true then sub - 1 else sub
    toBytes size (if banked then (if follow then s.routeReading .shadow sub else s.shadowElem idx first) else s.reading idx sub)

end Sys2Proof.Machine
end

