-- ==== Sys2Proof/Machine/Read.lean ====
section
/-! DEFINITION. READ and BLOCK_READ (R452, R456, R458, R461). -/

namespace Sys2Proof.Machine

/-- A request that reads (R13, R458): a repeat is executed again; what is read is the state at the commit. Data of up to 8
bytes come in the reply where `short` allows it, else in a NOTIFY, at most 1,024 bytes of them. -/
def readRequest (s : State) (rq : Rq) (op idx sub : Nat) (payload : List Byte) (c : Checks) (short : Bool)
    (data : State → List Byte) : State :=
  if !s.takesUp rq then s
  else
    let s := countPort (unbuffer s rq op idx sub payload) rq.port 0
    let status := requestStatus s rq op idx sub payload c
    if status ≠ stOk then refuseRequest s rq op idx sub status { checks := c }
    else
      let d := data s
      if short && decide (d.length ≤ 8) then sendReply (recordReply s rq stOk d) rq idx sub stOk d
      else notify (sendReply (recordReply s rq stPending []) rq idx sub stPending []) rq idx sub stOk (d.take 1024)

/-- READ (R452). -/
def readElement (s : State) (rq : Rq) (idx sub : Nat) : State :=
  readRequest s rq opRead idx sub [] {} true fun s => s.elemBytes rq.shadow idx sub

def execRead (rq : Rq) (index sub : Nat) (s : State) : Host.Outcome State Fault Refusal :=
  act s fun s => readElement s rq index sub

/-- COUNT and OFFSET of a BLOCK_READ (R461). -/
def blockCount (payload : List Byte) : Nat := ofBytes (payload.take 2)
def blockOffset (payload : List Byte) : Nat := ofBytes ((payload.drop 2).take 4)

/-- What a BLOCK_READ is refused for beside R13's own checks: COUNT and OFFSET out of range; a right that denies one of the
elements; elements past the last sub-index, or not of one fixed size. -/
def blockReadChecks (s : State) (rq : Rq) (idx sub : Nat) (payload : List Byte) : Checks :=
  let n := blockCount payload
  let off := blockOffset payload
  let subs := if n ≤ 1024 then (List.range n).map (sub + ·) else []
  { access := subs.any fun k => (dictRow idx k).isSome && rightDenied opBlockRead rq.origin idx k
    noSub := subs.any fun k => (dictRow idx k).isNone
    type := decide (1 < n) && ((fixedSize idx sub).isNone || subs.any fun k => fixedSize idx k != fixedSize idx sub)
    range := n == 0 || decide (1024 < n) || (decide (1 < n) && off != 0) ||
      (n == 1 && decide ((s.elemBytes rq.shadow idx sub).length ≤ off)) }

/-- The data of a BLOCK_READ (R461): whole elements, or an element's bytes from OFFSET on, as many as fit in 1,024 bytes. -/
def State.blockData (s : State) (rq : Rq) (idx sub : Nat) (payload : List Byte) : List Byte :=
  let n := blockCount payload
  if n = 1 then (s.elemBytes rq.shadow idx sub).drop (blockOffset payload)
  else
    let size := (fixedSize idx sub).getD 1
    ((List.range (min n (1024 / size))).map fun k => s.elemBytes rq.shadow idx (sub + k)).flatten

/-- BLOCK_READ (R461). -/
def blockReadElements (s : State) (rq : Rq) (idx sub : Nat) (payload : List Byte) : State :=
  readRequest s rq opBlockRead idx sub payload (blockReadChecks s rq idx sub payload) false
    fun s => s.blockData rq idx sub payload

def execBlockRead (rq : Rq) (index sub : Nat) (payload : List Byte) (s : State) : Host.Outcome State Fault Refusal :=
  act s fun s => blockReadElements s rq index sub payload

end Sys2Proof.Machine
end

