-- ==== Sys2Proof/Machine/Capture.lean ====
section
/-! DEFINITION. The capture stream and the debug master (R447, R450, R566-R568). -/

namespace Sys2Proof.Machine

/-! The capture stream (R567, R568). -/

/-- The sections: ID and length of content. -/
def captureSections : List (Nat × Nat) :=
  [(0x01, 4096), (0x02, 65536), (0x03, 3616), (0x04, 4096), (0x05, 8388608), (0x06, 2097152), (0x07, 4194304), (0x08, 8388608),
   (0x09, 131072), (0x0A, 10485760), (0x0B, 157286400), (0x0C, 4259840), (0x0D, 1048576), (0x0E, 17301504), (0x0F, 13824),
   (0x10, 65536), (0x11, 262144)]

/-- Bytes of the stream: the header, and each section with its head and tail. -/
def streamBytes : Nat := 64 + (captureSections.map fun x => x.2 + 32).foldl (· + ·) 0

/-- Where a section starts in the stream: an ID of 0 is the header, an unknown one lies past the end. -/
def sectionStart (id : Nat) : Nat :=
  if id = 0 then 0
  else if captureSections.any fun x => x.1 == id then
    64 + ((captureSections.filter fun x => decide (x.1 < id)).map fun x => x.2 + 32).foldl (· + ·) 0
  else streamBytes

/-- The stream header. -/
def State.captureHead (s : State) : Word :=
  0x46525A43 * 2 ^ 480 + 1 * 2 ^ 464 + 0x11 * 2 ^ 456 + s.faults.lastFreeze * 2 ^ 448 +
    ((s.faults.frozenMode.map Mode.code).getD 0) * 2 ^ 440 + Config.serial * 2 ^ 368 + ofSigned 64 s.ns * 2 ^ 304 +
    s.pos 0 * 2 ^ 240 + s.pos 1 * 2 ^ 176 + s.pos 2 * 2 ^ 112 + s.pos 3 * 2 ^ 48

/-- The elements of a list of rows that can be read, in index and sub-index order. -/
def readable (rows : List DictRow) : List (Nat × Nat) :=
  (rows.filter fun r => r.kind != .wo).flatMap fun r => (List.range (r.subHi + 1 - r.subLo)).map fun k => (r.idxLo, r.subLo + k)

def State.elementRun (s : State) (es : List (Nat × Nat)) : List Byte := (es.map fun e => s.elemBytes false e.1 e.2).flatten

/-- The bytes of a section that the spec lays out: of 0x01 and 0x04 the elements they begin with, all of 0x02, 0x03 and 0x07. -/
def State.sectionKnown (s : State) (id : Nat) : List Byte :=
  match id with
  | 0x01 => s.elementRun (readable (dictTimebase.filter fun r => decide (r.idxLo ≤ 0x2150)))
  | 0x02 => ((List.range 4096).map fun k => s.elemBytes false 0x2200 k).flatten
  | 0x03 => s.elementRun (((List.range 512).map fun k => (0xB010, k)) ++ ((List.range 32).map fun k => (0xB100, k)) ++ [(0xB110, 0)] ++
      ((List.range 64).map fun k => (0xB200, k)) ++ ((List.range 16).map fun k => (0xB200, 0x100 + k)))
  | 0x04 => s.elementRun ([(0x0010, 0), (0x0020, 0)] ++ ((List.range 6).map fun k => (0x1101, k)) ++ ((List.range 9).map fun k => (0x9010, k)))
  | 0x07 => ((List.range 65536).map fun k => s.elemBytes false 0x1201 k).flatten
  | _ => []

/-- The content of a section that starts at `at_`: what the spec lays out, then bytes it leaves open. -/
def State.sectionContent (s : State) (id len at_ : Nat) : List Byte :=
  let known := s.sectionKnown id
  known ++ (List.range (len - known.length)).map fun k => Config.captureByte s.ns.toNat (at_ + known.length + k)

/-- A section with its head and tail. -/
def State.sectionBytes (s : State) (id len : Nat) : List Byte :=
  let body := toBytes 16 (id * 2 ^ 112 + len * 2 ^ 80) ++ s.sectionContent id len (sectionStart id + 16)
  body ++ toBytes 16 (crc32c body * 2 ^ 96)

/-- A byte of the stream; zeros follow its end. -/
def State.streamByte (s : State) (pos : Nat) : Byte :=
  if pos < 64 then ((toBytes 64 s.captureHead)[pos]?).getD 0
  else
    match captureSections.find? fun x => decide (sectionStart x.1 ≤ pos) && decide (pos < sectionStart x.1 + x.2 + 32) with
    | some x =>
      let k := pos - sectionStart x.1
      if k < 16 then ((toBytes 16 (x.1 * 2 ^ 112 + x.2 * 2 ^ 80))[k]?).getD 0
      else ((s.sectionBytes x.1 x.2)[k]?).getD 0
    | none => 0

/-- A bit of the stream: each byte most significant bit first. -/
def State.streamBit (s : State) (pos : Nat) : Bool := bit (s.streamByte (pos / 8)).toNat (7 - pos % 8)

/-- CAPTURE_READ (R567): the next bits of the stream, wherever it stands. -/
def captureRead (nbits : Nat) (s : State) : State :=
  let s := s.emit (.stream ((List.range nbits).map fun k => s.streamBit (s.dbg.stream + k)))
  { s with dbg := { s.dbg with stream := s.dbg.stream + nbits } }

def execCaptureRead (nbits : Nat) (s : State) : Host.Outcome State Fault Refusal := instruct s 0x10 (captureRead nbits)

/-- CAPTURE_SEEK (R567). -/
def captureSeek (id : Nat) (s : State) : State := { s with dbg := { s.dbg with stream := 8 * sectionStart id } }

def execCaptureSeek (section_ : Nat) (s : State) : Host.Outcome State Fault Refusal := instruct s 0x11 (captureSeek section_)

/-! The debug master (R450, R566). DESIGN CHOICE: an address of the dictionary store is the index above the sub-index; the spec
gives no address map of any target. -/

/-- The request a debug access makes: LOCAL, SESSION 0xFFFF. -/
def debugRq (len : Nat) : Rq := { port := .card, origin := 0, session := 0xFFFF, len := len }

/-- A read of the dictionary store: the data, none for an error response. -/
def State.debugRead (s : State) (idx sub : Nat) : Option Word :=
  match fixedSize idx sub with
  | some n => if n ≤ 4 ∧ requestStatus s (debugRq 0) opRead idx sub [] {} = stOk then some (ofBytes (s.elemBytes false idx sub)) else none
  | none => none

/-- A write to the dictionary store: it commits and is logged as a LOCAL request; none for an error response. -/
def debugWrite (s : State) (idx sub : Nat) (data : Word) : Option State :=
  match fixedSize idx sub with
  | some n =>
    if n ≤ 4 then
      let payload := toBytes n data
      let rq := debugRq n
      let h := elementHandler s rq idx sub payload
      if requestStatus s rq opWrite idx sub payload h.checks = stOk then
        let status := if h.pending then stPending else stOk
        let s := h.commit (appendLog s (requestEntry s rq idx sub status h false))
        some (settleElement (streamChange s rq opWrite idx sub status payload (h.data s)) idx sub)
      else none
    else none
  | none => none

/-- What a Capture-DR after the access shows. -/
def noteAccess (s : State) (done : Bool) (status address data : Word) : State :=
  { s with dbg := { s.dbg with
    access := ofBool done * 2 ^ 71 + status * 2 ^ 64 + address % 2 ^ 32 * 2 ^ 32 + data % 2 ^ 32 } }

/-- An address that the dictionary store does not decode raises the NOTE of R450. -/
def notDecoded (s : State) (idx sub : Nat) : State := if (dictRow idx sub).isNone then declareFault s 0x00D (11 * 256) else s

/-- The transaction itself, as master 11 (R447, R450): the address map of targets other than the dictionary store is not stated, so a
read there gives a free value, and the effect of a write there is left out. -/
def debugTransaction (write : Bool) (target address : Nat) (data : Word) (s : State) : State :=
  if !s.running then noteAccess s false 0 address data
  else if !crossbarGrants target 11 then noteAccess (declareFault s 0x00D (11 * 256 + target % 256)) true 1 address 0
  else if target = 0 then
    let idx := address / 65536 % 65536
    let sub := address % 65536
    if write then
      match debugWrite s idx sub data with
      | some t => noteAccess t true 0 address data
      | none => noteAccess (notDecoded s idx sub) true 1 address 0
    else
      match s.debugRead idx sub with
      | some v => noteAccess s true 0 address v
      | none => noteAccess (notDecoded s idx sub) true 1 address 0
  else if write then noteAccess s true 0 address data
  else (noteAccess s true 0 address (s.drawn 32)).draw

/-- DEBUG_ACCESS (R566): Capture-DR gives the last access's result, Update-DR starts this one. -/
def debugAccess (write : Bool) (target address : Nat) (data : Word) (s : State) : State :=
  debugTransaction write target address data (shiftOut 9 s.dbg.access s)

def execDebugAccess (write : Bool) (target address : Nat) (data : Word) (s : State) : Host.Outcome State Fault Refusal :=
  instruct s 0x30 (debugAccess write target address data)

end Sys2Proof.Machine
end

