-- ==== Sys2Proof/Machine/Install.lean ====
section
/-! DEFINITION. The stored configuration installed at boot (R543, R544). -/

namespace Sys2Proof.Machine

/-- The request that an element of the stored configuration stands for: LOCAL. -/
def installRq (len : Nat) : Rq := { port := .card, origin := 0, session := 0, len := len }

/-- The bytes of a stored element, and how its rule takes them. -/
def storedBytes (e : Nat × Nat) : List Byte := toBytes ((fixedSize (e.1 / 65536) (e.1 % 65536)).getD 0) e.2
def storedHandler (s : State) (key : Nat) (payload : List Byte) : Handler :=
  elementHandler s (installRq payload.length) (key / 65536) (key % 65536) payload

/-- An element that is not banked takes its value with all that follows from it. -/
def installElem (s : State) (e : Nat × Nat) : State := (storedHandler s e.1 (storedBytes e)).commit s

/-- A banked element takes its value in the active set, the shadow and on air (R544). -/
def installBanked (s : State) (e : Nat × Nat) : State :=
  ((s.put (e.1 / 65536) (e.1 % 65536) e.2).putShadow (e.1 / 65536) (e.1 % 65536) e.2).putAir (e.1 / 65536) (e.1 % 65536) e.2

/-- A structural value that still waits for its move takes effect at once: nothing runs at boot. -/
def endMove (s : State) (m : Move) : State := s.put m.index m.sub m.new

/-- The whole copy in place of the reset values (R544): banked elements last, so that what they name is there. -/
def installAll (s : State) (c : Saved) : State :=
  let banked (e : Nat × Nat) : Bool := (bankOf (e.1 / 65536) (e.1 % 65536)).isSome
  let t := (c.elems.filter fun e => !banked e).foldl installElem s
  let t := c.blobs.foldl (fun t (b : Nat × List Byte) => t.putBlob (b.1 / 65536) (b.1 % 65536) b.2) t
  let t := (c.elems.filter banked).foldl installBanked t
  let t := t.moves.foldl endMove t
  syncBridges { t with
    moves := [], recent := [], log := s.log, req := s.req
    boot := { t.boot with installed := true, auto := t.flag 0xD030 0 31 } }

/-- Whether an element breaks a rule of its own or a check of R214, in the state as it would be installed. -/
def storedFails (t : State) (key : Nat) (payload : List Byte) : Bool :=
  let c := (storedHandler t key payload).checks
  (dictRow (key / 65536) (key % 65536)).isNone || c.noSub || c.type || c.range || c.admission

/-- Whether the copy fails a check (R544). -/
def installFails (t : State) (c : Saved) : Bool :=
  (c.elems.any fun e => storedFails t e.1 (storedBytes e)) || (c.blobs.any fun b => storedFails t b.1 b.2) ||
    !t.budgetCodes.isEmpty || decide (poolBlocks < t.poolUsed) || !(t.routeCodesOf t.routed).isEmpty

/-- The stored configuration is installed whole, or not at all, with an ALARM (R544, R545). -/
def installConfig (s : State) : State :=
  if s.booting .install then
    let s := { s with boot := { s.boot with phase := .ready } }
    match s.savedCopy with
    | none => s
    | some c =>
      let t := installAll s c
      if installFails t c then
        { s with boot := { s.boot with installed := false, auto := false, pendingAlarms := s.boot.pendingAlarms ++ [(0x00A, 0)] } }
      else t
  else s

def execConfigInstall (s : State) : Host.Outcome State Fault Refusal := actRunning s installConfig

end Sys2Proof.Machine
end

