-- ==== Sys2Proof/Machine/Mirror.lean ====
section
/-! DEFINITION. Lockstep of a pair (R420-R441): heartbeats, the change stream and mirrored decisions at the standby, relayed
requests, and the requests that a new active takes from its predecessor. -/

namespace Sys2Proof.Machine

/-! Heartbeats (R420). -/

/-- A HEARTBEAT's 256 bits (R420). -/
def State.heartbeatWord (s : State) : Word :=
  1 * 2 ^ 248 + s.role * 2 ^ 245 + ofBool s.pair.claimOut * 2 ^ 244 + ofBool s.boot.sideB * 2 ^ 243 +
    Config.bridleProtoCur.toNat * 2 ^ 232 + Config.bridleProtoMin.toNat * 2 ^ 224 +
    (if s.mode = .active then s.pair.streamSent else s.pair.streamApplied) * 2 ^ 192 + s.boot.resets % 65536 * 2 ^ 176 +
    s.versions * 2 ^ 96 + s.mode.code * 2 ^ 88

def execHeartbeatSend (s : State) : Host.Outcome State Fault Refusal :=
  actRunning s fun s => if s.paired then s.emit (.bridle s.heartbeatWord []) else s

/-! Requests that a new active takes up (R439, R441). -/

/-- A request that a standby heard on a field port, committed by the new active; where `silent`, without a reply. -/
def commitHeard (silent : Bool) (s : State) (h : Heard) : State :=
  let t := changeRequest s h.rq h.opcode h.index h.sub h.payload
  if silent then
    { t with
      emitted := t.emitted.filter fun (e : Emission) => match e with
        | .dumus p _ _ => !(p == h.rq.port)
        | _ => true
      req := { t.req with deferred := s.req.deferred } }
  else t

/-- The requests heard since `since` that no CHANGE record carried, in arrival order. -/
def takeHeard (silent : Bool) (since : Rat) (s : State) : State :=
  let hs := s.pair.heard.filter fun h => decide (since ≤ h.at_) && !s.pair.streamed.contains (h.rq.origin, h.rq.session, h.rq.seq)
  hs.foldl (commitHeard silent) { s with pair := { s.pair with heard := [], streamed := [] } }

/-- A takeover with what follows it (R438, R439): requests of the last 20 µs are committed without a reply. -/
def takeOverNow (s : State) (trigger : Nat) : State :=
  let t := takeOver s trigger
  if s.mode = .standby ∧ t.mode = .active then takeHeard true (s.up - 20000) t else t

/-- A handover completed at the new active (R441): it answers requests that end later than 4 µs before the TP. -/
def answerHeard (s t : State) : State :=
  if s.mode = .standby ∧ t.mode = .active then takeHeard false (s.up - 4000) t else t

/-- No valid HEARTBEAT for 64 µs (R420): the standby takes over (R438); the active is alone. -/
def heartbeatLost (s : State) : State :=
  match s.pair.partnerAt with
  | some t =>
    if s.paired = true ∧ s.pair.partnerHere = true ∧ t + 64000 ≤ s.up then
      let s := (pairChange s fun p => { p with partnerHere := false }).count 0x9010 5
      let s := s.setTport 8 { s.tport 8 with flight := none }
      if s.mode = .standby then takeOverNow s 3
      else if s.mode = .active then declareFault (pairChange s fun p => { p with inStep := false, joinPhase := 0 }) 0x100 0 true
      else s
    else s
  | none => s

def execHeartbeatLost (s : State) : Host.Outcome State Fault Refusal := actRunning s heartbeatLost

/-- CLAIM_IN falls (R438): with no handover, a standby takes over. -/
def claimFalls (s : State) (power : Bool) : State :=
  let s := { s with pair := { s.pair with claimIn := false, claimInLowAt := some s.up } }
  if s.running && s.mode == .standby && !s.pair.claimOut then takeOverNow s (if power then 2 else 1) else s

def execClaimInFall (power : Bool) (s : State) : Host.Outcome State Fault Refusal := act s fun s => claimFalls s power

/-- The entries of a DIGEST record, the first of them `n` (R419). -/
def digestEntries (n : Nat) (w : Word) : List Word := [bits w 239 160, bits w 159 80, bits w 79 0].take n

/-- One of the partner's digests compared with this member's of the same unit, where it is there (R436): both are used up. A
mismatch may make the standby take over (R438). -/
def compareUnit (s : State) (d : Word) : State :=
  match s.pair.ownDigests.find? (fun a => a / 2 ^ 40 == d / 2 ^ 40) with
  | some a =>
    let s := { s with pair := { s.pair with
      ownDigests := s.pair.ownDigests.filter fun x => x / 2 ^ 40 != d / 2 ^ 40
      partnerDigests := s.pair.partnerDigests.filter fun x => x / 2 ^ 40 != d / 2 ^ 40 } }
    let r := compareDigests s a d
    if r.2 then takeOverNow r.1 4 else r.1
  | none => s

/-- The partner's digests come, and every pair of which the standby has both is compared (R434-R436). A member that is no standby
in step compares nothing. -/
def compareUnits (s : State) (n : Nat) (entries : Word) : State :=
  let ds := s.pair.partnerDigests ++ digestEntries n entries
  if s.mirrored then
    ds.foldl compareUnit { s with pair := { s.pair with partnerDigests := ds.drop (ds.length - 65536) } }
  else { s with pair := { s.pair with partnerDigests := [], ownDigests := [] } }

def execDigestCompare (n : Nat) (entries : Word) (s : State) : Host.Outcome State Fault Refusal :=
  onBridle s fun s => compareUnits s n entries

/-- A handover's TP (R441). -/
def handoverDone (s : State) : State :=
  match s.pair.handover with
  | some (t, _) =>
    if t ≤ s.now then
      (if s.mode = .standby ∧ s.pair.claimOut = true then answerHeard s (becomeActive s)
       else if s.mode = .active ∧ s.pair.claimOut = false then becomeStandby { s with pair := { s.pair with handover := none } }
       else { s with pair := { s.pair with handover := none } })
    else s
  | none => s

def execHandoverTp (s : State) : Host.Outcome State Fault Refusal := actRunning s handoverDone

/-- A DRILL entry at its TP (R442). -/
def drillFires (s : State) (e : Event) : State := answerHeard s (fireDrill s e)

def execDrillFire (s : State) : Host.Outcome State Fault Refusal :=
  actRunning s fun s => match s.dueEvent [4] with
    | some e => drillFires s e
    | none => s

/-! The change stream (R424). -/

/-- Whether an element is a member's own (R427): a change of it is logged and not applied. -/
def memberLocal (idx sub : Nat) : Bool :=
  match dictRow idx sub with
  | some r => r.profile == .m
  | none => false

/-- What the standby's checks made of a streamed request. -/
def State.streamStatus (s : State) (rq : Rq) : Option Nat :=
  match s.seen rq with
  | .again status _ => some status
  | _ => none

/-- The effect that the active chose (R424, R426): the TP of the entry that a streamed TAKE or firing has made, the effect period
of coefficients (R337), the effect boundary of a cursor element (R370). -/
def useChosen (c : ChangeRecord) (since : Nat) (s : State) : State :=
  let head := c.sub % 16
  let x := s.head head
  let t := s.tpTime (s.srcPlane (2048 + head)) c.tp - s.stepped
  if c.tp = 0 then s
  else if c.index = 0x7220 ∨ c.index = 0x7221 then
    let n := s.mix.coefs.foldl (fun m w => max m w.frame) 0
    { s with mix := { s.mix with coefs := s.mix.coefs.map fun w => if w.frame = n then { w with due := toSigned 64 c.tp } else w } }
  else if c.index = 0x8000 then
    (if c.sub < 0x40 then s.setHead head { x with cursorQ := x.cursorQ.modify (x.cursorQ.length - 1) fun e => (t, e.2) }
     else s.setHead head { x with imageQ := x.imageQ.modify (x.imageQ.length - 1) fun e => (t, e.2) })
  else { s with events := s.events.map fun e => if since ≤ e.order then { e with tp := c.tp } else e }

/-- The standby commits a streamed request at the active's commit instant (R424). -/
def commitStreamed (s : State) (c : ChangeRecord) : State :=
  let rq := viaStream c.rq
  let t := { s with now := (c.time : Rat) }
  let t := if memberLocal c.index c.sub then
      recordReply (appendLog t (requestEntry t rq c.index c.sub c.status { new := logBytes c.payload } false)) rq c.status []
    else useChosen c s.order (changeRequest t rq c.opcode c.index c.sub c.payload)
  { t with now := s.now }

/-- A CHANGE record at the standby (R421, R424, R428): the second copy is discarded; a gap, an effect instant that has passed or a
result that differs puts it out of step. -/
def applyChange (s : State) (c : ChangeRecord) : State :=
  let ahead := (c.seq + 2 ^ 32 - s.pair.streamApplied) % 2 ^ 32
  if s.mode ≠ .standby ∨ (s.pair.inStep = false ∧ s.pair.joinPhase ≠ 2) ∨ ahead = 0 ∨ 2 ^ 31 ≤ ahead then s
  else if ahead ≠ 1 ∨ ((c.time : Rat) + 2000 < s.now) then outOfStep s
  else
    let t := commitStreamed s c
    let t := { t with pair := { t.pair with
      streamApplied := c.seq % 2 ^ 32, streamed := t.pair.streamed ++ [(c.rq.origin, c.rq.session, c.rq.seq)] } }
    if t.streamStatus (viaStream c.rq) = some c.status then t else outOfStep t

def execChangeRecordApply (record : ChangeRecord) (s : State) : Host.Outcome State Fault Refusal :=
  onBridle s fun s => applyChange s record

/-! Mirrored decisions (R426). -/

/-- A decision's effect, by the model's KIND codes (see `mirror`). -/
def decide_ (s : State) (kind object : Nat) (value : Word) : State :=
  let flow := decide (object < 2048) && bindKind (s.inBind object) != 0
  match kind with
  | 2 => if flow then dropInput s object else s
  | 3 => if flow then returnInput s object else s
  | 4 => if flow then misTime s object else s
  | 5 => if flow && s.synced object then slotSelect s object (some (if value = 0 then none else some (value - 1))) else s
  | 6 => if s.hasBridge object then setRatio s object (toSigned 32 value) else s
  | 7 => if object < 32 then acceptLine s object value else s
  | 8 => if s.hasBridge object then
      acquireBridge s object (if value = 0 then none else some (value / 2 ^ 32, toSigned 32 (value % 2 ^ 32))) else s
  | 9 => if s.hasBridge object then widenBridge s object else s
  | 10 => if s.hasBridge object then dropBridge s object else s
  | 11 => if s.hasBridge object then recentre s object else s
  | 12 => if object < 4096 then setDrift s object (value != 0) else s
  | 13 =>
    let m := toSigned 64 value
    let us := (s.in_ object).units.filter fun u => u.frame == m
    if flow && !(s.in_ object).closed.any (fun c => decide (m ≤ c)) then
      closeUnits s object m (us.foldl (fun l u => placeUnit u l) []) false
    else s
  | 14 => if flow && s.synced object && (s.in_ object).win.any (fun f => f.count == value && f.stored) then
      loseFrame s object value else s
  | 15 => copyTold s object (value % 2 ^ 64) (value / 2 ^ 64)
  | 16 => if flow then
      let key := lineKey (s.srcFmt object) (toSigned 64 (value / 2 ^ 48)) (bits value 47 32)
      let x := s.in_ object
      s.setIn object { x with runs := (x.runs ++ [(key, bits value 31 16, bits value 15 0)]).drop (x.runs.length + 1 - 4096) }
    else s
  | 17 => if flow then closeTold s object (toSigned 64 (value / 2 ^ 16)) (bits value 15 0) else s
  | 18 => if object < 4096 then dropTold s object (toSigned 64 (value / 2 ^ 16)) (bits value 15 0) else s
  | 19 => if object < 40 then slipTold s object (bit value 1) (bit value 0) else s
  | 20 => if flow then numberFrame s object (toSigned 64 (value / 2 ^ 64)) (value % 2 ^ 64) else s
  | 21 => if flow then dropAncTold s object value else s
  | 23 => if object < 16 then planeTold s object value else s
  | 22 => setSilent s (object * 2 ^ 16 + value / 2) (value % 2 == 1)
  | _ => s

/-- A DECISION record at its effect point (R419, R426): the second copy is discarded; the last 64 are kept. -/
def applyDecision (s : State) (w : Word) : State :=
  if s.mode ≠ .standby ∨ (s.pair.inStep = false ∧ s.pair.joinPhase ≠ 2) ∨ bits w 255 248 ≠ 6 ∨ s.pair.decisions.contains w = true then s
  else
    let ds := s.pair.decisions ++ [w]
    decide_ { s with pair := { s.pair with decisions := ds.drop (ds.length - 64) } } (bits w 247 240) (bits w 239 224) (bits w 159 0)

def execDecisionRecordApply (record : Word) (s : State) : Host.Outcome State Fault Refusal :=
  onRecord record s fun s => applyDecision s record

/-! Relayed frames (R433). -/

/-- A frame as origin class PARTNER sees it processed (R433). -/
def relayRequest (s : State) (frame : List Byte) : State :=
  let h := ofBytes (frame.take 16)
  let rq := { headerRq .relay 0xFFF 0 frame with origin := 5 }
  let op := hdrOpcode h
  if op = opRead then readElement s rq (hdrIndex h) (hdrSub h)
  else if op = opBlockRead then blockReadElements s rq (hdrIndex h) (hdrSub h) (framePayload frame)
  else if op = opPendingDone then pendingDone s rq (hdrIndex h) (hdrSub h)
  else changeRequest s rq op (hdrIndex h) (hdrSub h) (framePayload frame)

/-- A relayed request is processed; the partner's final REPLY or NOTIFY goes on to the requester in a NOTIFY of 0x9040:0000. -/
def relayReceived (s : State) (frame : List Byte) : State :=
  let h := ofBytes (frame.take 16)
  if !s.paired || !s.bridleUp then s
  else if hdrOpcode h = 9 ∨ hdrOpcode h = 7 then
    (if hdrOpcode h = 9 ∧ bits h 119 112 = stPending then s else finishWaiting s 0x9040 0 stOk frame)
  else if frameBad frame false then s
  else relayRequest s frame

def execRelayFrameReceived (frame : List Byte) (s : State) : Host.Outcome State Fault Refusal :=
  onBridle s fun s => relayReceived s frame

/-! The event queue (R42, R57). -/

/-- The order of kinds that fire on one core cycle (R57). -/
def fireRank (e : Event) : Nat := if e.kind = 3 then 0 else if e.kind = 1 ∨ e.kind = 2 then 1 else if e.kind = 4 then 2 else 3

/-- Whether due entry `a` fires before `b` (R42, R57): on an earlier core cycle, or on the same one by kind and commit order. -/
def State.dueBefore (s : State) (a b : Event) : Bool :=
  let ka := s.cyclesTo a.plane a.tp
  let kb := s.cyclesTo b.plane b.tp
  decide (ka < kb) || (ka == kb && (decide (fireRank a < fireRank b) || (fireRank a == fireRank b && decide (a.order < b.order))))

/-- An entry put in its place among due ones. -/
def State.putDue (s : State) (e : Event) : List Event → List Event
  | [] => [e]
  | x :: l => if s.dueBefore e x then e :: x :: l else x :: s.putDue e l

/-- The pending entries that are due, each in the place of its own first core cycle (R42, R57). -/
def State.dueEvents (s : State) : List Event := (s.events.filter s.due).foldl (fun l e => s.putDue e l) []

/-- One due entry fires, unless what fired before it has taken it away or stopped the clocks. -/
def fireEntry (s : State) (e : Event) : State :=
  if !s.running || !s.events.any (fun x => x.order == e.order && !x.fired) then s
  else if e.kind = 3 then fireRefsel s e
  else if e.kind = 1 then fireTake s e
  else if e.kind = 2 then fireSalvo s e
  else if e.kind = 4 then drillFires s e
  else freeze { s with events := s.events.filter fun x => x.order != e.order } 2

/-- Every due entry fires (R42, R57). -/
def fireEvents (s : State) : State := purgeEvents (s.dueEvents.foldl fireEntry s)

def execEventFire (s : State) : Host.Outcome State Fault Refusal := actRunning s fireEvents

end Sys2Proof.Machine
end

