-- ==== Sys2Proof/Machine/Reorigin.lean ====
section
/-! DEFINITION. A plane's re-origin (R38, R45-R48): the end of its frames at b, its new phase at b', and what moves with the
count. -/

namespace Sys2Proof.Machine

/-- At b every output of the plane ends its frame, when b' lies later (R45). -/
def reoriginEnd (s : State) (p : Nat) : State :=
  match (s.plane p).step with
  | some r => if r.b ≤ s.now ∧ r.b < r.b' ∧ (s.plane p).gap = false then s.setPlane p { s.plane p with gap := true } else s
  | none => s

def execReoriginFrameEnd (p : Nat) (s : State) : Host.Outcome State Fault Refusal := onUnit p 4 s fun s => reoriginEnd s p

/-- Every output of plane `p` that has not reached its switch point starts its first frame with the new set (R45), a FOLLOW
output its change of format with it (R153, R191). -/
def switchAt (s : State) (p : Nat) (t : Rat) : State :=
  (s.outs.filter fun e => e.2.swapAt.isSome && s.outPlane e.1 == p).foldl (fun s e => switchNow s e.1 t) s

/-- A fired entry when plane `p` starts its new phase at `t'` (R45): its points on `p` that have not passed at `b` fall there,
those that have, and those on other planes, stand. -/
def movePoints (p : Nat) (b t' : Rat) (e : Event) : Event :=
  if e.fired then
    let points := e.points.map fun x => if x.1 = p ∧ b ≤ x.2 then (p, t') else x
    { e with points := points, ends := if points.isEmpty then e.ends else maxRat (points.map Prod.snd) }
  else e

/-- How far the frame numbers of a timeline with frames of `per` move where plane `p` went from origin `old` to its present
one: the frame that would have started at `b` is the one that starts at `b'` (R45). -/
def State.renumber (s : State) (p : Nat) (old b b' per off : Rat) : Int :=
  if per = 0 then 0 else ((b' - (s.plane p).origin - off) / per).floor - ((b - old - off) / per).floor

/-- How far the indices of the audio sample grid move with the origin of P0 (R53). -/
def State.regrid (s : State) (old b' : Rat) : Int :=
  ((b' - (s.plane 0).origin) / samplePeriod).ceil - ((b' - old) / samplePeriod).ceil

/-- What the sources of plane `p` hold under frame numbers goes to their new numbers (R45). -/
def renumberSources (s : State) (p : Nat) (old b b' : Rat) : State :=
  let by_ (n : Nat) : Int := if s.srcBound n ∧ s.srcPlane n = p then s.renumber p old b b' (s.srcFmt n).period 0 else 0
  let line (d : Int) (l : CellLine) : CellLine := { l with frame := l.frame + d }
  let staged (f : Staged) (d : Int) : Staged := { f with frame := f.frame + d }
  { s with
    cells := mapAll cellsD (fun n x =>
      { x with lines := x.lines.map (line (by_ n)), anc := x.anc.map fun (r : AncRun) => { r with frame := r.frame + by_ n } }) s.cells
    feeds := mapAll feedD (fun n x => x.map (line (by_ n))) s.feeds
    ins := mapAll inD (fun n x =>
      let d := by_ n
      { x with frame := x.frame.map (· + d), slot := x.slot.map (· + d)
               units := x.units.map fun (u : OpaqueUnit) => { u with frame := u.frame + d }
               closed := x.closed.map (· + d)
               metas := x.metas.map fun e => (e.1 + d, e.2)
               substFrame := x.substFrame.map (· + d)
               openLines := x.openLines.map fun (o : OpenLine) => { o with frame := o.frame + d }
               told := x.told.map fun e => (e.1 + d, e.2)
               runs := x.runs.map fun e => (e.1 + d * (formActive (s.srcFmt n).form : Nat), e.2)
               done := x.done.map (· + d * (formActive (s.srcFmt n).form : Nat)) }) s.ins
    heads := mapAll headD (fun h x =>
      { x with shots := x.shots.map fun (y : HeadShot) => { y with frame := y.frame + by_ (2048 + h) } }) s.heads
    gens := mapAll genD (fun g x => x.map fun (y : GenShot) => { y with frame := y.frame + by_ (2064 + g) }) s.gens
    layers := mapAll layerD (fun _ x =>
      let d (c : Staging) : Int := by_ c.geom.source
      { x with stages := x.stages.map fun (y : Stage) => { y with frames := y.frames.map fun f => staged f (d y.conf) }
               shown := x.shown.map fun (c : Contribution) =>
                 { c with staged := c.staged.map fun f => staged f (by_ c.geom.source) }
               last := x.last.map (· + ((x.conf.map d).getD 0)) }) s.layers
    windows := mapAll windowD (fun _ x =>
      let d := by_ (winTarget x.command)
      if winOp x.command = 1 then { x with first := x.first + d, frame := x.frame.map (· + d) } else x) s.windows }

/-- What the outputs of plane `p` hold under frame numbers, and under sample indices where `p` is P0, goes to the new
numbers (R45, R53). -/
def renumberOutputs (s : State) (p : Nat) (old b b' : Rat) : State :=
  let by_ (j : Nat) : Int :=
    if s.outKind j ≠ 0 ∧ s.outPlane j = p then s.renumber p old b b' (s.outFmt j).period (s.outOffset j) else 0
  let g := if p = 0 then s.regrid old b' else 0
  { s with
    outs := mapAll outD (fun j x => { x with
      frame := x.frame.map (· + by_ j), replaced := x.replaced.map fun k => (k.1 + by_ j, k.2)
      prev := if s.outPlane j = p then none else x.prev, units := if s.outPlane j = p then none else x.units
      sent := x.sent.map fun e => (e.1 + by_ j, e.2) }) s.outs
    tx := mapAll txD (fun e x => { x with
      frame := x.frame.map (· + (if isAudioKind (entryKind (s.txEntry e)) then g else by_ (entryTarget (s.txEntry e)))) }) s.tx
    mix := { s.mix with
      coefs := s.mix.coefs.map fun (c : CoefWrite) => { c with due := c.due + g } }
    period := s.period.map (· + g)
    ainIn := mapAll ainInD (fun _ q => q.map fun e => (e.1 + g, e.2)) s.ainIn }

/-- The source of an inherited timeline has stepped its device time with this device (R47): the offsets to it stand as before. -/
def followStep (s : State) (d : Rat) : State :=
  { s with ref := { s.ref with srcOffset := mapAll ratD (fun _ x => x + d) s.ref.srcOffset } }

/-- At b' the plane reads its new count (R45): origin, ORIGIN, a NOTE, a log entry, device time stepped (R48). Fired
events' effect points on the plane that have not passed fall here. -/
def reoriginStart (s : State) (p : Nat) : State := s |> noteClock fun s =>
  match (s.plane p).step with
  | some r =>
    if r.b' ≤ s.now then
      let old := (s.plane p).origin
      let s := { s with events := s.events.map (movePoints p r.b r.b') }
      let s := setOriginKind (s.setPlane p { s.plane p with origin := r.origin, step := none, gap := false }) p r.kind
      let s := replanMoves (renumberOutputs (renumberSources s p old r.b r.b') p old r.b r.b') p
      let s := switchAt s p r.b'
      let s := stepTime s r.stepNs
      let s := if r.carried then followStep s r.stepNs else s
      let s := if r.stepNs = 0 then s else
        (List.range 4).foldl (fun s q => match (s.plane q).step with
          | some x => s.setPlane q { s.plane q with step := some { x with stepNs := 0 } }
          | none => s) { s with ref := { s.ref with buildOut := 0 } }
      let s := declareFault s 0x024 p false false p
      logEvent s 0x2010 (4 + p) (logValue 8 (ofSigned 64 old.floor)) (logValue 8 (ofSigned 64 (s.plane p).origin.floor)) p
    else s
  | none => s

def execReoriginNewPhase (p : Nat) (s : State) : Host.Outcome State Fault Refusal := onUnit p 4 s fun s => reoriginStart s p

end Sys2Proof.Machine
end

