-- ==== Sys2Proof/Machine/Dispatch.lean ====
section
/-! DEFINITION. One arm per command: the direct call of its meaning. -/

namespace Sys2Proof.Machine

def exec (i : Instr) (s : State) : Host.Outcome State Fault Refusal :=
  match i with
  | .interDieLinkTimeout => Sys2Proof.Machine.execInterDieLinkTimeout s
  | .interDieResend => Sys2Proof.Machine.execInterDieResend s
  | .eventFire => Sys2Proof.Machine.execEventFire s
  | .planeConfigWrite rq plane value => Sys2Proof.Machine.execPlaneConfigWrite rq plane value s
  | .reorigin rq plane value => Sys2Proof.Machine.execReorigin rq plane value s
  | .reoriginFrameEnd plane => Sys2Proof.Machine.execReoriginFrameEnd plane s
  | .reoriginNewPhase plane => Sys2Proof.Machine.execReoriginNewPhase plane s
  | .candidatePresent cand detail freq grid => Sys2Proof.Machine.execCandidatePresent cand detail freq grid s
  | .candidateLoss cand reason => Sys2Proof.Machine.execCandidateLoss cand reason s
  | .candidateQualify cand => Sys2Proof.Machine.execCandidateQualify cand s
  | .candidateConfigWrite rq cand value => Sys2Proof.Machine.execCandidateConfigWrite rq cand value s
  | .priorityTableWrite rq sub value => Sys2Proof.Machine.execPriorityTableWrite rq sub value s
  | .refselSchedule rq arg => Sys2Proof.Machine.execRefselSchedule rq arg s
  | .refselFire => Sys2Proof.Machine.execRefselFire s
  | .manualClear rq value => Sys2Proof.Machine.execManualClear rq value s
  | .phaseMeasurement error freq grid => Sys2Proof.Machine.execPhaseMeasurement error freq grid s
  | .dpllCapture => Sys2Proof.Machine.execDpllCapture s
  | .dpllLocked => Sys2Proof.Machine.execDpllLocked s
  | .lossOfLock => Sys2Proof.Machine.execLossOfLock s
  | .ballastSecondRecord => Sys2Proof.Machine.execBallastSecondRecord s
  | .ptpMessageReceived inst domain msg => Sys2Proof.Machine.execPtpMessageReceived inst domain msg s
  | .ptpDelayReqSend inst => Sys2Proof.Machine.execPtpDelayReqSend inst s
  | .ptpAnnounceTimeout inst => Sys2Proof.Machine.execPtpAnnounceTimeout inst s
  | .ppsOutPulse => Sys2Proof.Machine.execPpsOutPulse s
  | .frameOutPulse => Sys2Proof.Machine.execFrameOutPulse s
  | .laneModeWrite rq lane value => Sys2Proof.Machine.execLaneModeWrite rq lane value s
  | .laneRateWrite rq sub value => Sys2Proof.Machine.execLaneRateWrite rq sub value s
  | .synthesiserLocked synth => Sys2Proof.Machine.execSynthesiserLocked synth s
  | .synthesiserLockFail synth => Sys2Proof.Machine.execSynthesiserLockFail synth s
  | .synthesiserRelockAttempt synth => Sys2Proof.Machine.execSynthesiserRelockAttempt synth s
  | .adaptationComplete lane => Sys2Proof.Machine.execAdaptationComplete lane s
  | .losDeclare lane => Sys2Proof.Machine.execLosDeclare lane s
  | .losClear lane => Sys2Proof.Machine.execLosClear lane s
  | .lolDeclare lane => Sys2Proof.Machine.execLolDeclare lane s
  | .lolClear lane => Sys2Proof.Machine.execLolClear lane s
  | .ethernetLinkChange lane up trained => Sys2Proof.Machine.execEthernetLinkChange lane up trained s
  | .sdiRateDetected lane code => Sys2Proof.Machine.execSdiRateDetected lane code s
  | .polarityReversalDetected lane => Sys2Proof.Machine.execPolarityReversalDetected lane s
  | .tetherCommaInsert sent => Sys2Proof.Machine.execTetherCommaInsert sent s
  | .alignmentAcquired lane marker skew => Sys2Proof.Machine.execAlignmentAcquired lane marker skew s
  | .alignmentLost seen => Sys2Proof.Machine.execAlignmentLost seen s
  | .uncorrectableCodeword heard errors => Sys2Proof.Machine.execUncorrectableCodeword heard errors s
  | .electricalIdleEnter sent => Sys2Proof.Machine.execElectricalIdleEnter sent s
  | .idleMarkerReceived lane marker => Sys2Proof.Machine.execIdleMarkerReceived lane marker s
  | .electricalIdleExit exit => Sys2Proof.Machine.execElectricalIdleExit exit s
  | .idleExitFailure lane => Sys2Proof.Machine.execIdleExitFailure lane s
  | .txShortDeclare lane => Sys2Proof.Machine.execTxShortDeclare lane s
  | .txShortProbe lane short => Sys2Proof.Machine.execTxShortProbe lane short s
  | .laneDiagWrite rq lane value => Sys2Proof.Machine.execLaneDiagWrite rq lane value s
  | .patternErrorInject rq lane value => Sys2Proof.Machine.execPatternErrorInject rq lane value s
  | .trsLock lane => Sys2Proof.Machine.execTrsLock lane s
  | .trsLockLost lane => Sys2Proof.Machine.execTrsLockLost lane s
  | .sdiLineReceived lane line => Sys2Proof.Machine.execSdiLineReceived lane line s
  | .formatMismatchClear flow => Sys2Proof.Machine.execFormatMismatchClear flow s
  | .outputFrameStart output => Sys2Proof.Machine.execOutputFrameStart output s
  | .outputLineLaunch output line => Sys2Proof.Machine.execOutputLineLaunch output line s
  | .outputSwitchPoint output => Sys2Proof.Machine.execOutputSwitchPoint output s
  | .arpFrameReceived frame request target sender senderMac => Sys2Proof.Machine.execArpFrameReceived frame request target sender senderMac s
  | .arpResolveRetry lane address => Sys2Proof.Machine.execArpResolveRetry lane address s
  | .arpRefresh lane address => Sys2Proof.Machine.execArpRefresh lane address s
  | .igmpQueryReceived frame query => Sys2Proof.Machine.execIgmpQueryReceived frame query s
  | .igmpQueryResponse lane vlan => Sys2Proof.Machine.execIgmpQueryResponse lane vlan s
  | .igmpStateChangeReport lane vlan => Sys2Proof.Machine.execIgmpStateChangeReport lane vlan s
  | .igmpCompatTimeout lane vlan => Sys2Proof.Machine.execIgmpCompatTimeout lane vlan s
  | .mediaPacketReceived lane packet => Sys2Proof.Machine.execMediaPacketReceived lane packet s
  | .lineCloseTimeout flow line => Sys2Proof.Machine.execLineCloseTimeout flow line s
  | .rxEntryWrite rq entry value => Sys2Proof.Machine.execRxEntryWrite rq entry value s
  | .txEntryWrite rq entry value => Sys2Proof.Machine.execTxEntryWrite rq entry value s
  | .videoPacketSend entry => Sys2Proof.Machine.execVideoPacketSend entry s
  | .audioPacketSend entry => Sys2Proof.Machine.execAudioPacketSend entry s
  | .ancPacketSend entry => Sys2Proof.Machine.execAncPacketSend entry s
  | .tsDriftDeclare entry => Sys2Proof.Machine.execTsDriftDeclare entry s
  | .ancAttachTimeout flow => Sys2Proof.Machine.execAncAttachTimeout flow s
  | .pathAbsent flow path => Sys2Proof.Machine.execPathAbsent flow path s
  | .ipInputLost flow => Sys2Proof.Machine.execIpInputLost flow s
  | .inputReturn flow => Sys2Proof.Machine.execInputReturn flow s
  | .holdExpiry flow => Sys2Proof.Machine.execHoldExpiry flow s
  | .inputMistimed flow => Sys2Proof.Machine.execInputMistimed flow s
  | .mistimedRecovery flow => Sys2Proof.Machine.execMistimedRecovery flow s
  | .autoSyncPromotion flow => Sys2Proof.Machine.execAutoSyncPromotion flow s
  | .promotionRetry flow => Sys2Proof.Machine.execPromotionRetry flow s
  | .shadowWrite rq index sub value => Sys2Proof.Machine.execShadowWrite rq index sub value s
  | .protectionWrite rq output value => Sys2Proof.Machine.execProtectionWrite rq output value s
  | .take rq arg => Sys2Proof.Machine.execTake rq arg s
  | .cascadeTake rq arg => Sys2Proof.Machine.execCascadeTake rq arg s
  | .takeSwap => Sys2Proof.Machine.execTakeSwap s
  | .reseedComplete bank => Sys2Proof.Machine.execReseedComplete bank s
  | .abort rq arg => Sys2Proof.Machine.execAbort rq arg s
  | .cascadeAbort rq arg => Sys2Proof.Machine.execCascadeAbort rq arg s
  | .discard rq arg => Sys2Proof.Machine.execDiscard rq arg s
  | .salvoStore rq salvo image => Sys2Proof.Machine.execSalvoStore rq salvo image s
  | .salvoFire who value => Sys2Proof.Machine.execSalvoFire who value s
  | .salvoExecute => Sys2Proof.Machine.execSalvoExecute s
  | .structuralWrite rq index sub value => Sys2Proof.Machine.execStructuralWrite rq index sub value s
  | .movePoint index sub => Sys2Proof.Machine.execMovePoint index sub s
  | .fsSlotSelect flow => Sys2Proof.Machine.execFsSlotSelect flow s
  | .audioPeriod frames => Sys2Proof.Machine.execAudioPeriod frames s
  | .bridgeAcquire bridge rate => Sys2Proof.Machine.execBridgeAcquire bridge rate s
  | .bridgeBandwidthStep bridge => Sys2Proof.Machine.execBridgeBandwidthStep bridge s
  | .bridgeRatioUpdate bridge error => Sys2Proof.Machine.execBridgeRatioUpdate bridge error s
  | .bridgeSourceLost bridge => Sys2Proof.Machine.execBridgeSourceLost bridge s
  | .audioPortClockLost port => Sys2Proof.Machine.execAudioPortClockLost port s
  | .gainStepTimeout slot => Sys2Proof.Machine.execGainStepTimeout slot s
  | .delayCrossfadeEnd slot => Sys2Proof.Machine.execDelayCrossfadeEnd slot s
  | .meterIntervalEnd => Sys2Proof.Machine.execMeterIntervalEnd s
  | .spoolLoad rq bank image => Sys2Proof.Machine.execSpoolLoad rq bank image s
  | .spoolCheckComplete bank => Sys2Proof.Machine.execSpoolCheckComplete bank s
  | .spoolLoadAbandon bank => Sys2Proof.Machine.execSpoolLoadAbandon bank s
  | .spoolBankEmpty rq value => Sys2Proof.Machine.execSpoolBankEmpty rq value s
  | .spoolEffectPoint => Sys2Proof.Machine.execSpoolEffectPoint s
  | .coefficientWrite rq bank entry payload => Sys2Proof.Machine.execCoefficientWrite rq bank entry payload s
  | .coefficientEffect => Sys2Proof.Machine.execCoefficientEffect s
  | .headFrameBoundary head => Sys2Proof.Machine.execHeadFrameBoundary head s
  | .stagedFrameComplete head layer => Sys2Proof.Machine.execStagedFrameComplete head layer s
  | .headTimingChange head => Sys2Proof.Machine.execHeadTimingChange head s
  | .spriteUpload rq sprite image => Sys2Proof.Machine.execSpriteUpload rq sprite image s
  | .spriteCapture rq value => Sys2Proof.Machine.execSpriteCapture rq value s
  | .spriteCaptureDone sprite => Sys2Proof.Machine.execSpriteCaptureDone sprite s
  | .spriteCaptureTimeout sprite => Sys2Proof.Machine.execSpriteCaptureTimeout sprite s
  | .spriteDelete rq value => Sys2Proof.Machine.execSpriteDelete rq value s
  | .staticLayerWrite rq layer value => Sys2Proof.Machine.execStaticLayerWrite rq layer value s
  | .blitCopy rq command => Sys2Proof.Machine.execBlitCopy rq command s
  | .blitFill rq command => Sys2Proof.Machine.execBlitFill rq command s
  | .blitterJobStart => Sys2Proof.Machine.execBlitterJobStart s
  | .blitterJobComplete => Sys2Proof.Machine.execBlitterJobComplete s
  | .cursorWrite rq sub payload => Sys2Proof.Machine.execCursorWrite rq sub payload s
  | .helloSend => Sys2Proof.Machine.execHelloSend s
  | .helloReceived port hello => Sys2Proof.Machine.execHelloReceived port hello s
  | .tetherPortUp port => Sys2Proof.Machine.execTetherPortUp port s
  | .tetherPortDown port => Sys2Proof.Machine.execTetherPortDown port s
  | .tetherTimelineSend => Sys2Proof.Machine.execTetherTimelineSend s
  | .tetherTimelineReceived port record => Sys2Proof.Machine.execTetherTimelineReceived port record s
  | .tetherPlanecfgReceived link plane config times => Sys2Proof.Machine.execTetherPlanecfgReceived link plane config times s
  | .pathEcho port t1 t2 t3 t4 => Sys2Proof.Machine.execPathEcho port t1 t2 t3 t4 s
  | .tetherCellReceived port cell => Sys2Proof.Machine.execTetherCellReceived port cell s
  | .creditReceived port vc0 vc1 => Sys2Proof.Machine.execCreditReceived port vc0 vc1 s
  | .creditStall port => Sys2Proof.Machine.execCreditStall port s
  | .tetherBindingWrite rq flow value => Sys2Proof.Machine.execTetherBindingWrite rq flow value s
  | .reserveReceived port msg => Sys2Proof.Machine.execReserveReceived port msg s
  | .streamStateReceived port label state => Sys2Proof.Machine.execStreamStateReceived port label state s
  | .tunnelRequest rq opcode index sub payload => Sys2Proof.Machine.execTunnelRequest rq opcode index sub payload s
  | .tunnelFragmentReceived port target source number last data => Sys2Proof.Machine.execTunnelFragmentReceived port target source number last data s
  | .tunnelTimeout => Sys2Proof.Machine.execTunnelTimeout s
  | .cascadeRecordReceived port msg => Sys2Proof.Machine.execCascadeRecordReceived port msg s
  | .changeoverRecordReceived port => Sys2Proof.Machine.execChangeoverRecordReceived port s
  | .join rq value => Sys2Proof.Machine.execJoin rq value s
  | .release rq value => Sys2Proof.Machine.execRelease rq value s
  | .clearSuspect rq value => Sys2Proof.Machine.execClearSuspect rq value s
  | .claimInRise => Sys2Proof.Machine.execClaimInRise s
  | .claimConflict => Sys2Proof.Machine.execClaimConflict s
  | .claimInFall power => Sys2Proof.Machine.execClaimInFall power s
  | .quench => Sys2Proof.Machine.execQuench s
  | .quenchRelease => Sys2Proof.Machine.execQuenchRelease s
  | .heartbeatSend => Sys2Proof.Machine.execHeartbeatSend s
  | .heartbeatReceived record => Sys2Proof.Machine.execHeartbeatReceived record s
  | .heartbeatLost => Sys2Proof.Machine.execHeartbeatLost s
  | .bridleTimelineReceived record => Sys2Proof.Machine.execBridleTimelineReceived record s
  | .changeRecordApply record => Sys2Proof.Machine.execChangeRecordApply record s
  | .decisionRecordApply record => Sys2Proof.Machine.execDecisionRecordApply record s
  | .faultRecordReceived record => Sys2Proof.Machine.execFaultRecordReceived record s
  | .digestCompare count entries => Sys2Proof.Machine.execDigestCompare count entries s
  | .joinRequestReceived => Sys2Proof.Machine.execJoinRequestReceived s
  | .joinRetry => Sys2Proof.Machine.execJoinRetry s
  | .joinSnapshot => Sys2Proof.Machine.execJoinSnapshot s
  | .stateRecordApply record => Sys2Proof.Machine.execStateRecordApply record s
  | .joinInStep => Sys2Proof.Machine.execJoinInStep s
  | .changeoverRequestReceived port => Sys2Proof.Machine.execChangeoverRequestReceived port s
  | .handoverTp => Sys2Proof.Machine.execHandoverTp s
  | .partnerRelay rq frame => Sys2Proof.Machine.execPartnerRelay rq frame s
  | .relayFrameReceived frame => Sys2Proof.Machine.execRelayFrameReceived frame s
  | .drill rq arg => Sys2Proof.Machine.execDrill rq arg s
  | .drillFire => Sys2Proof.Machine.execDrillFire s
  | .soloClaim => Sys2Proof.Machine.execSoloClaim s
  | .dumusFrameReceived port dst etherType src tagged fcsOk frame => Sys2Proof.Machine.execDumusFrameReceived port dst etherType src tagged fcsOk frame s
  | .read rq index sub => Sys2Proof.Machine.execRead rq index sub s
  | .write rq index sub payload => Sys2Proof.Machine.execWrite rq index sub payload s
  | .blockWrite rq index sub payload => Sys2Proof.Machine.execBlockWrite rq index sub payload s
  | .blockTransferAbandon index sub halt => Sys2Proof.Machine.execBlockTransferAbandon index sub halt s
  | .blockRead rq index sub payload => Sys2Proof.Machine.execBlockRead rq index sub payload s
  | .pendingDone rq index sub => Sys2Proof.Machine.execPendingDone rq index sub s
  | .notifyResend origin session seq => Sys2Proof.Machine.execNotifyResend origin session seq s
  | .replyBackoffRetry port collides => Sys2Proof.Machine.execReplyBackoffRetry port collides s
  | .wake port frame => Sys2Proof.Machine.execWake port frame s
  | .cardSend length frame crc => Sys2Proof.Machine.execCardSend length frame crc s
  | .cardReceive => Sys2Proof.Machine.execCardReceive s
  | .cardStatus => Sys2Proof.Machine.execCardStatus s
  | .windowRead window offset length => Sys2Proof.Machine.execWindowRead window offset length s
  | .windowWrite window offset data => Sys2Proof.Machine.execWindowWrite window offset data s
  | .keyWrite rq sub payload => Sys2Proof.Machine.execKeyWrite rq sub payload s
  | .logRelease rq entry => Sys2Proof.Machine.execLogRelease rq entry s
  | .windowCapture rq window command => Sys2Proof.Machine.execWindowCapture rq window command s
  | .windowInsert rq window command => Sys2Proof.Machine.execWindowInsert rq window command s
  | .windowStop rq window command => Sys2Proof.Machine.execWindowStop rq window command s
  | .windowOperationStart window => Sys2Proof.Machine.execWindowOperationStart window s
  | .windowOperationEnd window halt => Sys2Proof.Machine.execWindowOperationEnd window halt s
  | .requestService rq => Sys2Proof.Machine.execRequestService rq s
  | .requestSolo rq => Sys2Proof.Machine.execRequestSolo rq s
  | .requestDormant rq => Sys2Proof.Machine.execRequestDormant rq s
  | .dormantPrepare => Sys2Proof.Machine.execDormantPrepare s
  | .dormantPowerDown => Sys2Proof.Machine.execDormantPowerDown s
  | .fatalDeclaration source detail => Sys2Proof.Machine.execFatalDeclaration source detail s
  | .exairPowerOn => Sys2Proof.Machine.execExairPowerOn s
  | .mainPowerEnable => Sys2Proof.Machine.execMainPowerEnable s
  | .powerSequenceTimeout => Sys2Proof.Machine.execPowerSequenceTimeout s
  | .powerSequenceRetry => Sys2Proof.Machine.execPowerSequenceRetry s
  | .powerGoodLost sramKept => Sys2Proof.Machine.execPowerGoodLost sramKept s
  | .porstAssert => Sys2Proof.Machine.execPorstAssert s
  | .porstRelease nodeSel sideB sramKept => Sys2Proof.Machine.execPorstRelease nodeSel sideB sramKept s
  | .selfCheckComplete failed => Sys2Proof.Machine.execSelfCheckComplete failed s
  | .slotVerifyComplete => Sys2Proof.Machine.execSlotVerifyComplete s
  | .componentStart => Sys2Proof.Machine.execComponentStart s
  | .componentReady => Sys2Proof.Machine.execComponentReady s
  | .componentReadyTimeout => Sys2Proof.Machine.execComponentReadyTimeout s
  | .configInstall => Sys2Proof.Machine.execConfigInstall s
  | .bootEnd => Sys2Proof.Machine.execBootEnd s
  | .bootPartnerWaitEnd => Sys2Proof.Machine.execBootPartnerWaitEnd s
  | .stagePackage rq path => Sys2Proof.Machine.execStagePackage rq path s
  | .stagingComplete file => Sys2Proof.Machine.execStagingComplete file s
  | .stagingFailure result halt => Sys2Proof.Machine.execStagingFailure result halt s
  | .healthConfirm rq value => Sys2Proof.Machine.execHealthConfirm rq value s
  | .healthConfirmTimeout => Sys2Proof.Machine.execHealthConfirmTimeout s
  | .configSave rq => Sys2Proof.Machine.execConfigSave rq s
  | .configSaveComplete => Sys2Proof.Machine.execConfigSaveComplete s
  | .configErase rq => Sys2Proof.Machine.execConfigErase rq s
  | .selectGoodSlot rq => Sys2Proof.Machine.execSelectGoodSlot rq s
  | .eccWriteback memory address => Sys2Proof.Machine.execEccWriteback memory address s
  | .scrubRead memory error => Sys2Proof.Machine.execScrubRead memory error s
  | .scrubLapEnd memory => Sys2Proof.Machine.execScrubLapEnd memory s
  | .faultForce rq source value => Sys2Proof.Machine.execFaultForce rq source value s
  | .alarmClear rq source value => Sys2Proof.Machine.execAlarmClear rq source value s
  | .rearm rq value => Sys2Proof.Machine.execRearm rq value s
  | .freezePin => Sys2Proof.Machine.execFreezePin s
  | .freezeSchedule rq arg => Sys2Proof.Machine.execFreezeSchedule rq arg s
  | .freezeCancel rq arg => Sys2Proof.Machine.execFreezeCancel rq arg s
  | .scheduledFreeze => Sys2Proof.Machine.execScheduledFreeze s
  | .freezeOnFatal => Sys2Proof.Machine.execFreezeOnFatal s
  | .thermalSensorRead hottest => Sys2Proof.Machine.execThermalSensorRead hottest s
  | .thermAlert low => Sys2Proof.Machine.execThermAlert low s
  | .oscInFailed => Sys2Proof.Machine.execOscInFailed s
  | .trstReset => Sys2Proof.Machine.execTrstReset s
  | .extest => Sys2Proof.Machine.execExtest s
  | .samplePreload => Sys2Proof.Machine.execSamplePreload s
  | .idcode => Sys2Proof.Machine.execIdcode s
  | .bypass code => Sys2Proof.Machine.execBypass code s
  | .captureRead nbits => Sys2Proof.Machine.execCaptureRead nbits s
  | .captureSeek section_ => Sys2Proof.Machine.execCaptureSeek section_ s
  | .lifecycle => Sys2Proof.Machine.execLifecycle s
  | .openChallenge => Sys2Proof.Machine.execOpenChallenge s
  | .openResponse signature failing => Sys2Proof.Machine.execOpenResponse signature failing s
  | .relock value => Sys2Proof.Machine.execRelock value s
  | .debugAccess write target address data => Sys2Proof.Machine.execDebugAccess write target address data s
  | .licenceTokenWrite rq slot payload => Sys2Proof.Machine.execLicenceTokenWrite rq slot payload s
  | .crossbarAccessError master target => Sys2Proof.Machine.execCrossbarAccessError master target s
  | .fieldLineConfigWrite rq line value => Sys2Proof.Machine.execFieldLineConfigWrite rq line value s
  | .fieldLineHoldEnd line => Sys2Proof.Machine.execFieldLineHoldEnd line s
  | .fieldInputMeasure line ohms => Sys2Proof.Machine.execFieldInputMeasure line ohms s
  | .fieldInputAccept line => Sys2Proof.Machine.execFieldInputAccept line s
  | .fieldOutputReadback line volts => Sys2Proof.Machine.execFieldOutputReadback line volts s
  | .contentionDeclare line => Sys2Proof.Machine.execContentionDeclare line s
  | .contentionClear line => Sys2Proof.Machine.execContentionClear line s
  | .outputOvercurrent line => Sys2Proof.Machine.execOutputOvercurrent line s
  | .overcurrentRetry line atLimit => Sys2Proof.Machine.execOvercurrentRetry line atLimit s
  | .openLoadDeclare line => Sys2Proof.Machine.execOpenLoadDeclare line s
  | .openLoadClear line => Sys2Proof.Machine.execOpenLoadClear line s
  | .vfieldCheck volts => Sys2Proof.Machine.execVfieldCheck volts s
  | .tallyRuleWrite rq line value => Sys2Proof.Machine.execTallyRuleWrite rq line value s
  | .fieldPortLineCheck port amplitude => Sys2Proof.Machine.execFieldPortLineCheck port amplitude s
  | .fieldPortStuck port => Sys2Proof.Machine.execFieldPortStuck port s
  | .fieldPortStuckClear port => Sys2Proof.Machine.execFieldPortStuckClear port s
  | .powerDown => Sys2Proof.Machine.execPowerDown s
  | .porstNRisesInDormant => Sys2Proof.Machine.execPorstNRisesInDormant s
  | .audioPortFrame port rate samples bad block => Sys2Proof.Machine.execAudioPortFrame port rate samples bad block s
  | .requestsMissingFromStream origin session seq => Sys2Proof.Machine.execRequestsMissingFromStream origin session seq s
  | .generatorFrameStart generator => Sys2Proof.Machine.execGeneratorFrameStart generator s
  | .planecfgSend => Sys2Proof.Machine.execPlanecfgSend s
  | .creditSend port => Sys2Proof.Machine.execCreditSend port s
  | .bridleTimelineSend => Sys2Proof.Machine.execBridleTimelineSend s
  | .unknownCardCommand code => Sys2Proof.Machine.execUnknownCardCommand code s

end Sys2Proof.Machine
end

