-- ==== Sys2Proof/Machine/Tick.lean ====
section
/-! DEFINITION. One core cycle with no command waiting: device time, the DPLL's slew and the pattern checkers advance
(R27, R48, R73, R89, R128). A DESIGN CHOICE: the spec's commands are the events of the device, and time passes between
them. -/

namespace Sys2Proof.Machine

/-- A slew, the way to the ballast or to nominal, and the loop's output while it tracks move the output frequency towards
their goal within the slew limit (R72, R73, R79). A fatal fault that stopped everything leaves it where it is (R93). -/
def slewFor (s : State) (dt : Rat) : State :=
  match s.ref.slewTo with
  | some f => if s.allStopped then s else { s with freqNow := limitFreq s dt f }
  | none => s

/-- The control value summed over the present second (R89). -/
def sumControl (s : State) (dt : Rat) : State := { s with ref := { s.ref with acc := s.ref.acc + s.freqNow * dt } }

/-- What one core cycle changes. -/
def cyclePasses (s : State) : State :=
  let dt := s.cycleNs
  checkPatterns (sumControl (slewFor { s with now := s.now + dt } dt) dt) dt

/-- One core cycle: nothing in DORMANT, in FROZEN or in reset, where the clocks stand. -/
def coreCycle (s : State) : Host.Outcome State Fault Refusal := actRunning s cyclePasses

end Sys2Proof.Machine
end

