-- ==== Sys2Proof/WellFormed.lean ====
section
/-! DEFINITION. The well-formed commands: every operand names a unit the device has and fits the field it stands in. -/

namespace Sys2Proof

/-- A request header whose fields fit their places in the frame (R451), of at most 1,024 payload bytes. -/
def Rq.wf (rq : Rq) : Bool :=
  decide (rq.tnode < 4096) && decide (rq.src < 2 ^ 48) && decide (rq.node < 256) && decide (rq.origin < 16) &&
  decide (rq.session < 65536) && decide (rq.seq < 65536) && decide (rq.len ≤ 1024) && decide (rq.key < 2) &&
  decide (rq.typ < 256) && decide (rq.tag < 2 ^ 64) && decide (rq.rsv < 256)

/-- A DMA channel and a memory that the device has (R549). -/
def DmaHalt.wf (h : DmaHalt) : Bool := decide (h.channel < 4) && decide (h.memory < 24) && decide (h.address < 2 ^ 32)

/-- A line block's payload of 256 bits, and a PAM4 level (R113, R116). -/
def blockFits (b : Bool × Word) : Bool := decide (b.2 < 2 ^ 256)
def levelFits (y : Nat) : Bool := decide (y < 4)
def markerFits (m : Option Word) : Bool := m.all fun w => decide (w < 2 ^ 32)

/-- What comes to or leaves a lane that the device has (R94). -/
def LaneBlocks.fits (x : LaneBlocks) : Bool := decide (x.lane < 192) && x.blocks.all blockFits
def LaneCommas.fits (x : LaneCommas) : Bool := decide (x.lane < 192) && x.found.all markerFits
def LaneLevels.fits (x : LaneLevels) : Bool := decide (x.lane < 192) && x.levels.all levelFits
/-- An Ethernet frame's head (R161): a MAC address, a VLAN tag's VID (0: untagged). -/
def LaneFrame.fits (x : LaneFrame) : Bool :=
  decide (x.lane < 192) && decide (x.frame.mac < 2 ^ 48) && decide (x.frame.vlan < 4096)

/-- A value fits the payload of LENGTH bytes. -/
def Rq.fits (rq : Rq) (v : Word) : Bool := decide (v < 256 ^ rq.len)

/-- A command whose operands name units that exist and fit their fields (R29, R451, and the rule of each row). -/
def Instr.wf : Instr → Bool
  | .interDieLinkTimeout => true
  | .interDieResend => true
  | .eventFire => true
  | .planeConfigWrite rq plane value => rq.wf && decide (plane < 4) && rq.fits value
  | .reorigin rq plane value => rq.wf && decide (plane < 4) && rq.fits value
  | .reoriginFrameEnd plane => decide (plane < 4)
  | .reoriginNewPhase plane => decide (plane < 4)
  | .candidatePresent cand detail _ _ => decide (cand < 10) && decide (detail < 256)
  | .candidateLoss cand reason => decide (cand < 10) && decide (reason < 16)
  | .candidateQualify cand => decide (cand < 10)
  | .candidateConfigWrite rq cand value => rq.wf && decide (cand < 10) && rq.fits value
  | .priorityTableWrite rq sub value => rq.wf && ((decide (sub < 10) || sub == 0x10)) && rq.fits value
  | .refselSchedule rq arg => rq.wf && rq.fits arg
  | .refselFire => true
  | .manualClear rq value => rq.wf && rq.fits value
  | .phaseMeasurement _ _ _ => true
  | .dpllCapture => true
  | .dpllLocked => true
  | .lossOfLock => true
  | .ballastSecondRecord => true
  | .ptpMessageReceived inst domain _ => decide (inst < 2) && decide (domain < 128)
  | .ptpDelayReqSend inst => decide (inst < 2)
  | .ptpAnnounceTimeout inst => decide (inst < 2)
  | .ppsOutPulse => true
  | .frameOutPulse => true
  | .laneModeWrite rq lane value => rq.wf && decide (lane < 192) && rq.fits value
  | .laneRateWrite rq sub value => rq.wf && (decide (sub % 256 < 192) && decide (sub < 0x1C0) ) && rq.fits value
  | .synthesiserLocked synth => decide (synth < 96)
  | .synthesiserLockFail synth => decide (synth < 96)
  | .synthesiserRelockAttempt synth => decide (synth < 96)
  | .adaptationComplete lane => decide (lane < 192)
  | .losDeclare lane => decide (lane < 192)
  | .losClear lane => decide (lane < 192)
  | .lolDeclare lane => decide (lane < 192)
  | .lolClear lane => decide (lane < 192)
  | .ethernetLinkChange lane _ _ => decide (lane < 192)
  | .sdiRateDetected lane code => decide (lane < 192) && decide (code < 16)
  | .polarityReversalDetected lane => decide (lane < 192)
  | .tetherCommaInsert sent => sent.fits
  | .alignmentAcquired lane marker _ => decide (lane < 192) && decide (marker < 2 ^ 64)
  | .alignmentLost seen => seen.fits
  | .uncorrectableCodeword heard _ => heard.fits
  | .electricalIdleEnter sent => sent.fits
  | .idleMarkerReceived lane marker => decide (lane < 192) && decide (marker < 2 ^ 64)
  | .electricalIdleExit exit => decide (exit.lane < 192)
  | .idleExitFailure lane => decide (lane < 192)
  | .txShortDeclare lane => decide (lane < 192)
  | .txShortProbe lane _ => decide (lane < 192)
  | .laneDiagWrite rq lane value => rq.wf && decide (lane < 192) && rq.fits value
  | .patternErrorInject rq lane value => rq.wf && decide (lane < 192) && rq.fits value
  | .trsLock lane => decide (lane < 192)
  | .trsLockLost lane => decide (lane < 192)
  | .sdiLineReceived lane _ => decide (lane < 192)
  | .formatMismatchClear flow => decide (flow < 2048)
  | .outputFrameStart output => decide (output < 2048)
  | .outputLineLaunch output line => decide (output < 2048) && decide (line < 2048)
  | .outputSwitchPoint output => decide (output < 2048)
  | .arpFrameReceived frame _ target sender senderMac => frame.fits && decide (target < 2 ^ 32) && decide (sender < 2 ^ 32) && decide (senderMac < 2 ^ 48)
  | .arpResolveRetry lane address => decide (lane < 192) && decide (address < 4294967296)
  | .arpRefresh lane address => decide (lane < 192) && decide (address < 4294967296)
  | .igmpQueryReceived frame _ => frame.fits
  | .igmpQueryResponse lane vlan => decide (lane < 192) && decide (vlan < 4096)
  | .igmpStateChangeReport lane vlan => decide (lane < 192) && decide (vlan < 4096)
  | .igmpCompatTimeout lane vlan => decide (lane < 192) && decide (vlan < 4096)
  | .mediaPacketReceived lane _ => decide (lane < 192)
  | .lineCloseTimeout flow line => decide (flow < 2048) && decide (line < 2048)
  | .rxEntryWrite rq entry value => rq.wf && decide (entry < 4096) && rq.fits value
  | .txEntryWrite rq entry value => rq.wf && decide (entry < 4096) && rq.fits value
  | .videoPacketSend entry => decide (entry < 4096)
  | .audioPacketSend entry => decide (entry < 4096)
  | .ancPacketSend entry => decide (entry < 4096)
  | .tsDriftDeclare entry => decide (entry < 4096)
  | .ancAttachTimeout flow => decide (flow < 2048)
  | .pathAbsent flow path => decide (flow < 2048) && decide (path < 2)
  | .ipInputLost flow => decide (flow < 2048)
  | .inputReturn flow => decide (flow < 2048)
  | .holdExpiry flow => decide (flow < 2048)
  | .inputMistimed flow => decide (flow < 2048)
  | .mistimedRecovery flow => decide (flow < 2048)
  | .autoSyncPromotion flow => decide (flow < 2048)
  | .promotionRetry flow => decide (flow < 2048)
  | .shadowWrite rq index sub value => rq.wf && decide (index < 65536) && decide (sub < 65536) && rq.fits value
  | .protectionWrite rq output value => rq.wf && decide (output < 2048) && rq.fits value
  | .take rq arg => rq.wf && rq.fits arg
  | .cascadeTake rq arg => rq.wf && rq.fits arg
  | .takeSwap => true
  | .reseedComplete bank => decide (bank < 5)
  | .abort rq arg => rq.wf && rq.fits arg
  | .cascadeAbort rq arg => rq.wf && rq.fits arg
  | .discard rq arg => rq.wf && rq.fits arg
  | .salvoStore rq salvo _ => rq.wf && decide (salvo < 256)
  | .salvoFire _ value => decide (value < 2 ^ 64)
  | .salvoExecute => true
  | .structuralWrite rq index sub value => rq.wf && decide (index < 65536) && decide (sub < 65536) && rq.fits value
  | .movePoint index sub => decide (index < 65536) && decide (sub < 65536)
  | .fsSlotSelect flow => decide (flow < 2048)
  | .audioPeriod _ => true
  | .bridgeAcquire bridge _ => decide (bridge < 8192)
  | .bridgeBandwidthStep bridge => decide (bridge < 8192)
  | .bridgeRatioUpdate bridge _ => decide (bridge < 8192)
  | .bridgeSourceLost bridge => decide (bridge < 8192)
  | .audioPortClockLost port => decide (port < 40)
  | .gainStepTimeout slot => (decide (slot < 0xC000) || (decide (0x10000 ≤ slot) && decide (slot < 0x10100)))
  | .delayCrossfadeEnd slot => decide (slot < 49152)
  | .meterIntervalEnd => true
  | .spoolLoad rq bank _ => rq.wf && decide (bank < 2)
  | .spoolCheckComplete bank => decide (bank < 2)
  | .spoolLoadAbandon bank => decide (bank < 2)
  | .spoolBankEmpty rq value => rq.wf && rq.fits value
  | .spoolEffectPoint => true
  | .coefficientWrite rq bank entry _ => rq.wf && decide (bank < 2) && decide (entry < 65536)
  | .coefficientEffect => true
  | .headFrameBoundary head => decide (head < 16)
  | .stagedFrameComplete head layer => decide (head < 16) && decide (layer < 64)
  | .headTimingChange head => decide (head < 16)
  | .spriteUpload rq sprite _ => rq.wf && decide (sprite < 64)
  | .spriteCapture rq value => rq.wf && rq.fits value
  | .spriteCaptureDone sprite => decide (sprite < 64)
  | .spriteCaptureTimeout sprite => decide (sprite < 64)
  | .spriteDelete rq value => rq.wf && rq.fits value
  | .staticLayerWrite rq layer value => rq.wf && decide (layer < 64) && rq.fits value
  | .blitCopy rq command => rq.wf && rq.fits command
  | .blitFill rq command => rq.wf && rq.fits command
  | .blitterJobStart => true
  | .blitterJobComplete => true
  | .cursorWrite rq sub _ => rq.wf && (decide (0x30 ≤ sub) && decide (sub < 0x50) )
  | .helloSend => true
  | .helloReceived port _ => decide (port < 8)
  | .tetherPortUp port => decide (port < 8)
  | .tetherPortDown port => decide (port < 8)
  | .tetherTimelineSend => true
  | .tetherTimelineReceived port record => decide (port < 8) && decide (record < 2 ^ 240)
  | .tetherPlanecfgReceived link plane config _ => decide (link < 9) && decide (plane < 4) && decide (config < 2 ^ 32)
  | .pathEcho port _ _ _ _ => decide (port < 9)
  | .tetherCellReceived port _ => decide (port < 8)
  | .creditReceived port vc0 vc1 => decide (port < 8) && decide (vc0 < 65536) && decide (vc1 < 65536)
  | .creditStall port => decide (port < 8)
  | .tetherBindingWrite rq flow value => rq.wf && decide (flow < 2048) && rq.fits value
  | .reserveReceived port _ => decide (port < 8)
  | .streamStateReceived port label state => decide (port < 8) && decide (label < 65536) && decide (state < 2 ^ 32)
  | .tunnelRequest rq opcode index sub payload => rq.wf && decide (opcode < 16) && decide (index < 65536) && decide (sub < 65536) && payload.length == rq.len
  | .tunnelFragmentReceived port target source number _ _ => decide (port < 8) && decide (target < 4096) && decide (source < 4096) && decide (number < 65536)
  | .tunnelTimeout => true
  | .cascadeRecordReceived port _ => decide (port < 8)
  | .changeoverRecordReceived port => decide (port < 8)
  | .join rq value => rq.wf && rq.fits value
  | .release rq value => rq.wf && rq.fits value
  | .clearSuspect rq value => rq.wf && rq.fits value
  | .claimInRise => true
  | .claimConflict => true
  | .claimInFall _ => true
  | .quench => true
  | .quenchRelease => true
  | .heartbeatSend => true
  | .heartbeatReceived record => decide (record < 2 ^ 256)
  | .heartbeatLost => true
  | .bridleTimelineReceived record => decide (record < 2 ^ 256)
  | .changeRecordApply _ => true
  | .decisionRecordApply record => decide (record < 2 ^ 256)
  | .faultRecordReceived record => decide (record < 2 ^ 256)
  | .digestCompare count entries => decide (count < 4) && decide (entries < 2 ^ 240)
  | .joinRequestReceived => true
  | .joinRetry => true
  | .joinSnapshot => true
  | .stateRecordApply record => decide (record < 2 ^ 256)
  | .joinInStep => true
  | .changeoverRequestReceived port => decide (port < 8)
  | .handoverTp => true
  | .partnerRelay rq _ => rq.wf
  | .relayFrameReceived _ => true
  | .drill rq arg => rq.wf && rq.fits arg
  | .drillFire => true
  | .soloClaim => true
  | .dumusFrameReceived port dst etherType src _ _ _ => (port == .dumusA || port == .dumusB) && decide (dst < 2 ^ 48) && decide (etherType < 65536) && decide (src < 2 ^ 48)
  | .read rq index sub => rq.wf && decide (index < 65536) && decide (sub < 65536)
  | .write rq index sub payload => rq.wf && decide (index < 65536) && decide (sub < 65536) && payload.length == rq.len
  | .blockWrite rq index sub payload => rq.wf && decide (index < 65536) && decide (sub < 65536) && payload.length == rq.len
  | .blockTransferAbandon index sub halt => decide (index < 65536) && decide (sub < 65536) && halt.all DmaHalt.wf
  | .blockRead rq index sub payload => rq.wf && decide (index < 65536) && decide (sub < 65536) && payload.length == rq.len
  | .pendingDone rq index sub => rq.wf && decide (index < 65536) && decide (sub < 65536)
  | .notifyResend origin session seq => decide (origin < 16) && decide (session < 65536) && decide (seq < 65536)
  | .replyBackoffRetry _ _ => true
  | .wake port _ => (port == .dumusA || port == .dumusB)
  | .cardSend length _ crc => decide (length < 65536) && decide (crc < 2 ^ 32)
  | .cardReceive => true
  | .cardStatus => true
  | .windowRead window offset length => decide (window < 16) && decide (offset < 2 ^ 32) && decide (length < 2 ^ 32)
  | .windowWrite window offset _ => decide (window < 16) && decide (offset < 2 ^ 32)
  | .keyWrite rq sub payload => rq.wf && decide (sub < 65536) && payload.length == rq.len
  | .logRelease rq entry => rq.wf && rq.fits entry
  | .windowCapture rq window command => rq.wf && decide (window < 16) && rq.fits command
  | .windowInsert rq window command => rq.wf && decide (window < 16) && rq.fits command
  | .windowStop rq window command => rq.wf && decide (window < 16) && rq.fits command
  | .windowOperationStart window => decide (window < 16)
  | .windowOperationEnd window halt => decide (window < 16) && halt.all DmaHalt.wf
  | .requestService rq => rq.wf
  | .requestSolo rq => rq.wf
  | .requestDormant rq => rq.wf
  | .dormantPrepare => true
  | .dormantPowerDown => true
  | .fatalDeclaration source detail => decide (source < 512) && decide (detail < 2 ^ 64)
  | .exairPowerOn => true
  | .mainPowerEnable => true
  | .powerSequenceTimeout => true
  | .powerSequenceRetry => true
  | .powerGoodLost _ => true
  | .porstAssert => true
  | .porstRelease nodeSel _ _ => decide (nodeSel < 256)
  | .selfCheckComplete _ => true
  | .slotVerifyComplete => true
  | .componentStart => true
  | .componentReady => true
  | .componentReadyTimeout => true
  | .configInstall => true
  | .bootEnd => true
  | .bootPartnerWaitEnd => true
  | .stagePackage rq path => rq.wf && path.length == rq.len
  | .stagingComplete _ => true
  | .stagingFailure result halt => decide (result < 256) && halt.all DmaHalt.wf
  | .healthConfirm rq value => rq.wf && rq.fits value
  | .healthConfirmTimeout => true
  | .configSave rq => rq.wf
  | .configSaveComplete => true
  | .configErase rq => rq.wf
  | .selectGoodSlot rq => rq.wf
  | .eccWriteback memory address => decide (memory < 24) && decide (address < 2 ^ 32)
  | .scrubRead memory _ => decide (memory < 24)
  | .scrubLapEnd memory => decide (memory < 24)
  | .faultForce rq source value => rq.wf && decide (source < 512) && rq.fits value
  | .alarmClear rq source value => rq.wf && decide (source < 512) && rq.fits value
  | .rearm rq value => rq.wf && rq.fits value
  | .freezePin => true
  | .freezeSchedule rq arg => rq.wf && rq.fits arg
  | .freezeCancel rq arg => rq.wf && rq.fits arg
  | .scheduledFreeze => true
  | .freezeOnFatal => true
  | .thermalSensorRead _ => true
  | .thermAlert _ => true
  | .oscInFailed => true
  | .trstReset => true
  | .extest => true
  | .samplePreload => true
  | .idcode => true
  | .bypass code => decide (code < 256)
  | .captureRead _ => true
  | .captureSeek section_ => decide (section_ < 256)
  | .lifecycle => true
  | .openChallenge => true
  | .openResponse _ _ => true
  | .relock value => decide (value < 2 ^ 32)
  | .debugAccess _ target address data => decide (target < 256) && decide (address < 2 ^ 32) && decide (data < 2 ^ 32)
  | .licenceTokenWrite rq slot payload => rq.wf && decide (slot < 16) && payload.length == rq.len
  | .crossbarAccessError master target => decide (master < 12) && decide (target < 256)
  | .fieldLineConfigWrite rq line value => rq.wf && decide (line < 32) && rq.fits value
  | .fieldLineHoldEnd line => decide (line < 32)
  | .fieldInputMeasure line _ => decide (line < 32)
  | .fieldInputAccept line => decide (line < 32)
  | .fieldOutputReadback line _ => decide (line < 32)
  | .contentionDeclare line => decide (line < 32)
  | .contentionClear line => decide (line < 32)
  | .outputOvercurrent line => decide (line < 32)
  | .overcurrentRetry line _ => decide (line < 32)
  | .openLoadDeclare line => decide (line < 32)
  | .openLoadClear line => decide (line < 32)
  | .vfieldCheck _ => true
  | .tallyRuleWrite rq line value => rq.wf && decide (line < 32) && rq.fits value
  | .fieldPortLineCheck port _ => decide (port < 2)
  | .fieldPortStuck port => decide (port < 2)
  | .fieldPortStuckClear port => decide (port < 2)
  | .powerDown => true
  | .porstNRisesInDormant => true
  | .audioPortFrame port _ _ _ _ => decide (port < 40)
  | .requestsMissingFromStream origin session seq => decide (origin < 16) && decide (session < 65536) && decide (seq < 65536)
  | .generatorFrameStart generator => decide (generator < 16)
  | .planecfgSend => true
  | .creditSend port => decide (port < 8)
  | .bridleTimelineSend => true
  | .unknownCardCommand code => decide (code < 256)

/-- The request that a command brings (R451), none where it brings none. -/
def Instr.request? : Instr → Option Rq
  | .planeConfigWrite rq _ _ => some rq
  | .reorigin rq _ _ => some rq
  | .candidateConfigWrite rq _ _ => some rq
  | .priorityTableWrite rq _ _ => some rq
  | .refselSchedule rq _ => some rq
  | .manualClear rq _ => some rq
  | .laneModeWrite rq _ _ => some rq
  | .laneRateWrite rq _ _ => some rq
  | .laneDiagWrite rq _ _ => some rq
  | .patternErrorInject rq _ _ => some rq
  | .rxEntryWrite rq _ _ => some rq
  | .txEntryWrite rq _ _ => some rq
  | .shadowWrite rq _ _ _ => some rq
  | .protectionWrite rq _ _ => some rq
  | .take rq _ => some rq
  | .cascadeTake rq _ => some rq
  | .abort rq _ => some rq
  | .cascadeAbort rq _ => some rq
  | .discard rq _ => some rq
  | .salvoStore rq _ _ => some rq
  | .structuralWrite rq _ _ _ => some rq
  | .spoolLoad rq _ _ => some rq
  | .spoolBankEmpty rq _ => some rq
  | .coefficientWrite rq _ _ _ => some rq
  | .spriteUpload rq _ _ => some rq
  | .spriteCapture rq _ => some rq
  | .spriteDelete rq _ => some rq
  | .staticLayerWrite rq _ _ => some rq
  | .blitCopy rq _ => some rq
  | .blitFill rq _ => some rq
  | .cursorWrite rq _ _ => some rq
  | .tetherBindingWrite rq _ _ => some rq
  | .tunnelRequest rq _ _ _ _ => some rq
  | .join rq _ => some rq
  | .release rq _ => some rq
  | .clearSuspect rq _ => some rq
  | .partnerRelay rq _ => some rq
  | .drill rq _ => some rq
  | .read rq _ _ => some rq
  | .write rq _ _ _ => some rq
  | .blockWrite rq _ _ _ => some rq
  | .blockRead rq _ _ _ => some rq
  | .pendingDone rq _ _ => some rq
  | .keyWrite rq _ _ => some rq
  | .logRelease rq _ => some rq
  | .windowCapture rq _ _ => some rq
  | .windowInsert rq _ _ => some rq
  | .windowStop rq _ _ => some rq
  | .requestService rq => some rq
  | .requestSolo rq => some rq
  | .requestDormant rq => some rq
  | .stagePackage rq _ => some rq
  | .healthConfirm rq _ => some rq
  | .configSave rq => some rq
  | .configErase rq => some rq
  | .selectGoodSlot rq => some rq
  | .faultForce rq _ _ => some rq
  | .alarmClear rq _ _ => some rq
  | .rearm rq _ => some rq
  | .freezeSchedule rq _ => some rq
  | .freezeCancel rq _ => some rq
  | .licenceTokenWrite rq _ _ => some rq
  | .fieldLineConfigWrite rq _ _ => some rq
  | .tallyRuleWrite rq _ _ => some rq
  | _ => none

/-- The place of a port among those whose requests reach the commit point in one core cycle (R25). -/
def Port.rank : Port → Option Nat
  | .card => some 0
  | .dumusA => some 1
  | .dumusB => some 2
  | .tunnel => some 3
  | _ => none

end Sys2Proof
end

