-- ==== Sys2Proof/Safety.lean ====
section
/-! DEFINITION. What counts as a safe machine: every command that waits is well-formed. Such a machine never stops. -/

namespace Sys2Proof.Machine

/-- Every waiting command names units the device has and fits its fields. -/
def State.safe (s : State) : Bool := s.pending.all Instr.wf

/-- No core cycle passes while a command waits, so the requests that wait reach the commit point in one core cycle: they wait
in the order in which they commit, card port, DUMUS_A, DUMUS_B, tether tunnel (R25). Whoever sends the commands keeps it. -/
def State.inCommitOrder (s : State) : Prop :=
  (s.pending.filterMap fun c => (c.request?).bind fun rq => rq.port.rank).Pairwise (· ≤ ·)

/-- A step answers a next state. -/
def completes (o : Host.Outcome State Fault Refusal) : Prop := ∃ t, o = .next t

/-- The command `c` at state `s` answers a next state, of which `P` holds. -/
def does (c : Instr) (s : State) (P : State → Prop) : Prop := ∃ t, exec c s = .next t ∧ P t

/-- Between `s` and `t` no element has changed but those of the indices listed (and of the one after each, which the
dictionary does not have): the numbers of a move's new side, 0x8000 and up, apart. -/
def stands (s t : State) (changed : List Nat) : Prop :=
  ∀ i j, (∀ k, k ∈ changed → i ≠ k ∧ i ≠ k + 1) → j < 0x8000 → t.elem i j = s.elem i j

/-- `t` is `u`, or a FATAL declaration has taken the device to FAULTED, and `t` is `u` but for what that entry changes
beside it (R518): events discarded, moves cancelled, transfers, loads and window operations abandoned. -/
def framed (t u : State) : Prop :=
  t = u ∨ (t.mode = .faulted ∧ t = { u with
    mode := t.mode, dict := t.dict, emitted := t.emitted, events := t.events, banks := t.banks, moves := t.moves
    req := t.req, log := t.log, faults := t.faults, boot := t.boot, pair := t.pair, windows := t.windows
    cells := t.cells, ins := t.ins, spools := t.spools })

/-- The state a command's effect starts from: nothing is on a pin or a port yet. -/
def State.fresh (s : State) : State := { s with emitted := [] }

/-- The state in which a request is judged: its frame has left the input buffer and is counted (R464, R465). -/
def judged (s : State) (rq : Rq) (op idx sub : Nat) (payload : List Byte) : State :=
  countPort (unbuffer s rq op idx sub payload) rq.port 0

/-- A request that the device takes up (R427, R510), that it has not answered before (R458), and that passes every check
of R13. -/
def isAccepted (s : State) (rq : Rq) (op idx sub : Nat) (payload : List Byte) (h : Handler) : Prop :=
  s.takesUp rq = true ∧ (∀ st data, (judged s rq op idx sub payload).seen rq ≠ .again st data) ∧
    requestStatus (judged s rq op idx sub payload) rq op idx sub payload h.checks = stOk

/-- A request that the device takes up, that it has not answered before, and that fails a check, with its status. -/
def isRefused (s : State) (rq : Rq) (op idx sub : Nat) (payload : List Byte) (h : Handler) (status : Nat) : Prop :=
  s.takesUp rq = true ∧ (∀ st data, (judged s rq op idx sub payload).seen rq ≠ .again st data) ∧ status ≠ stOk ∧
    requestStatus (judged s rq op idx sub payload) rq op idx sub payload h.checks = status

/-- The answer that the device keeps for a request it has answered (R458). -/
def State.answered (s : State) (rq : Rq) : Option (Nat × List Byte) :=
  match s.seen rq with
  | .again status data => some (status, data)
  | _ => none

end Sys2Proof.Machine
end

