-- ==== Sys2Proof/Certificates/Slice0/Obligations.lean ====
section
/-! DEFINITION. The statements about the model, family by family of the opcode table. `does c s P` says that the command
`c` at state `s` answers a next state of which `P` holds. -/

open Sys2Proof Sys2Proof.Machine




/-- R37, R39, R44, R45, R46, R48: an accepted write to 0x2010:p gives the plane its ENABLE, FORMAT and RATE; a plane that it enables or
disables has no step pending. An accepted REORIGIN leaves a step pending on the plane; where FORMAT and RATE stay, it is the one that was
pending, with the device-time step of the new one joined, or one decided now, whose b is the plane's first frame boundary after now. At b every output of the plane ends its
frame; at b′ the plane takes its new origin and its step is over (R48). -/
def Obligations.PlanesRun : Prop :=
  (∀ (s : State) (rq : Rq) (p : Nat) (v : Word), p < 4 → rq.fits v = true →
    isAccepted s.fresh rq opWrite 0x2010 p (valueBytes rq v) (planeHandler s.fresh p (valueBytes rq v)) →
    does (.planeConfigWrite rq p v) s fun t =>
      t.planeOn p = bit v 31 ∧ t.planeFormat p = bits v 27 24 ∧ t.planeRateCode p = bits v 23 20 ∧
        (bit v 31 = false ∨ s.planeOn p = false → (t.plane p).step = none)) ∧
  (∀ (s : State) (rq : Rq) (p : Nat) (v : Word), p < 4 → rq.fits (setBit v 30 true) = true →
    isAccepted s.fresh rq opWrite 0x2010 p (valueBytes rq (setBit v 30 true))
      (planeHandler s.fresh p (valueBytes rq (setBit v 30 true))) →
    does (.reorigin rq p v) s fun t => ∃ r, (t.plane p).step = some r ∧
      (bits v 27 20 = s.field 0x2010 p 27 20 →
        (∃ r0, (s.plane p).step = some r0 ∧ r = { r0 with stepNs := r.stepNs }) ∨
          ((s.plane p).step = none ∧ r.b = s.planeFrameAfter p s.now))) ∧
  (∀ (s : State) (p : Nat) (r : Reorigin), p < 4 → s.running = true → (s.plane p).step = some r → r.b ≤ s.now → r.b < r.b' →
    does (.reoriginFrameEnd p) s fun t => (t.plane p).gap = true ∧ (t.plane p).step = some r ∧ t.dict = s.dict) ∧
  (∀ (s : State) (p : Nat) (r : Reorigin), p < 4 → s.running = true → (s.plane p).step = some r → r.b' ≤ s.now →
    s.planeOn p = true →
    does (.reoriginNewPhase p) s fun t =>
      (t.plane p).step = none ∧ (t.plane p).gap = false ∧ (t.plane p).origin = r.origin + r.stepNs ∧
        t.field 0x2010 p 19 18 = r.kind % 4 ∧ t.now = s.now + r.stepNs)


/-- R67, R66, R69, R85-R87: a candidate whose presence conditions hold becomes present, qualified at once only where WTR is zero; a loss
that its row declares clears it with its reason; a candidate whose wait has ended qualifies. Accepted writes to a candidate's configuration and to one entry of the priority table take effect; a
scheduled selection enters the queue; a due one forces a qualified candidate; MANUAL clears. -/
def Obligations.SelectionRuns : Prop :=
  (∀ (s : State) (c detail : Nat) (freq : Int) (grid : Rat), c < 10 → s.running = true → (s.cand c).present = false →
    s.presence c detail freq = true →
    does (.candidatePresent c detail freq grid) s fun t =>
      (t.cand c).present = true ∧ (t.cand c).since = s.up ∧ (t.cand c).freq = freq ∧
        ((t.cand c).qualified = true ↔ s.field 0x2100 c 27 18 = 0)) ∧
  (∀ (s : State) (c reason : Nat), c < 10 → s.running = true → (s.cand c).present = true →
    s.mayLose c reason = true →
    does (.candidateLoss c reason) s fun t =>
      (t.cand c).present = false ∧ (t.cand c).qualified = false ∧ (t.cand c).loss = reason) ∧
  (∀ (s : State) (c : Nat), c < 10 → s.running = true → (s.cand c).present = true → (s.cand c).qualified = false →
    (s.cand c).since + (s.field 0x2100 c 27 18 : Nat) * 1000000000 ≤ s.up →
    does (.candidateQualify c) s fun t => (t.cand c).qualified = true ∧ (t.cand c).present = true) ∧
  (∀ (s : State) (rq : Rq) (c : Nat) (v : Word), c < 10 → rq.fits v = true →
    isAccepted s.fresh rq opWrite 0x2100 c (valueBytes rq v) (candidateConfig s.fresh c (valueBytes rq v)) →
    does (.candidateConfigWrite rq c v) s fun t => t.elem 0x2100 c = v) ∧
  (∀ (s : State) (rq : Rq) (i : Nat) (v : Word), i < 10 → rq.fits v = true →
    isAccepted s.fresh rq opWrite 0x2110 i (valueBytes rq v) (priorityHandler s.fresh i (valueBytes rq v)) →
    does (.priorityTableWrite rq i v) s fun t =>
      t.elem 0x2110 i = v ∧ ∀ k, k < 10 → k ≠ i → t.elem 0x2110 k = s.elem 0x2110 k) ∧
  (∀ (s : State) (rq : Rq) (v : Word), rq.fits v = true →
    isAccepted s.fresh rq opWrite 0x2110 0x20 (valueBytes rq v) (refselHandler s.fresh rq (valueBytes rq v)) →
    does (.refselSchedule rq v) s fun t => ∃ e : Event, t.events = s.events ++ [e] ∧ e.kind = 3 ∧ e.arg = bits v 7 0 ∧
      e.plane = bits v 15 8 ∧ (bits v 79 16 ≠ 0 → e.tp = bits v 79 16)) ∧
  (∀ (s : State) (e : Event), s.running = true → s.dueEvent [3] = some e → (s.cand e.arg).qualified = true →
    does .refselFire s fun t => t.ref.forced = some e.arg ∧ t.events = s.events.filter fun x => x.order != e.order) ∧
  (∀ (s : State) (rq : Rq) (v : Word), rq.fits v = true → v = 1 →
    isAccepted s.fresh rq opWrite 0x2140 2 (valueBytes rq v) (manualHandler (valueBytes rq v)) →
    does (.manualClear rq v) s fun t => t.ref.forced = none)

/-- R92, R72-R74, R78: PPS_OUT pulses for 100 µs at each whole second of device time, FRAME_OUT for one house line of plane 0 at each of
its frames. A measurement reports the phase error and moves the loop, of second order and type 2 with damping factor 1, by it; a core cycle keeps
the output within 100 ppm and within the slew limit; the slew's end, within 0.01 ppm, begins capture; lock after 2 s within the
threshold; loss of lock after 1 s above ten times it; a whole second is recorded. A device that a fatal fault stopped whole apart. -/
def Obligations.LoopRuns : Prop :=
  (∀ s : State, s.running = true → s.ref.lastPulse < s.now.floor / 1000000000 →
    does .ppsOutPulse s fun t => t.emitted = [.pulse 0 100000] ∧ t.ref.lastPulse = s.now.floor / 1000000000) ∧
  (∀ s : State, s.running = true → s.ref.lastFrame < gridAtOrBefore (s.plane 0).origin (periodNs (s.planeRate 0)) s.now →
    does .frameOutPulse s fun t => t.emitted = [.pulse 1 (s.houseLine 0).floor.toNat]) ∧
  (∀ (s : State) (c : Nat) (error freq : Int) (grid : Rat), s.running = true → s.ref.selected = some c →
    s.ref.phase = .tracking → s.allStopped = false →
    does (.phaseMeasurement error freq grid) s fun t =>
      t.ref.phaseErr = error ∧ (t.cand c).freq = freq ∧ (t.cand c).grid = grid ∧ t.ref.lastMeas = s.up ∧ t.freqNow = s.freqNow ∧
        t.ref.integ = s.ref.integ + 1000 * s.loopNatural c * s.loopNatural c * (error : Rat) * ((s.up - s.ref.lastMeas) / 1000000000) ∧
        (c < 8 → t.ref.slewTo = some (t.ref.integ + 2000 * s.loopNatural c * (error : Rat)))) ∧
  (∀ (s : State) (f : Rat), s.pending = [] → s.running = true → s.allStopped = false → s.ref.slewTo = some f →
    ∃ t, step s = .next t ∧ t.now = s.now + s.cycleNs ∧ -100000000 ≤ t.freqNow ∧ t.freqNow ≤ 100000000 ∧
      (-100000000 ≤ f → f ≤ 100000000 → s.freqNow - s.slewLimit * s.cycleNs / 1000000000 ≤ f →
        f ≤ s.freqNow + s.slewLimit * s.cycleNs / 1000000000 → t.freqNow = f)) ∧
  (∀ (s : State) (c : Nat), s.running = true → s.ref.selected = some c → s.ref.phase = .slew → s.allStopped = false →
    -10000 ≤ s.freqNow - (s.cand c).freq → s.freqNow - (s.cand c).freq ≤ 10000 →
    does .dpllCapture s fun t => t.ref.phase = .tracking ∧ t.ref.everLocked = true) ∧
  (∀ (s : State) (a : Rat), s.running = true → s.ref.within = some a → s.ref.tb = 1 → s.ref.phase = .tracking →
    a + 2000000000 ≤ s.up → s.allStopped = false →
    does .dpllLocked s fun t => t.ref.tb = 2 ∧ t.ref.transfer = false) ∧
  (∀ (s : State) (a : Rat) (c : Nat), s.running = true → s.ref.above = some a → s.ref.selected = some c → s.ref.tb = 2 →
    a + 1000000000 ≤ s.up → s.allStopped = false →
    does .lossOfLock s fun t => (t.cand c).present = false ∧ (t.cand c).loss = 4) ∧
  (∀ (s : State), s.running = true → s.ref.second < s.now.floor / 1000000000 →
    does .ballastSecondRecord s fun t => t.ref.second = s.now.floor / 1000000000 ∧ t.ref.acc = 0 ∧
      (s.ref.clean = true → s.now.floor / 1000000000 = s.ref.second + 1 →
        (s.ref.second, s.ref.acc / 1000000000) ∈ t.ref.seconds))

/-- R67, R82, R83: an Announce of the best master that qualifies selects it; the parent's Delay_Resp completes the delay; Delay_Req
leaves for event port 319, from the lane port's own addresses, no sooner than the master's interval; the announce receipt timeout is
a loss. -/
def Obligations.PtpRuns : Prop :=
  (∀ (s : State) (i : Nat) (a : PtpAnnounce) (f : Foreign), i < 2 → s.running = true →
    s.ethLeader (s.field 0x2100 (6 + i) 7 0) = true → a.ptpScale = true → a.steps < 255 →
    s.bestMaster i (hearMaster s (s.ptpOf i) a) = some f → f.ann = a →
    does (.ptpMessageReceived i (s.field 0x2150 i 31 24) (.announce a)) s fun t =>
      (t.ptpOf i).slave = true ∧ (t.ptpOf i).parent = a.sender ∧ (t.ptpOf i).gm = a.gm ∧ (t.ptpOf i).utc = a.utc ∧
        (t.ptpOf i).lastAnnounce = s.up) ∧
  (∀ (s : State) (i : Nat) (t3 d t4 : Rat) (logInt : Int), i < 2 → s.running = true →
    s.ethLeader (s.field 0x2100 (6 + i) 7 0) = true → (s.ptpOf i).slave = true → (s.ptpOf i).reqT3 = some t3 →
    (s.ptpOf i).t21 = some d →
    does (.ptpMessageReceived i (s.field 0x2150 i 31 24) (.delayResp (s.ptpOf i).parent (s.ptpOf i).reqSeq t4 logInt)) s fun t =>
      (t.ptpOf i).delay = some ((d + (t4 - t3)) / 2) ∧ (t.ptpOf i).reqT3 = none) ∧
  (∀ (s : State) (i : Nat), i < 2 → s.running = true → (s.ptpOf i).slave = true →
    s.linkUp (s.field 0x2100 (6 + i) 7 0) = true →
    ((s.ptpOf i).reqT3 = none ∨ ∃ t3, (s.ptpOf i).reqT3 = some t3 ∧ t3 + (s.ptpOf i).reqInterval ≤ s.now) →
    does (.ptpDelayReqSend i) s fun t =>
      (t.ptpOf i).reqSeq = ((s.ptpOf i).reqSeq + 1) % 65536 ∧ (t.ptpOf i).reqT3 = some s.now ∧
        ((s.groupLanes (s.field 0x2100 (6 + i) 7 0)).any s.laneMute = false → ∃ mac vlan bytes, t.emitted = [.ethernet (s.field 0x2100 (6 + i) 7 0) mac (portMac (s.field 0x2100 (6 + i) 7 0)) vlan 0x0800 bytes] ∧
          (bit (s.elem 0x2150 i) 23 = false → mac = groupMac 0xE0000181) ∧ (bytes.drop 12).take 4 = toBytes 4 (s.hostIp (s.field 0x2100 (6 + i) 7 0)) ∧
          (bytes.drop 22).take 2 = toBytes 2 319)) ∧
  (∀ (s : State) (i : Nat), i < 2 → s.running = true → (s.ptpOf i).slave = true →
    (s.ptpOf i).lastAnnounce + (s.field 0x2150 i 19 16 : Nat) * (s.ptpOf i).annInterval ≤ s.up →
    does (.ptpAnnounceTimeout i) s fun t =>
      (t.ptpOf i).slave = false ∧ (t.ptpOf i).delay = none ∧ (t.cand (6 + i)).present = false)


/-- R96, R98, R128, R100, R131: accepted writes to a lane's mode, rates and diagnostic control take their values; INJECT reads zero and
puts one bit error into the pattern sent. A synthesiser locks; one that fails, or does not lock in 300 µs, is unlocked; a relock attempt follows
10 ms after the failure. -/
def Obligations.LanesConfigured : Prop :=
  (∀ (s : State) (rq : Rq) (l : Nat) (v : Word), l < 192 → rq.fits v = true →
    isAccepted s.fresh rq opWrite 0x3000 l (valueBytes rq v) (laneHandler s.fresh 0x3000 l (valueBytes rq v)) →
    does (.laneModeWrite rq l v) s fun t => t.elem 0x3000 l = v) ∧
  (∀ (s : State) (rq : Rq) (sub : Nat) (v : Word), sub % 256 < 192 → sub < 0x200 → rq.fits v = true →
    isAccepted s.fresh rq opWrite 0x3100 sub (valueBytes rq v) (laneHandler s.fresh 0x3100 sub (valueBytes rq v)) →
    does (.laneRateWrite rq sub v) s fun t => t.elem 0x3100 sub = v) ∧
  (∀ (s : State) (rq : Rq) (l : Nat) (v : Word), l < 192 → rq.fits v = true →
    isAccepted s.fresh rq opWrite 0x3400 l (valueBytes rq v) (diagHandler s.fresh l (valueBytes rq v)) →
    does (.laneDiagWrite rq l v) s fun t => t.elem 0x3400 l = setBit v 23 false) ∧
  (∀ (s : State) (rq : Rq) (l : Nat) (v : Word), l < 192 → rq.fits (setBit v 23 true) = true →
    isAccepted s.fresh rq opWrite 0x3400 l (valueBytes rq (setBit v 23 true))
      (diagHandler s.fresh l (valueBytes rq (setBit v 23 true))) →
    does (.patternErrorInject rq l v) s fun t =>
      t.flag 0x3400 l 23 = false ∧
        (s.protocol l = protoPattern → bits (setBit v 23 true) 31 28 ≠ 0 → s.laneQuiet l = false →
          s.flag 0x3200 l 26 = false → bits (setBit v 23 true) 26 24 ≠ 2 →
          Emission.bitError l ∈ t.emitted)) ∧
  (∀ (s : State) (y : Nat), y < 96 → s.running = true → (s.synth y).family ≠ 0 → (s.synth y).locked = false →
    does (.synthesiserLocked y) s fun t => (t.synth y).locked = true ∧ (t.synth y).failedAt = none) ∧
  (∀ (s : State) (y : Nat), y < 96 → s.running = true → (s.synth y).family ≠ 0 → (s.synth y).failedAt = none →
    (s.synth y).locked = true ∨ (s.synth y).setAt + 300000 ≤ s.up →
    does (.synthesiserLockFail y) s fun t =>
      (t.synth y).locked = false ∧ (t.synth y).failedAt = some s.up ∧
        (t.source 0x048).count = satAdd 24 (s.source 0x048).count 1) ∧
  (∀ (s : State) (y : Nat) (a : Rat), y < 96 → s.running = true → (s.synth y).family ≠ 0 →
    (s.synth y).failedAt = some a → a + 10000000 ≤ s.up →
    does (.synthesiserRelockAttempt y) s fun t => (t.synth y).failedAt = some s.up ∧ t.dict = s.dict)

/-- R105, R107-R112, R122: adaptation, loss of signal and of lock with their counters, the rate of an SDI receiver, a
polarity reversal, and the link of an Ethernet port. -/
def Obligations.ReceiversFollow : Prop :=
  (∀ (s : State) (l : Nat), l < 192 → s.running = true → s.rxRuns l = true → s.laneLos l = false → s.laneLol l = false →
    (s.lane l).adapted = false →
    does (.adaptationComplete l) s fun t => (t.lane l).adapted = true) ∧
  (∀ (s : State) (l : Nat), l < 192 → s.running = true → s.rxOn l = true → s.laneLos l = false →
    s.flag 0x3200 l 25 = false →
    does (.losDeclare l) s fun t =>
      t.laneLos l = true ∧ t.elem 0x3400 (0x500 + l) = wrapAdd 32 (s.elem 0x3400 (0x500 + l)) 1 ∧
        (t.source 0x040).count = satAdd 24 (s.source 0x040).count 1) ∧
  (∀ (s : State) (l : Nat), l < 192 → s.running = true → s.rxOn l = true → s.laneLos l = true →
    does (.losClear l) s fun t => t.laneLos l = false) ∧
  (∀ (s : State) (l : Nat), l < 192 → s.running = true → s.rxOn l = true → s.laneLos l = false → s.laneLol l = false →
    does (.lolDeclare l) s fun t =>
      t.laneLol l = true ∧ t.elem 0x3400 (0x600 + l) = wrapAdd 32 (s.elem 0x3400 (0x600 + l)) 1) ∧
  (∀ (s : State) (l : Nat), l < 192 → s.running = true → s.laneLol l = true →
    does (.lolClear l) s fun t => t.laneLol l = false) ∧
  (∀ (s : State) (l : Nat) (tr : List Word), l < 192 → s.running = true → s.ethLeader l = true → s.laneReady l = false →
    (∀ x ∈ l :: groupPartners l (s.laneMode l) (s.txWord l), s.delivers x = true ∧ s.txRuns x = true ∧ s.wrongPol x = false) →
    (bit (s.laneMode l) 20 = false ∨ bit (tr.headD 0) 26 = true) →
    does (.ethernetLinkChange l true tr) s fun t =>
      ∀ x ∈ l :: groupPartners l (s.laneMode l) (s.txWord l), t.laneReady x = true) ∧
  (∀ (s : State) (l : Nat) (tr : List Word), l < 192 → s.running = true → s.ethLeader l = true →
    does (.ethernetLinkChange l false tr) s fun t => t.laneReady l = false) ∧
  (∀ (s : State) (l code : Nat), l < 192 → s.running = true → s.protocol l = protoSdi → s.rxOn l = true →
    s.laneLos l = false → 1 ≤ code → code ≤ 9 →
    does (.sdiRateDetected l code) s fun t => (t.lane l).incoming = code ∧
      (s.rxCode l = 0x0F → t.flag 0x3200 l 22 = (s.autoServed l code).isNone)) ∧
  (∀ (s : State) (l : Nat), l < 192 → s.running = true → s.rxOn l = true → s.laneLos l = false →
    bit (s.laneMode l) 23 = true → s.flag 0x3200 l 28 = false →
    s.protocol l = protoEth ∨ lineCoded (s.protocol l) = true ∨ (s.protocol l = protoPattern ∧ ratePam4 (s.rxCode l) = true) →
    does (.polarityReversalDetected l) s fun t =>
      t.flag 0x3200 l 28 = true ∧ t.elem 0x3400 (0x900 + l) = wrapAdd 32 (s.elem 0x3400 (0x900 + l)) 1)

/-- R113-R126: commas and markers, alignment gained and lost, codewords, and electrical idle. A lane sends its blocks coded, then a
comma and its marker, whose FEC_PHASE goes on by 4 from comma to comma. A receiver that searches, or that was told of an idle,
takes its place in the code from a marker; an aligned one counts a misplaced comma of its own sender and moves nothing; three
missed commas in succession, or a marker of another sender, lose alignment. A codeword corrected, or not, is counted. Idle
begins with a codeword completed and a marker of FEC_PHASE 0, and ends with one, unless the driver is shorted.
A shorted driver goes off and is probed every 100 ms; a probe without overcurrent puts it on again (R127). -/
def Obligations.LineCodeRuns : Prop :=
  (∀ (s : State) (l : Nat) (bs : List LineBlock), l < 192 → s.running = true → lineCoded (s.protocol l) = true →
    s.txRuns l = true → s.flag 0x3200 l 24 = false → s.laneMute l = false → s.nearEnd l = false → bs.length = 16384 →
    does (.tetherCommaInsert ⟨l, bs⟩) s fun t =>
      (t.lane l).held = heldAfter (s.lane l).held bs ∧
      ((s.lane l).held.length < 20 → (t.lane l).held.length = ((s.lane l).held.length + 4) % 20) ∧
      t.emitted = [.marker l (s.markerWord l false (t.lane l).held.length)
        (s.onPair l (codeLevels scrambleSeed 0 0 (codeBits (s.lane l).held bs) ++ commaLevels ++
          markerLevels (s.markerWord l false (t.lane l).held.length)))]) ∧
  (∀ (s : State) (l : Nat) (w : Word) (skew : Nat), l < 192 → s.running = true → lineCoded (s.protocol l) = true →
    s.hears l = true → markerOk w = true → (s.lane l).marker = none ∨ s.flag 0x3200 l 25 = true →
    does (.alignmentAcquired l w skew) s fun t => (t.lane l).marker = some w ∧ (t.lane l).skew = skew ∧
      (t.lane l).rx = lineAligned (bits w 11 7) ∧ t.flag 0x3200 l 25 = false ∧
      t.field 0x3200 l 5 3 = markerPort w ∧ t.field 0x3200 l 2 0 = markerLane w) ∧
  (∀ (s : State) (l : Nat) (w m : Word) (skew : Nat), l < 192 → s.running = true → lineCoded (s.protocol l) = true →
    s.hears l = true → markerOk w = true → (s.lane l).marker = some m → s.flag 0x3200 l 25 = false →
    does (.alignmentAcquired l w skew) s fun t =>
      t.elem 0x3400 (0x800 + l) = wrapAdd 32 (s.elem 0x3400 (0x800 + l)) 1 ∧
      if markerIdent w = markerIdent m then t.lanes = s.lanes
      else (t.lane l).marker = none ∧ t.laneReady l = false) ∧
  (∀ (s : State) (l : Nat) (m : Word), l < 192 → s.running = true → (s.lane l).marker = some m → (s.lane l).missed ≤ 2 →
    does (.alignmentLost ⟨l, [none, none, none]⟩) s fun t => (t.lane l).marker = none ∧ t.laneReady l = false ∧
      t.elem 0x3400 (0x800 + l) = wrapAdd 32 (s.elem 0x3400 (0x800 + l)) 1) ∧
  (∀ (s : State) (l : Nat) (m w : Word), l < 192 → s.running = true → (s.lane l).marker = some m → markerOk w = true →
    does (.alignmentLost ⟨l, [some w]⟩) s fun t =>
      if markerIdent w = markerIdent m then (t.lane l).marker = some m ∧ (t.lane l).missed = 0 ∧ t.dict = s.dict
      else (t.lane l).marker = none ∧ t.laneReady l = false ∧
        t.elem 0x3400 (0x800 + l) = wrapAdd 32 (s.elem 0x3400 (0x800 + l)) 1) ∧
  (∀ (s : State) (l errors : Nat) (lv : List Nat), l < 192 → s.running = true → s.hears l = true → s.protocol l = protoEth →
    ratePam4 (s.rxCode l) = true ∨ bits (s.laneMode l) 18 17 = 2 →
    does (.uncorrectableCodeword ⟨l, lv⟩ errors) s fun t =>
      if errors ≤ s.fecLimit l then t.elem 0x3400 (0x300 + l) = satAdd 64 (s.elem 0x3400 (0x300 + l)) errors
      else t.elem 0x3400 (0x400 + l) = satAdd 64 (s.elem 0x3400 (0x400 + l)) 1) ∧
  (∀ (s : State) (l errors : Nat) (lv : List Nat) (word : Option Nat), l < 192 → s.running = true → s.hears l = true →
    lineCoded (s.protocol l) = true → (s.lane l).marker.isSome = true → s.field 0x3400 l 26 24 ≠ 2 →
    s.flag 0x3200 l 28 = false →
    ((s.lane l).rx.feed lv).words = [word] → ((s.lane l).rx.feed lv).commas = [] →
    does (.uncorrectableCodeword ⟨l, lv⟩ errors) s fun t => (t.lane l).rx = (s.lane l).rx.feed lv ∧
      match word with
      | some n => t.elem 0x3400 (0x300 + l) = satAdd 64 (s.elem 0x3400 (0x300 + l)) n
      | none => t.elem 0x3400 (0x400 + l) = satAdd 64 (s.elem 0x3400 (0x400 + l)) 1) ∧
  (∀ (s : State) (l : Nat) (bs : List LineBlock), l < 192 → s.running = true → s.mayIdle l = true →
    s.flag 0x3200 l 24 = false → (s.lane l).held.length < 20 →
    does (.electricalIdleEnter ⟨l, bs⟩) s fun t => t.flag 0x3200 l 24 = true ∧ (t.lane l).held = [] ∧
      (s.laneMute l = false → ∃ lv, t.emitted = [.marker l (s.markerWord l true 0) lv])) ∧
  (∀ (s : State) (l : Nat) (w : Word), l < 192 → s.running = true → lineCoded (s.protocol l) = true →
    (s.lane l).marker.isSome = true → markerOk w = true → bit w 30 = true →
    does (.idleMarkerReceived l w) s fun t => t.flag 0x3200 l 25 = true ∧ t.lanes = s.lanes) ∧
  (∀ (s : State) (l : Nat), l < 192 → s.running = true → s.flag 0x3200 l 24 = true →
    does (.electricalIdleExit ⟨l, false⟩) s fun t => t.flag 0x3200 l 24 = false ∧ (t.lane l).held = [] ∧
      (s.laneMute l = false → t.emitted =
        [.training l (trainingBursts (s.txWord l)) (s.onPair l trainingBurst),
         .marker l (s.markerWord l false 0) (s.onPair l (commaLevels ++ markerLevels (s.markerWord l false 0)))])) ∧
  (∀ (s : State) (l : Nat), l < 192 → s.running = true → s.flag 0x3200 l 24 = true →
    does (.electricalIdleExit ⟨l, true⟩) s fun t => t.flag 0x3200 l 24 = false ∧ t.field 0x3200 l 27 26 = 3 ∧
      ∀ w lv, Emission.marker l w lv ∉ t.emitted) ∧
  (∀ (s : State) (l : Nat), l < 192 → s.running = true → s.flag 0x3200 l 25 = true →
    does (.idleExitFailure l) s fun t => t.flag 0x3200 l 25 = false ∧ (t.lane l).marker = none ∧ t.laneReady l = false) ∧
  (∀ (s : State) (l : Nat), l < 192 → s.running = true → laneTxEn (s.laneMode l) = true → s.protocol l ≠ protoOff →
    s.flag 0x3200 l 24 = false → s.flag 0x3200 l 26 = false →
    does (.txShortDeclare l) s fun t => t.field 0x3200 l 27 26 = 3 ∧ (t.lane l).probeAt = s.up ∧
      t.elem 0x3400 (0x700 + l) = wrapAdd 32 (s.elem 0x3400 (0x700 + l)) 1) ∧
  (∀ (s : State) (l : Nat) (short : Bool), l < 192 → s.running = true → s.flag 0x3200 l 26 = true →
    s.flag 0x3200 l 24 = false → (s.lane l).probeAt + 100000000 ≤ s.up →
    does (.txShortProbe l short) s fun t => t.flag 0x3200 l 26 = short ∧ (t.lane l).probeAt = s.up)

/-- R139, R143, R158, R142: a lane in TRS lock locks the flows bound to it alone, and its loss unlocks every flow on it; a
line with a CRC error is counted at its flow; a mismatch clears after two clean frames. -/
def Obligations.SdiInputsLock : Prop :=
  (∀ (s : State) (l : Nat), l < 192 → s.running = true → s.protocol l = protoSdi → s.delivers l = true →
    s.laneReady l = false →
    does (.trsLock l) s fun t => t.laneReady l = true ∧
      ∀ j ∈ s.flowsOn l, bindLanes (s.inBind j) = [l] → s.flag 0x4300 j 28 = false → t.flag 0x4300 j 31 = true) ∧
  (∀ (s : State) (l : Nat), l < 192 → s.running = true → s.protocol l = protoSdi → s.laneReady l = true →
    does (.trsLockLost l) s fun t => t.laneReady l = false ∧ ∀ j ∈ s.flowsOn l, j < 2048 → t.flag 0x4300 j 31 = false) ∧
  (∀ (s : State) (l j : Nat) (ln : SdiLine), l < 192 → s.running = true → s.protocol l = protoSdi → s.hears l = true →
    s.laneReady l = true → j < 2048 → s.flowsOn l = [j] → bindQuad (s.inBind j) = false → (bits (s.inBind j) 23 22 = 3 ↔ ln.stream = 2) →
    ln.crcError = true →
    does (.sdiLineReceived l ln) s fun t => t.elem 0x4300 (0x1000 + j) = wrapAdd 32 (s.elem 0x4300 (0x1000 + j)) 1) ∧
  (∀ (s : State) (j : Nat), j < 2048 → s.running = true → s.flag 0x4300 j (s.mismatchBit j) = true →
    3 ≤ (s.in_ j).clean → s.now < (s.in_ j).beganAt + (s.srcFmt j).linePeriod →
    does (.formatMismatchClear j) s fun t => t.flag 0x4300 j (s.mismatchBit j) = false)

/-- R195, R223, R225, R226, R233, R276: an IP input without packets is lost; an input whose conditions hold returns; the
hold time ends in fill; an untimed input is mistimed and recovers; promotion synchronises it where there is room, and is
otherwise tried again after a second; the frame synchroniser chooses a frame for the slot that has come. -/
def Obligations.InputsLostAndBack : Prop :=
  (∀ (s : State) (j : Nat), j < 2048 → s.running = true → bindKind (s.inBind j) = 2 → (s.in_ j).stamp.isSome = true →
    s.pathSilent j 0 = true → s.pathSilent j 1 = true →
    does (.ipInputLost j) s fun t => t.flag 0x4300 j 31 = false ∧
      (s.inState j = 1 ∨ s.inState j = 5 → s.mirrored = false → t.inState j = if s.synced j then 3 else 2)) ∧
  (∀ (s : State) (j : Nat), j < 2048 → s.running = true → s.inState j = 2 ∨ s.inState j = 3 ∨ s.inState j = 4 →
    s.inputOk j = true → (bindKind (s.inBind j) = 2 → s.flag 0x4300 j 31 = true) → (s.in_ j).whole = true →
    s.atFrameStart j = true → s.mirrored = false →
    does (.inputReturn j) s fun t => t.inState j = 1 ∧ (t.in_ j).lostAt = none) ∧
  (∀ (s : State) (j : Nat) (a : Rat), j < 2048 → s.running = true → s.inState j = 3 → (s.in_ j).lostAt = some a →
    a + s.holdTime j ≤ s.up →
    does (.holdExpiry j) s fun t => t.inState j = 4) ∧
  (∀ (s : State) (j : Nat), j < 2048 → s.running = true → s.inState j = 1 → s.synced j = false →
    bindKind (s.inBind j) ≠ 3 → s.outside j = true → s.mirrored = false →
    does (.inputMistimed j) s fun t => t.inState j = 5 ∧ t.flag 0x4300 (0x4000 + j) 26 = true ∧
      (t.source 0x081).count = satAdd 24 (s.source 0x081).count 1) ∧
  (∀ (s : State) (j : Nat), j < 2048 → s.running = true → s.inState j = 5 → 3 ≤ (s.in_ j).good → s.atFrameStart j = true →
    does (.mistimedRecovery j) s fun t => t.inState j = 1 ∧ t.flag 0x4300 (0x4000 + j) 26 = false) ∧
  (∀ (s : State) (j : Nat), j < 2048 → s.running = true → s.inState j = 5 → s.flag 0x4200 j 30 = true →
    s.atFrameStart j = true → (s.in_ j).missAt < (s.in_ j).beganAt → s.syncFits j = true →
    ((s.in_ j).triedAt = none → does (.autoSyncPromotion j) s fun t =>
      t.inState j = 1 ∧ t.flag 0x4200 j 31 = true ∧ t.flag 0x4300 (0x4000 + j) 26 = false ∧ t.flag 0x4300 (0x4000 + j) 27 = true) ∧
    (∀ a, (s.in_ j).triedAt = some a → a + 1000000000 ≤ s.up → does (.promotionRetry j) s fun t =>
      t.inState j = 1 ∧ t.flag 0x4200 j 31 = true ∧ t.flag 0x4300 (0x4000 + j) 26 = false ∧ t.flag 0x4300 (0x4000 + j) 27 = true)) ∧
  (∀ (s : State) (j : Nat), j < 2048 → s.running = true → s.inState j = 5 → s.flag 0x4200 j 30 = true →
    s.atFrameStart j = true → (s.in_ j).missAt < (s.in_ j).beganAt → s.syncFits j = false →
    ((s.in_ j).triedAt = none → does (.autoSyncPromotion j) s fun t => t.inState j = 5 ∧ (t.in_ j).triedAt = some s.up ∧
      (t.source 0x082).count = satAdd 24 (s.source 0x082).count 1) ∧
    (∀ a, (s.in_ j).triedAt = some a → a + 1000000000 ≤ s.up → does (.promotionRetry j) s fun t => t.inState j = 5 ∧
      (t.in_ j).triedAt = some s.up ∧ (t.source 0x082).count = satAdd 24 (s.source 0x082).count 1)) ∧
  (∀ (s : State) (j : Nat), j < 2048 → s.running = true → s.synced j = true → bindKind (s.inBind j) ≠ 3 →
    s.flag 0x4300 j (s.mismatchBit j) = false → s.mirrored = false →
    does (.fsSlotSelect j) s fun t => (t.in_ j).slot = some (s.srcFrameAt j (s.now + s.srcWindow j)))

/-- R50, R146, R152, R153, R206, R244, R245: an output's frame starts; at its switch point the active route becomes the one on
air; a line of a locked single-link SDI output leaves its lane, with at most 256 packets, its payload ID's metadata and the words
of the whole line; a generator takes its pattern and colour for the frame that starts. -/
def Obligations.OutputsPlay : Prop :=
  (∀ (s : State) (j : Nat), j < 2048 → s.running = true → s.outKind j = 2 → s.outGap j = false →
    (s.out j).changeTo = none →
    does (.outputFrameStart j) s fun t => (t.out j).frame = some (s.outFrameAt j s.now)) ∧
  (∀ (s : State) (j : Nat) (a : Rat), j < 2048 → s.running = true → (s.out j).swapAt = some a →
    s.switchPoint j a ≤ s.now →
    does (.outputSwitchPoint j) s fun t => t.airElem 0x5000 j = s.elem 0x5000 j ∧ (t.out j).swapAt = none) ∧
  (∀ (s : State) (j line : Nat) (n : Int), j < 2048 → s.running = true → s.outKind j = 1 → s.sdiRuns j = true →
    (s.out j).frame = some n → 1 ≤ line → line ≤ rasterLines (s.outFmt j).form → bindQuad (s.outBind j) = false →
    s.laneMute (bindLane (s.outBind j)) = false →
    does (.outputLineLaunch j line) s fun t => ∃ picture anc audio words, anc.length ≤ 256 ∧
      Emission.sdiLine j 1 line picture anc audio (s.outMeta j) words ∈ t.emitted) ∧
  (∀ (s : State) (g : Nat), g < 16 → s.running = true → s.srcBound (2064 + g) = true →
    does (.generatorFrameStart g) s fun t => ∃ x ∈ mapGet genD t.gens g,
      x.frame = s.srcFrameAt (2064 + g) s.now ∧ x.conf = s.elem 0x5400 g ∧ x.colour = s.eff 0x5400 (0x10 + g))

/-- R161, R163, R164: a frame that a port does not accept is counted; a request for the port's own address is answered and a
reply resolves a next hop; an unresolved one is asked for again after 1 s, a resolved one after 60 s; a query is counted, and
answered within its maximum response time; a state-change report is sent again after 1 s; the compatibility mode ends. -/
def Obligations.ArpAndIgmp : Prop :=
  (∀ (s : State) (l : Nat) (f : FrameIn) (req : Bool) (target sender mac : Nat), l < 192 → s.running = true →
    s.linkUp l = true → s.groupHears l = true → s.arpOk l f = false →
    does (.arpFrameReceived ⟨l, f⟩ req target sender mac) s fun t =>
      t.elem 0x3500 (0x600 + l) = wrapAdd 32 (s.elem 0x3500 (0x600 + l)) 1 ∧ t.emitted = [] ∧ t.arp = s.arp) ∧
  (∀ (s : State) (l : Nat) (f : FrameIn) (target sender mac : Nat), l < 192 → s.running = true → s.portLive l = true →
    s.groupHears l = true → s.arpOk l f = true → (s.groupLanes l).any s.laneMute = false →
    target = s.hostIp l ∨ (target = s.mediaIp l ∧ s.drives = true) →
    does (.arpFrameReceived ⟨l, f⟩ true target sender mac) s fun t => t.emitted =
      [.ethernet l mac (portMac l) (s.portVlan l) 0x0806 (arpBytes 2 (portMac l) target mac sender)]) ∧
  (∀ (s : State) (l : Nat) (f : FrameIn) (target sender mac : Nat) (a : Arp), l < 192 → s.running = true →
    s.portLive l = true → s.groupHears l = true → s.arpOk l f = true → a ∈ s.arp → a.lane = l → a.ip = sender →
    does (.arpFrameReceived ⟨l, f⟩ false target sender mac) s fun t =>
      ∃ b ∈ t.arp, b.lane = l ∧ b.ip = sender ∧ b.mac = some mac ∧ b.misses = 0) ∧
  (∀ (s : State) (l ip : Nat) (a : Arp), l < 192 → s.running = true →
    s.arp.find? (fun b => b.lane == l && b.ip == ip) = some a → a.mac = none → (∀ b, a.asked = some b → b + 1000000000 ≤ s.up) →
    does (.arpResolveRetry l ip) s fun t => { a with asked := some s.up } ∈ t.arp) ∧
  (∀ (s : State) (l ip m : Nat) (a : Arp), l < 192 → s.running = true →
    s.arp.find? (fun b => b.lane == l && b.ip == ip) = some a → a.mac = some m →
    (∀ b, a.asked = some b → b + 60000000000 ≤ s.up) →
    does (.arpRefresh l ip) s fun t =>
      (if a.misses < 3 then { a with asked := some s.up, misses := a.misses + 1 }
       else { a with asked := some s.up, misses := 0, mac := none }) ∈ t.arp) ∧
  (∀ (s : State) (l : Nat) (f : FrameIn) (q : IgmpQuery), l < 192 → s.running = true → s.portLive l = true →
    s.groupHears l = true → s.igmpOk l f = true →
    does (.igmpQueryReceived ⟨l, f⟩ q) s fun t =>
      t.elem 0x3500 (0x800 + l) = wrapAdd 32 (s.elem 0x3500 (0x800 + l)) 1 ∧
        ∀ vlan ∈ s.queried l f.vlan, ∃ d, (d, q.group) ∈ (t.igmpOf l vlan).due ∧ s.up ≤ d ∧ d ≤ s.up + (q.maxResp : Nat)) ∧
  (∀ (s : State) (l vlan : Nat), l < 192 → s.running = true → (s.igmpOf l vlan).due.all (fun x => decide (x.1 ≤ s.up)) = true →
    does (.igmpQueryResponse l vlan) s fun t => (t.igmpOf l vlan).due = []) ∧
  (∀ (s : State) (l vlan : Nat) (a : Rat), l < 192 → s.running = true → (s.igmpOf l vlan).lastAt = some a →
    0 < (s.igmpOf l vlan).left → a + 1000000000 ≤ s.up →
    does (.igmpStateChangeReport l vlan) s fun t => (t.igmpOf l vlan).left = 0 ∧ (t.igmpOf l vlan).changed = []) ∧
  (∀ (s : State) (l vlan : Nat), l < 192 → s.running = true → (∀ a, (s.igmpOf l vlan).v1Until = some a → a ≤ s.up) →
    (∀ a, (s.igmpOf l vlan).v2Until = some a → a ≤ s.up) →
    does (.igmpCompatTimeout l vlan) s fun t => (t.igmpOf l vlan).compat = 3)

/-- R161, R162, R175, R184, R186, R188: frames no port takes and packets no entry matches are counted; a matched packet is
counted at its entry, or as a mismatch; a line's time runs out; timing drift, a path without packets, late packets. -/
def Obligations.PacketsReceived : Prop :=
  (∀ (s : State) (l : Nat) (p : Packet), l < 192 → s.running = true → s.linkUp l = true → s.groupHears l = true →
    s.ipOk l { mac := p.mac, vlan := p.vlan, length := p.length } = false →
    does (.mediaPacketReceived l p) s fun t => t.elem 0x3500 (0x600 + l) = wrapAdd 32 (s.elem 0x3500 (0x600 + l)) 1) ∧
  (∀ (s : State) (l : Nat) (p : Packet), l < 192 → s.running = true → s.linkUp l = true → s.groupHears l = true →
    s.ipOk l { mac := p.mac, vlan := p.vlan, length := p.length } = true → s.ipPasses l p = false ∨ s.matchEntry l p = none →
    does (.mediaPacketReceived l p) s fun t => t.elem 0x3500 (0x700 + l) = wrapAdd 32 (s.elem 0x3500 (0x700 + l)) 1) ∧
  (∀ (s : State) (l e : Nat) (w : Word) (p : Packet), l < 192 → s.running = true → s.linkUp l = true →
    s.groupHears l = true → s.ipOk l { mac := p.mac, vlan := p.vlan, length := p.length } = true → s.ipPasses l p = true →
    s.matchEntry l p = some (e, w) →
    does (.mediaPacketReceived l p) s fun t =>
      if p.version ≠ 2 ∨ (rxPt w ≠ 0 ∧ p.pt ≠ rxPt w) then
        t.elem 0x4400 (0x7000 + e) = wrapAdd 32 (s.elem 0x4400 (0x7000 + e)) 1 ∧
          t.elem 0x4400 (0x3000 + e) = s.elem 0x4400 (0x3000 + e)
      else t.elem 0x4400 (0x3000 + e) = satAdd 64 (s.elem 0x4400 (0x3000 + e)) 1) ∧
  (∀ (s : State) (j line : Nat) (o : OpenLine) (a : Rat), j < 2048 → s.running = true → bindKind (s.inBind j) = 2 →
    s.srcOpaque j = false → s.in2022 j = false → s.mirrored = false →
    (s.in_ j).openLines.find? (fun o => o.line == line) = some o → o.laterAt = some a → a + s.closeTime j ≤ s.up →
    does (.lineCloseTimeout j line) s fun t => lineKey (s.srcFmt j) o.frame o.line ∈ (t.in_ j).done ∧ o ∉ (t.in_ j).openLines) ∧
  (∀ (s : State) (e : Nat) (a : Rat), e < 4096 → s.running = true → entryOn (s.rxEntry e) = true →
    isAudioKind (entryKind (s.rxEntry e)) = true → rxAsync (s.rxEntry e) = false → (s.rxOf e).timing = some (false, a) →
    a + 1000000000 ≤ s.up → s.flag 0x4400 (0x2000 + e) 26 = false → s.mirrored = false →
    does (.tsDriftDeclare e) s fun t => t.flag 0x4400 (0x2000 + e) 26 = true ∧
      (t.source 0x067).count = satAdd 24 (s.source 0x067).count 1) ∧
  (∀ (s : State) (j : Nat), j < 2048 → s.running = true → s.mirrored = false →
    does (.ancAttachTimeout j) s fun t =>
      (t.in_ j).ancWait = (s.in_ j).ancWait.filter fun a => decide (s.up < a.at_ + (s.srcFmt j).period)) ∧
  (∀ (s : State) (j path : Nat), j < 2048 → path < 2 → s.running = true → bindKind (s.inBind j) = 2 →
    s.flag 0x4300 j (30 - path) = true → s.pathSilent j path = true →
    does (.pathAbsent j path) s fun t => t.flag 0x4300 j (30 - path) = false)


/-- R166, R170, R172, R190: accepted writes to the flow tables take effect, and start the entry's status afresh. Every packet that the schedule
places takes the next sequence number, and one that reaches its port is counted. -/
def Obligations.EntriesAndSends : Prop :=
  (∀ (s : State) (rq : Rq) (e : Nat) (v : Word), e < 4096 → rq.fits v = true →
    isAccepted s.fresh rq opWrite 0x4400 e (valueBytes rq v) (rxHandler s.fresh e (valueBytes rq v)) →
    does (.rxEntryWrite rq e v) s fun t => t.elem 0x4400 e = v ∧ t.elem 0x4400 (0x2000 + e) = 0) ∧
  (∀ (s : State) (rq : Rq) (e : Nat) (v : Word), e < 4096 → rq.fits v = true →
    isAccepted s.fresh rq opWrite 0x6300 e (valueBytes rq v) (txHandler s.fresh e (valueBytes rq v)) →
    does (.txEntryWrite rq e v) s fun t => t.elem 0x6300 e = v) ∧
  (∀ (s : State) (e : Nat) (n : Int), e < 4096 → s.running = true → entryOn (s.txEntry e) = true →
    isVideoKind (entryKind (s.txEntry e)) = true → s.outKind (entryTarget (s.txEntry e)) = 2 →
    (s.out (entryTarget (s.txEntry e))).frame = some n → (s.txOf e).frame = some n →
    (∀ v, (s.out (entryTarget (s.txEntry e))).prev = some v → v.frame ≠ n) →
    (s.txOf e).next < (s.txOf e).count * (if entryKind (s.txEntry e) = kind20 then
      formFields (s.outFmt (entryTarget (s.txEntry e))).form else 1) →
    s.dueAt (s.refInstant (entryTarget (s.txEntry e)) ((s.txOf e).next / (s.txOf e).count) +
      troOf (s.leadEntry e) (s.outFmt (entryTarget (s.txEntry e))) + ((s.txOf e).next % (s.txOf e).count : Nat) *
        packetSpacing (s.leadEntry e) (s.outFmt (entryTarget (s.txEntry e))) (s.txOf e).count) = true →
    does (.videoPacketSend e) s fun t =>
      (t.txOf e).seq = ((s.txOf e).seq + 1) % 2 ^ 32 ∧ (t.txOf e).next = (s.txOf e).next + 1) ∧
  (∀ (s : State) (e : Nat) (k p : Int) (per : Nat), e < 4096 → s.running = true → entryOn (s.txEntry e) = true →
    isAudioKind (entryKind (s.txEntry e)) = true → per = (if entryPtime (s.txEntry e) = 0 then 48 else 6) →
    ((s.txOf e).frame = some k ∧ s.gridNow ≤ k + 96 ∧ k + per ≤ s.gridNow) ∨ ((s.txOf e).frame = none ∧ k = s.gridNow - per) →
    s.period = some p → k + per ≤ p + 1 →
    does (.audioPacketSend e) s fun t => (t.txOf e).seq = ((s.txOf e).seq + 1) % 2 ^ 32 ∧ (t.txOf e).frame = some (k + per) ∧
      (s.gated = false → s.reaches (s.txNow e) = true →
        t.elem 0x6300 (0x3000 + e) = satAdd 64 (s.elem 0x6300 (0x3000 + e)) 1)) ∧
  (∀ (s : State) (e : Nat) (n : Int), e < 4096 → s.running = true → entryOn (s.txEntry e) = true →
    entryKind (s.txEntry e) = kind40 → s.outKind (entryTarget (s.txEntry e)) = 2 →
    (s.out (entryTarget (s.txEntry e))).frame = some n → (s.txOf e).frame = some n →
    (s.txOf e).count < formFields (s.outFmt (entryTarget (s.txEntry e))).form →
    s.dueAt (s.refInstant (entryTarget (s.txEntry e)) (s.txOf e).count +
      troOf (s.leadEntry e) (s.outFmt (entryTarget (s.txEntry e))) + ((s.txOf e).next : Nat) * 1000) = true →
    does (.ancPacketSend e) s fun t => (t.txOf e).seq = ((s.txOf e).seq + 1) % 2 ^ 32 ∧
      (s.outGap (entryTarget (s.txEntry e)) = false → (s.out (entryTarget (s.txEntry e))).changeTo = none → s.gated = false →
        s.reaches (s.txNow e) = true → t.elem 0x6300 (0x3000 + e) = satAdd 64 (s.elem 0x6300 (0x3000 + e)) 1))

/-- R237: an accepted shadow write to any element of a bank makes the bank dirty, whatever the value; a completed reseed
clears the flag, and so does a DISCARD; a refused shadow write leaves it as it was. The written value stands in the shadow,
and the active set keeps its own. -/
def Obligations.DirtyFollowsWrites : Prop :=
  (∀ (s : State) (rq : Rq) (idx sub : Nat) (b : Bank) (v : Word), bankOf idx sub = some b → sub < 65536 → rq.fits v = true →
    isAccepted s.fresh rq opWrite idx sub (valueBytes rq v) (elementHandler s.fresh rq idx sub (valueBytes rq v)) →
    does (.shadowWrite rq idx sub v) s fun t =>
      t.shadowElem idx sub = v ∧ (t.bank b.num).dirty = true ∧ t.elem idx sub = s.elem idx sub) ∧
  (∀ (s : State) (b : Nat), b < 5 → s.running = true → (s.bank b).reseeding = true →
    does (.reseedComplete b) s fun t => (t.bank b).dirty = false) ∧
  (∀ (s : State) (rq : Rq) (v : Word), rq.fits v = true →
    isAccepted s.fresh rq opWrite 0x1100 2 (valueBytes rq v) (discardHandler s.fresh (valueBytes rq v)) →
    does (.discard rq v) s fun t => ∀ b, b < 5 → bit v b = true → (t.bank b).dirty = false) ∧
  (∀ (s : State) (rq : Rq) (idx sub st : Nat) (b : Bank) (v : Word), bankOf idx sub = some b →
    isRefused s.fresh rq opWrite idx sub (valueBytes rq v) (elementHandler s.fresh rq idx sub (valueBytes rq v)) st →
    does (.shadowWrite rq idx sub v) s fun t => t.banks = s.banks)

/-- R217, R262-R266: protection belongs to the class and session that set it; a structural write to a flow takes effect at
once or starts a move; at its move point the element takes its new value and the move is over. -/
def Obligations.RoutesProtectedAndMoved : Prop :=
  (∀ (s : State) (rq : Rq) (j : Nat) (v : Word), j < 2048 → rq.fits v = true →
    isAccepted s.fresh rq opWrite 0x5010 j (valueBytes rq v) (protectHandler s.fresh rq j (valueBytes rq v)) →
    does (.protectionWrite rq j v) s fun t =>
      t.elem 0x5010 j = if bit v 31 then 2 ^ 31 + rq.origin * 2 ^ 24 + rq.session else 0) ∧
  (∀ (s : State) (rq : Rq) (idx sub : Nat) (v : Word), isStructural idx sub = true →
    idx = 0x4000 ∨ idx = 0x4100 ∨ idx = 0x4200 ∨ idx = 0x4500 ∨ idx = 0x5400 ∨ idx = 0x6000 ∨ idx = 0x6100 ∨ idx = 0x6200 →
    sub < 0x1800 → (idx = 0x4000 → sub < 0x800 → (s.remoteOf sub).asked = none ∧ bindKind v ≠ 3) → rq.fits v = true →
    isAccepted s.fresh rq opWrite idx sub (valueBytes rq v) (flowHandler s.fresh idx sub (valueBytes rq v)) →
    does (.structuralWrite rq idx sub v) s fun t =>
      t.elem idx sub = v ∨ ∃ m ∈ t.moves, m.index = idx ∧ m.sub = sub ∧ m.new = v) ∧
  (∀ (s : State) (idx sub : Nat) (m : Move), isStructural idx sub = true → sub < 0x8000 → s.running = true →
    s.moveOf idx sub = some m → s.moveDue m = true →
    does (.movePoint idx sub) s fun t => t.elem idx sub = m.new ∧ t.moveOf idx sub = none)

/-- R42, R55, R57, R239-R242, R248, R249: a due TAKE that is alone in the queue fires: the banks of its scope swap and start their reseed. An accepted take arms the banks of its scope and waits in the queue; at its TP they swap and
reseed; a reseed ends; an abort cancels the takes on the banks it names; a discard copies the active set to the shadow.
A cascade take arms this node's bound banks of its scope; a cascade abort cancels cascade takes (R62, R63, R407-R409). -/
def Obligations.TakesRun : Prop :=
  (∀ (s : State) (e : Event), s.running = true → s.events = [e] → s.due e = true → e.kind = 1 →
    does .eventFire s fun t =>
      (∀ b, b < 5 → bit e.scope b = true → (t.bank b).armed = false ∧ (t.bank b).reseeding = true) ∧
        (∀ b, b < 5 → bit e.scope b = false → t.bank b = s.bank b)) ∧
  (∀ (s : State) (rq : Rq) (v : Word), rq.fits v = true → takeCascade v = false →
    isAccepted s.fresh rq opTake 0x1100 0 (valueBytes rq v) (takeHandler s.fresh rq (valueBytes rq v)) →
    does (.take rq v) s fun t =>
      (∀ b, b < 5 → bit (takeScope v) b = true → (t.bank b).armed = true) ∧
      ∃ e : Event, t.events = s.events ++ [e] ∧ e.kind = 1 ∧ e.scope = takeScope v ∧ e.plane = takePlane v ∧
        (takeNext v = false → e.tp = takeTp v)) ∧
  (∀ (s : State) (e : Event), s.running = true → s.events = [e] → s.due e = true → e.kind = 1 → e.fired = false →
    does .takeSwap s fun t => ∀ b, b < 5 → bit e.scope b = true → (t.bank b).armed = false ∧ (t.bank b).reseeding = true) ∧
  (∀ (s : State) (b : Nat), b < 5 → s.running = true → (s.bank b).reseeding = true →
    does (.reseedComplete b) s fun t => (t.bank b).reseeding = false ∧ (t.bank b).dirty = false) ∧
  (∀ (s : State) (rq : Rq) (v : Word), rq.fits v = true → bit v 28 = false →
    isAccepted s.fresh rq opAbort 0x1100 1 (valueBytes rq v) (abortHandler s.fresh rq (valueBytes rq v)) →
    does (.abort rq v) s fun t => ∀ e ∈ t.events, e.kind = 1 → e.fired = false → e.scope &&& bits v 4 0 = 0) ∧
  (∀ (s : State) (rq : Rq) (v : Word), rq.fits v = true →
    isAccepted s.fresh rq opWrite 0x1100 2 (valueBytes rq v) (discardHandler s.fresh (valueBytes rq v)) →
    does (.discard rq v) s fun t => ∀ b, b < 5 → bit v b = true → (t.bank b).dirty = false ∧ (t.bank b).reseeding = true ∧
      ∀ idx sub, sub < 65536 → bankNum idx sub = some b → t.shadowElem idx sub = s.elem idx sub) ∧
  (∀ (s : State) (rq : Rq) (v : Word), rq.fits (setBit v 28 true) = true →
    isAccepted s.fresh rq opTake 0x1100 0 (valueBytes rq (setBit v 28 true))
      (cascadeTakeHandler s.fresh rq (valueBytes rq (setBit v 28 true))) →
    does (.cascadeTake rq v) s fun t => ∀ b, b < 5 → bit (takeScope v) b = true → bit s.bound b = true → (t.bank b).armed = true) ∧
  (∀ (s : State) (rq : Rq) (v : Word), rq.fits (setBit v 28 true) = true →
    isAccepted s.fresh rq opAbort 0x1100 1 (valueBytes rq (setBit v 28 true))
      (cascadeAbortHandler s.fresh rq (valueBytes rq (setBit v 28 true))) →
    does (.cascadeAbort rq v) s fun t =>
      ∀ e ∈ t.events, e.kind = 1 → e.fired = false → e.cascade = true → e.scope &&& bits v 4 0 = 0)

/-- R255-R260: an accepted salvo image is stored whole; a firing captures its entries in the queue, whoever fires it; at its
TP every entry enters the active set. -/
def Obligations.SalvosRun : Prop :=
  (∀ (s : State) (rq : Rq) (n : Nat) (image : List Byte), n < 64 →
    isAccepted s.fresh rq opWrite 0x1110 n image (salvoHandler s.fresh n image) →
    does (.salvoStore rq n image) s fun t => t.blob 0x1110 n = image) ∧
  (∀ (s : State) (rq : Rq) (v : Word), rq.fits v = true →
    isAccepted s.fresh rq opWrite 0x1110 0x40 (valueBytes rq v) (fireHandler s.fresh rq (valueBytes rq v)) →
    does (.salvoFire (.dumus rq) v) s fun t => ∃ e : Event, t.events = s.events ++ [e] ∧ e.kind = 2 ∧ e.arg = v ∧
      e.image = imageEntries (s.blob 0x1110 v)) ∧
  (∀ (s : State) (line : Nat) (v : Word), line < 32 → v < 64 → s.running = true → s.mode = .active ∨ s.mode = .solo →
    s.logStrict = false → (fireChecks s.fresh v 0 0).range = false → (fireChecks s.fresh v 0 0).mode = false →
    (fireChecks s.fresh v 0 0).prot = false → (fireChecks s.fresh v 0 0).admission = false →
    does (.salvoFire (.fieldInput line) v) s fun t => ∃ e : Event, t.events = s.events ++ [e] ∧ e.kind = 2 ∧ e.arg = v ∧
      e.image = imageEntries (s.blob 0x1110 v)) ∧
  (∀ (s : State) (e : Event), s.running = true → s.events = [e] → s.due e = true → e.kind = 2 → e.fired = false →
    (∀ i ∈ e.image, (i.1 = 0x5000 ∨ i.1 = 0x7000 ∨ i.1 = 0x7100) ∧ i.2.1 < 65536) →
    (e.image.map fun i => (i.1, i.2.1)).Nodup →
    does .salvoExecute s fun t => ∀ i ∈ e.image, t.elem i.1 i.2.1 = i.2.2)

/-- R293, R311, R315, R319: the period's work is done once for each period of the grid; a gain that found no zero crossing
steps; a delay crossfade ends; a metering interval ends. -/
def Obligations.AudioPeriodRuns : Prop :=
  (∀ (s : State) (frames : List (Nat × List (List Nat))), s.running = true → s.period ≠ some s.gridNow →
    does (.audioPeriod frames) s fun t => t.period = some s.gridNow ∧ t.mix.computed = false) ∧
  (∀ (s : State) (n : Nat), n < 0xC000 → s.running = true → (s.aoutSlot n).gain.now ≠ (s.aoutSlot n).gain.target →
    (s.aoutSlot n).gain.stepAt + s.gainTimeout ≤ s.up →
    does (.gainStepTimeout n) s fun t =>
      (t.aoutSlot n).gain.now = stepGain (s.aoutSlot n).gain.now (s.aoutSlot n).gain.target) ∧
  (∀ (s : State) (n : Nat), n < 256 → s.running = true → (mapGet gainD s.sideGains n).now ≠ (mapGet gainD s.sideGains n).target →
    (mapGet gainD s.sideGains n).stepAt + s.gainTimeout ≤ s.up →
    does (.gainStepTimeout (0x10000 + n)) s fun t => (mapGet gainD t.sideGains n).now =
      stepGain (mapGet gainD s.sideGains n).now (mapGet gainD s.sideGains n).target) ∧
  (∀ (s : State) (n i : Nat), n < 49152 → s.running = true → s.flag 0x7410 n 15 = true → (s.ainSlot n).at_ = some i →
    240 ≤ i → s.eff 0x7420 n = (s.ainSlot n).delay →
    does (.delayCrossfadeEnd n) s fun t => (t.ainSlot n).at_ = none ∧ (t.ainSlot n).delay = (s.ainSlot n).delay) ∧
  (∀ (s : State), s.running = true → intervalOf s.gridNow ≠ s.meterAt →
    does .meterIntervalEnd s fun t => t.meterAt = intervalOf s.gridNow)

/-- R297, R299: a measured rate near its nominal acquires; the bandwidth steps every 400 ms until TRACK; an update moves the loop by
its error: a ratio within 1,000 ppm waits for its period, one beyond is a rate error; a lost source plays out.
A frame at a pin clock sets the port's measured rate; 10 ms without edges is a clock loss (R303, R307). -/
def Obligations.BridgesTrack : Prop :=
  (∀ (s : State) (i : Nat) (rate : Rat), i < 0x2000 → s.running = true → (syncBridges s.fresh).hasBridge i = true →
    ((syncBridges s.fresh).bridge i).band = 0 → ((syncBridges s.fresh).bridge i).st = 1 →
    ((syncBridges s.fresh).bridge i).since + 10000000 ≤ s.up → ((syncBridges s.fresh).bridge i).kind ≤ 2 →
    (((syncBridges s.fresh).bridge i).nominal : Rat) * 999 / 1000 ≤ rate →
    rate ≤ (((syncBridges s.fresh).bridge i).nominal : Rat) * 1001 / 1000 → s.mirrored = false →
    does (.bridgeAcquire i rate) s fun t => (t.bridge i).st = 1 ∧ (t.bridge i).band = 1 ∧
      (t.bridge i).ratio = ((rate / ((syncBridges s.fresh).bridge i).nominal - 1) * 1000000000).floor) ∧
  (∀ (s : State) (i : Nat), i < 0x2000 → s.running = true → s.hasBridge i = true → (s.bridge i).st = 1 →
    1 ≤ (s.bridge i).band → (s.bridge i).band ≤ 5 → (s.bridge i).bandAt + 400000000 ≤ s.up → s.mirrored = false →
    does (.bridgeBandwidthStep i) s fun t => (t.bridge i).band = (s.bridge i).band + 1 ∧
      (t.bridge i).st = if (s.bridge i).band = 5 then 2 else 1) ∧
  (∀ (s : State) (i : Nat) (error : Rat), i < 0x2000 → s.running = true → s.hasBridge i = true → (s.bridge i).band ≠ 0 →
    (s.bridge i).st = 1 ∨ (s.bridge i).st = 2 → (s.bridge i).updAt + 1000000 ≤ s.up → s.mirrored = false →
    does (.bridgeRatioUpdate i error) s fun t => (t.bridge i).integ = ((s.bridge i).loop error).1 ∧
      if ((s.bridge i).loop error).2 < -1000000 ∨ 1000000 < ((s.bridge i).loop error).2 then
        (t.bridge i).st = 4 ∧ (t.source 0x0C1).count = satAdd 24 (s.source 0x0C1).count 1
      else (t.bridge i).next = some ((s.bridge i).loop error).2 ∧ (t.bridge i).updAt = s.up) ∧
  (∀ (s : State) (i : Nat), i < 0x1000 → s.running = true → s.hasBridge i = true → (s.bridge i).st = 1 ∨ (s.bridge i).st = 2 →
    (s.bridge i).lastAt + 10000000 ≤ s.up → s.mirrored = false →
    does (.bridgeSourceLost i) s fun t => (t.bridge i).st = 3) ∧
  (∀ (s : State) (i p : Nat), 0x1000 ≤ i → i < 0x2000 → s.running = true → s.hasBridge i = true →
    (s.bridge i).st = 1 ∨ (s.bridge i).st = 2 → (s.bridge i).port i = some p → s.portFollows p = true →
    (s.audioPort (s.followPort p)).clock = false → s.mirrored = false →
    does (.bridgeSourceLost i) s fun t => (t.bridge i).st = 5) ∧
  (∀ (s : State) (p rate : Nat) (samples bad : List Nat) (block : Bool), p < 40 → s.running = true →
    bit (s.portWord p) 31 = true → s.portMaster p = false → (16 ≤ p → exairInput (p - 16) = true) →
    does (.audioPortFrame p rate samples bad block) s fun t =>
      (t.audioPort p).clock = true ∧ (t.audioPort p).rate = rate ∧ (t.audioPort p).edgeAt = s.up) ∧
  (∀ (s : State) (p : Nat), p < 40 → s.running = true → s.portClocked p = true →
    (s.audioPort p).absent = false → (s.audioPort p).edgeAt + 10000000 ≤ s.up →
    does (.audioPortClockLost p) s fun t => (t.audioPort p).clock = false ∧ (t.audioPort p).rate = 0 ∧
      (t.source 0x0C0).count = satAdd 24 (s.source 0x0C0).count 1)

/-- R341, R342, R344: a spool image that arrives is checked; one that passes is LOADED with its program, one that fails
leaves the bank FAILED; a load without frames for 1 s fails; a bank is emptied; SELECT takes effect at a sample boundary.
A coefficient written waits for a period that begins at least 2 µs later, and is in force from it on (R337, R338). -/
def Obligations.SpoolsLoad : Prop :=
  (∀ (s : State) (rq : Rq) (b : Nat) (image : List Byte), b < 2 →
    isAccepted s.fresh rq opBlockWrite 0x7210 b image (loadHandler s.fresh b image) →
    does (.spoolLoad rq b image) s fun t => (t.spoolBank b).st = 2 ∧ (t.spoolBank b).image = image) ∧
  (∀ (s : State) (b : Nat), b < 2 → s.running = true → (s.spoolBank b).st = 2 →
    does (.spoolCheckComplete b) s fun t =>
      t.spoolBank b = if (checkImage (s.spoolBank b).image).1 = stOk then loadedBank (s.spoolBank b).image else { st := 4 }) ∧
  (∀ (s : State) (b : Nat), b < 2 → s.running = true → (s.spoolBank b).st = 1 → (s.spoolBank b).frameAt + 1000000000 ≤ s.up →
    does (.spoolLoadAbandon b) s fun t => t.spoolBank b = { st := 4 }) ∧
  (∀ (s : State) (rq : Rq) (b : Nat), rq.fits b = true →
    isAccepted s.fresh rq opWrite 0x7200 6 (valueBytes rq b) (emptyHandler s.fresh (valueBytes rq b)) →
    does (.spoolBankEmpty rq b) s fun t => t.spoolBank b = {} ∧ ∀ i, i < 65536 → t.elem (0x7220 + b) i = dictReset (0x7220 + b) i) ∧
  (∀ (s : State), s.running = true → (∀ k, s.period = some k → k < s.gridNow) →
    (computePeriod s.fresh).elem 0x7200 0 < 2 →
    (computePeriod s.fresh).airElem 0x7200 0 ≠ (computePeriod s.fresh).elem 0x7200 0 →
    (computePeriod s.fresh).sampleEffectDue 3 = true →
    does .spoolEffectPoint s fun t => t.airElem 0x7200 0 = (computePeriod s.fresh).elem 0x7200 0 ∧
      t.mix.engine = some { bank := (computePeriod s.fresh).elem 0x7200 0 }) ∧
  (∀ (s : State) (rq : Rq) (b i : Nat) (payload : List Byte), b < 2 → i < 65536 → payload.length = 4 →
    isAccepted s.fresh rq opWrite (0x7220 + b) i payload (coefHandler s.fresh b i payload) →
    does (.coefficientWrite rq b i payload) s fun t => t.elem (0x7220 + b) i = ofBytes payload ∧
      ∃ c ∈ t.mix.coefs, c.due = s.effectPeriod ∧ c.bank = b ∧ c.entry = i ∧ c.old = s.elem (0x7220 + b) i) ∧
  (∀ s : State, s.running = true →
    does .coefficientEffect s fun t => ∀ c, c ∈ t.mix.coefs ↔ c ∈ s.mix.coefs ∧ s.gridNow ≤ c.due)

/-- R353, R367, R381: at its frame boundary a head composes the frame; a live layer's stager works on each of its stagings;
a head's new timing begins at its point. -/
def Obligations.HeadsCompose : Prop :=
  (∀ (s : State) (h : Nat), h < 16 → s.running = true → s.srcBound (2048 + h) = true → s.moveOf 0x8000 h = none →
    (∀ u, (s.head h).gapUntil = some u → u ≤ s.now) →
    (∀ y ∈ (s.head h).shots, y.frame = s.srcFrameAt (2048 + h) s.now → y.gap = true) →
    does (.headFrameBoundary h) s fun t => ∃ shot rest, (t.head h).shots = shot :: rest ∧ shot.gap = false ∧
      shot.frame = s.srcFrameAt (2048 + h) s.now ∧ shot.conf = s.elem 0x8000 h) ∧
  (∀ (s : State) (h l : Nat), h < 16 → l < 64 → s.running = true → s.liveLayers.contains (64 * h + l) = true →
    does (.stagedFrameComplete h l) s fun t =>
      ∀ v ∈ ((s.fresh.layerSources (64 * h + l)).foldl State.caughtUp s.fresh).stagings (64 * h + l),
        ∃ g ∈ (t.layer (64 * h + l)).stages,
          g.conf = ((s.fresh.layerSources (64 * h + l)).foldl State.caughtUp s.fresh).staging v (64 * h + l)) ∧
  (∀ (s : State) (h : Nat) (m : Move) (b : Rat), h < 16 → s.running = true → s.moveOf 0x8000 h = some m → m.point = some b →
    b ≤ s.now →
    does (.headTimingChange h) s fun t => t.elem 0x8000 h = m.new ∧ t.moveOf 0x8000 h = none)


/-- R372, R373, R374-R376, R379: an accepted image replaces the sprite; a capture waits, ends with the first whole frame, or after 1 s; a
sprite no static layer names is deleted. Accepted writes to static layers and cursors take effect, a blit waits in the queue; the blitter takes
its jobs in order and ends each with its status. -/
def Obligations.GraphicsRun : Prop :=
  (∀ (s : State) (rq : Rq) (n : Nat) (image : List Byte), n < 64 →
    isAccepted s.fresh rq opBlockWrite 0x8900 (0x100 + n) image (uploadHandler s.fresh n image) →
    does (.spriteUpload rq n image) s fun t => (t.sprite n).w = ofBytes (image.take 2) ∧
      (t.sprite n).h = ofBytes ((image.drop 2).take 2) ∧
      (t.sprite n).rows = spriteRows (ofBytes (image.take 2)) (ofBytes ((image.drop 2).take 2)) (image.drop 8)) ∧
  (∀ (s : State) (rq : Rq) (v : Word), rq.fits v = true →
    isAccepted s.fresh rq opWrite 0x8900 0x140 (valueBytes rq v) (captureHandler s.fresh rq (valueBytes rq v)) →
    does (.spriteCapture rq v) s fun t => ∃ c ∈ t.gfx.captures, c.sprite = bits v 63 56 ∧ c.source = bits v 47 32 ∧ c.rq = rq) ∧
  (∀ (s u : State) (n : Nat) (c : SpriteCapture) (m : Int), n < 64 → s.running = true →
    s.gfx.captures.find? (fun c => c.sprite == n) = some c → u = s.fresh.caughtUp c.source →
    u.stageable c.source m = true → u.srcFrameAt c.source u.now - 2 ≤ m → m ≤ u.srcFrameAt c.source u.now →
    c.at_ + u.stepped + 64000 ≤ u.srcStart c.source m →
    u.lineTime c.source m (wovenLine (u.srcFmt c.source).form (formActive (u.srcFmt c.source).form - 1)) ≤ u.now →
    does (.spriteCaptureDone n) s fun t => (t.sprite n).w = formWidth (u.srcFmt c.source).form ∧
      (t.sprite n).h = formActive (u.srcFmt c.source).form ∧ c ∉ t.gfx.captures) ∧
  (∀ (s : State) (n : Nat) (c : SpriteCapture), n < 64 → s.running = true →
    s.gfx.captures.find? (fun c => c.sprite == n) = some c → c.at_ + 1000000000 ≤ s.up →
    does (.spriteCaptureTimeout n) s fun t => c ∉ t.gfx.captures ∧ t.gfx.sprites = s.gfx.sprites) ∧
  (∀ (s : State) (rq : Rq) (n : Nat), rq.fits n = true →
    isAccepted s.fresh rq opWrite 0x8900 0x141 (valueBytes rq n) (deleteHandler s.fresh (valueBytes rq n)) →
    does (.spriteDelete rq n) s fun t => t.sprite n = {}) ∧
  (∀ (s : State) (rq : Rq) (k : Nat) (v : Word), k < 64 → rq.fits v = true →
    isAccepted s.fresh rq opWrite 0x8000 (0x2000 + k) (valueBytes rq v) (staticHandler s.fresh k (valueBytes rq v)) →
    does (.staticLayerWrite rq k v) s fun t => t.elem 0x8000 (0x2000 + k) = v) ∧
  (∀ (s : State) (rq : Rq) (v : Word), rq.fits (setBits v 191 188 1) = true →
    isAccepted s.fresh rq opWrite 0x8900 0x200 (valueBytes rq (setBits v 191 188 1))
      (blitHandler s.fresh (valueBytes rq (setBits v 191 188 1))) →
    does (.blitCopy rq v) s fun t => t.gfx.queue = s.gfx.queue ++ [.host (setBits v 191 188 1)]) ∧
  (∀ (s : State) (rq : Rq) (v : Word), rq.fits (setBits v 191 188 2) = true →
    isAccepted s.fresh rq opWrite 0x8900 0x200 (valueBytes rq (setBits v 191 188 2))
      (blitHandler s.fresh (valueBytes rq (setBits v 191 188 2))) →
    does (.blitFill rq v) s fun t => t.gfx.queue = s.gfx.queue ++ [.host (setBits v 191 188 2)]) ∧
  (∀ (s : State) (j : BlitJob) (rest : List BlitJob), s.running = true → s.gfx.busy = none → s.gfx.queue = j :: rest →
    does .blitterJobStart s fun t => t.gfx.busy = some j ∧ t.gfx.queue = rest) ∧
  (∀ (s : State) (j : BlitJob), s.running = true → s.gfx.busy = some j →
    does .blitterJobComplete s fun t => t.gfx.busy = none ∧
      t.gfx.last = match j with
        | .host v => if s.blitFits v then stOk else stRange
        | .flatten _ => stOk) ∧
  (∀ (s : State) (rq : Rq) (sub : Nat) (payload : List Byte), 0x30 ≤ sub → sub < 0x40 →
    isAccepted s.fresh rq opWrite 0x8000 sub payload (cursorHandler s.fresh sub payload) →
    does (.cursorWrite rq sub payload) s fun t => t.elem 0x8000 sub = ofBytes payload ∧
      (t.head (sub - 0x30)).cursorQ = (s.head (sub - 0x30)).cursorQ ++ [(s.effectAt (sub - 0x30) 16000, ofBytes payload)]) ∧
  (∀ (s : State) (rq : Rq) (sub : Nat) (payload : List Byte), 0x40 ≤ sub → sub < 0x50 →
    isAccepted s.fresh rq opBlockWrite 0x8000 sub payload (cursorHandler s.fresh sub payload) →
    does (.cursorWrite rq sub payload) s fun t => t.blob 0x8000 sub = payload ∧
      (t.head (sub - 0x40)).imageQ = (s.head (sub - 0x40)).imageQ ++ [(s.effectAt (sub - 0x40) 16000, payload)])
/-- R388, R390, R391, R393-R395, R404: HELLO goes out on every enabled port and one received is kept; a port comes up with
512 credits on each channel and goes down; timelines, plane configurations, path exchanges and credits. -/
def Obligations.TetherLinksRun : Prop :=
  (∀ (s : State) (p : Nat), p < 8 → s.running = true → s.portMute p = false → s.portOn p = true →
    does .helloSend s fun t => Emission.hello p (s.ownHello p) ∈ t.emitted) ∧
  (∀ (s : State) (p : Nat) (h : Hello), p < 8 → s.running = true → s.portHears p = true → s.portReady p = true →
    h.node ≠ s.nodeId →
    does (.helloReceived p h) s fun t => ∃ e ∈ t.tether.hellos, e.hello = h ∧ e.port = p ∧ e.at_ = s.up) ∧
  (∀ (s : State) (p : Nat), p < 8 → s.running = true → s.tUp p = false → s.portReady p = true →
    (s.tport p).peer.isSome = true → s.flag 0xA100 (0x100 + p) 29 = false →
    does (.tetherPortUp p) s fun t => t.tUp p = true ∧ (t.tport p).credit0 = 512 ∧ (t.tport p).credit1 = 512) ∧
  (∀ (s : State) (p : Nat), p < 8 → s.running = true → s.portLost p = true →
    does (.tetherPortDown p) s fun t => t.tUp p = false ∧ (t.tport p).peer = none) ∧
  (∀ (s : State) (p : Nat), p < 8 → s.running = true → s.portMute p = false → s.cascadeOn = true → s.tUp p = true →
    does .tetherTimelineSend s fun t => Emission.tether p (controlBlock 1 s.timelineBody) [] ∈ t.emitted) ∧
  (∀ (s : State) (p : Nat) (w : Word), p < 8 → s.running = true → s.portHears p = true → s.tUp p = true →
    does (.tetherTimelineReceived p w) s fun t => (t.tport p).timeline = w ∧ (t.tport p).timeAt = some s.up) ∧
  (∀ s : State, s.running = true →
    does .planecfgSend s fun t => t.tether.planecfg = (s.tether.planecfg % 4 + 1) % 4 ∧
      ∀ q, q < 8 → s.tUp q = true → s.cascadeMaster = true → s.portMute q = false → ∃ r, Emission.tether q r [] ∈ t.emitted) ∧
  (∀ (s : State) (q p : Nat) (w : Word) (origin : Rat) (pending : Option (Rat × Rat)), q < 8 → p < 4 → s.running = true →
    s.portHears q = true → s.tUp q = true → s.inherits q = true →
    does (.tetherPlanecfgReceived q p w ⟨origin, pending⟩) s fun t => t.planeOn p = bit w 31 ∧
      (bit w 31 = true → t.planeFormat p = bits w 27 24 ∧ t.planeRateCode p = bits w 23 20)) ∧
  (∀ (s : State) (p : Nat) (t1 t2 t3 t4 : Rat), p < 8 → s.running = true → s.tUp p = true →
    does (.pathEcho p t1 t2 t3 t4) s fun t => t.elem 0xA100 (0x208 + p) =
      ofSigned 32 (((((t4 - t1) - (t3 - t2)) / 2 * 1000 - (toSigned 32 (s.elem 0xA100 (0x400 + p)) : Int)) / 10 + 1 / 2).floor * 10) ∧
        (t.tport p).flight.isSome = true) ∧
  (∀ (s : State) (t1 t2 t3 t4 : Rat), s.running = true → s.bridleUp = true →
    does (.pathEcho 8 t1 t2 t3 t4) s fun t => (t.tport 8).flight.isSome = true) ∧
  (∀ (s : State) (p : Nat), p < 8 → s.running = true → s.portMute p = false → s.tUp p = true →
    does (.creditSend p) s fun t => (t.tport p).freed0 = 0 ∧ (t.tport p).freed1 = 0 ∧ ∃ r, t.emitted = [.tether p r []]) ∧
  (∀ (s : State) (p vc0 vc1 : Nat), p < 8 → s.running = true → s.portHears p = true → s.tUp p = true → s.tether.queue = [] →
    s.tether.own = [] →
    does (.creditReceived p vc0 vc1) s fun t => (t.tport p).credit0 = min 512 ((s.tport p).credit0 + vc0) ∧
      (t.tport p).credit1 = min 512 ((s.tport p).credit1 + vc1)) ∧
  (∀ (s : State) (p : Nat) (a : Rat), p < 8 → s.running = true → s.tUp p = true → (s.tport p).dryAt = some a →
    a + 100000 ≤ s.up → s.flag 0xA100 (0x100 + p) 28 = false →
    does (.creditStall p) s fun t => t.flag 0xA100 (0x100 + p) 28 = true ∧
      (t.source 0x123).count = satAdd 24 (s.source 0x123).count 1)

/-- R396, R398-R400, R403, R404: cells are counted where no stream takes them, and copied on under the next label; a tether
binding asks the origin for its stream; a refusal drops it, a broken path breaks it; STREAM_STATE reaches the inputs. -/
def Obligations.TetherStreamsRun : Prop :=
  (∀ (s : State) (p : Nat) (c : LinkCell), p < 8 → s.running = true → s.portHears p = true → s.tUp p = true →
    c.reserved = true ∨ s.tether.streams.find? (fun t => !t.pending && t.from_ == some (p, c.label)) = none →
    does (.tetherCellReceived p c) s fun t => t.elem 0xA100 (0x508 + p) = wrapAdd 32 (s.elem 0xA100 (0x508 + p)) 1) ∧
  (∀ (s : State) (p q l : Nat) (c : LinkCell) (st : Stream), p < 8 → s.running = true → s.portMute q = false →
    s.portHears p = true → s.tUp p = true → c.reserved = false →
    s.tether.streams.find? (fun t => !t.pending && t.from_ == some (p, c.label)) = some st → st.outs = [(q, l)] →
    0 < (s.tport q).credit (if s.flag 0xA100 q 19 then 1 else c.vc) →
    does (.tetherCellReceived p c) s fun t =>
      Emission.blocks q (linkBlocks { c with label := l, vc := if s.flag 0xA100 q 19 then 1 else c.vc }) ∈ t.emitted) ∧
  (∀ (s : State) (rq : Rq) (j : Nat) (v w : Word), j < 2048 → w = setBits v 31 28 3 → rq.fits w = true →
    isAccepted s.fresh rq opWrite 0x4000 j (valueBytes rq w) (tetherBind s.fresh j (valueBytes rq w)) →
    s.stream? (bindOrigin w).1 (bindOrigin w).2 = none →
    does (.tetherBindingWrite rq j v) s fun t => (t.remoteOf j).asked = some w ∧
      ∃ st ∈ t.tether.streams, st.node = (bindOrigin w).1 ∧ st.source = (bindOrigin w).2 ∧ st.pending = true ∧ j ∈ st.flows) ∧
  (∀ (s : State) (p q node source : Nat) (r : Reserved) (st : Stream), p < 8 → s.running = true → s.portHears p = true →
    s.tUp p = true → s.stream? node source = some st → st.pending = true → st.from_ = some (p, q) → r.reason ≠ 0 →
    does (.reserveReceived p (.answer node source r)) s fun t =>
      (∀ x ∈ t.tether.streams, ¬ (x.node = node ∧ x.source = source)) ∧
        ∀ j ∈ s.askingFlows st, (t.remoteOf j).asked = none) ∧
  (∀ (s : State) (p l node source : Nat) (broken : Bool) (st : Stream), p < 8 → s.running = true →
    s.portHears p = true → s.tUp p = true → s.stream? node source = some st → st.from_ = some (p, l) → (∀ k ∈ st.flows, k < 65536) →
    does (.reserveReceived p (.path node source broken)) s fun t => { st with broken := broken } ∈ t.tether.streams ∧
      ∀ j ∈ st.flows, j < 2048 → 2 ≤ s.field 0xA200 j 127 124 → t.field 0xA200 j 127 124 = if broken then 3 else 2) ∧
  (∀ (s : State) (p label j : Nat) (w : Word) (st : Stream), p < 8 → s.running = true → s.portHears p = true → s.tUp p = true →
    s.tether.streams.find? (fun t => !t.pending && t.from_ == some (p, label)) = some st → st.broken = false →
    j ∈ st.flows → j < 2048 → s.field 0xA200 j 127 124 = 2 → (∀ k ∈ st.flows, k < 2048) →
    does (.streamStateReceived p label w) s fun t => t.field 0x4300 (0x4000 + j) 31 26 = w % 64)

/-- R391, R405, R408, R411: a request for a mapped node leaves in fragments and waits for its answer, at most 1 ms; fragments
go on toward their target or are collected; a cascade take arms the banks; a CHANGEOVER record makes a standby claim. -/
def Obligations.TunnelAndCascade : Prop :=
  (∀ (s : State) (rq : Rq) (op idx sub : Nat) (payload : List Byte), s.takesUp rq = true →
    admitted rq.port rq.origin = true → rq.node ≠ s.elem 0x1000 0 →
    rq.node ≤ 255 → s.elem 0xA020 rq.node ≠ 0xFFFF → s.elem 0xA020 rq.node ≠ s.nodeId →
    (s.portToward (s.elem 0xA020 rq.node)).isSome = true →
    does (.tunnelRequest rq op idx sub payload) s fun t => ∃ x ∈ t.tether.tunnels, x.rq = rq ∧
      x.node = s.elem 0xA020 rq.node ∧ x.index = idx ∧ x.sub = sub ∧ x.at_ = s.up) ∧
  (∀ (s : State) (p q target source number : Nat) (last : Bool) (data : List Byte), p < 8 → s.running = true →
    s.portMute q = false → s.portHears p = true → s.tUp p = true → target ≠ s.nodeId → s.portToward target = some q →
    does (.tunnelFragmentReceived p target source number last data) s fun t => ∃ r, t.emitted = [.tether q r []]) ∧
  (∀ (s : State) (p source number : Nat) (data : List Byte), p < 8 → s.running = true → s.portHears p = true → s.tUp p = true →
    does (.tunnelFragmentReceived p s.nodeId source number false data) s fun t =>
      mapGet bytesD t.tether.parts source = (if number = 0 then [] else mapGet bytesD s.tether.parts source) ++ data) ∧
  (∀ (s : State) (x : Tunnel), s.running = true → s.tether.tunnels.find? (fun t => decide (t.at_ + 1000000 ≤ s.up)) = some x →
    does .tunnelTimeout s fun t => x ∉ t.tether.tunnels) ∧
  (∀ (s : State) (p plane scope origin session seq : Nat) (tp : Word) (force : Bool), p < 8 → s.running = true →
    s.portHears p = true → s.tUp p = true → s.cascadeOn = true → s.tether.flooded.contains (.take tp plane scope force origin session seq) = false →
    does (.cascadeRecordReceived p (.take tp plane scope force origin session seq)) s fun t =>
      (∀ b, b < 5 → bit scope b = true → bit s.bound b = true → (t.bank b).armed = true) ∧
        .take tp plane scope force origin session seq ∈ t.tether.flooded) ∧
  (∀ (s : State) (p scope origin session seq : Nat), p < 8 → s.running = true → s.portHears p = true → s.tUp p = true →
    s.cascadeOn = true → s.tether.flooded.contains (.abort scope origin session seq) = false →
    does (.cascadeRecordReceived p (.abort scope origin session seq)) s fun t =>
      ∀ e ∈ t.events, e.kind = 1 → e.fired = false → e.cascade = true → e.scope &&& scope = 0) ∧
  (∀ (s : State) (p : Nat), p < 8 → s.running = true → s.portHears p = true → s.tUp p = true → s.flag 0xA010 0 22 = true → s.mode = .standby →
    s.pair.ripIn = false → s.pair.claimOut = false →
    does (.changeoverRecordReceived p) s fun t => t.pair.claimOut = true ∧ t.pair.handover.isSome = true)

/-- R416-R418, R438-R441, R445: the claim and ripcord pins in every mode; a standby whose partner drops the claim pulls the
ripcord; a quench takes the claim away; a SOLO member claims; a handover completes at its TP. -/
def Obligations.PairClaims : Prop :=
  (∀ s : State, does .claimInRise s fun t => t.pair.claimIn = true ∧ t.pair.claimOut = false ∧
    (s.mode = .active → s.pair.claimOut = true → s.pair.handover = none → ∃ c, (c = 6 ∨ c = 7) ∧
      t.pair.handover = some (((((s.now + 2000) / 1000).ceil * 1000 : Int) : Rat), c))) ∧
  (∀ s : State, s.pair.claimOut = true →
    does .claimConflict s fun t => t.pair.claimIn = true ∧ t.pair.claimOut = !s.boot.sideB) ∧
  (∀ (s : State) (power : Bool), s.pair.heard = [] →
    does (.claimInFall power) s fun t => t.pair.claimIn = false ∧
      (s.running = true → s.mode = .standby → s.pair.claimOut = false → s.pair.ripIn = false →
        t.mode ≠ .standby ∧ t.pair.ripOut = true ∧ t.pair.lastChange = if power then 2 else 1)) ∧
  (∀ s : State, s.pair.ripIn = false →
    does .quench s fun t => t.pair.ripIn = true ∧ t.pair.claimOut = false ∧
      (s.running = true → s.mode = .active → t.mode ≠ .active ∧ t.pair.suspect = true ∧ t.pair.inStep = false)) ∧
  (∀ s : State, s.pair.ripIn = true →
    does .quenchRelease s fun t => t.pair.ripIn = false ∧ t.pair.suspect = (s.pair.suspect && s.mode != .standby)) ∧
  (∀ (s : State) (a : Rat), s.running = true → s.mode = .solo → s.paired = true → s.pair.claimOut = false →
    s.pair.claimIn = false → s.pair.ripIn = false → s.pair.claimInLowAt = some a → a + 1000 ≤ s.up →
    does .soloClaim s fun t => (t.pair.claimOut = true ∨ t.mode = .faulted) ∧ t.pair.lastChange = 8) ∧
  (∀ (s : State) (a : Rat) (c : Nat), s.running = true → s.pair.handover = some (a, c) → a ≤ s.now → s.pair.heard = [] →
    does .handoverTp s fun t => t.pair.handover = none ∧
      (s.mode = .standby → s.pair.claimOut = true → t.mode ≠ .standby) ∧
      (s.mode = .active → s.pair.claimOut = false → t.mode = .standby ∧ t.pair.role = 3)) ∧
  (∀ (s : State) (p : Nat), p < 8 → s.running = true → s.paired = true → s.portHears 8 = true → s.tUp p = true →
    s.mode = .standby → s.pair.ripIn = false → s.pair.claimOut = false →
    does (.changeoverRequestReceived p) s fun t => t.pair.claimOut = true ∧ t.pair.handover.isSome = true)

/-- R419, R420, R422, R430, R431, R436: heartbeats and their loss, the bridle's timelines, fault records, and a join from its
request to IN_STEP. -/
def Obligations.BridleRuns : Prop :=
  (∀ s : State, s.running = true → s.paired = true → s.bridleMute = false →
    does .heartbeatSend s fun t => t.emitted = [.bridle s.heartbeatWord []]) ∧
  (∀ (s : State) (w : Word), s.running = true → s.paired = true → s.portHears 8 = true → s.bridleUp = true →
    bits w 255 248 = 1 →
    does (.heartbeatReceived w) s fun t =>
      t.pair.partner = w ∧ t.pair.partnerHere = true ∧ t.pair.partnerAt = some s.up) ∧
  (∀ (s : State) (a : Rat), s.running = true → s.paired = true → s.pair.partnerHere = true → s.pair.partnerAt = some a →
    a + 64000 ≤ s.up → s.pair.heard = [] →
    does .heartbeatLost s fun t => t.pair.partnerHere = false ∧ (s.mode = .active → t.pair.inStep = false) ∧
      (s.mode = .standby → s.pair.ripIn = false → s.pair.claimOut = false → t.pair.ripOut = true ∧ t.pair.lastChange = 3)) ∧
  (∀ s : State, s.running = true → s.paired = true → s.holds = true → s.bridleMute = false →
    does .bridleTimelineSend s fun t => t.emitted = [.bridle (2 * 2 ^ 248 + setBits s.timelineBody 131 120 0) []]) ∧
  (∀ (s : State) (w : Word), s.running = true → s.paired = true → s.holds = false → s.portHears 8 = true →
    s.bridleUp = true → bits w 255 248 = 2 →
    does (.bridleTimelineReceived w) s fun t => mapGet ratD t.ref.srcAt 8 = s.up) ∧
  (∀ (s : State) (w : Word), s.running = true → s.paired = true → s.portHears 8 = true → bits w 255 248 = 8 →
    does (.faultRecordReceived w) s fun t => t.pair.partnerFaults = (w :: s.pair.partnerFaults).take 64 ∧
      t.pair.partnerSuspect = (s.pair.partnerSuspect || bits w 247 239 == 0x102)) ∧
  (∀ (s : State) (v : Nat), s.running = true → s.portHears 8 = true → s.paired = true → s.pair.claimOut = true →
    s.pair.ripOut = false →
    s.mode = .solo ∨ s.mode = .active → s.pair.partnerHere = true → s.sessionWith = some v →
    does .joinRequestReceived s fun t => t.mode = .active ∧ t.pair.joinPhase = 1 ∧ t.pair.inStep = false ∧
      t.pair.sessionVersion = v) ∧
  (∀ (s : State) (a : Rat), s.running = true → s.pair.joinAsked = some a → s.flag 0x9000 0 30 = true →
    a + 1000000000 ≤ s.up → s.mayAsk = true →
    does .joinRetry s fun t => t.pair.joinAsked = some s.up) ∧
  (∀ s : State, s.running = true → s.pair.joinPhase = 1 → s.mode = .standby → s.ref.tb = 2 → s.ref.selected = some 8 →
    does .joinSnapshot s fun t => t.pair.joinPhase = 2 ∧ t.pair.streamApplied = s.pair.partnerStream) ∧
  (∀ s : State, s.running = true → s.pair.joinPhase = 1 → s.mode = .active → s.pair.partnerRole = 2 → s.bridleMute = false →
    does .joinSnapshot s fun t => t.pair.joinPhase = 2 ∧ ∀ r ∈ stateRecords 0x00 s.dict, Emission.bridle r [] ∈ t.emitted) ∧
  (∀ (s : State) (w : Word) (r : DictRow), s.running = true → s.portHears 8 = true → s.mode = .standby → s.pair.inStep = false →
    s.pair.joinPhase = 2 → bits w 255 248 = 9 → bits w 247 240 < 3 →
    dictRow (bits w 239 208 / 65536) (bits w 239 208 % 65536) = some r → r.profile ≠ .m → r.kind ≠ .ro →
    does (.stateRecordApply w) s fun t => mapGet keyReset t.dict (bits w 239 208) =
      setPart (mapGet keyReset s.dict (bits w 239 208)) (bits w 247 240) (bits w 207 16)) ∧
  (∀ s : State, s.running = true → s.pair.joinPhase = 2 → s.pair.partnerHere = true →
    (s.mode = .standby ∧ ∃ a, s.pair.copiedAt = some a ∧ a + s.longestFill ≤ s.up) ∨
      (s.mode = .active ∧ s.pair.partnerRole = 3) →
    does .joinInStep s fun t => t.pair.inStep = true ∧ t.pair.joinPhase = 0)

/-- R424, R426, R428, R433, R434, R436, R438: the change stream keeps its numbers, and a gap puts the standby out of step;
decisions are kept and carried out; a DIGEST record's entry is compared with this member's own of the same
unit, and digests that agree end a run of mismatches; relayed frames. -/
def Obligations.StandbyFollows : Prop :=
  (∀ (s : State) (c : ChangeRecord), s.running = true → s.portHears 8 = true → s.mode = .standby → s.pair.inStep = true →
    (c.seq + 2 ^ 32 - s.pair.streamApplied) % 2 ^ 32 = 1 → s.now ≤ (c.time : Rat) + 2000 →
    does (.changeRecordApply c) s fun t => t.pair.streamApplied = c.seq % 2 ^ 32) ∧
  (∀ (s : State) (c : ChangeRecord), s.running = true → s.portHears 8 = true → s.mode = .standby → s.pair.inStep = true →
    1 < (c.seq + 2 ^ 32 - s.pair.streamApplied) % 2 ^ 32 → (c.seq + 2 ^ 32 - s.pair.streamApplied) % 2 ^ 32 < 2 ^ 31 →
    does (.changeRecordApply c) s fun t => t.pair.inStep = false ∧ t.pair.streamApplied = s.pair.streamApplied ∧
      ∀ i j, i ≠ 0x1001 → j < 0x8000 → t.elem i j = s.elem i j) ∧
  (∀ (s : State) (w : Word), s.running = true → s.portHears 8 = true → s.mode = .standby → s.pair.inStep = true →
    bits w 255 248 = 6 →
    s.pair.decisions.contains w = false →
    does (.decisionRecordApply w) s fun t => w ∈ t.pair.decisions ∧
      (bits w 247 240 = 2 → bits w 239 224 < 2048 → bindKind (s.inBind (bits w 239 224)) ≠ 0 →
        t.inState (bits w 239 224) = if s.synced (bits w 239 224) then 3 else 2)) ∧
  (∀ (s : State) (w a : Word), s.running = true → s.portHears 8 = true → s.mode = .standby → s.pair.inStep = true →
    s.pair.partnerDigests = [] →
    s.pair.ownDigests.find? (fun x => x / 2 ^ 40 == bits w 239 160 / 2 ^ 40) = some a → digUnit a < 4 →
    (bits a 31 0 = bits w 191 160 ∨
      (mapGet compareD s.pair.compares (s.compared a).1).run + 1 < s.field 0x9020 0 29 22) →
    does (.digestCompare 1 w) s fun t => (mapGet compareD t.pair.compares (s.compared a).1).run =
      if bits a 31 0 = bits w 191 160 then 0 else (mapGet compareD s.pair.compares (s.compared a).1).run + 1) ∧
  (∀ (s : State) (frame : List Byte), s.running = true → s.portHears 8 = true → s.paired = true → s.bridleUp = true →
    hdrOpcode (ofBytes (frame.take 16)) = 7 →
    does (.relayFrameReceived frame) s fun t => t = finishWaiting s.fresh 0x9040 0 stOk frame) ∧
  (∀ (s : State) (frame : List Byte), s.running = true → s.portHears 8 = true → s.paired = true → s.bridleUp = true →
    hdrOpcode (ofBytes (frame.take 16)) = opRead → frameBad frame false = false →
    does (.relayFrameReceived frame) s fun t => t = { (readElement s.fresh { headerRq .relay 0xFFF 0 frame with origin := 5 }
      (hdrIndex (ofBytes (frame.take 16))) (hdrSub (ofBytes (frame.take 16)))) with pending := s.pending })

/-- R415, R418, R433, R442, R446: commands to a member ask to join, release the ripcord and clear SUSPECT; a frame is relayed
to the partner; a drill waits for its TP and swaps the roles where both members are ready. -/
def Obligations.PairCommanded : Prop :=
  (∀ (s : State) (rq : Rq) (v : Word), rq.fits (setBit v 0 true) = true → s.mayAsk = true →
    isAccepted s.fresh rq opWrite 0x9000 1 (valueBytes rq (setBit v 0 true)) (pairCommand s.fresh (valueBytes rq (setBit v 0 true))) →
    does (.join rq v) s fun t => t.pair.joinAsked = some s.up) ∧
  (∀ (s : State) (rq : Rq) (v : Word), rq.fits (setBit v 1 true) = true →
    isAccepted s.fresh rq opWrite 0x9000 1 (valueBytes rq (setBit v 1 true)) (pairCommand s.fresh (valueBytes rq (setBit v 1 true))) →
    does (.release rq v) s fun t => t.pair.ripOut = false) ∧
  (∀ (s : State) (rq : Rq) (v : Word), rq.fits (setBit v 2 true) = true →
    isAccepted s.fresh rq opWrite 0x9000 1 (valueBytes rq (setBit v 2 true)) (pairCommand s.fresh (valueBytes rq (setBit v 2 true))) →
    does (.clearSuspect rq v) s fun t => t.pair.suspect = false) ∧
  (∀ (s : State) (rq : Rq) (frame : List Byte), s.bridleMute = false →
    isAccepted s.fresh rq opWrite 0x9040 0 frame (relayHandler s.fresh frame) →
    does (.partnerRelay rq frame) s fun t =>
      Emission.bridle (0x0A * 2 ^ 248 + 0x03 * 2 ^ 240) frame ∈ t.emitted ∧ ∃ w ∈ t.req.waiting, w.rq = rq ∧ w.index = 0x9040) ∧
  (∀ (s : State) (rq : Rq) (v : Word), rq.fits v = true →
    isAccepted s.fresh rq opWrite 0x9030 0 (valueBytes rq v) (drillHandler s.fresh rq (valueBytes rq v)) →
    does (.drill rq v) s fun t => ∃ e : Event, t.events = s.events ++ [e] ∧ e.kind = 4 ∧ e.plane = bits v 15 8 ∧
      (bits v 79 16 ≠ 0 → e.tp = bits v 79 16)) ∧
  (∀ (s : State) (e : Event), s.running = true → s.dueEvent [4] = some e → s.paired = true → s.pair.inStep = true →
    s.pair.partnerHere = true → s.pair.ripIn = false → s.pair.partnerMode ≠ 6 → s.mode = .active →
    does .drillFire s fun t => t.mode = .standby ∧ t.pair.drillResult = 1 ∧ t.pair.lastChange = 5) ∧
  (∀ (s : State) (e : Event), s.running = true → s.dueEvent [4] = some e → s.paired = false →
    does .drillFire s fun t => t.pair.drillResult = 2 ∧ t.mode = s.mode)

/-- R448, R452, R453, R464-R468: a field-port frame that passes its filter is buffered, one that a standby hears is kept, a
bad one is counted; the card port's SEND, RECEIVE, STATUS and unknown commands; a WAKE frame raises MAIN_PWR_EN in DORMANT
and is counted elsewhere. -/
def Obligations.DumusFramesTaken : Prop :=
  (∀ (s : State) (dst src : Nat) (frame : List Byte), s.running = true → s.portRuns .dumusA = true →
    dst = s.elem 0x1001 1 ∨ dst = dumusMac .dumusA → hdrOpcode (ofBytes (frame.take 16)) ≠ 8 →
    frameBad frame true = false →
    s.nodeTaken (hdrNode (ofBytes (frame.take 16))) = true → s.mode ≠ .standby →
    queueBytes s.req.bufA + (frame.take (24 + hdrLength (ofBytes (frame.take 16)))).length ≤ 16384 →
    does (.dumusFrameReceived .dumusA dst (s.field 0x1001 0 15 0) src false true frame) s fun t =>
      t.req.bufA = s.req.bufA ++ [frame.take (24 + hdrLength (ofBytes (frame.take 16)))]) ∧
  (∀ (s : State) (src : Nat) (frame : List Byte), s.running = true → s.portRuns .dumusB = true →
    s.mode = .standby → frame.length = 24 + hdrLength (ofBytes (frame.take 16)) → frameBad frame true = false →
    hdrOpcode (ofBytes (frame.take 16)) = opWrite → s.nodeTaken (hdrNode (ofBytes (frame.take 16))) = true →
    does (.dumusFrameReceived .dumusB (dumusMac .dumusB) (s.field 0x1001 0 15 0) src false true frame) s fun t =>
      ∃ h : Heard, t.pair.heard = s.pair.heard ++ [h] ∧ h.rq = headerRq .dumusB 0xFFF src frame ∧ h.at_ = s.up) ∧
  (∀ (s : State) (src : Nat) (frame : List Byte), s.running = true → s.portRuns .dumusA = true →
    does (.dumusFrameReceived .dumusA (s.elem 0x1001 1) (s.field 0x1001 0 15 0) src false false frame) s fun t =>
      t.elem 0x1001 0x112 = wrapAdd 32 (s.elem 0x1001 0x112) 1 ∧ t.req = s.req) ∧
  (∀ (s : State) (frame : List Byte), s.running = true → 24 ≤ frame.length → frame.length ≤ 1048 →
    queueBytes s.req.bufCard + frame.length ≤ 16384 → frameBad frame false = false →
    s.nodeTaken (hdrNode (ofBytes (frame.take 16))) = true →
    does (.cardSend frame.length frame (crc32c (toBytes 2 frame.length ++ frame))) s fun t =>
      t.req.bufCard = s.req.bufCard ++ [frame]) ∧
  (∀ (s : State) (length : Nat) (frame : List Byte) (crc : Word), s.running = true → frame.length = length →
    24 ≤ length → length ≤ 1048 → crc ≠ crc32c (toBytes 2 length ++ frame) →
    does (.cardSend length frame crc) s fun t =>
      t.elem 0x1001 0x102 = wrapAdd 32 (s.elem 0x1001 0x102) 1 ∧ t.req = s.req) ∧
  (∀ s : State, s.running = true →
    does .cardReceive s fun t => t.req.outQueue = s.req.outQueue.drop 1 ∧ t.emitted = [.card
      (toBytes 2 (s.req.outQueue.headD []).length ++ s.req.outQueue.headD [] ++
        toBytes 4 (crc32c (toBytes 2 (s.req.outQueue.headD []).length ++ s.req.outQueue.headD [])))]) ∧
  (∀ s : State, s.running = true →
    does .cardStatus s fun t => t.emitted = [.card (toBytes 4 s.cardWord)] ∧ t.req = s.req) ∧
  (∀ (s : State) (code : Nat), s.running = true → code ∉ [0x5A, 0xA5, 0x3C, 0xC3, 0x96] →
    does (.unknownCardCommand code) s fun t =>
      t.elem 0x1001 0x103 = wrapAdd 32 (s.elem 0x1001 0x103) 1 ∧ t.req = s.req ∧ t.emitted = []) ∧
  (∀ (s : State) (p : Port) (frame : List Byte), p = .dumusA ∨ p = .dumusB → s.mode = .dormant →
    hdrVersion (ofBytes (frame.take 16)) = 1 → hdrOpcode (ofBytes (frame.take 16)) = 8 →
    hdrNode (ofBytes (frame.take 16)) = s.wake.node → hdrLength (ofBytes (frame.take 16)) = 6 → s.wake.code ≠ 0 →
    ofBytes (framePayload frame) = s.wake.code → 30 ≤ frame.length →
    does (.wake p frame) s fun t => t.boot.mainPwrEn = true ∧ t.boot.inReset = true) ∧
  (∀ (s : State) (frame : List Byte), s.running = true →
    does (.wake .dumusA frame) s fun t => t.elem 0x1001 0x11C = wrapAdd 32 (s.elem 0x1001 0x11C) 1)

/-- R24, R452, R454, R456, R458-R461: an accepted READ is answered with its data, an accepted BLOCK_READ with a NOTIFY that
carries them; an accepted WRITE takes effect and its answer is kept; a block of elements takes effect whole; the first frame
of a block transfer opens it. -/
def Obligations.RequestsAnswered : Prop :=
  (∀ (s : State) (rq : Rq) (idx sub : Nat), rq.port = .card → s.takesUp rq = true →
    requestStatus (judged s.fresh rq opRead idx sub []) rq opRead idx sub [] {} = stOk →
    ((judged s.fresh rq opRead idx sub []).elemBytes rq.shadow idx sub).length ≤ 8 →
    queueBytes s.req.outQueue + 32 ≤ 16384 →
    does (.read rq idx sub) s fun t => t.req.outQueue = s.req.outQueue ++
      [answerFrame s 9 stOk rq idx sub ((judged s.fresh rq opRead idx sub []).elemBytes rq.shadow idx sub)]) ∧
  (∀ (s : State) (rq : Rq) (idx sub : Nat) (payload : List Byte), rq.port ≠ .stream → s.takesUp rq = true →
    requestStatus (judged s.fresh rq opBlockRead idx sub payload) rq opBlockRead idx sub payload
      (blockReadChecks s.fresh rq idx sub payload) = stOk →
    does (.blockRead rq idx sub payload) s fun t => ∃ n ∈ t.req.notifies, n.rq = rq ∧ n.index = idx ∧ n.sub = sub ∧
      n.status = stOk ∧
      n.data = ((judged s.fresh rq opBlockRead idx sub payload).blockData rq idx sub payload).take 1024) ∧
  (∀ (s : State) (rq : Rq) (payload : List Byte),
    isAccepted s.fresh rq opWrite 0x1000 0 payload (elementHandler s.fresh rq 0x1000 0 payload) → rq.seq < 65536 →
    does (.write rq 0x1000 0 payload) s fun t => t.elem 0x1000 0 = ofBytes payload ∧ t.answered rq = some (stOk, [])) ∧
  (∀ (s : State) (rq : Rq) (sub k : Nat) (payload : List Byte), rq.first = true → rq.last = true → k ≤ 32 → sub + k ≤ 32 →
    payload.length = 16 * k → s.takesUp rq = true →
    (∀ st data, (judged s.fresh rq opBlockWrite 0xC100 sub payload).seen rq ≠ .again st data) →
    requestStatus (judged s.fresh rq opBlockWrite 0xC100 sub payload) rq opBlockWrite 0xC100 sub payload
      (blockChecks 0xC100 sub payload).1 = stOk →
    (blockCommit rq 0xC100 sub (chunks 16 k payload) (judged s.fresh rq opBlockWrite 0xC100 sub payload) false).2.1 = none →
    does (.blockWrite rq 0xC100 sub payload) s fun t =>
      ∀ i, i < k → t.elem 0xC100 (sub + i) = ofBytes ((payload.drop (16 * i)).take 16)) ∧
  (∀ (s : State) (rq : Rq) (idx sub : Nat) (payload : List Byte), rq.first = true → rq.last = false →
    takesTransfer idx sub = true → idx ≠ 0x7210 → s.req.transfers = [] → s.takesUp rq = true →
    (∀ st data, (judged s.fresh rq opBlockWrite idx sub payload).seen rq ≠ .again st data) →
    requestStatus (judged s.fresh rq opBlockWrite idx sub payload) rq opBlockWrite idx sub payload
      (frameChecks (judged s.fresh rq opBlockWrite idx sub payload) rq idx sub payload) = stOk →
    does (.blockWrite rq idx sub payload) s fun t => t.req.transfers =
      [{ rq := rq, index := idx, sub := sub, nextSeq := (rq.seq + 1) % 65536, data := payload, last := s.up }])

/-- R427, R447, R450, R454, R457, R460, R473, R480: NOTIFYs are repeated, ended and abandoned, replies tried again, idle
transfers abandoned; requests that a standby heard are looked for in the stream; keys are stored and log entries released; a
refused crossbar access is counted. -/
def Obligations.NotifiesAndControls : Prop :=
  (∀ (s : State) (rq : Rq) (idx sub : Nat), s.takesUp rq = true → s.tagFails rq opPendingDone idx sub [] = false →
    admitted rq.port rq.origin = true →
    does (.pendingDone rq idx sub) s fun t => ∀ n ∈ t.req.notifies,
      ¬ (n.rq.origin = rq.origin ∧ n.rq.session = rq.session ∧ n.rq.seq = rq.seq)) ∧
  (∀ (s : State) (n : Notify), s.running = true → s.req.notifies = [n] → n.last + 1000000 ≤ s.up →
    does (.notifyResend n.rq.origin n.rq.session n.rq.seq) s fun t => t.req.notifies =
      if 8 ≤ n.sends then [] else [{ n with sends := n.sends + 1, last := s.up }]) ∧
  (∀ (s : State) (d : Deferred), s.running = true → s.req.deferred = [d] →
    does (.replyBackoffRetry d.port true) s fun t => t.req.deferred =
      if 16 ≤ d.attempts + 1 then [] else [{ d with attempts := d.attempts + 1 }]) ∧
  (∀ (s : State) (d : Deferred), s.running = true → s.req.deferred = [d] → s.fieldReplies = true →
    s.portRuns d.port = true →
    does (.replyBackoffRetry d.port false) s fun t =>
      t.req.deferred = [] ∧ t.emitted = [.dumus d.port d.dst d.frame]) ∧
  (∀ (s : State) (tr : Transfer), s.running = true → s.req.transfers = [tr] → tr.last + 1000000000 ≤ s.up →
    tr.index ≠ 0x7210 →
    does (.blockTransferAbandon tr.index tr.sub none) s fun t => t.req.transfers = []) ∧
  (∀ (s : State) (h : Heard), s.running = true → s.mode = .standby → s.pair.heard = [h] → h.at_ + 20000 ≤ s.up →
    does (.requestsMissingFromStream h.rq.origin h.rq.session h.rq.seq) s fun t => t.pair.heard = [] ∧
      t.elem 0x9010 6 = if s.pair.streamed.contains (h.rq.origin, h.rq.session, h.rq.seq) then s.elem 0x9010 6
        else wrapAdd 32 (s.elem 0x9010 6) 1) ∧
  (∀ (s : State) (rq : Rq) (sub : Nat) (payload : List Byte),
    isAccepted s.fresh rq opWrite 0x1020 sub payload (keyHandler rq sub payload) →
    does (.keyWrite rq sub payload) s fun t => mapGet natD t.keys.session sub = ofBytes payload) ∧
  (∀ (s : State) (rq : Rq) (v : Word), rq.fits v = true → s.logFull = false →
    isAccepted s.fresh rq opWrite 0x1200 3 (valueBytes rq v) (releaseHandler s.fresh (valueBytes rq v)) →
    does (.logRelease rq v) s fun t => ∀ e ∈ s.log.entries, s.logAge e.entry ≤ s.logAge v → e ∉ t.log.entries) ∧
  (∀ (s : State) (master target : Nat), master < 12 → s.running = true → crossbarGrants target master = false →
    does (.crossbarAccessError master target) s fun t =>
      (t.source 0x00D).count = satAdd 24 (s.source 0x00D).count 1)

/-- R285, R286, R469, R484-R486: the card port reads and writes a window's bytes; an accepted capture or insert waits for its
START, begins there, and ends at its count or its stop. -/
def Obligations.WindowsRun : Prop :=
  (∀ (s : State) (w off n : Nat), w < 16 → s.running = true → off + n ≤ s.winSize w → (s.window w).state ≠ 2 →
    does (.windowRead w off n) s fun t => t.emitted = [.card (s.readWin w off n)] ∧ t.winBytes = s.winBytes) ∧
  (∀ (s : State) (w off : Nat) (data : List Byte), w < 16 → s.running = true → off + data.length ≤ s.winSize w →
    (s.window w).state ≠ 2 →
    does (.windowWrite w off data) s fun t => t.readWin w off data.length = data ∧
      ∀ a, a < off ∨ off + data.length ≤ a → mapGet byteD (mapGet winD t.winBytes w) a = mapGet byteD (mapGet winD s.winBytes w) a) ∧
  (∀ (s : State) (rq : Rq) (w : Nat) (v : Word), rq.fits (setBits v 191 188 1) = true →
    isAccepted s.fresh rq opWrite 0x1300 w (valueBytes rq (setBits v 191 188 1))
      (windowHandler s.fresh w (valueBytes rq (setBits v 191 188 1))) →
    does (.windowCapture rq w v) s fun t => (t.window w).state = 1 ∧ (t.window w).command = setBits v 191 188 1 ∧
      (t.window w).done = 0) ∧
  (∀ (s : State) (rq : Rq) (w : Nat) (v : Word), rq.fits (setBits v 191 188 2) = true →
    isAccepted s.fresh rq opWrite 0x1300 w (valueBytes rq (setBits v 191 188 2))
      (windowHandler s.fresh w (valueBytes rq (setBits v 191 188 2))) →
    does (.windowInsert rq w v) s fun t => (t.window w).state = 1 ∧ (t.window w).command = setBits v 191 188 2 ∧
      (t.window w).done = 0) ∧
  (∀ (s : State) (rq : Rq) (w : Nat) (v : Word), rq.fits (setBits v 191 188 3) = true → s.winBusy w = true →
    isAccepted s.fresh rq opWrite 0x1300 w (valueBytes rq (setBits v 191 188 3))
      (windowHandler s.fresh w (valueBytes rq (setBits v 191 188 3))) →
    does (.windowStop rq w v) s fun t => (t.window w).stopping = true ∧ (t.window w).state = (s.window w).state) ∧
  (∀ (s : State) (w : Nat), w < 16 → s.running = true → (s.window w).state = 1 →
    s.tpTime (winPlane (s.window w).command) (s.window w).startTp ≤ s.now →
    does (.windowOperationStart w) s fun t => t.window w = { s.window w with state := 2 }) ∧
  (∀ (s : State) (w : Nat), w < 16 → s.running = true → (s.window w).state = 2 → winOp (s.window w).command = 2 →
    s.insertNext w = none → s.dmaStopped = false →
    does (.windowOperationEnd w none) s fun t => (t.window w).state = if (s.window w).stopping then 4 else 3) ∧
  (∀ (s : State) (w : Nat), w < 16 → s.running = true → (s.window w).state = 2 → winOp (s.window w).command = 1 →
    s.winAudio w = true → (s.window w).stopping = true → s.dmaStopped = false →
    does (.windowOperationEnd w none) s fun t => (t.window w).state = 4 ∧
      t.readWin w 0 16 = toBytes 16 (s.captureHeader w)) ∧
  (∀ (s : State) (w : Nat) (h : DmaHalt), w < 16 → s.running = true → (s.window w).state = 2 → h.channel ∉ s.faults.dmaHalted →
    does (.windowOperationEnd w (some h)) s fun t => (t.window w).state = 5 ∧ h.channel ∈ t.faults.dmaHalted ∧
      (t.source 0x00C).count = satAdd 24 (s.source 0x00C).count 1)

/-- R512, R514, R515, R518, R519: mode requests; the way into DORMANT at 10 ms and 20 ms; a FATAL declaration takes the device
to FAULTED. -/
def Obligations.ModesChange : Prop :=
  (∀ (s : State) (rq : Rq), rq.fits 2 = true →
    isAccepted s.fresh rq opWrite 0x0011 0 (valueBytes rq 2) (modeHandler s.fresh (valueBytes rq 2)) →
    does (.requestService rq) s fun t => t.mode = .service) ∧
  (∀ (s : State) (rq : Rq), rq.fits 3 = true →
    isAccepted s.fresh rq opWrite 0x0011 0 (valueBytes rq 3) (modeHandler s.fresh (valueBytes rq 3)) →
    does (.requestSolo rq) s fun t => t.mode = .solo) ∧
  (∀ (s : State) (rq : Rq), rq.fits 0 = true → s.boot.dormantAt = none →
    isAccepted s.fresh rq opWrite 0x0011 0 (valueBytes rq 0) (modeHandler s.fresh (valueBytes rq 0)) →
    does (.requestDormant rq) s fun t => t.boot.dormantAt = some s.up ∧ t.mode = s.mode) ∧
  (∀ (s : State) (a : Rat), s.running = true → s.boot.dormantAt = some a → a + 10000000 ≤ s.up →
    does .dormantPrepare s fun t => t = { s with emitted := [], wake :=
      { node := s.elem 0x1000 0, group := s.elem 0x1001 1, etherType := s.field 0x1001 0 15 0, code := s.keys.wakeCode } }) ∧
  (∀ (s : State) (a : Rat), s.running = true → s.boot.dormantAt = some a → a + 20000000 ≤ s.up →
    does .dormantPowerDown s fun t => t.mode = .dormant ∧ t.boot.mainPwrEn = false ∧ t.boot.dormantAt = none ∧
      t.dict = s.dict) ∧
  (∀ (s : State) (n : Nat) (detail : Word), n < 512 → n ≠ 0 → s.running = true → s.sourceClass n = 2 →
    does (.fatalDeclaration n detail) s fun t => t.mode = .faulted ∧
      (t.source n).count = satAdd 24 (s.source n).count 1 ∧ (s.mode ≠ .faulted → t.pair.claimOut = false ∧ t.moves = []))

/-- R418, R523-R527: power-up of the dies, the sequence's time limit and its retry, the loss of PWR_GOOD_IN, PORST_N and its
release, power-down. -/
def Obligations.PowerSequenced : Prop :=
  (∀ s : State, does .exairPowerOn s fun t => t = { s with emitted := [], boot := { s.boot with exOn := true } }) ∧
  (∀ s : State, s.boot.exOn = true → s.boot.mainPwrEn = false → s.mode ≠ .dormant →
    does .mainPowerEnable s fun t => t = { s with emitted := [], boot := { s.boot with mainPwrEn := true } }) ∧
  (∀ s : State, s.boot.exOn = true → s.boot.mainPwrEn = false → s.mode ≠ .dormant →
    does .powerSequenceRetry s fun t => t = { s with emitted := [], boot := { s.boot with mainPwrEn := true } }) ∧
  (∀ s : State, s.boot.mainPwrEn = true → s.boot.inReset = true →
    does .powerSequenceTimeout s fun t => t = { s with emitted := [], boot := { s.boot with
      mainPwrEn := false, pendingAlarms := s.boot.pendingAlarms ++ [(0x004, 0)] } }) ∧
  (∀ (s : State) (kept : Bool), s.boot.mainPwrEn = true → s.boot.inReset = false →
    does (.powerGoodLost kept) s fun t => t.boot.inReset = true ∧ (0x005, 0) ∈ t.boot.pendingAlarms ∧
      t.pair.claimOut = false ∧ t.pair.ripOut = false ∧ t.log = if kept then s.log else {}) ∧
  (∀ s : State, s.mode ≠ .dormant →
    does .porstAssert s fun t => t = { s with
      emitted := []
      boot := { s.boot with inReset := true, dormantAt := none }
      pair := { s.pair with claimOut := false, ripOut := false, handover := none } }) ∧
  (∀ s : State, s.mode = .dormant →
    does .porstNRisesInDormant s fun t => t.boot.mainPwrEn = true ∧ t.boot.inReset = true ∧ t.mode = .dormant) ∧
  (∀ (s : State) (nodeSel : Nat) (sideB kept : Bool), s.boot.inReset = true → s.boot.exOn = true → s.boot.mainPwrEn = true →
    s.boot.pendingAlarms.contains (0x005, 0) = false → s.boot.stageState ≠ 1 →
    does (.porstRelease nodeSel sideB kept) s fun t => t.mode = .boot ∧ t.boot.phase = .selfCheck ∧ t.now = 0 ∧
      t.boot.resets = (s.boot.resets + 1) % 2 ^ 16 ∧ t.elem 0x1000 0 = nodeSel % 64 ∧ t.elem 0xA000 0 = nodeSel % 64 ∧
      t.boot.slotA = s.boot.slotA ∧ t.boot.slotB = s.boot.slotB ∧ t.keys = s.keys ∧
      t.dbg.openings = s.dbg.openings ∧ t.boot.sideB = sideB) ∧
  (∀ s : State, does .powerDown s fun t => t.boot.mainPwrEn = false ∧ t.boot.exOn = false ∧ t.boot.inReset = true ∧
    t.log = {} ∧ t.keys = s.keys ∧ t.boot.slotA = s.boot.slotA ∧ t.boot.slotB = s.boot.slotB)

/-- R521, R531-R534, R540, R544: the boot from the self-check over the slot's verification, the start of the components and
the installation of the stored configuration to its end in SERVICE, in SOLO or in the wait for a partner. -/
def Obligations.BootRuns : Prop :=
  (∀ s : State, s.booting .selfCheck = true →
    does (.selfCheckComplete none) s fun t => t.boot.selfCheckOk = true ∧ t.boot.phase = .verify ∧
      (s.boot.slotA.state = 4 → s.boot.slotA.next = true → s.boot.slotB.next = false → t.boot.chosen = some 0)) ∧
  (∀ (s : State) (m : Nat), s.booting .selfCheck = true →
    does (.selfCheckComplete (some m)) s fun t => t.boot.phase = .stuck ∧ t.mode = .boot ∧
      (t.source 0x000).count = satAdd 24 (s.source 0x000).count 1) ∧
  (∀ s : State, s.booting .verify = true → verifyImage s.bootImage = none →
    does .slotVerifyComplete s fun t => t.boot.phase = .start 1 ∧ t.boot.running = s.boot.chosen) ∧
  (∀ (s : State) (n reason component : Nat), s.booting .verify = true → verifyImage s.bootImage = some (reason, component) →
    s.boot.chosen = some n → n < 2 →
    does .slotVerifyComplete s fun t => (t.slot n).state = 5 ∧ (t.slot n).reason = reason ∧
      (t.slot n).component = component ∧ t.boot.inReset = true ∧
      ((s.slot (1 - n)).state = 4 → (t.slot (1 - n)).next = true)) ∧
  (∀ (s : State) (i : Nat), s.running = true → s.mode = .boot → s.boot.phase = .start i → mayStart s.bootImage i = true →
    does .componentStart s fun t => t = { s with emitted := [], boot := { s.boot with phase := .waitReady i } }) ∧
  (∀ (s : State) (i n : Nat), s.running = true → s.mode = .boot → s.boot.phase = .start i → mayStart s.bootImage i = false →
    s.boot.chosen = some n → n < 2 →
    does .componentStart s fun t => (t.slot n).state = 5 ∧ (t.slot n).reason = 5 ∧ (t.slot n).component = i) ∧
  (∀ (s : State) (i : Nat), s.running = true → s.mode = .boot → s.boot.phase = .waitReady i →
    does .componentReady s fun t => t.boot.phase = if 5 ≤ i then .install else .start (i + 1)) ∧
  (∀ (s : State) (i n : Nat), s.running = true → s.mode = .boot → s.boot.phase = .waitReady i → s.boot.chosen = some n → n < 2 →
    does .componentReadyTimeout s fun t => (t.slot n).state = 5 ∧ (t.slot n).reason = 6 ∧ t.boot.inReset = true) ∧
  (∀ s : State, s.booting .install = true → s.savedCopy = none →
    does .configInstall s fun t => t = { s with emitted := [], boot := { s.boot with phase := .ready } }) ∧
  (∀ (s : State) (c : Saved), s.booting .install = true → s.savedCopy = some c →
    installFails (installAll { s.fresh with boot := { s.boot with phase := .ready } } c) c = true →
    does .configInstall s fun t => t.dict = s.dict ∧ t.boot.installed = false ∧ t.boot.auto = false ∧
      (0x00A, 0) ∈ t.boot.pendingAlarms) ∧
  (∀ (s : State) (c : Saved), s.booting .install = true → s.savedCopy = some c →
    installFails (installAll { s.fresh with boot := { s.boot with phase := .ready } } c) c = false →
    does .configInstall s fun t => t.boot.installed = true ∧ t.moves = []) ∧
  (∀ s : State, s.booting .ready = true → (s.boot.installed && s.boot.auto && !s.boot.recovery) = false →
    (∀ a ∈ s.boot.pendingAlarms, s.sourceClass a.1 ≠ 2) →
    does .bootEnd s fun t => t.mode = .service ∧ t.boot.pendingAlarms = []) ∧
  (∀ s : State, s.booting .ready = true → (s.boot.installed && s.boot.auto && !s.boot.recovery) = true →
    s.lanesReady = true ∨ 5500000000 ≤ s.up → (∀ a ∈ s.boot.pendingAlarms, s.sourceClass a.1 ≠ 2) →
    does .bootEnd s fun t => t.boot.pendingAlarms = [] ∧ (s.paired = false → t.mode = .solo) ∧
      (s.paired = true → s.pair.partnerHere = false → t.boot.phase = .bridleWait ∧ t.boot.enabledAt = some s.up)) ∧
  (∀ (s : State) (a : Rat), s.booting .bridleWait = true → s.boot.enabledAt = some a → a + 500000000 ≤ s.up →
    does .bootPartnerWaitEnd s fun t => t.mode = .solo ∧ t.boot.phase = .ended)

/-- R535-R543: a staging from its request to the spare slot, or to its failure; the confirmation of a trial and its time
limit; saving, erasing and the good slot. -/
def Obligations.UpdatesAndSaves : Prop :=
  (∀ (s : State) (rq : Rq) (path : List Byte),
    isAccepted s.fresh rq opWrite 0xD020 0 path (stageHandler s.fresh path) →
    does (.stagePackage rq path) s fun t => t.boot.stageState = 1 ∧ t.boot.stagePath = path ∧
      (t.slot s.spareSlot).state = 1) ∧
  (∀ (s : State) (file img : List Byte), s.running = true → s.boot.stageState = 1 →
    stagedImage file (match s.boot.running with
      | some n => (s.slot n).image
      | none => []) = img → file.length ≤ pkgMax → img.length ≤ pkgMax → s.dmaStopped = false →
    does (.stagingComplete file) s fun t => t.boot.stageState = 2 ∧
      t.slot s.spareSlot = { state := 2, next := true, image := img } ∧ (t.slot (1 - s.spareSlot)).next = false) ∧
  (∀ (s : State) (r : Nat), s.running = true → s.boot.stageState = 1 → 1 ≤ r → r ≤ 6 →
    does (.stagingFailure r none) s fun t => t.boot.stageState = 3 ∧ t.boot.stageResult = r ∧
      t.slot s.spareSlot = { state := 0, reason := 9 }) ∧
  (∀ (s : State) (rq : Rq) (v : Word) (n : Nat), rq.fits v = true → s.boot.running = some n → n < 2 →
    isAccepted s.fresh rq opWrite 0xD010 0 (valueBytes rq v) (healthHandler s.fresh (valueBytes rq v)) →
    does (.healthConfirm rq v) s fun t => t.boot.health = none ∧ (t.slot n).state = 4 ∧ (t.slot n).boots = 0 ∧
      (t.slot n).next = true ∧ (t.slot (1 - n)).next = false) ∧
  (∀ (s : State) (a : Rat) (n : Nat), s.running = true → s.boot.health = some a → s.boot.running = some n → n < 2 →
    a + 600000000000 ≤ s.up →
    does .healthConfirmTimeout s fun t => (t.slot n).state = 5 ∧ (t.slot n).reason = 7 ∧ (t.slot n).next = false ∧
      t.boot.inReset = true ∧ (0x009, n) ∈ t.boot.pendingAlarms) ∧
  (∀ (s : State) (rq : Rq), rq.fits 1 = true →
    isAccepted s.fresh rq opWrite 0xD030 1 (valueBytes rq 1) (configCommand s.fresh (valueBytes rq 1)) →
    does (.configSave rq) s fun t =>
      t.boot.saving = some (judged s.fresh rq opWrite 0xD030 1 (valueBytes rq 1)).configSnapshot) ∧
  (∀ (s : State) (rq : Rq), rq.fits 2 = true →
    isAccepted s.fresh rq opWrite 0xD030 1 (valueBytes rq 2) (configCommand s.fresh (valueBytes rq 2)) →
    does (.configErase rq) s fun t => t.boot.erasing = true) ∧
  (∀ s : State, s.running = true → s.boot.erasing = true →
    does .configSaveComplete s fun t => t.boot.erasing = false ∧ t.savedCopy = none) ∧
  (∀ (s : State) (x : Saved), s.running = true → s.boot.erasing = false → s.boot.saving = some x → x.size ≤ 4194304 →
    does .configSaveComplete s fun t => t.boot.saving = none ∧ ∃ n, t.savedCopy = some { x with seq := n }) ∧
  (∀ (s : State) (rq : Rq) (n : Nat), rq.fits 3 = true → s.boot.running = some n → n < 2 →
    isAccepted s.fresh rq opWrite 0xD030 1 (valueBytes rq 3) (configCommand s.fresh (valueBytes rq 3)) →
    does (.selectGoodSlot rq) s fun t => (t.slot (1 - n)).next = true ∧ (t.slot n).next = false)

/-- R548-R551: a scrub read moves on, counts what it finds and asks for a write-back, which ends it; a lap starts the next. -/
def Obligations.MemoryScrubbed : Prop :=
  (∀ (s : State) (m a : Nat), m < 24 → s.running = true →
    does (.eccWriteback m a) s fun t => (m, a) ∉ t.faults.writebacks ∧
      ∀ w ∈ s.faults.writebacks, w ≠ (m, a) → w ∈ t.faults.writebacks) ∧
  (∀ (s : State) (m : Nat) (e : ScrubError), m < 24 → s.running = true →
    does (.scrubRead m e) s fun t => mapGet natD t.faults.scrubAddr m = mapGet natD s.faults.scrubAddr m + 1) ∧
  (∀ (s : State) (m : Nat), m < 24 → s.running = true →
    does (.scrubRead m .corrected) s fun t => t.elem 0xB200 m = wrapAdd 32 (s.elem 0xB200 m) 1 ∧
      (m, mapGet natD s.faults.scrubAddr m) ∈ t.faults.writebacks ∧
      (t.source 0x00F).count = satAdd 24 (s.source 0x00F).count 1) ∧
  (∀ (s : State) (m : Nat), m < 24 → s.running = true →
    does (.scrubRead m .uncorrectable) s fun t => t.elem 0xB200 (0x20 + m) = wrapAdd 32 (s.elem 0xB200 (0x20 + m)) 1 ∧
      (m ≤ 3 → (t.source 0x00E).count = satAdd 24 (s.source 0x00E).count 1)) ∧
  (∀ (s : State) (m : Nat), m < 24 → s.running = true →
    does (.scrubLapEnd m) s fun t => mapGet natD t.faults.scrubAddr m = 0 ∧ mapGet ratD t.faults.lapStart m = s.up ∧
      t.elem 0xB300 m = min 0xFFFFFFFE (s.lapTime m / 1000000).floor.toNat)

/-- R15, R552-R554, R558, R560, R572, R586: a fatal fault on the inter-die link source after 10 µs without delivery; a transfer sent again changes nothing. Forcing a source and clearing its alarm; temperature and clock conditions; licence
tokens. -/
def Obligations.FaultsDeclared : Prop :=
  (∀ s : State, s.running = true → s.boot.exOn = true →
    does .interDieLinkTimeout s fun t =>
      (t.source 0x001).count = satAdd 24 (s.source 0x001).count 1 ∧ (s.sourceClass 0x001 = 2 → t.mode = .faulted)) ∧
  (∀ s : State, does .interDieResend s fun t => t = s.fresh) ∧
  (∀ (s : State) (rq : Rq) (n : Nat) (v : Word), rq.fits v = true → v = 1 →
    isAccepted s.fresh rq opWrite 0xB020 n (valueBytes rq v) (forceHandler s.fresh rq n (valueBytes rq v)) →
    does (.faultForce rq n v) s fun t => (t.source n).forced = true ∧
      (t.source n).count = satAdd 24 (s.source n).count 1 ∧ (s.sourceClass n = 1 → (t.source n).alarm = true)) ∧
  (∀ (s : State) (rq : Rq) (n : Nat) (v : Word), rq.fits v = true → bit v 31 = true →
    isAccepted s.fresh rq opWrite 0xB010 n (valueBytes rq v) (sourceStateHandler s.fresh n (valueBytes rq v)) →
    does (.alarmClear rq n v) s fun t => (t.source n).alarm = false ∧
      (t.source n).count = if bits v 23 0 = 0 then 0 else (s.source n).count) ∧
  (∀ (s : State) (a : Rat) (t0 : Int), s.running = true → 1050 < t0 → t0 ≤ 1250 → s.faults.hot = some a →
    a + 1000000000 ≤ s.up → (s.source 0x007).active = false →
    does (.thermalSensorRead t0) s fun t => (t.source 0x007).active = true ∧ t.fieldBank.tj = t0 ∧
      (t.source 0x007).count = satAdd 24 (s.source 0x007).count 1) ∧
  (∀ (s : State) (t0 : Int), s.running = true → t0 ≤ 1050 →
    does (.thermalSensorRead t0) s fun t => (t.source 0x007).active = false ∧ (t.source 0x008).active = false ∧
      t.fieldBank.tj = t0 ∧ t.faults.hot = none) ∧
  (∀ s : State, s.running = true → (s.source 0x006).active = false →
    does (.thermAlert true) s fun t => (t.source 0x006).active = true ∧ t.fieldBank.therm = true ∧
      (t.source 0x006).count = satAdd 24 (s.source 0x006).count 1) ∧
  (∀ s : State, s.running = true →
    does (.thermAlert false) s fun t => (t.source 0x006).active = false ∧ t.fieldBank.therm = false) ∧
  (∀ s : State, s.running = true →
    does .oscInFailed s fun t => (t.source 0x002).count = satAdd 24 (s.source 0x002).count 1) ∧
  (∀ (s : State) (rq : Rq) (slot : Nat) (payload : List Byte),
    isAccepted s.fresh rq opWrite 0xE010 slot payload (licenceHandler slot payload) →
    does (.licenceTokenWrite rq slot payload) s fun t => mapGet natD t.keys.tokens slot = ofBytes payload)

/-- R559-R565: rearming; a freeze by the pin, by a scheduled entry and after a FATAL declaration; scheduling and cancelling
it. -/
def Obligations.FreezesTaken : Prop :=
  (∀ (s : State) (rq : Rq) (v : Word), rq.fits (setBit v 29 true) = true →
    isAccepted s.fresh rq opWrite 0xB400 0 (valueBytes rq (setBit v 29 true))
      (freezeControl s.fresh (valueBytes rq (setBit v 29 true))) →
    does (.rearm rq v) s fun t => t.faults.firstFatal = none) ∧
  (∀ s : State, s.flag 0xB400 0 31 = false → s.mode ≠ .dormant → s.mode ≠ .frozen → s.boot.inReset = false →
    does .freezePin s fun t => t.mode = .frozen ∧ t.faults.lastFreeze = 1 ∧ t.faults.frozenMode = some s.mode ∧
      t.now = s.now ∧ t.dict = s.dict) ∧
  (∀ (s : State) (rq : Rq) (arg : Word), rq.fits (setBit arg 0 false) = true →
    isAccepted s.fresh rq opWrite 0xB400 1 (valueBytes rq (setBit arg 0 false))
      (freezeHandler s.fresh rq (valueBytes rq (setBit arg 0 false))) →
    does (.freezeSchedule rq arg) s fun t => ∃ e : Event, t.events = s.events ++ [e] ∧ e.kind = 5 ∧
      e.plane = bits arg 15 8 ∧ (bits arg 79 16 ≠ 0 → e.tp = bits arg 79 16)) ∧
  (∀ (s : State) (rq : Rq) (arg : Word), rq.fits (setBit arg 0 true) = true →
    isAccepted s.fresh rq opWrite 0xB400 1 (valueBytes rq (setBit arg 0 true))
      (freezeHandler s.fresh rq (valueBytes rq (setBit arg 0 true))) →
    does (.freezeCancel rq arg) s fun t => ∀ e ∈ t.events, e.kind = 5 → e.fired = true) ∧
  (∀ (s : State) (e : Event), s.running = true → s.dueEvent [1, 2, 3, 4] = none → s.dueEvent [5] = some e →
    does .scheduledFreeze s fun t => t.mode = .frozen ∧ t.faults.lastFreeze = 2 ∧
      t.events = s.events.filter fun x => x.order != e.order) ∧
  (∀ (s : State) (a : Rat), s.running = true → s.faults.fatalAt = some a → a + 1000 ≤ s.up → s.flag 0xB400 0 30 = true →
    does .freezeOnFatal s fun t => t.mode = .frozen ∧ t.faults.lastFreeze = 3)

/-- R566-R570: TRST_N and the debug port's instructions: each loads, and its data register does what its rule says; opening,
a refused response, and an access of the debug master. -/
def Obligations.DebugPortRuns : Prop :=
  (∀ s : State, does .trstReset s fun t => t = { s with emitted := [], dbg := { s.dbg with ir := 0x02 } }) ∧
  (∀ s : State, does .extest s fun t =>
    t = { s with emitted := [], dbg := { s.dbg with ir := if s.debugOpen then 0x00 else 0xFF } }) ∧
  (∀ s : State, does .samplePreload s fun t => t.dbg.ir = 0x01 ∧ t.dbg.scan = s.drawn Config.boundaryLength) ∧
  (∀ s : State, does .idcode s fun t => t.dbg.ir = 0x02 ∧ t.emitted = [.tdo (toBytes 4 idcodeWord)]) ∧
  (∀ (s : State) (code : Nat), does (.bypass code) s fun t =>
    t.dbg.ir = (if s.irAllowed code then code else 0xFF) ∧ t.emitted = []) ∧
  (∀ (s : State) (n : Nat), s.mode = .frozen →
    does (.captureRead n) s fun t => t.dbg.stream = s.dbg.stream + n ∧ ∃ l, t.emitted = [.stream l] ∧ l.length = n) ∧
  (∀ (s : State) (n : Nat), s.mode ≠ .frozen →
    does (.captureRead n) s fun t => t = { s with emitted := [], dbg := { s.dbg with ir := 0xFF } }) ∧
  (∀ (s : State) (id : Nat), s.mode = .frozen →
    does (.captureSeek id) s fun t => t.dbg.stream = 8 * sectionStart id) ∧
  (∀ s : State, does .lifecycle s fun t => t.dbg.ir = 0x20 ∧ t.emitted = [.tdo (toBytes 16 s.lifecycleWord)]) ∧
  (∀ s : State, s.lifecycle = 1 → s.opens = true → s.dbg.failures < 4 →
    does .openChallenge s fun t => ∃ c, t.dbg.challenge = some c ∧ t.emitted = [.tdo c] ∧ c.length = 140) ∧
  (∀ (s : State) (sig c : List Byte), s.lifecycle = 1 → s.opens = true → s.dbg.openings < 32 →
    s.dbg.challenge = some c → signatureOk Config.debugAuthorityKey c sig = true →
    does (.openResponse sig none) s fun t => t.dbg.openings = s.dbg.openings + 1 ∧ t.keys = {} ∧ t.dbg.lastOpen = 1) ∧
  (∀ (s : State) (sig c : List Byte) (failing : Option Nat), s.lifecycle = 1 → s.opens = true → s.dbg.openings < 32 →
    s.dbg.challenge = some c → signatureOk Config.debugAuthorityKey c sig = false →
    does (.openResponse sig failing) s fun t => t.dbg.challenge = none ∧ t.dbg.failures = s.dbg.failures + 1 ∧
      t.dbg.lastOpen = 2 ∧ t.dbg.openings = s.dbg.openings ∧ t.keys = s.keys) ∧
  (∀ (s : State) (address : Nat) (data : Word), s.debugOpen = true → s.running = true →
    does (.debugAccess true 1 address data) s fun t =>
      t.dbg.access = 2 ^ 71 + address % 2 ^ 32 * 2 ^ 32 + data % 2 ^ 32 ∧ t.emitted = [.tdo (toBytes 9 s.dbg.access)]) ∧
  (∀ (s : State) (w : Bool) (address : Nat) (data : Word), s.debugOpen = true → s.running = true →
    does (.debugAccess w 3 address data) s fun t =>
      t.dbg.access = 2 ^ 71 + 2 ^ 64 + address % 2 ^ 32 * 2 ^ 32 ∧
        (t.source 0x00D).count = satAdd 24 (s.source 0x00D).count 1) ∧
  (∀ (s : State) (idx sub : Nat) (v data : Word), idx < 65536 → sub < 65536 → s.debugOpen = true → s.running = true →
    (shiftOut 9 s.dbg.access { s.fresh with dbg := { s.dbg with ir := 0x30 } }).debugRead idx sub = some v →
    does (.debugAccess false 0 (idx * 65536 + sub) data) s fun t =>
      t.dbg.access = 2 ^ 71 + (idx * 65536 + sub) * 2 ^ 32 + v % 2 ^ 32)

/-- R571: RELOCK with 0xA5 returns an OPENED device to FIELD-LOCKED, disconnects the debug master, makes a new identity key,
blows the next relock fuse and logs OLD 0x02 and NEW 0x01; the keys, the wake code and the tokens stay as they are; any other
value does nothing but load the instruction. With no session key installed, a request of a tagged class is refused with
AUTH_FAIL. -/
def Obligations.RelockCloses : Prop :=
  (∀ (s : State) (v : Word), s.lifecycle = 2 → s.dbg.openings = s.dbg.relocks + 1 → v % 256 = 0xA5 →
    does (.relock v) s fun t => t.lifecycle = 1 ∧ t.debugOpen = false ∧ t.dbg.relocks = s.dbg.relocks + 1 ∧
      t.keys = { s.keys with identity := some (BitVec.ofNat 256 (s.drawn 256)) } ∧
      (s.logFull = false → ∃ e ∈ t.log.entries, e.index = 0xE000 ∧ e.sub = 0 ∧ e.kind = 2 ∧ e.old = logValue 1 0x02 ∧
        e.new = logValue 1 0x01)) ∧
  (∀ (s : State) (v : Word), s.lifecycle = 2 → v % 256 ≠ 0xA5 →
    does (.relock v) s fun t => t = { s with emitted := [], dbg := { s.dbg with ir := 0x23 } }) ∧
  (∀ (s : State) (rq : Rq) (op idx sub : Nat) (payload : List Byte) (c : Checks), s.keys.session = [] →
    s.mode ≠ .faulted → rq.port ≠ .stream → s.needsTag op rq.origin = true →
    requestStatus s rq op idx sub payload c = stAuth)

/-- R592, R595, R596, R599-R603: the field bank's lines: measuring and accepting inputs, the outputs' readback, contention, overcurrent, open loads, the supply, tally rules and the field ports' lines. -/
def Obligations.FieldBankRuns : Prop :=
  (∀ (s : State) (n ohms : Nat), n < 32 → s.running = true → s.sensed n = true →
    does (.fieldInputMeasure n ohms) s fun t => t.fline n = { s.fline n with
      value := min 0xFFFF (ohms / 10), runSt := loopState (s.elem 0xC000 n) ohms
      runLen := if (s.fline n).runSt = loopState (s.elem 0xC000 n) ohms ∧ 0 < (s.fline n).runLen then (s.fline n).runLen + 1
        else 1 }) ∧
  (∀ (s : State) (n : Nat), n < 32 → s.running = true → s.sensed n = true → s.mirrored = false →
    (s.fline n).runSt ≠ (s.fline n).st → 4 * s.field 0xC000 n 27 22 + 1 ≤ (s.fline n).runLen →
    does (.fieldInputAccept n) s fun t => (t.fline n).st = (s.fline n).runSt ∧
      t.elem 0xC300 n = wrapAdd 32 (s.elem 0xC300 n) 1) ∧
  (∀ (s : State) (n volts : Nat), n < 32 → s.running = true → s.lineMode n = 2 →
    does (.fieldOutputReadback n volts) s fun t => (t.fline n).value = min 0xFFFF volts) ∧
  (∀ (s : State) (n : Nat) (a : Rat), n < 32 → s.running = true → (s.fline n).mismatchAt = some a → a + 10000000 ≤ s.up →
    (s.fline n).contention = false → (s.fline n).latched = none →
    does (.contentionDeclare n) s fun t => (t.fline n).contention = true ∧
      (t.source 0x141).count = satAdd 24 (s.source 0x141).count 1) ∧
  (∀ (s : State) (n : Nat) (a : Rat), n < 32 → s.running = true → (s.fline n).matchAt = some a → a + 10000000 ≤ s.up →
    (s.fline n).latched = none →
    does (.contentionClear n) s fun t => (t.fline n).contention = false) ∧
  (∀ (s : State) (n : Nat), n < 32 → s.running = true → s.outputLive n = true → (s.fline n).st = 6 →
    (s.fline n).latched = none →
    does (.outputOvercurrent n) s fun t => (t.fline n).latched.isSome = true ∧ (t.fline n).st = 5 ∧
      t.elem 0xC300 n = wrapAdd 32 (s.elem 0xC300 n) 1 ∧ (t.source 0x140).count = satAdd 24 (s.source 0x140).count 1) ∧
  (∀ (s : State) (n : Nat) (a : Rat) (atLimit : Bool), n < 32 → s.running = true → s.outputLive n = true →
    s.commanded n = true → (s.fline n).latched = some a → a ≤ s.up →
    does (.overcurrentRetry n atLimit) s fun t =>
      (t.fline n).latched = (if atLimit then some (s.up + 100000000) else none) ∧
        (t.fline n).st = if atLimit then 5 else 6) ∧
  (∀ (s : State) (n : Nat) (a : Rat), n < 32 → s.running = true → (s.fline n).openAt = some a → a + 100000000 ≤ s.up →
    (s.fline n).openLoad = false →
    does (.openLoadDeclare n) s fun t => (t.fline n).openLoad = true ∧
      (t.source 0x142).count = satAdd 24 (s.source 0x142).count 1) ∧
  (∀ (s : State) (n : Nat) (a : Rat), n < 32 → s.running = true → (s.fline n).loadAt = some a → a + 100000000 ≤ s.up →
    does (.openLoadClear n) s fun t => (t.fline n).openLoad = false) ∧
  (∀ (s : State) (v : Int), s.running = true → 110 ≤ v →
    does (.vfieldCheck v) s fun t => t.fieldBank.vfState = 1 ∧ t.fieldBank.volts = v) ∧
  (∀ (s : State) (v : Int) (a : Rat), s.running = true → v < 105 → -10 ≤ v → s.fieldBank.lowAt = some a →
    a + 10000000 ≤ s.up → s.fieldBank.vfState = 1 →
    does (.vfieldCheck v) s fun t => t.fieldBank.vfState = 2 ∧
      (t.source 0x143).count = satAdd 24 (s.source 0x143).count 1 ∧
      ∀ n, n < 32 → s.lineMode n = 1 → (t.fline n).st = 0) ∧
  (∀ (s : State) (rq : Rq) (n : Nat) (v : Word), rq.fits v = true →
    isAccepted s.fresh rq opWrite 0xC100 n (valueBytes rq v) (ruleHandler s.fresh n (valueBytes rq v)) →
    does (.tallyRuleWrite rq n v) s fun t => t.elem 0xC100 n = v) ∧
  (∀ (s : State) (p mv : Nat), p < 2 → s.running = true → (s.fieldPort p).stuck = false → 600 ≤ mv → mv ≤ 1400 →
    does (.fieldPortLineCheck p mv) s fun t => (t.fieldPort p).low = 0 ∧ (t.fieldPort p).high = 0 ∧
      (t.fieldPort p).good = (s.fieldPort p).good + 1 ∧ ((s.fieldPort p).st = 0 → (t.fieldPort p).st = 1)) ∧
  (∀ (s : State) (p mv : Nat), p < 2 → s.running = true → (s.fieldPort p).stuck = false → mv < 300 →
    (s.fieldPort p).low = 2 → (s.fieldPort p).st ≠ 3 →
    does (.fieldPortLineCheck p mv) s fun t => (t.fieldPort p).st = 3 ∧
      (t.source 0x145).count = satAdd 24 (s.source 0x145).count 1) ∧
  (∀ (s : State) (p : Nat), p < 2 → s.running = true → (s.fieldPort p).stuck = false →
    does (.fieldPortStuck p) s fun t => (t.fieldPort p).stuck = true ∧
      (t.source 0x145).count = satAdd 24 (s.source 0x145).count 1) ∧
  (∀ (s : State) (p : Nat), p < 2 → s.running = true →
    does (.fieldPortStuckClear p) s fun t => t.fieldPort p = { s.fieldPort p with stuck := false })

/-- R594: an accepted write to 0xC000 applies at its commit, with no move. A change of MODE holds the line, at high impedance,
for 1 ms: no state of the line changes while it is held, and at the end of the hold, not before, the state is unknown, with
nothing fired. A write that leaves MODE as it is starts any debounce again. -/
def Obligations.LineModeChanges : Prop :=
  (∀ (s : State) (rq : Rq) (n : Nat) (v : Word), rq.fits v = true →
    isAccepted s.fresh rq opWrite 0xC000 n (valueBytes rq v) (lineHandler s.fresh n (valueBytes rq v)) →
    does (.fieldLineConfigWrite rq n v) s fun t => t.elem 0xC000 n = v ∧ t.moves = s.moves ∧
      (bits v 31 30 ≠ s.lineMode n → t.fline n = { value := (s.fline n).value, hold := some (s.up + 1000000) }) ∧
      (bits v 31 30 = s.lineMode n → t.fline n = { s.fline n with runSt := 0, runLen := 0 })) ∧
  (∀ (s : State) (n : Nat), (s.fline n).hold.isSome = true →
    s.sensed n = false ∧ s.outputLive n = false ∧ (settleLines s).fline n = s.fline n) ∧
  (∀ (s : State) (n : Nat) (a : Rat), n < 32 → s.running = true → (s.fline n).hold = some a → a ≤ s.up →
    does (.fieldLineHoldEnd n) s fun t => (t.fline n).hold = none ∧ t.events = s.events ∧
      (holdEnd s n).fline n = { s.fline n with hold := none, st := 0 } ∧
      (s.lineMode n ≠ 2 → t.fline n = { s.fline n with hold := none, st := 0 })) ∧
  (∀ (s : State) (n : Nat) (a : Rat), n < 32 → s.running = true → (s.fline n).hold = some a → s.up < a →
    does (.fieldLineHoldEnd n) s fun t => t.fline n = s.fline n)

/-- A step takes the command at the front of the queue and gives it its effect, with the rest of the queue in its place; with
none waiting one core cycle passes (the model's own choice, log entry 4). -/
def Obligations.StepTakesFront : Prop :=
  (∀ (c : Instr) (rest : List Instr) (s : State), step { s with pending := c :: rest } = exec c { s with pending := rest }) ∧
  (∀ s : State, s.pending = [] → step s = coreCycle s) ∧
  (∀ s : State, s.pending = [] → s.running = true → ∃ t, step s = .next t ∧ t.now = s.now + s.cycleNs) ∧
  (∀ s : State, s.pending = [] → s.running = false → step s = .next s.fresh)

/-- Every well-formed command completes and leaves the queue as it is; so a machine in which every waiting command is
well-formed never stops, stays such a machine, and each step takes one command. -/
def Obligations.SafeMachineGoesOn : Prop :=
  (∀ (c : Instr) (s : State), c.wf = true → ∃ t, exec c s = .next t ∧ t.pending = s.pending) ∧
  (∀ s : State, s.safe = true → ∃ t, step s = .next t ∧ t.safe = true ∧ t.pending = s.pending.tail) ∧
  (∀ s : State, s.safe = true → ∃ u : Nat → State, u 0 = s ∧ (∀ n, step (u n) = .next (u (n + 1)) ∧ (u n).safe = true) ∧
    (u s.pending.length).pending = [])

/-- R12, R13: a refused write leaves every element as it was but the Dumus counters and the admission report 0x5300:8, and
every route, flow, mode and queue entry; its status is that of the first check that fails. -/
def Obligations.RefusedInOrder : Prop :=
  (∀ (s : State) (rq : Rq) (idx sub st : Nat) (payload : List Byte),
    isRefused s.fresh rq opWrite idx sub payload (elementHandler s.fresh rq idx sub payload) st →
    (∀ u, (elementHandler s.fresh rq idx sub payload).refused st u = u) →
    does (.write rq idx sub payload) s fun t =>
      (∀ i j, i ≠ 0x1001 → ¬ (i = 0x5300 ∧ j = 8) → j < 65536 → t.elem i j = s.elem i j) ∧
        t.mode = s.mode ∧ t.events = s.events ∧ t.moves = s.moves ∧ t.shadow = s.shadow ∧ t.blobs = s.blobs ∧
        t.keys = s.keys ∧ t.boot = s.boot ∧ t.windows = s.windows ∧ t.recent = s.recent) ∧
  (∀ (s : State) (rq : Rq) (op idx sub st : Nat) (payload : List Byte) (c : Checks), st ≠ stOk →
    requestStatus s rq op idx sub payload c = st →
    ∃ k, (checkList s rq op idx sub payload c)[k]? = some (true, st) ∧
      ∀ (i : Nat) (x : Bool × Nat), i < k → (checkList s rq op idx sub payload c)[i]? = some x → x.1 = false)

/-- R12, R17, R510, R519, R563: in FROZEN and in DORMANT, no command but the release of PORST_N changes the mode, device time,
an element, a plane, a lane, an input's cells, or what the request path holds; the loss of the rails alone ends DORMANT (R526),
and a start follows it. -/
def Obligations.StandingMachineHolds : Prop :=
  ∀ (c : Instr) (s t : State), s.mode = .frozen ∨ s.mode = .dormant → exec c s = .next t →
    (∀ n b k, c ≠ .porstRelease n b k) →
    t.mode = (if c = .powerDown ∧ s.mode = .dormant then .boot else s.mode) ∧ t.now = s.now ∧ t.dict = s.dict ∧
      t.planes = s.planes ∧ t.lanes = s.lanes ∧ t.cells = s.cells ∧ t.req = s.req

/-- R451-R453: the header that the device builds is read back field by field, with its payload and its tag. -/
def Obligations.HeaderRoundTrip : Prop :=
  ∀ (rq : Rq) (p : Port) (tnode src op idx sub : Nat) (payload : List Byte), rq.wf = true → payload.length = rq.len →
    1 ≤ op → op ≤ 6 ∨ op = 0xA → idx < 65536 → sub < 65536 →
    ∃ frame, frame = headerBytes op 0 rq idx sub rq.len rq.typ ++ payload ++ toBytes 8 rq.tag ∧
      frame.length = 24 + rq.len ∧ frameBad frame false = false ∧
      headerRq p tnode src frame = { rq with port := p, tnode := tnode, src := src } ∧
      hdrOpcode (ofBytes (frame.take 16)) = op ∧ hdrIndex (ofBytes (frame.take 16)) = idx ∧
      hdrSub (ofBytes (frame.take 16)) = sub ∧ framePayload frame = payload

/-- The state after reset, as the spec gives it: BOOT, the self-check next, the counters and device time at zero, no event,
no move, no command waiting; and values that the spec writes out. -/
def Obligations.ResetState : Prop :=
  State.reset.mode = .boot ∧ State.reset.boot.phase = .selfCheck ∧ State.reset.now = 0 ∧ State.reset.safe = true ∧
    State.reset.running = true ∧ State.reset.pending = [] ∧ State.reset.events = [] ∧ State.reset.moves = [] ∧
    (∀ i j, State.reset.elem i j = keyReset (ekey i j)) ∧ (∀ i j, State.reset.shadowElem i j = keyReset (ekey i j)) ∧
    State.reset.pair.claimOut = false ∧ State.reset.pair.ripOut = false ∧ State.reset.lifecycle = 1 ∧
    mkTp 1000 21 2048 = 0x0000_0003_E801_5800 ∧ idcodeWord = Config.mediaRev.toNat * 2 ^ 28 + 0x02048B4D

/-- What the commands of the Dumus ports and of the debug port leave as they were, whenever they answer a next state: a
read, a card command, a field-port frame, a repetition and a PENDING_DONE touch the request path and the counters at 0x1001
alone (a frame that a standby hears is kept with the pair's records, and one that wakes a DORMANT device begins its start); the debug port's reading instructions touch the port
and the free values alone. -/
def Obligations.PortsFramed : Prop :=
  (∀ (s t : State) (c : Instr) (rq : Rq) (p : Port) (idx sub n m o : Nat) (b : Bool) (frame : List Byte),
    c = .read rq idx sub ∨ c = .blockRead rq idx sub frame ∨ c = .cardSend n frame m ∨ c = .cardReceive ∨ c = .cardStatus ∨
      c = .unknownCardCommand n ∨ c = .pendingDone rq idx sub ∨ c = .notifyResend n m o ∨ c = .replyBackoffRetry p b ∨
      c = .dumusFrameReceived p n m o b true frame ∨ c = .dumusFrameReceived p n m o b false frame →
    exec c s = .next t →
    t = { s with dict := t.dict, req := t.req, pair := t.pair, boot := t.boot, emitted := t.emitted } ∧
      (s.mode ≠ .dormant → t.boot = s.boot) ∧
      (∀ i j, i ≠ 0x1001 → j < 65536 → t.elem i j = s.elem i j) ∧
      ((∀ x y z w u f, c ≠ .dumusFrameReceived x y z w u true f) → t.pair = s.pair)) ∧
  (∀ (s t : State) (c : Instr) (n : Nat),
    c = .trstReset ∨ c = .extest ∨ c = .samplePreload ∨ c = .idcode ∨ c = .bypass n ∨ c = .captureRead n ∨ c = .captureSeek n ∨
      c = .lifecycle ∨ c = .openChallenge →
    exec c s = .next t →
    t = { s with dbg := t.dbg, free := t.free, emitted := t.emitted } ∧ t.dbg.openings = s.dbg.openings ∧
      t.dbg.relocks = s.dbg.relocks)

/-- What the field bank's commands and the fault conditions leave as they were, whenever they answer a next state: a line's
own commands touch the field bank alone, and the ACTIVE bit of a source none of whose lines has its condition any more; a declaration touches beside it what an entry to FAULTED does, and no element but
the counters at 0xC300; writes of a line's configuration and of a tally rule change that element alone. -/
def Obligations.FieldBankFramed : Prop :=
  (∀ (s t : State) (c : Instr) (n x : Nat) (b : Bool),
    c = .fieldLineHoldEnd n ∨ c = .fieldInputMeasure n x ∨ c = .fieldOutputReadback n x ∨ c = .overcurrentRetry n b ∨
      c = .contentionClear n ∨ c = .openLoadClear n ∨ c = .fieldPortStuckClear n →
    exec c s = .next t →
    t = { s with fieldBank := t.fieldBank, faults := t.faults, emitted := [] } ∧
      t.faults = { s.faults with src := t.faults.src } ∧
      ∀ k, t.source k = s.source k ∨ (0x140 ≤ k ∧ k ≤ 0x145 ∧ t.source k = { s.source k with active := false })) ∧
  (∀ (s t : State) (c : Instr) (n x : Nat) (v : Int) (b : Bool),
    c = .contentionDeclare n ∨ c = .outputOvercurrent n ∨ c = .openLoadDeclare n ∨ c = .vfieldCheck v ∨
      c = .fieldPortLineCheck n x ∨ c = .fieldPortStuck n ∨ c = .thermAlert b ∨ c = .thermalSensorRead v ∨ c = .oscInFailed ∨
      c = .interDieLinkTimeout ∨ c = .crossbarAccessError n x ∨ c = .fatalDeclaration n x →
    exec c s = .next t →
    t = { s with
      mode := t.mode, dict := t.dict, emitted := t.emitted, events := t.events, banks := t.banks, moves := t.moves
      req := t.req, log := t.log, faults := t.faults, boot := t.boot, pair := t.pair, windows := t.windows
      spools := t.spools, ins := t.ins, cells := t.cells, fieldBank := t.fieldBank } ∧
      (t.mode = s.mode ∨ t.mode = .faulted) ∧
      ∀ i j, i ≠ 0x1001 → i ≠ 0xC300 → j < 0x8000 → t.elem i j = s.elem i j) ∧
  (∀ (s t : State) (c : Instr) (rq : Rq) (n : Nat) (v : Word),
    c = .fieldLineConfigWrite rq n v ∨ c = .tallyRuleWrite rq n v → c.wf = true → exec c s = .next t →
    t = { s with
      dict := t.dict, recent := t.recent, emitted := t.emitted, req := t.req, log := t.log, pair := t.pair
      faults := t.faults, fieldBank := t.fieldBank } ∧
      t.faults = { s.faults with src := t.faults.src } ∧
      (∀ i j, i ≠ 0x1001 → ¬ ((i = 0xC000 ∨ i = 0xC100) ∧ j = n) → j < 65536 → t.elem i j = s.elem i j) ∧
      t.pair.claimOut = s.pair.claimOut)

/-- What the commands of the reference selection, the DPLL, PTP and the planes leave as it was. -/
def Obligations.TimingFramed : Prop := ∀ (c : Instr) (s t : State), c.wf = true → exec c s = .next t →
  match c with
  | .ballastSecondRecord | .frameOutPulse | .phaseMeasurement _ _ _ | .ppsOutPulse =>
    t = { s with ref := t.ref, emitted := t.emitted }
  | .dpllLocked =>
    t = { s with log := t.log, faults := t.faults, ref := t.ref, emitted := t.emitted }
  | .refselSchedule _ _ =>
    t = { s with
      dict := t.dict, events := t.events, order := t.order, req := t.req, log := t.log, pair := t.pair
      emitted := t.emitted } ∧ stands s t [0x1001, 0x2200, 0x5300]
  | .candidateLoss _ _ | .candidatePresent _ _ _ _ | .candidateQualify _ | .lossOfLock | .ptpAnnounceTimeout _ |
    .ptpMessageReceived _ _ _ =>
    framed t { s with
      dict := t.dict, log := t.log, faults := t.faults, pair := t.pair, ref := t.ref, rx := t.rx, tx := t.tx
      emitted := t.emitted } ∧ stands s t [0x1001, 0x2120]
  | .manualClear _ _ =>
    framed t { s with
      dict := t.dict, req := t.req, log := t.log, faults := t.faults, pair := t.pair, ref := t.ref, rx := t.rx
      tx := t.tx, emitted := t.emitted } ∧ stands s t [0x1001, 0x2120, 0x5300]
  | .refselFire =>
    framed t { s with
      dict := t.dict, events := t.events, log := t.log, faults := t.faults, pair := t.pair, ref := t.ref, rx := t.rx
      tx := t.tx, emitted := t.emitted } ∧ stands s t [0x1001, 0x2120]
  | .candidateConfigWrite _ _ _ | .priorityTableWrite _ _ _ =>
    framed t { s with
      dict := t.dict, recent := t.recent, req := t.req, log := t.log, faults := t.faults, pair := t.pair, ref := t.ref
      rx := t.rx, tx := t.tx, emitted := t.emitted } ∧ stands s t [0x1001, 0x2100, 0x2110, 0x2120, 0x5300]
  | .dpllCapture =>
    t = { s with
      dict := t.dict, planes := t.planes, events := t.events, banks := t.banks, req := t.req, log := t.log
      pair := t.pair, ref := t.ref, rx := t.rx, tx := t.tx, tether := t.tether, emitted := t.emitted } ∧ stands s t [0x1001]
  | _ => True

/-- What the lane commands leave as it was. -/
def Obligations.LanesFramed : Prop := ∀ (c : Instr) (s t : State), c.wf = true → exec c s = .next t →
  match c with
  | .idleMarkerReceived _ _ =>
    t = { s with dict := t.dict, emitted := t.emitted } ∧ stands s t [0x3200]
  | .synthesiserRelockAttempt _ =>
    t = { s with synths := t.synths, emitted := t.emitted }
  | .electricalIdleEnter _ =>
    t = { s with dict := t.dict, lanes := t.lanes, emitted := t.emitted } ∧ stands s t [0x3200]
  | .lolClear _ =>
    t = { s with dict := t.dict, faults := t.faults, emitted := t.emitted } ∧ stands s t [0x3200]
  | .adaptationComplete _ =>
    t = { s with free := t.free, dict := t.dict, lanes := t.lanes, emitted := t.emitted } ∧ stands s t [0x3200, 0x3300]
  | .losClear _ | .txShortProbe _ _ =>
    t = { s with dict := t.dict, faults := t.faults, lanes := t.lanes, emitted := t.emitted } ∧ stands s t [0x3200]
  | .lolDeclare _ =>
    framed t { s with dict := t.dict, log := t.log, faults := t.faults, pair := t.pair, emitted := t.emitted } ∧
     stands s t [0x1001, 0x3200, 0x3400]
  | .electricalIdleExit _ | .losDeclare _ | .polarityReversalDetected _ | .txShortDeclare _ =>
    framed t { s with
      dict := t.dict, log := t.log, faults := t.faults, pair := t.pair, lanes := t.lanes, emitted := t.emitted } ∧
     stands s t [0x1001, 0x3200, 0x3400]
  | .laneDiagWrite _ _ _ | .patternErrorInject _ _ _ =>
    t = { s with dict := t.dict, recent := t.recent, req := t.req, log := t.log, pair := t.pair, emitted := t.emitted } ∧
     stands s t [0x1001, 0x3200, 0x3400, 0x5300]
  | .alignmentAcquired _ _ _ | .alignmentLost _ | .idleExitFailure _ | .tetherCommaInsert _ |
    .uncorrectableCodeword _ _ =>
    framed t { s with
      dict := t.dict, log := t.log, faults := t.faults, pair := t.pair, lanes := t.lanes, portFault := t.portFault
      emitted := t.emitted } ∧ stands s t [0x1001, 0x3200, 0x3400]
  | .synthesiserLocked _ =>
    framed t { s with
      dict := t.dict, log := t.log, faults := t.faults, pair := t.pair, lanes := t.lanes, synths := t.synths
      emitted := t.emitted } ∧ stands s t [0x1001, 0x3200]
  | .ethernetLinkChange _ _ _ =>
    framed t { s with
      dict := t.dict, log := t.log, faults := t.faults, pair := t.pair, ref := t.ref, rx := t.rx, tx := t.tx
      emitted := t.emitted } ∧ stands s t [0x1001, 0x2120, 0x3200, 0x3300]
  | .synthesiserLockFail _ =>
    framed t { s with
      dict := t.dict, log := t.log, faults := t.faults, pair := t.pair, ref := t.ref, lanes := t.lanes
      synths := t.synths, rx := t.rx, tx := t.tx, emitted := t.emitted } ∧ stands s t [0x1001, 0x2120, 0x3200, 0x3400]
  | .laneModeWrite _ _ _ | .laneRateWrite _ _ _ =>
    framed t { s with
      dict := t.dict, recent := t.recent, req := t.req, log := t.log, faults := t.faults, pair := t.pair, ref := t.ref
      lanes := t.lanes, synths := t.synths, rx := t.rx, tx := t.tx, emitted := t.emitted } ∧
     stands s t [0x1001, 0x2120, 0x3000, 0x3100, 0x3200, 0x3300, 0x5300]
  | _ => True

/-- What the commands of the inputs, the network and the outputs leave as it was. -/
def Obligations.MediaFramed : Prop := ∀ (c : Instr) (s t : State), c.wf = true → exec c s = .next t →
  match c with
  | .arpResolveRetry _ _ =>
    t = { s with arp := t.arp, emitted := t.emitted }
  | .holdExpiry _ =>
    t = { s with dict := t.dict, emitted := t.emitted } ∧ stands s t [0x4300]
  | .igmpCompatTimeout _ _ =>
    t = { s with igmp := t.igmp, emitted := t.emitted }
  | .formatMismatchClear _ | .mistimedRecovery _ =>
    t = { s with dict := t.dict, faults := t.faults, emitted := t.emitted } ∧ stands s t [0x4300]
  | .igmpQueryResponse _ _ | .igmpStateChangeReport _ _ =>
    t = { s with free := t.free, igmp := t.igmp, emitted := t.emitted }
  | .inputReturn _ =>
    t = { s with dict := t.dict, ins := t.ins, emitted := t.emitted } ∧ stands s t [0x4300]
  | .ptpDelayReqSend _ =>
    t = { s with free := t.free, ref := t.ref, emitted := t.emitted }
  | .ancAttachTimeout _ =>
    t = { s with dict := t.dict, ins := t.ins, rx := t.rx, emitted := t.emitted } ∧ stands s t [0x4400]
  | .arpFrameReceived _ _ _ _ _ =>
    t = { s with dict := t.dict, faults := t.faults, arp := t.arp, emitted := t.emitted } ∧ stands s t [0x3500]
  | .audioPacketSend _ =>
    t = { s with dict := t.dict, pair := t.pair, tx := t.tx, emitted := t.emitted } ∧ stands s t [0x6300]
  | .igmpQueryReceived _ _ =>
    t = { s with free := t.free, dict := t.dict, igmp := t.igmp, emitted := t.emitted } ∧ stands s t [0x3500]
  | .trsLock _ =>
    t = { s with dict := t.dict, faults := t.faults, ins := t.ins, emitted := t.emitted } ∧ stands s t [0x3200, 0x4300]
  | .ancPacketSend _ =>
    t = { s with dict := t.dict, pair := t.pair, outs := t.outs, tx := t.tx, emitted := t.emitted } ∧ stands s t [0x6300]
  | .arpRefresh _ _ =>
    framed t { s with log := t.log, faults := t.faults, pair := t.pair, arp := t.arp, emitted := t.emitted } ∧
     stands s t [0x1001]
  | .pathAbsent _ _ | .tsDriftDeclare _ =>
    framed t { s with dict := t.dict, log := t.log, faults := t.faults, pair := t.pair, emitted := t.emitted } ∧
     stands s t [0x1001, 0x4300, 0x4400]
  | .inputMistimed _ | .ipInputLost _ | .trsLockLost _ =>
    framed t { s with
      dict := t.dict, log := t.log, faults := t.faults, pair := t.pair, ins := t.ins, emitted := t.emitted } ∧
     stands s t [0x1001, 0x3200, 0x4300]
  | .autoSyncPromotion _ | .promotionRetry _ =>
    framed t { s with
      dict := t.dict, log := t.log, faults := t.faults, pair := t.pair, ins := t.ins, busSlotsB := t.busSlotsB
      emitted := t.emitted }
  | .sdiRateDetected _ _ =>
    framed t { s with
      dict := t.dict, log := t.log, faults := t.faults, pair := t.pair, lanes := t.lanes, ins := t.ins
      emitted := t.emitted } ∧ stands s t [0x1001, 0x3200, 0x4300]
  | .generatorFrameStart _ =>
    t = { s with
      dict := t.dict, pair := t.pair, windows := t.windows, gens := t.gens, tether := t.tether, winBytes := t.winBytes
      inserted := t.inserted, emitted := t.emitted }
  | .outputFrameStart _ =>
    framed t { s with
      dict := t.dict, log := t.log, faults := t.faults, pair := t.pair, outs := t.outs, arp := t.arp, rx := t.rx
      tx := t.tx, emitted := t.emitted } ∧ stands s t [0x1001, 0x6400]
  | .rxEntryWrite _ _ _ =>
    t = { s with
      free := t.free, dict := t.dict, recent := t.recent, req := t.req, log := t.log, pair := t.pair
      busSlotsB := t.busSlotsB, igmp := t.igmp, rx := t.rx, tx := t.tx, emitted := t.emitted }
  | .txEntryWrite _ _ _ =>
    framed t { s with
      dict := t.dict, recent := t.recent, req := t.req, log := t.log, faults := t.faults, pair := t.pair
      busSlotsB := t.busSlotsB, arp := t.arp, rx := t.rx, tx := t.tx, emitted := t.emitted }
  | .fsSlotSelect _ =>
    framed t { s with
      free := t.free, dict := t.dict, log := t.log, faults := t.faults, pair := t.pair, windows := t.windows
      cells := t.cells, ins := t.ins, feeds := t.feeds, tether := t.tether, winBytes := t.winBytes, emitted := t.emitted }
  | .outputSwitchPoint _ =>
    framed t { s with
      dict := t.dict, onAir := t.onAir, events := t.events, log := t.log, faults := t.faults, pair := t.pair
      outs := t.outs, arp := t.arp, rx := t.rx, tx := t.tx, fieldBank := t.fieldBank, emitted := t.emitted } ∧
     stands s t [0x1001, 0x6400]
  | .outputLineLaunch _ _ =>
    framed t { s with
      free := t.free, dict := t.dict, log := t.log, faults := t.faults, pair := t.pair, windows := t.windows
      cells := t.cells, ins := t.ins, outs := t.outs, feeds := t.feeds, tether := t.tether, winBytes := t.winBytes
      emitted := t.emitted }
  | .videoPacketSend _ =>
    framed t { s with
      free := t.free, dict := t.dict, log := t.log, faults := t.faults, pair := t.pair, windows := t.windows
      cells := t.cells, ins := t.ins, outs := t.outs, tx := t.tx, feeds := t.feeds, tether := t.tether
      winBytes := t.winBytes, emitted := t.emitted }
  | .lineCloseTimeout _ _ | .sdiLineReceived _ _ =>
    framed t { s with
      free := t.free, dict := t.dict, log := t.log, faults := t.faults, pair := t.pair, windows := t.windows
      cells := t.cells, ins := t.ins, ainIn := t.ainIn, bridgeIn := t.bridgeIn, bridges := t.bridges, feeds := t.feeds
      tether := t.tether, winBytes := t.winBytes, emitted := t.emitted }
  | .mediaPacketReceived _ _ =>
    framed t { s with
      free := t.free, dict := t.dict, log := t.log, faults := t.faults, pair := t.pair, windows := t.windows
      cells := t.cells, ins := t.ins, ainIn := t.ainIn, rx := t.rx, bridgeIn := t.bridgeIn, bridges := t.bridges
      feeds := t.feeds, tether := t.tether, winBytes := t.winBytes, emitted := t.emitted }
  | _ => True

/-- What the commands of the audio engine, the spools, the heads and the graphics leave as it was. -/
def Obligations.AudioFramed : Prop := ∀ (c : Instr) (s t : State), c.wf = true → exec c s = .next t →
  match c with
  | .bridgeBandwidthStep _ =>
    t = { s with bridges := t.bridges, emitted := t.emitted }
  | .coefficientEffect =>
    t = { s with mix := t.mix, emitted := t.emitted }
  | .delayCrossfadeEnd _ =>
    t = { s with ain := t.ain, emitted := t.emitted }
  | .gainStepTimeout _ =>
    t = { s with aout := t.aout, sideGains := t.sideGains, emitted := t.emitted }
  | .spriteCaptureTimeout _ =>
    t = { s with dict := t.dict, req := t.req, gfx := t.gfx, emitted := t.emitted } ∧ stands s t [0x1001]
  | .audioPortClockLost _ =>
    framed t { s with log := t.log, faults := t.faults, pair := t.pair, audioPorts := t.audioPorts, emitted := t.emitted } ∧
     stands s t [0x1001]
  | .spoolCheckComplete _ =>
    t = { s with dict := t.dict, req := t.req, log := t.log, spools := t.spools, emitted := t.emitted }
  | .spoolLoadAbandon _ =>
    t = { s with dict := t.dict, req := t.req, log := t.log, spools := t.spools, emitted := t.emitted } ∧
     stands s t [0x1001, 0x7200]
  | .blitCopy _ _ | .blitFill _ _ | .spriteDelete _ _ | .spriteUpload _ _ _ =>
    t = { s with dict := t.dict, req := t.req, log := t.log, pair := t.pair, gfx := t.gfx, emitted := t.emitted } ∧
     stands s t [0x1001, 0x5300]
  | .bridgeRatioUpdate _ _ | .bridgeSourceLost _ =>
    framed t { s with
      log := t.log, faults := t.faults, pair := t.pair, bridges := t.bridges, audioPorts := t.audioPorts
      emitted := t.emitted } ∧ stands s t [0x1001]
  | .meterIntervalEnd =>
    t = { s with
      dict := t.dict, meters := t.meters, meterAt := t.meterAt, meterOld := t.meterOld, meterStamp := t.meterStamp
      emitted := t.emitted }
  | .blitterJobStart =>
    framed t { s with
      free := t.free, dict := t.dict, log := t.log, faults := t.faults, pair := t.pair, gfx := t.gfx
      emitted := t.emitted } ∧ stands s t [0x1001, 0x5500]
  | .bridgeAcquire _ _ =>
    framed t { s with
      log := t.log, faults := t.faults, pair := t.pair, bridgeIn := t.bridgeIn, bridges := t.bridges
      audioPorts := t.audioPorts, emitted := t.emitted } ∧ stands s t [0x1001]
  | .spoolBankEmpty _ _ | .spoolLoad _ _ _ =>
    t = { s with
      dict := t.dict, req := t.req, log := t.log, pair := t.pair, spools := t.spools, mix := t.mix, emitted := t.emitted }
  | .spriteCapture _ _ =>
    t = { s with
      dict := t.dict, req := t.req, log := t.log, pair := t.pair, busSlotsB := t.busSlotsB, gfx := t.gfx
      emitted := t.emitted }
  | .staticLayerWrite _ _ _ =>
    t = { s with
      dict := t.dict, recent := t.recent, req := t.req, log := t.log, pair := t.pair, gfx := t.gfx, emitted := t.emitted } ∧
     stands s t [0x1001, 0x5300, 0x8000]
  | .cursorWrite _ _ _ =>
    t = { s with
      dict := t.dict, blobs := t.blobs, recent := t.recent, req := t.req, log := t.log, pair := t.pair, heads := t.heads
      emitted := t.emitted } ∧ stands s t [0x1001, 0x5300, 0x8000]
  | .headTimingChange _ =>
    t = { s with
      dict := t.dict, moves := t.moves, log := t.log, outs := t.outs, layers := t.layers, heads := t.heads, gfx := t.gfx
      emitted := t.emitted }
  | .spoolEffectPoint =>
    framed t { s with
      dict := t.dict, onAir := t.onAir, log := t.log, faults := t.faults, pair := t.pair, meters := t.meters
      mix := t.mix, emitted := t.emitted }
  | .audioPortFrame _ _ _ _ _ =>
    framed t { s with
      dict := t.dict, log := t.log, faults := t.faults, pair := t.pair, ainIn := t.ainIn, bridgeIn := t.bridgeIn
      bridges := t.bridges, audioPorts := t.audioPorts, emitted := t.emitted } ∧ stands s t [0x1001, 0x7300, 0x7310]
  | .blitterJobComplete =>
    framed t { s with
      free := t.free, dict := t.dict, req := t.req, log := t.log, faults := t.faults, pair := t.pair, heads := t.heads
      gfx := t.gfx, emitted := t.emitted } ∧ stands s t [0x1001, 0x5500]
  | .headFrameBoundary _ =>
    framed t { s with
      free := t.free, dict := t.dict, onAir := t.onAir, log := t.log, faults := t.faults, pair := t.pair
      windows := t.windows, layers := t.layers, heads := t.heads, tether := t.tether, winBytes := t.winBytes
      emitted := t.emitted }
  | .stagedFrameComplete _ _ =>
    framed t { s with
      free := t.free, dict := t.dict, log := t.log, faults := t.faults, pair := t.pair, windows := t.windows
      cells := t.cells, ins := t.ins, layers := t.layers, feeds := t.feeds, tether := t.tether, winBytes := t.winBytes
      emitted := t.emitted }
  | .spriteCaptureDone _ =>
    framed t { s with
      free := t.free, dict := t.dict, req := t.req, log := t.log, faults := t.faults, pair := t.pair
      windows := t.windows, cells := t.cells, ins := t.ins, gfx := t.gfx, feeds := t.feeds, tether := t.tether
      winBytes := t.winBytes, emitted := t.emitted }
  | _ => True

/-- What the commands of the banks, the salvos, the moves and the windows leave as it was. -/
def Obligations.SetsFramed : Prop := ∀ (c : Instr) (s t : State), c.wf = true → exec c s = .next t →
  match c with
  | .reoriginFrameEnd _ =>
    t = { s with planes := t.planes, emitted := t.emitted }
  | .reseedComplete _ =>
    t = { s with banks := t.banks, emitted := t.emitted }
  | .windowOperationStart _ =>
    t = { s with windows := t.windows, emitted := t.emitted }
  | .windowRead _ _ _ =>
    t = { s with dict := t.dict, emitted := t.emitted } ∧ stands s t [0x1001]
  | .windowWrite _ _ _ =>
    t = { s with dict := t.dict, winBytes := t.winBytes, emitted := t.emitted } ∧ stands s t [0x1001]
  | .protectionWrite _ _ _ =>
    t = { s with dict := t.dict, recent := t.recent, req := t.req, log := t.log, pair := t.pair, emitted := t.emitted } ∧
     stands s t [0x1001, 0x5010, 0x5300]
  | .salvoStore _ _ _ =>
    t = { s with dict := t.dict, blobs := t.blobs, req := t.req, log := t.log, pair := t.pair, emitted := t.emitted } ∧
     stands s t [0x1001, 0x5300]
  | .discard _ _ =>
    t = { s with
      dict := t.dict, shadow := t.shadow, banks := t.banks, req := t.req, log := t.log, pair := t.pair
      emitted := t.emitted } ∧ stands s t [0x1001, 0x5300]
  | .windowCapture _ _ _ | .windowInsert _ _ _ | .windowStop _ _ _ =>
    t = { s with
      dict := t.dict, req := t.req, log := t.log, pair := t.pair, windows := t.windows, busSlotsB := t.busSlotsB
      emitted := t.emitted }
  | .salvoExecute | .takeSwap =>
    t = { s with
      dict := t.dict, shadow := t.shadow, onAir := t.onAir, events := t.events, banks := t.banks, log := t.log
      outs := t.outs, emitted := t.emitted }
  | .windowOperationEnd _ _ =>
    framed t { s with
      dict := t.dict, req := t.req, log := t.log, faults := t.faults, pair := t.pair, windows := t.windows
      winBytes := t.winBytes, emitted := t.emitted } ∧ stands s t [0x1001, 0xB200]
  | .salvoFire _ _ =>
    framed t { s with
      dict := t.dict, events := t.events, order := t.order, lastRefusal := t.lastRefusal, req := t.req, log := t.log
      faults := t.faults, pair := t.pair, busSlotsB := t.busSlotsB, emitted := t.emitted }
  | .movePoint _ _ =>
    t = { s with
      dict := t.dict, moves := t.moves, log := t.log, cells := t.cells, ins := t.ins, outs := t.outs, remote := t.remote
      rx := t.rx, tx := t.tx, tether := t.tether, emitted := t.emitted }
  | .planeConfigWrite _ _ _ | .reorigin _ _ _ =>
    t = { s with
      free := t.free, dict := t.dict, recent := t.recent, planes := t.planes, events := t.events, banks := t.banks
      req := t.req, log := t.log, pair := t.pair, rx := t.rx, tx := t.tx, tether := t.tether, emitted := t.emitted } ∧
     stands s t [0x1001, 0x2010, 0x5300]
  | _ => True

/-- What the commands of the tether and of the cascade leave as it was. -/
def Obligations.CascadeFramed : Prop := ∀ (c : Instr) (s t : State), c.wf = true → exec c s = .next t →
  match c with
  | .helloSend | .tetherTimelineSend =>
    t = { s with emitted := t.emitted }
  | .creditSend _ | .planecfgSend =>
    t = { s with tether := t.tether, emitted := t.emitted }
  | .streamStateReceived _ _ _ =>
    t = { s with dict := t.dict, emitted := t.emitted } ∧ stands s t [0x4300]
  | .creditReceived _ _ _ =>
    t = { s with dict := t.dict, faults := t.faults, tether := t.tether, emitted := t.emitted } ∧ stands s t [0xA100]
  | .tetherPortUp _ =>
    t = { s with dict := t.dict, ins := t.ins, tether := t.tether, emitted := t.emitted } ∧
     stands s t [0x4300, 0xA010, 0xA100, 0xA200]
  | .tunnelFragmentReceived _ _ _ _ _ _ | .tunnelTimeout =>
    t = { s with dict := t.dict, req := t.req, tether := t.tether, emitted := t.emitted } ∧ stands s t [0x1001]
  | .creditStall _ =>
    framed t { s with dict := t.dict, log := t.log, faults := t.faults, pair := t.pair, emitted := t.emitted } ∧
     stands s t [0x1001, 0xA100]
  | .tunnelRequest _ _ _ _ _ =>
    t = { s with dict := t.dict, req := t.req, log := t.log, tether := t.tether, emitted := t.emitted } ∧
     stands s t [0x1001, 0x5300]
  | .helloReceived _ _ | .pathEcho _ _ _ _ _ =>
    framed t { s with
      dict := t.dict, log := t.log, faults := t.faults, pair := t.pair, tether := t.tether, emitted := t.emitted } ∧
     stands s t [0x1001, 0xA010, 0xA100]
  | .cascadeRecordReceived _ _ =>
    t = { s with
      dict := t.dict, events := t.events, order := t.order, banks := t.banks, log := t.log, tether := t.tether
      emitted := t.emitted } ∧ stands s t [0x1101, 0x2200]
  | .abort _ _ | .cascadeAbort _ _ =>
    t = { s with
      dict := t.dict, events := t.events, banks := t.banks, req := t.req, log := t.log, pair := t.pair
      tether := t.tether, emitted := t.emitted } ∧ stands s t [0x1001, 0x1101, 0x5300]
  | .tetherTimelineReceived _ _ =>
    framed t { s with
      dict := t.dict, log := t.log, faults := t.faults, pair := t.pair, ref := t.ref, rx := t.rx, tx := t.tx
      tether := t.tether, emitted := t.emitted } ∧ stands s t [0x1001, 0x2120, 0xA010]
  | .cascadeTake _ _ | .take _ _ =>
    t = { s with
      dict := t.dict, events := t.events, order := t.order, banks := t.banks, lastRefusal := t.lastRefusal, req := t.req
      log := t.log, pair := t.pair, tether := t.tether, emitted := t.emitted } ∧ stands s t [0x1001, 0x1101, 0x2200, 0x5300]
  | .tetherCellReceived _ _ =>
    framed t { s with
      dict := t.dict, log := t.log, faults := t.faults, pair := t.pair, windows := t.windows, cells := t.cells
      ins := t.ins, feeds := t.feeds, tether := t.tether, winBytes := t.winBytes, emitted := t.emitted }
  | .tetherPlanecfgReceived _ _ _ _ =>
    t = { s with
      free := t.free, dict := t.dict, planes := t.planes, events := t.events, banks := t.banks, req := t.req
      log := t.log, pair := t.pair, ref := t.ref, rx := t.rx, tx := t.tx, tether := t.tether, emitted := t.emitted } ∧
     stands s t [0x1001, 0x2010]
  | _ => True

/-- What the commands of the bridle and of the pair leave as it was. -/
def Obligations.PairFramed : Prop := ∀ (c : Instr) (s t : State), c.wf = true → exec c s = .next t →
  match c with
  | .bridleTimelineSend | .heartbeatSend =>
    t = { s with emitted := t.emitted }
  | .joinSnapshot =>
    t = { s with pair := t.pair, emitted := t.emitted }
  | .claimConflict | .quenchRelease =>
    t = { s with log := t.log, pair := t.pair, emitted := t.emitted }
  | .faultRecordReceived _ =>
    t = { s with dict := t.dict, pair := t.pair, emitted := t.emitted } ∧ stands s t [0x9010]
  | .changeoverRecordReceived _ | .changeoverRequestReceived _ | .claimInRise =>
    t = { s with dict := t.dict, log := t.log, pair := t.pair, emitted := t.emitted } ∧ stands s t [0x9010]
  | .joinInStep =>
    t = { s with log := t.log, faults := t.faults, pair := t.pair, emitted := t.emitted }
  | .joinRetry =>
    framed t { s with log := t.log, faults := t.faults, pair := t.pair, emitted := t.emitted } ∧ stands s t [0x1001]
  | .bridleTimelineReceived _ =>
    t = { s with dict := t.dict, ref := t.ref, rx := t.rx, tx := t.tx, emitted := t.emitted } ∧ stands s t [0x9010]
  | .partnerRelay _ _ =>
    t = { s with dict := t.dict, req := t.req, log := t.log, pair := t.pair, emitted := t.emitted } ∧
     stands s t [0x1001, 0x5300]
  | .clearSuspect _ _ | .join _ _ | .release _ _ =>
    framed t { s with
      dict := t.dict, req := t.req, log := t.log, faults := t.faults, pair := t.pair, emitted := t.emitted } ∧
     stands s t [0x1001, 0x5300]
  | .drill _ _ =>
    t = { s with
      dict := t.dict, events := t.events, order := t.order, req := t.req, log := t.log, pair := t.pair
      tether := t.tether, emitted := t.emitted } ∧ stands s t [0x1001, 0x2200, 0x5300]
  | .soloClaim =>
    framed t { s with
      dict := t.dict, log := t.log, faults := t.faults, pair := t.pair, ref := t.ref, rx := t.rx, tx := t.tx
      emitted := t.emitted } ∧ stands s t [0x1001, 0x2120, 0x9010]
  | .tetherPortDown _ =>
    framed t { s with
      dict := t.dict, log := t.log, faults := t.faults, pair := t.pair, ref := t.ref, ins := t.ins, rx := t.rx
      tx := t.tx, tether := t.tether, emitted := t.emitted } ∧ stands s t [0x1001, 0x2120, 0x4300, 0xA010, 0xA100, 0xA200]
  | .heartbeatReceived _ | .joinRequestReceived | .quench =>
    t = { s with
      mode := t.mode, dict := t.dict, events := t.events, banks := t.banks, moves := t.moves, req := t.req, log := t.log
      faults := t.faults, boot := t.boot, pair := t.pair, windows := t.windows, cells := t.cells, ins := t.ins
      spools := t.spools, emitted := t.emitted } ∧ stands s t [0x1001, 0x9010]
  | .decisionRecordApply _ =>
    framed t { s with
      free := t.free, dict := t.dict, events := t.events, order := t.order, banks := t.banks
      lastRefusal := t.lastRefusal, req := t.req, log := t.log, faults := t.faults, pair := t.pair, windows := t.windows
      cells := t.cells, ins := t.ins, busSlotsB := t.busSlotsB, silent := t.silent, ainIn := t.ainIn, rx := t.rx
      bridgeIn := t.bridgeIn, bridges := t.bridges, audioPorts := t.audioPorts, heads := t.heads, feeds := t.feeds
      tether := t.tether, winBytes := t.winBytes, fieldBank := t.fieldBank, emitted := t.emitted }
  | _ => True

/-- What the commands of power, boot, update, memory, faults, freezes, the debug port and an accepted field input leave as it was. -/
def Obligations.SystemFramed : Prop := ∀ (c : Instr) (s t : State), c.wf = true → exec c s = .next t →
  match c with
  | .interDieResend =>
    t = { s with emitted := t.emitted }
  | .componentReady | .exairPowerOn | .mainPowerEnable | .powerSequenceRetry | .powerSequenceTimeout =>
    t = { s with boot := t.boot, emitted := t.emitted }
  | .dormantPrepare =>
    t = { s with wake := t.wake, emitted := t.emitted }
  | .eccWriteback _ _ =>
    t = { s with faults := t.faults, emitted := t.emitted }
  | .componentReadyTimeout | .componentStart | .porstAssert | .porstNRisesInDormant | .slotVerifyComplete =>
    t = { s with boot := t.boot, pair := t.pair, emitted := t.emitted }
  | .wake _ _ =>
    t = { s with dict := t.dict, boot := t.boot, emitted := t.emitted } ∧ stands s t [0x1001]
  | .bootPartnerWaitEnd | .dormantPowerDown =>
    t = { s with mode := t.mode, log := t.log, boot := t.boot, emitted := t.emitted }
  | .configSaveComplete | .stagingComplete _ =>
    t = { s with dict := t.dict, req := t.req, boot := t.boot, emitted := t.emitted } ∧ stands s t [0x1001]
  | .healthConfirmTimeout =>
    t = { s with log := t.log, boot := t.boot, pair := t.pair, emitted := t.emitted }
  | .freezeOnFatal | .freezePin =>
    t = { s with mode := t.mode, log := t.log, faults := t.faults, dbg := t.dbg, emitted := t.emitted }
  | .powerGoodLost _ | .selfCheckComplete _ =>
    t = { s with log := t.log, faults := t.faults, boot := t.boot, pair := t.pair, emitted := t.emitted }
  | .relock _ =>
    t = { s with free := t.free, keys := t.keys, log := t.log, dbg := t.dbg, emitted := t.emitted }
  | .scrubLapEnd _ =>
    framed t { s with dict := t.dict, log := t.log, faults := t.faults, pair := t.pair, emitted := t.emitted } ∧
     stands s t [0x1001, 0xB300]
  | .alarmClear _ _ _ =>
    t = { s with dict := t.dict, req := t.req, log := t.log, faults := t.faults, pair := t.pair, emitted := t.emitted } ∧
     stands s t [0x1001, 0x3200, 0x5300]
  | .configErase _ | .configSave _ | .healthConfirm _ _ | .selectGoodSlot _ | .stagePackage _ _ =>
    t = { s with dict := t.dict, req := t.req, log := t.log, boot := t.boot, pair := t.pair, emitted := t.emitted } ∧
     stands s t [0x1001, 0x5300]
  | .faultForce _ _ _ =>
    framed t { s with
      dict := t.dict, req := t.req, log := t.log, faults := t.faults, pair := t.pair, emitted := t.emitted } ∧
     stands s t [0x1001, 0x5300]
  | .licenceTokenWrite _ _ _ =>
    t = { s with dict := t.dict, req := t.req, keys := t.keys, log := t.log, pair := t.pair, emitted := t.emitted } ∧
     stands s t [0x1001, 0x5300]
  | .openResponse _ _ =>
    framed t { s with
      keys := t.keys, log := t.log, faults := t.faults, dbg := t.dbg, pair := t.pair, emitted := t.emitted } ∧
     stands s t [0x1001]
  | .scheduledFreeze =>
    t = { s with mode := t.mode, events := t.events, log := t.log, faults := t.faults, dbg := t.dbg, emitted := t.emitted }
  | .freezeCancel _ _ | .freezeSchedule _ _ =>
    t = { s with
      dict := t.dict, events := t.events, order := t.order, req := t.req, log := t.log, pair := t.pair
      emitted := t.emitted } ∧ stands s t [0x1001, 0x2200, 0x5300]
  | .powerDown =>
    t = { s with
      mode := t.mode, log := t.log, faults := t.faults, boot := t.boot, wake := t.wake, pair := t.pair
      emitted := t.emitted }
  | .rearm _ _ =>
    t = { s with
      dict := t.dict, recent := t.recent, req := t.req, log := t.log, faults := t.faults, pair := t.pair
      emitted := t.emitted } ∧ stands s t [0x1001, 0x5300, 0xB400]
  | .requestDormant _ | .requestService _ | .requestSolo _ =>
    t = { s with
      mode := t.mode, dict := t.dict, req := t.req, log := t.log, boot := t.boot, pair := t.pair, emitted := t.emitted } ∧
     stands s t [0x1001, 0x5300]
  | .stagingFailure _ _ =>
    framed t { s with
      dict := t.dict, req := t.req, log := t.log, faults := t.faults, boot := t.boot, pair := t.pair
      emitted := t.emitted } ∧ stands s t [0x1001, 0xB200]
  | .fieldInputAccept _ =>
    framed t { s with
      dict := t.dict, events := t.events, order := t.order, banks := t.banks, lastRefusal := t.lastRefusal, req := t.req
      log := t.log, faults := t.faults, pair := t.pair, busSlotsB := t.busSlotsB, tether := t.tether
      fieldBank := t.fieldBank, emitted := t.emitted }
  | .bootEnd =>
    t = { s with
      mode := t.mode, dict := t.dict, events := t.events, banks := t.banks, moves := t.moves, req := t.req, log := t.log
      faults := t.faults, boot := t.boot, pair := t.pair, windows := t.windows, cells := t.cells, ins := t.ins
      spools := t.spools, emitted := t.emitted } ∧ stands s t [0x1001]
  | .scrubRead _ _ =>
    framed t { s with
      free := t.free, dict := t.dict, keys := t.keys, log := t.log, faults := t.faults, pair := t.pair, cells := t.cells
      ins := t.ins, ain := t.ain, mix := t.mix, layers := t.layers, heads := t.heads, gfx := t.gfx, feeds := t.feeds
      tether := t.tether, winBytes := t.winBytes, emitted := t.emitted }
  | _ => True
end

