-- ==== Sys2Proof/Laws/Store.lean ====
section
/-! SUPPORT. The laws of sparse tables: a read after a write gives the value written, a write leaves every other key as it
was, and every operation keeps the canonical form. -/

namespace Sys2Proof.Machine

variable {α : Type}

@[simp] theorem mapGet_mapErase (d : Nat → α) (m : SMap α) (k j : Nat) :
    mapGet d (mapErase m k) j = if j = k then d j else mapGet d m j := by
  induction m with
  | nil => simp [mapErase, mapGet]
  | cons e m ih =>
    obtain ⟨a, v⟩ := e
    by_cases h : k = a
    · subst h; simp only [mapErase, if_pos, ih, mapGet]; split <;> simp_all
    · simp only [mapErase, h, if_false, mapGet, ih]; split <;> split <;> simp_all

@[simp] theorem mapGet_mapPut (d : Nat → α) (m : SMap α) (k j : Nat) (v : α) :
    mapGet d (mapPut m k v) j = if j = k then v else mapGet d m j := by
  induction m with
  | nil => simp [mapPut, mapGet]
  | cons e m ih =>
    obtain ⟨a, w⟩ := e
    simp only [mapPut]
    split
    · simp [mapGet]
    · split
      · subst_vars; simp only [mapGet]; split <;> simp_all
      · simp only [mapGet, ih]; split <;> split <;> simp_all

@[simp] theorem mapGet_mapSet [DecidableEq α] (d : Nat → α) (m : SMap α) (k j : Nat) (v : α) :
    mapGet d (mapSet d m k v) j = if j = k then v else mapGet d m j := by
  unfold mapSet
  split
  · subst_vars; simp only [mapGet_mapErase]; split <;> simp_all
  · simp

/-- Keys after an erase were there before it. -/
theorem mem_mapErase {m : SMap α} {k : Nat} {e : Nat × α} (h : e ∈ mapErase m k) : e ∈ m := by
  induction m with
  | nil => simp [mapErase] at h
  | cons a m ih =>
    obtain ⟨a, w⟩ := a
    simp only [mapErase] at h
    split at h
    · exact List.mem_cons_of_mem _ (ih h)
    · rcases List.mem_cons.1 h with h | h
      · exact h ▸ List.mem_cons_self
      · exact List.mem_cons_of_mem _ (ih h)

/-- An entry after a put is the new one or was there before it. -/
theorem mem_mapPut {m : SMap α} {k : Nat} {v : α} {e : Nat × α} (h : e ∈ mapPut m k v) : e = (k, v) ∨ e ∈ m := by
  induction m with
  | nil => simp [mapPut] at h; exact .inl h
  | cons a m ih =>
    obtain ⟨a, w⟩ := a
    simp only [mapPut] at h
    split at h
    · rcases List.mem_cons.1 h with h | h
      · exact .inl h
      · exact .inr h
    · split at h
      · rcases List.mem_cons.1 h with h | h
        · exact .inl h
        · exact .inr (List.mem_cons_of_mem _ h)
      · rcases List.mem_cons.1 h with h | h
        · exact .inr (h ▸ List.mem_cons_self)
        · rcases ih h with h | h
          · exact .inl h
          · exact .inr (List.mem_cons_of_mem _ h)

theorem mapWf_cons [DecidableEq α] {d : Nat → α} {k : Nat} {v : α} {m : SMap α} :
    mapWf d ((k, v) :: m) = true ↔ v ≠ d k ∧ (∀ e ∈ m, k < e.1) ∧ mapWf d m = true := by
  simp [mapWf, and_assoc]

theorem mapErase_wf [DecidableEq α] {d : Nat → α} {m : SMap α} (k : Nat) (h : mapWf d m = true) :
    mapWf d (mapErase m k) = true := by
  induction m with
  | nil => simp [mapErase, mapWf]
  | cons a m ih =>
    obtain ⟨a, w⟩ := a
    obtain ⟨h1, h2, h3⟩ := mapWf_cons.1 h
    simp only [mapErase]
    split
    · exact ih h3
    · exact mapWf_cons.2 ⟨h1, fun e he => h2 e (mem_mapErase he), ih h3⟩

theorem mapPut_wf [DecidableEq α] {d : Nat → α} {m : SMap α} {k : Nat} {v : α} (hv : v ≠ d k) (h : mapWf d m = true) :
    mapWf d (mapPut m k v) = true := by
  induction m with
  | nil => simp [mapPut, mapWf, hv]
  | cons a m ih =>
    obtain ⟨a, w⟩ := a
    obtain ⟨h1, h2, h3⟩ := mapWf_cons.1 h
    simp only [mapPut]
    split
    · rename_i hk
      refine mapWf_cons.2 ⟨hv, ?_, h⟩
      intro e he
      rcases List.mem_cons.1 he with he | he
      · exact he ▸ hk
      · exact Nat.lt_trans hk (h2 e he)
    · split
      · rename_i hk; subst hk; exact mapWf_cons.2 ⟨hv, h2, h3⟩
      · refine mapWf_cons.2 ⟨h1, ?_, ih h3⟩
        intro e he
        rcases mem_mapPut he with he | he
        · subst he; show a < k; omega
        · exact h2 e he

/-- Writing any value keeps the canonical form. -/
theorem mapSet_wf [DecidableEq α] {d : Nat → α} {m : SMap α} (k : Nat) (v : α) (h : mapWf d m = true) :
    mapWf d (mapSet d m k v) = true := by
  unfold mapSet
  split
  · exact mapErase_wf k h
  · rename_i hv; exact mapPut_wf hv h

/-- Changing one entry keeps the canonical form. -/
theorem mapMod_wf [DecidableEq α] {d : Nat → α} {m : SMap α} (k : Nat) (f : α → α) (h : mapWf d m = true) :
    mapWf d (mapMod d m k f) = true := mapSet_wf _ _ h

/-- Dropping entries keeps the canonical form. -/
theorem filter_wf [DecidableEq α] {d : Nat → α} {m : SMap α} (p : Nat × α → Bool) (h : mapWf d m = true) :
    mapWf d (m.filter p) = true := by
  induction m with
  | nil => simp [mapWf]
  | cons a m ih =>
    obtain ⟨a, w⟩ := a
    obtain ⟨h1, h2, h3⟩ := mapWf_cons.1 h
    simp only [List.filter]
    split
    · exact mapWf_cons.2 ⟨h1, fun e he => h2 e (List.mem_filter.1 he).1, ih h3⟩
    · exact ih h3

/-- Changing every entry keeps the canonical form. -/
theorem mapAll_wf [DecidableEq α] {d : Nat → α} {m : SMap α} (f : Nat → α → α) (h : mapWf d m = true) :
    mapWf d (mapAll d f m) = true := by
  induction m with
  | nil => simp [mapAll, mapWf]
  | cons a m ih =>
    obtain ⟨a, w⟩ := a
    obtain ⟨h1, h2, h3⟩ := mapWf_cons.1 h
    simp only [mapAll, List.map_cons, List.filter]
    split
    · rename_i hv
      refine mapWf_cons.2 ⟨by simpa using hv, fun e he => ?_, ih h3⟩
      obtain ⟨x, hx, rfl⟩ := List.mem_map.1 (List.mem_filter.1 he).1
      exact h2 x hx
    · exact ih h3

end Sys2Proof.Machine
end

