-- ==== Sys2Proof/Laws/State.lean ====
section
/-! SUPPORT. One lemma per field and update of the state: what an update changes, and what it leaves as it was. -/

namespace Sys2Proof.Machine

/-- Keys of elements with sub-indices in range are different where index or sub-index is. -/
theorem ekey_inj {i j i' j' : Nat} (h : j < 65536) (h' : j' < 65536) : ekey i j = ekey i' j' ↔ i = i' ∧ j = j' := by
  unfold ekey; omega

@[simp] theorem State.put_elem (s : State) (i j : Nat) (v : Word) (i' j' : Nat) :
    (s.put i j v).elem i' j' = if ekey i' j' = ekey i j then v else s.elem i' j' := by simp [State.put, State.elem]

@[simp] theorem State.commit_elem (s : State) (i j : Nat) (v : Word) (i' j' : Nat) :
    (s.commit i j v).elem i' j' = if ekey i' j' = ekey i j then v else s.elem i' j' := by simp [State.commit, State.elem]

@[simp] theorem State.putShadow_shadowElem (s : State) (i j : Nat) (v : Word) (i' j' : Nat) :
    (s.putShadow i j v).shadowElem i' j' = if ekey i' j' = ekey i j then v else s.shadowElem i' j' := by
  simp [State.putShadow, State.shadowElem]

@[simp] theorem State.putAir_airElem (s : State) (i j : Nat) (v : Word) (i' j' : Nat) :
    (s.putAir i j v).airElem i' j' = if ekey i' j' = ekey i j then v else s.airElem i' j' := by
  simp [State.putAir, State.airElem]

@[simp] theorem State.putBlob_blob (s : State) (i j : Nat) (b : List Byte) (i' j' : Nat) :
    (s.putBlob i j b).blob i' j' = if ekey i' j' = ekey i j then b else s.blob i' j' := by simp [State.putBlob, State.blob]

@[simp] theorem State.setAudioPort_audioPort (s : State) (p : Nat) (x : PortSt) (k : Nat) : (s.setAudioPort p x).audioPort k = if k = p then x else s.audioPort k := by
  simp [State.setAudioPort, State.audioPort]
@[simp] theorem State.setAudioPort_pending (s : State) (p : Nat) (x : PortSt) : (s.setAudioPort p x).pending = s.pending := rfl
@[simp] theorem State.setAudioPort_emitted (s : State) (p : Nat) (x : PortSt) : (s.setAudioPort p x).emitted = s.emitted := rfl
@[simp] theorem State.setAudioPort_free (s : State) (p : Nat) (x : PortSt) : (s.setAudioPort p x).free = s.free := rfl
@[simp] theorem State.setAudioPort_now (s : State) (p : Nat) (x : PortSt) : (s.setAudioPort p x).now = s.now := rfl
@[simp] theorem State.setAudioPort_stepped (s : State) (p : Nat) (x : PortSt) : (s.setAudioPort p x).stepped = s.stepped := rfl
@[simp] theorem State.setAudioPort_mode (s : State) (p : Nat) (x : PortSt) : (s.setAudioPort p x).mode = s.mode := rfl
@[simp] theorem State.setAudioPort_dict (s : State) (p : Nat) (x : PortSt) : (s.setAudioPort p x).dict = s.dict := rfl
@[simp] theorem State.setAudioPort_log (s : State) (p : Nat) (x : PortSt) : (s.setAudioPort p x).log = s.log := rfl
@[simp] theorem State.setAudioPort_faults (s : State) (p : Nat) (x : PortSt) : (s.setAudioPort p x).faults = s.faults := rfl
@[simp] theorem State.setAudioPort_req (s : State) (p : Nat) (x : PortSt) : (s.setAudioPort p x).req = s.req := rfl
@[simp] theorem State.setAudioPort_pair (s : State) (p : Nat) (x : PortSt) : (s.setAudioPort p x).pair = s.pair := rfl
@[simp] theorem State.setAudioPort_ref (s : State) (p : Nat) (x : PortSt) : (s.setAudioPort p x).ref = s.ref := rfl
@[simp] theorem State.setAudioPort_boot (s : State) (p : Nat) (x : PortSt) : (s.setAudioPort p x).boot = s.boot := rfl
@[simp] theorem State.setAin_ainSlot (s : State) (n : Nat) (x : AinSlot) (k : Nat) : (s.setAin n x).ainSlot k = if k = n then x else s.ainSlot k := by
  simp [State.setAin, State.ainSlot]
@[simp] theorem State.setAin_pending (s : State) (n : Nat) (x : AinSlot) : (s.setAin n x).pending = s.pending := rfl
@[simp] theorem State.setAin_emitted (s : State) (n : Nat) (x : AinSlot) : (s.setAin n x).emitted = s.emitted := rfl
@[simp] theorem State.setAin_free (s : State) (n : Nat) (x : AinSlot) : (s.setAin n x).free = s.free := rfl
@[simp] theorem State.setAin_now (s : State) (n : Nat) (x : AinSlot) : (s.setAin n x).now = s.now := rfl
@[simp] theorem State.setAin_stepped (s : State) (n : Nat) (x : AinSlot) : (s.setAin n x).stepped = s.stepped := rfl
@[simp] theorem State.setAin_mode (s : State) (n : Nat) (x : AinSlot) : (s.setAin n x).mode = s.mode := rfl
@[simp] theorem State.setAin_dict (s : State) (n : Nat) (x : AinSlot) : (s.setAin n x).dict = s.dict := rfl
@[simp] theorem State.setAin_log (s : State) (n : Nat) (x : AinSlot) : (s.setAin n x).log = s.log := rfl
@[simp] theorem State.setAin_faults (s : State) (n : Nat) (x : AinSlot) : (s.setAin n x).faults = s.faults := rfl
@[simp] theorem State.setAin_req (s : State) (n : Nat) (x : AinSlot) : (s.setAin n x).req = s.req := rfl
@[simp] theorem State.setAin_pair (s : State) (n : Nat) (x : AinSlot) : (s.setAin n x).pair = s.pair := rfl
@[simp] theorem State.setAin_ref (s : State) (n : Nat) (x : AinSlot) : (s.setAin n x).ref = s.ref := rfl
@[simp] theorem State.setAin_boot (s : State) (n : Nat) (x : AinSlot) : (s.setAin n x).boot = s.boot := rfl
@[simp] theorem State.setAout_aoutSlot (s : State) (n : Nat) (x : AoutSlot) (k : Nat) : (s.setAout n x).aoutSlot k = if k = n then x else s.aoutSlot k := by
  simp [State.setAout, State.aoutSlot]
@[simp] theorem State.setAout_pending (s : State) (n : Nat) (x : AoutSlot) : (s.setAout n x).pending = s.pending := rfl
@[simp] theorem State.setAout_emitted (s : State) (n : Nat) (x : AoutSlot) : (s.setAout n x).emitted = s.emitted := rfl
@[simp] theorem State.setAout_free (s : State) (n : Nat) (x : AoutSlot) : (s.setAout n x).free = s.free := rfl
@[simp] theorem State.setAout_now (s : State) (n : Nat) (x : AoutSlot) : (s.setAout n x).now = s.now := rfl
@[simp] theorem State.setAout_stepped (s : State) (n : Nat) (x : AoutSlot) : (s.setAout n x).stepped = s.stepped := rfl
@[simp] theorem State.setAout_mode (s : State) (n : Nat) (x : AoutSlot) : (s.setAout n x).mode = s.mode := rfl
@[simp] theorem State.setAout_dict (s : State) (n : Nat) (x : AoutSlot) : (s.setAout n x).dict = s.dict := rfl
@[simp] theorem State.setAout_log (s : State) (n : Nat) (x : AoutSlot) : (s.setAout n x).log = s.log := rfl
@[simp] theorem State.setAout_faults (s : State) (n : Nat) (x : AoutSlot) : (s.setAout n x).faults = s.faults := rfl
@[simp] theorem State.setAout_req (s : State) (n : Nat) (x : AoutSlot) : (s.setAout n x).req = s.req := rfl
@[simp] theorem State.setAout_pair (s : State) (n : Nat) (x : AoutSlot) : (s.setAout n x).pair = s.pair := rfl
@[simp] theorem State.setAout_ref (s : State) (n : Nat) (x : AoutSlot) : (s.setAout n x).ref = s.ref := rfl
@[simp] theorem State.setAout_boot (s : State) (n : Nat) (x : AoutSlot) : (s.setAout n x).boot = s.boot := rfl
@[simp] theorem State.setBridge_pending (s : State) (i : Nat) (x : Bridge) : (s.setBridge i x).pending = s.pending := rfl
@[simp] theorem State.setBridge_emitted (s : State) (i : Nat) (x : Bridge) : (s.setBridge i x).emitted = s.emitted := rfl
@[simp] theorem State.setBridge_free (s : State) (i : Nat) (x : Bridge) : (s.setBridge i x).free = s.free := rfl
@[simp] theorem State.setBridge_now (s : State) (i : Nat) (x : Bridge) : (s.setBridge i x).now = s.now := rfl
@[simp] theorem State.setBridge_stepped (s : State) (i : Nat) (x : Bridge) : (s.setBridge i x).stepped = s.stepped := rfl
@[simp] theorem State.setBridge_mode (s : State) (i : Nat) (x : Bridge) : (s.setBridge i x).mode = s.mode := rfl
@[simp] theorem State.setBridge_dict (s : State) (i : Nat) (x : Bridge) : (s.setBridge i x).dict = s.dict := rfl
@[simp] theorem State.setBridge_log (s : State) (i : Nat) (x : Bridge) : (s.setBridge i x).log = s.log := rfl
@[simp] theorem State.setBridge_faults (s : State) (i : Nat) (x : Bridge) : (s.setBridge i x).faults = s.faults := rfl
@[simp] theorem State.setBridge_req (s : State) (i : Nat) (x : Bridge) : (s.setBridge i x).req = s.req := rfl
@[simp] theorem State.setBridge_pair (s : State) (i : Nat) (x : Bridge) : (s.setBridge i x).pair = s.pair := rfl
@[simp] theorem State.setBridge_ref (s : State) (i : Nat) (x : Bridge) : (s.setBridge i x).ref = s.ref := rfl
@[simp] theorem State.setBridge_boot (s : State) (i : Nat) (x : Bridge) : (s.setBridge i x).boot = s.boot := rfl
@[simp] theorem State.setSpoolBank_spoolBank (s : State) (b : Nat) (x : SpoolBank) (k : Nat) : (s.setSpoolBank b x).spoolBank k = if k = b then x else s.spoolBank k := by
  simp [State.setSpoolBank, State.spoolBank]
@[simp] theorem State.setSpoolBank_pending (s : State) (b : Nat) (x : SpoolBank) : (s.setSpoolBank b x).pending = s.pending := rfl
@[simp] theorem State.setSpoolBank_emitted (s : State) (b : Nat) (x : SpoolBank) : (s.setSpoolBank b x).emitted = s.emitted := rfl
@[simp] theorem State.setSpoolBank_free (s : State) (b : Nat) (x : SpoolBank) : (s.setSpoolBank b x).free = s.free := rfl
@[simp] theorem State.setSpoolBank_now (s : State) (b : Nat) (x : SpoolBank) : (s.setSpoolBank b x).now = s.now := rfl
@[simp] theorem State.setSpoolBank_stepped (s : State) (b : Nat) (x : SpoolBank) : (s.setSpoolBank b x).stepped = s.stepped := rfl
@[simp] theorem State.setSpoolBank_mode (s : State) (b : Nat) (x : SpoolBank) : (s.setSpoolBank b x).mode = s.mode := rfl
@[simp] theorem State.setSpoolBank_dict (s : State) (b : Nat) (x : SpoolBank) : (s.setSpoolBank b x).dict = s.dict := rfl
@[simp] theorem State.setSpoolBank_log (s : State) (b : Nat) (x : SpoolBank) : (s.setSpoolBank b x).log = s.log := rfl
@[simp] theorem State.setSpoolBank_faults (s : State) (b : Nat) (x : SpoolBank) : (s.setSpoolBank b x).faults = s.faults := rfl
@[simp] theorem State.setSpoolBank_req (s : State) (b : Nat) (x : SpoolBank) : (s.setSpoolBank b x).req = s.req := rfl
@[simp] theorem State.setSpoolBank_pair (s : State) (b : Nat) (x : SpoolBank) : (s.setSpoolBank b x).pair = s.pair := rfl
@[simp] theorem State.setSpoolBank_ref (s : State) (b : Nat) (x : SpoolBank) : (s.setSpoolBank b x).ref = s.ref := rfl
@[simp] theorem State.setSpoolBank_boot (s : State) (b : Nat) (x : SpoolBank) : (s.setSpoolBank b x).boot = s.boot := rfl
@[simp] theorem State.setLayer_pending (s : State) (i : Nat) (x : LayerSt) : (s.setLayer i x).pending = s.pending := rfl
@[simp] theorem State.setLayer_emitted (s : State) (i : Nat) (x : LayerSt) : (s.setLayer i x).emitted = s.emitted := rfl
@[simp] theorem State.setLayer_free (s : State) (i : Nat) (x : LayerSt) : (s.setLayer i x).free = s.free := rfl
@[simp] theorem State.setLayer_now (s : State) (i : Nat) (x : LayerSt) : (s.setLayer i x).now = s.now := rfl
@[simp] theorem State.setLayer_stepped (s : State) (i : Nat) (x : LayerSt) : (s.setLayer i x).stepped = s.stepped := rfl
@[simp] theorem State.setLayer_mode (s : State) (i : Nat) (x : LayerSt) : (s.setLayer i x).mode = s.mode := rfl
@[simp] theorem State.setLayer_dict (s : State) (i : Nat) (x : LayerSt) : (s.setLayer i x).dict = s.dict := rfl
@[simp] theorem State.setLayer_log (s : State) (i : Nat) (x : LayerSt) : (s.setLayer i x).log = s.log := rfl
@[simp] theorem State.setLayer_faults (s : State) (i : Nat) (x : LayerSt) : (s.setLayer i x).faults = s.faults := rfl
@[simp] theorem State.setLayer_req (s : State) (i : Nat) (x : LayerSt) : (s.setLayer i x).req = s.req := rfl
@[simp] theorem State.setLayer_pair (s : State) (i : Nat) (x : LayerSt) : (s.setLayer i x).pair = s.pair := rfl
@[simp] theorem State.setLayer_ref (s : State) (i : Nat) (x : LayerSt) : (s.setLayer i x).ref = s.ref := rfl
@[simp] theorem State.setLayer_boot (s : State) (i : Nat) (x : LayerSt) : (s.setLayer i x).boot = s.boot := rfl
@[simp] theorem State.setHead_pending (s : State) (h : Nat) (x : HeadSt) : (s.setHead h x).pending = s.pending := rfl
@[simp] theorem State.setHead_emitted (s : State) (h : Nat) (x : HeadSt) : (s.setHead h x).emitted = s.emitted := rfl
@[simp] theorem State.setHead_free (s : State) (h : Nat) (x : HeadSt) : (s.setHead h x).free = s.free := rfl
@[simp] theorem State.setHead_now (s : State) (h : Nat) (x : HeadSt) : (s.setHead h x).now = s.now := rfl
@[simp] theorem State.setHead_stepped (s : State) (h : Nat) (x : HeadSt) : (s.setHead h x).stepped = s.stepped := rfl
@[simp] theorem State.setHead_mode (s : State) (h : Nat) (x : HeadSt) : (s.setHead h x).mode = s.mode := rfl
@[simp] theorem State.setHead_dict (s : State) (h : Nat) (x : HeadSt) : (s.setHead h x).dict = s.dict := rfl
@[simp] theorem State.setHead_log (s : State) (h : Nat) (x : HeadSt) : (s.setHead h x).log = s.log := rfl
@[simp] theorem State.setHead_faults (s : State) (h : Nat) (x : HeadSt) : (s.setHead h x).faults = s.faults := rfl
@[simp] theorem State.setHead_req (s : State) (h : Nat) (x : HeadSt) : (s.setHead h x).req = s.req := rfl
@[simp] theorem State.setHead_pair (s : State) (h : Nat) (x : HeadSt) : (s.setHead h x).pair = s.pair := rfl
@[simp] theorem State.setHead_ref (s : State) (h : Nat) (x : HeadSt) : (s.setHead h x).ref = s.ref := rfl
@[simp] theorem State.setHead_boot (s : State) (h : Nat) (x : HeadSt) : (s.setHead h x).boot = s.boot := rfl
@[simp] theorem State.setSprite_sprite (s : State) (n : Nat) (x : Sprite) (k : Nat) : (s.setSprite n x).sprite k = if k = n then x else s.sprite k := by
  simp [State.setSprite, State.sprite]
@[simp] theorem State.setSprite_pending (s : State) (n : Nat) (x : Sprite) : (s.setSprite n x).pending = s.pending := rfl
@[simp] theorem State.setSprite_emitted (s : State) (n : Nat) (x : Sprite) : (s.setSprite n x).emitted = s.emitted := rfl
@[simp] theorem State.setSprite_free (s : State) (n : Nat) (x : Sprite) : (s.setSprite n x).free = s.free := rfl
@[simp] theorem State.setSprite_now (s : State) (n : Nat) (x : Sprite) : (s.setSprite n x).now = s.now := rfl
@[simp] theorem State.setSprite_stepped (s : State) (n : Nat) (x : Sprite) : (s.setSprite n x).stepped = s.stepped := rfl
@[simp] theorem State.setSprite_mode (s : State) (n : Nat) (x : Sprite) : (s.setSprite n x).mode = s.mode := rfl
@[simp] theorem State.setSprite_dict (s : State) (n : Nat) (x : Sprite) : (s.setSprite n x).dict = s.dict := rfl
@[simp] theorem State.setSprite_log (s : State) (n : Nat) (x : Sprite) : (s.setSprite n x).log = s.log := rfl
@[simp] theorem State.setSprite_faults (s : State) (n : Nat) (x : Sprite) : (s.setSprite n x).faults = s.faults := rfl
@[simp] theorem State.setSprite_req (s : State) (n : Nat) (x : Sprite) : (s.setSprite n x).req = s.req := rfl
@[simp] theorem State.setSprite_pair (s : State) (n : Nat) (x : Sprite) : (s.setSprite n x).pair = s.pair := rfl
@[simp] theorem State.setSprite_ref (s : State) (n : Nat) (x : Sprite) : (s.setSprite n x).ref = s.ref := rfl
@[simp] theorem State.setSprite_boot (s : State) (n : Nat) (x : Sprite) : (s.setSprite n x).boot = s.boot := rfl
@[simp] theorem State.setIn_in_ (s : State) (j : Nat) (x : InFlow) (k : Nat) : (s.setIn j x).in_ k = if k = j then x else s.in_ k := by
  simp [State.setIn, State.in_]
@[simp] theorem State.setIn_pending (s : State) (j : Nat) (x : InFlow) : (s.setIn j x).pending = s.pending := rfl
@[simp] theorem State.setIn_emitted (s : State) (j : Nat) (x : InFlow) : (s.setIn j x).emitted = s.emitted := rfl
@[simp] theorem State.setIn_free (s : State) (j : Nat) (x : InFlow) : (s.setIn j x).free = s.free := rfl
@[simp] theorem State.setIn_now (s : State) (j : Nat) (x : InFlow) : (s.setIn j x).now = s.now := rfl
@[simp] theorem State.setIn_stepped (s : State) (j : Nat) (x : InFlow) : (s.setIn j x).stepped = s.stepped := rfl
@[simp] theorem State.setIn_mode (s : State) (j : Nat) (x : InFlow) : (s.setIn j x).mode = s.mode := rfl
@[simp] theorem State.setIn_dict (s : State) (j : Nat) (x : InFlow) : (s.setIn j x).dict = s.dict := rfl
@[simp] theorem State.setIn_log (s : State) (j : Nat) (x : InFlow) : (s.setIn j x).log = s.log := rfl
@[simp] theorem State.setIn_faults (s : State) (j : Nat) (x : InFlow) : (s.setIn j x).faults = s.faults := rfl
@[simp] theorem State.setIn_req (s : State) (j : Nat) (x : InFlow) : (s.setIn j x).req = s.req := rfl
@[simp] theorem State.setIn_pair (s : State) (j : Nat) (x : InFlow) : (s.setIn j x).pair = s.pair := rfl
@[simp] theorem State.setIn_ref (s : State) (j : Nat) (x : InFlow) : (s.setIn j x).ref = s.ref := rfl
@[simp] theorem State.setIn_boot (s : State) (j : Nat) (x : InFlow) : (s.setIn j x).boot = s.boot := rfl
@[simp] theorem State.setOut_out (s : State) (j : Nat) (x : OutFlow) (k : Nat) : (s.setOut j x).out k = if k = j then x else s.out k := by
  simp [State.setOut, State.out]
@[simp] theorem State.setOut_pending (s : State) (j : Nat) (x : OutFlow) : (s.setOut j x).pending = s.pending := rfl
@[simp] theorem State.setOut_emitted (s : State) (j : Nat) (x : OutFlow) : (s.setOut j x).emitted = s.emitted := rfl
@[simp] theorem State.setOut_free (s : State) (j : Nat) (x : OutFlow) : (s.setOut j x).free = s.free := rfl
@[simp] theorem State.setOut_now (s : State) (j : Nat) (x : OutFlow) : (s.setOut j x).now = s.now := rfl
@[simp] theorem State.setOut_stepped (s : State) (j : Nat) (x : OutFlow) : (s.setOut j x).stepped = s.stepped := rfl
@[simp] theorem State.setOut_mode (s : State) (j : Nat) (x : OutFlow) : (s.setOut j x).mode = s.mode := rfl
@[simp] theorem State.setOut_dict (s : State) (j : Nat) (x : OutFlow) : (s.setOut j x).dict = s.dict := rfl
@[simp] theorem State.setOut_log (s : State) (j : Nat) (x : OutFlow) : (s.setOut j x).log = s.log := rfl
@[simp] theorem State.setOut_faults (s : State) (j : Nat) (x : OutFlow) : (s.setOut j x).faults = s.faults := rfl
@[simp] theorem State.setOut_req (s : State) (j : Nat) (x : OutFlow) : (s.setOut j x).req = s.req := rfl
@[simp] theorem State.setOut_pair (s : State) (j : Nat) (x : OutFlow) : (s.setOut j x).pair = s.pair := rfl
@[simp] theorem State.setOut_ref (s : State) (j : Nat) (x : OutFlow) : (s.setOut j x).ref = s.ref := rfl
@[simp] theorem State.setOut_boot (s : State) (j : Nat) (x : OutFlow) : (s.setOut j x).boot = s.boot := rfl
@[simp] theorem State.setCells_cellsOf (s : State) (n : Nat) (x : Cells) (k : Nat) : (s.setCells n x).cellsOf k = if k = n then x else s.cellsOf k := by
  simp [State.setCells, State.cellsOf]
@[simp] theorem State.setCells_pending (s : State) (n : Nat) (x : Cells) : (s.setCells n x).pending = s.pending := rfl
@[simp] theorem State.setCells_emitted (s : State) (n : Nat) (x : Cells) : (s.setCells n x).emitted = s.emitted := rfl
@[simp] theorem State.setCells_free (s : State) (n : Nat) (x : Cells) : (s.setCells n x).free = s.free := rfl
@[simp] theorem State.setCells_now (s : State) (n : Nat) (x : Cells) : (s.setCells n x).now = s.now := rfl
@[simp] theorem State.setCells_stepped (s : State) (n : Nat) (x : Cells) : (s.setCells n x).stepped = s.stepped := rfl
@[simp] theorem State.setCells_mode (s : State) (n : Nat) (x : Cells) : (s.setCells n x).mode = s.mode := rfl
@[simp] theorem State.setCells_dict (s : State) (n : Nat) (x : Cells) : (s.setCells n x).dict = s.dict := rfl
@[simp] theorem State.setCells_log (s : State) (n : Nat) (x : Cells) : (s.setCells n x).log = s.log := rfl
@[simp] theorem State.setCells_faults (s : State) (n : Nat) (x : Cells) : (s.setCells n x).faults = s.faults := rfl
@[simp] theorem State.setCells_req (s : State) (n : Nat) (x : Cells) : (s.setCells n x).req = s.req := rfl
@[simp] theorem State.setCells_pair (s : State) (n : Nat) (x : Cells) : (s.setCells n x).pair = s.pair := rfl
@[simp] theorem State.setCells_ref (s : State) (n : Nat) (x : Cells) : (s.setCells n x).ref = s.ref := rfl
@[simp] theorem State.setCells_boot (s : State) (n : Nat) (x : Cells) : (s.setCells n x).boot = s.boot := rfl
@[simp] theorem State.setFline_fline (s : State) (n : Nat) (x : FieldLine) (k : Nat) : (s.setFline n x).fline k = if k = n then x else s.fline k := by
  simp [State.setFline, State.fline]
@[simp] theorem State.setFline_pending (s : State) (n : Nat) (x : FieldLine) : (s.setFline n x).pending = s.pending := rfl
@[simp] theorem State.setFline_emitted (s : State) (n : Nat) (x : FieldLine) : (s.setFline n x).emitted = s.emitted := rfl
@[simp] theorem State.setFline_free (s : State) (n : Nat) (x : FieldLine) : (s.setFline n x).free = s.free := rfl
@[simp] theorem State.setFline_now (s : State) (n : Nat) (x : FieldLine) : (s.setFline n x).now = s.now := rfl
@[simp] theorem State.setFline_stepped (s : State) (n : Nat) (x : FieldLine) : (s.setFline n x).stepped = s.stepped := rfl
@[simp] theorem State.setFline_mode (s : State) (n : Nat) (x : FieldLine) : (s.setFline n x).mode = s.mode := rfl
@[simp] theorem State.setFline_dict (s : State) (n : Nat) (x : FieldLine) : (s.setFline n x).dict = s.dict := rfl
@[simp] theorem State.setFline_log (s : State) (n : Nat) (x : FieldLine) : (s.setFline n x).log = s.log := rfl
@[simp] theorem State.setFline_faults (s : State) (n : Nat) (x : FieldLine) : (s.setFline n x).faults = s.faults := rfl
@[simp] theorem State.setFline_req (s : State) (n : Nat) (x : FieldLine) : (s.setFline n x).req = s.req := rfl
@[simp] theorem State.setFline_pair (s : State) (n : Nat) (x : FieldLine) : (s.setFline n x).pair = s.pair := rfl
@[simp] theorem State.setFline_ref (s : State) (n : Nat) (x : FieldLine) : (s.setFline n x).ref = s.ref := rfl
@[simp] theorem State.setFline_boot (s : State) (n : Nat) (x : FieldLine) : (s.setFline n x).boot = s.boot := rfl
@[simp] theorem State.setFieldPort_pending (s : State) (p : Nat) (x : PortLine) : (s.setFieldPort p x).pending = s.pending := rfl
@[simp] theorem State.setFieldPort_emitted (s : State) (p : Nat) (x : PortLine) : (s.setFieldPort p x).emitted = s.emitted := rfl
@[simp] theorem State.setFieldPort_free (s : State) (p : Nat) (x : PortLine) : (s.setFieldPort p x).free = s.free := rfl
@[simp] theorem State.setFieldPort_now (s : State) (p : Nat) (x : PortLine) : (s.setFieldPort p x).now = s.now := rfl
@[simp] theorem State.setFieldPort_stepped (s : State) (p : Nat) (x : PortLine) : (s.setFieldPort p x).stepped = s.stepped := rfl
@[simp] theorem State.setFieldPort_mode (s : State) (p : Nat) (x : PortLine) : (s.setFieldPort p x).mode = s.mode := rfl
@[simp] theorem State.setFieldPort_dict (s : State) (p : Nat) (x : PortLine) : (s.setFieldPort p x).dict = s.dict := rfl
@[simp] theorem State.setFieldPort_log (s : State) (p : Nat) (x : PortLine) : (s.setFieldPort p x).log = s.log := rfl
@[simp] theorem State.setFieldPort_faults (s : State) (p : Nat) (x : PortLine) : (s.setFieldPort p x).faults = s.faults := rfl
@[simp] theorem State.setFieldPort_req (s : State) (p : Nat) (x : PortLine) : (s.setFieldPort p x).req = s.req := rfl
@[simp] theorem State.setFieldPort_pair (s : State) (p : Nat) (x : PortLine) : (s.setFieldPort p x).pair = s.pair := rfl
@[simp] theorem State.setFieldPort_ref (s : State) (p : Nat) (x : PortLine) : (s.setFieldPort p x).ref = s.ref := rfl
@[simp] theorem State.setFieldPort_boot (s : State) (p : Nat) (x : PortLine) : (s.setFieldPort p x).boot = s.boot := rfl
@[simp] theorem State.setTport_tport (s : State) (p : Nat) (x : TetherPort) (k : Nat) : (s.setTport p x).tport k = if k = p then x else s.tport k := by
  simp [State.setTport, State.tport]
@[simp] theorem State.setTport_pending (s : State) (p : Nat) (x : TetherPort) : (s.setTport p x).pending = s.pending := rfl
@[simp] theorem State.setTport_emitted (s : State) (p : Nat) (x : TetherPort) : (s.setTport p x).emitted = s.emitted := rfl
@[simp] theorem State.setTport_free (s : State) (p : Nat) (x : TetherPort) : (s.setTport p x).free = s.free := rfl
@[simp] theorem State.setTport_now (s : State) (p : Nat) (x : TetherPort) : (s.setTport p x).now = s.now := rfl
@[simp] theorem State.setTport_stepped (s : State) (p : Nat) (x : TetherPort) : (s.setTport p x).stepped = s.stepped := rfl
@[simp] theorem State.setTport_mode (s : State) (p : Nat) (x : TetherPort) : (s.setTport p x).mode = s.mode := rfl
@[simp] theorem State.setTport_dict (s : State) (p : Nat) (x : TetherPort) : (s.setTport p x).dict = s.dict := rfl
@[simp] theorem State.setTport_log (s : State) (p : Nat) (x : TetherPort) : (s.setTport p x).log = s.log := rfl
@[simp] theorem State.setTport_faults (s : State) (p : Nat) (x : TetherPort) : (s.setTport p x).faults = s.faults := rfl
@[simp] theorem State.setTport_req (s : State) (p : Nat) (x : TetherPort) : (s.setTport p x).req = s.req := rfl
@[simp] theorem State.setTport_pair (s : State) (p : Nat) (x : TetherPort) : (s.setTport p x).pair = s.pair := rfl
@[simp] theorem State.setTport_ref (s : State) (p : Nat) (x : TetherPort) : (s.setTport p x).ref = s.ref := rfl
@[simp] theorem State.setTport_boot (s : State) (p : Nat) (x : TetherPort) : (s.setTport p x).boot = s.boot := rfl
@[simp] theorem State.setLane_lane (s : State) (l : Nat) (x : LaneSt) (k : Nat) : (s.setLane l x).lane k = if k = l then x else s.lane k := by
  simp [State.setLane, State.lane]
@[simp] theorem State.setLane_pending (s : State) (l : Nat) (x : LaneSt) : (s.setLane l x).pending = s.pending := rfl
@[simp] theorem State.setLane_emitted (s : State) (l : Nat) (x : LaneSt) : (s.setLane l x).emitted = s.emitted := rfl
@[simp] theorem State.setLane_free (s : State) (l : Nat) (x : LaneSt) : (s.setLane l x).free = s.free := rfl
@[simp] theorem State.setLane_now (s : State) (l : Nat) (x : LaneSt) : (s.setLane l x).now = s.now := rfl
@[simp] theorem State.setLane_stepped (s : State) (l : Nat) (x : LaneSt) : (s.setLane l x).stepped = s.stepped := rfl
@[simp] theorem State.setLane_mode (s : State) (l : Nat) (x : LaneSt) : (s.setLane l x).mode = s.mode := rfl
@[simp] theorem State.setLane_dict (s : State) (l : Nat) (x : LaneSt) : (s.setLane l x).dict = s.dict := rfl
@[simp] theorem State.setLane_log (s : State) (l : Nat) (x : LaneSt) : (s.setLane l x).log = s.log := rfl
@[simp] theorem State.setLane_faults (s : State) (l : Nat) (x : LaneSt) : (s.setLane l x).faults = s.faults := rfl
@[simp] theorem State.setLane_req (s : State) (l : Nat) (x : LaneSt) : (s.setLane l x).req = s.req := rfl
@[simp] theorem State.setLane_pair (s : State) (l : Nat) (x : LaneSt) : (s.setLane l x).pair = s.pair := rfl
@[simp] theorem State.setLane_ref (s : State) (l : Nat) (x : LaneSt) : (s.setLane l x).ref = s.ref := rfl
@[simp] theorem State.setLane_boot (s : State) (l : Nat) (x : LaneSt) : (s.setLane l x).boot = s.boot := rfl
@[simp] theorem State.setSynth_synth (s : State) (y : Nat) (x : Synth) (k : Nat) : (s.setSynth y x).synth k = if k = y then x else s.synth k := by
  simp [State.setSynth, State.synth]
@[simp] theorem State.setSynth_pending (s : State) (y : Nat) (x : Synth) : (s.setSynth y x).pending = s.pending := rfl
@[simp] theorem State.setSynth_emitted (s : State) (y : Nat) (x : Synth) : (s.setSynth y x).emitted = s.emitted := rfl
@[simp] theorem State.setSynth_free (s : State) (y : Nat) (x : Synth) : (s.setSynth y x).free = s.free := rfl
@[simp] theorem State.setSynth_now (s : State) (y : Nat) (x : Synth) : (s.setSynth y x).now = s.now := rfl
@[simp] theorem State.setSynth_stepped (s : State) (y : Nat) (x : Synth) : (s.setSynth y x).stepped = s.stepped := rfl
@[simp] theorem State.setSynth_mode (s : State) (y : Nat) (x : Synth) : (s.setSynth y x).mode = s.mode := rfl
@[simp] theorem State.setSynth_dict (s : State) (y : Nat) (x : Synth) : (s.setSynth y x).dict = s.dict := rfl
@[simp] theorem State.setSynth_log (s : State) (y : Nat) (x : Synth) : (s.setSynth y x).log = s.log := rfl
@[simp] theorem State.setSynth_faults (s : State) (y : Nat) (x : Synth) : (s.setSynth y x).faults = s.faults := rfl
@[simp] theorem State.setSynth_req (s : State) (y : Nat) (x : Synth) : (s.setSynth y x).req = s.req := rfl
@[simp] theorem State.setSynth_pair (s : State) (y : Nat) (x : Synth) : (s.setSynth y x).pair = s.pair := rfl
@[simp] theorem State.setSynth_ref (s : State) (y : Nat) (x : Synth) : (s.setSynth y x).ref = s.ref := rfl
@[simp] theorem State.setSynth_boot (s : State) (y : Nat) (x : Synth) : (s.setSynth y x).boot = s.boot := rfl
@[simp] theorem State.put_pending (s : State) (idx sub : Nat) (v : Word) : (s.put idx sub v).pending = s.pending := rfl
@[simp] theorem State.put_emitted (s : State) (idx sub : Nat) (v : Word) : (s.put idx sub v).emitted = s.emitted := rfl
@[simp] theorem State.put_free (s : State) (idx sub : Nat) (v : Word) : (s.put idx sub v).free = s.free := rfl
@[simp] theorem State.put_now (s : State) (idx sub : Nat) (v : Word) : (s.put idx sub v).now = s.now := rfl
@[simp] theorem State.put_stepped (s : State) (idx sub : Nat) (v : Word) : (s.put idx sub v).stepped = s.stepped := rfl
@[simp] theorem State.put_mode (s : State) (idx sub : Nat) (v : Word) : (s.put idx sub v).mode = s.mode := rfl
@[simp] theorem State.put_log (s : State) (idx sub : Nat) (v : Word) : (s.put idx sub v).log = s.log := rfl
@[simp] theorem State.put_faults (s : State) (idx sub : Nat) (v : Word) : (s.put idx sub v).faults = s.faults := rfl
@[simp] theorem State.put_req (s : State) (idx sub : Nat) (v : Word) : (s.put idx sub v).req = s.req := rfl
@[simp] theorem State.put_pair (s : State) (idx sub : Nat) (v : Word) : (s.put idx sub v).pair = s.pair := rfl
@[simp] theorem State.put_ref (s : State) (idx sub : Nat) (v : Word) : (s.put idx sub v).ref = s.ref := rfl
@[simp] theorem State.put_boot (s : State) (idx sub : Nat) (v : Word) : (s.put idx sub v).boot = s.boot := rfl
@[simp] theorem State.putShadow_pending (s : State) (idx sub : Nat) (v : Word) : (s.putShadow idx sub v).pending = s.pending := rfl
@[simp] theorem State.putShadow_emitted (s : State) (idx sub : Nat) (v : Word) : (s.putShadow idx sub v).emitted = s.emitted := rfl
@[simp] theorem State.putShadow_free (s : State) (idx sub : Nat) (v : Word) : (s.putShadow idx sub v).free = s.free := rfl
@[simp] theorem State.putShadow_now (s : State) (idx sub : Nat) (v : Word) : (s.putShadow idx sub v).now = s.now := rfl
@[simp] theorem State.putShadow_stepped (s : State) (idx sub : Nat) (v : Word) : (s.putShadow idx sub v).stepped = s.stepped := rfl
@[simp] theorem State.putShadow_mode (s : State) (idx sub : Nat) (v : Word) : (s.putShadow idx sub v).mode = s.mode := rfl
@[simp] theorem State.putShadow_dict (s : State) (idx sub : Nat) (v : Word) : (s.putShadow idx sub v).dict = s.dict := rfl
@[simp] theorem State.putShadow_log (s : State) (idx sub : Nat) (v : Word) : (s.putShadow idx sub v).log = s.log := rfl
@[simp] theorem State.putShadow_faults (s : State) (idx sub : Nat) (v : Word) : (s.putShadow idx sub v).faults = s.faults := rfl
@[simp] theorem State.putShadow_req (s : State) (idx sub : Nat) (v : Word) : (s.putShadow idx sub v).req = s.req := rfl
@[simp] theorem State.putShadow_pair (s : State) (idx sub : Nat) (v : Word) : (s.putShadow idx sub v).pair = s.pair := rfl
@[simp] theorem State.putShadow_ref (s : State) (idx sub : Nat) (v : Word) : (s.putShadow idx sub v).ref = s.ref := rfl
@[simp] theorem State.putShadow_boot (s : State) (idx sub : Nat) (v : Word) : (s.putShadow idx sub v).boot = s.boot := rfl
@[simp] theorem State.putAir_pending (s : State) (idx sub : Nat) (v : Word) : (s.putAir idx sub v).pending = s.pending := rfl
@[simp] theorem State.putAir_emitted (s : State) (idx sub : Nat) (v : Word) : (s.putAir idx sub v).emitted = s.emitted := rfl
@[simp] theorem State.putAir_free (s : State) (idx sub : Nat) (v : Word) : (s.putAir idx sub v).free = s.free := rfl
@[simp] theorem State.putAir_now (s : State) (idx sub : Nat) (v : Word) : (s.putAir idx sub v).now = s.now := rfl
@[simp] theorem State.putAir_stepped (s : State) (idx sub : Nat) (v : Word) : (s.putAir idx sub v).stepped = s.stepped := rfl
@[simp] theorem State.putAir_mode (s : State) (idx sub : Nat) (v : Word) : (s.putAir idx sub v).mode = s.mode := rfl
@[simp] theorem State.putAir_dict (s : State) (idx sub : Nat) (v : Word) : (s.putAir idx sub v).dict = s.dict := rfl
@[simp] theorem State.putAir_log (s : State) (idx sub : Nat) (v : Word) : (s.putAir idx sub v).log = s.log := rfl
@[simp] theorem State.putAir_faults (s : State) (idx sub : Nat) (v : Word) : (s.putAir idx sub v).faults = s.faults := rfl
@[simp] theorem State.putAir_req (s : State) (idx sub : Nat) (v : Word) : (s.putAir idx sub v).req = s.req := rfl
@[simp] theorem State.putAir_pair (s : State) (idx sub : Nat) (v : Word) : (s.putAir idx sub v).pair = s.pair := rfl
@[simp] theorem State.putAir_ref (s : State) (idx sub : Nat) (v : Word) : (s.putAir idx sub v).ref = s.ref := rfl
@[simp] theorem State.putAir_boot (s : State) (idx sub : Nat) (v : Word) : (s.putAir idx sub v).boot = s.boot := rfl
@[simp] theorem State.putBlob_pending (s : State) (idx sub : Nat) (b : List Byte) : (s.putBlob idx sub b).pending = s.pending := rfl
@[simp] theorem State.putBlob_emitted (s : State) (idx sub : Nat) (b : List Byte) : (s.putBlob idx sub b).emitted = s.emitted := rfl
@[simp] theorem State.putBlob_free (s : State) (idx sub : Nat) (b : List Byte) : (s.putBlob idx sub b).free = s.free := rfl
@[simp] theorem State.putBlob_now (s : State) (idx sub : Nat) (b : List Byte) : (s.putBlob idx sub b).now = s.now := rfl
@[simp] theorem State.putBlob_stepped (s : State) (idx sub : Nat) (b : List Byte) : (s.putBlob idx sub b).stepped = s.stepped := rfl
@[simp] theorem State.putBlob_mode (s : State) (idx sub : Nat) (b : List Byte) : (s.putBlob idx sub b).mode = s.mode := rfl
@[simp] theorem State.putBlob_dict (s : State) (idx sub : Nat) (b : List Byte) : (s.putBlob idx sub b).dict = s.dict := rfl
@[simp] theorem State.putBlob_log (s : State) (idx sub : Nat) (b : List Byte) : (s.putBlob idx sub b).log = s.log := rfl
@[simp] theorem State.putBlob_faults (s : State) (idx sub : Nat) (b : List Byte) : (s.putBlob idx sub b).faults = s.faults := rfl
@[simp] theorem State.putBlob_req (s : State) (idx sub : Nat) (b : List Byte) : (s.putBlob idx sub b).req = s.req := rfl
@[simp] theorem State.putBlob_pair (s : State) (idx sub : Nat) (b : List Byte) : (s.putBlob idx sub b).pair = s.pair := rfl
@[simp] theorem State.putBlob_ref (s : State) (idx sub : Nat) (b : List Byte) : (s.putBlob idx sub b).ref = s.ref := rfl
@[simp] theorem State.putBlob_boot (s : State) (idx sub : Nat) (b : List Byte) : (s.putBlob idx sub b).boot = s.boot := rfl
@[simp] theorem State.setPlane_plane (s : State) (p : Nat) (x : Plane) (k : Nat) : (s.setPlane p x).plane k = if k = p then x else s.plane k := by
  simp [State.setPlane, State.plane]
@[simp] theorem State.setPlane_pending (s : State) (p : Nat) (x : Plane) : (s.setPlane p x).pending = s.pending := rfl
@[simp] theorem State.setPlane_emitted (s : State) (p : Nat) (x : Plane) : (s.setPlane p x).emitted = s.emitted := rfl
@[simp] theorem State.setPlane_free (s : State) (p : Nat) (x : Plane) : (s.setPlane p x).free = s.free := rfl
@[simp] theorem State.setPlane_now (s : State) (p : Nat) (x : Plane) : (s.setPlane p x).now = s.now := rfl
@[simp] theorem State.setPlane_stepped (s : State) (p : Nat) (x : Plane) : (s.setPlane p x).stepped = s.stepped := rfl
@[simp] theorem State.setPlane_mode (s : State) (p : Nat) (x : Plane) : (s.setPlane p x).mode = s.mode := rfl
@[simp] theorem State.setPlane_dict (s : State) (p : Nat) (x : Plane) : (s.setPlane p x).dict = s.dict := rfl
@[simp] theorem State.setPlane_log (s : State) (p : Nat) (x : Plane) : (s.setPlane p x).log = s.log := rfl
@[simp] theorem State.setPlane_faults (s : State) (p : Nat) (x : Plane) : (s.setPlane p x).faults = s.faults := rfl
@[simp] theorem State.setPlane_req (s : State) (p : Nat) (x : Plane) : (s.setPlane p x).req = s.req := rfl
@[simp] theorem State.setPlane_pair (s : State) (p : Nat) (x : Plane) : (s.setPlane p x).pair = s.pair := rfl
@[simp] theorem State.setPlane_ref (s : State) (p : Nat) (x : Plane) : (s.setPlane p x).ref = s.ref := rfl
@[simp] theorem State.setPlane_boot (s : State) (p : Nat) (x : Plane) : (s.setPlane p x).boot = s.boot := rfl
@[simp] theorem State.setBank_bank (s : State) (b : Nat) (x : BankSt) (k : Nat) : (s.setBank b x).bank k = if k = b then x else s.bank k := by
  simp [State.setBank, State.bank]
@[simp] theorem State.setBank_pending (s : State) (b : Nat) (x : BankSt) : (s.setBank b x).pending = s.pending := rfl
@[simp] theorem State.setBank_emitted (s : State) (b : Nat) (x : BankSt) : (s.setBank b x).emitted = s.emitted := rfl
@[simp] theorem State.setBank_free (s : State) (b : Nat) (x : BankSt) : (s.setBank b x).free = s.free := rfl
@[simp] theorem State.setBank_now (s : State) (b : Nat) (x : BankSt) : (s.setBank b x).now = s.now := rfl
@[simp] theorem State.setBank_stepped (s : State) (b : Nat) (x : BankSt) : (s.setBank b x).stepped = s.stepped := rfl
@[simp] theorem State.setBank_mode (s : State) (b : Nat) (x : BankSt) : (s.setBank b x).mode = s.mode := rfl
@[simp] theorem State.setBank_dict (s : State) (b : Nat) (x : BankSt) : (s.setBank b x).dict = s.dict := rfl
@[simp] theorem State.setBank_log (s : State) (b : Nat) (x : BankSt) : (s.setBank b x).log = s.log := rfl
@[simp] theorem State.setBank_faults (s : State) (b : Nat) (x : BankSt) : (s.setBank b x).faults = s.faults := rfl
@[simp] theorem State.setBank_req (s : State) (b : Nat) (x : BankSt) : (s.setBank b x).req = s.req := rfl
@[simp] theorem State.setBank_pair (s : State) (b : Nat) (x : BankSt) : (s.setBank b x).pair = s.pair := rfl
@[simp] theorem State.setBank_ref (s : State) (b : Nat) (x : BankSt) : (s.setBank b x).ref = s.ref := rfl
@[simp] theorem State.setBank_boot (s : State) (b : Nat) (x : BankSt) : (s.setBank b x).boot = s.boot := rfl
@[simp] theorem State.setSource_source (s : State) (n : Nat) (x : FaultSrc) (k : Nat) : (s.setSource n x).source k = if k = n then x else s.source k := by
  simp [State.setSource, State.source]
@[simp] theorem State.setSource_pending (s : State) (n : Nat) (x : FaultSrc) : (s.setSource n x).pending = s.pending := rfl
@[simp] theorem State.setSource_emitted (s : State) (n : Nat) (x : FaultSrc) : (s.setSource n x).emitted = s.emitted := rfl
@[simp] theorem State.setSource_free (s : State) (n : Nat) (x : FaultSrc) : (s.setSource n x).free = s.free := rfl
@[simp] theorem State.setSource_now (s : State) (n : Nat) (x : FaultSrc) : (s.setSource n x).now = s.now := rfl
@[simp] theorem State.setSource_stepped (s : State) (n : Nat) (x : FaultSrc) : (s.setSource n x).stepped = s.stepped := rfl
@[simp] theorem State.setSource_mode (s : State) (n : Nat) (x : FaultSrc) : (s.setSource n x).mode = s.mode := rfl
@[simp] theorem State.setSource_dict (s : State) (n : Nat) (x : FaultSrc) : (s.setSource n x).dict = s.dict := rfl
@[simp] theorem State.setSource_log (s : State) (n : Nat) (x : FaultSrc) : (s.setSource n x).log = s.log := rfl
@[simp] theorem State.setSource_req (s : State) (n : Nat) (x : FaultSrc) : (s.setSource n x).req = s.req := rfl
@[simp] theorem State.setSource_pair (s : State) (n : Nat) (x : FaultSrc) : (s.setSource n x).pair = s.pair := rfl
@[simp] theorem State.setSource_ref (s : State) (n : Nat) (x : FaultSrc) : (s.setSource n x).ref = s.ref := rfl
@[simp] theorem State.setSource_boot (s : State) (n : Nat) (x : FaultSrc) : (s.setSource n x).boot = s.boot := rfl
@[simp] theorem State.setWindow_window (s : State) (w : Nat) (x : WindowOp) (k : Nat) : (s.setWindow w x).window k = if k = w then x else s.window k := by
  simp [State.setWindow, State.window]
@[simp] theorem State.setWindow_pending (s : State) (w : Nat) (x : WindowOp) : (s.setWindow w x).pending = s.pending := rfl
@[simp] theorem State.setWindow_emitted (s : State) (w : Nat) (x : WindowOp) : (s.setWindow w x).emitted = s.emitted := rfl
@[simp] theorem State.setWindow_free (s : State) (w : Nat) (x : WindowOp) : (s.setWindow w x).free = s.free := rfl
@[simp] theorem State.setWindow_now (s : State) (w : Nat) (x : WindowOp) : (s.setWindow w x).now = s.now := rfl
@[simp] theorem State.setWindow_stepped (s : State) (w : Nat) (x : WindowOp) : (s.setWindow w x).stepped = s.stepped := rfl
@[simp] theorem State.setWindow_mode (s : State) (w : Nat) (x : WindowOp) : (s.setWindow w x).mode = s.mode := rfl
@[simp] theorem State.setWindow_dict (s : State) (w : Nat) (x : WindowOp) : (s.setWindow w x).dict = s.dict := rfl
@[simp] theorem State.setWindow_log (s : State) (w : Nat) (x : WindowOp) : (s.setWindow w x).log = s.log := rfl
@[simp] theorem State.setWindow_faults (s : State) (w : Nat) (x : WindowOp) : (s.setWindow w x).faults = s.faults := rfl
@[simp] theorem State.setWindow_req (s : State) (w : Nat) (x : WindowOp) : (s.setWindow w x).req = s.req := rfl
@[simp] theorem State.setWindow_pair (s : State) (w : Nat) (x : WindowOp) : (s.setWindow w x).pair = s.pair := rfl
@[simp] theorem State.setWindow_ref (s : State) (w : Nat) (x : WindowOp) : (s.setWindow w x).ref = s.ref := rfl
@[simp] theorem State.setWindow_boot (s : State) (w : Nat) (x : WindowOp) : (s.setWindow w x).boot = s.boot := rfl
@[simp] theorem State.draw_pending (s : State)  : (s.draw).pending = s.pending := rfl
@[simp] theorem State.draw_emitted (s : State)  : (s.draw).emitted = s.emitted := rfl
@[simp] theorem State.draw_now (s : State)  : (s.draw).now = s.now := rfl
@[simp] theorem State.draw_stepped (s : State)  : (s.draw).stepped = s.stepped := rfl
@[simp] theorem State.draw_mode (s : State)  : (s.draw).mode = s.mode := rfl
@[simp] theorem State.draw_dict (s : State)  : (s.draw).dict = s.dict := rfl
@[simp] theorem State.draw_log (s : State)  : (s.draw).log = s.log := rfl
@[simp] theorem State.draw_faults (s : State)  : (s.draw).faults = s.faults := rfl
@[simp] theorem State.draw_req (s : State)  : (s.draw).req = s.req := rfl
@[simp] theorem State.draw_pair (s : State)  : (s.draw).pair = s.pair := rfl
@[simp] theorem State.draw_ref (s : State)  : (s.draw).ref = s.ref := rfl
@[simp] theorem State.draw_boot (s : State)  : (s.draw).boot = s.boot := rfl
@[simp] theorem State.setRemote_remoteOf (s : State) (j : Nat) (x : Remote) (k : Nat) : (s.setRemote j x).remoteOf k = if k = j then x else s.remoteOf k := by
  simp [State.setRemote, State.remoteOf]
@[simp] theorem State.setRemote_pending (s : State) (j : Nat) (x : Remote) : (s.setRemote j x).pending = s.pending := rfl
@[simp] theorem State.setRemote_emitted (s : State) (j : Nat) (x : Remote) : (s.setRemote j x).emitted = s.emitted := rfl
@[simp] theorem State.setRemote_free (s : State) (j : Nat) (x : Remote) : (s.setRemote j x).free = s.free := rfl
@[simp] theorem State.setRemote_now (s : State) (j : Nat) (x : Remote) : (s.setRemote j x).now = s.now := rfl
@[simp] theorem State.setRemote_stepped (s : State) (j : Nat) (x : Remote) : (s.setRemote j x).stepped = s.stepped := rfl
@[simp] theorem State.setRemote_mode (s : State) (j : Nat) (x : Remote) : (s.setRemote j x).mode = s.mode := rfl
@[simp] theorem State.setRemote_dict (s : State) (j : Nat) (x : Remote) : (s.setRemote j x).dict = s.dict := rfl
@[simp] theorem State.setRemote_log (s : State) (j : Nat) (x : Remote) : (s.setRemote j x).log = s.log := rfl
@[simp] theorem State.setRemote_faults (s : State) (j : Nat) (x : Remote) : (s.setRemote j x).faults = s.faults := rfl
@[simp] theorem State.setRemote_req (s : State) (j : Nat) (x : Remote) : (s.setRemote j x).req = s.req := rfl
@[simp] theorem State.setRemote_pair (s : State) (j : Nat) (x : Remote) : (s.setRemote j x).pair = s.pair := rfl
@[simp] theorem State.setRemote_ref (s : State) (j : Nat) (x : Remote) : (s.setRemote j x).ref = s.ref := rfl
@[simp] theorem State.setRemote_boot (s : State) (j : Nat) (x : Remote) : (s.setRemote j x).boot = s.boot := rfl
@[simp] theorem State.setCand_cand (s : State) (c : Nat) (x : Cand) (k : Nat) : (s.setCand c x).cand k = if k = c then x else s.cand k := by
  simp [State.setCand, State.cand]
@[simp] theorem State.setCand_pending (s : State) (c : Nat) (x : Cand) : (s.setCand c x).pending = s.pending := rfl
@[simp] theorem State.setCand_emitted (s : State) (c : Nat) (x : Cand) : (s.setCand c x).emitted = s.emitted := rfl
@[simp] theorem State.setCand_free (s : State) (c : Nat) (x : Cand) : (s.setCand c x).free = s.free := rfl
@[simp] theorem State.setCand_now (s : State) (c : Nat) (x : Cand) : (s.setCand c x).now = s.now := rfl
@[simp] theorem State.setCand_stepped (s : State) (c : Nat) (x : Cand) : (s.setCand c x).stepped = s.stepped := rfl
@[simp] theorem State.setCand_mode (s : State) (c : Nat) (x : Cand) : (s.setCand c x).mode = s.mode := rfl
@[simp] theorem State.setCand_dict (s : State) (c : Nat) (x : Cand) : (s.setCand c x).dict = s.dict := rfl
@[simp] theorem State.setCand_log (s : State) (c : Nat) (x : Cand) : (s.setCand c x).log = s.log := rfl
@[simp] theorem State.setCand_faults (s : State) (c : Nat) (x : Cand) : (s.setCand c x).faults = s.faults := rfl
@[simp] theorem State.setCand_req (s : State) (c : Nat) (x : Cand) : (s.setCand c x).req = s.req := rfl
@[simp] theorem State.setCand_pair (s : State) (c : Nat) (x : Cand) : (s.setCand c x).pair = s.pair := rfl
@[simp] theorem State.setCand_boot (s : State) (c : Nat) (x : Cand) : (s.setCand c x).boot = s.boot := rfl
@[simp] theorem State.setPtp_ptpOf (s : State) (i : Nat) (x : Ptp) (k : Nat) : (s.setPtp i x).ptpOf k = if k = i then x else s.ptpOf k := by
  simp [State.setPtp, State.ptpOf]
@[simp] theorem State.setPtp_pending (s : State) (i : Nat) (x : Ptp) : (s.setPtp i x).pending = s.pending := rfl
@[simp] theorem State.setPtp_emitted (s : State) (i : Nat) (x : Ptp) : (s.setPtp i x).emitted = s.emitted := rfl
@[simp] theorem State.setPtp_free (s : State) (i : Nat) (x : Ptp) : (s.setPtp i x).free = s.free := rfl
@[simp] theorem State.setPtp_now (s : State) (i : Nat) (x : Ptp) : (s.setPtp i x).now = s.now := rfl
@[simp] theorem State.setPtp_stepped (s : State) (i : Nat) (x : Ptp) : (s.setPtp i x).stepped = s.stepped := rfl
@[simp] theorem State.setPtp_mode (s : State) (i : Nat) (x : Ptp) : (s.setPtp i x).mode = s.mode := rfl
@[simp] theorem State.setPtp_dict (s : State) (i : Nat) (x : Ptp) : (s.setPtp i x).dict = s.dict := rfl
@[simp] theorem State.setPtp_log (s : State) (i : Nat) (x : Ptp) : (s.setPtp i x).log = s.log := rfl
@[simp] theorem State.setPtp_faults (s : State) (i : Nat) (x : Ptp) : (s.setPtp i x).faults = s.faults := rfl
@[simp] theorem State.setPtp_req (s : State) (i : Nat) (x : Ptp) : (s.setPtp i x).req = s.req := rfl
@[simp] theorem State.setPtp_pair (s : State) (i : Nat) (x : Ptp) : (s.setPtp i x).pair = s.pair := rfl
@[simp] theorem State.setPtp_boot (s : State) (i : Nat) (x : Ptp) : (s.setPtp i x).boot = s.boot := rfl
@[simp] theorem State.setRx_rxOf (s : State) (e : Nat) (x : RxSt) (k : Nat) : (s.setRx e x).rxOf k = if k = e then x else s.rxOf k := by
  simp [State.setRx, State.rxOf]
@[simp] theorem State.setRx_pending (s : State) (e : Nat) (x : RxSt) : (s.setRx e x).pending = s.pending := rfl
@[simp] theorem State.setRx_emitted (s : State) (e : Nat) (x : RxSt) : (s.setRx e x).emitted = s.emitted := rfl
@[simp] theorem State.setRx_free (s : State) (e : Nat) (x : RxSt) : (s.setRx e x).free = s.free := rfl
@[simp] theorem State.setRx_now (s : State) (e : Nat) (x : RxSt) : (s.setRx e x).now = s.now := rfl
@[simp] theorem State.setRx_stepped (s : State) (e : Nat) (x : RxSt) : (s.setRx e x).stepped = s.stepped := rfl
@[simp] theorem State.setRx_mode (s : State) (e : Nat) (x : RxSt) : (s.setRx e x).mode = s.mode := rfl
@[simp] theorem State.setRx_dict (s : State) (e : Nat) (x : RxSt) : (s.setRx e x).dict = s.dict := rfl
@[simp] theorem State.setRx_log (s : State) (e : Nat) (x : RxSt) : (s.setRx e x).log = s.log := rfl
@[simp] theorem State.setRx_faults (s : State) (e : Nat) (x : RxSt) : (s.setRx e x).faults = s.faults := rfl
@[simp] theorem State.setRx_req (s : State) (e : Nat) (x : RxSt) : (s.setRx e x).req = s.req := rfl
@[simp] theorem State.setRx_pair (s : State) (e : Nat) (x : RxSt) : (s.setRx e x).pair = s.pair := rfl
@[simp] theorem State.setRx_ref (s : State) (e : Nat) (x : RxSt) : (s.setRx e x).ref = s.ref := rfl
@[simp] theorem State.setRx_boot (s : State) (e : Nat) (x : RxSt) : (s.setRx e x).boot = s.boot := rfl
@[simp] theorem State.setTx_txOf (s : State) (e : Nat) (x : TxSt) (k : Nat) : (s.setTx e x).txOf k = if k = e then x else s.txOf k := by
  simp [State.setTx, State.txOf]
@[simp] theorem State.setTx_pending (s : State) (e : Nat) (x : TxSt) : (s.setTx e x).pending = s.pending := rfl
@[simp] theorem State.setTx_emitted (s : State) (e : Nat) (x : TxSt) : (s.setTx e x).emitted = s.emitted := rfl
@[simp] theorem State.setTx_free (s : State) (e : Nat) (x : TxSt) : (s.setTx e x).free = s.free := rfl
@[simp] theorem State.setTx_now (s : State) (e : Nat) (x : TxSt) : (s.setTx e x).now = s.now := rfl
@[simp] theorem State.setTx_stepped (s : State) (e : Nat) (x : TxSt) : (s.setTx e x).stepped = s.stepped := rfl
@[simp] theorem State.setTx_mode (s : State) (e : Nat) (x : TxSt) : (s.setTx e x).mode = s.mode := rfl
@[simp] theorem State.setTx_dict (s : State) (e : Nat) (x : TxSt) : (s.setTx e x).dict = s.dict := rfl
@[simp] theorem State.setTx_log (s : State) (e : Nat) (x : TxSt) : (s.setTx e x).log = s.log := rfl
@[simp] theorem State.setTx_faults (s : State) (e : Nat) (x : TxSt) : (s.setTx e x).faults = s.faults := rfl
@[simp] theorem State.setTx_req (s : State) (e : Nat) (x : TxSt) : (s.setTx e x).req = s.req := rfl
@[simp] theorem State.setTx_pair (s : State) (e : Nat) (x : TxSt) : (s.setTx e x).pair = s.pair := rfl
@[simp] theorem State.setTx_ref (s : State) (e : Nat) (x : TxSt) : (s.setTx e x).ref = s.ref := rfl
@[simp] theorem State.setTx_boot (s : State) (e : Nat) (x : TxSt) : (s.setTx e x).boot = s.boot := rfl

@[simp] theorem State.emit_pending (s : State) (e : Emission) : (s.emit e).pending = s.pending := by unfold State.emit; split <;> rfl
@[simp] theorem State.emit_free (s : State) (e : Emission) : (s.emit e).free = s.free := by unfold State.emit; split <;> rfl
@[simp] theorem State.emit_now (s : State) (e : Emission) : (s.emit e).now = s.now := by unfold State.emit; split <;> rfl
@[simp] theorem State.emit_stepped (s : State) (e : Emission) : (s.emit e).stepped = s.stepped := by unfold State.emit; split <;> rfl
@[simp] theorem State.emit_mode (s : State) (e : Emission) : (s.emit e).mode = s.mode := by unfold State.emit; split <;> rfl
@[simp] theorem State.emit_dict (s : State) (e : Emission) : (s.emit e).dict = s.dict := by unfold State.emit; split <;> rfl
@[simp] theorem State.emit_log (s : State) (e : Emission) : (s.emit e).log = s.log := by unfold State.emit; split <;> rfl
@[simp] theorem State.emit_faults (s : State) (e : Emission) : (s.emit e).faults = s.faults := by unfold State.emit; split <;> rfl
@[simp] theorem State.emit_req (s : State) (e : Emission) : (s.emit e).req = s.req := by unfold State.emit; split <;> rfl
@[simp] theorem State.emit_pair (s : State) (e : Emission) : (s.emit e).pair = s.pair := by unfold State.emit; split <;> rfl
@[simp] theorem State.emit_ref (s : State) (e : Emission) : (s.emit e).ref = s.ref := by unfold State.emit; split <;> rfl
@[simp] theorem State.emit_boot (s : State) (e : Emission) : (s.emit e).boot = s.boot := by unfold State.emit; split <;> rfl

@[simp] theorem State.commit_pending (s : State) (i j : Nat) (v : Word) : (s.commit i j v).pending = s.pending := rfl
@[simp] theorem State.commit_emitted (s : State) (i j : Nat) (v : Word) : (s.commit i j v).emitted = s.emitted := rfl
@[simp] theorem State.commit_free (s : State) (i j : Nat) (v : Word) : (s.commit i j v).free = s.free := rfl
@[simp] theorem State.commit_now (s : State) (i j : Nat) (v : Word) : (s.commit i j v).now = s.now := rfl
@[simp] theorem State.commit_stepped (s : State) (i j : Nat) (v : Word) : (s.commit i j v).stepped = s.stepped := rfl
@[simp] theorem State.commit_mode (s : State) (i j : Nat) (v : Word) : (s.commit i j v).mode = s.mode := rfl
@[simp] theorem State.commit_log (s : State) (i j : Nat) (v : Word) : (s.commit i j v).log = s.log := rfl
@[simp] theorem State.commit_faults (s : State) (i j : Nat) (v : Word) : (s.commit i j v).faults = s.faults := rfl
@[simp] theorem State.commit_req (s : State) (i j : Nat) (v : Word) : (s.commit i j v).req = s.req := rfl
@[simp] theorem State.commit_pair (s : State) (i j : Nat) (v : Word) : (s.commit i j v).pair = s.pair := rfl
@[simp] theorem State.commit_ref (s : State) (i j : Nat) (v : Word) : (s.commit i j v).ref = s.ref := rfl
@[simp] theorem State.commit_boot (s : State) (i j : Nat) (v : Word) : (s.commit i j v).boot = s.boot := rfl

end Sys2Proof.Machine
end

