-- ==== Sys2Proof/Laws/Ops.lean ====
section
/-! SUPPORT. What each shared operation of Machine/Ops.lean can do: the fields a report, a frame sent, a log entry, a mode
change and a fault declaration leave as they were, and the elements they leave as they were. -/

namespace Sys2Proof.Machine

/-- `t` differs from `s` at most in what reports, frames, the log, a fault and an entry to FAULTED touch. -/
def sameButFault (s t : State) : Prop :=
  t = { s with
    mode := t.mode, dict := t.dict, emitted := t.emitted, events := t.events, banks := t.banks, moves := t.moves
    req := t.req, log := t.log, faults := t.faults, boot := t.boot, pair := t.pair, windows := t.windows
    spools := t.spools, ins := t.ins, cells := t.cells }

theorem sameButFault.refl (s : State) : sameButFault s s := rfl

theorem sameButFault.trans {s t u : State} (h : sameButFault s t) (h' : sameButFault t u) : sameButFault s u := by
  unfold sameButFault at *
  cases s; cases t; cases u
  simp only [State.mk.injEq] at *
  simp_all

theorem sameButFault.foldl {α : Type} (f : State → α → State) (hf : ∀ s a, sameButFault s (f s a)) (l : List α)
    (s : State) : sameButFault s (l.foldl f s) := by
  induction l generalizing s with
  | nil => exact .refl s
  | cons a l ih => exact (hf s a).trans (ih _)

theorem sameButFault.ite {s t u : State} {c : Prop} [Decidable c] (h : sameButFault s t) (h' : sameButFault s u) :
    sameButFault s (if c then t else u) := by split <;> assumption

/-- An element whose sub-index fits is left as it was: any but the Dumus counters at 0x1001, and no new side of a move. -/
def keepsElems (s t : State) : Prop :=
  ∀ i j, i ≠ 0x1001 → j < 65536 → ¬ (0x4000 ≤ i ∧ i < 0x5600 ∧ 0x8000 ≤ j) → t.elem i j = s.elem i j

theorem keepsElems.refl (s : State) : keepsElems s s := fun _ _ _ _ _ => rfl

theorem keepsElems.trans {s t u : State} (h : keepsElems s t) (h' : keepsElems t u) : keepsElems s u :=
  fun i j a b c => (h' i j a b c).trans (h i j a b c)

theorem keepsElems.of_dict {s t : State} (h : t.dict = s.dict) : keepsElems s t := fun i j _ _ _ => by
  simp [State.elem, h]

theorem keepsElems.foldl {α : Type} (f : State → α → State) (hf : ∀ s a, keepsElems s (f s a)) (l : List α)
    (s : State) : keepsElems s (l.foldl f s) := by
  induction l generalizing s with
  | nil => exact .refl s
  | cons a l ih => exact (hf s a).trans (ih _)

/-- A report, a frame or a fault: both at once. -/
def reports (s t : State) : Prop := sameButFault s t ∧ keepsElems s t

theorem reports.refl (s : State) : reports s s := ⟨.refl s, .refl s⟩
theorem reports.trans {s t u : State} (h : reports s t) (h' : reports t u) : reports s u :=
  ⟨h.1.trans h'.1, h.2.trans h'.2⟩
theorem reports.foldl {α : Type} (f : State → α → State) (hf : ∀ s a, reports s (f s a)) (l : List α) (s : State) :
    reports s (l.foldl f s) := ⟨.foldl f (fun s a => (hf s a).1) l s, .foldl f (fun s a => (hf s a).2) l s⟩

theorem reports_req (s : State) (x : ReqSt) : reports s { s with req := x } := ⟨rfl, .of_dict rfl⟩
theorem reports_events (s : State) (x : List Event) : reports s { s with events := x } := ⟨rfl, .of_dict rfl⟩
theorem reports_pair (s : State) (x : PairSt) : reports s { s with pair := x } := ⟨rfl, .of_dict rfl⟩
theorem reports_moves (s : State) (x : List Move) : reports s { s with moves := x } := ⟨rfl, .of_dict rfl⟩
theorem reports_faults (s : State) (x : FaultSt) : reports s { s with faults := x } := ⟨rfl, .of_dict rfl⟩
theorem reports_boot (s : State) (x : BootSt) : reports s { s with boot := x } := ⟨rfl, .of_dict rfl⟩
theorem reports_mode (s : State) (x : Mode) : reports s { s with mode := x } := ⟨rfl, .of_dict rfl⟩
theorem reports_log (s : State) (x : LogSt) : reports s { s with log := x } := ⟨rfl, .of_dict rfl⟩
theorem reports_windows (s : State) (x : SMap WindowOp) : reports s { s with windows := x } := ⟨rfl, .of_dict rfl⟩
theorem reports_spools (s : State) (x : SMap SpoolBank) : reports s { s with spools := x } := ⟨rfl, .of_dict rfl⟩
theorem reports.ite {s t u : State} {c : Prop} [Decidable c] (h : reports s t) (h' : reports s u) :
    reports s (if c then t else u) := by split <;> assumption

theorem countPort_reports (s : State) (p : Port) (n : Nat) (h : n < 16) : reports s (countPort s p n) := by
  have key : reports s (s.count 0x1001 (0x100 + 0x10 * portNum p + n)) := by
    refine ⟨rfl, fun i j hi hj _ => ?_⟩
    have hp : portNum p ≤ 3 := by cases p <;> simp [portNum]
    have : ekey i j ≠ ekey 0x1001 (0x100 + 0x10 * portNum p + n) := by
      unfold ekey; omega
    simp [State.count, this]
  cases p <;> first | exact key | exact .refl s

theorem emit_reports (s : State) (e : Emission) : reports s (s.emit e) := by
  unfold State.emit; split
  · exact .refl s
  · exact ⟨rfl, .of_dict rfl⟩

theorem sendFrame_reports (s : State) (rq : Rq) (f : List Byte) : reports s (sendFrame s rq f) := by
  unfold sendFrame
  split
  · split
    · exact ⟨rfl, .of_dict rfl⟩
    · exact countPort_reports _ _ _ (by omega)
  · split
    · exact emit_reports _ _
    · exact .refl s
  · split
    · exact emit_reports _ _
    · exact .refl s
  · exact emit_reports _ _
  · exact emit_reports _ _
  · exact .refl s

theorem sendReply_reports (s : State) (rq : Rq) (i j st : Nat) (d : List Byte) : reports s (sendReply s rq i j st d) := by
  unfold sendReply
  have h := sendFrame_reports s rq (answerFrame s 9 st rq i j d)
  have h2 : ∀ r : ReqSt, reports s { sendFrame s rq (answerFrame s 9 st rq i j d) with req := r } :=
    fun r => h.trans ⟨rfl, .of_dict rfl⟩
  dsimp only
  split
  · exact .refl s
  · split
    · exact (h2 _).trans (countPort_reports _ _ _ (by omega))
    · exact .refl s
  · split
    · exact (h2 _).trans (countPort_reports _ _ _ (by omega))
    · exact .refl s
  · exact h.trans (countPort_reports _ _ _ (by omega))

theorem notify_reports (s : State) (rq : Rq) (i j st : Nat) (d : List Byte) : reports s (notify s rq i j st d) := by
  unfold notify
  split
  · exact .refl s
  · exact (sendFrame_reports _ _ _).trans (reports_req _ _)

theorem finishWaiting_reports (s : State) (i j st : Nat) (d : List Byte) : reports s (finishWaiting s i j st d) := by
  unfold finishWaiting
  split
  · exact (reports_req _ _).trans (notify_reports _ _ _ _ _ _)
  · exact .refl s

theorem appendLog_reports (s : State) (e : LogEntry) : reports s (appendLog s e) := by
  unfold appendLog
  dsimp only
  repeat' split
  all_goals exact ⟨rfl, .of_dict rfl⟩

theorem logEvent_reports (s : State) (i j : Nat) (o n : Word) (p : Nat) (b : Bool) (st : Nat) :
    reports s (logEvent s i j o n p b st) := by
  unfold logEvent; split
  · exact ⟨rfl, .of_dict rfl⟩
  · exact appendLog_reports _ _

theorem setMode_reports (s : State) (m : Mode) : reports s (setMode s m) := by
  unfold setMode; split
  · exact .refl s
  · exact (reports_mode _ _).trans (logEvent_reports _ _ _ _ _ _ _ _)

theorem setBank_reports (s : State) (b : Nat) (x : BankSt) : reports s (s.setBank b x) := ⟨rfl, .of_dict rfl⟩

theorem disarm_reports (s : State) (scope : Nat) : reports s (disarm s scope) := by
  refine .foldl _ (fun s b => ?_) _ _
  split
  · exact setBank_reports _ _ _
  · exact .refl s

theorem discardEvent_reports (s : State) (e : Event) (st : Nat) : reports s (discardEvent s e st) := by
  have h : ∀ (i j : Nat) (a : State), reports s a →
      reports s (match e.rq with
        | some rq => if e.kind = 1 ∨ (e.kind = 2 ∧ st = stFaulted) then
            notify (logEvent a i j (logValue 8 e.tp) 0 e.plane false st) rq i j st [] else
            logEvent a i j (logValue 8 e.tp) 0 e.plane false st
        | none => logEvent a i j (logValue 8 e.tp) 0 e.plane false st) := by
    intro i j a ha
    have hl := ha.trans (logEvent_reports a i j (logValue 8 e.tp) 0 e.plane false st)
    split
    · exact (hl.trans (notify_reports _ _ _ _ _ _)).ite hl
    · exact hl
  have h1 := reports_events s (s.events.filter fun x => x.order != e.order)
  have h2 : reports s (if e.kind = 1 then disarm { s with events := s.events.filter fun x => x.order != e.order } e.scope
      else { s with events := s.events.filter fun x => x.order != e.order }) := (h1.trans (disarm_reports _ _)).ite h1
  exact h _ _ _ ((h2.trans (reports_pair _ _)).ite h2)

theorem discardEvents_reports (s : State) (p : Event → Bool) (st : Nat) : reports s (discardEvents s p st) :=
  .foldl _ (fun _ _ => discardEvent_reports _ _ _) _ _

theorem mapGet_filter {α : Type} (d : Nat → α) (k : Nat) (p : Nat × α → Bool) (hp : ∀ v, p (k, v) = true) (m : SMap α) :
    mapGet d (m.filter p) k = mapGet d m k := by
  induction m with
  | nil => rfl
  | cons a m ih =>
    obtain ⟨a, v⟩ := a
    simp only [List.filter]
    split
    · simp only [mapGet, ih]
    · simp only [mapGet]
      split
      · rename_i h' h; subst h; simp [hp] at h'
      · exact ih

theorem dropNewSide_reports (s : State) (j : Nat) : reports s (dropNewSide s j) := by
  refine ⟨rfl, fun i k hi hk hn => ?_⟩
  refine mapGet_filter _ _ _ (fun v => ?_) _
  have h1 : ekey i k / 65536 = i := by unfold ekey; omega
  have h2 : ekey i k % 65536 = k := by unfold ekey; omega
  simp only [h1, h2]
  simp
  omega

theorem cancelMove_reports (s : State) (m : Move) : reports s (cancelMove s m) := by
  unfold cancelMove
  dsimp only
  refine reports.trans ?_ (logEvent_reports _ _ _ _ _ _ _ _)
  split
  · exact (reports_moves _ _).trans (dropNewSide_reports _ _)
  · exact reports_moves _ _

theorem cancelMoves_reports (s : State) : reports s (cancelMoves s) := .foldl _ cancelMove_reports _ _

theorem abandonTransfers_reports (s : State) (st : Nat) : reports s (abandonTransfers s st) := by
  unfold abandonTransfers
  exact (reports_req _ _).trans (.foldl _ (fun _ _ => notify_reports _ _ _ _ _ _) _ _)

theorem failWindow_reports (st : Nat) (s : State) (w : Nat) : reports s (failWindow st s w) := by
  unfold failWindow
  dsimp only
  split
  · exact (reports_windows _ _).trans (finishWaiting_reports _ _ _ _ _)
  · exact .refl s

theorem endStaging_reports (s : State) (r : Nat) (st : Option Nat) : reports s (endStaging s r st) := by
  unfold endStaging
  split
  · dsimp only
    split
    · exact (reports_boot _ _).trans (finishWaiting_reports _ _ _ _ _)
    · exact ⟨rfl, .of_dict rfl⟩
  · exact .refl s

theorem dropClaim_reports (s : State) : reports s (dropClaim s) := reports_pair s _

theorem failSpools_reports (s : State) : reports s (failSpools s) := reports_spools s _

theorem enterFaulted_reports (s : State) (n : Nat) (d : Word) : reports s (enterFaulted s n d) := by
  unfold enterFaulted
  refine reports.ite (reports_faults _ _) ?_
  exact ((reports_faults _ _).trans (setMode_reports _ _)).trans ((dropClaim_reports _).trans
    ((discardEvents_reports _ _ _).trans ((cancelMoves_reports _).trans ((abandonTransfers_reports _ _).trans
      ((reports.foldl _ (fun _ _ => failWindow_reports _ _ _) _ _).trans
        ((endStaging_reports _ _ _).trans (failSpools_reports _)))))))

theorem noteFault_reports (s : State) (n : Nat) (d : Word) (l f : Bool) (p : Nat) : reports s (noteFault s n d l f p) := by
  unfold noteFault
  dsimp only
  have h : ∀ {a b c : State} {q : Prop} [Decidable q], reports a b → reports a c → reports a (if q then b else c) := by
    intro a b c q _ h1 h2; split <;> assumption
  have hp : ∀ (a : State) (x : FaultSt) (y : PairSt), reports a { a with faults := x, pair := y } :=
    fun _ _ _ => ⟨rfl, .of_dict rfl⟩
  have hs : ∀ (a : State) (k : Nat) (x : FaultSrc), reports a (a.setSource k x) := fun _ _ _ => ⟨rfl, .of_dict rfl⟩
  have key : ∀ a : State, reports s a → reports s (if a.paired = true then a.emit
      (.bridle (0x08 * 2 ^ 248 + n * 2 ^ 239 + s.sourceClass n * 2 ^ 237 + ofSigned 64 a.ns * 2 ^ 173) []) else a) :=
    fun a ha => h (ha.trans (emit_reports _ _)) ha
  apply key
  refine reports.trans ?_ (hp _ _ _)
  exact h ((hs _ _ _).trans (logEvent_reports _ _ _ _ _ _ _ _)) (hs _ _ _)

/-- What a declaration of a fault source can touch (R518, R554, R556). -/
theorem declareFault_reports (s : State) (n : Nat) (d : Word) (l f : Bool) (p : Nat) :
    reports s (declareFault s n d l f p) := by
  unfold declareFault
  dsimp only
  split
  · exact (noteFault_reports _ _ _ _ _ _).trans (enterFaulted_reports _ _ _)
  · exact noteFault_reports _ _ _ _ _ _

theorem clearActive_reports (s : State) (n : Nat) : reports s (clearActive s n) := ⟨rfl, .of_dict rfl⟩

theorem emitTwice_reports (s : State) (w : Word) (b : List Byte) : reports s (s.emitTwice w b) :=
  (emit_reports _ _).trans (emit_reports _ _)

theorem mirror_reports (s : State) (k o : Nat) (v : Word) : reports s (mirror s k o v) := by
  unfold mirror; split
  · exact emitTwice_reports _ _ _
  · exact .refl s

end Sys2Proof.Machine
end

