-- ==== Sys2Proof/Laws/Requests.lean ====
section
/-! SUPPORT. The path of a request: what an accepted one does around its commit, and that the check of R13 decides. -/

namespace Sys2Proof.Machine

theorem unbuffer_reports (s : State) (rq : Rq) (op i j : Nat) (b : List Byte) : reports s (unbuffer s rq op i j b) := by
  unfold unbuffer; dsimp only; split <;> first | exact reports_req _ _ | exact .refl s

theorem judged_reports (s : State) (rq : Rq) (op i j : Nat) (b : List Byte) : reports s (judged s rq op i j b) :=
  (unbuffer_reports _ _ _ _ _ _).trans (countPort_reports _ _ _ (by omega))

theorem recordReply_reports (s : State) (rq : Rq) (st : Nat) (d : List Byte) : reports s (recordReply s rq st d) :=
  reports_req _ _

theorem streamChange_reports (s : State) (rq : Rq) (op i j st : Nat) (b d : List Byte) :
    reports s (streamChange s rq op i j st b d) := by
  unfold streamChange; split
  · exact (reports_pair _ _).trans (emitTwice_reports _ _ _)
  · exact .refl s

/-- An accepted request commits (R24, R25). -/
theorem request_accepted {s : State} {rq : Rq} {op i j : Nat} {b : List Byte} {h : Handler}
    (ha : isAccepted s rq op i j b h) : request s rq op i j b h = commitRequest (judged s rq op i j b) rq op i j b h := by
  obtain ⟨h1, h2, h3⟩ := ha
  unfold request
  rw [h1]
  simp only [Bool.not_true, Bool.false_eq_true, if_false]
  split
  · rename_i st d hm
    split at hm
    · cases hm
    · exact absurd hm (h2 st d)
  · exact if_pos h3

/-- A refused request (R12). -/
theorem request_refused {s : State} {rq : Rq} {op i j st : Nat} {b : List Byte} {h : Handler}
    (ha : isRefused s rq op i j b h st) : request s rq op i j b h = refuseRequest (judged s rq op i j b) rq op i j st h := by
  obtain ⟨h1, h2, h3, h4⟩ := ha
  unfold request
  rw [h1]
  simp only [Bool.not_true, Bool.false_eq_true, if_false]
  split
  · rename_i st' d hm
    split at hm
    · cases hm
    · exact absurd hm (h2 st' d)
  · unfold judged at h4
    rw [h4, if_neg h3]; rfl

/-- A commit, and what stands around it: before it the log entry, after it the change stream, the reply and its record. -/
theorem commitRequest_commits (s : State) (rq : Rq) (op i j : Nat) (b : List Byte) (h : Handler) :
    ∃ u, reports s u ∧ u.dict = s.dict ∧ reports (h.commit u) (commitRequest s rq op i j b h) := by
  refine ⟨appendLog s (requestEntry s rq i j (if h.pending then stPending else stOk) h false), appendLog_reports _ _, ?_, ?_⟩
  · unfold appendLog; dsimp only; repeat' split
    all_goals rfl
  · unfold commitRequest
    have key : ∀ (a c : State), reports a c → ∀ (r : ReqSt) (st : Nat) (d : List Byte),
        reports a (sendReply (recordReply (if h.pending = true then { c with req := r } else c) rq st d) rq i j st d) :=
      fun a c hac r st d => (hac.trans (((reports_req c r).ite (.refl c)).trans
        ((recordReply_reports _ _ _ _).trans (sendReply_reports _ _ _ _ _ _))))
    exact key _ _ (streamChange_reports _ _ _ _ _ _ _ _) _ _ _

/-- An accepted request, seen from the state before it: `u` is the state at the commit. -/
theorem request_commits {s : State} {rq : Rq} {op i j : Nat} {b : List Byte} {h : Handler}
    (ha : isAccepted s rq op i j b h) : ∃ u, reports s u ∧ reports (h.commit u) (request s rq op i j b h) := by
  obtain ⟨u, h1, _, h3⟩ := commitRequest_commits (judged s rq op i j b) rq op i j b h
  exact ⟨u, (judged_reports _ _ _ _ _ _).trans h1, request_accepted ha ▸ h3⟩

/-- An element outside 0x1001 and the new sides of moves reads the same. -/
theorem reports.elem {s t : State} (h : reports s t) {i j : Nat} (hi : i ≠ 0x1001) (hj : j < 0x8000) :
    t.elem i j = s.elem i j := h.2 i j hi (by omega) (by omega)

theorem toBytes_length (n : Nat) (v : Word) : (toBytes n v).length = n := by
  induction n generalizing v with
  | zero => rfl
  | succ n ih => simp [toBytes, ih]

theorem ofBytes_append (l : List Byte) (b : Byte) : ofBytes (l ++ [b]) = ofBytes l * 256 + b.toNat := by
  simp [ofBytes, List.foldl_append]

/-- A number written in n bytes reads back, cut to n bytes (R5). -/
theorem ofBytes_toBytes (n : Nat) (v : Word) : ofBytes (toBytes n v) = v % 256 ^ n := by
  induction n generalizing v with
  | zero => simp [toBytes, ofBytes, Nat.mod_one]
  | succ n ih =>
    rw [toBytes, ofBytes_append, ih]
    simp only [BitVec.toNat_ofNat]
    have h : v % 256 ^ (n + 1) = v % 256 + 256 * (v / 256 % 256 ^ n) := by
      rw [Nat.pow_succ, Nat.mul_comm, Nat.mod_mul]
    rw [h, Nat.add_comm, Nat.mul_comm]

theorem valueBytes_value {rq : Rq} {v : Word} (h : rq.fits v = true) : ofBytes (valueBytes rq v) = v := by
  simp only [Rq.fits, decide_eq_true_eq] at h
  rw [valueBytes, ofBytes_toBytes, Nat.mod_eq_of_lt h]

end Sys2Proof.Machine
end

