-- ==== Sys2Proof/Laws/Steps.lean ====
section
/-! SUPPORT. What a command's arm answers: one lemma for each way in which a meaning acts, and its converse. -/

namespace Sys2Proof.Machine

/-- A meaning that acts answers its next state, with the queue as it was. -/
theorem act_does {c : Instr} {s : State} {f : State → State} {P : State → Prop} (h : exec c s = act s f)
    (hp : P { f s.fresh with pending := s.pending }) : does c s P := ⟨_, h, hp⟩

/-- A meaning that acts while the device runs. -/
theorem actRunning_does {c : Instr} {s : State} {f : State → State} {P : State → Prop} (h : exec c s = actRunning s f)
    (hr : s.running = true) (hp : P { f s.fresh with pending := s.pending }) : does c s P :=
  ⟨_, h, by
    have hr' : s.fresh.running = true := hr
    show P { whenRunning s.fresh f with pending := s.pending }
    unfold whenRunning
    rw [if_pos hr']
    exact hp⟩

/-- A meaning that acts on unit `n` of `l`. -/
theorem onUnit_does {c : Instr} {s : State} {n l : Nat} {f : State → State} {P : State → Prop} (h : exec c s = onUnit n l s f)
    (hn : n < l) (hr : s.running = true) (hp : P { f s.fresh with pending := s.pending }) : does c s P :=
  actRunning_does (h.trans (if_pos hn)) hr hp

/-- A meaning that acts on a line of the field bank: the outputs settle after it. -/
theorem onLine_does {c : Instr} {s : State} {n : Nat} {f : State → State} {P : State → Prop} (h : exec c s = onLine n s f)
    (hn : n < 32) (hr : s.running = true) (hp : P { settleLines (f s.fresh) with pending := s.pending }) : does c s P :=
  ⟨_, h.trans (if_pos hn), by
    have hr' : s.fresh.running = true := hr
    show P { (if s.fresh.running = true then settleLines (f s.fresh) else s.fresh) with pending := s.pending }
    rw [if_pos hr']
    exact hp⟩

/-- The one next state of a meaning that acts. -/
theorem act_next {c : Instr} {s t : State} {f : State → State} (h : exec c s = act s f) (ht : exec c s = .next t) :
    t = { f s.fresh with pending := s.pending } := by
  have he : act s f = .next t := h.symm.trans ht
  injection he with he'
  exact he'.symm

/-- The one next state of a meaning that acts while the device runs: nothing but the list of emissions changes where it
does not. -/
theorem actRunning_next {c : Instr} {s t : State} {f : State → State} (h : exec c s = actRunning s f) (ht : exec c s = .next t) :
    t = if s.running = true then { f s.fresh with pending := s.pending } else s.fresh := by
  have he := act_next h ht
  rw [he]
  show { (if s.fresh.running = true then f s.fresh else s.fresh) with pending := s.pending } = _
  by_cases hr : s.running = true
  · have hr' : s.fresh.running = true := hr
    rw [if_pos hr, if_pos hr']
  · have hr' : ¬ s.fresh.running = true := hr
    rw [if_neg hr, if_neg hr']
    rfl

/-- The one next state of a meaning that acts on unit `n` of `l`. -/
theorem onUnit_next {c : Instr} {s t : State} {n l : Nat} {f : State → State} (h : exec c s = onUnit n l s f)
    (ht : exec c s = .next t) :
    n < l ∧ t = if s.running = true then { f s.fresh with pending := s.pending } else s.fresh := by
  by_cases hn : n < l
  · exact ⟨hn, actRunning_next (h.trans (if_pos hn)) ht⟩
  · have he := (h.trans (if_neg hn)).symm.trans ht
    cases he

end Sys2Proof.Machine
end

