-- ==== Sys2Proof/Tests/Slice0.lean ====
section
/-! SUPPORT. Tests: ill-formed commands that WellFormed refuses, a witness for every clause of the statements (a concrete
state and operands that meet its hypotheses, with what the model does there), and values that the spec works out. -/

open Sys2Proof Sys2Proof.Machine

namespace Sys2Proof.Tests

set_option Elab.async false

/-- A device in SOLO, 10 s after its release. -/
def solo : State :=
  { State.reset with
    mode := .solo, now := 10000000000, boot := { State.reset.boot with phase := .ended, selfCheckOk := true, resets := 1 } }

/-- A request of LOCAL at the card port, with `n` payload bytes. -/
def loc (n : Nat) : Rq := { port := .card, origin := 0, session := 1, seq := 1, len := n }

/-- Whether command `c` at `s` answers a next state with `p`. -/
def ran (c : Instr) (s : State) (p : State → Bool) : Bool :=
  match exec c s with
  | .next t => p t
  | _ => false

/-- A write of `v` in `n` bytes that every check passes is an accepted request. -/
theorem acc_of {s : State} {rq : Rq} {op i j : Nat} {b : List Byte} {h : Handler}
    (ha : s.accepts rq op i j b h.checks = true) : isAccepted s rq op i j b h := by
  unfold State.accepts at ha
  simp only [Bool.and_eq_true] at ha
  obtain ⟨h1, h2⟩ := ha
  refine ⟨h1, ?_, ?_⟩
  · intro st d hs
    unfold judged at hs
    simp only [hs] at h2
    cases h2
  · split at h2
    · cases h2
    · exact eq_of_beq h2

/-- A request that fails a check is refused with the status it answers. -/
def refuses (s : State) (rq : Rq) (op i j : Nat) (b : List Byte) (c : Checks) (st : Nat) : Bool :=
  s.takesUp rq && (match (judged s rq op i j b).seen rq with
    | .again _ _ => false
    | _ => true) && st != stOk && requestStatus (judged s rq op i j b) rq op i j b c == st

theorem ref_of {s : State} {rq : Rq} {op i j st : Nat} {b : List Byte} {h : Handler}
    (hr : refuses s rq op i j b h.checks st = true) : isRefused s rq op i j b h st := by
  unfold refuses at hr
  simp only [Bool.and_eq_true] at hr
  obtain ⟨⟨⟨h1, h2⟩, h3⟩, h4⟩ := hr
  refine ⟨h1, ?_, fun e => ?_, eq_of_beq h4⟩
  · intro a d hs
    rw [hs] at h2
    cases h2
  · subst e
    simp at h3
/-! The inter-die link and the planes. -/

theorem wit_FaultsDeclared_1 : (solo.running = true ∧ solo.boot.exOn = true) ∧
    ran .interDieLinkTimeout solo (fun t => (t.source 0x001).count == 1 && t.mode == .faulted) = true := by decide +kernel
theorem wit_FaultsDeclared_2 : exec .interDieResend solo = .next solo.fresh := rfl

def planeV : Word := 2 ^ 31 + 3 * 2 ^ 24 + 2 * 2 ^ 20

theorem wit_PlanesRun_1 : isAccepted solo.fresh (loc 4) opWrite 0x2010 3 (valueBytes (loc 4) planeV)
      (planeHandler solo.fresh 3 (valueBytes (loc 4) planeV)) ∧ (loc 4).fits planeV = true ∧
    ran (.planeConfigWrite (loc 4) 3 planeV) solo (fun t => t.planeOn 3 && t.planeFormat 3 == 3 && t.planeRateCode 3 == 2) =
      true := ⟨acc_of (by decide +kernel), by decide +kernel, by decide +kernel⟩

/-- Plane 3 runs at 1080i25, and has no step pending; the DPLL tracks candidate 5. -/
def planed : State := { solo.put 0x2010 3 planeV with ref := { solo.ref with
  selected := some 5, phase := .tracking, tb := 2, everLocked := true, cands := [(5, { present := true, qualified := true })] } }

theorem wit_PlanesRun_2 : isAccepted planed.fresh (loc 4) opWrite 0x2010 3 (valueBytes (loc 4) (setBit planeV 30 true))
      (planeHandler planed.fresh 3 (valueBytes (loc 4) (setBit planeV 30 true))) ∧
    (loc 4).fits (setBit planeV 30 true) = true ∧ bits planeV 27 20 = planed.field 0x2010 3 27 20 ∧
    (planed.plane 3).step = none ∧
    ran (.reorigin (loc 4) 3 planeV) planed (fun t => match (t.plane 3).step with
      | some r => r.b == planed.planeFrameAfter 3 planed.now
      | none => false) = true := ⟨acc_of (by decide +kernel), by decide +kernel⟩

def stepR : Reorigin := { b := 9000000000, b' := 9500000000, origin := 0, stepNs := 500, kind := 2 }
def stepping : State := planed.setPlane 3 { planed.plane 3 with step := some stepR }

theorem wit_PlanesRun_3 : (stepping.running = true ∧ (stepping.plane 3).step = some stepR ∧ stepR.b ≤ stepping.now ∧
      stepR.b < stepR.b') ∧
    ran (.reoriginFrameEnd 3) stepping (fun t => (t.plane 3).gap && (t.plane 3).step == some stepR && t.dict == stepping.dict) =
      true := by decide +kernel
theorem wit_PlanesRun_4 : (stepping.running = true ∧ (stepping.plane 3).step = some stepR ∧ stepR.b' ≤ stepping.now ∧
      stepping.planeOn 3 = true) ∧
    ran (.reoriginNewPhase 3) stepping (fun t => (t.plane 3).step == none && !(t.plane 3).gap &&
      (t.plane 3).origin == stepR.origin + stepR.stepNs && t.field 0x2010 3 19 18 == 2 &&
      t.now == stepping.now + stepR.stepNs) = true := by decide +kernel

def takeE : Event := { order := 0, tp := mkTp 1 1 0, plane := 0, kind := 1, scope := 5 }
def due : State := { solo with events := [takeE], order := 1, banks := [(0, { armed := true }), (2, { armed := true })] }

theorem wit_TakesRun_1 : (due.running = true ∧ due.due takeE = true ∧ takeE.kind = 1) ∧
    ran .eventFire due (fun t => (t.bank 0).reseeding && !(t.bank 0).armed && (t.bank 2).reseeding && t.bank 1 == due.bank 1) =
      true := by decide +kernel

/-! References. Candidate 5 is a pin candidate; plane 0 is locked to candidate 2. -/

def cfgC : Word := 2150105344
def refd : State := (solo.put 0x2100 5 cfgC).setCand 5 { present := true, since := 0, freq := 100 }

theorem wit_SelectionRuns_1 : ((solo.put 0x2100 5 cfgC).running = true ∧ ((solo.put 0x2100 5 cfgC).cand 5).present = false ∧
      (solo.put 0x2100 5 cfgC).presence 5 0 7 = true) ∧
    ran (.candidatePresent 5 0 7 0) (solo.put 0x2100 5 cfgC) (fun t => (t.cand 5).present && (t.cand 5).since == solo.up &&
      (t.cand 5).freq == 7 && !(t.cand 5).qualified) = true := by decide +kernel
theorem wit_SelectionRuns_2 : (refd.running = true ∧ (refd.cand 5).present = true ∧ refd.mayLose 5 2 = true) ∧
    ran (.candidateLoss 5 2) refd (fun t => !(t.cand 5).present && !(t.cand 5).qualified && (t.cand 5).loss == 2) = true := by
  decide +kernel
theorem wit_SelectionRuns_3 : (refd.running = true ∧ (refd.cand 5).present = true ∧ (refd.cand 5).qualified = false ∧
      (refd.cand 5).since + (refd.field 0x2100 5 27 18 : Nat) * 1000000000 ≤ refd.up) ∧
    ran (.candidateQualify 5) refd (fun t => (t.cand 5).qualified && (t.cand 5).present) = true := by decide +kernel

theorem wit_SelectionRuns_4 : isAccepted solo.fresh (loc 4) opWrite 0x2100 9 (valueBytes (loc 4) cfgC)
      (candidateConfig solo.fresh 9 (valueBytes (loc 4) cfgC)) ∧ (loc 4).fits cfgC = true ∧
    ran (.candidateConfigWrite (loc 4) 9 cfgC) solo (fun t => t.elem 0x2100 9 == cfgC) = true :=
  ⟨acc_of (by decide +kernel), by decide +kernel⟩
theorem wit_SelectionRuns_5 : isAccepted solo.fresh (loc 2) opWrite 0x2110 9 (valueBytes (loc 2) 0)
      (priorityHandler solo.fresh 9 (valueBytes (loc 2) 0)) ∧ (loc 2).fits 0 = true ∧
    ran (.priorityTableWrite (loc 2) 9 0) solo (fun t => t.elem 0x2110 9 == 0 && t.elem 0x2110 0 == solo.elem 0x2110 0) =
      true := ⟨acc_of (by decide +kernel), by decide +kernel⟩

def later : Word := mkTp 100000 1 0
def refArg : Word := later * 2 ^ 16 + 5
theorem wit_SelectionRuns_6 : isAccepted solo.fresh (loc 10) opWrite 0x2110 0x20 (valueBytes (loc 10) refArg)
      (refselHandler solo.fresh (loc 10) (valueBytes (loc 10) refArg)) ∧ (loc 10).fits refArg = true ∧
    ran (.refselSchedule (loc 10) refArg) solo (fun t => t.events.map (fun e => (e.kind, e.arg, e.plane, e.tp)) ==
      [(3, 5, 0, later)]) = true := ⟨acc_of (by decide +kernel), by decide +kernel⟩

def refE : Event := { order := 0, tp := mkTp 1 1 0, plane := 0, kind := 3, arg := 5 }
def refDue : State := { refd.setCand 5 { present := true, qualified := true, since := 0 } with events := [refE], order := 1 }
theorem wit_SelectionRuns_7 : (refDue.running = true ∧ refDue.dueEvent [3] = some refE ∧
      (refDue.cand refE.arg).qualified = true) ∧
    ran .refselFire refDue (fun t => t.ref.forced == some 5 && t.events == []) = true := by decide +kernel
theorem wit_SelectionRuns_8 : isAccepted refDue.fresh (loc 1) opWrite 0x2140 2 (valueBytes (loc 1) 1)
      (manualHandler (valueBytes (loc 1) 1)) ∧ (loc 1).fits 1 = true ∧
    ran (.manualClear (loc 1) 1) { refDue with ref := { refDue.ref with forced := some 5 } } (fun t => t.ref.forced == none) = true :=
  ⟨acc_of (by decide +kernel), by decide +kernel⟩

def tracking : State := { refDue with events := [], ref := { refDue.ref with
  selected := some 5, phase := .tracking, tb := 1, within := some 1000000000, above := some 1000000000, second := 3, clean := true } }
theorem wit_LoopRuns_3 : (tracking.running = true ∧ tracking.ref.selected = some 5 ∧ tracking.ref.phase = .tracking ∧
      tracking.allStopped = false) ∧
    ran (.phaseMeasurement 40 9 0) tracking (fun t => t.ref.phaseErr == 40 && (t.cand 5).freq == 9 && t.ref.lastMeas == tracking.up) = true := by
  decide +kernel
def cycled : State := { tracking with freqNow := 0, ref := { tracking.ref with slewTo := some (1 / 1000000) } }
theorem wit_LoopRuns_4 : (cycled.pending = [] ∧ cycled.running = true ∧ cycled.allStopped = false ∧ cycled.ref.slewTo = some (1 / 1000000) ∧
      cycled.freqNow - cycled.slewLimit * cycled.cycleNs / 1000000000 ≤ 1 / 1000000 ∧
      (1 / 1000000 : Rat) ≤ cycled.freqNow + cycled.slewLimit * cycled.cycleNs / 1000000000) ∧
    (match step cycled with
      | .next t => t.freqNow == 1 / 1000000 && t.now == cycled.now + cycled.cycleNs
      | _ => false) = true := by decide +kernel
def slewing : State := { tracking with freqNow := 9000, ref := { tracking.ref with phase := .slew, slewTo := some 100 } }
theorem wit_LoopRuns_5 : (slewing.running = true ∧ slewing.ref.selected = some 5 ∧ slewing.ref.phase = .slew ∧
      slewing.allStopped = false ∧ -10000 ≤ slewing.freqNow - (slewing.cand 5).freq ∧
      slewing.freqNow - (slewing.cand 5).freq ≤ 10000) ∧
    ran .dpllCapture slewing (fun t => t.ref.phase == .tracking && t.ref.everLocked) = true := by decide +kernel
theorem wit_LoopRuns_6 : (tracking.running = true ∧ tracking.ref.within = some 1000000000 ∧ tracking.ref.tb = 1 ∧
      tracking.ref.phase = .tracking ∧ (1000000000 : Rat) + 2000000000 ≤ tracking.up ∧ tracking.allStopped = false) ∧
    ran .dpllLocked tracking (fun t => t.ref.tb == 2 && !t.ref.transfer) = true := by decide +kernel
def locked : State := { tracking with ref := { tracking.ref with tb := 2 } }
theorem wit_LoopRuns_7 : (locked.running = true ∧ locked.ref.above = some 1000000000 ∧ locked.ref.selected = some 5 ∧
      locked.ref.tb = 2 ∧ (1000000000 : Rat) + 1000000000 ≤ locked.up ∧ locked.allStopped = false) ∧
    ran .lossOfLock locked (fun t => !(t.cand 5).present && (t.cand 5).loss == 4) = true := by decide +kernel
theorem wit_LoopRuns_8 : (locked.running = true ∧ locked.ref.second < locked.now.floor / 1000000000) ∧
    ran .ballastSecondRecord locked (fun t => t.ref.second == 10 && t.ref.acc == 0) = true := by decide +kernel

/-- Lane 0 is an Ethernet port whose link is up: 25GBASE-R, RS-FEC, both directions; PTP instance 1 follows it. -/
def ethV : Word := 2 * 2 ^ 28 + 2 ^ 27 + 2 ^ 26
def eth : State := (((solo.put 0x3000 0 ethV).put 0x3200 0 (2 ^ 29)).put 0x2100 7 (2 ^ 31 + 2 ^ 8)).put 0x2150 1 (7 * 2 ^ 24 + 3 * 2 ^ 16)
def ptpS : Ptp := { slave := true, gm := 9, parent := 5, t21 := some 100, reqT3 := some 5000, reqSeq := 4, annInterval := 1000000000 }
/-- An Announce of clock 77 heard a second time by an instance that follows clock 9. -/
def annA : PtpAnnounce := { sender := 3, gm := 77, utc := 37, priority1 := 100 }
def heardA : State := eth.setPtp 1 { ptpS with foreign := [{ ann := annA, at_ := 9000000000, qualified := false }] }

theorem wit_PtpRuns_1 : (heardA.running = true ∧ heardA.ethLeader (heardA.field 0x2100 7 7 0) = true ∧ annA.ptpScale = true ∧
      annA.steps < 255 ∧ (heardA.bestMaster 1 (hearMaster heardA (heardA.ptpOf 1) annA)).map Foreign.ann = some annA) ∧
    ran (.ptpMessageReceived 1 (heardA.field 0x2150 1 31 24) (.announce annA)) heardA (fun t => (t.ptpOf 1).slave &&
      (t.ptpOf 1).parent == 3 && (t.ptpOf 1).gm == 77 && (t.ptpOf 1).utc == 37 && (t.ptpOf 1).lastAnnounce == heardA.up) = true := by
  decide +kernel
theorem wit_PtpRuns_2 : ((eth.setPtp 1 ptpS).ethLeader ((eth.setPtp 1 ptpS).field 0x2100 7 7 0) = true ∧
      ((eth.setPtp 1 ptpS).ptpOf 1) = ptpS) ∧
    ran (.ptpMessageReceived 1 ((eth.setPtp 1 ptpS).field 0x2150 1 31 24) (.delayResp 5 4 5300 0)) (eth.setPtp 1 ptpS)
      (fun t => (t.ptpOf 1).delay == some 200 && (t.ptpOf 1).reqT3 == none) = true := by decide +kernel
theorem wit_PtpRuns_3 : ((eth.setPtp 1 { ptpS with reqT3 := none }).linkUp ((eth.setPtp 1 { ptpS with reqT3 := none }).field 0x2100 7 7 0) =
      true) ∧
    ran (.ptpDelayReqSend 1) (eth.setPtp 1 { ptpS with reqT3 := none })
      (fun t => (t.ptpOf 1).reqSeq == 5 && (t.ptpOf 1).reqT3 == some eth.now) = true := by decide +kernel
theorem wit_PtpRuns_4 : (((eth.setPtp 1 ptpS).ptpOf 1).slave = true ∧ ((eth.setPtp 1 ptpS).ptpOf 1).lastAnnounce +
      ((eth.setPtp 1 ptpS).field 0x2150 1 19 16 : Nat) * ((eth.setPtp 1 ptpS).ptpOf 1).annInterval ≤ (eth.setPtp 1 ptpS).up) ∧
    ran (.ptpAnnounceTimeout 1) (eth.setPtp 1 ptpS) (fun t => !(t.ptpOf 1).slave && (t.ptpOf 1).delay == none) = true := by
  decide +kernel

theorem wit_LoopRuns_1 : (solo.running = true ∧ solo.ref.lastPulse < solo.now.floor / 1000000000) ∧
    ran .ppsOutPulse solo (fun t => t.emitted == [.pulse 0 100000] && t.ref.lastPulse == 10) = true := by decide +kernel
theorem wit_LoopRuns_2 : (solo.running = true ∧
      solo.ref.lastFrame < gridAtOrBefore (solo.plane 0).origin (periodNs (solo.planeRate 0)) solo.now) ∧
    ran .frameOutPulse solo (fun t => t.emitted == [.pulse 1 (solo.houseLine 0).floor.toNat]) = true := by decide +kernel


/-! Lanes. Lane 4 is an SDI lane of plane 0, lane 8 a tether lane of port 1, lane 12 a pattern lane, in one state. -/

/-- A lane whose mode word is `m`, receive and transmit rate codes `rx` and `tx`, served by both synthesisers of its quad. -/
def laneAs (s : State) (l : Nat) (m : Word) (rx tx : Nat) (key : Option Nat) : State :=
  let y := 2 * (l / 4)
  ((((((s.put 0x3000 l m).put 0x3200 l 0).put 0x3100 l (rx * 2 ^ 24)).put 0x3100 (0x100 + l) (tx * 2 ^ 24)).setSynth y
    { plane := key, family := rateCodeFamily rx, locked := true }).setSynth (y + 1)
    { plane := key, family := rateCodeFamily tx, locked := true })

def bothOn : Word := 2 ^ 27 + 2 ^ 26
def sdiLane : State := laneAs solo 4 (2 ^ 28 + bothOn) 6 6 (some 0)
def tethered : State := laneAs solo 8 (3 * 2 ^ 28 + bothOn + 2 ^ 21 + 2 ^ 23) 0x20 0x20 (some 0)
def patterned : State := laneAs solo 12 (5 * 2 ^ 28 + bothOn) 0x30 0x30 none

theorem wit_LanesConfigured_1 : isAccepted solo.fresh (loc 4) opWrite 0x3000 191 (valueBytes (loc 4) 0x18880000)
      (laneHandler solo.fresh 0x3000 191 (valueBytes (loc 4) 0x18880000)) ∧ (loc 4).fits 0x18880000 = true ∧
    ran (.laneModeWrite (loc 4) 191 0x18880000) solo (fun t => t.elem 0x3000 191 == 0x18880000) = true :=
  ⟨acc_of (by decide +kernel), by decide +kernel⟩
theorem wit_LanesConfigured_2 : isAccepted solo.fresh (loc 4) opWrite 0x3100 0x1BF (valueBytes (loc 4) (3 * 2 ^ 24))
      (laneHandler solo.fresh 0x3100 0x1BF (valueBytes (loc 4) (3 * 2 ^ 24))) ∧ (loc 4).fits (3 * 2 ^ 24) = true ∧
    ran (.laneRateWrite (loc 4) 0x1BF (3 * 2 ^ 24)) solo (fun t => t.elem 0x3100 0x1BF == 3 * 2 ^ 24) = true :=
  ⟨acc_of (by decide +kernel), by decide +kernel⟩
theorem wit_LanesConfigured_3 : isAccepted solo.fresh (loc 4) opWrite 0x3400 191 (valueBytes (loc 4) 0)
      (diagHandler solo.fresh 191 (valueBytes (loc 4) 0)) ∧ (loc 4).fits 0 = true ∧
    ran (.laneDiagWrite (loc 4) 191 0) solo (fun t => t.elem 0x3400 191 == 0) = true :=
  ⟨acc_of (by decide +kernel), by decide +kernel⟩
def inj : Word := setBit (2 ^ 28) 23 true
theorem wit_LanesConfigured_4 : isAccepted patterned.fresh (loc 4) opWrite 0x3400 12 (valueBytes (loc 4) inj)
      (diagHandler patterned.fresh 12 (valueBytes (loc 4) inj)) ∧ (loc 4).fits inj = true ∧
    patterned.protocol 12 = protoPattern ∧ bits inj 31 28 ≠ 0 ∧ patterned.laneQuiet 12 = false ∧
    ran (.patternErrorInject (loc 4) 12 (2 ^ 28)) patterned (fun t => !t.flag 0x3400 12 23 &&
      t.emitted.contains (.bitError 12)) = true := ⟨acc_of (by decide +kernel), by decide +kernel⟩

def unlocked : State := solo.setSynth 95 { family := 3 }
theorem wit_LanesConfigured_5 : (unlocked.running = true ∧ (unlocked.synth 95).family ≠ 0 ∧ (unlocked.synth 95).locked = false) ∧
    ran (.synthesiserLocked 95) unlocked (fun t => (t.synth 95).locked) = true := by decide +kernel
theorem wit_LanesConfigured_6 : ((unlocked.synth 95).failedAt = none ∧ (unlocked.synth 95).setAt + 300000 ≤ unlocked.up) ∧
    ran (.synthesiserLockFail 95) unlocked (fun t => (t.synth 95).failedAt == some unlocked.up &&
      (t.source 0x048).count == 1) = true := by decide +kernel
def failing : State := solo.setSynth 95 { family := 3, failedAt := some 9990000000 }
theorem wit_LanesConfigured_7 : (failing.running = true ∧ (9990000000 : Rat) + 10000000 ≤ failing.up) ∧
    ran (.synthesiserRelockAttempt 95) failing (fun t => (t.synth 95).failedAt == some failing.up && t.dict == failing.dict) =
      true := by decide +kernel

theorem wit_ReceiversFollow_1 : (sdiLane.running = true ∧ sdiLane.rxRuns 4 = true ∧ sdiLane.laneLos 4 = false ∧
      sdiLane.laneLol 4 = false ∧ (sdiLane.lane 4).adapted = false) ∧
    ran (.adaptationComplete 4) sdiLane (fun _ => true) = true := by decide +kernel
theorem wit_ReceiversFollow_2 : (sdiLane.rxOn 4 = true ∧ sdiLane.laneLos 4 = false ∧ sdiLane.flag 0x3200 4 25 = false) ∧
    ran (.losDeclare 4) sdiLane (fun t => t.laneLos 4 && t.elem 0x3400 0x504 == 1 && (t.source 0x040).count == 1) = true := by
  decide +kernel
def noSignal : State := sdiLane.put 0x3200 4 (2 ^ 31)
theorem wit_ReceiversFollow_3 : (noSignal.running = true ∧ noSignal.rxOn 4 = true ∧ noSignal.laneLos 4 = true) ∧
    ran (.losClear 4) noSignal (fun t => !t.laneLos 4) = true := by decide +kernel
theorem wit_ReceiversFollow_4 : (sdiLane.rxOn 4 = true ∧ sdiLane.laneLos 4 = false ∧ sdiLane.laneLol 4 = false) ∧
    ran (.lolDeclare 4) sdiLane (fun t => t.laneLol 4 && t.elem 0x3400 0x604 == 1) = true := by decide +kernel
theorem wit_ReceiversFollow_5 : (sdiLane.put 0x3200 4 (2 ^ 30)).laneLol 4 = true ∧
    ran (.lolClear 4) (sdiLane.put 0x3200 4 (2 ^ 30)) (fun t => !t.laneLol 4) = true := by decide +kernel
def ethDown : State := laneAs solo 0 ethV 0x10 0x10 none
theorem wit_ReceiversFollow_6 : (ethDown.running = true ∧ ethDown.ethLeader 0 = true ∧ ethDown.laneReady 0 = false ∧
      ∀ x ∈ 0 :: groupPartners 0 (ethDown.laneMode 0) (ethDown.txWord 0), ethDown.delivers x = true ∧ ethDown.txRuns x = true) ∧
    ran (.ethernetLinkChange 0 true []) ethDown (fun t => t.laneReady 0) = true := by decide +kernel
theorem wit_ReceiversFollow_7 : eth.ethLeader 0 = true ∧
    ran (.ethernetLinkChange 0 false []) eth (fun t => !t.laneReady 0) = true := by decide +kernel
def autoRate : State := (sdiLane.put 0x3100 4 (0x0F * 2 ^ 24))
theorem wit_ReceiversFollow_8 : (autoRate.running = true ∧ autoRate.protocol 4 = protoSdi ∧ autoRate.rxOn 4 = true ∧
      autoRate.laneLos 4 = false ∧ autoRate.rxCode 4 = 0x0F) ∧
    ran (.sdiRateDetected 4 9) autoRate (fun t => (t.lane 4).incoming == 9 && t.flag 0x3200 4 22) = true := by decide +kernel
theorem wit_ReceiversFollow_9 : (tethered.running = true ∧ tethered.rxOn 8 = true ∧ tethered.laneLos 8 = false ∧
      bit (tethered.laneMode 8) 23 = true ∧ tethered.flag 0x3200 8 28 = false ∧ lineCoded (tethered.protocol 8) = true) ∧
    ran (.polarityReversalDetected 8) tethered (fun t => t.flag 0x3200 8 28 && t.elem 0x3400 0x908 == 1) = true := by
  decide +kernel

/-- A marker of position 1 of port 0 of node 0, with IDLE_NEXT. -/
def mk : Word := (2 ^ 30 + 2 ^ 27) + crc7 (2 ^ 30 + 2 ^ 27)
theorem wit_LineCodeRuns_1 : (tethered.running = true ∧ lineCoded (tethered.protocol 8) = true ∧ tethered.txRuns 8 = true ∧
      tethered.flag 0x3200 8 24 = false ∧ tethered.laneMute 8 = false ∧ tethered.nearEnd 8 = false ∧
      (tethered.lane 8).held.length < 20) ∧
    (List.replicate 16384 ((true, 0) : LineBlock)).length = 16384 := ⟨by decide +kernel, List.length_replicate⟩
theorem wit_LineCodeRuns_2 : (tethered.hears 8 = true ∧ markerOk mk = true ∧ (tethered.lane 8).marker = none) ∧
    ran (.alignmentAcquired 8 mk 30) tethered (fun t => (t.lane 8).marker == some mk && (t.lane 8).skew == 30 &&
      t.field 0x3200 8 5 3 == 0 && t.field 0x3200 8 2 0 == 1) = true := by decide +kernel
def aligned : State := tethered.setLane 8 { marker := some mk }
/-- A marker of port 2, and so of another sender. -/
def mk2 : Word := (2 ^ 27 + 2 * 2 ^ 24) + crc7 (2 ^ 27 + 2 * 2 ^ 24)
theorem wit_LineCodeRuns_3 : (aligned.hears 8 = true ∧ (aligned.lane 8).marker = some mk ∧ aligned.flag 0x3200 8 25 = false) ∧
    ran (.alignmentAcquired 8 mk 30) aligned (fun t => t.lanes == aligned.lanes && t.elem 0x3400 0x808 == 1) = true ∧
    (markerOk mk2 = true ∧ markerIdent mk2 ≠ markerIdent mk) ∧
    ran (.alignmentAcquired 8 mk2 30) aligned (fun t => (t.lane 8).marker == none && !t.laneReady 8) = true := by
  decide +kernel
theorem wit_LineCodeRuns_4 : (aligned.running = true ∧ (aligned.lane 8).marker = some mk ∧ (aligned.lane 8).missed ≤ 2) ∧
    ran (.alignmentLost ⟨8, [none, none, none]⟩) aligned (fun t => (t.lane 8).marker == none && !t.laneReady 8 &&
      t.elem 0x3400 0x808 == 1) = true := by decide +kernel
theorem wit_LineCodeRuns_5 : ran (.alignmentLost ⟨8, [some mk]⟩) (aligned.setLane 8 { marker := some mk, missed := 2 })
      (fun t => (t.lane 8).marker == some mk && (t.lane 8).missed == 0) = true ∧
    ran (.alignmentLost ⟨8, [some mk2]⟩) aligned (fun t => (t.lane 8).marker == none && t.elem 0x3400 0x808 == 1) = true := by
  decide +kernel
def ethFec : State := laneAs solo 0 (ethV + 2 * 2 ^ 17) 0x11 0x11 none
theorem wit_LineCodeRuns_6 : (ethFec.running = true ∧ ethFec.hears 0 = true ∧ ethFec.protocol 0 = protoEth ∧
      bits (ethFec.laneMode 0) 18 17 = 2 ∧ ethFec.fecLimit 0 = 7) ∧
    ran (.uncorrectableCodeword ⟨0, []⟩ 7) ethFec (fun t => t.elem 0x3400 0x300 == 7 && t.elem 0x3400 0x400 == 0) = true ∧
    ran (.uncorrectableCodeword ⟨0, []⟩ 8) ethFec (fun t => t.elem 0x3400 0x300 == 0 && t.elem 0x3400 0x400 == 1) = true := by
  decide +kernel
/-- A receiver one symbol before the end of a codeword of zeros. -/
def nearly : State := tethered.setLane 8 { marker := some mk, rx := { got := 5438 } }
def lastLevels : List Nat := codeLevels scrambleSeed 0 0 [false, false]
theorem wit_LineCodeRuns_7 : (nearly.hears 8 = true ∧ (nearly.lane 8).marker.isSome = true ∧ nearly.field 0x3400 8 26 24 ≠ 2 ∧
      nearly.flag 0x3200 8 28 = false ∧ ((nearly.lane 8).rx.feed lastLevels).words = [some 0] ∧
      ((nearly.lane 8).rx.feed lastLevels).commas = []) := by decide +kernel
def idling : State := laneAs (tethered.put 0xA100 1 (2 ^ 31 + 2 ^ 28 + 8 * 2 ^ 20)) 9
  (3 * 2 ^ 28 + bothOn + 2 ^ 21 + 2 ^ 23) 0x20 0x20 (some 0)
theorem wit_LineCodeRuns_8 : (idling.running = true ∧ idling.mayIdle 9 = true ∧ idling.flag 0x3200 9 24 = false ∧
      (idling.lane 9).held.length < 20) ∧
    ran (.electricalIdleEnter ⟨9, []⟩) idling (fun t => t.flag 0x3200 9 24 && (t.lane 9).held == []) = true := by decide +kernel
theorem wit_LineCodeRuns_9 : ((aligned.lane 8).marker.isSome = true ∧ markerOk mk = true ∧ bit mk 30 = true) ∧
    ran (.idleMarkerReceived 8 mk) aligned (fun t => t.flag 0x3200 8 25 && t.lanes == aligned.lanes) = true := by decide +kernel
theorem wit_LineCodeRuns_10 : (aligned.put 0x3200 8 (2 ^ 24)).flag 0x3200 8 24 = true ∧
    ran (.electricalIdleExit ⟨8, false⟩) (aligned.put 0x3200 8 (2 ^ 24)) (fun t => !t.flag 0x3200 8 24 && (t.lane 8).held == [] &&
      t.emitted.length == 2) = true := by decide +kernel
theorem wit_LineCodeRuns_11 : ran (.electricalIdleExit ⟨8, true⟩) (aligned.put 0x3200 8 (2 ^ 24))
      (fun t => !t.flag 0x3200 8 24 && t.field 0x3200 8 27 26 == 3) = true := by decide +kernel
theorem wit_LineCodeRuns_12 : (aligned.put 0x3200 8 (2 ^ 25)).flag 0x3200 8 25 = true ∧
    ran (.idleExitFailure 8) (aligned.put 0x3200 8 (2 ^ 25)) (fun t => !t.flag 0x3200 8 25 && (t.lane 8).marker == none) = true := by
  decide +kernel
theorem wit_LineCodeRuns_13 : (laneTxEn (sdiLane.laneMode 4) = true ∧ sdiLane.protocol 4 ≠ protoOff ∧
      sdiLane.flag 0x3200 4 24 = false ∧ sdiLane.flag 0x3200 4 26 = false) ∧
    ran (.txShortDeclare 4) sdiLane (fun t => t.field 0x3200 4 27 26 == 3 && (t.lane 4).probeAt == sdiLane.up &&
      t.elem 0x3400 0x704 == 1) = true := by decide +kernel
def shorted : State := sdiLane.put 0x3200 4 (3 * 2 ^ 26)
theorem wit_LineCodeRuns_14 : (shorted.running = true ∧ shorted.flag 0x3200 4 26 = true ∧ shorted.flag 0x3200 4 24 = false ∧
      (shorted.lane 4).probeAt + 100000000 ≤ shorted.up) ∧
    ran (.txShortProbe 4 false) shorted (fun t => !t.flag 0x3200 4 26 && (t.lane 4).probeAt == shorted.up) = true := by
  decide +kernel

/-! Inputs and outputs. Input 2047 is an IP flow (1080p 50, 4:2:2 10-bit), input 7 an SDI flow of lane 4. -/

def fmtW (form rate samp : Nat) : Word := (form * 128 + rate * 8 + samp) * 2 ^ 21
/-- SDI input 7 and SDI output 9 on lane 4, in lock. -/
def sdiIn : State := (((((sdiLane.put 0x4000 7 (2 ^ 28 + 4 * 2 ^ 8)).put 0x4100 7 (fmtW 4 7 0)).put 0x3200 4 (2 ^ 29)).put
  0x6000 9 (2 ^ 28 + 4 * 2 ^ 8)).put 0x6100 9 (fmtW 4 7 0))
def ipIn (st : Nat) : State := (((solo.put 0x4000 2047 (2 * 2 ^ 28)).put 0x4100 2047 (fmtW 4 7 0)).put 0x4300 2047 (2 ^ 31)).put
  0x4300 0x47FF (st * 2 ^ 29)

theorem wit_SdiInputsLock_1 : ((sdiIn.put 0x3200 4 0).running = true ∧ (sdiIn.put 0x3200 4 0).protocol 4 = protoSdi ∧
      (sdiIn.put 0x3200 4 0).delivers 4 = true ∧ (sdiIn.put 0x3200 4 0).laneReady 4 = false ∧
      (sdiIn.put 0x3200 4 0).flowsOn 4 = [7] ∧ bindLanes ((sdiIn.put 0x3200 4 0).inBind 7) = [4]) ∧
    ran (.trsLock 4) (sdiIn.put 0x3200 4 0) (fun t => t.laneReady 4 && t.flag 0x4300 7 31) = true := by decide +kernel
theorem wit_SdiInputsLock_2 : (sdiIn.running = true ∧ sdiIn.protocol 4 = protoSdi ∧ sdiIn.laneReady 4 = true ∧
      sdiIn.flowsOn 4 = [7]) ∧
    ran (.trsLockLost 4) sdiIn (fun t => !t.laneReady 4 && !t.flag 0x4300 7 31) = true := by decide +kernel
def badLine : SdiLine := { num := 1125, crcError := true }
theorem wit_SdiInputsLock_3 : (sdiIn.hears 4 = true ∧ sdiIn.laneReady 4 = true ∧ sdiIn.flowsOn 4 = [7] ∧ bindQuad (sdiIn.inBind 7) = false ∧
      (bits (sdiIn.inBind 7) 23 22 = 3 ↔ badLine.stream = 2) ∧ badLine.crcError = true) ∧
    ran (.sdiLineReceived 4 badLine) sdiIn (fun t => t.elem 0x4300 0x1007 == 1) = true := by decide +kernel
def wrongFmt : State := (sdiIn.put 0x4300 7 (2 ^ 31 + 2 ^ 29)).setIn 7 { clean := 3, beganAt := 10000000000 }
theorem wit_SdiInputsLock_4 : (wrongFmt.running = true ∧ wrongFmt.flag 0x4300 7 (wrongFmt.mismatchBit 7) = true ∧
      3 ≤ (wrongFmt.in_ 7).clean ∧ wrongFmt.now < (wrongFmt.in_ 7).beganAt + (wrongFmt.srcFmt 7).linePeriod) ∧
    ran (.formatMismatchClear 7) wrongFmt (fun t => !t.flag 0x4300 7 29) = true := by decide +kernel

/-- Input 2047 in state `st`, at the start of frame 3 that it has received from its beginning, timed by the 30th of a second. -/
def inAt (st : Nat) (x : InFlow) : State := (ipIn st).setIn 2047
  { x with frame := some 3, whole := true, beganAt := 10000000000, arrival := 10000000000, stamp := some 7 }
theorem wit_InputsLostAndBack_1 : let s := inAt 1 {}
    (s.running = true ∧ bindKind (s.inBind 2047) = 2 ∧ (s.in_ 2047).stamp.isSome = true ∧ s.pathSilent 2047 0 = true ∧
      s.pathSilent 2047 1 = true ∧ s.inState 2047 = 1 ∧ s.mirrored = false) ∧
    ran (.ipInputLost 2047) s (fun t => !t.flag 0x4300 2047 31 && t.inState 2047 == 2) = true := by decide +kernel
theorem wit_InputsLostAndBack_2 : let s := (inAt 2 { lostAt := some 5 }).put 0x4300 2047 (2 ^ 31 + 2 ^ 30)
    (s.inState 2047 = 2 ∧ s.inputOk 2047 = true ∧ s.flag 0x4300 2047 31 = true ∧ (s.in_ 2047).whole = true ∧
      s.atFrameStart 2047 = true ∧ s.mirrored = false) ∧
    ran (.inputReturn 2047) s (fun t => t.inState 2047 == 1 && (t.in_ 2047).lostAt == none) = true := by decide +kernel
def held : State := ((ipIn 3).put 0x4200 0xFFF 100).setIn 2047 { lostAt := some 9000000000 }
theorem wit_InputsLostAndBack_3 : (held.running = true ∧ held.inState 2047 = 3 ∧ (held.in_ 2047).lostAt = some 9000000000 ∧
      (9000000000 : Rat) + held.holdTime 2047 ≤ held.up) ∧
    ran (.holdExpiry 2047) held (fun t => t.inState 2047 == 4) = true := by decide +kernel
def drifting : State := (ipIn 1).setIn 2047 { frame := some 3, good := 0 }
theorem wit_InputsLostAndBack_4 : (drifting.running = true ∧ drifting.inState 2047 = 1 ∧ drifting.synced 2047 = false ∧ bindKind (drifting.inBind 2047) ≠ 3 ∧
      drifting.outside 2047 = true ∧ drifting.mirrored = false) ∧
    ran (.inputMistimed 2047) drifting (fun t => t.inState 2047 == 5 && t.flag 0x4300 0x47FF 26 && (t.source 0x081).count == 1) =
      true := by decide +kernel
theorem wit_InputsLostAndBack_5 : let s := inAt 5 { good := 3 }
    (s.inState 2047 = 5 ∧ 3 ≤ (s.in_ 2047).good ∧ s.atFrameStart 2047 = true) ∧
    ran (.mistimedRecovery 2047) s (fun t => t.inState 2047 == 1) = true := by decide +kernel
/-- A mistimed input that may be promoted; one whose promotion was tried a second ago; one on whose promotion a move waits. -/
def auto (x : InFlow) (mv : List Move) : State := { (inAt 5 { x with missAt := 9000000000 }).put 0x4200 2047 (2 ^ 30) with moves := mv }
def mvIn : Move := { index := 0x4200, sub := 2047, old := 0, new := 0, start := 0, point := none }
theorem wit_InputsLostAndBack_6 : let s := auto {} []
    (s.running = true ∧ s.inState 2047 = 5 ∧ s.flag 0x4200 2047 30 = true ∧ s.atFrameStart 2047 = true ∧
      (s.in_ 2047).missAt < (s.in_ 2047).beganAt ∧ s.syncFits 2047 = true ∧ (s.in_ 2047).triedAt = none) ∧
    ran (.autoSyncPromotion 2047) s (fun t => t.inState 2047 == 1 && t.flag 0x4200 2047 31 && t.flag 0x4300 0x47FF 27) = true ∧
    ran (.promotionRetry 2047) (auto { triedAt := some 9000000000 } []) (fun t => t.inState 2047 == 1 && t.flag 0x4200 2047 31) = true := by
  decide +kernel
theorem wit_InputsLostAndBack_7 : let s := auto { triedAt := some 9000000000 } [mvIn]
    (s.inState 2047 = 5 ∧ s.flag 0x4200 2047 30 = true ∧ s.atFrameStart 2047 = true ∧
      (s.in_ 2047).missAt < (s.in_ 2047).beganAt ∧ s.syncFits 2047 = false ∧ (s.in_ 2047).triedAt = some 9000000000 ∧
      (9000000000 : Rat) + 1000000000 ≤ s.up) ∧
    ran (.promotionRetry 2047) s (fun t => t.inState 2047 == 5 && (t.in_ 2047).triedAt == some s.up && (t.source 0x082).count == 1) =
      true ∧
    ran (.autoSyncPromotion 2047) (auto {} [mvIn]) (fun t => t.inState 2047 == 5 && (t.source 0x082).count == 1) = true := by
  decide +kernel
def syncIn : State := (ipIn 1).put 0x4200 2047 (2 ^ 31)
theorem wit_InputsLostAndBack_8 : (syncIn.running = true ∧ syncIn.synced 2047 = true ∧ bindKind (syncIn.inBind 2047) ≠ 3 ∧
      syncIn.flag 0x4300 2047 (syncIn.mismatchBit 2047) = false ∧ syncIn.mirrored = false) ∧
    ran (.fsSlotSelect 2047) syncIn (fun t => (t.in_ 2047).slot == some (syncIn.srcFrameAt 2047 (syncIn.now + syncIn.srcWindow 2047))) =
      true := by decide +kernel

/-- IP output 2047 sends 1080p 50 of plane 0. -/
def ipOut : State := (solo.put 0x6000 2047 (2 * 2 ^ 28)).put 0x6100 2047 (fmtW 4 7 0)
theorem wit_OutputsPlay_1 : (ipOut.running = true ∧ ipOut.outKind 2047 = 2 ∧ ipOut.outGap 2047 = false ∧
      (ipOut.out 2047).changeTo = none) ∧
    ran (.outputFrameStart 2047) ipOut (fun t => (t.out 2047).frame == some (ipOut.outFrameAt 2047 ipOut.now)) = true := by
  decide +kernel
def swapping : State := (ipOut.put 0x5000 2047 5).setOut 2047 { swapAt := some 1000000000 }
theorem wit_OutputsPlay_2 : (swapping.running = true ∧ (swapping.out 2047).swapAt = some 1000000000 ∧
      swapping.switchPoint 2047 1000000000 ≤ swapping.now) ∧
    ran (.outputSwitchPoint 2047) swapping (fun t => t.airElem 0x5000 2047 == swapping.elem 0x5000 2047 &&
      (t.out 2047).swapAt == none) = true := by decide +kernel
def sdiOut : State := sdiIn.setOut 9 { frame := some 3 }
theorem wit_OutputsPlay_3 : (sdiOut.running = true ∧ sdiOut.outKind 9 = 1 ∧ sdiOut.sdiRuns 9 = true ∧
      (sdiOut.out 9).frame = some 3 ∧ 1125 ≤ rasterLines (sdiOut.outFmt 9).form ∧ bindQuad (sdiOut.outBind 9) = false ∧
      sdiOut.laneMute 4 = false) ∧ ran (.outputLineLaunch 9 1125) sdiOut (fun t => t.emitted.length == 1) = true := by decide +kernel
def gen15 : State := solo.put 0x5400 15 (2 ^ 31 + (4 * 128 + 7 * 8) * 2 ^ 15)
theorem wit_OutputsPlay_4 : (gen15.running = true ∧ gen15.srcBound (2064 + 15) = true) ∧
    ran (.generatorFrameStart 15) gen15 (fun t => (mapGet genD t.gens 15).any fun x =>
      x.frame == gen15.srcFrameAt 2079 gen15.now && x.conf == gen15.elem 0x5400 15 && x.colour == gen15.eff 0x5400 0x1F) = true := by
  decide +kernel

/-- Port 0 with IPv4 on. -/
def live : State := (((laneAs eth 0 ethV 0x10 0x10 none).put 0x3200 0 (2 ^ 29)).put 0x3500 0x100 0x0A000001).put 0x3500 0x400 (2 ^ 31 + 24 * 2 ^ 23)
/-- A broadcast frame, a short one, and one to 224.0.0.1. -/
def toAll : FrameIn := ⟨0xFFFFFFFFFFFF, 0, 64⟩
def tooShort : FrameIn := ⟨0xFFFFFFFFFFFF, 0, 63⟩
def toHosts : FrameIn := ⟨groupMac 0xE0000001, 0, 64⟩
theorem arp_short {s : State} {l : Nat} {f : FrameIn} (h : s.tagOk l f.vlan f.length = false) : s.arpOk l f = false := by
  simp [State.arpOk, h]
theorem arp_broadcast {s : State} {l : Nat} {f : FrameIn} (hm : f.mac = 0xFFFFFFFFFFFF) (h : s.tagOk l f.vlan f.length = true) :
    s.arpOk l f = true := by simp [State.arpOk, hm, h]
theorem igmp_hosts {s : State} {l : Nat} {f : FrameIn} (hm : f.mac = groupMac 0xE0000001) (h : s.tagOk l f.vlan f.length = true) :
    s.igmpOk l f = true := by simp [State.igmpOk, hm, h]
theorem wit_ArpAndIgmp_1 : (live.running = true ∧ live.linkUp 0 = true ∧ live.groupHears 0 = true) ∧ live.arpOk 0 tooShort = false :=
  ⟨by decide +kernel, arp_short (by decide +kernel)⟩
theorem wit_ArpAndIgmp_9 : (live.portLive 0 = true ∧ live.groupHears 0 = true ∧ (live.groupLanes 0).any live.laneMute = false) ∧
    live.arpOk 0 toAll = true := ⟨by decide +kernel, arp_broadcast rfl (by decide +kernel)⟩
def hop : Arp := { lane := 0, ip := 7, asked := some 1000000000 }
def hopM : Arp := { lane := 0, ip := 7, mac := some 9, asked := some 1000000000, misses := 3 }
theorem wit_ArpAndIgmp_2 : ({ live with arp := [hop] }.portLive 0 = true ∧ { live with arp := [hop] }.groupHears 0 = true ∧
      hop ∈ { live with arp := [hop] }.arp ∧ hop.lane = 0 ∧ hop.ip = 7) ∧ { live with arp := [hop] }.arpOk 0 toAll = true :=
  ⟨by decide +kernel, arp_broadcast rfl (by decide +kernel)⟩
theorem wit_ArpAndIgmp_3 : ({ live with arp := [hop] }.arp.find? (fun b => b.lane == 0 && b.ip == 7) = some hop ∧ hop.mac = none ∧
      (1000000000 : Rat) + 1000000000 ≤ live.up) ∧
    ran (.arpResolveRetry 0 7) { live with arp := [hop] } (fun t => t.arp.contains { hop with asked := some live.up }) = true := by
  decide +kernel
theorem wit_ArpAndIgmp_4 : ({ live with now := 61000000000, arp := [hopM] }.arp.find? (fun b => b.lane == 0 && b.ip == 7) = some hopM ∧
      hopM.mac = some 9 ∧ (1000000000 : Rat) + 60000000000 ≤ { live with now := 61000000000 }.up) ∧
    ran (.arpRefresh 0 7) { live with now := 61000000000, arp := [hopM] } (fun t =>
      t.arp.contains { hopM with asked := some 61000000000, misses := 0, mac := none }) = true := by decide +kernel
theorem wit_ArpAndIgmp_5 : (live.portLive 0 = true ∧ live.groupHears 0 = true ∧ live.queried 0 0 = [0]) ∧ live.igmpOk 0 toHosts = true :=
  ⟨by decide +kernel, igmp_hosts rfl (by decide +kernel)⟩
def queried : State := 
  { live with igmp := [⟨0, 0, [], 1, some 9000000000, [(10000000000, 0)], none, some 10000000000, []⟩] }
theorem wit_ArpAndIgmp_6 : ((queried.igmpOf 0 0).due.length = 1 ∧ (queried.igmpOf 0 0).due.all (fun x => decide (x.1 ≤ queried.up)) = true) ∧
    ran (.igmpQueryResponse 0 0) queried (fun t => (t.igmpOf 0 0).due == []) = true := by decide +kernel
theorem wit_ArpAndIgmp_7 : ((queried.igmpOf 0 0).lastAt = some 9000000000 ∧ 0 < (queried.igmpOf 0 0).left ∧
      (9000000000 : Rat) + 1000000000 ≤ queried.up) ∧
    ran (.igmpStateChangeReport 0 0) queried (fun t => (t.igmpOf 0 0).left == 0 && (t.igmpOf 0 0).changed == []) = true := by
  decide +kernel
theorem wit_ArpAndIgmp_8 : ((queried.igmpOf 0 0).v1Until = none ∧ (queried.igmpOf 0 0).v2Until = some 10000000000 ∧ (10000000000 : Rat) ≤ queried.up) ∧
    ran (.igmpCompatTimeout 0 0) queried (fun t => (t.igmpOf 0 0).compat == 3) = true := by decide +kernel

/-- Entry 4095 takes ST 2110-30 audio of group 239.0.0.1 port 5004 on lane 0. -/
def rxW : Word := 2 ^ 255 + 2 * 2 ^ 252 + 0xEF000001 * 2 ^ 208 + 5004 * 2 ^ 160 + 97 * 2 ^ 140 + 2 * 2 ^ 104
def rxOn : State := live.put 0x4400 4095 rxW
def pkt : Packet := 
  ⟨groupMac 0xEF000001, 0, 64, 5, 0xEF000001, 5004, true, true, 2, 97, 1, 0, false, .audio [[1, 2]] false⟩
/-- What the port's filter looks at in a packet. -/
def seenOf (p : Packet) : FrameIn := { mac := p.mac, vlan := p.vlan, length := p.length }
theorem ip_short {s : State} {l : Nat} {f : FrameIn} (h : s.tagOk l f.vlan f.length = false) : s.ipOk l f = false := by
  simp [State.ipOk, h]
theorem ip_group {s : State} {l : Nat} {f : FrameIn} (hm : s.groupHeard l f.mac = true) (h : s.tagOk l f.vlan f.length = true) :
    s.ipOk l f = true := by simp [State.ipOk, hm, h]
theorem wit_PacketsReceived_1 : (rxOn.running = true ∧ rxOn.linkUp 0 = true ∧ rxOn.groupHears 0 = true) ∧
    rxOn.ipOk 0 (seenOf { pkt with length := 63 }) = false := ⟨by decide +kernel, ip_short (by decide +kernel)⟩
theorem wit_PacketsReceived_2 : rxOn.ipOk 0 (seenOf { pkt with ipOk := false }) = true ∧ rxOn.ipPasses 0 { pkt with ipOk := false } = false :=
  ⟨ip_group (by decide +kernel) (by decide +kernel), by decide +kernel⟩
theorem wit_PacketsReceived_3 : rxOn.ipOk 0 (seenOf pkt) = true ∧ rxOn.ipPasses 0 pkt = true ∧ rxOn.matchEntry 0 pkt = some (4095, rxW) :=
  ⟨ip_group (by decide +kernel) (by decide +kernel), by decide +kernel, by decide +kernel⟩
def open_ : OpenLine := { line := 41, frame := 3, count := 0, spans := [], laterAt := some 1000000000 }
def opened : State := (ipIn 1).setIn 2047 { openLines := [open_] }
theorem wit_PacketsReceived_4 : (bindKind (opened.inBind 2047) = 2 ∧ opened.srcOpaque 2047 = false ∧ opened.in2022 2047 = false ∧ opened.mirrored = false ∧
      (opened.in_ 2047).openLines.find? (fun o => o.line == 41) = some open_ ∧ open_.laterAt = some 1000000000 ∧
      (1000000000 : Rat) + opened.closeTime 2047 ≤ opened.up) ∧
    ran (.lineCloseTimeout 2047 41) opened (fun t => (t.in_ 2047).done.contains (lineKey (opened.srcFmt 2047) 3 41) &&
      !(t.in_ 2047).openLines.contains open_) = true := by decide +kernel
def driftIn : State := (solo.put 0x4400 4095 rxW).setRx 4095 { timing := some (false, 9000000000) }
theorem wit_PacketsReceived_5 : (driftIn.running = true ∧ entryOn (driftIn.rxEntry 4095) = true ∧
      isAudioKind (entryKind (driftIn.rxEntry 4095)) = true ∧ rxAsync (driftIn.rxEntry 4095) = false ∧
      (driftIn.rxOf 4095).timing = some (false, 9000000000) ∧ (9000000000 : Rat) + 1000000000 ≤ driftIn.up ∧
      driftIn.flag 0x4400 0x2FFF 26 = false ∧ driftIn.mirrored = false) ∧
    ran (.tsDriftDeclare 4095) driftIn (fun t => t.flag 0x4400 0x2FFF 26 && (t.source 0x067).count == 1) = true := by decide +kernel
def waitsAnc : State := (ipIn 1).setIn 2047 { ancWait := [⟨1, 0, [], 9000000000, 0, 1⟩, ⟨2, 0, [], 9999000000, 0, 2⟩] }
theorem wit_PacketsReceived_6 : (waitsAnc.running = true ∧ waitsAnc.mirrored = false) ∧
    ran (.ancAttachTimeout 2047) waitsAnc (fun t => (t.in_ 2047).ancWait.length == 1) = true := by decide +kernel
def onB : State := (ipIn 1).put 0x4300 2047 (2 ^ 31 + 2 ^ 29)
theorem wit_PacketsReceived_7 : (onB.running = true ∧ bindKind (onB.inBind 2047) = 2 ∧ onB.flag 0x4300 2047 (30 - 1) = true ∧
      onB.pathSilent 2047 1 = true) ∧
    ran (.pathAbsent 2047 1) onB (fun t => !t.flag 0x4300 2047 29) = true := by decide +kernel

theorem wit_EntriesAndSends_1 : isAccepted solo.fresh (loc 32) opWrite 0x4400 4095 (valueBytes (loc 32) 0)
      (rxHandler solo.fresh 4095 (valueBytes (loc 32) 0)) ∧ (loc 32).fits 0 = true ∧
    ran (.rxEntryWrite (loc 32) 4095 0) solo (fun t => t.elem 0x4400 4095 == 0) = true :=
  ⟨acc_of (by decide +kernel), by decide +kernel⟩
theorem wit_EntriesAndSends_2 : isAccepted solo.fresh (loc 32) opWrite 0x6300 4095 (valueBytes (loc 32) 0)
      (txHandler solo.fresh 4095 (valueBytes (loc 32) 0)) ∧ (loc 32).fits 0 = true ∧
    ran (.txEntryWrite (loc 32) 4095 0) solo (fun t => t.elem 0x6300 4095 == 0) = true :=
  ⟨acc_of (by decide +kernel), by decide +kernel⟩

/-- Send entry 4095 of kind `k` with output 2047's picture. -/
def sends (k : Nat) (x : TxSt) : State := ((ipOut.put 0x6300 4095 (2 ^ 255 + k * 2 ^ 252 + 2047 * 2 ^ 112 + 2 * 2 ^ 104)).setOut 2047
  { frame := some 3 }).setTx 4095 x
theorem wit_EntriesAndSends_3 : let s := sends kind20 { frame := some 3, count := 3, seq := 2 ^ 32 - 1 }
    (s.running = true ∧ entryOn (s.txEntry 4095) = true ∧ isVideoKind (entryKind (s.txEntry 4095)) = true ∧
      entryTarget (s.txEntry 4095) = 2047 ∧ s.outKind 2047 = 2 ∧ (s.out 2047).frame = some 3 ∧ (s.txOf 4095).frame = some 3 ∧
      (s.txOf 4095).next < (s.txOf 4095).count * formFields (s.outFmt 2047).form) ∧
    ran (.videoPacketSend 4095) s (fun t => (t.txOf 4095).seq == 0 && (t.txOf 4095).next == 1) = true := by decide +kernel
theorem wit_EntriesAndSends_4 : let s := { sends kind30 { frame := some (sends kind30 {}).gridNow } with
        now := 10002000000, period := some ((sends kind30 {}).gridNow + 90) }
    (s.running = true ∧ entryOn (s.txEntry 4095) = true ∧ isAudioKind (entryKind (s.txEntry 4095)) = true ∧
      (s.txOf 4095).frame = some 480000 ∧ s.gridNow ≤ 480000 + 96 ∧ (480000 : Int) + 48 ≤ s.gridNow ∧ s.period = some 480090) := by
  decide +kernel
theorem wit_EntriesAndSends_5 : let s := sends kind40 { frame := some 3 }
    (s.running = true ∧ entryOn (s.txEntry 4095) = true ∧ entryKind (s.txEntry 4095) = kind40 ∧ s.outKind 2047 = 2 ∧
      (s.out 2047).frame = some 3 ∧ (s.txOf 4095).frame = some 3 ∧ (s.txOf 4095).count < formFields (s.outFmt 2047).form) ∧
    ran (.ancPacketSend 4095) s (fun t => (t.txOf 4095).seq == 1) = true := by decide +kernel

/-! Banks, takes, moves, salvos. -/

def onP0 : State := solo
def shadowRq : Rq := { loc 2 with shadow := true }
theorem wit_DirtyFollowsWrites_1 : isAccepted onP0.fresh shadowRq opWrite 0x7000 49151 (valueBytes shadowRq 3)
      (elementHandler onP0.fresh shadowRq 0x7000 49151 (valueBytes shadowRq 3)) ∧
    (bankOf 0x7000 49151 = some .audio ∧ shadowRq.fits 3 = true) ∧
    ran (.shadowWrite shadowRq 0x7000 49151 3) onP0 (fun t => t.shadowElem 0x7000 49151 == 3 && (t.bank 1).dirty &&
      t.elem 0x7000 49151 == onP0.elem 0x7000 49151) = true := ⟨acc_of (by decide +kernel), by decide +kernel, by decide +kernel⟩
def reseeds : State := onP0.setBank 4 { reseeding := true, dirty := true }
theorem wit_DirtyFollowsWrites_2 : (reseeds.running = true ∧ (reseeds.bank 4).reseeding = true) ∧
    ran (.reseedComplete 4) reseeds (fun t => !(t.bank 4).dirty && !(t.bank 4).reseeding) = true := by decide +kernel
def dirtied : State := onP0.setBank 4 { dirty := true }
theorem wit_DirtyFollowsWrites_3 : isAccepted dirtied.fresh (loc 4) opWrite 0x1100 2 (valueBytes (loc 4) 31)
      (discardHandler dirtied.fresh (valueBytes (loc 4) 31)) ∧ (loc 4).fits 31 = true ∧
    ran (.discard (loc 4) 31) dirtied (fun t => !(t.bank 4).dirty && (t.bank 4).reseeding) = true :=
  ⟨acc_of (by decide +kernel), by decide +kernel⟩
def shortRq : Rq := { shadowRq with len := 4 }
theorem wit_DirtyFollowsWrites_4 : isRefused onP0.fresh shortRq opWrite 0x7000 49151 (valueBytes shortRq 3)
      (elementHandler onP0.fresh shortRq 0x7000 49151 (valueBytes shortRq 3)) stType ∧
    ran (.shadowWrite shortRq 0x7000 49151 3) onP0 (fun t => t.banks == onP0.banks) = true :=
  ⟨ref_of (by decide +kernel), by decide +kernel⟩

def protV : Word := 2 ^ 31
theorem wit_RoutesProtectedAndMoved_1 : isAccepted onP0.fresh (loc 4) opWrite 0x5010 2047 (valueBytes (loc 4) protV)
      (protectHandler onP0.fresh (loc 4) 2047 (valueBytes (loc 4) protV)) ∧ (loc 4).fits protV = true ∧
    ran (.protectionWrite (loc 4) 2047 protV) onP0 (fun t => t.elem 0x5010 2047 == 2 ^ 31 + 1) = true :=
  ⟨acc_of (by decide +kernel), by decide +kernel⟩
def genV : Word := 2 ^ 31 + (4 * 128 + 7 * 8) * 2 ^ 15
theorem wit_RoutesProtectedAndMoved_2 : isAccepted onP0.fresh (loc 4) opWrite 0x5400 15 (valueBytes (loc 4) genV)
      (flowHandler onP0.fresh 0x5400 15 (valueBytes (loc 4) genV)) ∧ isStructural 0x5400 15 = true ∧ (loc 4).fits genV = true ∧
    ran (.structuralWrite (loc 4) 0x5400 15 genV) onP0 (fun t => t.elem 0x5400 15 == genV) = true :=
  ⟨acc_of (by decide +kernel), by decide +kernel⟩
def fmtMove : Move := { index := 0x4500, sub := 2047, old := 0, new := 2 ^ 16, start := 0, point := some 1 }
def moving : State := { ipIn 1 with moves := [fmtMove] }
theorem wit_RoutesProtectedAndMoved_3 : (isStructural 0x4500 2047 = true ∧ moving.running = true ∧
      moving.moveOf 0x4500 2047 = some fmtMove ∧ moving.moveDue fmtMove = true) ∧
    ran (.movePoint 0x4500 2047) moving (fun t => t.elem 0x4500 2047 == 2 ^ 16 && t.moveOf 0x4500 2047 == none) = true := by
  decide +kernel

/-- A take of every bank on plane 0 at frame 100,000. -/
def takeV : Word := later * 2 ^ 32 + 31
theorem wit_TakesRun_2 : isAccepted onP0.fresh (loc 12) opTake 0x1100 0 (valueBytes (loc 12) takeV)
      (takeHandler onP0.fresh (loc 12) (valueBytes (loc 12) takeV)) ∧ ((loc 12).fits takeV = true ∧ takeCascade takeV = false) ∧
    ran (.take (loc 12) takeV) onP0 (fun t => (List.range 5).all (fun b => (t.bank b).armed) &&
      t.events.map (fun e => (e.kind, e.scope, e.plane, e.tp)) == [(1, 31, 0, later)]) = true :=
  ⟨acc_of (by decide +kernel), by decide +kernel, by decide +kernel⟩
def takeAll : Event := { tp := mkTp 1 1 0, plane := 0, kind := 1, scope := 31 }
def takeDue : State := { onP0 with events := [takeAll], banks := [] }
theorem wit_TakesRun_3 : (takeDue.running = true ∧ takeDue.due takeAll = true) ∧
    ran .takeSwap takeDue (fun t => (List.range 5).all fun b => !(t.bank b).armed && (t.bank b).reseeding) = true := by
  decide +kernel
theorem wit_TakesRun_4 : (reseeds.bank 4).reseeding = true ∧
    ran (.reseedComplete 4) reseeds (fun t => !(t.bank 4).reseeding) = true := by decide +kernel
def takeLater : State := { onP0 with events := [{ takeAll with tp := later, rq := some (loc 12) }] }
theorem wit_TakesRun_5 : isAccepted takeLater.fresh (loc 4) opAbort 0x1100 1 (valueBytes (loc 4) 1)
      (abortHandler takeLater.fresh (loc 4) (valueBytes (loc 4) 1)) ∧ ((loc 4).fits 1 = true ∧ bit 1 28 = false) ∧
    ran (.abort (loc 4) 1) takeLater (fun t => t.events == []) = true :=
  ⟨acc_of (by decide +kernel), by decide +kernel, by decide +kernel⟩
theorem wit_TakesRun_6 : isAccepted dirtied.fresh (loc 4) opWrite 0x1100 2 (valueBytes (loc 4) 31)
      (discardHandler dirtied.fresh (valueBytes (loc 4) 31)) ∧ bankNum 0x7000 49151 = some 1 ∧
    ran (.discard (loc 4) 31) dirtied (fun t => t.shadowElem 0x7000 49151 == dirtied.elem 0x7000 49151) = true :=
  ⟨acc_of (by decide +kernel), by decide +kernel⟩
/-- A lone timeline master with banks 0 and 1 bound to cascades. -/
def cascadeOn : State := onP0.put 0xA010 0 (2 ^ 31 + 2 ^ 30 + 3 * 2 ^ 23)
theorem wit_TakesRun_7 : isAccepted cascadeOn.fresh (loc 12) opTake 0x1100 0 (valueBytes (loc 12) (setBit (later * 2 ^ 32 + 1) 28 true))
      (cascadeTakeHandler cascadeOn.fresh (loc 12) (valueBytes (loc 12) (setBit (later * 2 ^ 32 + 1) 28 true))) ∧
    ((loc 12).fits (setBit (later * 2 ^ 32 + 1) 28 true) = true ∧ bit cascadeOn.bound 0 = true) ∧
    ran (.cascadeTake (loc 12) (later * 2 ^ 32 + 1)) cascadeOn (fun t => (t.bank 0).armed) = true :=
  ⟨acc_of (by decide +kernel), by decide +kernel, by decide +kernel⟩
def cascadeHeld : State := { cascadeOn with events := [{ takeAll with tp := later, scope := 1, cascade := true, rq := some (loc 12) }] }
theorem wit_TakesRun_8 : isAccepted cascadeHeld.fresh (loc 4) opAbort 0x1100 1 (valueBytes (loc 4) (setBit 1 28 true))
      (cascadeAbortHandler cascadeHeld.fresh (loc 4) (valueBytes (loc 4) (setBit 1 28 true))) ∧
    (loc 4).fits (setBit 1 28 true) = true ∧
    ran (.cascadeAbort (loc 4) 1) cascadeHeld (fun t => t.events.all fun e => !e.cascade) = true :=
  ⟨acc_of (by decide +kernel), by decide +kernel⟩

/-- A salvo image of one entry: AOUT slot 3 takes AIN slot 5. -/
def salvo1 : List Byte := toBytes 8 (2 ^ 48) ++ toBytes 8 (0x7000 * 2 ^ 48 + 3 * 2 ^ 32 + 5)
theorem wit_SalvosRun_1 : isAccepted onP0.fresh (loc 16) opWrite 0x1110 63 salvo1 (salvoHandler onP0.fresh 63 salvo1) ∧
    ran (.salvoStore (loc 16) 63 salvo1) onP0 (fun t => t.blob 0x1110 63 == salvo1) = true := ⟨acc_of (by decide +kernel), by decide +kernel⟩
def stored : State := onP0.putBlob 0x1110 63 salvo1
theorem wit_SalvosRun_2 : isAccepted stored.fresh (loc 2) opWrite 0x1110 0x40 (valueBytes (loc 2) 63)
      (fireHandler stored.fresh (loc 2) (valueBytes (loc 2) 63)) ∧ (loc 2).fits 63 = true ∧
    ran (.salvoFire (.dumus (loc 2)) 63) stored (fun t => t.events.map (fun e => (e.kind, e.arg, e.image)) ==
      [(2, 63, [(0x7000, 3, 5)])]) = true := ⟨acc_of (by decide +kernel), by decide +kernel⟩
theorem wit_SalvosRun_3 : (stored.running = true ∧ stored.mode = .solo ∧ stored.logStrict = false ∧
      (fireChecks stored.fresh 63 0 0).range = false ∧ (fireChecks stored.fresh 63 0 0).mode = false ∧
      (fireChecks stored.fresh 63 0 0).prot = false ∧ (fireChecks stored.fresh 63 0 0).admission = false) ∧
    ran (.salvoFire (.fieldInput 31) 63) stored (fun t => t.events.map (fun e => (e.kind, e.arg, e.image)) ==
      [(2, 63, [(0x7000, 3, 5)])]) = true := by decide +kernel
def salvoE : Event := { tp := mkTp 1 1 0, plane := 0, kind := 2, scope := 2, arg := 63, image := [(0x7000, 3, 5)] }
theorem wit_SalvosRun_4 : ({ stored with events := [salvoE] }.running = true ∧ { stored with events := [salvoE] }.due salvoE = true ∧
      (salvoE.image.map fun i => (i.1, i.2.1)).Nodup) ∧
    ran .salvoExecute { stored with events := [salvoE] } (fun t => t.elem 0x7000 3 == 5) = true := by decide +kernel

/-! Audio. -/

theorem wit_AudioPeriodRuns_1 : (solo.running = true ∧ solo.period ≠ some solo.gridNow) ∧
    ran (.audioPeriod []) solo (fun t => t.period == some solo.gridNow && !t.mix.computed) = true := by decide +kernel
def stepping_ : GainSt := { now := some 0, target := none, stepAt := 0 }
theorem wit_AudioPeriodRuns_2 : let s := solo.setAout 0xBFFF { gain := stepping_ }
    ((s.aoutSlot 0xBFFF).gain.now ≠ (s.aoutSlot 0xBFFF).gain.target ∧ (s.aoutSlot 0xBFFF).gain.stepAt + s.gainTimeout ≤ s.up) ∧
    ran (.gainStepTimeout 0xBFFF) s (fun t => (t.aoutSlot 0xBFFF).gain.now == stepGain (some 0) none) = true := by decide +kernel
theorem wit_AudioPeriodRuns_3 : let s := { solo with sideGains := [(255, stepping_)] }
    ((mapGet gainD s.sideGains 255).now ≠ (mapGet gainD s.sideGains 255).target ∧
      (mapGet gainD s.sideGains 255).stepAt + s.gainTimeout ≤ s.up) ∧
    ran (.gainStepTimeout 0x100FF) s (fun t => (mapGet gainD t.sideGains 255).now == stepGain (some 0) none) = true := by
  decide +kernel
theorem wit_AudioPeriodRuns_4 : let s := (solo.put 0x7410 49151 (2 ^ 15)).setAin 49151 { at_ := some 240 }
    (s.running = true ∧ s.flag 0x7410 49151 15 = true ∧ (s.ainSlot 49151).at_ = some 240 ∧
      s.eff 0x7420 49151 = (s.ainSlot 49151).delay) ∧
    ran (.delayCrossfadeEnd 49151) s (fun t => (t.ainSlot 49151).at_ == none && (t.ainSlot 49151).delay == 0) = true := by
  decide +kernel
theorem wit_AudioPeriodRuns_5 : (solo.running = true ∧ intervalOf solo.gridNow ≠ solo.meterAt) ∧
    ran .meterIntervalEnd solo (fun t => t.meterAt == intervalOf solo.gridNow) = true := by decide +kernel

/-- Asynchronous ST 2110-30 audio of entry 4095 through the input bridge 0. -/
def bridged (b : Bridge) : State := { solo.put 0x4400 4095 (2 ^ 255 + 2 * 2 ^ 252 + 2 ^ 250 + 100 * 2 ^ 112 + 2 * 2 ^ 104) with
  bridges := [(0, { b with kind := 2, owner := 4095, base := 100, slots := 2, nominal := 48000 })] }
theorem wit_BridgesTrack_1 : let s := bridged {}
    ((syncBridges s.fresh).hasBridge 0 = true ∧ ((syncBridges s.fresh).bridge 0).band = 0 ∧ ((syncBridges s.fresh).bridge 0).st = 1 ∧
      ((syncBridges s.fresh).bridge 0).since + 10000000 ≤ s.up ∧ ((syncBridges s.fresh).bridge 0).kind ≤ 2 ∧
      (((syncBridges s.fresh).bridge 0).nominal : Rat) * 999 / 1000 ≤ 48048 ∧
      (48048 : Rat) ≤ (((syncBridges s.fresh).bridge 0).nominal : Rat) * 1001 / 1000 ∧ s.mirrored = false) ∧
    ran (.bridgeAcquire 0 48048) s (fun t => (t.bridge 0).st == 1 && (t.bridge 0).band == 1 && (t.bridge 0).ratio == 1000000) =
      true := by decide +kernel
theorem wit_BridgesTrack_2 : let s := bridged { band := 5 }
    (s.hasBridge 0 = true ∧ (s.bridge 0).st = 1 ∧ (s.bridge 0).band = 5 ∧ (s.bridge 0).bandAt + 400000000 ≤ s.up ∧ s.mirrored = false) ∧
    ran (.bridgeBandwidthStep 0) s (fun t => (t.bridge 0).band == 6 && (t.bridge 0).st == 2) = true := by decide +kernel
theorem loop_zero (b : Bridge) : b.loop 0 = (b.integ, (b.integ * 1000000000).floor) := by
  have h : (0 : Rat) / 1000 = 0 := by decide +kernel
  simp [Bridge.loop, h, Rat.add_zero]
theorem wit_BridgesTrack_3 : let s := bridged { band := 6, st := 2 }
    (s.hasBridge 0 = true ∧ (s.bridge 0).band ≠ 0 ∧ (s.bridge 0).st = 2 ∧ (s.bridge 0).updAt + 1000000 ≤ s.up ∧ s.mirrored = false) ∧
    (∀ b : Bridge, b.integ = 1 / 1000 → (b.loop 0).2 = 1000000) ∧ ∀ b : Bridge, b.integ = 1 / 500 → 1000000 < (b.loop 0).2 := by
  refine ⟨by decide +kernel, fun b h => ?_, fun b h => ?_⟩
  · rw [loop_zero, h]
    decide +kernel
  · rw [loop_zero, h]
    decide +kernel
theorem wit_BridgesTrack_4 : let s := bridged { band := 6, st := 2, lastAt := 9990000000 }
    ((s.bridge 0).st = 2 ∧ (s.bridge 0).lastAt + 10000000 ≤ s.up ∧ s.mirrored = false) ∧
    ran (.bridgeSourceLost 0) s (fun t => (t.bridge 0).st == 3) = true := by decide +kernel
/-- Exair output 8 follows input 0, which has no clock; its bridge is output instance 0x1FFF. -/
def followed : State := { solo.put 0x7310 8 (2 ^ 31 + 2 ^ 29) with bridges := [(0x1FFF, { kind := 4, owner := 0, st := 2, band := 6 })] }
theorem wit_BridgesTrack_5 : (followed.hasBridge 0x1FFF = true ∧ (followed.bridge 0x1FFF).st = 2 ∧
      (followed.bridge 0x1FFF).port 0x1FFF = some 24 ∧ followed.portFollows 24 = true ∧
      (followed.audioPort (followed.followPort 24)).clock = false ∧ followed.mirrored = false) ∧
    ran (.bridgeSourceLost 0x1FFF) followed (fun t => (t.bridge 0x1FFF).st == 5) = true := by decide +kernel
def slavePort : State := solo.put 0x7300 15 (2 ^ 31 + 2 ^ 27 + 2 ^ 25)
theorem wit_BridgesTrack_6 : (bit (slavePort.portWord 15) 31 = true ∧ slavePort.portMaster 15 = false) ∧
    ran (.audioPortFrame 15 48001 [] [] false) slavePort (fun t => (t.audioPort 15).clock && (t.audioPort 15).rate == 48001 &&
      (t.audioPort 15).edgeAt == slavePort.up) = true := by decide +kernel
theorem wit_BridgesTrack_7 : let s := slavePort.setAudioPort 15 { clock := true, rate := 48000, edgeAt := 9990000000 }
    (s.portClocked 15 = true ∧ (s.audioPort 15).absent = false ∧ (s.audioPort 15).edgeAt + 10000000 ≤ s.up) ∧
    ran (.audioPortClockLost 15) s (fun t => !(t.audioPort 15).clock && (t.audioPort 15).rate == 0 && (t.source 0x0C0).count == 1) =
      true := by decide +kernel

def wrongImage : List Byte := List.replicate 72 0#8
def blockRq : Rq := { loc 72 with first := true, last := true }
theorem wit_SpoolsLoad_1 : isAccepted solo.fresh blockRq opBlockWrite 0x7210 1 wrongImage (loadHandler solo.fresh 1 wrongImage) ∧
    ran (.spoolLoad blockRq 1 wrongImage) solo (fun t => (t.spoolBank 1).st == 2 && (t.spoolBank 1).image == wrongImage) = true :=
  ⟨acc_of (by decide +kernel), by decide +kernel⟩
theorem wit_SpoolsLoad_2 : let s := solo.setSpoolBank 1 { st := 2, image := wrongImage }
    (s.spoolBank 1).st = 2 ∧ ran (.spoolCheckComplete 1) s (fun t => t.spoolBank 1 == { st := 4 }) = true := by decide +kernel
theorem wit_SpoolsLoad_3 : let s := solo.setSpoolBank 1 { st := 1, frameAt := 9000000000 }
    ((s.spoolBank 1).st = 1 ∧ (s.spoolBank 1).frameAt + 1000000000 ≤ s.up) ∧
    ran (.spoolLoadAbandon 1) s (fun t => t.spoolBank 1 == { st := 4 }) = true := by decide +kernel
def loaded : State := solo.setSpoolBank 1 { st := 3 }
theorem wit_SpoolsLoad_4 : isAccepted loaded.fresh (loc 1) opWrite 0x7200 6 (valueBytes (loc 1) 1)
      (emptyHandler loaded.fresh (valueBytes (loc 1) 1)) ∧ (loc 1).fits 1 = true ∧
    ran (.spoolBankEmpty (loc 1) 1) loaded (fun t => t.spoolBank 1 == {}) = true := ⟨acc_of (by decide +kernel), by decide +kernel⟩
theorem wit_SpoolsLoad_5 : let s := loaded.put 0x7200 0 1
    (s.running = true ∧ s.period = none ∧ (computePeriod s.fresh).elem 0x7200 0 < 2 ∧
      (computePeriod s.fresh).airElem 0x7200 0 ≠ (computePeriod s.fresh).elem 0x7200 0 ∧
      (computePeriod s.fresh).sampleEffectDue 3 = true) ∧
    ran .spoolEffectPoint s (fun t => t.airElem 0x7200 0 == 1 && t.mix.engine == some { bank := 1 }) = true := by decide +kernel
theorem wit_SpoolsLoad_6 : isAccepted loaded.fresh (loc 4) opWrite 0x7221 65535 (toBytes 4 7)
      (coefHandler loaded.fresh 1 65535 (toBytes 4 7)) ∧
    ran (.coefficientWrite (loc 4) 1 65535 (toBytes 4 7)) loaded (fun t => t.elem 0x7221 65535 == 7 &&
      t.mix.coefs.any fun c => c.due == loaded.effectPeriod && c.bank == 1 && c.entry == 65535 && c.old == loaded.elem 0x7221 65535) = true := ⟨acc_of (by decide +kernel), by decide +kernel⟩
theorem wit_SpoolsLoad_7 : let s := { loaded with mix := { loaded.mix with coefs := [⟨0, 479999, 1, 0, 5⟩, ⟨0, 480000, 1, 1, 5⟩] } }
    (s.running = true ∧ s.gridNow = 480000) ∧ ran .coefficientEffect s (fun t => t.mix.coefs == [⟨0, 480000, 1, 1, 5⟩]) = true := by
  decide +kernel

/-! The compositor. Head 15 composes 1080p 50 on plane 0 and shows generator 0 on layer 63; the window of generator 0 is open. -/

def headed : State := ((solo.put 0x8000 15 (2 ^ 31 + (4 * 128 + 7 * 8) * 2 ^ 18)).put 0x5400 0 (2 ^ 31 + (4 * 128 + 7 * 8) * 2 ^ 15)).put
  (0x8100 + 1023) 0 (2 ^ 31 + 2064)
def bareHead : State := solo.put 0x8000 15 (2 ^ 31 + (4 * 128 + 7 * 8) * 2 ^ 18)
theorem wit_HeadsCompose_1 : (bareHead.running = true ∧ bareHead.srcBound (2048 + 15) = true ∧ bareHead.moveOf 0x8000 15 = none ∧
      (bareHead.head 15).gapUntil = none ∧ (bareHead.head 15).shots = []) ∧
    ran (.headFrameBoundary 15) bareHead (fun t => (t.head 15).shots.any fun x => x.frame == bareHead.srcFrameAt 2063 bareHead.now && !x.gap) = true := by decide +kernel
theorem wit_HeadsCompose_2 : headed.liveLayers.contains (64 * 15 + 63) = true ∧ ran (.stagedFrameComplete 15 63) headed (fun _ => true) = true := by
  decide +kernel
def retimed : State := { headed with moves := [{ index := 0x8000, sub := 15, old := headed.elem 0x8000 15,
                                                 new := 2 ^ 31 + (2 * 128 + 7 * 8) * 2 ^ 18, start := 0, point := some 10000000000 }] }
theorem wit_HeadsCompose_3 : ((retimed.moveOf 0x8000 15).any (fun m => m.point == some 10000000000) = true ∧ (10000000000 : Rat) ≤ retimed.now) ∧
    ran (.headTimingChange 15) retimed (fun t => t.elem 0x8000 15 == 2 ^ 31 + (2 * 128 + 7 * 8) * 2 ^ 18 && t.moveOf 0x8000 15 == none) =
      true := by decide +kernel

/-- A sprite of 1 by 1 pixels. -/
def dot : List Byte := toBytes 2 1 ++ toBytes 2 1 ++ toBytes 4 0 ++ toBytes 5 0x0123456789
def dotRq : Rq := { loc 13 with first := true, last := true }
theorem wit_GraphicsRun_1 : isAccepted solo.fresh dotRq opBlockWrite 0x8900 (0x100 + 63) dot (uploadHandler solo.fresh 63 dot) ∧
    ran (.spriteUpload dotRq 63 dot) solo (fun t => (t.sprite 63).w == 1 && (t.sprite 63).h == 1 &&
      (t.sprite 63).rows == [[0x0123456789]]) = true := ⟨acc_of (by decide +kernel), by decide +kernel⟩
def capV : Word := 63 * 2 ^ 56 + 2064 * 2 ^ 32
theorem wit_GraphicsRun_2 : isAccepted headed.fresh (loc 8) opWrite 0x8900 0x140 (valueBytes (loc 8) capV)
      (captureHandler headed.fresh (loc 8) (valueBytes (loc 8) capV)) ∧ (loc 8).fits capV = true ∧
    ran (.spriteCapture (loc 8) capV) headed (fun t => t.gfx.captures == [{ sprite := 63, source := 2064, at_ := headed.up, rq := loc 8 }]) =
      true := ⟨acc_of (by decide +kernel), by decide +kernel⟩
def shot : SpriteCapture := { sprite := 63, source := 2064, at_ := 9000000000, rq := loc 8 }
def capturing : State := { solo with gfx := { solo.gfx with captures := [shot] } }
def snapped : State := { headed with gfx := { headed.gfx with captures := [shot] } }
theorem wit_GraphicsRun_3 : let u := snapped.fresh.caughtUp 2064
    let m := u.srcFrameAt 2064 u.now - 1
    (snapped.gfx.captures.find? (fun c => c.sprite == 63) = some shot ∧ u.stageable 2064 m = true ∧
      u.srcFrameAt 2064 u.now - 2 ≤ m ∧ m ≤ u.srcFrameAt 2064 u.now ∧ shot.at_ + u.stepped + 64000 ≤ u.srcStart 2064 m ∧
      u.lineTime 2064 m (wovenLine (u.srcFmt 2064).form (formActive (u.srcFmt 2064).form - 1)) ≤ u.now) := by decide +kernel
theorem wit_GraphicsRun_4 : (capturing.gfx.captures.find? (fun c => c.sprite == 63) = some shot ∧ shot.at_ + 1000000000 ≤ capturing.up) ∧
    ran (.spriteCaptureTimeout 63) capturing (fun t => t.gfx.captures == [] && t.gfx.sprites == capturing.gfx.sprites) = true := by
  decide +kernel
def twoSprites : State := (solo.setSprite 63 { w := 4, h := 4, rows := List.replicate 4 [1, 2, 3, 4] }).setSprite 0
  { w := 2, h := 2, rows := [[5, 6], [7, 8]] }
theorem wit_GraphicsRun_5 : isAccepted twoSprites.fresh (loc 1) opWrite 0x8900 0x141 (valueBytes (loc 1) 63)
      (deleteHandler twoSprites.fresh (valueBytes (loc 1) 63)) ∧ (loc 1).fits 63 = true ∧
    ran (.spriteDelete (loc 1) 63) twoSprites (fun t => t.sprite 63 == {}) = true := ⟨acc_of (by decide +kernel), by decide +kernel⟩

/-- Static layer 3 of head 15 shows sprite 63. -/
def staticV : Word := 2 ^ 63 + 63 * 2 ^ 56
theorem wit_GraphicsRun_6 : isAccepted twoSprites.fresh (loc 8) opWrite 0x8000 0x203F (valueBytes (loc 8) staticV)
      (staticHandler twoSprites.fresh 63 (valueBytes (loc 8) staticV)) ∧ (loc 8).fits staticV = true ∧
    ran (.staticLayerWrite (loc 8) 63 staticV) twoSprites (fun t => t.elem 0x8000 0x203F == staticV) = true :=
  ⟨acc_of (by decide +kernel), by decide +kernel⟩
/-- Two by two pixels of sprite 0 to the last corner of sprite 63. -/
def blitV : Word := 0 * 2 ^ 182 + 63 * 2 ^ 176 + 2 * 2 ^ 128 + 2 * 2 ^ 112 + 2 * 2 ^ 96 + 2 * 2 ^ 80
theorem wit_GraphicsRun_7 : isAccepted twoSprites.fresh (loc 24) opWrite 0x8900 0x200 (valueBytes (loc 24) (setBits blitV 191 188 1))
      (blitHandler twoSprites.fresh (valueBytes (loc 24) (setBits blitV 191 188 1))) ∧ (loc 24).fits (setBits blitV 191 188 1) = true ∧
    ran (.blitCopy (loc 24) blitV) twoSprites (fun t => t.gfx.queue == [.host (setBits blitV 191 188 1)]) = true :=
  ⟨acc_of (by decide +kernel), by decide +kernel⟩
theorem wit_GraphicsRun_8 : isAccepted twoSprites.fresh (loc 24) opWrite 0x8900 0x200 (valueBytes (loc 24) (setBits blitV 191 188 2))
      (blitHandler twoSprites.fresh (valueBytes (loc 24) (setBits blitV 191 188 2))) ∧ (loc 24).fits (setBits blitV 191 188 2) = true ∧
    ran (.blitFill (loc 24) blitV) twoSprites (fun t => t.gfx.queue == [.host (setBits blitV 191 188 2)]) = true :=
  ⟨acc_of (by decide +kernel), by decide +kernel⟩
def queuedBlit : State := { twoSprites with gfx := { twoSprites.gfx with queue := [.host (setBits blitV 191 188 1), .flatten 15] } }
theorem wit_GraphicsRun_9 : (queuedBlit.running = true ∧ queuedBlit.gfx.busy = none) ∧
    ran .blitterJobStart queuedBlit (fun t => t.gfx.busy == some (.host (setBits blitV 191 188 1)) && t.gfx.queue == [.flatten 15]) =
      true := by decide +kernel
def blitting (v : Word) : State := { twoSprites with gfx := { twoSprites.gfx with busy := some (.host v) } }
theorem wit_GraphicsRun_10 : (blitting (setBits blitV 191 188 1)).running = true ∧
    ran .blitterJobComplete (blitting (setBits blitV 191 188 1)) (fun t => t.gfx.busy == none && t.gfx.last == stOk &&
      (t.sprite 63).rows == [[1, 2, 3, 4], [1, 2, 3, 4], [1, 2, 5, 6], [1, 2, 7, 8]]) = true ∧
    ran .blitterJobComplete (blitting (setBits (blitV + 2 ^ 80) 191 188 1)) (fun t => t.gfx.busy == none && t.gfx.last == stRange) =
      true := by decide +kernel
theorem wit_GraphicsRun_11 : isAccepted solo.fresh (loc 8) opWrite 0x8000 0x3F (toBytes 8 (2 ^ 63))
      (cursorHandler solo.fresh 0x3F (toBytes 8 (2 ^ 63))) ∧
    ran (.cursorWrite (loc 8) 0x3F (toBytes 8 (2 ^ 63))) solo (fun t => t.elem 0x8000 0x3F == 2 ^ 63 &&
      (t.head 15).cursorQ == [(solo.effectAt 15 16000, 2 ^ 63)]) = true := ⟨acc_of (by decide +kernel), by decide +kernel⟩
def cursorImage : List Byte := List.replicate 16384 1#8
theorem wit_GraphicsRun_12 : isAccepted solo.fresh { dotRq with len := 1024 } opBlockWrite 0x8000 0x4F cursorImage
      (cursorHandler solo.fresh 0x4F cursorImage) := acc_of (by decide +kernel)

/-! Tether. Port 0 has the one lane 8, aligned and ready; its peer is node 2, port 3. This node is 1. -/

def portW : Word := 2 ^ 31 + 8 * 2 ^ 20
def wired : State := (((tethered.put 0xA100 0 portW).put 0x3200 8 (2 ^ 29)).put 0xA000 0 1).setLane 8 { marker := some mk }
def hello2 : Hello := { node := 2, port := 3, master := false, bound := 0, changeover := false, sideB := false, links := [(0, 1)] }
/-- The port is up; the map knows both ends. -/
def linked : State :=
  let s := (wired.put 0xA100 0x100 (2 ^ 31)).setTport 0 { peer := some (2, 3), dryAt := some 9000000000, credit0 := 500 }
  { s with tether := { s.tether with hellos := [⟨{ hello2 with links := [(3, 1)] }, 0, s.up⟩] } }
theorem wit_TetherLinksRun_1 : (wired.running = true ∧ wired.portMute 0 = false ∧ wired.portOn 0 = true) ∧
    ran .helloSend wired (fun t => t.emitted.contains (.hello 0 (wired.ownHello 0))) = true := by decide +kernel
theorem wit_TetherLinksRun_2 : (wired.portHears 0 = true ∧ wired.portReady 0 = true ∧ hello2.node ≠ wired.nodeId) ∧
    ran (.helloReceived 0 hello2) wired (fun t => t.tether.hellos.contains ⟨hello2, 0, wired.up⟩) = true := by decide +kernel
def peered : State := wired.setTport 0 { peer := some (2, 3) }
theorem wit_TetherLinksRun_3 : (peered.tUp 0 = false ∧ peered.portReady 0 = true ∧ (peered.tport 0).peer.isSome = true ∧
      peered.flag 0xA100 0x100 29 = false) ∧
    ran (.tetherPortUp 0) peered (fun t => t.tUp 0 && (t.tport 0).credit0 == 512 && (t.tport 0).credit1 == 512) = true := by
  decide +kernel
theorem wit_TetherLinksRun_4 : (linked.setLane 8 {}).running = true ∧ ((linked.put 0x3200 8 0).portLost 0 = true) ∧
    ran (.tetherPortDown 0) (linked.put 0x3200 8 0) (fun t => !t.tUp 0 && (t.tport 0).peer == none) = true := by decide +kernel
def slaveNode : State := linked.put 0xA010 0 (2 ^ 31 + 3 * 2 ^ 23)
def masterNode : State := linked.put 0xA010 0 (2 ^ 31 + 2 ^ 30)
theorem wit_TetherLinksRun_5 : (slaveNode.portMute 0 = false ∧ slaveNode.cascadeOn = true ∧ slaveNode.tUp 0 = true) ∧
    ran .tetherTimelineSend slaveNode (fun t => t.emitted.contains (.tether 0 (controlBlock 1 slaveNode.timelineBody) [])) = true := by
  decide +kernel
theorem wit_TetherLinksRun_6 : (slaveNode.running = true ∧ slaveNode.portHears 0 = true ∧ slaveNode.tUp 0 = true) ∧
    ran (.tetherTimelineReceived 0 77) slaveNode (fun t => (t.tport 0).timeline == 77 && (t.tport 0).timeAt == some slaveNode.up) = true := by
  decide +kernel
theorem wit_TetherLinksRun_7 : (masterNode.running = true ∧ masterNode.tUp 0 = true ∧ masterNode.cascadeMaster = true) ∧
    ran .planecfgSend masterNode (fun t => t.tether.planecfg == 1 && t.emitted.length == 1) = true := by decide +kernel
def fed : State := { slaveNode with tether := { slaveNode.tether with upstream := some 0 } }
theorem wit_TetherLinksRun_8 : (fed.running = true ∧ fed.portHears 0 = true ∧ fed.tUp 0 = true ∧ fed.inherits 0 = true) ∧
    ran (.tetherPlanecfgReceived 0 3 (2 ^ 31 + 2 * 2 ^ 24 + 8 * 2 ^ 20) ⟨0, some (50000000, 0)⟩) fed (fun t => t.planeOn 3 && t.planeFormat 3 == 2 &&
      t.planeRateCode 3 == 8) = true := by decide +kernel
theorem wit_TetherLinksRun_9 : linked.tUp 0 = true ∧
    ran (.pathEcho 0 0 100 110 210) linked (fun t => t.elem 0xA100 0x208 == 100000 && (t.tport 0).flight.isSome) = true := by
  decide +kernel
def bridle : State := [188, 189, 190, 191].foldl (fun s l => (laneAs s l (4 * 2 ^ 28 + bothOn) 0x20 0x20 (some 0)).put 0x3200 l (2 ^ 29)) solo
theorem wit_TetherLinksRun_10 : (bridle.running = true ∧ bridle.bridleUp = true) ∧
    ran (.pathEcho 8 0 100 110 210) bridle (fun t => (t.tport 8).flight.isSome) = true := by decide +kernel
theorem wit_TetherLinksRun_11 : (linked.portMute 0 = false ∧ linked.tUp 0 = true) ∧
    ran (.creditSend 0) linked (fun t => (t.tport 0).freed0 == 0 && t.emitted.length == 1) = true := by decide +kernel
theorem wit_TetherLinksRun_12 : (linked.portHears 0 = true ∧ linked.tUp 0 = true ∧ linked.tether.queue = [] ∧ linked.tether.own = []) ∧
    ran (.creditReceived 0 20 9) linked (fun t => (t.tport 0).credit0 == 512 && (t.tport 0).credit1 == 512) = true := by decide +kernel
theorem wit_TetherLinksRun_13 : ((linked.tport 0).dryAt = some 9000000000 ∧ (9000000000 : Rat) + 100000 ≤ linked.up ∧
      linked.flag 0xA100 0x100 28 = false) ∧
    ran (.creditStall 0) linked (fun t => t.flag 0xA100 0x100 28 && (t.source 0x123).count == 1) = true := by decide +kernel

def cellB : LinkCell where
  label := 4095
  vc := 0
  reserved := false
  anc := false
  frame := 3
  line := 41
  index := 0
  last := false
  valid := 240
  subst := false
  meta_ := 0
  pcrc := 0
  payload := []
theorem wit_TetherStreamsRun_1 : (linked.running = true ∧ linked.portHears 0 = true ∧ linked.tUp 0 = true) ∧ linked.tether.streams.find? (fun t => !t.pending && t.from_ == some (0, cellB.label)) = none ∧
    ran (.tetherCellReceived 0 cellB) linked (fun t => t.elem 0xA100 0x508 == 1) = true := by decide +kernel
def streamB : Stream := { node := 2, source := 5, plane := 0, rate := 1000, from_ := some (0, 4095), outs := [(0, 9)], flows := [2047] }
def carried : State := { (linked.put 0x4000 2047 (3 * 2 ^ 28 + 2 * 2 ^ 12 + 5)).put 0xA200 2047 (2 * 2 ^ 124) with
  tether := { linked.tether with streams := [streamB] } }
theorem wit_TetherStreamsRun_2 : (carried.portHears 0 = true ∧ carried.portMute 0 = false ∧ carried.tUp 0 = true ∧
      carried.tether.streams.find? (fun t => !t.pending && t.from_ == some (0, 4095)) = some streamB ∧ streamB.outs = [(0, 9)] ∧
      0 < (carried.tport 0).credit 0 ∧ carried.flag 0xA100 0 19 = false) ∧
    ran (.tetherCellReceived 0 cellB) carried (fun t => t.emitted.contains (.blocks 0 (linkBlocks { cellB with label := 9 }))) = true := by
  decide +kernel
def bindV : Word := 2 * 2 ^ 12 + 5
theorem wit_TetherStreamsRun_3 : isAccepted slaveNode.fresh (loc 4) opWrite 0x4000 2047 (valueBytes (loc 4) (setBits bindV 31 28 3))
      (tetherBind slaveNode.fresh 2047 (valueBytes (loc 4) (setBits bindV 31 28 3))) ∧
    ((loc 4).fits (setBits bindV 31 28 3) = true ∧ slaveNode.stream? 2 5 = none) ∧
    ran (.tetherBindingWrite (loc 4) 2047 bindV) slaveNode (fun t => (t.remoteOf 2047).asked == some (setBits bindV 31 28 3) &&
      t.tether.streams.any fun x => x.node == 2 && x.source == 5 && x.pending && x.flows.contains 2047) = true :=
  ⟨acc_of (by decide +kernel), by decide +kernel, by decide +kernel⟩
def asked : State := { linked with
  remote := [(2047, { asked := some (3 * 2 ^ 28 + bindV) })]
  tether := { linked.tether with streams := [{ streamB with pending := true, outs := [] }] } }
theorem wit_TetherStreamsRun_4 : (asked.portHears 0 = true ∧ asked.tUp 0 = true ∧ asked.stream? 2 5 = some { streamB with pending := true, outs := [] } ∧ asked.askingFlows streamB = [2047]) ∧
    ran (.reserveReceived 0 (.answer 2 5 { reason := 0x0C })) asked (fun t => t.tether.streams == [] &&
      (t.remoteOf 2047).asked == none) = true := by decide +kernel
theorem wit_TetherStreamsRun_5 : (carried.portHears 0 = true ∧ carried.tUp 0 = true ∧ carried.stream? 2 5 = some streamB ∧ 2 ≤ carried.field 0xA200 2047 127 124) ∧
    ran (.reserveReceived 0 (.path 2 5 true)) carried (fun t => t.tether.streams.contains { streamB with broken := true } &&
      t.field 0xA200 2047 127 124 == 3) = true := by decide +kernel
theorem wit_TetherStreamsRun_6 : (carried.portHears 0 = true ∧ carried.tUp 0 = true ∧ streamB.broken = false ∧ carried.field 0xA200 2047 127 124 = 2) ∧
    ran (.streamStateReceived 0 4095 63) carried (fun t => t.field 0x4300 0x47FF 31 26 == 63) = true := by decide +kernel

/-- Dumus node 9 is mapped to node 2. -/
def mapped : State := linked.put 0xA020 9 2
def far : Rq := { loc 0 with node := 9, tnode := 0xFFF }
theorem wit_TunnelAndCascade_1 : (mapped.takesUp far = true ∧ far.node ≠ mapped.elem 0x1000 0 ∧ mapped.elem 0xA020 9 ≠ 0xFFFF ∧
      mapped.elem 0xA020 9 ≠ mapped.nodeId ∧ (mapped.portToward 2).isSome = true) ∧
    ran (.tunnelRequest far opRead 0x1000 0 []) mapped (fun t => t.tether.tunnels == [⟨far, 2, 0x1000, 0, mapped.up⟩]) = true := by
  decide +kernel
theorem wit_TunnelAndCascade_2 : (mapped.portHears 0 = true ∧ mapped.portMute 0 = false ∧ mapped.portToward 2 = some 0) ∧
    ran (.tunnelFragmentReceived 0 2 3 0 true [1#8]) mapped (fun t => t.emitted.length == 1) = true := by decide +kernel
theorem wit_TunnelAndCascade_3 : mapped.portHears 0 = true ∧ mapped.tUp 0 = true ∧
    ran (.tunnelFragmentReceived 0 mapped.nodeId 2 0 false [7#8]) mapped (fun t => mapGet bytesD t.tether.parts 2 == [7#8]) = true := by
  decide +kernel
def tunnelled : Tunnel := ⟨far, 2, 0x1000, 0, 9999000000⟩
def waitsFar : State := { mapped with tether := { mapped.tether with tunnels := [tunnelled] } }
theorem wit_TunnelAndCascade_4 : waitsFar.tether.tunnels.find? (fun t => decide (t.at_ + 1000000 ≤ waitsFar.up)) = some tunnelled ∧
    ran .tunnelTimeout waitsFar (fun t => t.tether.tunnels == []) = true := by decide +kernel
theorem wit_TunnelAndCascade_5 : (slaveNode.cascadeOn = true ∧ bit slaveNode.bound 0 = true) ∧
    ran (.cascadeRecordReceived 0 (.take later 0 1 false 1 2 3)) slaveNode (fun t => (t.bank 0).armed &&
      t.tether.flooded.contains (.take later 0 1 false 1 2 3)) = true := by decide +kernel
theorem wit_TunnelAndCascade_6 : let s := { slaveNode with events := [{ takeE with tp := later, scope := 1, cascade := true }] }
    s.cascadeOn = true ∧ ran (.cascadeRecordReceived 0 (.abort 1 1 2 3)) s (fun t => t.events == []) = true := by decide +kernel
def relayed : State := { linked.put 0xA010 0 (2 ^ 31 + 2 ^ 22) with mode := .standby }
theorem wit_TunnelAndCascade_7 : (relayed.running = true ∧ relayed.tUp 0 = true ∧ relayed.flag 0xA010 0 22 = true ∧
      relayed.mode = .standby ∧ relayed.pair.ripIn = false ∧ relayed.pair.claimOut = false) ∧
    ran (.changeoverRecordReceived 0) relayed (fun t => t.pair.claimOut && t.pair.handover.isSome) = true := by decide +kernel

/-! Pairing: an active member and a standby in step, side A. -/

def member : State := (bridle.put 0x9000 0 (2 ^ 31))
/-- HEARTBEAT of a partner on side B: ROLE 2, claim as given, newest version 0xFF, oldest 0, MODE. -/
def beat (role : Nat) (claim : Bool) (mode : Nat) : Word :=
  2 ^ 248 + role * 2 ^ 245 + ofBool claim * 2 ^ 244 + 2 ^ 243 + 0xFF * 2 ^ 232 + mode * 2 ^ 88
def active : State := { member with
  mode := .active, pair := { member.pair with claimOut := true, inStep := true, partnerHere := true, partnerAt := some 9999900000
                                              partner := beat 3 false 5 } }
def standby : State := { member with
  mode := .standby, pair := { member.pair with claimIn := true, inStep := true, partnerHere := true, partnerAt := some 9999900000
                                               partner := beat 2 true 4 } }
theorem wit_PairClaims_1 : (active.mode = .active ∧ active.pair.claimOut = true ∧ active.pair.handover = none) ∧
    ran .claimInRise active (fun t => t.pair.claimIn && !t.pair.claimOut && (t.pair.handover == some (10000002000, 6) ||
      t.pair.handover == some (10000002000, 7))) = true := by decide +kernel
theorem wit_PairClaims_2 : active.pair.claimOut = true ∧
    ran .claimConflict active (fun t => t.pair.claimIn && t.pair.claimOut) = true := by decide +kernel
theorem wit_PairClaims_3 : (standby.running = true ∧ standby.mode = .standby ∧ standby.pair.claimOut = false ∧
      standby.pair.ripIn = false ∧ standby.pair.heard = []) ∧
    ran (.claimInFall false) standby (fun t => !t.pair.claimIn && t.mode != .standby && t.pair.ripOut && t.pair.lastChange == 1) = true ∧
    ran (.claimInFall true) standby (fun t => t.pair.lastChange == 2) = true := by decide +kernel
theorem wit_PairClaims_4 : (active.pair.ripIn = false ∧ active.running = true ∧ active.mode = .active) ∧
    ran .quench active (fun t => t.pair.ripIn && !t.pair.claimOut && t.mode != .active && t.pair.suspect && !t.pair.inStep) = true := by
  decide +kernel
def quenched_ : State := { active with mode := .solo, pair := { active.pair with ripIn := true, suspect := true } }
theorem wit_PairClaims_5 : quenched_.pair.ripIn = true ∧
    ran .quenchRelease quenched_ (fun t => !t.pair.ripIn && t.pair.suspect) = true := by decide +kernel
def lone : State := { member with pair := { member.pair with claimInLowAt := some 9999000000 } }
theorem wit_PairClaims_6 : (lone.running = true ∧ lone.mode = .solo ∧ lone.paired = true ∧ lone.pair.claimOut = false ∧
      lone.pair.claimIn = false ∧ lone.pair.ripIn = false ∧ lone.pair.claimInLowAt = some 9999000000 ∧
      (9999000000 : Rat) + 1000 ≤ lone.up) ∧
    ran .soloClaim lone (fun t => t.pair.claimOut && t.pair.lastChange == 8) = true := by decide +kernel
def handing : State := { standby with pair := { standby.pair with claimOut := true, handover := some (10000000000, 6) } }
theorem wit_PairClaims_7 : (handing.pair.handover = some (10000000000, 6) ∧ (10000000000 : Rat) ≤ handing.now ∧ handing.pair.heard = [] ∧
      handing.mode = .standby ∧ handing.pair.claimOut = true) ∧
    ran .handoverTp handing (fun t => t.pair.handover == none && t.mode != .standby) = true := by decide +kernel
def handed : State := { active with pair := { active.pair with claimOut := false, handover := some (10000000000, 6) } }
theorem wit_PairClaims_8 : (handed.mode = .active ∧ handed.pair.claimOut = false) ∧
    ran .handoverTp handed (fun t => t.mode == .standby && t.pair.role == 3) = true := by decide +kernel
def linkedStandby : State := { (standby.put 0xA100 0x107 (2 ^ 31)) with mode := .standby }
theorem wit_PairClaims_9 : (linkedStandby.portHears 8 = true ∧ linkedStandby.running = true ∧ linkedStandby.paired = true ∧ linkedStandby.tUp 7 = true ∧
      linkedStandby.mode = .standby ∧ linkedStandby.pair.ripIn = false ∧ linkedStandby.pair.claimOut = false) ∧
    ran (.changeoverRequestReceived 7) linkedStandby (fun t => t.pair.claimOut && t.pair.handover.isSome) = true := by decide +kernel

theorem wit_BridleRuns_1 : (active.running = true ∧ active.paired = true ∧ active.bridleMute = false) ∧
    ran .heartbeatSend active (fun t => t.emitted.length == 1) = true := by decide +kernel
theorem wit_BridleRuns_2 : (active.portHears 8 = true ∧ active.bridleUp = true ∧ bits (beat 3 false 5) 255 248 = 1) ∧
    ran (.heartbeatReceived (beat 3 false 5)) active (fun t => t.pair.partner == beat 3 false 5 && t.pair.partnerHere &&
      t.pair.partnerAt == some active.up) = true := by decide +kernel
theorem wit_BridleRuns_3 : (standby.pair.partnerAt = some 9999900000 ∧ (9999900000 : Rat) + 64000 ≤ standby.up) ∧
    ran .heartbeatLost standby (fun t => !t.pair.partnerHere && t.pair.ripOut && t.pair.lastChange == 3) = true := by decide +kernel
theorem wit_BridleRuns_4 : (active.pair.claimOut = true ∧ active.bridleMute = false) ∧
    ran .bridleTimelineSend active (fun t => t.emitted == [.bridle (2 * 2 ^ 248 + setBits active.timelineBody 131 120 0) []]) = true := by
  decide +kernel
theorem wit_BridleRuns_5 : (standby.portHears 8 = true ∧ standby.pair.claimOut = false ∧ standby.bridleUp = true) ∧
    ran (.bridleTimelineReceived (2 * 2 ^ 248)) standby (fun t => mapGet ratD t.ref.srcAt 8 == standby.up) = true := by decide +kernel
def faultW : Word := 8 * 2 ^ 248 + 0x102 * 2 ^ 239
theorem wit_BridleRuns_6 : (active.portHears 8 = true ∧ bits faultW 255 248 = 8 ∧ bits faultW 247 239 = 0x102) ∧
    ran (.faultRecordReceived faultW) active (fun t => t.pair.partnerFaults == [faultW] && t.pair.partnerSuspect) = true := by
  decide +kernel
/-- A partner that accepts every version, on the other side, has a version in common with this device. -/
theorem session_all : active.sessionWith = some (min Config.bridleProtoCur.toNat 255) := by
  have h1 : active.pair.partnerCur = 255 := by decide +kernel
  have h2 : active.pair.partnerMin = 0 := by decide +kernel
  have h3 : bit active.pair.partner 243 ≠ active.boot.sideB := by decide +kernel
  have h4 : Config.bridleProtoMin.toNat ≤ Config.bridleProtoCur.toNat := by
    unfold Config.bridleProtoMin
    split
    · assumption
    · exact Nat.le_refl _
  have h5 := Config.bridleProtoCur.isLt
  unfold State.sessionWith
  simp only [h1, h2]
  rw [if_pos]
  exact ⟨by omega, h3⟩
theorem wit_BridleRuns_7 : active.running = true ∧ active.portHears 8 = true ∧ active.paired = true ∧ active.pair.claimOut = true ∧ active.pair.ripOut = false ∧
    active.mode = .active ∧ active.pair.partnerHere = true ∧ active.sessionWith = some (min Config.bridleProtoCur.toNat 255) :=
  ⟨by decide +kernel, by decide +kernel, by decide +kernel, by decide +kernel, by decide +kernel, by decide +kernel, by decide +kernel,
    session_all⟩
def asking : State := { member.put 0x9000 0 (3 * 2 ^ 30) with pair := { member.pair with joinAsked := some 9000000000 } }
theorem wit_BridleRuns_8 : (asking.pair.joinAsked = some 9000000000 ∧ asking.flag 0x9000 0 30 = true ∧
      (9000000000 : Rat) + 1000000000 ≤ asking.up ∧ asking.mayAsk = true) ∧
    ran .joinRetry asking (fun t => t.pair.joinAsked == some asking.up) = true := by decide +kernel
def joining (k : Nat) : State := { standby with
  ref := { standby.ref with tb := 2, selected := some 8 }, pair := { standby.pair with inStep := false, joinPhase := k, copiedAt := some 0 } }
theorem wit_BridleRuns_9 : ((joining 1).pair.joinPhase = 1 ∧ (joining 1).mode = .standby ∧ (joining 1).ref.tb = 2 ∧
      (joining 1).ref.selected = some 8) ∧
    ran .joinSnapshot (joining 1) (fun t => t.pair.joinPhase == 2 && t.pair.streamApplied == (joining 1).pair.partnerStream) = true := by
  decide +kernel
def admitting (k : Nat) : State := { active with pair := { active.pair with inStep := false, joinPhase := k, partner := beat 2 false 5 } }
theorem wit_BridleRuns_10 : ((admitting 1).pair.joinPhase = 1 ∧ (admitting 1).mode = .active ∧ (admitting 1).pair.partnerRole = 2 ∧
      (admitting 1).bridleMute = false) ∧
    ran .joinSnapshot (admitting 1) (fun t => t.pair.joinPhase == 2) = true := by decide +kernel
/-- A STATE record of 0x4200:2047. -/
def stateW : Word := 9 * 2 ^ 248 + (0x4200 * 65536 + 2047) * 2 ^ 208 + 2 ^ 30 * 2 ^ 16
theorem wit_BridleRuns_11 : ((joining 2).portHears 8 = true ∧ (joining 2).pair.joinPhase = 2 ∧ bits stateW 255 248 = 9 ∧ bits stateW 247 240 < 3 ∧
      (dictRow 0x4200 2047).any (fun r => r.profile != .m && r.kind != .ro) = true ∧ bits stateW 239 208 = 0x420007FF) ∧
    ran (.stateRecordApply stateW) (joining 2) (fun t => mapGet keyReset t.dict 0x420007FF ==
      setPart (mapGet keyReset (joining 2).dict 0x420007FF) 0 (bits stateW 207 16)) = true := by decide +kernel
theorem wit_BridleRuns_12 : ((joining 2).pair.joinPhase = 2 ∧ (joining 2).pair.partnerHere = true ∧ (joining 2).mode = .standby ∧
      (joining 2).pair.copiedAt = some 0 ∧ (0 : Rat) + (joining 2).longestFill ≤ (joining 2).up) ∧
    ran .joinInStep (joining 2) (fun t => t.pair.inStep && t.pair.joinPhase == 0) = true := by decide +kernel

def change (seq : Nat) : ChangeRecord := ⟨seq, 10000000000, loc 4, opWrite, 0x4200, 2047, toBytes 4 0x44000000, stOk, 0⟩
theorem wit_StandbyFollows_1 : (standby.portHears 8 = true ∧ standby.mode = .standby ∧ standby.pair.inStep = true ∧
      ((change 1).seq + 2 ^ 32 - standby.pair.streamApplied) % 2 ^ 32 = 1 ∧ standby.now ≤ ((change 1).time : Rat) + 2000) ∧
    ran (.changeRecordApply (change 1)) standby (fun t => t.pair.streamApplied == 1) = true := by decide +kernel
theorem wit_StandbyFollows_2 : (standby.portHears 8 = true ∧ 1 < ((change 2).seq + 2 ^ 32 - standby.pair.streamApplied) % 2 ^ 32 ∧
      ((change 2).seq + 2 ^ 32 - standby.pair.streamApplied) % 2 ^ 32 < 2 ^ 31) ∧
    ran (.changeRecordApply (change 2)) standby (fun t => !t.pair.inStep && t.pair.streamApplied == 0) = true := by decide +kernel
def decisionW : Word := 6 * 2 ^ 248 + 2 * 2 ^ 240 + 2047 * 2 ^ 224
def follower : State := standby.put 0x4000 2047 (2 * 2 ^ 28)
theorem wit_StandbyFollows_3 : (follower.portHears 8 = true ∧ bits decisionW 255 248 = 6 ∧ follower.pair.decisions.contains decisionW = false ∧
      bits decisionW 247 240 = 2 ∧ bits decisionW 239 224 = 2047 ∧ bindKind (follower.inBind 2047) ≠ 0) ∧
    ran (.decisionRecordApply decisionW) follower (fun t => t.pair.decisions.contains decisionW && t.inState 2047 == 2) = true := by
  decide +kernel
/-- An entry of the AOUT unit, the one this member made itself, and the records that carry it or another digest. -/
def digA : Word := 3 * 2 ^ 76 + 5
/-- Bits [239:0] of a record of one entry. -/
def entriesOf (d : Word) : Word := bits (digestRecord [d]) 239 0
def digested : State := { standby with pair := { standby.pair with ownDigests := [digA] } }
theorem wit_StandbyFollows_4 : (digested.portHears 8 = true ∧ digested.mode = .standby ∧ digested.pair.inStep = true ∧
      digested.pair.partnerDigests = [] ∧
      digested.pair.ownDigests.find? (fun x => x / 2 ^ 40 == bits (entriesOf digA) 239 160 / 2 ^ 40) = some digA ∧
      digUnit digA < 4 ∧ (mapGet compareD digested.pair.compares (digested.compared digA).1).run + 1 < digested.field 0x9020 0 29 22) ∧
    ran (.digestCompare 1 (entriesOf digA)) digested (fun t =>
      (mapGet compareD t.pair.compares (digested.compared digA).1).run == 0) = true ∧
    ran (.digestCompare 1 (entriesOf (digA + 1))) digested (fun t =>
      (mapGet compareD t.pair.compares (digested.compared digA).1).run == 1) = true := by decide +kernel
/-- Relayed frames: an ANSWER, and a READ of 0x1000:0. -/
def answerF : List Byte := toBytes 16 (2 ^ 124 + 7 * 2 ^ 120) ++ toBytes 8 0
def readF : List Byte := toBytes 16 (2 ^ 124 + opRead * 2 ^ 120 + 0x1000 * 2 ^ 48) ++ toBytes 8 0
theorem wit_StandbyFollows_5 : (standby.portHears 8 = true ∧ standby.bridleUp = true ∧ hdrOpcode (ofBytes (answerF.take 16)) = 7) ∧
    ran (.relayFrameReceived answerF) standby (fun _ => true) = true := by decide +kernel
theorem wit_StandbyFollows_6 : (hdrOpcode (ofBytes (readF.take 16)) = opRead ∧ frameBad readF false = false) ∧
    ran (.relayFrameReceived readF) standby (fun _ => true) = true := by decide +kernel

theorem wit_PairCommanded_1 : isAccepted member.fresh (loc 4) opWrite 0x9000 1 (valueBytes (loc 4) (setBit 0 0 true))
      (pairCommand member.fresh (valueBytes (loc 4) (setBit 0 0 true))) ∧ (member.mayAsk = true ∧ (loc 4).fits (setBit 0 0 true) = true) ∧
    ran (.join (loc 4) 0) member (fun t => t.pair.joinAsked == some member.up) = true :=
  ⟨acc_of (by decide +kernel), by decide +kernel, by decide +kernel⟩
def pulled : State := { member with pair := { member.pair with ripOut := true, suspect := true } }
theorem wit_PairCommanded_2 : isAccepted pulled.fresh (loc 4) opWrite 0x9000 1 (valueBytes (loc 4) (setBit 0 1 true))
      (pairCommand pulled.fresh (valueBytes (loc 4) (setBit 0 1 true))) ∧ (loc 4).fits (setBit 0 1 true) = true ∧
    ran (.release (loc 4) 0) pulled (fun t => !t.pair.ripOut) = true := ⟨acc_of (by decide +kernel), by decide +kernel⟩
theorem wit_PairCommanded_3 : isAccepted pulled.fresh (loc 4) opWrite 0x9000 1 (valueBytes (loc 4) (setBit 0 2 true))
      (pairCommand pulled.fresh (valueBytes (loc 4) (setBit 0 2 true))) ∧ (loc 4).fits (setBit 0 2 true) = true ∧
    ran (.clearSuspect (loc 4) 0) pulled (fun t => !t.pair.suspect) = true := ⟨acc_of (by decide +kernel), by decide +kernel⟩
theorem wit_PairCommanded_4 : isAccepted active.fresh (loc 24) opWrite 0x9040 0 readF (relayHandler active.fresh readF) ∧
    active.bridleMute = false ∧
    ran (.partnerRelay (loc 24) readF) active (fun t => t.emitted.contains (.bridle (0x0A * 2 ^ 248 + 0x03 * 2 ^ 240) readF) &&
      t.req.waiting.any fun w => w.rq == loc 24 && w.index == 0x9040) = true := ⟨acc_of (by decide +kernel), by decide +kernel⟩
def drillV : Word := later * 2 ^ 16
theorem wit_PairCommanded_5 : isAccepted active.fresh (loc 10) opWrite 0x9030 0 (valueBytes (loc 10) drillV)
      (drillHandler active.fresh (loc 10) (valueBytes (loc 10) drillV)) ∧ (loc 10).fits drillV = true ∧
    ran (.drill (loc 10) drillV) active (fun t => t.events.map (fun e => (e.kind, e.plane, e.tp)) == [(4, 0, later)]) = true :=
  ⟨acc_of (by decide +kernel), by decide +kernel⟩
def drillE : Event := { tp := mkTp 1 1 0, plane := 0, kind := 4 }
def drilling (s : State) : State := { s with events := [drillE] }
theorem wit_PairCommanded_6 : ((drilling active).dueEvent [4] = some drillE ∧ (drilling active).pair.inStep = true ∧
      (drilling active).pair.partnerHere = true ∧ (drilling active).pair.partnerMode ≠ 6 ∧ (drilling active).mode = .active) ∧
    ran .drillFire (drilling active) (fun t => t.mode == .standby && t.pair.drillResult == 1 && t.pair.lastChange == 5) = true := by
  decide +kernel
theorem wit_PairCommanded_7 : ((drilling solo).dueEvent [4] = some drillE ∧ (drilling solo).paired = false) ∧
    ran .drillFire (drilling solo) (fun t => t.pair.drillResult == 2 && t.mode == .solo) = true := by decide +kernel

/-! Dumus. Frames name NODE 0 of the reset configuration. -/

def ports : State := solo.put 0x1001 0 (2 ^ 31 + 2 ^ 30 + solo.field 0x1001 0 29 0)
theorem wit_DumusFramesTaken_1 : let s := ports; let f := readF ++ List.replicate 22 0
    (s.running = true ∧ s.portRuns .dumusA = true ∧ hdrOpcode (ofBytes (f.take 16)) ≠ 8 ∧
      frameBad f true = false ∧ s.nodeTaken (hdrNode (ofBytes (f.take 16))) = true ∧
      s.mode ≠ .standby ∧ queueBytes s.req.bufA + (f.take (24 + hdrLength (ofBytes (f.take 16)))).length ≤ 16384) ∧
    ran (.dumusFrameReceived .dumusA (s.elem 0x1001 1) (s.field 0x1001 0 15 0) 5 false true f) s (fun t => t.req.bufA == [readF]) = true := by
  decide +kernel
def writeF : List Byte := toBytes 16 (2 ^ 124 + opWrite * 2 ^ 120 + 1 * 2 ^ 96 + 0x1000 * 2 ^ 48) ++ toBytes 8 0
def standbyPorts : State := standby.put 0x1001 0 (2 ^ 31 + 2 ^ 30 + solo.field 0x1001 0 29 0)
theorem wit_DumusFramesTaken_2 : (standbyPorts.portRuns .dumusB = true ∧ standbyPorts.mode = .standby ∧
      writeF.length = 24 + hdrLength (ofBytes (writeF.take 16)) ∧ frameBad writeF true = false ∧
      hdrOpcode (ofBytes (writeF.take 16)) = opWrite ∧ standbyPorts.nodeTaken (hdrNode (ofBytes (writeF.take 16))) = true) := by
  decide +kernel
theorem wit_DumusFramesTaken_3 : ports.portRuns .dumusA = true ∧
    ran (.dumusFrameReceived .dumusA (ports.elem 0x1001 1) (ports.field 0x1001 0 15 0) 5 false false readF) ports (fun t =>
      t.elem 0x1001 0x112 == 1 && t.req == ports.req) = true := by decide +kernel
theorem wit_DumusFramesTaken_4 : (24 ≤ readF.length ∧ queueBytes solo.req.bufCard + readF.length ≤ 16384 ∧ frameBad readF false = false ∧
      solo.nodeTaken (hdrNode (ofBytes (readF.take 16))) = true) ∧
    ran (.cardSend readF.length readF (crc32c (toBytes 2 readF.length ++ readF))) solo (fun t => t.req.bufCard == [readF]) = true := by
  decide +kernel
theorem wit_DumusFramesTaken_5 : crc32c (toBytes 2 24 ++ readF) + 1 ≠ crc32c (toBytes 2 24 ++ readF) ∧
    ran (.cardSend 24 readF (crc32c (toBytes 2 24 ++ readF) + 1)) solo (fun t => t.elem 0x1001 0x102 == 1 && t.req == solo.req) = true := by
  decide +kernel
def toHost : State := { solo with req := { solo.req with outQueue := [readF, writeF] } }
theorem wit_DumusFramesTaken_6 : toHost.running = true ∧
    ran .cardReceive toHost (fun t => t.req.outQueue == [writeF] && t.emitted.length == 1) = true := by decide +kernel
theorem wit_DumusFramesTaken_7 : solo.running = true ∧
    ran .cardStatus solo (fun t => t.emitted == [.card (toBytes 4 solo.cardWord)] && t.req == solo.req) = true := by decide +kernel
theorem wit_DumusFramesTaken_8 : 0x5B ∉ [0x5A, 0xA5, 0x3C, 0xC3, 0x96] ∧
    ran (.unknownCardCommand 0x5B) solo (fun t => t.elem 0x1001 0x103 == 1 && t.req == solo.req && t.emitted == []) = true := by
  decide +kernel
def dormant : State := { State.reset with mode := .dormant, boot := { State.reset.boot with mainPwrEn := false }
                                          wake := { node := 7, group := 0, etherType := 0, code := 9 } }
def wakeF : List Byte := toBytes 16 (2 ^ 124 + 8 * 2 ^ 120 + 7 * 2 ^ 104 + 6 * 2 ^ 16) ++ toBytes 6 9 ++ toBytes 8 0
theorem wit_DumusFramesTaken_9 : (dormant.mode = .dormant ∧ hdrVersion (ofBytes (wakeF.take 16)) = 1 ∧
      hdrOpcode (ofBytes (wakeF.take 16)) = 8 ∧ hdrNode (ofBytes (wakeF.take 16)) = dormant.wake.node ∧
      hdrLength (ofBytes (wakeF.take 16)) = 6 ∧ dormant.wake.code ≠ 0 ∧ ofBytes (framePayload wakeF) = dormant.wake.code ∧
      30 ≤ wakeF.length) ∧
    ran (.wake .dumusB wakeF) dormant (fun t => t.boot.mainPwrEn && t.boot.inReset) = true := by decide +kernel
theorem wit_DumusFramesTaken_10 : solo.running = true ∧
    ran (.wake .dumusA wakeF) solo (fun t => t.elem 0x1001 0x11C == 1) = true := by decide +kernel

theorem wit_RequestsAnswered_1 : let s := solo; let rq := loc 0
    (rq.port = .card ∧ s.takesUp rq = true ∧ requestStatus (judged s.fresh rq opRead 0x1000 0 []) rq opRead 0x1000 0 [] {} = stOk ∧
      ((judged s.fresh rq opRead 0x1000 0 []).elemBytes rq.shadow 0x1000 0).length ≤ 8 ∧ queueBytes s.req.outQueue + 32 ≤ 16384) ∧
    ran (.read rq 0x1000 0) s (fun t => t.req.outQueue == [answerFrame s 9 stOk rq 0x1000 0
      ((judged s.fresh rq opRead 0x1000 0 []).elemBytes rq.shadow 0x1000 0)]) = true := by decide +kernel
theorem wit_RequestsAnswered_2 : let s := solo; let rq := loc 6; let p := toBytes 2 2 ++ toBytes 4 0
    (rq.port ≠ .stream ∧ s.takesUp rq = true ∧ requestStatus (judged s.fresh rq opBlockRead 0x2010 0 p) rq opBlockRead 0x2010 0 p
      (blockReadChecks s.fresh rq 0x2010 0 p) = stOk) ∧
    ran (.blockRead rq 0x2010 0 p) s (fun t => t.req.notifies.any fun n => n.rq == rq && n.index == 0x2010 && n.status == stOk &&
      n.data == toBytes 4 (s.elem 0x2010 0) ++ toBytes 4 (s.elem 0x2010 1)) = true := by decide +kernel
theorem wit_RequestsAnswered_3 : isAccepted solo.fresh (loc 1) opWrite 0x1000 0 (toBytes 1 254)
      (elementHandler solo.fresh (loc 1) 0x1000 0 (toBytes 1 254)) ∧ (loc 1).seq < 65536 ∧
    ran (.write (loc 1) 0x1000 0 (toBytes 1 254)) solo (fun t => t.elem 0x1000 0 == 254 && t.answered (loc 1) == some (stOk, [])) = true :=
  ⟨acc_of (by decide +kernel), by decide +kernel⟩
/-- The last two tally rules in one block. -/
def twoRules : List Byte := List.replicate 32 0#8
def rulesRq : Rq := { loc 32 with first := true, last := true }
theorem wit_RequestsAnswered_4 : let s := solo
    (twoRules.length = 16 * 2 ∧ s.takesUp rulesRq = true ∧
      s.accepts rulesRq opBlockWrite 0xC100 30 twoRules (blockChecks 0xC100 30 twoRules).1 = true ∧
      (blockCommit rulesRq 0xC100 30 (chunks 16 2 twoRules) (judged s.fresh rulesRq opBlockWrite 0xC100 30 twoRules) false).2.1 = none) ∧
    ran (.blockWrite rulesRq 0xC100 30 twoRules) s (fun t => t.elem 0xC100 31 == 0) = true := by decide +kernel
def firstRq : Rq := { loc 1024 with first := true }
def firstFrame : List Byte := List.replicate 1024 0#8
theorem wit_RequestsAnswered_5 : (takesTransfer 0x1110 0 = true ∧ solo.req.transfers = [] ∧
      solo.accepts firstRq opBlockWrite 0x1110 0 firstFrame (frameChecks (judged solo.fresh firstRq opBlockWrite 0x1110 0 firstFrame)
        firstRq 0x1110 0 firstFrame) = true) ∧
    ran (.blockWrite firstRq 0x1110 0 firstFrame) solo (fun t => t.req.transfers ==
      [{ rq := firstRq, index := 0x1110, sub := 0, nextSeq := 2, data := firstFrame, last := solo.up }]) = true := by decide +kernel

def note : Notify := { rq := loc 4, index := 0x4200, sub := 0, status := stOk, data := [], sends := 8, last := 9999000000 }
def notifying : State := { solo with req := { solo.req with notifies := [note] } }
theorem wit_NotifiesAndControls_1 : (notifying.takesUp (loc 0) = true ∧ notifying.tagFails (loc 0) opPendingDone 0x4200 0 [] = false ∧
      admitted (loc 0).port (loc 0).origin = true) ∧
    ran (.pendingDone (loc 0) 0x4200 0) notifying (fun t => t.req.notifies == []) = true := by decide +kernel
theorem wit_NotifiesAndControls_2 : note.last + 1000000 ≤ notifying.up ∧
    ran (.notifyResend 0 1 1) notifying (fun t => t.req.notifies == []) = true ∧
    ran (.notifyResend 0 1 1) { notifying with req := { solo.req with notifies := [{ note with sends := 7 }] } } (fun t =>
      t.req.notifies == [{ note with sends := 8, last := solo.up }]) = true := by decide +kernel
def deferred : Deferred := { port := .dumusA, dst := 5, frame := readF, attempts := 15 }
def deferring : State := { ports with req := { ports.req with deferred := [deferred] } }
theorem wit_NotifiesAndControls_3 : deferring.req.deferred = [deferred] ∧
    ran (.replyBackoffRetry .dumusA true) deferring (fun t => t.req.deferred == []) = true := by decide +kernel
theorem wit_NotifiesAndControls_4 : (deferring.fieldReplies = true ∧ deferring.portRuns .dumusA = true) ∧
    ran (.replyBackoffRetry .dumusA false) deferring (fun t => t.req.deferred == [] && t.emitted == [.dumus .dumusA 5 readF]) = true := by
  decide +kernel
def transferring : State := { solo with req := { solo.req with transfers :=
  [{ rq := firstRq, index := 0x1110, sub := 0, nextSeq := 2, data := [], last := 9000000000 }] } }
theorem wit_NotifiesAndControls_5 : (9000000000 : Rat) + 1000000000 ≤ transferring.up ∧
    ran (.blockTransferAbandon 0x1110 0 none) transferring (fun t => t.req.transfers == []) = true := by decide +kernel
def heardW : Heard := { at_ := 9999900000, rq := { loc 4 with port := .dumusA, origin := 1 }, opcode := opWrite, index := 0x4200, sub := 0, payload := [] }
def listening : State := { standby with pair := { standby.pair with heard := [heardW] } }
theorem wit_NotifiesAndControls_6 : (listening.mode = .standby ∧ heardW.at_ + 20000 ≤ listening.up) ∧
    ran (.requestsMissingFromStream 1 1 1) listening (fun t => t.pair.heard == [] && t.elem 0x9010 6 == 1) = true := by decide +kernel
theorem wit_NotifiesAndControls_7 : isAccepted solo.fresh (loc 16) opWrite 0x1020 9 (toBytes 16 77) (keyHandler (loc 16) 9 (toBytes 16 77)) ∧
    ran (.keyWrite (loc 16) 9 (toBytes 16 77)) solo (fun t => mapGet natD t.keys.session 9 == 77) = true :=
  ⟨acc_of (by decide +kernel), by decide +kernel⟩
def logged : State := { solo with log := { solo.log with entries := [{ tp := 0, time := 0, entry := 0, plane := 0, origin := 0, kind := 0 },
  { tp := 0, time := 0, entry := 1, plane := 0, origin := 0, kind := 0 }], next := 2, any := true } }
theorem wit_NotifiesAndControls_8 : isAccepted logged.fresh (loc 4) opWrite 0x1200 3 (valueBytes (loc 4) 0)
      (releaseHandler logged.fresh (valueBytes (loc 4) 0)) ∧ ((loc 4).fits 0 = true ∧ logged.logFull = false) ∧
    ran (.logRelease (loc 4) 0) logged (fun t => t.log.entries.all fun e => e.entry != 0) = true :=
  ⟨acc_of (by decide +kernel), by decide +kernel, by decide +kernel⟩
theorem wit_NotifiesAndControls_9 : crossbarGrants 3 11 = false ∧
    ran (.crossbarAccessError 11 3) solo (fun t => (t.source 0x00D).count == 1) = true := by decide +kernel

/-! Windows. Window 15 is an audio window of one block; port 15 is a master input. -/

def windowed : State := (solo.put 0x5530 15 (2 ^ 31 + 2 ^ 30 + 1)).put 0x7300 15 (2 ^ 31 + 2 ^ 25)
theorem wit_WindowsRun_1 : (65535 + 1 ≤ windowed.winSize 15 ∧ (windowed.window 15).state ≠ 2) ∧
    ran (.windowRead 15 65535 1) windowed (fun t => t.emitted == [.card [0]] && t.winBytes == windowed.winBytes) = true := by
  decide +kernel
theorem wit_WindowsRun_2 : windowed.running = true ∧
    ran (.windowWrite 15 65534 [1, 2]) windowed (fun t => t.readWin 15 65534 2 == [1, 2] && t.readWin 15 65533 1 == [0]) = true := by
  decide +kernel
/-- One channel of AIN from slot 0, one period, at the device's choice of time. -/
def capW : Word := 2 ^ 143 + 2 ^ 32
theorem wit_WindowsRun_3 : isAccepted windowed.fresh (loc 24) opWrite 0x1300 15 (valueBytes (loc 24) (setBits capW 191 188 1))
      (windowHandler windowed.fresh 15 (valueBytes (loc 24) (setBits capW 191 188 1))) ∧ (loc 24).fits (setBits capW 191 188 1) = true ∧
    ran (.windowCapture (loc 24) 15 capW) windowed (fun t => (t.window 15).state == 1 && (t.window 15).done == 0 &&
      (t.window 15).command == setBits capW 191 188 1) = true := ⟨acc_of (by decide +kernel), by decide +kernel⟩
def headW : List Byte := toBytes 16 (2 ^ 60 + 1)
def filled : State := putWin windowed 15 0 (headW ++ toBytes 4 7)
/-- Its one period played to the first channel of port 15. -/
def insV : Word := 15 * 2 ^ 172 + 2 ^ 143 + 2 ^ 32 + crc32c (headW ++ toBytes 4 7)
theorem wit_WindowsRun_4 : isAccepted filled.fresh (loc 24) opWrite 0x1300 15 (valueBytes (loc 24) (setBits insV 191 188 2))
      (windowHandler filled.fresh 15 (valueBytes (loc 24) (setBits insV 191 188 2))) ∧ (loc 24).fits (setBits insV 191 188 2) = true ∧
    ran (.windowInsert (loc 24) 15 insV) filled (fun t => (t.window 15).state == 1 &&
      (t.window 15).command == setBits insV 191 188 2) = true := ⟨acc_of (by decide +kernel), by decide +kernel⟩
def opens (k : Nat) (v : Word) (stop : Bool) : State :=
  filled.setWindow 15 { state := k, command := v, startTp := mkTp 1 1 0, stopping := stop }
theorem wit_WindowsRun_5 : isAccepted (opens 2 capW false).fresh (loc 24) opWrite 0x1300 15 (valueBytes (loc 24) (setBits 0 191 188 3))
      (windowHandler (opens 2 capW false).fresh 15 (valueBytes (loc 24) (setBits 0 191 188 3))) ∧
    ((opens 2 capW false).winBusy 15 = true ∧ (loc 24).fits (setBits 0 191 188 3) = true) ∧
    ran (.windowStop (loc 24) 15 0) (opens 2 capW false) (fun t => (t.window 15).stopping && (t.window 15).state == 2) = true :=
  ⟨acc_of (by decide +kernel), by decide +kernel, by decide +kernel⟩
theorem wit_WindowsRun_6 : let s := opens 1 (setBits capW 191 188 1) false
    ((s.window 15).state = 1 ∧ s.tpTime (winPlane (s.window 15).command) (s.window 15).startTp ≤ s.now) ∧
    ran (.windowOperationStart 15) s (fun t => (t.window 15).state == 2) = true := by decide +kernel
theorem wit_WindowsRun_7 : let s := opens 2 (setBits insV 191 188 2) true
    ((s.window 15).state = 2 ∧ winOp (s.window 15).command = 2 ∧ s.insertNext 15 = none ∧ s.dmaStopped = false) ∧
    ran (.windowOperationEnd 15 none) s (fun t => (t.window 15).state == 4) = true := by decide +kernel
theorem wit_WindowsRun_8 : let s := opens 2 (setBits capW 191 188 1) true
    ((s.window 15).state = 2 ∧ winOp (s.window 15).command = 1 ∧ s.winAudio 15 = true ∧ (s.window 15).stopping = true ∧ s.dmaStopped = false) ∧
    ran (.windowOperationEnd 15 none) s (fun t => (t.window 15).state == 4 && t.readWin 15 0 16 == toBytes 16 (s.captureHeader 15)) = true := by
  decide +kernel
theorem wit_WindowsRun_9 : let s := opens 2 (setBits capW 191 188 1) false
    ((s.window 15).state = 2 ∧ 3 ∉ s.faults.dmaHalted) ∧
    ran (.windowOperationEnd 15 (some ⟨3, 14, 0xFFFFFFFF⟩)) s (fun t => (t.window 15).state == 5 && t.faults.dmaHalted == [3] &&
      (t.source 0x00C).count == 1 && t.elem 0xB200 0x2E == 1) = true := by decide +kernel

/-! Modes and power. -/

def serving : State := { solo with mode := .service }
theorem wit_ModesChange_1 : isAccepted solo.fresh (loc 1) opWrite 0x0011 0 (valueBytes (loc 1) 2) (modeHandler solo.fresh (valueBytes (loc 1) 2)) ∧
    (loc 1).fits 2 = true ∧ ran (.requestService (loc 1)) solo (fun t => t.mode == .service) = true :=
  ⟨acc_of (by decide +kernel), by decide +kernel⟩
theorem wit_ModesChange_2 : isAccepted serving.fresh (loc 1) opWrite 0x0011 0 (valueBytes (loc 1) 3)
      (modeHandler serving.fresh (valueBytes (loc 1) 3)) ∧
    ran (.requestSolo (loc 1)) serving (fun t => t.mode == .solo) = true := ⟨acc_of (by decide +kernel), by decide +kernel⟩
theorem wit_ModesChange_3 : isAccepted serving.fresh (loc 1) opWrite 0x0011 0 (valueBytes (loc 1) 0)
      (modeHandler serving.fresh (valueBytes (loc 1) 0)) ∧ serving.boot.dormantAt = none ∧
    ran (.requestDormant (loc 1)) serving (fun t => t.boot.dormantAt == some serving.up && t.mode == .service) = true :=
  ⟨acc_of (by decide +kernel), by decide +kernel⟩
def leaving : State := { serving with boot := { serving.boot with dormantAt := some 9980000000 } }
theorem wit_ModesChange_4 : (leaving.running = true ∧ leaving.boot.dormantAt = some 9980000000 ∧ (9980000000 : Rat) + 10000000 ≤ leaving.up) ∧
    ran .dormantPrepare leaving (fun t => t.wake.etherType == leaving.field 0x1001 0 15 0) = true := by decide +kernel
theorem wit_ModesChange_5 : (9980000000 : Rat) + 20000000 ≤ leaving.up ∧
    ran .dormantPowerDown leaving (fun t => t.mode == .dormant && !t.boot.mainPwrEn && t.boot.dormantAt == none && t.dict == leaving.dict) =
      true := by decide +kernel
theorem wit_ModesChange_6 : (solo.running = true ∧ solo.sourceClass 0x001 = 2) ∧
    ran (.fatalDeclaration 0x001 0) solo (fun t => t.mode == .faulted && (t.source 0x001).count == 1 && !t.pair.claimOut) = true := by
  decide +kernel

def down : State := { State.reset with boot := { State.reset.boot with mainPwrEn := false } }
theorem wit_PowerSequenced_1 : ran .exairPowerOn { down with boot := { down.boot with exOn := false } } (fun t => t.boot.exOn) = true := by
  decide +kernel
theorem wit_PowerSequenced_2 : (down.boot.exOn = true ∧ down.boot.mainPwrEn = false ∧ down.mode ≠ .dormant) ∧
    ran .mainPowerEnable down (fun t => t.boot.mainPwrEn) = true ∧ ran .powerSequenceRetry down (fun t => t.boot.mainPwrEn) = true := by
  decide +kernel
def inReset : State := { State.reset with boot := { State.reset.boot with inReset := true } }
theorem wit_PowerSequenced_3 : (inReset.boot.mainPwrEn = true ∧ inReset.boot.inReset = true) ∧
    ran .powerSequenceTimeout inReset (fun t => !t.boot.mainPwrEn && t.boot.pendingAlarms.contains (0x004, 0)) = true := by decide +kernel
theorem wit_PowerSequenced_4 : (solo.boot.mainPwrEn = true ∧ solo.boot.inReset = false) ∧
    ran (.powerGoodLost true) solo (fun t => t.boot.inReset && t.boot.pendingAlarms.contains (0x005, 0) && !t.pair.claimOut) = true := by
  decide +kernel
theorem wit_PowerSequenced_5 : solo.mode ≠ .dormant ∧ ran .porstAssert solo (fun t => t.boot.inReset && !t.pair.claimOut) = true := by
  decide +kernel
theorem wit_PowerSequenced_6 : dormant.mode = .dormant ∧
    ran .porstNRisesInDormant dormant (fun t => t.boot.mainPwrEn && t.boot.inReset && t.mode == .dormant) = true := by decide +kernel
theorem wit_PowerSequenced_7 : (inReset.boot.exOn = true ∧ inReset.boot.pendingAlarms.contains (0x005, 0) = false ∧
      inReset.boot.stageState ≠ 1) ∧
    ran (.porstRelease 63 true false) inReset (fun t => t.mode == .boot && t.boot.phase == .selfCheck && t.now == 0 &&
      t.elem 0x1000 0 == 63 && t.elem 0xA000 0 == 63 && t.boot.sideB) = true := by decide +kernel
theorem wit_PowerSequenced_8 : ran .powerDown solo (fun t => !t.boot.mainPwrEn && !t.boot.exOn && t.boot.inReset && t.log == {}) = true := by
  decide +kernel

/-! Boot and update. -/

/-- A device in BOOT at a phase, started from slot A, which holds `img`. -/
def boots (p : BootPhase) (img : List Byte) : State := { State.reset with
  mode := .boot, now := 6000000000, boot := { State.reset.boot with
    phase := p, chosen := some 0, slotA := { state := 4, next := true, image := img }, slotB := { state := 4, image := img } } }
theorem wit_BootRuns_1 : ((boots .selfCheck []).booting .selfCheck = true ∧ (boots .selfCheck []).boot.slotA.state = 4 ∧
      (boots .selfCheck []).boot.slotA.next = true ∧ (boots .selfCheck []).boot.slotB.next = false) ∧
    ran (.selfCheckComplete none) (boots .selfCheck []) (fun t => t.boot.selfCheckOk && t.boot.phase == .verify && t.boot.chosen == some 0) =
      true := by decide +kernel
theorem wit_BootRuns_2 : (boots .selfCheck []).booting .selfCheck = true ∧
    ran (.selfCheckComplete (some 3)) (boots .selfCheck []) (fun t => t.boot.phase == .stuck && t.mode == .boot &&
      (t.source 0x000).count == 1) = true := by decide +kernel

/-- A package of five components of no code, each under release key 0, whose versions lie in every range; each signature is
64 zero bytes. -/
def part (i : Nat) : Word := i * 2 ^ 248 + 1 * 2 ^ 224 + (224 + 64 * (i - 1)) * 2 ^ 192 + 0xFFFF * 2 ^ 128 + 0xFFFF * 2 ^ 96 + 0xFFFF * 2 ^ 64 +
  0xFFFF * 2 ^ 32
def package : List Byte := toBytes 64 (0x504D504B * 2 ^ 480 + 2 ^ 464 + 2 ^ 448 + 5 * 2 ^ 432 + 544 * 2 ^ 400) ++ [1, 2, 3, 4, 5].flatMap (fun i => toBytes 32 (part i)) ++
  List.replicate 320 0#8
theorem package_formed : formatBad package = false ∧ (pkgEntries package).map dirKey = [0, 0, 0, 0, 0] := by decide +kernel
/-- Under a fused key 0 and signatures that verify, the package passes. -/
theorem wit_BootRuns_3 (hk : Config.releaseKeyFused 0 = true) (hv : ∀ k m g, ed25519Ok k m g = true) :
    (boots .verify package).booting .verify = true ∧ verifyImage (boots .verify package).bootImage = none := by
  refine ⟨by decide +kernel, ?_⟩
  have hb : (boots .verify package).bootImage = package := rfl
  rw [hb]
  unfold verifyImage
  rw [package_formed.1]
  have hn : ((pkgEntries package).any fun e => decide (4 ≤ dirKey e) || !Config.releaseKeyFused (dirKey e)) = false := by
    rw [List.any_eq_false]
    intro e he
    have h0 : dirKey e = 0 := by
      have := List.mem_map_of_mem (f := dirKey) he
      rw [package_formed.2] at this
      simpa using this
    simp [h0, hk]
  rw [hn]
  simp [hv]
theorem wit_BootRuns_4 : ((boots .verify []).booting .verify = true ∧ verifyImage (boots .verify []).bootImage = some (2, 0) ∧
      (boots .verify []).boot.chosen = some 0 ∧ ((boots .verify []).slot 1).state = 4) ∧
    ran .slotVerifyComplete (boots .verify []) (fun t => (t.slot 0).state == 5 && (t.slot 0).reason == 2 && t.boot.inReset &&
      (t.slot 1).next) = true := by decide +kernel
theorem wit_BootRuns_5 : ((boots (.start 5) package).running = true ∧ mayStart (boots (.start 5) package).bootImage 5 = true) ∧
    ran .componentStart (boots (.start 5) package) (fun t => t.boot.phase == .waitReady 5) = true := by decide +kernel
theorem wit_BootRuns_6 : (mayStart (boots (.start 5) []).bootImage 5 = false ∧ (boots (.start 5) []).boot.chosen = some 0) ∧
    ran .componentStart (boots (.start 5) []) (fun t => (t.slot 0).state == 5 && (t.slot 0).reason == 5 && (t.slot 0).component == 5) =
      true := by decide +kernel
theorem wit_BootRuns_7 : (boots (.waitReady 5) []).boot.phase = .waitReady 5 ∧
    ran .componentReady (boots (.waitReady 5) []) (fun t => t.boot.phase == .install) = true ∧
    ran .componentReady (boots (.waitReady 4) []) (fun t => t.boot.phase == .start 5) = true := by decide +kernel
theorem wit_BootRuns_8 : (boots (.waitReady 5) []).running = true ∧
    ran .componentReadyTimeout (boots (.waitReady 5) []) (fun t => (t.slot 0).state == 5 && (t.slot 0).reason == 6 && t.boot.inReset) =
      true := by decide +kernel
theorem wit_BootRuns_9 : ((boots .install []).booting .install = true ∧ (boots .install []).savedCopy = none) ∧
    ran .configInstall (boots .install []) (fun t => t.boot.phase == .ready) = true := by decide +kernel
/-- A stored configuration with one element: 0x4200:2047, with a value its register does not take, or one it does. -/
def saved (v : Nat) : Saved := { seq := 1, pkg := 1, elems := [(0x420007FF, v)], blobs := [] }
def installs (v : Nat) : State := { boots .install [] with boot := { (boots .install []).boot with copy0 := some (saved v) } }
theorem wit_BootRuns_10 : ((installs 1).booting .install = true ∧ (installs 1).savedCopy = some (saved 1) ∧
      installFails (installAll { (installs 1).fresh with boot := { (installs 1).boot with phase := .ready } } (saved 1)) (saved 1) = true) ∧
    ran .configInstall (installs 1) (fun t => !t.boot.installed && !t.boot.auto && t.boot.pendingAlarms.contains (0x00A, 0)) = true := by
  decide +kernel
theorem wit_BootRuns_11 : ((installs 0x44000000).savedCopy = some (saved 0x44000000) ∧
      installFails (installAll { (installs 0x44000000).fresh with boot := { (installs 0x44000000).boot with phase := .ready } } (saved 0x44000000))
        (saved 0x44000000) = false) ∧
    ran .configInstall (installs 0x44000000) (fun t => t.boot.installed && t.moves == []) = true := by decide +kernel
theorem wit_BootRuns_12 : ((boots .ready []).booting .ready = true ∧
      ((boots .ready []).boot.installed && (boots .ready []).boot.auto && !(boots .ready []).boot.recovery) = false ∧
      ∀ a ∈ (boots .ready []).boot.pendingAlarms, (boots .ready []).sourceClass a.1 ≠ 2) ∧
    ran .bootEnd (boots .ready []) (fun t => t.mode == .service && t.boot.pendingAlarms == []) = true := by decide +kernel
def autoBoot : State := { boots .ready [] with boot := { (boots .ready []).boot with installed := true, auto := true } }
def autoMember : State := autoBoot.put 0x9000 0 (2 ^ 31)
theorem wit_BootRuns_13 : ((autoBoot.boot.installed && autoBoot.boot.auto && !autoBoot.boot.recovery) = true ∧
      autoBoot.lanesReady = true ∧ autoBoot.paired = false ∧ ∀ a ∈ autoBoot.boot.pendingAlarms, autoBoot.sourceClass a.1 ≠ 2) ∧
    ran .bootEnd autoBoot (fun t => t.mode == .solo && t.boot.pendingAlarms == []) = true ∧
    (5500000000 ≤ autoMember.up ∧ autoMember.paired = true ∧ autoMember.pair.partnerHere = false) ∧
    ran .bootEnd autoMember (fun t => t.boot.phase == .bridleWait && t.boot.enabledAt == some autoMember.up) = true := by decide +kernel
def waitsPartner : State := { boots .bridleWait [] with boot := { (boots .bridleWait []).boot with enabledAt := some 5500000000 } }
theorem wit_BootRuns_14 : (waitsPartner.booting .bridleWait = true ∧ (5500000000 : Rat) + 500000000 ≤ waitsPartner.up) ∧
    ran .bootPartnerWaitEnd waitsPartner (fun t => t.mode == .solo && t.boot.phase == .ended) = true := by decide +kernel

/-- The device runs from slot A. -/
def runsA : State := { solo with boot := { solo.boot with
  running := some 0, chosen := some 0, slotA := { state := 4, next := true }, slotB := { state := 4 } } }
theorem wit_UpdatesAndSaves_1 : isAccepted runsA.fresh (loc 2) opWrite 0xD020 0 [0x2F, 0x61] (stageHandler runsA.fresh [0x2F, 0x61]) ∧
    ran (.stagePackage (loc 2) [0x2F, 0x61]) runsA (fun t => t.boot.stageState == 1 && t.boot.stagePath == [0x2F, 0x61] &&
      (t.slot runsA.spareSlot).state == 1) = true := ⟨acc_of (by decide +kernel), by decide +kernel⟩
def staging : State := { runsA with boot := { runsA.boot with stageState := 1 } }
theorem wit_UpdatesAndSaves_2 : (package.length ≤ pkgMax ∧ (stagedImage package []).length ≤ pkgMax ∧ staging.dmaStopped = false) ∧
    ran (.stagingComplete package) staging (fun t => t.boot.stageState == 2 && (t.slot 1).state == 2 && (t.slot 1).next &&
      !(t.slot 0).next) = true := by decide +kernel
theorem wit_UpdatesAndSaves_3 : staging.boot.stageState = 1 ∧
    ran (.stagingFailure 6 none) staging (fun t => t.boot.stageState == 3 && t.boot.stageResult == 6 && t.slot 1 == { state := 0, reason := 9 }) =
      true := by decide +kernel
def trial : State := { runsA with boot := { runsA.boot with health := some 10000000000, slotA := { state := 3 } }, now := 610000000000 }
theorem wit_UpdatesAndSaves_4 : isAccepted trial.fresh (loc 4) opWrite 0xD010 0 (valueBytes (loc 4) 1)
      (healthHandler trial.fresh (valueBytes (loc 4) 1)) ∧ ((loc 4).fits 1 = true ∧ trial.boot.running = some 0) ∧
    ran (.healthConfirm (loc 4) 1) trial (fun t => t.boot.health == none && (t.slot 0).state == 4 && (t.slot 0).next && !(t.slot 1).next) =
      true := ⟨acc_of (by decide +kernel), by decide +kernel, by decide +kernel⟩
theorem wit_UpdatesAndSaves_5 : (trial.boot.health = some 10000000000 ∧ (10000000000 : Rat) + 600000000000 ≤ trial.up) ∧
    ran .healthConfirmTimeout trial (fun t => (t.slot 0).state == 5 && (t.slot 0).reason == 7 && !(t.slot 0).next && t.boot.inReset &&
      t.boot.pendingAlarms.contains (0x009, 0)) = true := by decide +kernel
theorem wit_UpdatesAndSaves_6 : isAccepted runsA.fresh (loc 1) opWrite 0xD030 1 (valueBytes (loc 1) 1)
      (configCommand runsA.fresh (valueBytes (loc 1) 1)) := acc_of (by decide +kernel)
theorem wit_UpdatesAndSaves_7 : isAccepted runsA.fresh (loc 1) opWrite 0xD030 1 (valueBytes (loc 1) 2)
      (configCommand runsA.fresh (valueBytes (loc 1) 2)) ∧
    ran (.configErase (loc 1)) runsA (fun t => t.boot.erasing) = true := ⟨acc_of (by decide +kernel), by decide +kernel⟩
theorem wit_UpdatesAndSaves_8 : let s := { runsA with boot := { runsA.boot with erasing := true, copy0 := some (saved 0) } }
    (s.running = true ∧ s.boot.erasing = true) ∧
    ran .configSaveComplete s (fun t => !t.boot.erasing && t.savedCopy == none) = true := by decide +kernel
theorem wit_UpdatesAndSaves_9 : let s := { runsA with boot := { runsA.boot with saving := some (saved 0), copy0 := some (saved 5) } }
    ((saved 0).size ≤ 4194304 ∧ s.boot.erasing = false) ∧
    ran .configSaveComplete s (fun t => t.boot.saving == none && t.savedCopy.any fun x => x.elems == (saved 0).elems) = true := by
  decide +kernel
theorem wit_UpdatesAndSaves_10 : isAccepted runsA.fresh (loc 1) opWrite 0xD030 1 (valueBytes (loc 1) 3)
      (configCommand runsA.fresh (valueBytes (loc 1) 3)) ∧ runsA.boot.running = some 0 ∧
    ran (.selectGoodSlot (loc 1)) runsA (fun t => (t.slot 1).next && !(t.slot 0).next) = true := ⟨acc_of (by decide +kernel), by decide +kernel⟩

/-! Integrity. -/

theorem wit_MemoryScrubbed_1 : let s := { solo with faults := { solo.faults with writebacks := [(23, 5), (0, 1)] } }
    s.running = true ∧ ran (.eccWriteback 23 5) s (fun t => t.faults.writebacks == [(0, 1)]) = true := by decide +kernel
theorem wit_MemoryScrubbed_2 : solo.running = true ∧
    ran (.scrubRead 23 .none) solo (fun t => mapGet natD t.faults.scrubAddr 23 == 1) = true := by decide +kernel
theorem wit_MemoryScrubbed_3 : ran (.scrubRead 23 .corrected) solo (fun t => t.elem 0xB200 23 == 1 &&
    t.faults.writebacks.contains (23, 0) && (t.source 0x00F).count == 1) = true := by decide +kernel
theorem wit_MemoryScrubbed_4 : ran (.scrubRead 3 .uncorrectable) solo (fun t => t.elem 0xB200 0x23 == 1 && (t.source 0x00E).count == 1) =
    true := by decide +kernel
theorem wit_MemoryScrubbed_5 : ran (.scrubLapEnd 23) solo (fun t => mapGet natD t.faults.scrubAddr 23 == 0 &&
    mapGet ratD t.faults.lapStart 23 == solo.up && t.elem 0xB300 23 == 10000) = true := by decide +kernel

theorem wit_FaultsDeclared_3 : isAccepted solo.fresh (loc 1) opWrite 0xB020 0x007 (valueBytes (loc 1) 1)
      (forceHandler solo.fresh (loc 1) 0x007 (valueBytes (loc 1) 1)) ∧ solo.sourceClass 0x007 = 1 ∧
    ran (.faultForce (loc 1) 0x007 1) solo (fun t => (t.source 0x007).forced && (t.source 0x007).count == 1 && (t.source 0x007).alarm) =
      true := ⟨acc_of (by decide +kernel), by decide +kernel⟩
def alarmed : State := solo.setSource 0x007 { alarm := true, count := 5 }
def clearV : Word := 2 ^ 31
theorem wit_FaultsDeclared_4 : isAccepted alarmed.fresh (loc 4) opWrite 0xB010 0x007 (valueBytes (loc 4) clearV)
      (sourceStateHandler alarmed.fresh 0x007 (valueBytes (loc 4) clearV)) ∧ bit clearV 31 = true ∧
    ran (.alarmClear (loc 4) 0x007 clearV) alarmed (fun t => !(t.source 0x007).alarm && (t.source 0x007).count == 0) = true :=
  ⟨acc_of (by decide +kernel), by decide +kernel⟩
def hot : State := { solo with faults := { solo.faults with hot := some 9000000000 } }
theorem wit_FaultsDeclared_5 : (hot.faults.hot = some 9000000000 ∧ (9000000000 : Rat) + 1000000000 ≤ hot.up ∧
      (hot.source 0x007).active = false) ∧
    ran (.thermalSensorRead 1250) hot (fun t => (t.source 0x007).active && t.fieldBank.tj == 1250 && (t.source 0x007).count == 1) = true := by
  decide +kernel
theorem wit_FaultsDeclared_6 : ran (.thermalSensorRead 1050) hot (fun t => !(t.source 0x007).active && !(t.source 0x008).active &&
    t.fieldBank.tj == 1050 && t.faults.hot == none) = true := by decide +kernel
theorem wit_FaultsDeclared_7 : (solo.source 0x006).active = false ∧
    ran (.thermAlert true) solo (fun t => (t.source 0x006).active && t.fieldBank.therm && (t.source 0x006).count == 1) = true := by
  decide +kernel
theorem wit_FaultsDeclared_8 : ran (.thermAlert false) solo (fun t => !(t.source 0x006).active && !t.fieldBank.therm) = true := by
  decide +kernel
theorem wit_FaultsDeclared_9 : ran .oscInFailed solo (fun t => (t.source 0x002).count == 1) = true := by decide +kernel
theorem wit_FaultsDeclared_10 : isAccepted solo.fresh (loc 64) opWrite 0xE010 15 (List.replicate 64 0#8) (licenceHandler 15 (List.replicate 64 0#8)) ∧
    ran (.licenceTokenWrite (loc 64) 15 (List.replicate 64 0#8)) solo (fun t => mapGet natD t.keys.tokens 15 == 0) = true :=
  ⟨acc_of (by decide +kernel), by decide +kernel⟩

def fatal : State := { solo with faults := { solo.faults with
  firstFatal := some { tp := 0, time := 0, source := 1, cls := 2, forced := false, mode := .solo, count := 1, detail := 0 }, fatalAt := some 9999000000 } }
theorem wit_FreezesTaken_1 : isAccepted fatal.fresh (loc 4) opWrite 0xB400 0 (valueBytes (loc 4) (setBit 0 29 true))
      (freezeControl fatal.fresh (valueBytes (loc 4) (setBit 0 29 true))) ∧ (loc 4).fits (setBit 0 29 true) = true ∧
    ran (.rearm (loc 4) 0) fatal (fun t => t.faults.firstFatal == none) = true := ⟨acc_of (by decide +kernel), by decide +kernel⟩
theorem wit_FreezesTaken_2 : (solo.flag 0xB400 0 31 = false ∧ solo.mode ≠ .dormant ∧ solo.mode ≠ .frozen ∧ solo.boot.inReset = false) ∧
    ran .freezePin solo (fun t => t.mode == .frozen && t.faults.lastFreeze == 1 && t.faults.frozenMode == some .solo && t.now == solo.now) =
      true := by decide +kernel
def freezeV : Word := later * 2 ^ 16
theorem wit_FreezesTaken_3 : isAccepted solo.fresh (loc 10) opWrite 0xB400 1 (valueBytes (loc 10) (setBit freezeV 0 false))
      (freezeHandler solo.fresh (loc 10) (valueBytes (loc 10) (setBit freezeV 0 false))) ∧ (loc 10).fits (setBit freezeV 0 false) = true ∧
    ran (.freezeSchedule (loc 10) freezeV) solo (fun t => t.events.map (fun e => (e.kind, e.plane, e.tp)) == [(5, 0, later)]) = true :=
  ⟨acc_of (by decide +kernel), by decide +kernel⟩
def freezeE : Event := { tp := mkTp 1 1 0, plane := 0, kind := 5 }
def freezing : State := { solo with events := [freezeE] }
theorem wit_FreezesTaken_4 : isAccepted freezing.fresh (loc 10) opWrite 0xB400 1 (valueBytes (loc 10) (setBit 0 0 true))
      (freezeHandler freezing.fresh (loc 10) (valueBytes (loc 10) (setBit 0 0 true))) ∧ (loc 10).fits (setBit 0 0 true) = true ∧
    ran (.freezeCancel (loc 10) 0) freezing (fun t => t.events == []) = true := ⟨acc_of (by decide +kernel), by decide +kernel⟩
theorem wit_FreezesTaken_5 : (freezing.dueEvent [1, 2, 3, 4] = none ∧ freezing.dueEvent [5] = some freezeE) ∧
    ran .scheduledFreeze freezing (fun t => t.mode == .frozen && t.faults.lastFreeze == 2 && t.events == []) = true := by decide +kernel
def fatalFreeze : State := fatal.put 0xB400 0 (2 ^ 30)
theorem wit_FreezesTaken_6 : (fatalFreeze.faults.fatalAt = some 9999000000 ∧ (9999000000 : Rat) + 1000 ≤ fatalFreeze.up ∧
      fatalFreeze.flag 0xB400 0 30 = true) ∧
    ran .freezeOnFatal fatalFreeze (fun t => t.mode == .frozen && t.faults.lastFreeze == 3) = true := by decide +kernel

/-! Debug port. -/

def stopped : State := { solo with mode := .frozen, faults := { solo.faults with frozenMode := some .solo } }
def opened_ : State := { solo with dbg := { solo.dbg with openings := 1 } }
theorem wit_DebugPortRuns_1 : ran .trstReset stopped (fun t => t.dbg.ir == 0x02) = true ∧ ran .extest solo (fun t => t.dbg.ir == 0xFF) = true ∧
    ran .extest opened_ (fun t => t.dbg.ir == 0x00) = true ∧ ran (.bypass 0x55) solo (fun t => t.dbg.ir == 0xFF) = true := by
  decide +kernel
theorem wit_DebugPortRuns_2 : stopped.mode = .frozen ∧ ran (.captureRead 3) stopped (fun t => t.dbg.stream == 3) = true ∧
    solo.mode ≠ .frozen ∧ ran (.captureRead 3) solo (fun t => t.dbg.ir == 0xFF && t.emitted == []) = true := by decide +kernel
theorem wit_DebugPortRuns_3 : ran (.captureSeek 7) stopped (fun t => t.dbg.stream == 8 * sectionStart 7) = true := by decide +kernel
def bench : State := { solo with mode := .service, dbg := { solo.dbg with challenge := some [1] } }
theorem wit_DebugPortRuns_4 : (bench.lifecycle = 1 ∧ bench.opens = true ∧ bench.dbg.failures < 4) ∧
    ran .openChallenge bench (fun _ => true) = true := by decide +kernel
/-- Under a response that verifies, the device opens. -/
theorem wit_DebugPortRuns_5 (hv : ∀ k m g, ed25519Ok k m g = true) : bench.lifecycle = 1 ∧ bench.opens = true ∧
    bench.dbg.openings < 32 ∧ bench.dbg.challenge = some [1] ∧
    signatureOk Config.debugAuthorityKey [1] (List.replicate 64 0#8) = true :=
  ⟨by decide +kernel, by decide +kernel, by decide +kernel, by decide +kernel, hv _ _ _⟩
theorem wit_DebugPortRuns_6 : bench.dbg.challenge = some [1] ∧ signatureOk Config.debugAuthorityKey [1] [] = false ∧
    ran (.openResponse [] none) bench (fun t => t.dbg.challenge == none && t.dbg.failures == 1 && t.dbg.lastOpen == 2 && t.dbg.openings == 0) =
      true := by decide +kernel
theorem wit_DebugPortRuns_7 : (opened_.debugOpen = true ∧ opened_.running = true) ∧
    ran (.debugAccess true 1 0x10 7) opened_ (fun t => t.dbg.access == 2 ^ 71 + 0x10 * 2 ^ 32 + 7) = true ∧
    ran (.debugAccess false 3 0x10 7) opened_ (fun t => t.dbg.access == 2 ^ 71 + 2 ^ 64 + 0x10 * 2 ^ 32 && (t.source 0x00D).count == 1) = true := by
  decide +kernel
theorem wit_DebugPortRuns_8 : (shiftOut 9 opened_.dbg.access { opened_.fresh with dbg := { opened_.dbg with ir := 0x30 } }).debugRead 0x2010 3 =
      some (opened_.elem 0x2010 3) ∧
    ran (.debugAccess false 0 (0x2010 * 65536 + 3) 0) opened_ (fun t => t.dbg.access ==
      2 ^ 71 + (0x2010 * 65536 + 3) * 2 ^ 32 + opened_.elem 0x2010 3 % 2 ^ 32) = true := by decide +kernel

theorem wit_RelockCloses_1 : (opened_.lifecycle = 2 ∧ opened_.dbg.openings = opened_.dbg.relocks + 1 ∧ opened_.logFull = false) ∧
    ran (.relock 0xA5) opened_ (fun t => t.lifecycle == 1 && !t.debugOpen && t.dbg.relocks == 1) = true := by decide +kernel
theorem wit_RelockCloses_2 : 0xA4 % 256 ≠ 0xA5 ∧ ran (.relock 0xA4) opened_ (fun t => t.dbg.relocks == 0 && t.dbg.ir == 0x23) = true := by
  decide +kernel
def openS : State := solo.put 0x1020 0x10 0xFF
theorem wit_RelockCloses_3 : ∃ op o, openS.keys.session = [] ∧ openS.mode ≠ .faulted ∧ openS.needsTag op o = true ∧
    requestStatus openS { loc 0 with port := .dumusA, origin := o } op 0x1000 0 [] {} = stAuth := ⟨opWrite, 1, by decide +kernel⟩

/-! Field bank. Line 31 is an input (supervised, normally open), line 30 an output. VFIELD is normal. -/

def banked : State := { solo.put 0xC000 31 (2 ^ 30 + 2 ^ 29 + 10 * 2 ^ 22) with fieldBank := { solo.fieldBank with vfState := 1, volts := 240 } }
def outBank : State := banked.put 0xC000 30 (2 ^ 31)
/-- R595, R596: a loop of 10.1 kilohms is INACTIVE, one of 1.903 kilohms ACTIVE; with a debounce of 10 the 41st measurement in a
row is accepted. -/
theorem loop_10k1 : loopState (banked.elem 0xC000 31) 10100 = 2 ∧ loopState (banked.elem 0xC000 31) 1903 = 3 := by decide +kernel
def run (k : Nat) : State := banked.setFline 31 { st := 2, runSt := 3, runLen := k }
theorem wit_FieldBankRuns_1 : (banked.running = true ∧ banked.sensed 31 = true) ∧
    ran (.fieldInputMeasure 31 1903) (run 40) (fun t => (t.fline 31).runLen == 41 && (t.fline 31).value == 190) = true := by decide +kernel
theorem wit_FieldBankRuns_2 : ((run 41).sensed 31 = true ∧ (run 41).mirrored = false ∧ ((run 41).fline 31).runSt ≠ ((run 41).fline 31).st ∧
      4 * (run 41).field 0xC000 31 27 22 + 1 ≤ ((run 41).fline 31).runLen) ∧
    ran (.fieldInputAccept 31) (run 41) (fun t => (t.fline 31).st == 3 && t.elem 0xC300 31 == 1) = true ∧
    ran (.fieldInputAccept 31) (run 40) (fun t => (t.fline 31).st == 2) = true := by decide +kernel
theorem wit_FieldBankRuns_3 : outBank.lineMode 30 = 2 ∧ ran (.fieldOutputReadback 30 2400) outBank (fun t => (t.fline 30).value == 2400) = true := by
  decide +kernel
def fighting : State := outBank.setFline 30 { st := 5, mismatchAt := some 9000000000, matchAt := some 9000000000, openAt := some 9000000000,
                                               loadAt := some 9000000000 }
theorem wit_FieldBankRuns_4 : ((9000000000 : Rat) + 10000000 ≤ fighting.up ∧ (fighting.fline 30).contention = false ∧
      (fighting.fline 30).latched = none) ∧
    ran (.contentionDeclare 30) fighting (fun t => (t.fline 30).contention && (t.source 0x141).count == 1) = true := by decide +kernel
theorem wit_FieldBankRuns_5 : (fighting.fline 30).matchAt = some 9000000000 ∧
    ran (.contentionClear 30) fighting (fun t => !(t.fline 30).contention) = true := by decide +kernel
/-- A tally rule that is always true. -/
def driving : State := (outBank.put 0xC100 30 (2 ^ 122)).setFline 30 { st := 6 }
theorem wit_FieldBankRuns_6 : (driving.outputLive 30 = true ∧ (driving.fline 30).st = 6 ∧ (driving.fline 30).latched = none) ∧
    ran (.outputOvercurrent 30) driving (fun t => (t.fline 30).latched.isSome && (t.fline 30).st == 5 && t.elem 0xC300 30 == 1 &&
      (t.source 0x140).count == 1) = true := by decide +kernel
def latched_ : State := driving.setFline 30 { st := 5, latched := some 9000000000 }
theorem wit_FieldBankRuns_7 : (latched_.outputLive 30 = true ∧ latched_.commanded 30 = true ∧ (latched_.fline 30).latched = some 9000000000 ∧
      (9000000000 : Rat) ≤ latched_.up) ∧
    ran (.overcurrentRetry 30 false) latched_ (fun t => (t.fline 30).latched == none && (t.fline 30).st == 6) = true ∧
    ran (.overcurrentRetry 30 true) latched_ (fun t => (t.fline 30).latched == some (latched_.up + 100000000) && (t.fline 30).st == 5) =
      true := by decide +kernel
theorem wit_FieldBankRuns_8 : ((9000000000 : Rat) + 100000000 ≤ fighting.up ∧ (fighting.fline 30).openLoad = false) ∧
    ran (.openLoadDeclare 30) fighting (fun t => (t.fline 30).openLoad && (t.source 0x142).count == 1) = true := by decide +kernel
theorem wit_FieldBankRuns_9 : (fighting.fline 30).loadAt = some 9000000000 ∧
    ran (.openLoadClear 30) fighting (fun t => !(t.fline 30).openLoad) = true := by decide +kernel
theorem wit_FieldBankRuns_10 : ran (.vfieldCheck 110) solo (fun t => t.fieldBank.vfState == 1 && t.fieldBank.volts == 110) = true := by
  decide +kernel
def sinking : State := { run 40 with fieldBank := { (run 40).fieldBank with lowAt := some 9000000000 } }
theorem wit_FieldBankRuns_11 : (sinking.fieldBank.lowAt = some 9000000000 ∧ (9000000000 : Rat) + 10000000 ≤ sinking.up ∧
      sinking.fieldBank.vfState = 1 ∧ sinking.lineMode 31 = 1) ∧
    ran (.vfieldCheck 104) sinking (fun t => t.fieldBank.vfState == 2 && (t.source 0x143).count == 1 && (t.fline 31).st == 0) = true := by
  decide +kernel
theorem wit_FieldBankRuns_12 : isAccepted solo.fresh (loc 16) opWrite 0xC100 31 (valueBytes (loc 16) (2 ^ 122))
      (ruleHandler solo.fresh 31 (valueBytes (loc 16) (2 ^ 122))) ∧ (loc 16).fits (2 ^ 122) = true ∧
    ran (.tallyRuleWrite (loc 16) 31 (2 ^ 122)) solo (fun t => t.elem 0xC100 31 == 2 ^ 122) = true := ⟨acc_of (by decide +kernel), by decide +kernel⟩
theorem wit_FieldBankRuns_13 : (solo.fieldPort 1).stuck = false ∧
    ran (.fieldPortLineCheck 1 600) solo (fun t => (t.fieldPort 1).good == 1 && (t.fieldPort 1).st == 1) = true ∧
    ran (.fieldPortLineCheck 1 1400) solo (fun t => (t.fieldPort 1).st == 1) = true := by decide +kernel
def sagging : State := solo.setFieldPort 1 { st := 1, low := 2 }
theorem wit_FieldBankRuns_14 : ((sagging.fieldPort 1).low = 2 ∧ (sagging.fieldPort 1).st ≠ 3) ∧
    ran (.fieldPortLineCheck 1 299) sagging (fun t => (t.fieldPort 1).st == 3 && (t.source 0x145).count == 1) = true := by decide +kernel
theorem wit_FieldBankRuns_15 : ran (.fieldPortStuck 1) sagging (fun t => (t.fieldPort 1).stuck && (t.source 0x145).count == 1) = true := by
  decide +kernel
theorem wit_FieldBankRuns_16 : ran (.fieldPortStuckClear 1) (sagging.setFieldPort 1 { st := 1, stuck := true }) (fun t =>
    t.fieldPort 1 == { st := 1 }) = true := by decide +kernel

def newLine : Word := 2 ^ 30 + 5 * 2 ^ 22
theorem wit_LineModeChanges_1 : isAccepted outBank.fresh (loc 4) opWrite 0xC000 30 (valueBytes (loc 4) newLine)
      (lineHandler outBank.fresh 30 (valueBytes (loc 4) newLine)) ∧ ((loc 4).fits newLine = true ∧ bits newLine 31 30 ≠ outBank.lineMode 30) ∧
    ran (.fieldLineConfigWrite (loc 4) 30 newLine) outBank (fun t => t.elem 0xC000 30 == newLine &&
      t.fline 30 == { hold := some (outBank.up + 1000000) }) = true := ⟨acc_of (by decide +kernel), by decide +kernel, by decide +kernel⟩
def held_ (a : Rat) : State := banked.setFline 31 { hold := some a, st := 2 }
theorem wit_LineModeChanges_2 : ((held_ 10000000000).fline 31).hold.isSome = true ∧ (held_ 10000000000).sensed 31 = false := by decide +kernel
theorem wit_LineModeChanges_3 : (10000000000 : Rat) ≤ (held_ 10000000000).up ∧
    ran (.fieldLineHoldEnd 31) (held_ 10000000000) (fun t => t.fline 31 == { hold := none, st := 0 }) = true := by decide +kernel
theorem wit_LineModeChanges_4 : (held_ 10000000001).up < 10000000001 ∧
    ran (.fieldLineHoldEnd 31) (held_ 10000000001) (fun t => t.fline 31 == (held_ 10000000001).fline 31) = true := by decide +kernel

/-! The whole machine. -/

theorem wit_StepTakesFront_1 : solo.pending = [] ∧ solo.running = true ∧
    (match step solo with
     | .next t => t.now == solo.now + solo.cycleNs && t.now != solo.now
     | _ => false) = true ∧ stopped.pending = [] ∧ stopped.running = false := by decide +kernel
def waits : State := { solo with pending := [.losDeclare 191, .cardStatus] }
theorem wit_SafeMachineGoesOn_1 : waits.safe = true ∧ (Instr.losDeclare 191).wf = true ∧
    (match step waits with
     | .next t => t.safe && t.pending == [.cardStatus]
     | _ => false) = true := by decide +kernel
theorem wit_SafeMachineGoesOn_2 : exec (.losDeclare 192) solo = .fault .noSuchUnit := rfl

/-- A write of NODE_ID in two bytes where one is its size. -/
def twoBytes : Rq := loc 2
theorem wit_RefusedInOrder_1 : isRefused solo.fresh twoBytes opWrite 0x1000 0 [0, 7]
      (elementHandler solo.fresh twoBytes 0x1000 0 [0, 7]) stType ∧
    ran (.write twoBytes 0x1000 0 [0, 7]) solo (fun t => t.elem 0x1000 0 == solo.elem 0x1000 0) = true :=
  ⟨ref_of (by decide +kernel), by decide +kernel⟩
theorem wit_RefusedInOrder_2 : (elementHandler solo.fresh twoBytes 0x1000 0 [0, 7]).refused stType solo = solo := rfl
theorem wit_RefusedInOrder_3 : requestStatus solo twoBytes opWrite 0x1000 0 [0, 7] {} = stType ∧ stType ≠ stOk := by decide +kernel

theorem wit_StandingMachineHolds_1 : stopped.mode = .frozen ∧ dormant.mode = .dormant ∧
    ran (.write (loc 1) 0x1000 0 [7]) stopped (fun t => t.dict == stopped.dict && t.now == stopped.now) = true ∧
    ran (.losDeclare 4) dormant (fun t => t.mode == .dormant && t.dict == dormant.dict) = true := by decide +kernel

/-- R451's worked frame: the header of a WRITE of 0x5000:0007 by class 1, session 0x12, sequence 0x305, NODE 5. -/
def hostRq : Rq := { port := .card, node := 5, origin := 1, session := 0x12, seq := 0x0305, len := 2, typ := 0x12 }
theorem header_worked : ofBytes (headerBytes 2 0 hostRq 0x5000 7 2 0x12) = 0x12000501001203055000000700020012 := by decide +kernel
theorem wit_HeaderRoundTrip_1 : (hostRq.wf = true ∧ [(0 : Byte), 9].length = hostRq.len) ∧
    headerRq .card 0xFFF 0 (headerBytes 2 0 hostRq 0x5000 7 2 0x12 ++ [0, 9] ++ toBytes 8 0) = hostRq := by decide +kernel
/-- R8's worked TP. -/
theorem tp_worked : mkTp 1000 21 2048 = 0x00000003E8015800 := by decide +kernel

theorem wit_PortsFramed_1 : ran .cardStatus solo (fun t => t.dict == solo.dict && t.pair == solo.pair) = true ∧
    ran .lifecycle solo (fun t => t.dbg.openings == solo.dbg.openings) = true := by decide +kernel
theorem wit_FieldBankFramed_1 : ran (.fieldLineHoldEnd 31) (held_ 10000000000) (fun t => t.dict == (held_ 10000000000).dict) = true ∧
    ran .oscInFailed solo (fun t => t.lanes == solo.lanes && t.mode == .faulted) = true ∧
    ran (.tallyRuleWrite (loc 16) 31 0) solo (fun t => t.shadow == solo.shadow) = true := by decide +kernel

/-! Frames: each family's premises, with a command that does something. -/
theorem wit_TimingFramed : Instr.lossOfLock.wf = true ∧
    ran .lossOfLock locked (fun t => t.elem 0x2010 0 == locked.elem 0x2010 0 && t.planes == locked.planes && t.log != locked.log) = true := by
  decide +kernel
theorem wit_LanesFramed : (Instr.synthesiserLockFail 95).wf = true ∧
    ran (.synthesiserLockFail 95) unlocked (fun t => t.ref == unlocked.ref && t.elem 0x3000 0 == unlocked.elem 0x3000 0 &&
      t.synths != unlocked.synths) = true := by decide +kernel
theorem wit_MediaFramed : (Instr.outputFrameStart 2047).wf = true ∧
    ran (.outputFrameStart 2047) ipOut (fun t => t.ins == ipOut.ins && t.cells == ipOut.cells && t.outs != ipOut.outs) = true := by
  decide +kernel
theorem wit_AudioFramed : (Instr.gainStepTimeout 0xBFFF).wf = true ∧
    ran (.gainStepTimeout 0xBFFF) (solo.setAout 0xBFFF { gain := stepping_ }) (fun t => t.ain == solo.ain && t.mix == solo.mix) = true := by
  decide +kernel
theorem wit_SetsFramed : Instr.takeSwap.wf = true ∧
    ran .takeSwap takeDue (fun t => t.lanes == takeDue.lanes && t.banks != takeDue.banks) = true := by decide +kernel
theorem wit_CascadeFramed : (Instr.tunnelRequest far opRead 0x1000 0 []).wf = true ∧
    ran (.tunnelRequest far opRead 0x1000 0 []) mapped (fun t => t.pair == mapped.pair && t.tether != mapped.tether) = true := by decide +kernel
theorem wit_PairFramed : (Instr.join (loc 4) 0).wf = true ∧
    ran (.join (loc 4) 0) member (fun t => t.elem 0x9000 0 == member.elem 0x9000 0 && t.pair != member.pair) = true := by decide +kernel
theorem wit_SystemFramed : Instr.mainPowerEnable.wf = true ∧
    ran .mainPowerEnable down (fun t => t.dict == down.dict && t.boot != down.boot) = true := by decide +kernel

/-! Ill-formed commands: one for each check of WellFormed, with every other operand in order. -/

/-- A request whose payload is longer than a frame holds. -/
def wildRq : Rq := loc 1025
theorem test_ill_formed_1 : ([
    .planeConfigWrite wildRq 0 0, .planeConfigWrite (loc 4) 0 (2 ^ 32), .planeConfigWrite (loc 4) 4 0, .reorigin wildRq 0 0,
    .reorigin (loc 4) 0 (2 ^ 32), .reorigin (loc 4) 4 0, .reoriginFrameEnd 4, .reoriginNewPhase 4,
    .candidatePresent 10 0 0 0, .candidatePresent 0 256 0 0, .candidateLoss 10 0, .candidateLoss 0 16,
    .candidateQualify 10, .candidateConfigWrite wildRq 0 0, .candidateConfigWrite (loc 4) 0 (2 ^ 32),
    .candidateConfigWrite (loc 4) 10 0, .priorityTableWrite wildRq 0 0, .priorityTableWrite (loc 4) 0 (2 ^ 32),
    .priorityTableWrite (loc 4) 10 0, .refselSchedule wildRq 0, .refselSchedule (loc 4) (2 ^ 32), .manualClear wildRq 0,
    .manualClear (loc 4) (2 ^ 32), .ptpMessageReceived 2 0 (.delayResp 0 0 0 0),
    .ptpMessageReceived 0 128 (.delayResp 0 0 0 0), .ptpDelayReqSend 2, .ptpAnnounceTimeout 2, .laneModeWrite wildRq 0 0,
    .laneModeWrite (loc 4) 0 (2 ^ 32), .laneModeWrite (loc 4) 192 0, .laneRateWrite wildRq 0 0,
    .laneRateWrite (loc 4) 0 (2 ^ 32), .laneRateWrite (loc 4) 0x1C0 0, .laneRateWrite (loc 4) 192 0, .synthesiserLocked 96,
    .synthesiserLockFail 96, .synthesiserRelockAttempt 96, .adaptationComplete 192, .losDeclare 192, .losClear 192,
    .lolDeclare 192, .lolClear 192, .ethernetLinkChange 192 false [], .sdiRateDetected 192 0, .sdiRateDetected 0 16] : List Instr).all (fun c => !c.wf) = true := by decide +kernel
theorem test_ill_formed_2 : ([
    .polarityReversalDetected 192, .tetherCommaInsert ⟨192, []⟩, .tetherCommaInsert ⟨0, [(true, 2 ^ 256)]⟩,
    .alignmentAcquired 192 0 0, .alignmentAcquired 0 (2 ^ 64) 0, .alignmentLost ⟨192, []⟩,
    .alignmentLost ⟨0, [some (2 ^ 32)]⟩, .uncorrectableCodeword ⟨192, []⟩ 0, .uncorrectableCodeword ⟨0, [4]⟩ 0,
    .electricalIdleEnter ⟨192, []⟩, .electricalIdleEnter ⟨0, [(true, 2 ^ 256)]⟩, .idleMarkerReceived 192 0,
    .idleMarkerReceived 0 (2 ^ 64), .electricalIdleExit ⟨192, false⟩, .idleExitFailure 192, .txShortDeclare 192,
    .txShortProbe 192 false, .laneDiagWrite wildRq 0 0, .laneDiagWrite (loc 4) 0 (2 ^ 32), .laneDiagWrite (loc 4) 192 0,
    .patternErrorInject wildRq 0 0, .patternErrorInject (loc 4) 0 (2 ^ 32), .patternErrorInject (loc 4) 192 0,
    .trsLock 192, .trsLockLost 192, .sdiLineReceived 192 badLine, .formatMismatchClear 2048, .outputFrameStart 2048,
    .outputLineLaunch 2048 0, .outputLineLaunch 0 2048, .outputSwitchPoint 2048,
    .arpFrameReceived ⟨0, 0, 0, 0⟩ false (2 ^ 32) 0 0, .arpFrameReceived ⟨0, 0, 0, 0⟩ false 0 (2 ^ 32) 0,
    .arpFrameReceived ⟨0, 0, 0, 0⟩ false 0 0 (2 ^ 48), .arpFrameReceived ⟨192, 0, 0, 0⟩ false 0 0 0,
    .arpFrameReceived ⟨0, 2 ^ 48, 0, 0⟩ false 0 0 0, .arpFrameReceived ⟨0, 0, 4096, 0⟩ false 0 0 0, .arpResolveRetry 192 0,
    .arpResolveRetry 0 4294967296, .arpRefresh 192 0, .arpRefresh 0 4294967296,
    .igmpQueryReceived ⟨192, 0, 0, 0⟩ ⟨3, 0, 0⟩, .igmpQueryReceived ⟨0, 2 ^ 48, 0, 0⟩ ⟨3, 0, 0⟩,
    .igmpQueryReceived ⟨0, 0, 4096, 0⟩ ⟨3, 0, 0⟩, .igmpQueryResponse 192 0] : List Instr).all (fun c => !c.wf) = true := by decide +kernel
theorem test_ill_formed_3 : ([
    .igmpQueryResponse 0 4096, .igmpStateChangeReport 192 0, .igmpStateChangeReport 0 4096, .igmpCompatTimeout 192 0,
    .igmpCompatTimeout 0 4096, .mediaPacketReceived 192 pkt, .lineCloseTimeout 2048 0, .lineCloseTimeout 0 2048,
    .rxEntryWrite wildRq 0 0, .rxEntryWrite (loc 4) 0 (2 ^ 32), .rxEntryWrite (loc 4) 4096 0, .txEntryWrite wildRq 0 0,
    .txEntryWrite (loc 4) 0 (2 ^ 32), .txEntryWrite (loc 4) 4096 0, .videoPacketSend 4096, .audioPacketSend 4096,
    .ancPacketSend 4096, .tsDriftDeclare 4096, .ancAttachTimeout 2048, .pathAbsent 2048 0, .pathAbsent 0 2,
    .ipInputLost 2048, .inputReturn 2048, .holdExpiry 2048, .inputMistimed 2048, .mistimedRecovery 2048,
    .autoSyncPromotion 2048, .promotionRetry 2048, .shadowWrite wildRq 0 0 0, .shadowWrite (loc 4) 0 0 (2 ^ 32),
    .shadowWrite (loc 4) 65536 0 0, .shadowWrite (loc 4) 0 65536 0, .protectionWrite wildRq 0 0,
    .protectionWrite (loc 4) 0 (2 ^ 32), .protectionWrite (loc 4) 2048 0, .take wildRq 0, .take (loc 4) (2 ^ 32),
    .cascadeTake wildRq 0, .cascadeTake (loc 4) (2 ^ 32), .reseedComplete 5, .abort wildRq 0, .abort (loc 4) (2 ^ 32),
    .cascadeAbort wildRq 0, .cascadeAbort (loc 4) (2 ^ 32), .discard wildRq 0] : List Instr).all (fun c => !c.wf) = true := by decide +kernel
theorem test_ill_formed_4 : ([
    .discard (loc 4) (2 ^ 32), .salvoStore wildRq 0 [], .salvoStore (loc 4) 256 [], .salvoFire (.fieldInput 0) (2 ^ 64),
    .structuralWrite wildRq 0 0 0, .structuralWrite (loc 4) 0 0 (2 ^ 32), .structuralWrite (loc 4) 65536 0 0,
    .structuralWrite (loc 4) 0 65536 0, .movePoint 65536 0, .movePoint 0 65536, .fsSlotSelect 2048, .bridgeAcquire 8192 0,
    .bridgeBandwidthStep 8192, .bridgeRatioUpdate 8192 0, .bridgeSourceLost 8192, .audioPortClockLost 40,
    .gainStepTimeout 0xC000, .gainStepTimeout 0x10100, .gainStepTimeout 0xFFFF, .delayCrossfadeEnd 49152,
    .spoolLoad wildRq 0 [], .spoolLoad (loc 4) 2 [], .spoolCheckComplete 2, .spoolLoadAbandon 2, .spoolBankEmpty wildRq 0,
    .spoolBankEmpty (loc 4) (2 ^ 32), .coefficientWrite wildRq 0 0 [], .coefficientWrite (loc 4) 2 0 [],
    .coefficientWrite (loc 4) 0 65536 [], .headFrameBoundary 16, .stagedFrameComplete 16 0, .stagedFrameComplete 0 64,
    .headTimingChange 16, .spriteUpload wildRq 0 [], .spriteUpload (loc 4) 64 [], .spriteCapture wildRq 0,
    .spriteCapture (loc 4) (2 ^ 32), .spriteCaptureDone 64, .spriteCaptureTimeout 64, .spriteDelete wildRq 0,
    .spriteDelete (loc 4) (2 ^ 32), .staticLayerWrite wildRq 0 0, .staticLayerWrite (loc 4) 0 (2 ^ 32),
    .staticLayerWrite (loc 4) 64 0, .blitCopy wildRq 0] : List Instr).all (fun c => !c.wf) = true := by decide +kernel
theorem test_ill_formed_5 : ([
    .blitCopy (loc 4) (2 ^ 32), .blitFill wildRq 0, .blitFill (loc 4) (2 ^ 32), .cursorWrite wildRq 0x30 [],
    .cursorWrite (loc 4) 0x50 [], .cursorWrite (loc 4) 0x2F [], .helloReceived 8 hello2, .tetherPortUp 8,
    .tetherPortDown 8, .tetherTimelineReceived 8 0, .tetherTimelineReceived 0 (2 ^ 240),
    .tetherPlanecfgReceived 9 0 0 ⟨0, none⟩, .tetherPlanecfgReceived 0 4 0 ⟨0, none⟩,
    .tetherPlanecfgReceived 0 0 (2 ^ 32) ⟨0, none⟩, .pathEcho 9 0 0 0 0, .tetherCellReceived 8 cellB,
    .creditReceived 8 0 0, .creditReceived 0 65536 0, .creditReceived 0 0 65536, .creditStall 8,
    .tetherBindingWrite wildRq 0 0, .tetherBindingWrite (loc 4) 0 (2 ^ 32), .tetherBindingWrite (loc 4) 2048 0,
    .reserveReceived 8 (.free 0 0), .streamStateReceived 8 0 0, .streamStateReceived 0 65536 0,
    .streamStateReceived 0 0 (2 ^ 32), .tunnelRequest wildRq 0 0 0 [], .tunnelRequest (loc 0) 0 0 0 [0],
    .tunnelRequest (loc 0) 16 0 0 [], .tunnelRequest (loc 0) 0 65536 0 [], .tunnelRequest (loc 0) 0 0 65536 [],
    .tunnelFragmentReceived 8 0 0 0 false [], .tunnelFragmentReceived 0 4096 0 0 false [],
    .tunnelFragmentReceived 0 0 4096 0 false [], .tunnelFragmentReceived 0 0 0 65536 false [],
    .cascadeRecordReceived 8 (.abort 0 0 0 0), .changeoverRecordReceived 8, .join wildRq 0, .join (loc 4) (2 ^ 32),
    .release wildRq 0, .release (loc 4) (2 ^ 32), .clearSuspect wildRq 0, .clearSuspect (loc 4) (2 ^ 32),
    .heartbeatReceived (2 ^ 256)] : List Instr).all (fun c => !c.wf) = true := by decide +kernel
theorem test_ill_formed_6 : ([
    .bridleTimelineReceived (2 ^ 256), .decisionRecordApply (2 ^ 256), .faultRecordReceived (2 ^ 256), .digestCompare 4 0,
    .digestCompare 0 (2 ^ 240), .stateRecordApply (2 ^ 256), .changeoverRequestReceived 8, .partnerRelay wildRq [],
    .drill wildRq 0, .drill (loc 4) (2 ^ 32), .dumusFrameReceived .dumusA (2 ^ 48) 0 0 false false [],
    .dumusFrameReceived .dumusA 0 65536 0 false false [], .dumusFrameReceived .dumusA 0 0 (2 ^ 48) false false [],
    .dumusFrameReceived .card 0 0 0 false false [], .read wildRq 0 0, .read (loc 4) 65536 0, .read (loc 4) 0 65536,
    .write wildRq 0 0 [], .write (loc 0) 0 0 [0], .write (loc 0) 65536 0 [], .write (loc 0) 0 65536 [],
    .blockWrite wildRq 0 0 [], .blockWrite (loc 0) 0 0 [0], .blockWrite (loc 0) 65536 0 [], .blockWrite (loc 0) 0 65536 [],
    .blockTransferAbandon 65536 0 none, .blockTransferAbandon 0 65536 none, .blockTransferAbandon 0 0 (some ⟨4, 0, 0⟩),
    .blockRead wildRq 0 0 [], .blockRead (loc 0) 0 0 [0], .blockRead (loc 0) 65536 0 [], .blockRead (loc 0) 0 65536 [],
    .pendingDone wildRq 0 0, .pendingDone (loc 4) 65536 0, .pendingDone (loc 4) 0 65536, .notifyResend 16 0 0,
    .notifyResend 0 65536 0, .notifyResend 0 0 65536, .wake .card [], .cardSend 65536 [] 0, .cardSend 0 [] (2 ^ 32),
    .windowRead 16 0 0, .windowRead 0 (2 ^ 32) 0, .windowRead 0 0 (2 ^ 32), .windowWrite 16 0 []] : List Instr).all (fun c => !c.wf) = true := by decide +kernel
theorem test_ill_formed_7 : ([
    .windowWrite 0 (2 ^ 32) [], .keyWrite wildRq 0 [], .keyWrite (loc 0) 0 [0], .keyWrite (loc 0) 65536 [],
    .logRelease wildRq 0, .logRelease (loc 4) (2 ^ 32), .windowCapture wildRq 0 0, .windowCapture (loc 4) 0 (2 ^ 32),
    .windowCapture (loc 4) 16 0, .windowInsert wildRq 0 0, .windowInsert (loc 4) 0 (2 ^ 32), .windowInsert (loc 4) 16 0,
    .windowStop wildRq 0 0, .windowStop (loc 4) 0 (2 ^ 32), .windowStop (loc 4) 16 0, .windowOperationStart 16,
    .windowOperationEnd 16 none, .windowOperationEnd 0 (some ⟨4, 0, 0⟩), .requestService wildRq, .requestSolo wildRq,
    .requestDormant wildRq, .fatalDeclaration 512 0, .fatalDeclaration 0 (2 ^ 64), .porstRelease 256 false false,
    .stagePackage wildRq [], .stagePackage (loc 0) [0], .stagingFailure 256 none, .stagingFailure 0 (some ⟨4, 0, 0⟩),
    .healthConfirm wildRq 0, .healthConfirm (loc 4) (2 ^ 32), .configSave wildRq, .configErase wildRq,
    .selectGoodSlot wildRq, .eccWriteback 24 0, .eccWriteback 0 (2 ^ 32), .scrubRead 24 .none, .scrubLapEnd 24,
    .faultForce wildRq 0 0, .faultForce (loc 4) 0 (2 ^ 32), .faultForce (loc 4) 512 0, .alarmClear wildRq 0 0,
    .alarmClear (loc 4) 0 (2 ^ 32), .alarmClear (loc 4) 512 0, .rearm wildRq 0, .rearm (loc 4) (2 ^ 32)] : List Instr).all (fun c => !c.wf) = true := by decide +kernel
theorem test_ill_formed_8 : ([
    .freezeSchedule wildRq 0, .freezeSchedule (loc 4) (2 ^ 32), .freezeCancel wildRq 0, .freezeCancel (loc 4) (2 ^ 32),
    .bypass 256, .captureSeek 256, .relock (2 ^ 32), .debugAccess false 256 0 0, .debugAccess false 0 (2 ^ 32) 0,
    .debugAccess false 0 0 (2 ^ 32), .licenceTokenWrite wildRq 0 [], .licenceTokenWrite (loc 0) 0 [0],
    .licenceTokenWrite (loc 0) 16 [], .crossbarAccessError 12 0, .crossbarAccessError 0 256,
    .fieldLineConfigWrite wildRq 0 0, .fieldLineConfigWrite (loc 4) 0 (2 ^ 32), .fieldLineConfigWrite (loc 4) 32 0,
    .fieldLineHoldEnd 32, .fieldInputMeasure 32 0, .fieldInputAccept 32, .fieldOutputReadback 32 0, .contentionDeclare 32,
    .contentionClear 32, .outputOvercurrent 32, .overcurrentRetry 32 false, .openLoadDeclare 32, .openLoadClear 32,
    .tallyRuleWrite wildRq 0 0, .tallyRuleWrite (loc 4) 0 (2 ^ 32), .tallyRuleWrite (loc 4) 32 0, .fieldPortLineCheck 2 0,
    .fieldPortStuck 2, .fieldPortStuckClear 2, .audioPortFrame 40 0 [] [] false, .requestsMissingFromStream 16 0 0,
    .requestsMissingFromStream 0 65536 0, .requestsMissingFromStream 0 0 65536, .generatorFrameStart 16, .creditSend 8,
    .unknownCardCommand 256] : List Instr).all (fun c => !c.wf) = true := by decide +kernel

/-! Values that the spec works out. -/

/-- Instruction word 1,221 of the mix-minus example: MACR acc0, AIN 1005, NEG, RAMP 3, entry 5. -/
theorem spool_word_worked : let w : Word := 0x14000000FB630005
    wordOp w = 5 ∧ wordA w = 0 ∧ wordB w = 1005 ∧ wordNeg w = true ∧ wordClr w = false ∧ wordRamp w = 3 ∧ wordIndex w = 5 ∧
      wordOk w = true := by decide +kernel
/-- The sixteen-tile head: the taps of a tile reach the last active raster line of 1080p. -/
def tile : Staging := { geom := ⟨200, 0, 0, 1920, 1080, 0, 0, 480, 270⟩, lines := 270, width := 480, colour := [], coefs := [] }
theorem tile_last_line : (solo.put 0x4100 200 (fmtW 4 8 0)).lastLine tile = 1121 := by decide +kernel
/-- The capture stream: its length, and what the worked readout leaves out of it. -/
theorem stream_worked : streamBytes = 214001280 ∧ streamBytes - 157286400 - 32 = 56714848 := by decide +kernel
/-- The house line of 1080p 50: 1,125 lines in 20 ms. -/
theorem house_line_worked : solo.houseLine 0 * 1125 = 20000000 := by decide +kernel

end Sys2Proof.Tests
end

section
/-! SUPPORT. Proofs of the statements on refused writes (R12, R13) and on a machine whose clocks stand (R17, R510, R563). -/

namespace Sys2Proof.Machine

/-! What a refused request touches (R12). -/

/-- `t` differs from `s` at most in what an answer to a request touches: the request path, the log, the ports, and the Dumus
counters at 0x1001. -/
structure Answers (s t : State) : Prop where
  rest : t = { s with dict := t.dict, emitted := t.emitted, req := t.req, log := t.log }
  elem : ∀ i j, i ≠ 0x1001 → j < 65536 → t.elem i j = s.elem i j

theorem Answers.of_dict {s t : State}
    (h : t = { s with dict := t.dict, emitted := t.emitted, req := t.req, log := t.log }) (hd : t.dict = s.dict) :
    Answers s t := ⟨h, fun i j _ _ => by simp [State.elem, hd]⟩

theorem Answers.refl (s : State) : Answers s s := .of_dict rfl rfl

theorem Answers.trans {s t u : State} (h : Answers s t) (h' : Answers t u) : Answers s u where
  rest := by rw [h'.rest, h.rest]
  elem i j hi hj := (h'.elem i j hi hj).trans (h.elem i j hi hj)

theorem Answers.ite {s t u : State} {c : Prop} [Decidable c] (h : Answers s t) (h' : Answers s u) :
    Answers s (if c then t else u) := by split <;> assumption

theorem answers_req (s : State) (x : ReqSt) : Answers s { s with req := x } := .of_dict rfl rfl
theorem answers_log (s : State) (x : LogSt) : Answers s { s with log := x } := .of_dict rfl rfl

theorem emit_answers (s : State) (e : Emission) : Answers s (s.emit e) := by
  unfold State.emit; exact .ite (.refl s) (.of_dict rfl rfl)

/-- The counters of the ports stand at 0x1001 (R465). -/
theorem countPort_answers (s : State) (p : Port) (n : Nat) (hn : n < 16) : Answers s (countPort s p n) := by
  have counted : Answers s (s.count 0x1001 (0x100 + 0x10 * portNum p + n)) := by
    refine ⟨rfl, fun i j hi hj => ?_⟩
    have hp : portNum p ≤ 3 := by cases p <;> simp [portNum]
    have hk : ekey i j ≠ ekey 0x1001 (0x100 + 0x10 * portNum p + n) := fun h =>
      hi ((ekey_inj hj (by omega)).1 h).1
    simp [State.count, hk]
  cases p with
  | card | dumusA | dumusB | tunnel => exact counted
  | relay | stream => exact .refl s

theorem unbuffer_answers (s : State) (rq : Rq) (op i j : Nat) (b : List Byte) : Answers s (unbuffer s rq op i j b) := by
  unfold unbuffer
  split
  · exact answers_req _ _
  · exact answers_req _ _
  · exact answers_req _ _
  · exact answers_req _ _
  · exact .refl s

theorem judged_answers (s : State) (rq : Rq) (op i j : Nat) (b : List Byte) : Answers s (judged s rq op i j b) :=
  (unbuffer_answers s rq op i j b).trans (countPort_answers _ _ _ (by omega))

theorem sendFrame_answers (s : State) (rq : Rq) (f : List Byte) : Answers s (sendFrame s rq f) := by
  unfold sendFrame
  split
  · exact .ite (answers_req _ _) (countPort_answers _ _ _ (by omega))
  · exact .ite (emit_answers _ _) (.refl s)
  · exact .ite (emit_answers _ _) (.refl s)
  · exact emit_answers _ _
  · exact emit_answers _ _
  · exact .refl s

theorem sendReply_answers (s : State) (rq : Rq) (i j st : Nat) (d : List Byte) : Answers s (sendReply s rq i j st d) := by
  have sent := sendFrame_answers s rq (answerFrame s 9 st rq i j d)
  have counted (u : State) : Answers u (countPort u rq.port 6) := countPort_answers _ _ _ (by omega)
  unfold sendReply
  dsimp only
  split
  · exact .refl s
  · exact .ite ((sent.trans (answers_req _ _)).trans (counted _)) (.refl s)
  · exact .ite ((sent.trans (answers_req _ _)).trans (counted _)) (.refl s)
  · exact sent.trans (counted _)

/-- A log entry touches the log alone (R479, R481). -/
theorem appendLog_eq (s : State) (e : LogEntry) : ∃ l, appendLog s e = { s with log := l } := by
  unfold appendLog
  dsimp only
  split
  · split <;> exact ⟨_, rfl⟩
  · exact ⟨_, rfl⟩

theorem appendLog_answers (s : State) (e : LogEntry) : Answers s (appendLog s e) := by
  obtain ⟨l, hl⟩ := appendLog_eq s e
  exact hl ▸ answers_log s l

theorem logRefusal_answers (s : State) (rq : Rq) (op i j st : Nat) (h : Handler) :
    Answers s (logRefusal s rq op i j st h) := by
  unfold logRefusal
  exact .ite (.refl s) (.ite (answers_log _ _) (appendLog_answers _ _))

theorem recordReply_answers (s : State) (rq : Rq) (st : Nat) (d : List Byte) : Answers s (recordReply s rq st d) :=
  answers_req _ _

/-- What a refusal may touch beside an answer: the admission report at 0x5300:8 (R214). -/
structure RefusalReports (s t : State) : Prop where
  rest : t = { s with dict := t.dict, emitted := t.emitted, req := t.req, log := t.log }
  elem : ∀ i j, i ≠ 0x1001 → ¬ (i = 0x5300 ∧ j = 8) → j < 65536 → t.elem i j = s.elem i j

theorem Answers.refusalReports {s t : State} (h : Answers s t) : RefusalReports s t :=
  ⟨h.rest, fun i j hi _ hj => h.elem i j hi hj⟩

theorem RefusalReports.trans {s t u : State} (h : RefusalReports s t) (h' : RefusalReports t u) : RefusalReports s u where
  rest := by rw [h'.rest, h.rest]
  elem i j hi hn hj := (h'.elem i j hi hn hj).trans (h.elem i j hi hn hj)

theorem put_admission_refusalReports (s : State) (v : Word) : RefusalReports s (s.put 0x5300 8 v) := by
  refine ⟨rfl, fun i j _ hn hj => ?_⟩
  have hk : ekey i j ≠ ekey 0x5300 8 := fun h => hn ((ekey_inj hj (by omega)).1 h)
  simp [hk]

/-- A refused request whose element has no effect of its own on a refusal. -/
theorem refuseRequest_refusalReports (s : State) (rq : Rq) (op i j st : Nat) {h : Handler}
    (hr : ∀ u, h.refused st u = u) : RefusalReports s (refuseRequest s rq op i j st h) := by
  unfold refuseRequest
  dsimp only
  rw [hr]
  generalize hc : (if st = stAuth then countPort s rq.port 4 else if st = stAccess then countPort s rq.port 5 else s) = c
  have counted : Answers s c := hc ▸
    .ite (countPort_answers _ _ _ (by omega)) (.ite (countPort_answers _ _ _ (by omega)) (.refl s))
  have logged := (counted.trans (logRefusal_answers c rq op i j st h)).refusalReports
  have answered (u : State) : RefusalReports u
      (sendReply (if st = stAuth then u else recordReply u rq st []) rq i j st []) :=
    ((Answers.ite (.refl u) (recordReply_answers _ _ _ _)).trans (sendReply_answers _ _ _ _ _ _)).refusalReports
  refine .trans ?_ (answered _)
  split
  · exact logged.trans (put_admission_refusalReports _ _)
  · exact logged

/-- A request that fails a check is not accepted. -/
theorem accepts_of_isRefused {s : State} {rq : Rq} {op i j st : Nat} {b : List Byte} {h : Handler}
    (hr : isRefused s rq op i j b h st) : s.accepts rq op i j b h.checks = false := by
  obtain ⟨-, -, hst, hstatus⟩ := hr
  refine Bool.eq_false_iff.2 fun ha => ?_
  unfold State.accepts at ha
  rw [Bool.and_eq_true] at ha
  obtain ⟨-, passed⟩ := ha
  split at passed
  · cases passed
  · exact hst (hstatus.symm.trans (eq_of_beq passed))

/-- A refused write ends with its refusal: nothing is left to settle. -/
theorem writeElement_refused {s : State} {rq : Rq} {op i j st : Nat} {b : List Byte}
    (hr : isRefused s rq op i j b (elementHandler s rq i j b) st) :
    writeElement s rq op i j b = refuseRequest (judged s rq op i j b) rq op i j st (elementHandler s rq i j b) := by
  unfold writeElement
  dsimp only
  rw [accepts_of_isRefused hr, request_refused hr]
  rfl

/-- The status that is reported is that of the first check that fails (R13). -/
theorem firstFailure_first {st : Nat} (hst : st ≠ stOk) {l : List (Bool × Nat)} (hl : firstFailure l = st) :
    ∃ k, l[k]? = some (true, st) ∧ ∀ (i : Nat) (x : Bool × Nat), i < k → l[i]? = some x → x.1 = false := by
  induction l with
  | nil => exact absurd hl.symm hst
  | cons a l ih =>
    obtain ⟨fails, status⟩ := a
    cases fails with
    | true =>
      have hs : status = st := hl
      exact ⟨0, by simp [hs], fun i _ hi => absurd hi (Nat.not_lt_zero i)⟩
    | false =>
      obtain ⟨k, hk, before⟩ := ih hl
      refine ⟨k + 1, by simpa using hk, fun i x hi hx => ?_⟩
      cases i with
      | zero => cases hx; rfl
      | succ i => exact before i x (by omega) (by simpa using hx)

/-- Settles O47: a refused write is its refusal, which reports and answers; the checks are taken in their order. -/
theorem refusedInOrder : Obligations.RefusedInOrder := by
  unfold Obligations.RefusedInOrder
  refine ⟨fun s rq idx sub st payload hr hown => ?_, fun s rq op idx sub st payload c hst h => firstFailure_first hst h⟩
  refine act_does (f := fun u => writeElement u rq opWrite idx sub payload) rfl ?_
  rw [writeElement_refused hr]
  have h := (judged_answers s.fresh rq opWrite idx sub payload).refusalReports.trans
    (refuseRequest_refusalReports _ rq opWrite idx sub st hown)
  generalize refuseRequest (judged s.fresh rq opWrite idx sub payload) rq opWrite idx sub st
    (elementHandler s.fresh rq idx sub payload) = t at h ⊢
  obtain ⟨rest, elem⟩ := h
  refine ⟨elem, ?_⟩
  rw [rest]
  exact ⟨rfl, rfl, rfl, rfl, rfl, rfl, rfl, rfl, rfl⟩

/-! A machine whose clocks stand (R17, R563). -/

/-- FROZEN and DORMANT. -/
def State.standing (s : State) : Prop := s.mode = .frozen ∨ s.mode = .dormant

theorem running_of_standing {s : State} (hs : s.standing) : s.running = false := by
  rcases hs with h | h <;> simp [State.running, h]

/-- `t` differs from `s` at most in what lives while the clocks stand: the power supervision, the pair's pins, the debug port,
and what VDD_SRAM holds. -/
def clocksStand (s t : State) : Prop :=
  t = { s with
    emitted := t.emitted, free := t.free, log := t.log, faults := t.faults, dbg := t.dbg, pair := t.pair
    boot := t.boot, keys := t.keys }

theorem clocksStand.refl (s : State) : clocksStand s s := rfl

theorem clocksStand.trans {s t u : State} (h : clocksStand s t) (h' : clocksStand t u) : clocksStand s u := by
  unfold clocksStand at *
  rw [h', h]

theorem clocksStand.ite {s t u : State} {c : Prop} [Decidable c] (h : clocksStand s t) (h' : clocksStand s u) :
    clocksStand s (if c then t else u) := by split <;> assumption

theorem logEvent_clocksStand (s : State) (i j : Nat) (old new : Word) (p : Nat) (b : Bool) (st : Nat) :
    clocksStand s (logEvent s i j old new p b st) := by
  unfold logEvent
  refine .ite rfl ?_
  obtain ⟨l, hl⟩ := appendLog_eq s { tp := s.pos p, time := s.ns, entry := 0, plane := p, origin := 0xF, kind := 2,
                                     index := i, sub := j, old := old, new := new, struct := b, status := st }
  rw [hl]
  rfl

theorem emit_clocksStand (s : State) (e : Emission) : clocksStand s (s.emit e) := by
  unfold State.emit; exact .ite rfl rfl

/-! What each meaning makes of a machine whose clocks stand. -/

/-- Whatever next state the outcome gives, the clocks stand between `s` and it. -/
def standsIn (s : State) (o : Host.Outcome State Fault Refusal) : Prop := ∀ t, o = .next t → clocksStand s t

theorem fault_standsIn {s : State} {e : Fault} : standsIn s (.fault e) := fun _ h => nomatch h

theorem act_standsIn {s : State} {f : State → State} (h : clocksStand s.fresh (f s.fresh)) : standsIn s (act s f) := by
  intro t ht
  have ht' : { f s.fresh with pending := s.pending } = t := by injection ht
  rw [← ht']
  unfold clocksStand at h ⊢
  rw [h]
  rfl

/-- A meaning that does nothing here. -/
theorem act_idle {s : State} {f : State → State} (h : f s.fresh = s.fresh) : standsIn s (act s f) :=
  act_standsIn (h.symm ▸ rfl)

section
variable {s : State} (hs : s.standing)
include hs

theorem whenRunning_standing (f : State → State) : whenRunning s f = s := by
  simp [whenRunning, running_of_standing hs]

theorem actRunning_standsIn {f : State → State} : standsIn s (actRunning s f) :=
  act_idle (whenRunning_standing (s := s.fresh) hs f)

theorem onUnit_standsIn {n l : Nat} {f : State → State} : standsIn s (onUnit n l s f) := by
  unfold onUnit
  split
  · exact actRunning_standsIn hs
  · exact fault_standsIn

theorem onLine_standsIn {n : Nat} {f : State → State} : standsIn s (onLine n s f) := by
  have still : s.fresh.running = false := running_of_standing (s := s.fresh) hs
  unfold onLine
  split
  · exact act_idle (by simp [still])
  · exact fault_standsIn

/-- An instruction of the debug port: it is loaded, and its data register acts. -/
theorem instruct_standsIn {code : Nat} {f : State → State} (h : ∀ u : State, u.standing → clocksStand u (f u)) :
    standsIn s (instruct s code f) :=
  act_standsIn (.ite (.trans (t := { s.fresh with dbg := { s.dbg with ir := code } }) rfl (h _ hs)) rfl)

/-! Requests: none is taken up (R510). -/

theorem takesUp_standing (rq : Rq) : s.takesUp rq = false := by simp [State.takesUp, running_of_standing hs]

theorem accepts_standing (rq : Rq) (op i j : Nat) (b : List Byte) (c : Checks) : s.accepts rq op i j b c = false := by
  simp [State.accepts, takesUp_standing hs]

theorem request_standing (rq : Rq) (op i j : Nat) (b : List Byte) (h : Handler) : request s rq op i j b h = s := by
  simp [request, takesUp_standing hs]

theorem writeElement_standing (rq : Rq) (op i j : Nat) (b : List Byte) : writeElement s rq op i j b = s := by
  simp [writeElement, request_standing hs, accepts_standing hs]

theorem blockElements_standing (rq : Rq) (i j : Nat) (b : List Byte) : blockElements s rq i j b = s := by
  simp [blockElements, takesUp_standing hs]

theorem transferFrame_standing (rq : Rq) (i j : Nat) (b : List Byte) : transferFrame s rq i j b = s := by
  simp [transferFrame, takesUp_standing hs]

theorem blockWrite_standing (rq : Rq) (i j : Nat) (b : List Byte) : blockWrite s rq i j b = s := by
  simp [blockWrite, blockElements_standing hs, transferFrame_standing hs]

theorem readRequest_standing (rq : Rq) (op i j : Nat) (b : List Byte) (c : Checks) (short : Bool)
    (d : State → List Byte) : readRequest s rq op i j b c short d = s := by
  simp [readRequest, takesUp_standing hs]

theorem pendingDone_standing (rq : Rq) (i j : Nat) : pendingDone s rq i j = s := by
  simp [pendingDone, takesUp_standing hs]

theorem tunnelRequest_standing (rq : Rq) (op i j : Nat) (b : List Byte) : tunnelRequest s rq op i j b = s := by
  simp [tunnelRequest, takesUp_standing hs]

theorem bindTether_standing (rq : Rq) (j : Nat) (b : List Byte) : bindTether s rq j b = s := by
  simp [bindTether, request_standing hs, accepts_standing hs]

/-! The pins of the pair, the freeze pin, the wake frames. -/

/-- The pins of the pair move, and no change of its state word is logged. -/
theorem pairChange_clocksStand (p : PairSt) (f : PairSt → PairSt) : clocksStand s (pairChange { s with pair := p } f) := by
  have still : ({ s with pair := p } : State).running = false := running_of_standing hs
  unfold pairChange
  rw [still]
  rfl

theorem freeze_standing (trigger : Nat) : freeze s trigger = s := by
  rcases hs with h | h <;> simp [freeze, h]

theorem claimRises_clocksStand : clocksStand s (claimRises s) := by
  have notActive : ¬ s.mode = .active := by rcases hs with h | h <;> simp [h]
  unfold claimRises
  dsimp only
  refine .ite rfl ?_
  rw [if_neg fun h => notActive h.1]
  exact .ite rfl (pairChange_clocksStand hs _ _)

theorem claimClash_clocksStand : clocksStand s (claimClash s) := by
  unfold claimClash
  exact .ite (.ite (pairChange_clocksStand hs _ _) rfl) rfl

theorem claimFalls_clocksStand (power : Bool) : clocksStand s (claimFalls s power) := by
  have still : s.running = false := running_of_standing hs
  unfold claimFalls
  dsimp only
  rw [if_neg]
  · rfl
  · intro h
    simp only [Bool.and_eq_true] at h
    obtain ⟨⟨run, -⟩, -⟩ := h
    exact Bool.noConfusion (still.symm.trans run)

theorem quenched_clocksStand : clocksStand s (quenched s) := by
  unfold quenched
  simp only [running_of_standing hs, Bool.and_false, Bool.false_eq_true, if_false]
  exact .ite rfl (pairChange_clocksStand hs s.pair _)

theorem unquenched_clocksStand : clocksStand s (unquenched s) := by
  unfold unquenched
  exact .ite (pairChange_clocksStand hs s.pair _) rfl

/-- A valid WAKE frame in DORMANT raises MAIN_PWR_EN; it leaves the mode to the release of PORST_N (R512). -/
theorem wakeFrame_clocksStand (p : Port) (frame : List Byte) : clocksStand s (wakeFrame s p frame) := by
  unfold wakeFrame
  rw [whenRunning_standing hs]
  exact .ite (.ite rfl rfl) rfl

theorem fieldFrame_clocksStand (p : Port) (dst etherType src : Nat) (tagged fcsOk : Bool) (frame : List Byte) :
    clocksStand s (fieldFrame s p dst etherType src tagged fcsOk frame) := by
  unfold fieldFrame
  rw [whenRunning_standing hs]
  exact .ite (.ite (wakeFrame_clocksStand hs _ _) rfl) rfl

/-! Meanings with more than one shape. -/

theorem execSalvoFire_standsIn (who : Firer) (v : Word) : standsIn s (execSalvoFire who v s) := by
  cases who with
  | dumus rq =>
    dsimp only [execSalvoFire]
    exact act_idle (request_standing (s := s.fresh) hs ..)
  | fieldInput line => exact actRunning_standsIn hs

theorem execGainStepTimeout_standsIn (slot : Nat) : standsIn s (execGainStepTimeout slot s) := by
  unfold execGainStepTimeout
  split
  · exact actRunning_standsIn hs
  · exact onUnit_standsIn hs

theorem execStagedFrameComplete_standsIn (h l : Nat) : standsIn s (execStagedFrameComplete h l s) := by
  unfold execStagedFrameComplete
  split
  · exact onUnit_standsIn hs
  · exact fault_standsIn

theorem execWake_standsIn (p : Port) (frame : List Byte) : standsIn s (execWake p frame s) := by
  cases p with
  | dumusA | dumusB =>
    dsimp only [execWake]
    exact act_standsIn (wakeFrame_clocksStand (s := s.fresh) hs ..)
  | card | tunnel | relay | stream => exact fault_standsIn

theorem execDumusFrameReceived_standsIn (p : Port) (dst etherType src : Nat) (tagged fcsOk : Bool) (frame : List Byte) :
    standsIn s (execDumusFrameReceived p dst etherType src tagged fcsOk frame s) := by
  cases p with
  | dumusA | dumusB =>
    dsimp only [execDumusFrameReceived]
    exact act_standsIn (fieldFrame_clocksStand (s := s.fresh) hs ..)
  | card | tunnel | relay | stream => exact fault_standsIn

/-! The debug port: no opening is carried out here (R570), and no transaction while the clocks stand. -/

theorem opens_standing : s.opens = false := by rcases hs with h | h <;> simp [State.opens, h]

theorem openResponse_clocksStand (sig : List Byte) (failing : Option Nat) :
    clocksStand s (openResponse sig failing s) := by
  simp only [openResponse, opens_standing hs, Bool.not_false, if_true]
  rfl

theorem challenge_clocksStand : clocksStand s (challenge s) := by
  simp only [challenge, opens_standing hs, Bool.false_eq_true, false_and, if_false]
  exact (emit_clocksStand s _).trans rfl

theorem debugAccess_clocksStand (write : Bool) (target address : Nat) (data : Word) :
    clocksStand s (debugAccess write target address data s) := by
  have shifted : clocksStand s (shiftOut 9 s.dbg.access s) := emit_clocksStand s _
  have still : (shiftOut 9 s.dbg.access s).running = false :=
    running_of_standing (by simpa [State.standing, shiftOut] using hs)
  simp only [debugAccess, debugTransaction, still, Bool.not_false, if_true]
  exact shifted.trans rfl

end

/-- PORST_N is asserted again; VDD_SRAM may have gone with the rails (R525). -/
theorem execPowerGoodLost_standsIn (sramKept : Bool) (s : State) : standsIn s (execPowerGoodLost sramKept s) := by
  unfold execPowerGoodLost
  refine act_standsIn ?_
  cases sramKept with
  | true => exact .ite rfl rfl
  | false => exact .ite rfl rfl

theorem relock_clocksStand (v : Word) (s : State) : clocksStand s (relock v s) := by
  unfold relock
  refine .ite (.trans ?_ (logEvent_clocksStand _ _ _ _ _ _ _ _)) rfl
  rfl

/-- Of all commands but two: the acts of the media die and the requests find it not running (R17, R510); the others are the
power supervision, the pins and the debug port, which touch nothing that stands with the clocks. -/
theorem exec_standsIn {s : State} (hs : s.standing) (c : Instr) (hdown : c ≠ .powerDown)
    (hrel : ∀ n b k, c ≠ .porstRelease n b k) : standsIn s (exec c s) := by
  have hf : s.fresh.standing := hs
  cases c <;> dsimp only [exec]
  case powerDown => exact absurd rfl hdown
  case porstRelease n b k => exact absurd rfl (hrel n b k)
  case interDieLinkTimeout | eventFire | refselFire | phaseMeasurement | dpllCapture | dpllLocked | lossOfLock
    | ballastSecondRecord | ppsOutPulse | frameOutPulse | takeSwap | salvoExecute | movePoint | audioPeriod
    | meterIntervalEnd | spoolEffectPoint | coefficientEffect | blitterJobStart | blitterJobComplete | helloSend
    | tetherTimelineSend | tunnelTimeout | heartbeatSend | heartbeatLost | joinRetry | joinSnapshot | joinInStep
    | handoverTp | drillFire | soloClaim | blockTransferAbandon | notifyResend | replyBackoffRetry | cardSend
    | cardReceive | cardStatus | windowRead | windowWrite | dormantPrepare | dormantPowerDown | selfCheckComplete
    | slotVerifyComplete | componentStart | componentReady | componentReadyTimeout | configInstall | bootEnd
    | bootPartnerWaitEnd | stagingComplete | stagingFailure | healthConfirmTimeout | configSaveComplete
    | scheduledFreeze | freezeOnFatal | thermalSensorRead | thermAlert | oscInFailed | requestsMissingFromStream
    | planecfgSend | bridleTimelineSend | unknownCardCommand | changeRecordApply | digestCompare | joinRequestReceived
    | relayFrameReceived | heartbeatReceived | bridleTimelineReceived | decisionRecordApply | faultRecordReceived
    | stateRecordApply =>
    exact actRunning_standsIn hs
  case reoriginFrameEnd | reoriginNewPhase | candidatePresent | candidateLoss | candidateQualify | ptpMessageReceived
    | ptpDelayReqSend | ptpAnnounceTimeout | synthesiserLocked | synthesiserLockFail | synthesiserRelockAttempt
    | adaptationComplete | losDeclare | losClear | lolDeclare | lolClear | ethernetLinkChange | sdiRateDetected
    | polarityReversalDetected | tetherCommaInsert | alignmentAcquired | alignmentLost | uncorrectableCodeword
    | electricalIdleEnter | idleMarkerReceived | electricalIdleExit | idleExitFailure | txShortDeclare | txShortProbe
    | trsLock | trsLockLost | sdiLineReceived | formatMismatchClear | outputFrameStart | outputLineLaunch
    | outputSwitchPoint | arpFrameReceived | arpResolveRetry | arpRefresh | igmpQueryReceived | igmpQueryResponse
    | igmpStateChangeReport | igmpCompatTimeout | mediaPacketReceived | lineCloseTimeout | videoPacketSend
    | audioPacketSend | ancPacketSend | tsDriftDeclare | ancAttachTimeout | pathAbsent | ipInputLost | inputReturn
    | holdExpiry | inputMistimed | mistimedRecovery | autoSyncPromotion | promotionRetry | reseedComplete
    | fsSlotSelect | bridgeAcquire | bridgeBandwidthStep | bridgeRatioUpdate | bridgeSourceLost | audioPortClockLost
    | delayCrossfadeEnd | spoolCheckComplete | spoolLoadAbandon | headFrameBoundary | headTimingChange
    | spriteCaptureDone | spriteCaptureTimeout | tetherPortUp | tetherPortDown | tetherPlanecfgReceived | pathEcho
    | creditStall | changeoverRequestReceived | windowOperationStart | windowOperationEnd | fatalDeclaration
    | eccWriteback | scrubRead | scrubLapEnd | crossbarAccessError | fieldPortLineCheck | fieldPortStuck
    | fieldPortStuckClear | audioPortFrame | generatorFrameStart | creditSend | helloReceived | tetherTimelineReceived
    | tetherCellReceived | creditReceived | reserveReceived | streamStateReceived | tunnelFragmentReceived
    | cascadeRecordReceived | changeoverRecordReceived =>
    exact onUnit_standsIn hs
  case fieldLineHoldEnd | fieldInputMeasure | fieldInputAccept | fieldOutputReadback | contentionDeclare
    | contentionClear | outputOvercurrent | overcurrentRetry | openLoadDeclare | openLoadClear =>
    exact onLine_standsIn hs
  case planeConfigWrite | candidateConfigWrite | priorityTableWrite | refselSchedule | manualClear | laneModeWrite
    | laneRateWrite | laneDiagWrite | patternErrorInject | rxEntryWrite | txEntryWrite | protectionWrite | discard
    | salvoStore | spoolLoad | spoolBankEmpty | spriteCapture | spriteDelete | staticLayerWrite | cursorWrite | join
    | release | clearSuspect | partnerRelay | drill | keyWrite | logRelease | windowCapture | windowInsert
    | windowStop | requestService | requestSolo | requestDormant | stagePackage | healthConfirm | configSave
    | configErase | selectGoodSlot | faultForce | alarmClear | licenceTokenWrite | fieldLineConfigWrite
    | tallyRuleWrite | take | cascadeTake | abort | cascadeAbort | blitCopy | blitFill =>
    exact act_idle (request_standing hf ..)
  case reorigin | rearm | freezeSchedule | freezeCancel =>
    dsimp only [execReorigin, execRearm, execFreezeSchedule, execFreezeCancel]
    exact act_idle (request_standing hf ..)
  case write => exact act_idle (writeElement_standing hf ..)
  case shadowWrite | structuralWrite =>
    refine act_idle ?_
    simp [writeElement_standing hf]
  case coefficientWrite =>
    refine act_idle ?_
    simp [writeElement_standing hf, blockElements_standing hf]
  case blockWrite => exact act_idle (blockWrite_standing hf ..)
  case read | blockRead => exact act_idle (readRequest_standing hf ..)
  case pendingDone => exact act_idle (pendingDone_standing hf ..)
  case tunnelRequest => exact act_idle (tunnelRequest_standing hf ..)
  case tetherBindingWrite => exact act_idle (bindTether_standing hf ..)
  case spriteUpload =>
    refine act_idle ?_
    simp [request_standing hf, accepts_standing hf]
  case vfieldCheck =>
    refine act_idle ?_
    simp [running_of_standing hf]
  case freezePin =>
    refine act_idle ?_
    simp [freeze_standing hf]
  case interDieResend => exact act_idle rfl
  case claimInRise => exact act_standsIn (claimRises_clocksStand hf)
  case claimConflict => exact act_standsIn (claimClash_clocksStand hf)
  case claimInFall => exact act_standsIn (claimFalls_clocksStand hf _)
  case quench => exact act_standsIn (quenched_clocksStand hf)
  case quenchRelease => exact act_standsIn (unquenched_clocksStand hf)
  case exairPowerOn | mainPowerEnable | powerSequenceRetry | powerSequenceTimeout | porstAssert | porstNRisesInDormant =>
    refine act_standsIn ?_
    exact .ite rfl rfl
  case salvoFire => exact execSalvoFire_standsIn hs _ _
  case gainStepTimeout => exact execGainStepTimeout_standsIn hs _
  case stagedFrameComplete => exact execStagedFrameComplete_standsIn hs _ _
  case wake => exact execWake_standsIn hs _ _
  case dumusFrameReceived => exact execDumusFrameReceived_standsIn hs _ _ _ _ _ _ _
  case powerGoodLost => exact execPowerGoodLost_standsIn _ s
  case trstReset | bypass => exact act_standsIn rfl
  case extest | samplePreload | captureSeek => exact instruct_standsIn hs fun _ _ => rfl
  case idcode | lifecycle => exact instruct_standsIn hs fun u _ => emit_clocksStand u _
  case captureRead => exact instruct_standsIn hs fun u _ => (emit_clocksStand u _).trans rfl
  case openChallenge => exact instruct_standsIn hs fun _ => challenge_clocksStand
  case openResponse => exact instruct_standsIn hs fun _ hu => openResponse_clocksStand hu ..
  case relock => exact instruct_standsIn hs fun u _ => relock_clocksStand _ u
  case debugAccess => exact instruct_standsIn hs fun _ hu => debugAccess_clocksStand hu ..

/-- The loss of the rails ends DORMANT and no other mode (R526). -/
theorem powerDown_next {s t : State} (h : exec .powerDown s = .next t) :
    t.mode = (if s.mode = .dormant then .boot else s.mode) ∧ t.now = s.now ∧ t.dict = s.dict ∧
      t.planes = s.planes ∧ t.lanes = s.lanes ∧ t.cells = s.cells ∧ t.req = s.req := by
  have hp : execPowerDown s = .next t := h
  cases hp
  exact ⟨rfl, rfl, rfl, rfl, rfl, rfl, rfl⟩

/-- Settles O48: a command leaves what stands with the clocks as it was, and the loss of the rails that too but for DORMANT. -/
theorem standingMachineHolds : Obligations.StandingMachineHolds := by
  unfold Obligations.StandingMachineHolds
  intro c s t hs h hrel
  by_cases hdown : c = .powerDown
  · subst hdown
    simpa using powerDown_next h
  · rw [if_neg fun hc => hdown hc.1, exec_standsIn hs c hdown hrel t h]
    exact ⟨rfl, rfl, rfl, rfl, rfl, rfl, rfl⟩

end Sys2Proof.Machine
end

section
/-! SUPPORT. What a declaration of a fault source does to the source and to the mode, and the proofs of the statement on fault
sources (R15, R552-R554, R558, R572). -/

namespace Sys2Proof.Machine

/-! What leaves the mode and the fault sources alone. -/

/-- `t` is in the mode of `s`, and its fault sources and their consequences are those of `s`. -/
structure SameFaults (s t : State) : Prop where
  mode : t.mode = s.mode
  faults : t.faults = s.faults

theorem SameFaults.refl (s : State) : SameFaults s s := ⟨rfl, rfl⟩

theorem SameFaults.trans {s t u : State} (h : SameFaults s t) (h' : SameFaults t u) : SameFaults s u where
  mode := h'.mode.trans h.mode
  faults := h'.faults.trans h.faults

theorem SameFaults.ite {s t u : State} {c : Prop} [Decidable c] (h : SameFaults s t) (h' : SameFaults s u) :
    SameFaults s (if c then t else u) := by split <;> assumption

theorem SameFaults.foldl {α : Type} (f : State → α → State) (hf : ∀ s a, SameFaults s (f s a)) (l : List α) (s : State) :
    SameFaults s (l.foldl f s) := by
  induction l generalizing s with
  | nil => exact .refl s
  | cons a l ih => exact (hf s a).trans (ih _)

theorem SameFaults.source {s t : State} (h : SameFaults s t) (n : Nat) : t.source n = s.source n := by
  unfold State.source
  rw [h.faults]

/-- An answer to a request touches no fault source. -/
theorem Answers.sameFaults {s t : State} (h : Answers s t) : SameFaults s t where
  mode := by rw [h.rest]
  faults := by rw [h.rest]

theorem sameFaults_events (s : State) (x : List Event) : SameFaults s { s with events := x } := ⟨rfl, rfl⟩
theorem sameFaults_moves (s : State) (x : List Move) : SameFaults s { s with moves := x } := ⟨rfl, rfl⟩
theorem sameFaults_pair (s : State) (x : PairSt) : SameFaults s { s with pair := x } := ⟨rfl, rfl⟩
theorem sameFaults_boot (s : State) (x : BootSt) : SameFaults s { s with boot := x } := ⟨rfl, rfl⟩
theorem setBank_sameFaults (s : State) (b : Nat) (x : BankSt) : SameFaults s (s.setBank b x) := ⟨rfl, rfl⟩
theorem setWindow_sameFaults (s : State) (w : Nat) (x : WindowOp) : SameFaults s (s.setWindow w x) := ⟨rfl, rfl⟩

theorem emit_sameFaults (s : State) (e : Emission) : SameFaults s (s.emit e) := (emit_answers s e).sameFaults

theorem logEvent_sameFaults (s : State) (i j : Nat) (o n : Word) (p : Nat) (b : Bool) (st : Nat) :
    SameFaults s (logEvent s i j o n p b st) := by
  unfold logEvent
  exact .ite ⟨rfl, rfl⟩ (appendLog_answers _ _).sameFaults

theorem notify_sameFaults (s : State) (rq : Rq) (i j st : Nat) (d : List Byte) : SameFaults s (notify s rq i j st d) := by
  unfold notify
  split
  · exact .refl s
  · exact ((sendFrame_answers _ _ _).trans (answers_req _ _)).sameFaults

theorem finishWaiting_sameFaults (s : State) (i j st : Nat) (d : List Byte) : SameFaults s (finishWaiting s i j st d) := by
  unfold finishWaiting
  split
  · exact (answers_req _ _).sameFaults.trans (notify_sameFaults _ _ _ _ _ _)
  · exact .refl s

theorem streamChange_sameFaults (s : State) (rq : Rq) (op i j st : Nat) (b d : List Byte) :
    SameFaults s (streamChange s rq op i j st b d) := by
  unfold streamChange
  refine .ite ?_ (.refl s)
  exact (sameFaults_pair _ _).trans ((emit_sameFaults _ _).trans (emit_sameFaults _ _))

/-! The entry to FAULTED (R518). -/

theorem disarm_sameFaults (s : State) (scope : Nat) : SameFaults s (disarm s scope) := by
  refine .foldl _ (fun s b => ?_) _ _
  exact .ite (setBank_sameFaults _ _ _) (.refl s)

theorem discardEvent_sameFaults (s : State) (e : Event) (st : Nat) : SameFaults s (discardEvent s e st) := by
  unfold discardEvent
  extract_lets dropped disarmed pair drilled
  have drop : SameFaults s dropped := sameFaults_events _ _
  have disarms : SameFaults s disarmed := .ite (drop.trans (disarm_sameFaults _ _)) drop
  have drills : SameFaults s drilled := .ite (disarms.trans (sameFaults_pair _ _)) disarms
  split
  rename_i i j _
  extract_lets logged
  have logs : SameFaults s logged := drills.trans (logEvent_sameFaults _ _ _ _ _ _ _ _)
  split
  · exact .ite (logs.trans (notify_sameFaults _ _ _ _ _ _)) logs
  · exact logs

theorem discardEvents_sameFaults (s : State) (p : Event → Bool) (st : Nat) : SameFaults s (discardEvents s p st) :=
  .foldl _ (fun _ _ => discardEvent_sameFaults _ _ _) _ _

theorem dropNewSide_sameFaults (s : State) (j : Nat) : SameFaults s (dropNewSide s j) := ⟨rfl, rfl⟩

theorem cancelMove_sameFaults (s : State) (m : Move) : SameFaults s (cancelMove s m) := by
  have dropped := sameFaults_moves s (s.moves.filter fun x => !(x.index == m.index && x.sub == m.sub))
  unfold cancelMove
  exact (SameFaults.ite (dropped.trans (dropNewSide_sameFaults _ _)) dropped).trans (logEvent_sameFaults _ _ _ _ _ _ _ _)

theorem cancelMoves_sameFaults (s : State) : SameFaults s (cancelMoves s) := .foldl _ cancelMove_sameFaults _ _

theorem abandonTransfers_sameFaults (s : State) (st : Nat) : SameFaults s (abandonTransfers s st) := by
  unfold abandonTransfers
  exact (answers_req _ _).sameFaults.trans (.foldl _ (fun _ _ => notify_sameFaults _ _ _ _ _ _) _ _)

theorem failWindow_sameFaults (st : Nat) (s : State) (w : Nat) : SameFaults s (failWindow st s w) := by
  unfold failWindow
  exact .ite ((setWindow_sameFaults _ _ _).trans (finishWaiting_sameFaults _ _ _ _ _)) (.refl s)

theorem endStaging_sameFaults (s : State) (r : Nat) (st : Option Nat) : SameFaults s (endStaging s r st) := by
  unfold endStaging
  refine .ite ?_ (.refl s)
  cases st with
  | some st => exact (sameFaults_boot _ _).trans (finishWaiting_sameFaults _ _ _ _ _)
  | none => exact ⟨rfl, rfl⟩

theorem setMode_mode (s : State) (m : Mode) : (setMode s m).mode = m := by
  unfold setMode
  split
  · assumption
  · exact (logEvent_sameFaults _ _ _ _ _ _ _ _).mode

theorem setMode_faults (s : State) (m : Mode) : (setMode s m).faults = s.faults := by
  unfold setMode
  split
  · rfl
  · exact (logEvent_sameFaults _ _ _ _ _ _ _ _).faults

theorem dropClaim_sameFaults (s : State) : SameFaults s (dropClaim s) := sameFaults_pair _ _

theorem failSpools_sameFaults (s : State) : SameFaults s (failSpools s) := ⟨rfl, rfl⟩

/-- An entry to FAULTED sets the mode, and leaves each source as it is. -/
theorem enterFaulted_faulted (s : State) (n : Nat) (d : Word) :
    (enterFaulted s n d).mode = .faulted ∧ (enterFaulted s n d).faults.src = s.faults.src := by
  unfold enterFaulted
  extract_lets what faults stopped entered discarded cancelled abandoned failed
  split
  · exact ⟨‹_›, rfl⟩
  · have ends : SameFaults (setMode stopped .faulted) (failSpools (endStaging failed 7 (some stFaulted))) :=
      (dropClaim_sameFaults _).trans <| (discardEvents_sameFaults _ _ _).trans <| (cancelMoves_sameFaults _).trans <|
        (abandonTransfers_sameFaults _ _).trans <| (SameFaults.foldl _ (failWindow_sameFaults stFaulted) _ _).trans <|
          (endStaging_sameFaults _ _ _).trans (failSpools_sameFaults _)
    refine ⟨ends.mode.trans (setMode_mode _ _), ?_⟩
    rw [ends.faults, setMode_faults]

/-! A declaration (R552-R556). -/

/-- What a declaration of source `n` leaves of that source, and of the mode. -/
structure Declares (s t : State) (n : Nat) (lasting forced : Bool) : Prop where
  count : (t.source n).count = satAdd 24 (s.source n).count 1
  active : (t.source n).active = ((s.source n).active || lasting)
  forced : (t.source n).forced = forced
  alarm : (t.source n).alarm = ((s.source n).alarm || s.sourceClass n == 1)
  faulted : s.sourceClass n = 2 → t.mode = .faulted

/-- Where a source's declaration is logged and entered in the history, the two times of R556 move; the rest is the same. -/
theorem noteFault_source (s : State) (n : Nat) (d : Word) (l f : Bool) (p : Nat) :
    ∃ lastLog lastHist, (noteFault s n d l f p).source n =
      { alarm := (s.source n).alarm || s.sourceClass n == 1, active := (s.source n).active || l, forced := f
        count := satAdd 24 (s.source n).count 1, lastLog := lastLog, lastHist := lastHist } := by
  unfold noteFault
  extract_lets detail src cls old count logIt histIt src' entry noted logged faults latched pair told
  have logs : SameFaults noted logged := .ite (logEvent_sameFaults _ _ _ _ _ _ _ _) (.refl _)
  refine ⟨src'.lastLog, src'.lastHist, ?_⟩
  calc _ = told.source n := SameFaults.source (.ite (emit_sameFaults _ _) (.refl _)) n
    _ = logged.source n := rfl
    _ = noted.source n := logs.source n
    _ = src' := by simp [noted]

/-- A declaration counts at its source, and a FATAL one takes the device to FAULTED. -/
theorem declareFault_declares (s : State) (n : Nat) (d : Word) (l f : Bool) (p : Nat) :
    Declares s (declareFault s n d l f p) n l f := by
  obtain ⟨lastLog, lastHist, hsrc⟩ := noteFault_source s n d l f p
  unfold declareFault
  extract_lets noted
  split
  · obtain ⟨hmode, hfaults⟩ := enterFaulted_faulted noted n d
    have hn : (enterFaulted noted n d).source n = noted.source n := congrArg (mapGet srcD · n) hfaults
    rw [hsrc] at hn
    exact ⟨by rw [hn], by rw [hn], by rw [hn], by rw [hn], fun _ => hmode⟩
  · exact ⟨by rw [hsrc], by rw [hsrc], by rw [hsrc], by rw [hsrc], fun h => absurd h ‹_›⟩

/-- What a declaration in `u` leaves, seen from a state with the same source. -/
theorem Declares.of_source {s u t : State} {n : Nat} {l f : Bool} (h : Declares u t n l f) (hs : u.source n = s.source n)
    (hc : u.sourceClass n = s.sourceClass n) : Declares s t n l f where
  count := hs ▸ h.count
  active := hs ▸ h.active
  forced := h.forced
  alarm := hs ▸ hc ▸ h.alarm
  faulted := hc ▸ h.faulted

/-! Conditions (R15, R558). -/

@[simp] theorem clearActive_source (s : State) (n k : Nat) :
    (clearActive s n).source k = if k = n then { s.source n with active := false } else s.source k := by
  simp [clearActive]

theorem declareAbove_none (s : State) (n : Nat) (d : Rat) (detail : Word) :
    declareAbove s n none d detail = clearActive s n := rfl

/-- A condition that has held for its time, and is not declared yet. -/
theorem declareAbove_due {s : State} {n : Nat} {a d : Rat} {detail : Word} (h : a + d ≤ s.up)
    (hs : (s.source n).active = false) : declareAbove s n (some a) d detail = declareFault s n detail true := if_pos ⟨h, hs⟩

/-- A declaration touches no part of the field bank. -/
theorem declareFault_fieldBank (s : State) (n : Nat) (d : Word) (l f : Bool) (p : Nat) :
    (declareFault s n d l f p).fieldBank = s.fieldBank := by rw [(declareFault_reports s n d l f p).1]

/-- A reading above 105 °C and not above 125 °C, once the readings have been above 105 °C for 1 s. -/
theorem sensorRead_hot {s : State} {a : Rat} {t : Int} (h105 : 1050 < t) (h125 : t ≤ 1250) (ha : s.faults.hot = some a)
    (hup : a + 1000000000 ≤ s.up) (hs : (s.source 0x007).active = false) :
    Declares s (sensorRead s t) 0x007 true false ∧ (sensorRead s t).fieldBank.tj = t := by
  unfold sensorRead
  extract_lets faults bank read detail
  have hhot : read.faults.hot = some a := by simp [read, aboveSince, h105, ha]
  have hhotter : read.faults.hotter = none := if_neg (by simpa using h125)
  have hsource : (clearActive read 0x008).source 0x007 = s.source 0x007 := clearActive_source ..
  have hdue : declareAbove (clearActive read 0x008) 0x007 (some a) 1000000000 detail =
      declareFault (clearActive read 0x008) 0x007 detail true := declareAbove_due hup (hsource ▸ hs)
  rw [hhot, hhotter, declareAbove_none, hdue]
  exact ⟨(declareFault_declares ..).of_source hsource rfl, by rw [declareFault_fieldBank]; rfl⟩

/-- A reading not above 105 °C ends both conditions. -/
theorem sensorRead_cool {s : State} {t : Int} (h : t ≤ 1050) :
    ((sensorRead s t).source 0x007).active = false ∧ ((sensorRead s t).source 0x008).active = false ∧
      (sensorRead s t).fieldBank.tj = t ∧ (sensorRead s t).faults.hot = none := by
  unfold sensorRead
  extract_lets faults bank read detail
  have hhot : read.faults.hot = none := if_neg (by simpa using h)
  have hhotter : read.faults.hotter = none := if_neg (by rw [decide_eq_true_eq]; omega)
  rw [hhot, hhotter, declareAbove_none, declareAbove_none]
  exact ⟨by simp, by simp, rfl, hhot⟩

/-- THERM_ALERT_N low declares 0x006, once until it is high again. -/
theorem thermPin_low {s : State} (hs : (s.source 0x006).active = false) :
    Declares s (thermPin s true) 0x006 true false ∧ (thermPin s true).fieldBank.therm = true := by
  have hpin : thermPin s true =
      declareFault { s with fieldBank := { s.fieldBank with therm := true } } 0x006 0 true :=
    if_neg (hs ▸ Bool.false_ne_true)
  rw [hpin]
  exact ⟨(declareFault_declares ..).of_source rfl rfl, by rw [declareFault_fieldBank]⟩

/-- THERM_ALERT_N high ends the condition. -/
theorem thermPin_high (s : State) :
    ((thermPin s false).source 0x006).active = false ∧ (thermPin s false).fieldBank.therm = false :=
  ⟨by simp [thermPin], rfl⟩

/-! The commit of an accepted request, and what stands around it (R24, R476). -/

/-- The ports' counters are no source's class. -/
theorem countPort_sourceClass (s : State) (p : Port) {k : Nat} (hk : k < 16) (n : Nat) :
    (countPort s p k).sourceClass n = s.sourceClass n := by
  have counted : (s.count 0x1001 (0x100 + 0x10 * portNum p + k)).sourceClass n = s.sourceClass n := by
    have hp : portNum p ≤ 3 := by cases p <;> simp [portNum]
    have hkey : ekey 0xB000 n ≠ ekey 0x1001 (0x100 + 0x10 * portNum p + k) := by unfold ekey; omega
    simp [State.sourceClass, State.field, State.count, hkey]
  cases p with
  | card | dumusA | dumusB | tunnel => exact counted
  | relay | stream => rfl

theorem unbuffer_sourceClass (s : State) (rq : Rq) (op i j : Nat) (b : List Byte) (n : Nat) :
    (unbuffer s rq op i j b).sourceClass n = s.sourceClass n := by
  unfold unbuffer
  dsimp only
  split <;> rfl

theorem appendLog_sourceClass (s : State) (e : LogEntry) (n : Nat) : (appendLog s e).sourceClass n = s.sourceClass n := by
  obtain ⟨l, hl⟩ := appendLog_eq s e
  rw [hl]
  rfl

/-- An accepted request changes no fault source and no mode but by its commit: `u` is the state at the commit. -/
theorem request_commits_sameFaults {s : State} {rq : Rq} {op i j : Nat} {b : List Byte} {h : Handler}
    (ha : isAccepted s rq op i j b h) : ∃ u, SameFaults s u ∧ (∀ n, u.sourceClass n = s.sourceClass n) ∧
      SameFaults (h.commit u) (request s rq op i j b h) := by
  rw [request_accepted ha]
  unfold commitRequest
  extract_lets status logged committed data streamed req waiting
  refine ⟨logged, ((judged_answers ..).trans (appendLog_answers ..)).sameFaults, fun n => ?_, ?_⟩
  · calc logged.sourceClass n = (judged s rq op i j b).sourceClass n := appendLog_sourceClass ..
      _ = s.sourceClass n := (countPort_sourceClass _ _ (by decide) n).trans (unbuffer_sourceClass ..)
  · have streams : SameFaults committed streamed := streamChange_sameFaults ..
    have waits : SameFaults streamed waiting := .ite (answers_req _ _).sameFaults (.refl _)
    exact (streams.trans waits).trans ((recordReply_answers ..).trans (sendReply_answers ..)).sameFaults

/-- An accepted write of 1 to 0xB020:n (R554). -/
theorem faultForce_declares {s : State} {rq : Rq} {n : Nat} {b : List Byte} (hb : ofBytes b = 1)
    (ha : isAccepted s rq opWrite 0xB020 n b (forceHandler s rq n b)) :
    Declares s (request s rq opWrite 0xB020 n b (forceHandler s rq n b)) n false true := by
  obtain ⟨u, before, hclass, after⟩ := request_commits_sameFaults ha
  have hcommit : (forceHandler s rq n b).commit u = declareFault u n 0 false true := if_pos hb
  rw [hcommit] at after
  have h := (declareFault_declares u n 0 false true 0).of_source (before.source n) (hclass n)
  have hsource := after.source n
  exact ⟨hsource ▸ h.count, hsource ▸ h.active, hsource ▸ h.forced, hsource ▸ h.alarm,
    fun hc => after.mode.trans (h.faulted hc)⟩

theorem putFlag_sameFaults (s : State) (i j n : Nat) (b : Bool) : SameFaults s (s.putFlag i j n b) := ⟨rfl, rfl⟩

/-- What the cleared alarm bit lets go is no source's state (R127, R549). -/
theorem alarmCleared_source (s : State) (n k : Nat) : (alarmCleared n s).source k = s.source k := by
  unfold alarmCleared
  split
  · rfl
  · split
    · refine SameFaults.source (.foldl _ (fun s e => ?_) _ _) k
      exact .ite (putFlag_sameFaults _ _ _ _ _) (.refl s)
    · rfl

/-- An accepted write to 0xB010:n with its bit 31 set (R553). -/
theorem alarmClear_source {s : State} {rq : Rq} {n : Nat} {b : List Byte} (hb : bit (ofBytes b) 31 = true)
    (ha : isAccepted s rq opWrite 0xB010 n b (sourceStateHandler s n b)) :
    (request s rq opWrite 0xB010 n b (sourceStateHandler s n b)).source n =
      { s.source n with alarm := false, count := if bits (ofBytes b) 23 0 = 0 then 0 else (s.source n).count } := by
  obtain ⟨u, before, -, after⟩ := request_commits_sameFaults ha
  rw [after.source n, ← before.source n]
  simp [sourceStateHandler, hb, alarmCleared_source]

/-- An accepted write to 0xE010:slot (R572). -/
theorem licenceTokenWrite_token {s : State} {rq : Rq} {slot : Nat} {b : List Byte}
    (ha : isAccepted s rq opWrite 0xE010 slot b (licenceHandler slot b)) :
    mapGet natD (request s rq opWrite 0xE010 slot b (licenceHandler slot b)).keys.tokens slot = ofBytes b := by
  obtain ⟨u, -, after⟩ := request_commits ha
  rw [after.1]
  simp [licenceHandler]

/-- Settles O39: each condition and each accepted write to a source, from what a declaration leaves of its source. -/
theorem faultsDeclared : Obligations.FaultsDeclared := by
  unfold Obligations.FaultsDeclared
  refine ⟨fun s hrun hex => ?timeout, fun s => ⟨_, rfl, rfl⟩, fun s rq n v hfits hv ha => ?force,
    fun s rq n v hfits hv ha => ?clear, fun s a t0 hrun h105 h125 hhot hup hs => ?hot, fun s t0 hrun ht => ?cool,
    fun s hrun hs => ?alert, fun s hrun => ?alertOver, fun s hrun => ?osc, fun s rq slot payload ha => ?token⟩
  case timeout =>
    refine actRunning_does (f := fun s => if s.boot.exOn then declareFault s 0x001 0 else s) rfl hrun ?_
    have h := declareFault_declares s.fresh 0x001 0 false false 0
    rw [if_pos (show s.fresh.boot.exOn = true from hex)]
    exact ⟨h.count, h.faulted⟩
  case force =>
    have h := faultForce_declares ((valueBytes_value hfits).trans hv) ha
    refine act_does (f := fun u => request u rq opWrite 0xB020 n (valueBytes rq v)
      (forceHandler u rq n (valueBytes rq v))) rfl ?_
    exact ⟨h.forced, h.count, fun hc => h.alarm.trans (by simp [show s.fresh.sourceClass n = 1 from hc])⟩
  case clear =>
    have hval := valueBytes_value hfits
    have h := alarmClear_source (hval.symm ▸ hv) ha
    rw [hval] at h
    refine act_does (f := fun u => request u rq opWrite 0xB010 n (valueBytes rq v)
      (sourceStateHandler u n (valueBytes rq v))) rfl ?_
    exact ⟨congrArg FaultSrc.alarm h, congrArg FaultSrc.count h⟩
  case hot =>
    obtain ⟨h, htj⟩ := sensorRead_hot (s := s.fresh) h105 h125 hhot hup hs
    exact actRunning_does rfl hrun ⟨h.active.trans (Bool.or_true _), htj, h.count⟩
  case cool => exact actRunning_does rfl hrun (sensorRead_cool ht)
  case alert =>
    obtain ⟨h, htherm⟩ := thermPin_low (s := s.fresh) hs
    exact actRunning_does rfl hrun ⟨h.active.trans (Bool.or_true _), htherm, h.count⟩
  case alertOver => exact actRunning_does rfl hrun (thermPin_high s.fresh)
  case osc => exact actRunning_does rfl hrun (declareFault_declares s.fresh 0x002 0 false false 0).count
  case token =>
    refine act_does (f := fun u => request u rq opWrite 0xE010 slot payload (licenceHandler slot payload)) rfl ?_
    exact licenceTokenWrite_token ha

end Sys2Proof.Machine
end

section
/-! SUPPORT. What the selector leaves as it was, and the proofs of the statement on candidates and the selection (R66, R67, R69,
R85-R87). -/

namespace Sys2Proof.Machine

/-! What a rebuild of the stream descriptions leaves alone (R192). -/

/-- A fold whose every step keeps `g` keeps `g`. -/
theorem foldl_keeps {α β : Type} (g : State → β) {f : State → α → State} (hf : ∀ s a, g (f s a) = g s) (l : List α)
    (s : State) : g (l.foldl f s) = g s := by
  induction l generalizing s with
  | nil => rfl
  | cons a l ih => exact (ih _).trans (hf s a)

/-- The state but for its receive and send entries. -/
def State.withoutEntries (s : State) : State := { s with rx := [], tx := [] }

theorem rebuildDesc_withoutEntries (s : State) (p q : Word → Bool) :
    (rebuildDesc s p q).withoutEntries = s.withoutEntries := by
  unfold rebuildDesc
  extract_lets received
  refine .trans (b := received.withoutEntries) (foldl_keeps _ ?tx _ _) (foldl_keeps _ ?rx _ _)
  case tx => exact fun _ _ => rfl
  case rx => exact fun _ _ => rfl

/-- A rebuild touches the receive and send entries alone. -/
theorem rebuildDesc_eq (s : State) (p q : Word → Bool) : ∃ rx tx, rebuildDesc s p q = { s with rx := rx, tx := tx } := by
  generalize ht : rebuildDesc s p q = t
  have same : t.withoutEntries = s.withoutEntries := ht ▸ rebuildDesc_withoutEntries s p q
  refine ⟨t.rx, t.tx, ?_⟩
  calc t = { t.withoutEntries with rx := t.rx, tx := t.tx } := rfl
    _ = { s with rx := t.rx, tx := t.tx } := by rw [same]; rfl

/-- What `f` does, and perhaps a rebuild. -/
theorem noteClock_eq (f : State → State) (s : State) : ∃ rx tx, noteClock f s = { f s with rx := rx, tx := tx } := by
  unfold noteClock
  extract_lets t
  split
  · exact ⟨t.rx, t.tx, rfl⟩
  · exact rebuildDesc_eq _ _ _

@[simp] theorem noteClock_ref (f : State → State) (s : State) : (noteClock f s).ref = (f s).ref := by
  obtain ⟨rx, tx, h⟩ := noteClock_eq f s
  rw [h]

@[simp] theorem noteClock_events (f : State → State) (s : State) : (noteClock f s).events = (f s).events := by
  obtain ⟨rx, tx, h⟩ := noteClock_eq f s
  rw [h]

/-- Reports, frames and faults touch nothing of the timebase. -/
theorem reports.ref {s t : State} (h : reports s t) : t.ref = s.ref := by rw [h.1]

/-! What a selection decides from, and leaves alone. -/

/-- `t` has the candidates, the PTP instances, the forced candidate and the configuration of `s`. -/
structure SameInputs (s t : State) : Prop where
  cands : t.ref.cands = s.ref.cands
  ptp : t.ref.ptp = s.ref.ptp
  forced : t.ref.forced = s.ref.forced
  config : ∀ i j, 0x2100 ≤ i → i < 0x2120 → j < 0x10000 → t.elem i j = s.elem i j

theorem SameInputs.of_ref {s t : State} (hr : t.ref = s.ref)
    (hc : ∀ i j, 0x2100 ≤ i → i < 0x2120 → j < 0x10000 → t.elem i j = s.elem i j) : SameInputs s t :=
  ⟨by rw [hr], by rw [hr], by rw [hr], hc⟩

theorem SameInputs.refl (s : State) : SameInputs s s := .of_ref rfl fun _ _ _ _ _ => rfl

theorem SameInputs.trans {s t u : State} (h : SameInputs s t) (h' : SameInputs t u) : SameInputs s u where
  cands := h'.cands.trans h.cands
  ptp := h'.ptp.trans h.ptp
  forced := h'.forced.trans h.forced
  config i j hi hi' hj := (h'.config i j hi hi' hj).trans (h.config i j hi hi' hj)

theorem SameInputs.cand {s t : State} (h : SameInputs s t) (c : Nat) : t.cand c = s.cand c :=
  congrArg (mapGet candD · c) h.cands

theorem SameInputs.ptpOf {s t : State} (h : SameInputs s t) (i : Nat) : t.ptpOf i = s.ptpOf i :=
  congrArg (mapGet ptpD · i) h.ptp

theorem reports.sameInputs {s t : State} (h : reports s t) : SameInputs s t :=
  .of_ref h.ref fun _ _ _ _ hj => h.2 _ _ (by omega) hj (by omega)

/-- The timebase's own reports stand at 0x2120 (R88-R90). -/
theorem put_sameInputs (s : State) {j : Nat} (hj : j < 0x10000) (v : Word) : SameInputs s (s.put 0x2120 j v) := by
  refine .of_ref rfl fun i k _ hi hk => ?_
  have hkey : ekey i k ≠ ekey 0x2120 j := fun h => absurd ((ekey_inj hk hj).1 h).1 (by omega)
  simp [hkey]

theorem setTb_sameInputs (s : State) (t : Nat) (old : Word) : SameInputs s (setTb s t old) := by
  unfold setTb
  split
  · exact .refl s
  · extract_lets ref stated
    have states : SameInputs s stated := ⟨rfl, rfl, rfl, fun _ _ _ _ _ => rfl⟩
    exact states.trans (logEvent_reports ..).sameInputs

theorem noteClock_sameInputs {f : State → State} {s : State} (h : SameInputs s (f s)) : SameInputs s (noteClock f s) := by
  obtain ⟨rx, tx, hn⟩ := noteClock_eq f s
  rw [hn]
  exact ⟨h.cands, h.ptp, h.forced, h.config⟩

theorem startTransfer_sameInputs (s : State) (c : Nat) : SameInputs s (startTransfer s c) := by
  refine noteClock_sameInputs ?_
  extract_lets old counted ref started
  have counts : SameInputs s counted := put_sameInputs s (by split <;> decide) _
  have starts : SameInputs counted started := ⟨rfl, rfl, rfl, fun _ _ _ _ _ => rfl⟩
  exact ((counts.trans starts).trans (setTb_sameInputs ..)).trans (mirror_reports ..).sameInputs

/-! No report and no started transfer discards an event. -/

theorem Answers.events {s t : State} (h : Answers s t) : t.events = s.events := by rw [h.rest]

@[simp] theorem mirror_events (s : State) (k o : Nat) (v : Word) : (mirror s k o v).events = s.events := by
  unfold mirror
  split
  · exact ((emit_answers _ _).trans (emit_answers _ _)).events
  · rfl

@[simp] theorem logEvent_events (s : State) (i j : Nat) (o n : Word) (p : Nat) (b : Bool) (st : Nat) :
    (logEvent s i j o n p b st).events = s.events := by
  unfold logEvent
  split
  · rfl
  · exact (appendLog_answers _ _).events

@[simp] theorem setTb_events (s : State) (t : Nat) (old : Word) : (setTb s t old).events = s.events := by
  unfold setTb
  split
  · rfl
  · exact logEvent_events ..

theorem startTransfer_events (s : State) (c : Nat) : (startTransfer s c).events = s.events := by
  unfold startTransfer
  rw [noteClock_events, mirror_events, setTb_events]
  rfl

theorem enterHoldover_sameInputs (s : State) : SameInputs s (enterHoldover s) := by
  refine noteClock_sameInputs ?_
  split
  · extract_lets old ref held
    have holds : SameInputs s held := ⟨rfl, rfl, rfl, fun _ _ _ _ _ => rfl⟩
    exact ((holds.trans (setTb_sameInputs ..)).trans (put_sameInputs _ (by decide) _)).trans
      (declareFault_reports ..).sameInputs
  · extract_lets old ref freed stated
    have states : SameInputs s stated := .trans (t := freed) ⟨rfl, rfl, rfl, fun _ _ _ _ _ => rfl⟩ (setTb_sameInputs ..)
    split
    · exact states.trans (declareFault_reports ..).sameInputs
    · exact states

/-- MANUAL set to `f`, or cleared where it is `none` (R86). -/
def State.forcing (s : State) (f : Option Nat) : State := { s with ref := { s.ref with forced := f } }

/-- An evaluation may clear MANUAL; every other input of the selection stays (R71, R86). -/
theorem selectorEvaluate_sameInputs (s : State) :
    ∃ f, (f = s.ref.forced ∨ f = none) ∧ SameInputs (s.forcing f) (selectorEvaluate s) := by
  have evaluated (u : State) : SameInputs u (if u.selectTarget = u.ref.selected then u else
      match u.selectTarget with
      | some c => startTransfer u c
      | none => enterHoldover u) := by
    split
    · exact .refl u
    · split
      · exact startTransfer_sameInputs u _
      · exact enterHoldover_sameInputs u
  unfold selectorEvaluate
  extract_lets ref cleared target
  split
  · exact ⟨s.ref.forced, .inl rfl, .refl s⟩
  · have hcleared : ∃ f, (f = s.ref.forced ∨ f = none) ∧ cleared = s.forcing f := by
      unfold cleared
      split
      · split
        · exact ⟨s.ref.forced, .inl rfl, rfl⟩
        · exact ⟨none, .inr rfl, rfl⟩
      · exact ⟨s.ref.forced, .inl rfl, rfl⟩
    obtain ⟨f, hf, hc⟩ := hcleared
    exact ⟨f, hf, hc ▸ evaluated cleared⟩

@[simp] theorem selectorEvaluate_cand (s : State) (c : Nat) : (selectorEvaluate s).cand c = s.cand c := by
  obtain ⟨f, -, h⟩ := selectorEvaluate_sameInputs s
  exact h.cand c

@[simp] theorem selectorEvaluate_ptpOf (s : State) (i : Nat) : (selectorEvaluate s).ptpOf i = s.ptpOf i := by
  obtain ⟨f, -, h⟩ := selectorEvaluate_sameInputs s
  exact h.ptpOf i

theorem selectorEvaluate_config (s : State) {i j : Nat} (hi : 0x2100 ≤ i) (hi' : i < 0x2120) (hj : j < 0x10000) :
    (selectorEvaluate s).elem i j = s.elem i j := by
  obtain ⟨f, -, h⟩ := selectorEvaluate_sameInputs s
  exact h.config i j hi hi' hj

theorem selectorEvaluate_forced_none {s : State} (hs : s.ref.forced = none) : (selectorEvaluate s).ref.forced = none := by
  obtain ⟨f, hf, h⟩ := selectorEvaluate_sameInputs s
  rw [h.forced]
  exact hf.elim (·.trans hs) id

/-- While the forced candidate is qualified there is something to select (R71). -/
theorem selectTarget_of_forced {s : State} {f : Nat} (hf : s.ref.forced = some f) (hq : (s.cand f).qualified = true) :
    ∃ c, s.selectTarget = some c := by
  unfold State.selectTarget
  dsimp only
  split
  · exact ⟨_, rfl⟩
  · rw [hf, Option.filter_some_pos (p := fun f => (s.cand f).qualified) hq]
    exact ⟨f, rfl⟩

/-- A qualified forced candidate stays forced, and its selection discards no event. -/
theorem selectorEvaluate_of_forced {s : State} {f : Nat} (hf : s.ref.forced = some f) (hq : (s.cand f).qualified = true) :
    (selectorEvaluate s).ref.forced = some f ∧ (selectorEvaluate s).events = s.events := by
  obtain ⟨c, hc⟩ := selectTarget_of_forced hf hq
  unfold selectorEvaluate
  simp only [hf, hq, if_true, hc]
  split
  · exact ⟨hf, rfl⟩
  · split
    · exact ⟨hf, rfl⟩
    · exact ⟨(startTransfer_sameInputs s c).forced.trans hf, startTransfer_events s c⟩

/-! A command starts from the state itself but for the list of emissions. -/

@[simp] theorem State.fresh_cand (s : State) (c : Nat) : s.fresh.cand c = s.cand c := rfl
@[simp] theorem State.fresh_field (s : State) (i j hi lo : Nat) : s.fresh.field i j hi lo = s.field i j hi lo := rfl
@[simp] theorem State.fresh_up (s : State) : s.fresh.up = s.up := rfl
@[simp] theorem State.fresh_mayLose (s : State) (c reason : Nat) : s.fresh.mayLose c reason = s.mayLose c reason := rfl
@[simp] theorem State.fresh_dueEvent (s : State) (kinds : List Nat) : s.fresh.dueEvent kinds = s.dueEvent kinds := rfl

/-! Candidates come, qualify and go (R67). -/

theorem dropCandidate_sameInputs (s : State) (c reason : Nat) :
    SameInputs (s.setCand c { s.cand c with present := false, qualified := false, loss := reason })
      (dropCandidate s c reason) := by
  unfold dropCandidate
  extract_lets k old dropped logged
  have logs : SameInputs dropped logged := (logEvent_reports ..).sameInputs
  split
  · exact logs.trans (declareFault_reports ..).sameInputs
  · exact logs

theorem loseCandidate_cand (s : State) (c reason : Nat) :
    (loseCandidate s c reason).cand c = { s.cand c with present := false, qualified := false, loss := reason } := by
  unfold loseCandidate
  rw [selectorEvaluate_cand, (dropCandidate_sameInputs s c reason).cand]
  simp

theorem loseCandidate_ptpOf (s : State) (c reason i : Nat) : (loseCandidate s c reason).ptpOf i = s.ptpOf i := by
  unfold loseCandidate
  rw [selectorEvaluate_ptpOf, (dropCandidate_sameInputs s c reason).ptpOf]
  rfl

theorem loseCandidate_config (s : State) (c reason : Nat) {i j : Nat} (hi : 0x2100 ≤ i) (hi' : i < 0x2120)
    (hj : j < 0x10000) : (loseCandidate s c reason).elem i j = s.elem i j := by
  unfold loseCandidate
  rw [selectorEvaluate_config _ hi hi' hj, (dropCandidate_sameInputs s c reason).config i j hi hi' hj]
  rfl

theorem qualifyCandidate_cand (s : State) (c : Nat) :
    (qualifyCandidate s c).cand c = { s.cand c with qualified := true } := by
  unfold qualifyCandidate
  rw [selectorEvaluate_cand]
  simp

/-- A candidate whose presence conditions hold, and that was absent. -/
theorem presentCandidate_cand {s : State} {c detail : Nat} {freq : Int} {grid : Rat} (ha : (s.cand c).present = false)
    (hp : s.presence c detail freq = true) :
    ((presentCandidate s c detail freq grid).cand c).present = true ∧
      ((presentCandidate s c detail freq grid).cand c).since = s.up ∧
      ((presentCandidate s c detail freq grid).cand c).freq = freq ∧
      (((presentCandidate s c detail freq grid).cand c).qualified = true ↔ s.field 0x2100 c 27 18 = 0) := by
  unfold presentCandidate
  extract_lets k arrived
  have hguard : ¬ (k.present || !s.presence c detail freq) = true := by simp [k, ha, hp]
  have hwtr : arrived.field 0x2100 c 27 18 = s.field 0x2100 c 27 18 := rfl
  rw [if_neg hguard, hwtr]
  split
  · rw [qualifyCandidate_cand]
    simp [arrived, *]
  · simp [arrived, *]

/-! The configuration of selection (R66, R68, R69, R87). -/

theorem candidateConfig_commit_elem (s u : State) {c : Nat} (hc : c < 10) (b : List Byte) :
    ((candidateConfig s c b).commit u).elem 0x2100 c = ofBytes b := by
  unfold candidateConfig
  extract_lets v param paramBad h
  dsimp -zeta only
  extract_lets old stored moved reset judged
  have hstored : stored.elem 0x2100 c = v := by simp [stored, h, plainHandler, v]
  have hreset : reset.elem 0x2100 c = v := by
    unfold reset
    split
    · exact hstored
    · exact hstored
  have hjudged : judged.elem 0x2100 c = v := by
    unfold judged
    split
    · exact (loseCandidate_config reset c 7 (by decide) (by decide) (by omega)).trans hreset
    · exact (selectorEvaluate_config reset (by decide) (by decide) (by omega)).trans hreset
  split
  · exact hjudged
  · exact hjudged

/-- The first `n` entries of a table written one after another. -/
theorem commitTable_elem (s : State) (t : List Word) (n : Nat) {k : Nat} (hn : n ≤ 0x10000) (hk : k < 0x10000) :
    ((List.range n).foldl (fun s i => s.commit 0x2110 i (t.getD i 0)) s).elem 0x2110 k =
      if k < n then t.getD k 0 else s.elem 0x2110 k := by
  induction n with
  | zero => rfl
  | succ n ih =>
    have hkey : ekey 0x2110 k = ekey 0x2110 n ↔ k = n := by simp [ekey_inj hk (show n < 0x10000 by omega)]
    rw [List.range_succ, List.foldl_append]
    simp only [List.foldl_cons, List.foldl_nil, State.commit_elem, hkey, ih (by omega)]
    grind

theorem installTable_elem (s : State) (t : List Word) {k : Nat} (hk : k < 10) :
    (installTable s t).elem 0x2110 k = t.getD k 0 := by
  unfold installTable
  extract_lets stored reported
  have reports : SameInputs stored reported := by
    unfold reported
    split
    · split
      · exact (declareFault_reports ..).sameInputs
      · exact .refl stored
    · exact .refl stored
  calc (selectorEvaluate reported).elem 0x2110 k
      = reported.elem 0x2110 k := selectorEvaluate_config _ (by decide) (by decide) (by omega)
    _ = stored.elem 0x2110 k := reports.config _ _ (by decide) (by decide) (by omega)
    _ = t.getD k 0 := by rw [commitTable_elem s t 10 (by decide) (by omega), if_pos hk]

/-- One entry of the table replaced. -/
theorem table_set_getD (s : State) {i k : Nat} (v : Word) (hk : k < 10) :
    (s.table.set i v).getD k 0 = if k = i then v else s.elem 0x2110 k := by
  have hlen : s.table.length = 10 := by simp [State.table]
  have hentry : s.table[k]? = some (s.elem 0x2110 k) := by simp [State.table, hk]
  rw [List.getD_eq_getElem?_getD, List.getElem?_set, hlen, hentry]
  by_cases h : i = k
  · rw [if_pos h, if_pos (h ▸ hk), if_pos h.symm, Option.getD_some]
  · rw [if_neg h, if_neg (Ne.symm h), Option.getD_some]

/-- A write to entry `i` (R69). -/
theorem priorityHandler_commit_elem (s u : State) {i k : Nat} (hi : i < 10) (hk : k < 10) (b : List Byte) :
    ((priorityHandler s i b).commit u).elem 0x2110 k = if k = i then ofBytes b else s.elem 0x2110 k := by
  unfold priorityHandler
  rw [if_neg (by omega)]
  exact (installTable_elem u _ hk).trans (table_set_getD s (ofBytes b) hk)

/-! The event queue (R55, R85). -/

theorem queueEvent_events (s : State) (e : Event) : (queueEvent s e).events = s.events ++ [{ e with order := s.order }] := by
  unfold queueEvent
  extract_lets queued
  split <;> rfl

theorem streamChange_events (s : State) (rq : Rq) (op i j st : Nat) (b d : List Byte) :
    (streamChange s rq op i j st b d).events = s.events := by
  unfold streamChange
  split
  · exact ((emit_answers _ _).trans (emit_answers _ _)).events
  · rfl

/-- An accepted request changes no event but by its commit: `u` is the state at the commit. -/
theorem request_commits_events {s : State} {rq : Rq} {op i j : Nat} {b : List Byte} {h : Handler}
    (ha : isAccepted s rq op i j b h) : ∃ u : State, u.events = s.events ∧
      (request s rq op i j b h).events = (h.commit u).events := by
  rw [request_accepted ha]
  unfold commitRequest
  extract_lets status logged committed data streamed req waiting
  refine ⟨logged, ((judged_answers ..).trans (appendLog_answers ..)).events, ?_⟩
  calc (sendReply (recordReply waiting rq status data) rq i j status data).events
      = waiting.events := ((recordReply_answers ..).trans (sendReply_answers ..)).events
    _ = streamed.events := (Answers.ite (answers_req _ _) (.refl _)).events
    _ = committed.events := streamChange_events ..

/-- What a scheduled selection puts in the queue (R85). -/
theorem refselHandler_commit_events (s u : State) (rq : Rq) (b : List Byte) :
    ∃ e : Event, ((refselHandler s rq b).commit u).events = u.events ++ [e] ∧ e.kind = 3 ∧ e.arg = bits (ofBytes b) 7 0 ∧
      e.plane = bits (ofBytes b) 15 8 ∧ (bits (ofBytes b) 79 16 ≠ 0 → e.tp = bits (ofBytes b) 79 16) :=
  ⟨_, queueEvent_events u _, rfl, rfl, rfl, fun htp => if_neg htp⟩

/-- A due selection of a qualified candidate (R85). -/
theorem fireRefsel_qualified {s : State} {e : Event} (hq : (s.cand e.arg).qualified = true) :
    (fireRefsel s e).ref.forced = some e.arg ∧ (fireRefsel s e).events = s.events.filter fun x => x.order != e.order := by
  have hfire : fireRefsel s e = selectorEvaluate
      (State.forcing { s with events := s.events.filter fun x => x.order != e.order } (some e.arg)) := if_pos hq
  rw [hfire]
  exact selectorEvaluate_of_forced rfl hq

/-- Settles O2: each command by what it makes of its candidate, its element or the queue, which no evaluation undoes. -/
theorem selectionRuns : Obligations.SelectionRuns := by
  unfold Obligations.SelectionRuns
  refine ⟨fun s c detail freq grid hc hrun habsent hp => ?present, fun s c reason hc hrun hpresent hlose => ?loss,
    fun s c hc hrun hpresent hq hwait => ?qualify, fun s rq c v hc hfits ha => ?config,
    fun s rq i v hi hfits ha => ?table, fun s rq v hfits ha => ?schedule, fun s e hrun hdue hq => ?fire,
    fun s rq v hfits hv ha => ?manual⟩
  case present => exact onUnit_does rfl hc hrun (presentCandidate_cand (s := s.fresh) habsent hp)
  case loss =>
    refine onUnit_does rfl hc hrun ?_
    have hguard : ((s.fresh.cand c).present && s.fresh.mayLose c reason) = true := by simp [hpresent, hlose]
    have hlost := loseCandidate_cand s.fresh c reason
    rw [if_pos hguard]
    exact ⟨congrArg Cand.present hlost, congrArg Cand.qualified hlost, congrArg Cand.loss hlost⟩
  case qualify =>
    refine onUnit_does rfl hc hrun ?_
    have hguard : ((s.fresh.cand c).present && !(s.fresh.cand c).qualified &&
        decide ((s.fresh.cand c).since + (s.fresh.field 0x2100 c 27 18 : Nat) * 1000000000 ≤ s.fresh.up)) = true := by
      simp [hpresent, hq, hwait]
    have hqualified := qualifyCandidate_cand s.fresh c
    dsimp only
    rw [if_pos hguard]
    exact ⟨congrArg Cand.qualified hqualified, (congrArg Cand.present hqualified).trans hpresent⟩
  case config =>
    obtain ⟨u, -, after⟩ := request_commits ha
    refine act_does (f := fun u => request u rq opWrite 0x2100 c (valueBytes rq v)
      (candidateConfig u c (valueBytes rq v))) rfl ?_
    calc _ = ((candidateConfig s.fresh c (valueBytes rq v)).commit u).elem 0x2100 c := after.elem (by decide) (by omega)
      _ = v := (candidateConfig_commit_elem s.fresh u hc _).trans (valueBytes_value hfits)
  case table =>
    obtain ⟨u, -, after⟩ := request_commits ha
    have helem (k : Nat) (hk : k < 10) : (request s.fresh rq opWrite 0x2110 i (valueBytes rq v)
        (priorityHandler s.fresh i (valueBytes rq v))).elem 0x2110 k = if k = i then v else s.elem 0x2110 k := by
      rw [after.elem (by decide) (by omega), priorityHandler_commit_elem s.fresh u hi hk, valueBytes_value hfits]
      rfl
    exact act_does (f := fun u => request u rq opWrite 0x2110 i (valueBytes rq v)
      (priorityHandler u i (valueBytes rq v))) rfl
      ⟨(helem i hi).trans (if_pos rfl), fun k hk hne => (helem k hk).trans (if_neg hne)⟩
  case schedule =>
    obtain ⟨u, before, after⟩ := request_commits_events ha
    obtain ⟨e, he, hkind, harg, hplane, htp⟩ := refselHandler_commit_events s.fresh u rq (valueBytes rq v)
    rw [valueBytes_value hfits] at harg hplane htp
    rw [he, before] at after
    exact act_does (f := fun u => request u rq opWrite 0x2110 0x20 (valueBytes rq v)
      (refselHandler u rq (valueBytes rq v))) rfl ⟨e, after, hkind, harg, hplane, htp⟩
  case fire =>
    refine actRunning_does rfl hrun ?_
    rw [State.fresh_dueEvent, hdue]
    exact fireRefsel_qualified (s := s.fresh) hq
  case manual =>
    obtain ⟨u, -, after⟩ := request_commits ha
    have hcommit : (manualHandler (valueBytes rq v)).commit u = selectorEvaluate (u.forcing none) :=
      if_pos ((valueBytes_value hfits).trans hv)
    rw [hcommit] at after
    exact act_does (f := fun u => request u rq opWrite 0x2140 2 (valueBytes rq v)
      (manualHandler (valueBytes rq v))) rfl ((congrArg RefSt.forced after.ref).trans (selectorEvaluate_forced_none rfl))

end Sys2Proof.Machine
end

section
/-! SUPPORT. Proofs of the statement on the loop, its lock, its pulses and the recorded seconds (R72-R74, R78, R92). -/

namespace Sys2Proof.Machine

/-! The pulses (R92): no quench and no short keeps them back. -/

theorem emit_pulse (s : State) (pin ns : Nat) :
    s.emit (.pulse pin ns) = { s with emitted := s.emitted ++ [.pulse pin ns] } := if_neg Bool.false_ne_true

/-! A measurement (R72, R74). -/

/-- A measurement while the loop tracks: the candidate takes it, the loop filter moves, the error is judged. -/
theorem measure_tracking {s : State} {c : Nat} (error freq : Int) (grid : Rat) (hsel : s.ref.selected = some c)
    (hphase : s.ref.phase = .tracking) (hstop : s.allStopped = false) :
    measure s error freq grid =
      judgeError (loopFilter (s.setCand c { s.cand c with freq := freq, grid := grid }) c error freq) error := by
  unfold measure
  rw [hsel]
  dsimp -zeta only
  rw [if_neg (by simp [hstop])]
  extract_lets k measured
  rw [show measured.ref.phase = .tracking from hphase]

/-- The loop's output: for a candidate that carries no timeline, the integrator and the proportional part. -/
theorem loopFilter_slewTo (s : State) {c : Nat} (error freq : Int) (hc : c < 8) :
    (loopFilter s c error freq).ref.slewTo =
      some ((loopFilter s c error freq).ref.integ + 2000 * s.loopNatural c * (error : Rat)) := congrArg some (if_pos hc)

/-! A core cycle (R73, R89). -/

/-- The greater of two, whichever order gives `max` its instance. -/
theorem ratMax_eq (a b : Rat) : max a b = if a ≤ b then b else a := Rat.max_def

/-- The smaller of two, whichever order gives `min` its instance. -/
theorem ratMin_eq (a b : Rat) : min a b = if a ≤ b then a else b := Rat.min_def

theorem ratMax_of_le {a b : Rat} (h : a ≤ b) : max a b = b := (ratMax_eq a b).trans (if_pos h)

theorem ratMin_of_ge {a b : Rat} (h : b ≤ a) : min a b = b := by
  rw [ratMin_eq]
  split
  · exact Rat.le_antisymm ‹_› h
  · rfl

/-- A frequency kept between two bounds lies between them. -/
theorem rat_clamp_bounds {lo hi : Rat} (h : lo ≤ hi) (x : Rat) : lo ≤ max lo (min hi x) ∧ max lo (min hi x) ≤ hi := by
  have hmin : min hi x ≤ hi := by
    rw [ratMin_eq]
    split
    · exact Rat.le_refl
    · exact Rat.le_of_lt (Rat.not_le.1 ‹_›)
  rw [ratMax_eq]
  split
  · exact ⟨‹_›, hmin⟩
  · exact ⟨Rat.le_refl, h⟩

theorem limitFreq_bounds (s : State) (dt f : Rat) : -100000000 ≤ limitFreq s dt f ∧ limitFreq s dt f ≤ 100000000 :=
  rat_clamp_bounds (by decide) _

/-- A goal that lies within the slew limit and within 100 ppm is reached. -/
theorem limitFreq_of_within {s : State} {dt f : Rat} (hlo : -100000000 ≤ f) (hhi : f ≤ 100000000)
    (hdown : s.freqNow - s.slewLimit * dt / 1000000000 ≤ f) (hup : f ≤ s.freqNow + s.slewLimit * dt / 1000000000) :
    limitFreq s dt f = f := by
  unfold limitFreq
  dsimp only
  rw [ratMin_of_ge hup, ratMax_of_le hdown, ratMin_of_ge hhi, ratMax_of_le hlo]

/-- Device time and the output frequency offset. -/
def State.clock (s : State) : Rat × Rat := (s.now, s.freqNow)

theorem checkPatterns_clock (s : State) (dt : Rat) : (checkPatterns s dt).clock = s.clock := by
  refine foldl_keeps State.clock (fun s e => ?_) _ s
  split
  · extract_lets x n counted
    split <;> rfl
  · rfl

/-- A cycle advances device time, and moves the output frequency towards its goal. -/
theorem cyclePasses_clock {s : State} {f : Rat} (hgoal : s.ref.slewTo = some f) (hstop : s.allStopped = false) :
    (cyclePasses s).clock = (s.now + s.cycleNs, limitFreq s s.cycleNs f) := by
  have hslew : slewFor { s with now := s.now + s.cycleNs } s.cycleNs =
      { s with now := s.now + s.cycleNs, freqNow := limitFreq s s.cycleNs f } := by
    unfold slewFor
    rw [show ({ s with now := s.now + s.cycleNs } : State).ref.slewTo = some f from hgoal]
    exact if_neg (ne_true_of_eq_false hstop)
  unfold cyclePasses
  extract_lets dt
  rw [checkPatterns_clock, hslew]
  rfl

/-- With no command waiting, a step of a running device is a core cycle. -/
theorem step_cycle {s : State} (hp : s.pending = []) (hr : s.running = true) :
    step s = .next { cyclePasses s.fresh with pending := s.pending } := by
  have hcycle : whenRunning s.fresh cyclePasses = cyclePasses s.fresh := if_pos hr
  unfold step
  rw [hp]
  show act s (fun u => whenRunning u cyclePasses) = _
  rw [← hcycle, ← hp]
  rfl

/-! Capture, lock (R72, R76). -/

/-- A decided step is its plane's, and what it discards is no part of the timebase (R45). -/
theorem decideStep_ref (s : State) (p c : Nat) (stepNs : Rat) : (decideStep s p c stepNs).ref = s.ref := by
  refine (noteClock_ref _ s).trans ?_
  split
  · rfl
  · exact (discardEvents_reports ..).ref

theorem decideSteps_ref (s : State) (c : Nat) (stepNs : Nat → Rat) (ps : List Nat) :
    (ps.foldl (fun s p => decideStep s p c (stepNs p)) s).ref = s.ref := by
  induction ps generalizing s with
  | nil => rfl
  | cons p ps ih => rw [List.foldl_cons, ih, decideStep_ref]

/-- A capture tracks from then on, whatever steps it decides. -/
theorem captureRef_tracks (s : State) (c : Nat) :
    (captureRef s c).ref.phase = .tracking ∧ (captureRef s c).ref.everLocked = true := by
  unfold captureRef
  simp only [decideSteps_ref, noteClock_ref, and_self]

/-- A change of STATE, and no other part of the timebase but that the second is not recorded (R78, R93). -/
theorem setTb_ref (s : State) (t : Nat) (old : Word) :
    (setTb s t old).ref = if s.ref.tb = t then s.ref else { s.ref with tb := t, clean := false } := by
  unfold setTb
  split
  · rfl
  · exact (logEvent_reports ..).ref

@[simp] theorem clearActive_ref (s : State) (n : Nat) : (clearActive s n).ref = s.ref := rfl

theorem locked_ref (s : State) : (locked s).ref.tb = 2 ∧ (locked s).ref.transfer = false := by
  unfold locked
  dsimp only
  rw [clearActive_ref, clearActive_ref, setTb_ref]
  split
  · exact ⟨‹_›, rfl⟩
  · exact ⟨rfl, rfl⟩

/-! The recorded seconds (R78). -/

/-- A whole second has passed: a clean one that follows the last is recorded. -/
theorem recordSecond_ref {s : State} (hk : s.ref.second < s.now.floor / 1000000000) :
    (recordSecond s).ref.second = s.now.floor / 1000000000 ∧ (recordSecond s).ref.acc = 0 ∧
      (s.ref.clean = true → s.now.floor / 1000000000 = s.ref.second + 1 →
        (s.ref.second, s.ref.acc / 1000000000) ∈ (recordSecond s).ref.seconds) := by
  unfold recordSecond
  extract_lets k r all secs next
  have hkept : r.clean = true → k = r.second + 1 → (r.second, r.acc / 1000000000) ∈ secs := by
    intro hclean hnext
    have hall : all = r.seconds ++ [(r.second, r.acc / 1000000000)] := if_pos (by simp [hclean, hnext])
    have hrecent : k - 3901 < r.second := by omega
    simp [secs, hall, hrecent]
  rw [if_neg (Int.not_le.2 hk)]
  split
  · exact ⟨rfl, rfl, hkept⟩
  · exact ⟨rfl, rfl, hkept⟩

/-- Settles O3: each command by what it leaves of the timebase, a core cycle by the two clocks it moves. -/
theorem loopRuns : Obligations.LoopRuns := by
  unfold Obligations.LoopRuns
  refine ⟨fun s hrun hdue => ?pps, fun s hrun hdue => ?frame, fun s c error freq grid hrun hsel hphase hstop => ?measure,
    fun s f hpend hrun hstop hgoal => ?cycle, fun s c hrun hsel hphase hstop hlo hhi => ?capture,
    fun s a hrun hwithin htb hphase hup hstop => ?lock, fun s a c hrun habove hsel htb hup hstop => ?loss,
    fun s hrun hk => ?second⟩
  case pps =>
    refine actRunning_does rfl hrun ?_
    dsimp only
    rw [if_pos (show s.fresh.ref.lastPulse < s.fresh.now.floor / 1000000000 from hdue), emit_pulse]
    exact ⟨rfl, rfl⟩
  case frame =>
    refine actRunning_does rfl hrun ?_
    dsimp only
    rw [if_pos (show s.fresh.ref.lastFrame <
      gridAtOrBefore (s.fresh.plane 0).origin (periodNs (s.fresh.planeRate 0)) s.fresh.now from hdue), emit_pulse]
    rfl
  case measure =>
    refine actRunning_does rfl hrun ?_
    rw [measure_tracking (s := s.fresh) error freq grid hsel hphase hstop]
    have hcand := State.setCand_cand s.fresh c { s.cand c with freq := freq, grid := grid } c
    rw [if_pos rfl] at hcand
    exact ⟨rfl, congrArg Cand.freq hcand, congrArg Cand.grid hcand, rfl, rfl, rfl,
      fun hc => loopFilter_slewTo _ error freq hc⟩
  case cycle =>
    have hclock := cyclePasses_clock (s := s.fresh) hgoal hstop
    refine ⟨_, step_cycle hpend hrun, congrArg Prod.fst hclock, ?_⟩
    rw [show (cyclePasses s.fresh).freqNow = limitFreq s s.cycleNs f from congrArg Prod.snd hclock]
    obtain ⟨hlo, hhi⟩ := limitFreq_bounds s s.cycleNs f
    exact ⟨hlo, hhi, limitFreq_of_within⟩
  case capture =>
    refine actRunning_does rfl hrun ?_
    have hends : s.fresh.slewEnds c = true := Bool.and_eq_true_iff.2 ⟨decide_eq_true hlo, decide_eq_true hhi⟩
    rw [show s.fresh.ref.selected = some c from hsel]
    dsimp only
    rw [if_pos ⟨show s.fresh.ref.phase = .slew from hphase, hends, hstop⟩]
    exact captureRef_tracks s.fresh c
  case lock =>
    refine actRunning_does rfl hrun ?_
    rw [show s.fresh.ref.within = some a from hwithin]
    dsimp only
    rw [if_pos ⟨show s.fresh.ref.tb = 1 from htb, hphase, hup, hstop⟩]
    exact locked_ref s.fresh
  case loss =>
    refine actRunning_does rfl hrun ?_
    rw [show s.fresh.ref.above = some a from habove, show s.fresh.ref.selected = some c from hsel]
    dsimp only
    rw [if_pos ⟨show s.fresh.ref.tb = 2 from htb, hup, hstop⟩]
    have hlost := loseCandidate_cand { s.fresh with ref := { s.fresh.ref with above := none } } c 4
    exact ⟨congrArg Cand.present hlost, congrArg Cand.loss hlost⟩
  case second => exact actRunning_does rfl hrun (recordSecond_ref (s := s.fresh) hk)

end Sys2Proof.Machine
end

section
/-! SUPPORT. Proofs of the statement on PTP: the choice of a master, the delay, Delay_Req and the receipt timeout (R67, R82,
R83). -/

namespace Sys2Proof.Machine

/-! The choice of a master (R82). -/

/-- The better of the best master so far and the next one. -/
def betterMaster (b : Option Foreign) (f : Foreign) : Option Foreign :=
  match b with
  | none => some f
  | some g => if announceData f.ann < announceData g.ann then some f else some g

/-- What a comparison ends with was compared. -/
theorem mem_of_betterMaster {fs : List Foreign} {b : Option Foreign} {f : Foreign} (h : fs.foldl betterMaster b = some f) :
    b = some f ∨ f ∈ fs := by
  induction fs generalizing b with
  | nil => exact .inl h
  | cons g fs ih =>
    rcases ih h with hg | hf
    · cases b with
      | none => exact .inr (List.mem_cons.2 (.inl (Option.some.inj hg).symm))
      | some b =>
        dsimp only [betterMaster] at hg
        split at hg
        · exact .inr (List.mem_cons.2 (.inl (Option.some.inj hg).symm))
        · exact .inl hg
    · exact .inr (List.mem_cons_of_mem _ hf)

theorem bestMaster_mem {s : State} {i : Nat} {fs : List Foreign} {f : Foreign} (h : s.bestMaster i fs = some f) : f ∈ fs := by
  have compared := mem_of_betterMaster (b := none) h
  rcases compared with h | h
  · cases h
  · exact (List.mem_filter.1 h).1

/-- A master just heard was heard now: its earlier Announce is forgotten. -/
theorem hearMaster_at {s : State} {p : Ptp} {f : Foreign} (h : f ∈ hearMaster s p f.ann) : f.at_ = s.up := by
  unfold hearMaster at h
  rcases List.mem_append.1 h with h | h
  · simp at h
  · exact congrArg Foreign.at_ (List.mem_singleton.1 h)

/-- What an instance knows of the master it follows. -/
structure Follows (p : Ptp) (f : Foreign) : Prop where
  slave : p.slave = true
  parent : p.parent = f.ann.sender
  gm : p.gm = f.ann.gm
  utc : p.utc = f.ann.utc
  lastAnnounce : p.lastAnnounce = f.at_

@[simp] theorem State.setCand_ptpOf (s : State) (c : Nat) (x : Cand) (i : Nat) : (s.setCand c x).ptpOf i = s.ptpOf i := rfl

theorem noteClock_ptpOf (f : State → State) (s : State) (i : Nat) : (noteClock f s).ptpOf i = (f s).ptpOf i :=
  congrArg (fun r : RefSt => mapGet ptpD r.ptp i) (noteClock_ref f s)

/-- A loss that a PTP instance declares leaves the instances as they are. -/
theorem loseIf_ptpOf (s : State) (q : Prop) [Decidable q] (c reason i : Nat) :
    (if q then loseCandidate s c reason else s).ptpOf i = s.ptpOf i := by
  split
  · exact loseCandidate_ptpOf ..
  · rfl

theorem followMaster_follows (s : State) (i : Nat) (fs : List Foreign) (f : Foreign) :
    Follows ((followMaster s i fs f).ptpOf i) f := by
  unfold followMaster
  dsimp only
  rw [loseIf_ptpOf, State.setCand_ptpOf, noteClock_ptpOf, State.setPtp_ptpOf, if_pos rfl]
  exact ⟨rfl, rfl, rfl, rfl, rfl⟩

/-- An Announce of the best master selects it. -/
theorem ptpAnnounce_best {s : State} {i : Nat} {f : Foreign} (hscale : f.ann.ptpScale = true) (hsteps : f.ann.steps < 255)
    (hbest : s.bestMaster i (hearMaster s (s.ptpOf i) f.ann) = some f) :
    ptpAnnounce s i f.ann = followMaster s i (hearMaster s (s.ptpOf i) f.ann) f := by
  unfold ptpAnnounce
  dsimp only
  rw [if_neg (by simp [hscale, hsteps]), hbest]
  exact if_pos (.inl rfl)

/-! Messages (R82). -/

/-- An Announce of the instance's domain, on a lane that leads an Ethernet port. -/
theorem ptpMessage_announce {s : State} {i : Nat} (a : PtpAnnounce) (hlane : s.ethLeader (s.field 0x2100 (6 + i) 7 0) = true) :
    ptpMessage s i (s.field 0x2150 i 31 24) (.announce a) = ptpAnnounce s i a :=
  if_neg (by simp [hlane])

/-- The parent's Delay_Resp to the last Delay_Req completes the delay. -/
theorem ptpMessage_delayResp {s : State} {i : Nat} {t3 d : Rat} (t4 : Rat) (logInt : Int)
    (hlane : s.ethLeader (s.field 0x2100 (6 + i) 7 0) = true) (hslave : (s.ptpOf i).slave = true)
    (ht3 : (s.ptpOf i).reqT3 = some t3) (hd : (s.ptpOf i).t21 = some d) :
    ptpMessage s i (s.field 0x2150 i 31 24) (.delayResp (s.ptpOf i).parent (s.ptpOf i).reqSeq t4 logInt) =
      s.setPtp i (ptpOffsetFrom s i { s.ptpOf i with
        delay := some ((d + (t4 - t3)) / 2), reqT3 := none, reqInterval := logSeconds logInt }) := by
  unfold ptpMessage
  dsimp only
  rw [if_neg (by simp [hlane]), ht3, hd]
  exact if_pos (by simp [hslave])

theorem ptpOffsetFrom_delay (s : State) (i : Nat) (p : Ptp) : (ptpOffsetFrom s i p).delay = p.delay := by
  unfold ptpOffsetFrom
  split <;> rfl

theorem ptpOffsetFrom_reqT3 (s : State) (i : Nat) (p : Ptp) : (ptpOffsetFrom s i p).reqT3 = p.reqT3 := by
  unfold ptpOffsetFrom
  split <;> rfl

/-! Delay_Req (R82, R83). -/

theorem ipHeader_length (tos ident ttl proto src dst len : Nat) :
    (ipHeader tos ident ttl proto src dst len).length = 20 := by
  simp [ipHeader, toBytes_length]

/-- The source address stands at byte 12 of an IPv4 packet. -/
theorem ipPacket_source (tos ident ttl proto src dst len : Nat) (data : List Byte) :
    ((ipHeader tos ident ttl proto src dst len ++ data).drop 12).take 4 = toBytes 4 src := by
  simp [ipHeader, toBytes_length, List.drop_append, List.drop_eq_nil_of_le]

/-- The payload begins at byte 20 of an IPv4 packet without options. -/
theorem ipPacket_payload (tos ident ttl proto src dst len n : Nat) (data : List Byte) :
    (ipHeader tos ident ttl proto src dst len ++ data).drop (20 + n) = data.drop n := by
  rw [← ipHeader_length tos ident ttl proto src dst len, List.drop_length_add_append]

/-- The destination port stands at byte 2 of a UDP datagram. -/
theorem udpDatagram_port (src dst sport dport : Nat) (data : List Byte) :
    ((udpDatagram src dst sport dport data).drop 2).take 2 = toBytes 2 dport := by
  simp [udpDatagram, toBytes_length]

/-- A frame that no muted lane keeps back. -/
theorem emit_ethernet {s : State} {lane : Nat} (h : (s.groupLanes lane).any s.laneMute = false) (dst src vlan etherType : Nat)
    (b : List Byte) : (s.emit (.ethernet lane dst src vlan etherType b)).emitted =
      s.emitted ++ [.ethernet lane dst src vlan etherType b] := by
  have hgate : ¬ s.silences (.ethernet lane dst src vlan etherType b) = true := ne_true_of_eq_false h
  unfold State.emit
  rw [if_neg hgate]

theorem emit_ptpOf (s : State) (e : Emission) (i : Nat) : (s.emit e).ptpOf i = s.ptpOf i :=
  congrArg (fun r : RefSt => mapGet ptpD r.ptp i) (State.emit_ref s e)

/-- A Delay_Req that the master's interval allows (R82, R83). -/
theorem sendDelayReq_sends {s : State} {i : Nat} (hslave : (s.ptpOf i).slave = true)
    (hlink : s.linkUp (s.field 0x2100 (6 + i) 7 0) = true)
    (htime : (s.ptpOf i).reqT3 = none ∨ ∃ t3, (s.ptpOf i).reqT3 = some t3 ∧ t3 + (s.ptpOf i).reqInterval ≤ s.now) :
    (sendDelayReq s i).ptpOf i =
      { s.ptpOf i with reqSeq := ((s.ptpOf i).reqSeq + 1) % 65536, reqT3 := some s.now } ∧
    ∃ mac vlan bytes, ((s.groupLanes (s.field 0x2100 (6 + i) 7 0)).any s.laneMute = false → (sendDelayReq s i).emitted =
        s.emitted ++ [.ethernet (s.field 0x2100 (6 + i) 7 0) mac (portMac (s.field 0x2100 (6 + i) 7 0)) vlan 0x0800 bytes]) ∧
      (bit (s.elem 0x2150 i) 23 = false → mac = groupMac 0xE0000181) ∧
      (bytes.drop 12).take 4 = toBytes 4 (s.hostIp (s.field 0x2100 (6 + i) 7 0)) ∧
      (bytes.drop 22).take 2 = toBytes 2 319 := by
  unfold sendDelayReq
  extract_lets p lane tooSoon seq c one vlan ip mac x data sent
  have hsoon : tooSoon = false := by
    unfold tooSoon
    rcases htime with h | ⟨t3, h, hle⟩
    · rw [show p.reqT3 = none from h]
    · rw [show p.reqT3 = some t3 from h]
      exact decide_eq_false (Rat.not_lt.2 hle)
  have hguard : ¬ (!p.slave || !s.linkUp lane || tooSoon) = true := by
    simp [p, lane, hslave, hlink, hsoon]
  rw [if_neg hguard]
  refine ⟨?_, mac, vlan, _, fun hmute => emit_ethernet (s := sent) hmute _ _ _ _ _,
    fun h => if_neg (ne_true_of_eq_false h), ipPacket_source .., ?_⟩
  · exact (emit_ptpOf ..).trans ((State.setPtp_ptpOf ..).trans (if_pos rfl))
  · rw [ipPacket_payload _ _ _ _ _ _ _ 2]
    exact udpDatagram_port ..

/-! The receipt timeout (R67, R83). -/

/-- No Announce for the receipt timeout: the instance follows no master, and its candidate is lost. -/
theorem ptpTimeout_ends {s : State} {i : Nat} (hslave : (s.ptpOf i).slave = true)
    (hout : (s.ptpOf i).lastAnnounce + s.annTimeout i (s.ptpOf i).annInterval ≤ s.up) :
    ((ptpTimeout s i).ptpOf i).slave = false ∧ ((ptpTimeout s i).ptpOf i).delay = none ∧
      ((ptpTimeout s i).cand (6 + i)).present = false := by
  unfold ptpTimeout
  extract_lets p ann syn ended
  have hann : ann = true := decide_eq_true hout
  have hended : ended.ptpOf i = { p with
      slave := !ann, delay := none, offset := none, t21 := none
      foreign := if ann then p.foreign.filter fun f => f.ann.sender != p.parent else p.foreign } := by simp [ended]
  rw [if_pos (by simp [p, hslave, hann]), loseIf_ptpOf, hended]
  refine ⟨by simp [hann], rfl, ?_⟩
  split
  · rw [loseCandidate_cand]
  · exact eq_false_of_ne_true ‹_›

/-- Settles O4: each command by what it leaves of its instance, and the frame of a Delay_Req by its headers. -/
theorem ptpRuns : Obligations.PtpRuns := by
  unfold Obligations.PtpRuns
  refine ⟨fun s i a f hi hrun hlane hscale hsteps hbest hf => ?announce,
    fun s i t3 d t4 logInt hi hrun hlane hslave ht3 hd => ?resp,
    fun s i hi hrun hslave hlink htime => ?req, fun s i hi hrun hslave hout => ?timeout⟩
  case announce =>
    subst hf
    refine onUnit_does rfl hi hrun ?_
    have hat := hearMaster_at (bestMaster_mem hbest)
    have hnext := (ptpMessage_announce (s := s.fresh) f.ann hlane).trans (ptpAnnounce_best hscale hsteps hbest)
    have hfollows := followMaster_follows s.fresh i (hearMaster s.fresh (s.fresh.ptpOf i) f.ann) f
    rw [← hnext] at hfollows
    exact ⟨hfollows.slave, hfollows.parent, hfollows.gm, hfollows.utc, hfollows.lastAnnounce.trans hat⟩
  case resp =>
    refine onUnit_does rfl hi hrun ?_
    have hnext := congrArg (State.ptpOf · i) (ptpMessage_delayResp (s := s.fresh) t4 logInt hlane hslave ht3 hd)
    dsimp only at hnext
    rw [State.setPtp_ptpOf, if_pos rfl] at hnext
    exact ⟨(congrArg Ptp.delay hnext).trans (ptpOffsetFrom_delay ..),
      (congrArg Ptp.reqT3 hnext).trans (ptpOffsetFrom_reqT3 ..)⟩
  case req =>
    refine onUnit_does rfl hi hrun ?_
    obtain ⟨hptp, mac, vlan, bytes, hsent, hmac, hsource, hport⟩ := sendDelayReq_sends (s := s.fresh) hslave hlink htime
    exact ⟨congrArg Ptp.reqSeq hptp, congrArg Ptp.reqT3 hptp,
      fun hmute => ⟨mac, vlan, bytes, hsent hmute, hmac, hsource, hport⟩⟩
  case timeout => exact onUnit_does rfl hi hrun (ptpTimeout_ends (s := s.fresh) hslave hout)

end Sys2Proof.Machine
end

section
/-! SUPPORT. Bits and elements after a write, and what taking in a line leaves alone: of all elements, intake touches those alone
in which it reports (R137-R148, R200-R205, R223-R225, R275-R280). -/

namespace Sys2Proof.Machine

/-! Bits, flags and elements. -/

theorem bit_eq_testBit (v n : Nat) : bit v n = v.testBit n := by
  rw [bit, Nat.testBit_eq_decide_div_mod_eq]
  rfl

/-- A field of one bit. -/
theorem bits_self (v n : Nat) : bits v n n = (bit v n).toNat := by
  rw [bits, bit, Nat.add_sub_cancel_left, Nat.pow_one]
  rcases Nat.mod_two_eq_zero_or_one (v / 2 ^ n) with h | h <;> simp [h]

/-- A field replaced: its bits are those of the new value, the others stay (R4). -/
theorem bit_setBits (v : Word) {lo hi : Nat} (h : lo ≤ hi) (x n : Nat) :
    bit (setBits v hi lo x) n = if lo ≤ n ∧ n ≤ hi then bit x (n - lo) else bit v n := by
  have hlow : v % 2 ^ lo < 2 ^ lo := Nat.mod_lt _ (Nat.two_pow_pos lo)
  have hfield : x % 2 ^ (hi + 1 - lo) * 2 ^ lo + v % 2 ^ lo < 2 ^ (hi + 1) := by
    have hx : x % 2 ^ (hi + 1 - lo) < 2 ^ (hi + 1 - lo) := Nat.mod_lt _ (Nat.two_pow_pos _)
    calc x % 2 ^ (hi + 1 - lo) * 2 ^ lo + v % 2 ^ lo
        < (x % 2 ^ (hi + 1 - lo) + 1) * 2 ^ lo := by rw [Nat.add_mul]; omega
      _ ≤ 2 ^ (hi + 1 - lo) * 2 ^ lo := Nat.mul_le_mul_right _ hx
      _ = 2 ^ (hi + 1) := by rw [← Nat.pow_add]; congr 1; omega
  have hword : setBits v hi lo x =
      2 ^ (hi + 1) * (v / 2 ^ (hi + 1)) + (2 ^ lo * (x % 2 ^ (hi + 1 - lo)) + v % 2 ^ lo) := by
    unfold setBits
    rw [Nat.mul_comm (2 ^ (hi + 1)), Nat.mul_comm (2 ^ lo), Nat.add_assoc]
  rw [Nat.mul_comm] at hfield
  simp only [bit_eq_testBit, hword, Nat.testBit_two_pow_mul_add _ hfield, Nat.testBit_two_pow_mul_add _ hlow,
    Nat.testBit_mod_two_pow, Nat.testBit_div_two_pow]
  grind

theorem bit_setBit (v : Word) (n : Nat) (b : Bool) (m : Nat) : bit (setBit v n b) m = if m = n then b else bit v m := by
  rw [setBit, bit_setBits v (Nat.le_refl n)]
  by_cases h : m = n
  · subst h; cases b <;> simp [ofBool, bit]
  · rw [if_neg (by omega), if_neg h]

theorem State.putFlag_flag (s : State) (i k n : Nat) (b : Bool) (m : Nat) :
    (s.putFlag i k n b).flag i k m = if m = n then b else s.flag i k m := by
  simp [State.putFlag, State.flag, bit_setBit]

theorem State.put_elem_ne {i k i' k' : Nat} (hk : k < 0x10000) (hk' : k' < 0x10000) (h : i ≠ i' ∨ k ≠ k') (s : State)
    (v : Word) : (s.put i' k' v).elem i k = s.elem i k := by
  rw [State.put_elem, if_neg (by rw [ekey_inj hk hk']; omega)]

theorem State.putFlag_elem_ne {i k i' k' : Nat} (hk : k < 0x10000) (hk' : k' < 0x10000) (h : i ≠ i' ∨ k ≠ k') (s : State)
    (n : Nat) (b : Bool) : (s.putFlag i' k' n b).elem i k = s.elem i k := State.put_elem_ne hk hk' h s _

theorem State.putField_elem_ne {i k i' k' : Nat} (hk : k < 0x10000) (hk' : k' < 0x10000) (h : i ≠ i' ∨ k ≠ k') (s : State)
    (hi lo v : Nat) : (s.putField i' k' hi lo v).elem i k = s.elem i k := State.put_elem_ne hk hk' h s _

theorem State.count_elem_ne {i k i' k' : Nat} (hk : k < 0x10000) (hk' : k' < 0x10000) (h : i ≠ i' ∨ k ≠ k') (s : State) :
    (s.count i' k').elem i k = s.elem i k := State.put_elem_ne hk hk' h s _

-- For every element: with numerals in its place, `rfl` would compute the element's reset value.
theorem State.putFlag_lanes (s : State) (i k n : Nat) (b : Bool) : (s.putFlag i k n b).lanes = s.lanes := rfl
theorem State.putFlag_synths (s : State) (i k n : Nat) (b : Bool) : (s.putFlag i k n b).synths = s.synths := rfl

theorem elem_of_dict {s t : State} (h : t.dict = s.dict) (i k : Nat) : t.elem i k = s.elem i k := by
  simp [State.elem, h]

theorem flag_congr {s t : State} {i k : Nat} (h : t.elem i k = s.elem i k) (n : Nat) : t.flag i k n = s.flag i k n := by
  rw [State.flag, State.flag, h]

theorem flag_of_dict {s t : State} (h : t.dict = s.dict) (i k n : Nat) : t.flag i k n = s.flag i k n :=
  flag_congr (elem_of_dict h i k) n

/-! The loss of an input, and what settles with it (R223, R224, R553). -/

theorem isInput_lt {j : Nat} (h : isInput j = true) : j < 2048 ∨ 0x8000 ≤ j ∧ j < 0x8800 := by
  simpa [isInput] using h

theorem mirror_dict (s : State) (k o : Nat) (v : Word) : (mirror s k o v).dict = s.dict := by
  unfold mirror
  split
  · unfold State.emitTwice; rw [State.emit_dict, State.emit_dict]
  · rfl

/-- An input is dropped in its state word at 0x4300:4000 alone. -/
theorem dropInput_elem (s : State) {j : Nat} (hj : isInput j = true) {i k : Nat} (hk : k < 0x10000)
    (h : i ≠ 0x4300 ∨ k ≠ 0x4000 + j) : (dropInput s j).elem i k = s.elem i k := by
  have hj' : 0x4000 + j < 0x10000 := by rcases isInput_lt hj with h | h <;> omega
  unfold dropInput
  extract_lets x dropped
  have hdrop : dropped.elem i k = s.elem i k := elem_of_dict rfl i k
  rw [State.putFlag_elem_ne hk hj' h, setInState, State.putField_elem_ne hk hj' h, hdrop]

theorem loseInput_elem (s : State) {j : Nat} (hj : isInput j = true) {i k : Nat} (hk : k < 0x10000)
    (h : i ≠ 0x4300 ∨ k ≠ 0x4000 + j) : (loseInput s j).elem i k = s.elem i k := by
  unfold loseInput
  split
  · rw [elem_of_dict (mirror_dict ..), dropInput_elem s hj hk h]
  · rfl

theorem settleNote_dict (s : State) (e : Nat × Nat) : (settleNote s e).dict = s.dict := by
  unfold settleNote
  split
  · rfl
  · rfl

theorem foldl_settleNote_dict (s : State) (es : List (Nat × Nat)) : (es.foldl settleNote s).dict = s.dict :=
  foldl_keeps State.dict settleNote_dict es s

/-! What taking in a line leaves alone. -/

/-- The elements in which intake reports: the Dumus counters, the high-water mark of cells, the counts of the frame
synchroniser, and 0x4300 but for its counts of CRC errors at 0x4300:1000 (R143). New sides of moves stand above 0x7FFF. -/
def intakeReport (i k : Nat) : Prop :=
  k < 0x10000 ∧ (i = 0x1001 ∨ i = 0x5300 ∨ i = 0x5500 ∨ i = 0x5510 ∨ (i = 0x4300 ∧ (k < 0x1000 ∨ 0x1800 ≤ k)) ∨ 0x8000 ≤ k)

/-- `t` reads as `s` at every element in which intake does not report. -/
structure TakesIn (s t : State) : Prop where
  elem : ∀ i k, k < 0x10000 → ¬ intakeReport i k → t.elem i k = s.elem i k

theorem TakesIn.refl (s : State) : TakesIn s s := ⟨fun _ _ _ _ => rfl⟩

theorem TakesIn.trans {s t u : State} (h : TakesIn s t) (h' : TakesIn t u) : TakesIn s u :=
  ⟨fun i k hk hr => (h'.elem i k hk hr).trans (h.elem i k hk hr)⟩

theorem TakesIn.of_dict {s t : State} (h : t.dict = s.dict) : TakesIn s t := ⟨fun i k _ _ => elem_of_dict h i k⟩

theorem TakesIn.ite {s t u : State} {c : Prop} [Decidable c] (h : TakesIn s t) (h' : TakesIn s u) :
    TakesIn s (if c then t else u) := by split <;> assumption

theorem TakesIn.foldl {α : Type} {f : State → α → State} (hf : ∀ s a, TakesIn s (f s a)) (l : List α) (s : State) :
    TakesIn s (l.foldl f s) := by
  induction l generalizing s with
  | nil => exact .refl s
  | cons a l ih => exact (hf s a).trans (ih _)

theorem reports.takesIn {s t : State} (h : reports s t) : TakesIn s t where
  elem i k hk hr := by
    unfold intakeReport at hr
    exact h.elem (by omega) (by omega)

theorem put_takesIn (s : State) {i k : Nat} (h : intakeReport i k) (v : Word) : TakesIn s (s.put i k v) where
  elem i' k' hk' hr := by
    refine State.put_elem_ne hk' h.1 (Decidable.not_and_iff_not_or_not.1 ?_) s v
    rintro ⟨rfl, rfl⟩
    exact hr h

theorem putFlag_takesIn (s : State) {i k : Nat} (h : intakeReport i k) (n : Nat) (b : Bool) :
    TakesIn s (s.putFlag i k n b) := put_takesIn s h _

theorem putField_takesIn (s : State) {i k : Nat} (h : intakeReport i k) (hi lo v : Nat) :
    TakesIn s (s.putField i k hi lo v) := put_takesIn s h _

theorem countBy_takesIn (s : State) {i k : Nat} (h : intakeReport i k) (n : Nat) : TakesIn s (s.countBy i k n) :=
  put_takesIn s h _

theorem count_takesIn (s : State) {i k : Nat} (h : intakeReport i k) : TakesIn s (s.count i k) := put_takesIn s h _

theorem setIn_takesIn (s : State) (j : Nat) (x : InFlow) : TakesIn s (s.setIn j x) := .of_dict (s.setIn_dict j x)

theorem setCells_takesIn (s : State) (n : Nat) (x : Cells) : TakesIn s (s.setCells n x) := .of_dict (s.setCells_dict n x)

theorem mirror_takesIn (s : State) (k o : Nat) (v : Word) : TakesIn s (mirror s k o v) := .of_dict (mirror_dict s k o v)

theorem declareFault_takesIn (s : State) (n : Nat) (d : Word) (l f : Bool) (p : Nat) :
    TakesIn s (declareFault s n d l f p) := (declareFault_reports s n d l f p).takesIn

theorem settleNote_takesIn (s : State) (e : Nat × Nat) : TakesIn s (settleNote s e) := .of_dict (settleNote_dict s e)

/-- The status word of an input. -/
theorem intakeReport_status {j : Nat} (hj : isInput j = true) : intakeReport 0x4300 j := by
  have hj' := isInput_lt hj
  unfold intakeReport
  omega

/-- Every other report of an input at 0x4300, the counts of CRC errors apart. -/
theorem intakeReport_flow {j o : Nat} (hj : isInput j = true) (ho : o ≠ 0x1000 ∧ o % 0x800 = 0 ∧ o < 0x7000) :
    intakeReport 0x4300 (o + j) := by
  have hj' := isInput_lt hj
  unfold intakeReport
  omega

/-- The counts of the frame synchroniser of an input. -/
theorem intakeReport_sync {j o : Nat} (hj : isInput j = true) (ho : o < 0x7000) : intakeReport 0x5510 (o + j) := by
  have hj' := isInput_lt hj
  unfold intakeReport
  omega

/-! Digests, tether cells, captures and audio samples change no element. -/

theorem addDigest_dict (s : State) (unit link number pos epoch : Nat) (b : List Byte) :
    (addDigest s unit link number pos epoch b).dict = s.dict := by
  unfold addDigest
  split
  · rfl
  · extract_lets d p out kept
    split
    · exact State.emit_dict ..
    · rfl

theorem digestLine_dict (s : State) (j : Nat) (x : CellLine) : (digestLine s j x).dict = s.dict := by
  unfold digestLine
  split
  · rfl
  · exact addDigest_dict ..

theorem digestRun_dict (s : State) (j : Nat) (frame : Int) (field : Nat) (pkts : List AncPkt) :
    (digestRun s j frame field pkts).dict = s.dict := by
  unfold digestRun
  split
  · rfl
  · exact addDigest_dict ..

theorem sendOwn_dict (s : State) (c : OwnCells) : (sendOwn s c).dict = s.dict := by
  unfold sendOwn
  extract_lets x
  split
  · rfl
  · exact State.emit_dict ..

theorem sendLineOf_dict (s : State) (n : Nat) (frame : Int) (line : Nat) (subst : Bool) (meta_ : Nat) (picture : List Nat) :
    (sendLineOf s n frame line subst meta_ picture).dict = s.dict := by
  unfold sendLineOf
  extract_lets f picture
  refine foldl_keeps State.dict (fun t x => foldl_keeps State.dict (fun t o => ?_) _ _) _ _
  split
  · extract_lets told vc
    refine (sendOwn_dict ..).trans ?_
    unfold told
    split
    · exact State.emit_dict ..
    · rfl
  · rfl

theorem sendAncOf_dict (s : State) (n : Nat) (frame : Int) (field : Nat) (pkts : List AncPkt) :
    (sendAncOf s n frame field pkts).dict = s.dict := by
  unfold sendAncOf
  split
  · rfl
  · refine foldl_keeps State.dict (fun t x => foldl_keeps State.dict (fun t o => ?_) _ _) _ _
    split
    · exact sendOwn_dict ..
    · rfl

theorem putWin_dict (s : State) (w off : Nat) (b : List Byte) : (putWin s w off b).dict = s.dict := rfl

theorem storeLine_dict (s : State) (w n i : Nat) (frame : Int) (words : List Nat) (subst : Bool) :
    (storeLine s w n i frame words subst).dict = s.dict := putWin_dict ..

theorem fillLines_dict (s : State) (w n i : Nat) : (fillLines s w n i).dict = s.dict := by
  unfold fillLines
  extract_lets op f
  split
  · extract_lets filled
    have hfilled : filled.dict = s.dict := foldl_keeps State.dict (fun _ _ => storeLine_dict ..) _ s
    split
    · exact hfilled
    · exact hfilled
  · rfl

theorem nextFrame_dict (s : State) (w n : Nat) (frame : Int) : (nextFrame s w n frame).dict = s.dict := rfl

theorem captureInto_dict (n : Nat) (frame : Int) (i : Nat) (words : List Nat) (subst : Bool) (s : State) (w : Nat) :
    (captureInto n frame i words subst s w).dict = s.dict := by
  unfold captureInto
  extract_lets active begun op stored
  have hbegun : begun.dict = s.dict := by
    unfold begun
    split
    · rfl
    · exact (nextFrame_dict ..).trans (fillLines_dict ..)
  split
  · rfl
  · split
    · exact hbegun
    · exact (State.setWindow_dict ..).trans <| (storeLine_dict ..).trans <| (fillLines_dict ..).trans hbegun

theorem captureLine_dict (s : State) (n : Nat) (frame : Int) (line : Nat) (words : List Nat) (subst : Bool) :
    (captureLine s n frame line words subst).dict = s.dict := by
  unfold captureLine
  split
  · rfl
  · split
    · exact foldl_keeps State.dict (captureInto_dict _ _ _ _ _) _ s
    · rfl

theorem giveSample_dict (s : State) (viaC : Bool) (ain : Nat) (k : Int) (v : Nat) :
    (giveSample s viaC ain k v).dict = s.dict := by
  unfold giveSample
  split
  · rfl
  · rfl

theorem takeGroupSample_dict (s : State) (j : Nat) (viaC : Bool) (e : Word) (group : Nat) (t : Rat) (chs : List Nat) :
    (takeGroupSample s j viaC e group t chs).dict = s.dict := by
  unfold takeGroupSample
  extract_lets step q x noted
  have hnoted : noted.dict = s.dict := State.setIn_dict ..
  exact (foldl_keeps State.dict (fun _ _ => giveSample_dict ..) _ noted).trans hnoted

theorem releaseCells_dict (s : State) (n : Nat) : (releaseCells s n).dict = s.dict := State.setCells_dict ..

/-! Cell memory (R200-R205). -/

theorem noteCells_takesIn (s : State) : TakesIn s (noteCells s) := by
  unfold noteCells
  extract_lets held
  exact .ite (put_takesIn s (by simp [intakeReport]) held) (.refl s)

theorem noteOverflow_takesIn (s : State) (n : Nat) : TakesIn s (noteOverflow s n) := by
  unfold noteOverflow
  split
  · exact .refl s
  · rename_i h
    have hn : isInput n = true := by simpa using h
    extract_lets flagged x due noted
    have hflagged : TakesIn s flagged := (count_takesIn s (intakeReport_flow hn (by decide))).trans
      (putFlag_takesIn _ (intakeReport_flow hn (by decide)) _ _)
    have hnoted : TakesIn s noted := hflagged.trans (setIn_takesIn ..)
    exact .ite (hnoted.trans (declareFault_takesIn ..)) hnoted

theorem noteCell_takesIn (s : State) (n : Nat) : TakesIn s (noteCell s n) := declareFault_takesIn ..

theorem feedLine_takesIn (s : State) (n : Nat) (x : CellLine) : TakesIn s (feedLine s n x) := by
  unfold feedLine
  extract_lets reads captured
  have hcaptured : TakesIn s captured := .of_dict (captureLine_dict ..)
  exact .ite (.ite (noteCell_takesIn s n) (.refl s)) (.ite (hcaptured.trans (.of_dict rfl)) hcaptured)

theorem writeCells_takesIn (s : State) (n : Nat) (x : CellLine) : TakesIn s (writeCells s n x) := by
  unfold writeCells
  extract_lets released sealed f fed c sent
  have hreleased : TakesIn s released := .of_dict (releaseCells_dict s n)
  split
  · exact hreleased
  · refine .ite (hreleased.trans (noteOverflow_takesIn ..)) ?_
    have hfed : TakesIn s fed := hreleased.trans (feedLine_takesIn ..)
    have hsent : TakesIn fed sent :=
      .ite (.of_dict (sendLineOf_dict ..)) (.ite (noteCell_takesIn ..) (.refl fed))
    exact ((hfed.trans hsent).trans (setCells_takesIn ..)).trans (noteCells_takesIn _)

theorem writeAnc_takesIn (s : State) (n : Nat) (frame : Int) (field : Nat) (pkts : List AncPkt) :
    TakesIn s (writeAnc s n frame field pkts) := by
  unfold writeAnc
  extract_lets room old fit counted sent c
  have hcounted : TakesIn s counted := by
    unfold counted
    split
    · exact countBy_takesIn s (intakeReport_flow ‹_› (by decide)) _
    · exact .refl s
  have hsent : TakesIn s sent := hcounted.trans (.of_dict (sendAncOf_dict ..))
  exact (hsent.trans (setCells_takesIn ..)).trans (noteCells_takesIn _)

/-! The frame synchroniser (R275-R280). -/

theorem tagFailed_takesIn (s : State) (kind offset : Nat) : TakesIn s (tagFailed s kind offset) := by
  unfold tagFailed
  extract_lets block stored
  have hstored : TakesIn s stored := (count_takesIn s (by simp [intakeReport])).trans
    (put_takesIn _ (by simp [intakeReport]) _)
  exact (hstored.trans (.of_dict stored.draw_dict)).trans (declareFault_takesIn ..)

theorem replaceLine_takesIn (s : State) {j : Nat} (hj : isInput j = true) (k line : Nat) :
    TakesIn s (replaceLine s j k line).1 := count_takesIn s (intakeReport_sync hj (by decide))

theorem passAnc_takesIn (s : State) (j : Nat) : TakesIn s (passAnc s j) := by
  unfold passAnc
  extract_lets x
  split
  · extract_lets new read
    refine .ite (.refl s) ((setIn_takesIn ..).trans (.foldl (fun t field => ?_) _ _))
    exact .ite (.refl t) (writeAnc_takesIn ..)
  · exact .refl s

section
variable {j : Nat} (hj : isInput j = true)
include hj

theorem readSlotLine_takesIn (s : State) (m : Int) (k line : Nat) : TakesIn s (readSlotLine s j m k line) := by
  unfold readSlotLine
  extract_lets x own prev cand
  split
  rename_i read got hread
  have htaken : TakesIn s read := by
    have hfst := congrArg Prod.fst hread
    dsimp only at hfst
    rw [← hfst]
    cases cand with
    | some l =>
      dsimp only
      split
      · exact (tagFailed_takesIn ..).trans (replaceLine_takesIn _ hj ..)
      · exact .refl s
    | none => exact replaceLine_takesIn s hj ..
  split
  · exact htaken.trans (writeCells_takesIn ..)
  · exact htaken.trans (writeCells_takesIn ..)

theorem runReader_takesIn (fuel : Nat) (s : State) : TakesIn s (runReader fuel s j) := by
  induction fuel generalizing s with
  | zero => exact .refl s
  | succ fuel ih =>
    unfold runReader
    extract_lets x
    split
    · exact .ite (((readSlotLine_takesIn hj ..).trans (setIn_takesIn ..)).trans (ih _)) (.refl s)
    · exact .refl s

theorem caughtUp_takesIn (s : State) : TakesIn s (s.caughtUp j) := by
  unfold State.caughtUp
  exact .ite ((runReader_takesIn hj ..).trans (passAnc_takesIn _ j)) (.refl s)

theorem loseFrame_takesIn (s : State) (count : Nat) : TakesIn s (loseFrame s j count) := by
  unfold loseFrame
  extract_lets x
  exact (count_takesIn s (intakeReport_sync hj (by decide))).trans (setIn_takesIn ..)

theorem writeWindow_takesIn (s : State) (count line : Nat) (picture : List Nat) (subst : Bool) :
    TakesIn s (writeWindow s j count line picture subst) := by
  unfold writeWindow
  extract_lets read x put
  have hread : TakesIn s read := caughtUp_takesIn hj s
  split
  · exact hread
  · extract_lets needed digested
    have hdigested : TakesIn s digested := hread.trans (.of_dict (digestLine_dict ..))
    refine .ite (.ite ?_ hread) (hdigested.trans (setIn_takesIn ..))
    exact hread.trans ((loseFrame_takesIn hj ..).trans (mirror_takesIn ..))

/-! A line and what it carries (R142-R148). -/

theorem takeLine_takesIn (s : State) (m : Int) (count line : Nat) (picture : List Nat) (subst : Bool) :
    TakesIn s (takeLine s j m count line picture subst) := by
  unfold takeLine
  refine .ite (.refl s) (.ite (writeWindow_takesIn hj ..) (.ite ?_ (.refl s)))
  extract_lets x
  exact (TakesIn.of_dict (digestLine_dict ..)).trans (writeCells_takesIn ..)

theorem takeNow_takesIn (s : State) (line : Nat) (picture : List Nat) : TakesIn s (takeNow s j line picture) := by
  unfold takeNow
  split
  · exact takeLine_takesIn hj ..
  · exact .refl s

theorem takeAnc_takesIn (s : State) (field : Nat) (pkts : List (AncPkt × Bool)) : TakesIn s (takeAnc s j field pkts) := by
  unfold takeAnc
  extract_lets pkts good x taken kept x
  have hcounted (n : Nat) (y : InFlow) : TakesIn s ((s.countBy 0x4300 (0x3000 + j) n).setIn j y) :=
    (countBy_takesIn s (intakeReport_flow (o := 0x3000) hj (by decide)) n).trans (setIn_takesIn ..)
  refine .ite (.refl s) (.ite ?_ ?_)
  · split
    · exact hcounted _ _
    · exact .refl s
  · split
    · exact .ite ((hcounted _ _).trans (writeAnc_takesIn ..)) (.refl s)
    · exact .refl s

theorem takeAudio_takesIn (s : State) (t : Rat) (groups : List AudioGroup) : TakesIn s (takeAudio s j t groups) := by
  unfold takeAudio
  extract_lets e sdi viaC short
  refine .foldl (fun s g => ?_) _ _
  extract_lets x marked detected
  have hdetected : TakesIn s detected :=
    (setIn_takesIn ..).trans (.ite (putField_takesIn _ (intakeReport_status hj) _ _ _) (.refl _))
  refine .ite hdetected (.ite (.ite hdetected ?_) (hdetected.trans (.foldl (fun s a => ?_) _ _)))
  · exact hdetected.trans ((putFlag_takesIn _ (intakeReport_status hj) _ _).trans (declareFault_takesIn ..))
  · exact .of_dict (takeGroupSample_dict ..)

/-! The start of a frame (R140, R142, R147). -/

theorem loseInput_takesIn (s : State) : TakesIn s (loseInput s j) where
  elem i k hk hr := by
    refine loseInput_elem s hj hk (Decidable.not_and_iff_not_or_not.1 ?_)
    rintro ⟨rfl, rfl⟩
    exact hr (intakeReport_flow hj (by decide))

theorem mismatch_takesIn (s : State) (bitNo : Nat) : TakesIn s (mismatch s j bitNo) := by
  unfold mismatch
  extract_lets was x marked
  have hmarked : TakesIn s marked := (putFlag_takesIn s (intakeReport_status hj) _ _).trans (setIn_takesIn ..)
  exact (TakesIn.ite hmarked (hmarked.trans (declareFault_takesIn ..))).trans (loseInput_takesIn hj _)

theorem badFormat_takesIn (s : State) : TakesIn s (badFormat s j) := by
  unfold badFormat
  exact .ite (mismatch_takesIn hj ..) (.ite (mismatch_takesIn hj ..) (setIn_takesIn ..))

theorem beginFrame_takesIn (s : State) (t : Rat) : TakesIn s (beginFrame s j t) := by
  unfold beginFrame
  extract_lets d units reported told x x' d' runs digested told' good x'' depth
  have hreported : TakesIn s reported := put_takesIn s (intakeReport_flow hj (by decide)) _
  have hdigested : TakesIn s digested := hreported.trans (.foldl (fun _ _ => .of_dict (digestRun_dict ..)) _ _)
  have htold : TakesIn s told' := hdigested.trans (mirror_takesIn ..)
  refine .ite ?_ (htold.trans (setIn_takesIn ..))
  exact htold.trans (setIn_takesIn ..)

theorem frameStart_takesIn (s : State) (lanes : List Nat) (t : Rat) (ln : SdiLine) :
    TakesIn s (frameStart s j lanes t ln) := by
  unfold frameStart
  extract_lets w sdi x f ks bad detected missing grouped settled status md late y begun
  have hflag (u : State) (n : Nat) (b : Bool) : TakesIn u (u.putFlag 0x4300 j n b) :=
    putFlag_takesIn u (intakeReport_status hj) n b
  have hdetected : TakesIn s detected := put_takesIn s (intakeReport_status hj) _
  have hgrouped : TakesIn detected grouped :=
    .ite ((hflag ..).trans (declareFault_takesIn ..)) (.ite (.refl _) ((hflag ..).trans (settleNote_takesIn ..)))
  have hsettled : TakesIn grouped settled := .ite ((hflag ..).trans (settleNote_takesIn ..)) (.refl _)
  have hstatus : TakesIn s status :=
    .ite (((hdetected.trans hgrouped).trans hsettled).trans
      ((putField_takesIn _ (intakeReport_status hj) _ _ _).trans (hflag ..))) (.refl s)
  have hbegun : TakesIn s begun := (hstatus.trans (setIn_takesIn ..)).trans (beginFrame_takesIn hj ..)
  exact .ite (hbegun.trans (badFormat_takesIn hj _)) (hbegun.trans (setIn_takesIn ..))

end

end Sys2Proof.Machine
end

section
/-! SUPPORT. Proofs of the statement on SDI inputs: the lock of a lane's flows and its loss, a line with a CRC error, and the end
of a format mismatch (R139, R142, R143, R158). -/

namespace Sys2Proof.Machine

/-! A lane in TRS lock locks its flows (R139). -/

/-- Whether a lane delivers rests on its mode, its rate, its synthesisers, its receiver and its status but for the bit of
TRS lock (R100, R105, R112). -/
theorem delivers_congr {s t : State} {l : Nat} (hlanes : t.lanes = s.lanes) (hsynths : t.synths = s.synths)
    (hmode : t.laneMode l = s.laneMode l) (hrate : t.rxWord l = s.rxWord l)
    (hstatus : ∀ n, n ≠ 29 → t.flag 0x3200 l n = s.flag 0x3200 l n) : t.delivers l = s.delivers l := by
  have hlane : t.lane l = s.lane l := congrArg (mapGet laneD · l) hlanes
  have hsynth : t.synth = s.synth := congrArg (fun m => mapGet synthD m) hsynths
  have hprotocol : t.protocol l = s.protocol l := congrArg laneProtocol hmode
  have hcode : t.rxCode l = s.rxCode l := congrArg (bits · 31 24) hrate
  have hheld : t.field 0x3200 l 20 20 = s.field 0x3200 l 20 20 := by
    simpa only [State.field, State.flag, bits_self] using congrArg Bool.toNat (hstatus 20 (by decide))
  have hauto (code : Nat) : t.autoServed l code = s.autoServed l code := by simp only [State.autoServed, hsynth]
  have hkept (q : Nat) (n : Need) (held : Nat) : servedBy t q n held = servedBy s q n held := by
    simp only [servedBy, hsynth]
  have hserved : t.rxServedBy l = s.rxServedBy l := by
    simp only [State.rxServedBy, hprotocol, hcode, hmode, hrate, hlane, hheld, hauto, hkept]
  have hruns : t.rxRuns l = s.rxRuns l := by simp only [State.rxRuns, hmode, hserved, hsynth]
  have hother : t.otherRate l = s.otherRate l := by simp only [State.otherRate, hprotocol, hcode, hlane]
  simp only [State.delivers, State.laneLos, State.laneLol, hruns, hother, hstatus 31 (by decide), hstatus 30 (by decide)]

/-- `t` has the lanes and elements of `s`, but for locks that flows have gained: bits 31 of 0x4300, set. -/
structure Locks (s t : State) : Prop where
  lanes : t.lanes = s.lanes
  synths : t.synths = s.synths
  elem : ∀ i k, i ≠ 0x4300 → k < 0x10000 → t.elem i k = s.elem i k
  flag : ∀ k n, k < 0x10000 → n ≠ 31 → t.flag 0x4300 k n = s.flag 0x4300 k n
  locked : ∀ k, k < 0x10000 → s.flag 0x4300 k 31 = true → t.flag 0x4300 k 31 = true

theorem Locks.of_dict {s t : State} (hl : t.lanes = s.lanes) (hy : t.synths = s.synths) (hd : t.dict = s.dict) : Locks s t :=
  ⟨hl, hy, fun i k _ _ => elem_of_dict hd i k, fun k n _ _ => flag_of_dict hd 0x4300 k n,
    fun k _ h => (flag_of_dict hd 0x4300 k 31).trans h⟩

theorem Locks.refl (s : State) : Locks s s := .of_dict rfl rfl rfl

theorem Locks.trans {s t u : State} (h : Locks s t) (h' : Locks t u) : Locks s u where
  lanes := h'.lanes.trans h.lanes
  synths := h'.synths.trans h.synths
  elem i k hi hk := (h'.elem i k hi hk).trans (h.elem i k hi hk)
  flag k n hk hn := (h'.flag k n hk hn).trans (h.flag k n hk hn)
  locked k hk hl := h'.locked k hk (h.locked k hk hl)

theorem Locks.delivers {s t : State} (h : Locks s t) {l : Nat} (hl : l < 0x10000) : t.delivers l = s.delivers l :=
  delivers_congr h.lanes h.synths (h.elem _ _ (by decide) hl) (h.elem _ _ (by decide) hl)
    fun n _ => flag_congr (h.elem _ _ (by decide) hl) n

theorem Locks.laneReady {s t : State} (h : Locks s t) {l : Nat} (hl : l < 0x10000) : t.laneReady l = s.laneReady l :=
  flag_congr (h.elem 0x3200 l (by decide) hl) 29

theorem putLock_locks (s : State) {j : Nat} (hj : j < 0x10000) : Locks s (s.putFlag 0x4300 j 31 true) where
  lanes := s.putFlag_lanes ..
  synths := s.putFlag_synths ..
  elem i k hi hk := State.putFlag_elem_ne hk hj (.inl hi) s 31 true
  flag k n hk hn := by
    by_cases h : k = j
    · rw [h, State.putFlag_flag, if_neg hn]
    · rw [flag_congr (State.putFlag_elem_ne hk hj (.inr h) s 31 true) n]
  locked k hk hl := by
    by_cases h : k = j
    · rw [h, State.putFlag_flag, if_pos rfl]
    · rw [flag_congr (State.putFlag_elem_ne hk hj (.inr h) s 31 true) 31, hl]

theorem setIn_locks (s : State) (j : Nat) (x : InFlow) : Locks s (s.setIn j x) := .of_dict rfl rfl rfl

theorem clearActive_locks (s : State) (n : Nat) : Locks s (clearActive s n) := .of_dict rfl rfl rfl

theorem lockFlow_locks (s : State) {j : Nat} (hj : j < 0x10000) : Locks s (lockFlow s j) := by
  unfold lockFlow
  extract_lets w x locked
  have locks : Locks s locked := (putLock_locks s hj).trans (setIn_locks _ _ _)
  split
  · split
    · exact locks
    · exact locks.trans (clearActive_locks _ _)
  · exact .refl s

theorem foldl_lockFlow_locks {js : List Nat} (hjs : ∀ j ∈ js, j < 0x10000) (s : State) : Locks s (js.foldl lockFlow s) := by
  induction js generalizing s with
  | nil => exact .refl s
  | cons j js ih =>
    obtain ⟨hj, hrest⟩ := List.forall_mem_cons.1 hjs
    exact (lockFlow_locks s hj).trans (ih hrest _)

/-- What flow `j` needs to lock where lane `l` is its one lane (R138, R139). -/
structure Lockable (s : State) (j l : Nat) : Prop where
  lanes : bindLanes (s.inBind j) = [l]
  linkOk : s.flag 0x4300 j 28 = false
  ready : s.laneReady l = true
  delivers : s.delivers l = true

theorem Lockable.of_locks {s t : State} {j l : Nat} (h : Lockable s j l) (hj : j < 0x10000) (hl : l < 0x10000)
    (ht : Locks s t) : Lockable t j l where
  lanes := (congrArg bindLanes (ht.elem _ _ (by decide) hj)).trans h.lanes
  linkOk := (ht.flag j 28 hj (by decide)).trans h.linkOk
  ready := (ht.laneReady hl).trans h.ready
  delivers := (ht.delivers hl).trans h.delivers

theorem lockFlow_locked {s : State} {j l : Nat} (hj : j < 0x10000) (h : Lockable s j l) :
    (lockFlow s j).flag 0x4300 j 31 = true := by
  cases hlock : s.flag 0x4300 j 31 with
  | true => exact (lockFlow_locks s hj).locked j hj hlock
  | false =>
    have hguard : (!s.flag 0x4300 j 31 && !s.flag 0x4300 j 28 &&
        (bindLanes (s.inBind j)).all fun l => s.laneReady l && s.delivers l) = true := by
      simp [hlock, h.linkOk, h.lanes, h.ready, h.delivers]
    unfold lockFlow
    extract_lets w x locked
    have hput : (s.putFlag 0x4300 j 31 true).flag 0x4300 j 31 = true := by rw [State.putFlag_flag, if_pos rfl]
    have hlocked : locked.flag 0x4300 j 31 = true := (setIn_locks _ _ _).locked j hj hput
    rw [if_pos hguard]
    split
    · exact hlocked
    · exact (clearActive_locks _ _).locked j hj hlocked

theorem foldl_lockFlow_locked {j l : Nat} (hl : l < 0x10000) {js : List Nat} (hjs : ∀ k ∈ js, k < 0x10000) (hj : j ∈ js)
    {s : State} (h : Lockable s j l) : (js.foldl lockFlow s).flag 0x4300 j 31 = true := by
  have hbound := hjs j hj
  induction js generalizing s with
  | nil => cases hj
  | cons k js ih =>
    obtain ⟨hk, hrest⟩ := List.forall_mem_cons.1 hjs
    rcases List.mem_cons.1 hj with rfl | hj
    · exact (foldl_lockFlow_locks hrest _).locked j hbound (lockFlow_locked hbound h)
    · exact ih hrest hj (h.of_locks hbound hl (lockFlow_locks s hk))

/-- The flows of a lane are inputs, or new sides of moving inputs. -/
theorem isInput_of_mem_flowsOn {s : State} {l j : Nat} (h : j ∈ s.flowsOn l) : isInput j = true := by
  obtain ⟨e, he, rfl⟩ := List.mem_map.1 h
  exact (Bool.and_eq_true_iff.1 (List.mem_filter.1 he).2).1

theorem trsLock_locks {s : State} {l : Nat} (hl : l < 192) (hp : s.protocol l = protoSdi) (hd : s.delivers l = true)
    (hr : s.laneReady l = false) : (trsLock s l).laneReady l = true ∧
      ∀ j ∈ s.flowsOn l, bindLanes (s.inBind j) = [l] → s.flag 0x4300 j 28 = false →
        (trsLock s l).flag 0x4300 j 31 = true := by
  have hjs (j : Nat) (hj : j ∈ s.flowsOn l) : j < 0x10000 := by
    rcases isInput_lt (isInput_of_mem_flowsOn hj) with h | h <;> omega
  have hl' : l < 0x10000 := by omega
  have hready : (s.putFlag 0x3200 l 29 true).laneReady l = true := by
    rw [State.laneReady, State.putFlag_flag, if_pos rfl]
  have hother (i : Nat) (hi : i ≠ 0x3200) : (s.putFlag 0x3200 l 29 true).elem i l = s.elem i l :=
    State.putFlag_elem_ne hl' hl' (.inl hi) s 29 true
  have hdelivers : (s.putFlag 0x3200 l 29 true).delivers l = s.delivers l :=
    delivers_congr (State.putFlag_lanes ..) (State.putFlag_synths ..) (hother 0x3000 (by decide)) (hother 0x3100 (by decide))
      fun n hn => by rw [State.putFlag_flag, if_neg hn]
  unfold trsLock
  rw [if_pos ⟨hp, hd, hr⟩]
  refine ⟨((foldl_lockFlow_locks hjs _).laneReady hl').trans hready, fun j hj hlanes hlink => ?_⟩
  have hkept (i : Nat) (hi : i ≠ 0x3200) : (s.putFlag 0x3200 l 29 true).elem i j = s.elem i j :=
    State.putFlag_elem_ne (hjs j hj) hl' (.inl hi) s 29 true
  exact foldl_lockFlow_locked hl' hjs hj ⟨(congrArg bindLanes (hkept 0x4000 (by decide))).trans hlanes,
    (flag_congr (hkept 0x4300 (by decide)) 28).trans hlink, hready, hdelivers.trans hd⟩

/-! The loss of TRS lock unlocks them (R139, R158). -/

/-- A loss of lock clears the flow's bits 31 to 25 and counts; no other status word of an input, and nothing outside 0x4300,
is touched. -/
theorem unlockFlow_elem {s : State} {j : Nat} (hj : isInput j = true) {i k : Nat} (hi : i ≠ 0x1001) (hk : k < 0x8000)
    (h : i ≠ 0x4300 ∨ k < 2048) (hlock : s.flag 0x4300 j 31 = true) :
    (unlockFlow s j).elem i k = (s.putField 0x4300 j 31 25 0).elem i k := by
  have hj' := isInput_lt hj
  have hk' : k < 0x10000 := by omega
  unfold unlockFlow
  rw [if_pos hlock]
  extract_lets cleared counted settled x
  calc _ = (declareFault (settled.setIn j { x with links := [], clean := 0 }) 0x060 j true false
        (settled.srcPlane j)).elem i k := loseInput_elem _ hj hk' (by omega)
    _ = (settled.setIn j { x with links := [], clean := 0 }).elem i k := (declareFault_reports ..).elem hi hk
    _ = settled.elem i k := elem_of_dict (State.setIn_dict ..) i k
    _ = counted.elem i k := elem_of_dict (foldl_settleNote_dict counted _) i k
    _ = cleared.elem i k := State.count_elem_ne hk' (by omega) (by omega) cleared

theorem unlockFlow_of_unlocked {s : State} {j : Nat} (h : s.flag 0x4300 j 31 = false) : unlockFlow s j = s :=
  if_neg (ne_true_of_eq_false h)

/-- The lock bit of input `k` after a loss of lock of flow `j`. -/
theorem unlockFlow_flag (s : State) {j k : Nat} (hj : isInput j = true) (hk : k < 2048) :
    (unlockFlow s j).flag 0x4300 k 31 = (if k = j then false else s.flag 0x4300 k 31) := by
  have hj' := isInput_lt hj
  cases hlock : s.flag 0x4300 j 31 with
  | false =>
    rw [unlockFlow_of_unlocked hlock]
    split
    · subst k; exact hlock
    · rfl
  | true =>
    rw [flag_congr (unlockFlow_elem hj (by decide) (by omega) (.inr hk) hlock)]
    split
    · subst k
      rw [State.flag, State.putField, State.put_elem, if_pos rfl, bit_setBits _ (by decide)]
      rfl
    · rw [flag_congr (State.putField_elem_ne (by omega) (by omega) (.inr ‹_›) s 31 25 0)]

theorem unlockFlow_lane (s : State) {j : Nat} (hj : isInput j = true) {l : Nat} (hl : l < 192) :
    (unlockFlow s j).elem 0x3200 l = s.elem 0x3200 l := by
  have hj' := isInput_lt hj
  cases hlock : s.flag 0x4300 j 31 with
  | false => rw [unlockFlow_of_unlocked hlock]
  | true =>
    rw [unlockFlow_elem hj (by decide) (by omega) (.inl (by decide)) hlock,
      State.putField_elem_ne (by omega) (by omega) (.inl (by decide))]

theorem foldl_unlockFlow_flag {js : List Nat} (hjs : ∀ j ∈ js, isInput j = true) {k : Nat} (hk : k < 2048) (s : State) :
    (js.foldl unlockFlow s).flag 0x4300 k 31 = (if k ∈ js then false else s.flag 0x4300 k 31) := by
  induction js generalizing s with
  | nil => rfl
  | cons j js ih =>
    obtain ⟨hj, hrest⟩ := List.forall_mem_cons.1 hjs
    rw [List.foldl_cons, ih hrest, unlockFlow_flag s hj hk]
    by_cases h : k ∈ js
    · rw [if_pos h, if_pos (List.mem_cons_of_mem j h)]
    · simp [h]

theorem foldl_unlockFlow_lane {js : List Nat} (hjs : ∀ j ∈ js, isInput j = true) {l : Nat} (hl : l < 192) (s : State) :
    (js.foldl unlockFlow s).elem 0x3200 l = s.elem 0x3200 l := by
  induction js generalizing s with
  | nil => rfl
  | cons j js ih =>
    obtain ⟨hj, hrest⟩ := List.forall_mem_cons.1 hjs
    rw [List.foldl_cons, ih hrest, unlockFlow_lane s hj hl]

theorem trsLockLost_unlocks {s : State} {l : Nat} (hl : l < 192) (hp : s.protocol l = protoSdi) (hr : s.laneReady l = true) :
    (trsLockLost s l).laneReady l = false ∧
      ∀ j ∈ s.flowsOn l, j < 2048 → (trsLockLost s l).flag 0x4300 j 31 = false := by
  have hjs (j : Nat) (hj : j ∈ s.flowsOn l) : isInput j = true := isInput_of_mem_flowsOn hj
  unfold trsLockLost
  rw [if_pos ⟨hp, hr⟩]
  refine ⟨?_, fun j hj hlt => by rw [foldl_unlockFlow_flag hjs hlt, if_pos hj]⟩
  rw [State.laneReady, flag_congr (foldl_unlockFlow_lane hjs hl _), State.putFlag_flag, if_pos rfl]

/-! A line with a CRC error (R137, R143). -/

theorem judgeLinks_single (s : State) (j a : Nat) : judgeLinks s j [a] = s := by
  unfold judgeLinks
  exact if_pos (.inl (by simp))

/-- A line with a CRC error is counted at the flow that takes it: nothing else that the line does comes to the count. -/
theorem takeSdi_crcError (s : State) {j : Nat} (hj : j < 2048) (a l : Nat) (t : Rat) {ln : SdiLine}
    (hcrc : ln.crcError = true) :
    (takeSdi s j [a] l t ln).elem 0x4300 (0x1000 + j) = wrapAdd 32 (s.elem 0x4300 (0x1000 + j)) 1 := by
  have hin : isInput j = true := by simp [isInput, hj]
  unfold takeSdi
  extract_lets w place judged counted lineCounted xyzCounted edhCounted x crcNoted link started f anc ancTaken heard
  have hjudged : judged.elem 0x4300 (0x1000 + j) = s.elem 0x4300 (0x1000 + j) := by
    unfold judged
    rw [judgeLinks_single]
    exact elem_of_dict (State.setIn_dict ..) _ _
  have hcounted : counted.elem 0x4300 (0x1000 + j) = wrapAdd 32 (s.elem 0x4300 (0x1000 + j)) 1 := by
    unfold counted
    rw [if_pos hcrc, State.count, State.put_elem, if_pos rfl, hjudged]
  have hother : ¬ intakeReport 0x4300 (0x1000 + j) := by unfold intakeReport; omega
  have herrors : TakesIn counted edhCounted :=
    (TakesIn.ite (count_takesIn _ (intakeReport_flow hin (by decide))) (.refl _)).trans <|
      (TakesIn.ite (count_takesIn _ (intakeReport_flow hin (by decide))) (.refl _)).trans <|
        .ite (count_takesIn _ (intakeReport_flow hin (by decide))) (.refl _)
  have hnoted : TakesIn edhCounted crcNoted := .ite (setIn_takesIn ..) (.refl _)
  have hstarted : TakesIn crcNoted started := .ite (frameStart_takesIn hin ..) (.refl _)
  have hanc : TakesIn started ancTaken := takeAnc_takesIn hin ..
  have hheard : TakesIn ancTaken heard := .ite (takeAudio_takesIn hin ..) (.refl _)
  have htaken : TakesIn heard (if isActive f.form ln.num then takeNow heard j ln.num ln.picture else heard) :=
    .ite (takeNow_takesIn hin ..) (.refl _)
  rw [if_neg (by simp), if_pos List.length_singleton, ← hcounted]
  exact (herrors.trans <| hnoted.trans <| hstarted.trans <| hanc.trans <| hheard.trans htaken).elem _ _ (by omega) hother

theorem bindLanes_single {w : Word} (h : bindQuad w = false) : bindLanes w = [bindLane w] :=
  if_neg (ne_true_of_eq_false h)

theorem emit_eq_emitted (s : State) (e : Emission) : ∃ es, s.emit e = { s with emitted := es } := by
  unfold State.emit
  split
  · exact ⟨s.emitted, rfl⟩
  · exact ⟨_, rfl⟩

/-- The one flow on a lane counts the lane's line with a CRC error where the line is of the flow's stream; far-end loopback
sends the line back beside that (R128). -/
theorem sdiLine_crcError {s : State} {l j : Nat} {ln : SdiLine} (hp : s.protocol l = protoSdi) (hh : s.hears l = true)
    (hr : s.laneReady l = true) (hj : j < 2048) (hflows : s.flowsOn l = [j]) (hquad : bindQuad (s.inBind j) = false)
    (hstream : bits (s.inBind j) 23 22 = 3 ↔ ln.stream = 2) (hcrc : ln.crcError = true) :
    (sdiLine s l ln).elem 0x4300 (0x1000 + j) = wrapAdd 32 (s.elem 0x4300 (0x1000 + j)) 1 := by
  unfold sdiLine
  extract_lets looped
  obtain ⟨es, hes⟩ : ∃ es, looped = { s with emitted := es } := by
    unfold looped
    split
    · exact emit_eq_emitted ..
    · exact ⟨s.emitted, rfl⟩
  have hp' : looped.protocol l = protoSdi := by rw [hes]; exact hp
  have hh' : looped.hears l = true := by rw [hes]; exact hh
  have hr' : looped.laneReady l = true := by rw [hes]; exact hr
  have hflows' : looped.flowsOn l = [j] := by rw [hes]; exact hflows
  have hbind : looped.inBind j = s.inBind j := by rw [hes]; rfl
  have hdict : looped.dict = s.dict := by rw [hes]
  have hguard : ¬ (!(looped.hears l && looped.laneReady l) || looped.protocol l != protoSdi) = true := by
    simp [hp', hh', hr']
  have htakers : [j].filter (fun j => (bits (looped.inBind j) 23 22 == 3) == (ln.stream == 2)) = [j] := by
    refine List.filter_eq_self.2 fun k hk => ?_
    rw [List.mem_singleton.1 hk, hbind, beq_iff_eq, Bool.eq_iff_iff, beq_iff_eq, beq_iff_eq]
    exact hstream
  rw [if_neg hguard, hflows', htakers, List.foldl_cons, List.foldl_nil, hbind,
    bindLanes_single hquad, takeSdi_crcError looped hj _ l _ hcrc, elem_of_dict hdict]

/-! The end of a format mismatch (R140, R142). -/

theorem formatMismatchClear_does {s : State} {j : Nat} (hj : j < 2048) (hrun : s.running = true)
    (hflag : s.flag 0x4300 j (s.mismatchBit j) = true) (hclean : 3 ≤ (s.in_ j).clean)
    (hnow : s.now < (s.in_ j).beganAt + (s.srcFmt j).linePeriod) :
    does (.formatMismatchClear j) s fun t => t.flag 0x4300 j (s.mismatchBit j) = false := by
  refine onUnit_does rfl hj hrun ?_
  have hguard : (s.fresh.flag 0x4300 j (s.fresh.mismatchBit j) && decide (3 ≤ (s.fresh.in_ j).clean) &&
      decide (s.fresh.now < (s.fresh.in_ j).beganAt + (s.fresh.srcFmt j).linePeriod)) = true := by
    rw [Bool.and_eq_true, Bool.and_eq_true, decide_eq_true_eq, decide_eq_true_eq]
    exact ⟨⟨hflag, hclean⟩, hnow⟩
  have hput : (s.fresh.putFlag 0x4300 j (s.mismatchBit j) false).flag 0x4300 j (s.mismatchBit j) = false := by
    rw [State.putFlag_flag, if_pos rfl]
  dsimp only
  rw [if_pos hguard]
  split
  · exact hput
  · exact hput

/-- Settles O8: a lane's lock and its loss by what the fold over its flows does to each of them, a line with a CRC error by
its one count, which the rest of the intake leaves alone, and the end of a mismatch by its flag. -/
theorem sdiInputsLock : Obligations.SdiInputsLock := by
  unfold Obligations.SdiInputsLock
  refine ⟨fun s l hl hrun hp hd hr => ?lock, fun s l hl hrun hp hr => ?loss,
    fun s l j ln hl hrun hp hh hr hj hflows hquad hstream hcrc => ?line, fun s j hj hrun hflag hclean hnow => ?clear⟩
  case lock => exact onUnit_does rfl hl hrun (trsLock_locks (s := s.fresh) hl hp hd hr)
  case loss => exact onUnit_does rfl hl hrun (trsLockLost_unlocks (s := s.fresh) hl hp hr)
  case line => exact onUnit_does rfl hl hrun (sdiLine_crcError (s := s.fresh) hp hh hr hj hflows hquad hstream hcrc)
  case clear => exact formatMismatchClear_does hj hrun hflag hclean hnow

end Sys2Proof.Machine
end

section
/-! SUPPORT. What settles after a structural change, and the proofs of the statement on protection, structural writes and move
points (R217, R262-R266). -/

namespace Sys2Proof.Machine

/-! The structural elements of the map (R262, R489). -/

/-- The rows whose elements are structural. -/
def structuralRows : List DictRow := ((List.range 15).flatMap dictRange).filter fun r => r.attr == .structural

/-- The map has no index beyond 0xEFFF. -/
theorem range_of_mem_dictRange {n : Nat} {r : DictRow} (h : r ∈ dictRange n) : n < 15 := by
  refine Nat.lt_of_not_le fun hn => ?_
  obtain ⟨d, rfl⟩ := Nat.exists_eq_add_of_le' hn
  exact List.not_mem_nil (show r ∈ [] from h)

/-- A structural element stands in a structural row. -/
theorem structuralRow_of_isStructural {i k : Nat} (h : isStructural i k = true) :
    ∃ r ∈ structuralRows, r.idxLo ≤ i ∧ i ≤ r.idxHi ∧ k ≤ r.subHi := by
  unfold isStructural at h
  split at h
  · next r hrow =>
    have hmem : r ∈ dictRange (i / 4096) := List.mem_of_find?_eq_some hrow
    have hspan := List.find?_some hrow
    simp only [Bool.and_eq_true, decide_eq_true_eq, DictRow.hasSub] at hspan
    obtain ⟨⟨hlo, hhi⟩, ⟨-, hsub⟩, -⟩ := hspan
    have hall : r ∈ (List.range 15).flatMap dictRange :=
      List.mem_flatMap.2 ⟨_, List.mem_range.2 (range_of_mem_dictRange hmem), hmem⟩
    exact ⟨r, List.mem_filter.2 ⟨hall, h⟩, hlo, hhi, hsub⟩
  · cases h

/-- The indices in which a request, and what settles after a structural change, reports. -/
def settleReports : List Nat := [0x1001, 0x4300, 0x5500, 0x5510, 0x6400, 0xA200]

/-- Where a structural element stands: apart from the reports, and at the sub-indices of its table. -/
structure StructuralPlace (i k : Nat) : Prop where
  index : i ∉ settleReports
  sub : k < 0x10000
  flow : 0x4000 ≤ i → i < 0x5600 → k < 0x1800
  sync : i = 0x4200 → k < 0x800
  generator : i = 0x5400 → k < 0x10

theorem structuralPlace {i k : Nat} (h : isStructural i k = true) : StructuralPlace i k := by
  have rows : ∀ r ∈ structuralRows, r.idxLo = r.idxHi ∧ r.idxLo ∉ settleReports ∧ r.subHi < 0x10000 ∧
      (0x4000 ≤ r.idxLo → r.idxLo < 0x5600 → r.subHi < 0x1800) ∧ (r.idxLo = 0x4200 → r.subHi < 0x800) ∧
      (r.idxLo = 0x5400 → r.subHi < 0x10) := by decide
  obtain ⟨r, hr, hlo, hhi, hk⟩ := structuralRow_of_isStructural h
  obtain ⟨hone, hindex, hsub, hflow, hsync, hgen⟩ := rows r hr
  obtain rfl : r.idxLo = i := by omega
  exact ⟨hindex, by omega, by omega, by omega, by omega⟩

/-! What keeps a structural element, the moves, and the inputs that have asked for no stream. -/

/-- `t` reads element `i`:`k` as `s` does, has the moves of `s`, and each tether input that waits for no reservation in `s` waits
for none in `t`. -/
structure KeepsAt (i k : Nat) (s t : State) : Prop where
  elem : t.elem i k = s.elem i k
  moves : t.moves = s.moves
  asked : ∀ j, (s.remoteOf j).asked = none → (t.remoteOf j).asked = none

section
variable {i k : Nat}

theorem KeepsAt.refl (s : State) : KeepsAt i k s s := ⟨rfl, rfl, fun _ => id⟩

theorem KeepsAt.trans {s t u : State} (h : KeepsAt i k s t) (h' : KeepsAt i k t u) : KeepsAt i k s u :=
  ⟨h'.elem.trans h.elem, h'.moves.trans h.moves, fun j hj => h'.asked j (h.asked j hj)⟩

theorem KeepsAt.ite {s t u : State} {c : Prop} [Decidable c] (h : KeepsAt i k s t) (h' : KeepsAt i k s u) :
    KeepsAt i k s (if c then t else u) := by split <;> assumption

theorem KeepsAt.foldl {α : Type} {f : State → α → State} (hf : ∀ s a, KeepsAt i k s (f s a)) (l : List α) (s : State) :
    KeepsAt i k s (l.foldl f s) := by
  induction l generalizing s with
  | nil => exact .refl s
  | cons a l ih => exact (hf s a).trans (ih _)

theorem KeepsAt.of_fields {s t : State} (hdict : t.dict = s.dict) (hmoves : t.moves = s.moves) (hremote : t.remote = s.remote) :
    KeepsAt i k s t :=
  ⟨elem_of_dict hdict i k, hmoves, fun j hj => by rw [State.remoteOf, hremote]; exact hj⟩

theorem setIn_keepsAt (s : State) (j : Nat) (x : InFlow) : KeepsAt i k s (s.setIn j x) := .of_fields rfl rfl rfl
theorem setOut_keepsAt (s : State) (j : Nat) (x : OutFlow) : KeepsAt i k s (s.setOut j x) := .of_fields rfl rfl rfl
theorem setCells_keepsAt (s : State) (n : Nat) (x : Cells) : KeepsAt i k s (s.setCells n x) := .of_fields rfl rfl rfl

/-- Elements are told apart by their keys: `k'` may lie out of range. -/
theorem put_keepsAt {i' k' : Nat} (s : State) (v : Word) (h : ekey i k ≠ ekey i' k') : KeepsAt i k s (s.put i' k' v) :=
  ⟨by rw [State.put_elem, if_neg h], rfl, fun _ => id⟩

theorem emit_keepsAt (s : State) (e : Emission) : KeepsAt i k s (s.emit e) := by
  obtain ⟨es, h⟩ := emit_eq_emitted s e
  rw [h]
  exact .of_fields rfl rfl rfl

theorem rebuildDesc_keepsAt (s : State) (p q : Word → Bool) : KeepsAt i k s (rebuildDesc s p q) := by
  obtain ⟨rx, tx, h⟩ := rebuildDesc_eq s p q
  rw [h]
  exact .of_fields rfl rfl rfl

theorem logEvent_keepsAt (s : State) (i' k' : Nat) (old new : Word) (p : Nat) (b : Bool) (st : Nat) :
    KeepsAt i k s (logEvent s i' k' old new p b st) := by
  unfold logEvent
  refine .ite (.of_fields rfl rfl rfl) ?_
  obtain ⟨l, h⟩ := appendLog_eq s { tp := s.pos p, time := s.ns, entry := 0, plane := p, origin := 0xF, kind := 2,
                                    index := i', sub := k', old := old, new := new, struct := b, status := st }
  rw [h]
  exact .of_fields rfl rfl rfl

theorem tidyStreams_keepsAt (s : State) : KeepsAt i k s (tidyStreams s) := by
  unfold tidyStreams
  extract_lets own streams gone tether tidied
  have tidies : KeepsAt i k s tidied := .of_fields rfl rfl rfl
  refine tidies.trans (.foldl (fun u t => ?_) _ _)
  split
  · exact emit_keepsAt ..
  · exact .refl u

/-- An input whose remote state is dropped waits for nothing. -/
theorem dropRemote_keepsAt (s : State) (j : Nat) : KeepsAt i k s { s with remote := mapErase s.remote j } where
  elem := rfl
  moves := rfl
  asked n hn := by
    have hremote : (State.remoteOf { s with remote := mapErase s.remote j } n) = if n = j then {} else s.remoteOf n :=
      mapGet_mapErase remoteD s.remote j n
    rw [hremote]
    split
    · rfl
    · exact hn

/-! Around a structural element: what a request reports, and what settles after its change. -/

variable (hs : isStructural i k = true)
include hs

/-- A report stands apart from every structural element. -/
theorem put_report_keepsAt {i' k' : Nat} (s : State) (v : Word) (hi : i' ∈ settleReports) (hk : k' < 0x10000) :
    KeepsAt i k s (s.put i' k' v) := by
  have place := structuralPlace hs
  refine put_keepsAt s v fun h => place.index ?_
  rwa [((ekey_inj place.sub hk).1 h).1]

theorem Answers.keepsAt {s t : State} (h : Answers s t) : KeepsAt i k s t := by
  have place := structuralPlace hs
  have hi : i ≠ 0x1001 := fun h => place.index (by simp [h, settleReports])
  refine ⟨h.elem i k hi place.sub, ?_, fun j hj => ?_⟩
  · rw [h.rest]
  · rw [h.rest]; exact hj


theorem startInput_keepsAt (s : State) {j : Nat} (hj : j < 0xC000) : KeepsAt i k s (startInput s j) := by
  unfold startInput
  extract_lets w emptied released locked started
  have released_keeps : KeepsAt i k s released := (setIn_keepsAt ..).trans (setCells_keepsAt ..)
  have started_keeps : KeepsAt i k released started := put_report_keepsAt hs _ _ (by decide) (by omega)
  exact (released_keeps.trans started_keeps).trans (put_report_keepsAt hs _ _ (by decide) (by omega))

theorem settleSync_keepsAt (s : State) {j : Nat} (hj : j < 0x10000) : KeepsAt i k s (settleSync s j) := by
  unfold settleSync
  exact .ite (put_report_keepsAt hs _ _ (by decide) hj) (put_report_keepsAt hs _ _ (by decide) hj)

theorem notePool_keepsAt (s : State) : KeepsAt i k s (notePool s) := by
  unfold notePool
  exact .ite (put_report_keepsAt hs _ _ (by decide) (by decide)) (.refl s)

theorem settleRemote_keepsAt (s : State) {j : Nat} (hj : j < 0x10000) : KeepsAt i k s (settleRemote s j) := by
  unfold settleRemote
  extract_lets settled
  have settles : KeepsAt i k s settled :=
    .ite (.refl s) ((put_report_keepsAt hs _ _ (by decide) hj).trans (dropRemote_keepsAt _ j))
  exact settles.trans (tidyStreams_keepsAt settled)

/-- What follows a changed element changes no structural element. -/
theorem settleFlow_keepsAt (s : State) (idx sub : Nat) (fresh : Bool) : KeepsAt i k s (settleFlow s idx sub fresh) := by
  unfold settleFlow
  extract_lets j isIn desc flagged noted out
  have hj : j < 0x800 := Nat.mod_lt _ (by decide)
  have desc_keeps (u : State) : KeepsAt i k u (desc u) := rebuildDesc_keepsAt ..
  split
  · exact notePool_keepsAt hs s
  split
  · exact .refl s
  split
  · have flagged_keeps : KeepsAt i k s flagged := .ite (put_report_keepsAt hs _ _ (by decide) (by omega)) (.refl s)
    have noted_keeps : KeepsAt i k flagged noted :=
      (((KeepsAt.ite (startInput_keepsAt hs _ (by omega)) (.refl _)).trans (settleSync_keepsAt hs _ (by omega))).trans
        (desc_keeps _)).trans (notePool_keepsAt hs _)
    exact (flagged_keeps.trans noted_keeps).trans (.ite (settleRemote_keepsAt hs _ (by omega)) (.refl _))
  · exact (setOut_keepsAt ..).trans (desc_keeps _)

/-- The side built beside an input has elements of its own (R263). -/
theorem put_newSide_keepsAt (s : State) {idx n : Nat} (v : Word) (hidx : 0x4000 ≤ idx) (hidx' : idx < 0x5600)
    (hn : 0x8000 ≤ n) (hn' : n < 0x10000) : KeepsAt i k s (s.put idx n v) := by
  have place := structuralPlace hs
  refine put_keepsAt s v fun h => ?_
  obtain ⟨rfl, rfl⟩ := (ekey_inj place.sub hn').1 h
  have := place.flow hidx hidx'
  omega

theorem buildNewSide_keepsAt (s : State) {m : Move} (hm : m.sub < 0x800) : KeepsAt i k s (buildNewSide s m) := by
  unfold buildNewSide
  extract_lets j v copy built
  have copy_keeps (u : State) {idx : Nat} (hidx : 0x4000 ≤ idx) (hidx' : idx < 0x5600) : KeepsAt i k u (copy u idx) :=
    put_newSide_keepsAt hs u _ hidx hidx' (by omega) (by omega)
  have built_keeps : KeepsAt i k s built :=
    (((copy_keeps _ (by decide) (by decide)).trans (copy_keeps _ (by decide) (by decide))).trans
      (copy_keeps _ (by decide) (by decide))).trans (copy_keeps _ (by decide) (by decide))
  exact (built_keeps.trans (put_newSide_keepsAt hs _ _ (by decide) (by decide) (by omega) (by omega))).trans
    (startInput_keepsAt hs _ (by omega))

theorem dropNewSide_keepsAt (s : State) (j : Nat) : KeepsAt i k s (dropNewSide s j) := by
  have place := structuralPlace hs
  refine ⟨(dropNewSide_reports s j).2 i k (fun h => place.index (by simp [h, settleReports])) place.sub ?_, rfl, fun _ => id⟩
  rintro ⟨hlo, hhi, hk⟩
  have := place.flow hlo hhi
  omega

theorem adoptNewSide_keepsAt (s : State) {j : Nat} (hj : j < 0x800) : KeepsAt i k s (adoptNewSide s j) := by
  unfold adoptNewSide
  extract_lets v new old taken locked state
  have report_keeps (u : State) {n : Nat} (x : Word) (hn : n < 0x10000) : KeepsAt i k u (u.put 0x4300 n x) :=
    put_report_keepsAt hs u x (by decide) hn
  have taken_keeps : KeepsAt i k s taken := (setIn_keepsAt ..).trans (setCells_keepsAt ..)
  have locked_keeps : KeepsAt i k taken locked := report_keeps _ _ (by omega)
  have state_keeps : KeepsAt i k locked state := report_keeps _ _ (by omega)
  exact ((taken_keeps.trans locked_keeps).trans (state_keeps.trans (report_keeps _ _ (by omega)))).trans
    (dropNewSide_keepsAt hs _ j)

/-! A change of format is reported at 0x6400, whatever the output's number: the elements of lower indices stay (R153, R216). -/

variable (hi : i < 0x6400)
include hi

theorem startChange_keepsAt (s : State) (j : Nat) (old new : Fmt) (t : Rat) : KeepsAt i k s (startChange s j old new t) := by
  have place := structuralPlace hs
  unfold startChange
  refine .ite (.refl s) ((setOut_keepsAt ..).trans (put_keepsAt _ _ ?_))
  have := place.sub
  unfold ekey
  omega

theorem followSource_keepsAt (s : State) (n : Nat) : KeepsAt i k s (followSource s n) := by
  refine .foldl (fun u j => ?_) _ s
  unfold followFormat
  exact .ite (startChange_keepsAt hs hi ..) (.refl u)

theorem movePolicy_keepsAt (s : State) (m : Move) : KeepsAt i k (s.put 0x6100 m.sub m.new) (movePolicy s m) := by
  unfold movePolicy
  extract_lets j old stored n new out changed
  have changed_keeps : KeepsAt i k stored changed := .ite (setOut_keepsAt ..) (startChange_keepsAt hs hi ..)
  exact changed_keeps.trans (rebuildDesc_keepsAt ..)

end

/-! A move at its point (R262-R265). -/

theorem Move.isIntake_iff (m : Move) :
    m.isIntake = true ↔ (m.index = 0x4000 ∨ m.index = 0x4100 ∨ m.index = 0x4200) ∧ m.sub < 0x800 := by
  simp [Move.isIntake, or_assoc]

/-- The move leaves the list, its element takes the new value, and nothing that follows touches either. -/
theorem finishMove_keepsAt (s : State) {m : Move} (hs : isStructural m.index m.sub = true) :
    KeepsAt m.index m.sub
      (State.put { s with moves := s.moves.filter fun x => !(x.index == m.index && x.sub == m.sub) } m.index m.sub m.new)
      (finishMove s m) := by
  unfold finishMove
  extract_lets ended stored others adopted settled followed
  have stored_keeps : KeepsAt m.index m.sub (ended.put m.index m.sub m.new) stored := by
    unfold stored
    split
    · next h => rw [h]; exact movePolicy_keepsAt (h ▸ hs) (by decide) ended m
    · exact .refl _
  have adopted_keeps : KeepsAt m.index m.sub stored adopted := by
    unfold adopted
    split
    · next h =>
      obtain ⟨-, hsub⟩ := m.isIntake_iff.1 (Bool.and_eq_true_iff.1 h).1
      exact adoptNewSide_keepsAt hs stored hsub
    · exact .refl _
  have settled_keeps : KeepsAt m.index m.sub adopted settled := .ite (.refl _) (settleFlow_keepsAt hs ..)
  have followed_keeps : KeepsAt m.index m.sub settled followed := by
    unfold followed
    split
    · next h =>
      obtain ⟨hindex, -⟩ := m.isIntake_iff.1 h
      exact followSource_keepsAt hs (by omega) ..
    · split
      · exact followSource_keepsAt hs (by omega) ..
      · exact .refl _
  exact (((stored_keeps.trans adopted_keeps).trans settled_keeps).trans followed_keeps).trans (logEvent_keepsAt ..)

theorem moveOf_some {s : State} {idx sub : Nat} {m : Move} (h : s.moveOf idx sub = some m) : m.index = idx ∧ m.sub = sub := by
  simpa using List.find?_some h

/-- A finished move is over: its element reads the new value, and no move of it is left. -/
theorem finishMove_over (s : State) {m : Move} (hs : isStructural m.index m.sub = true) :
    (finishMove s m).elem m.index m.sub = m.new ∧ (finishMove s m).moveOf m.index m.sub = none := by
  have keeps := finishMove_keepsAt s hs
  constructor
  · rw [keeps.elem, State.put_elem, if_pos rfl]
  · rw [State.moveOf, keeps.moves, List.find?_eq_none]
    intro x hx
    simpa only [Bool.not_eq_true', Bool.not_eq_true] using (List.mem_filter.1 hx).2

/-! A structural write (R262-R265). -/

theorem streamChange_keepsAt (s : State) {i k : Nat} (rq : Rq) (op i' k' st : Nat) (b d : List Byte) :
    KeepsAt i k s (streamChange s rq op i' k' st b d) := by
  unfold streamChange
  split
  · extract_lets n pair counted
    have counts : KeepsAt i k s counted := .of_fields rfl rfl rfl
    exact (counts.trans (emit_keepsAt ..)).trans (emit_keepsAt ..)
  · exact .refl s

/-- An accepted request changes no structural element, no move and no reservation asked for but by its commit. -/
theorem request_commits_keepsAt {s : State} {rq : Rq} {op i j : Nat} {b : List Byte} {h : Handler} {i' k' : Nat}
    (hs : isStructural i' k' = true) (ha : isAccepted s rq op i j b h) :
    ∃ u, KeepsAt i' k' s u ∧ KeepsAt i' k' (h.commit u) (request s rq op i j b h) := by
  rw [request_accepted ha]
  unfold commitRequest
  extract_lets status logged committed data streamed req waiting
  have streams : KeepsAt i' k' committed streamed := streamChange_keepsAt ..
  have waits : Answers streamed waiting := .ite (answers_req _ _) (.refl _)
  exact ⟨logged, ((judged_answers ..).trans (appendLog_answers ..)).keepsAt hs,
    streams.trans ((waits.trans ((recordReply_answers ..).trans (sendReply_answers ..))).keepsAt hs)⟩

/-- What a committed structural write gives its element: the value at once, or a move toward it. -/
def takesOrMoves (t : State) (idx sub : Nat) (v : Word) : Prop :=
  t.elem idx sub = v ∨ ∃ m ∈ t.moves, m.index = idx ∧ m.sub = sub ∧ m.new = v

theorem takesOrMoves.of_keepsAt {s t : State} {idx sub : Nat} {v : Word} (h : takesOrMoves s idx sub v)
    (hk : KeepsAt idx sub s t) : takesOrMoves t idx sub v := by
  unfold takesOrMoves at *
  rwa [hk.elem, hk.moves]

theorem startMove_keepsAt {s : State} {i k : Nat} (hs : isStructural i k = true) (m : Move) :
    KeepsAt i k { s with moves := s.moves ++ [m] } (startMove s m) := by
  unfold startMove
  extract_lets begun
  split
  · next h => exact buildNewSide_keepsAt hs begun (m.isIntake_iff.1 h).2
  · exact .refl begun

/-- A committed structural write reaches its element at once or by a move, and asks for no reservation. -/
theorem structuralHandler_commit (s u : State) {idx sub : Nat} (hs : isStructural idx sub = true) (payload : List Byte)
    (c : Change) :
    takesOrMoves ((structuralHandler s idx sub payload c).commit u) idx sub (ofBytes payload) ∧
      ∀ j, (u.remoteOf j).asked = none → (((structuralHandler s idx sub payload c).commit u).remoteOf j).asked = none := by
  have taken : (u.commit idx sub (ofBytes payload)).elem idx sub = ofBytes payload := by rw [State.commit_elem, if_pos rfl]
  unfold structuralHandler
  extract_lets v old t codes m during moving h
  dsimp only
  split
  · have keeps := (startMove_keepsAt (s := u) hs m).trans (notePool_keepsAt hs _)
    exact ⟨.of_keepsAt (.inr ⟨m, by simp, rfl, rfl, rfl⟩) keeps, keeps.asked⟩
  · split
    · exact ⟨.inl taken, fun _ => id⟩
    · have keeps := settleFlow_keepsAt hs (u.commit idx sub v) idx sub (v != old)
      exact ⟨.of_keepsAt (.inl taken) keeps, keeps.asked⟩

/-- The indices of the structural elements of flows and generators. -/
def flowIndex (idx : Nat) : Prop :=
  idx = 0x4000 ∨ idx = 0x4100 ∨ idx = 0x4200 ∨ idx = 0x4500 ∨ idx = 0x5400 ∨ idx = 0x6000 ∨ idx = 0x6100 ∨ idx = 0x6200

theorem flowHandler_commit (s u : State) {idx sub : Nat} (hs : isStructural idx sub = true) (payload : List Byte) :
    takesOrMoves ((flowHandler s idx sub payload).commit u) idx sub (ofBytes payload) ∧
      ∀ j, (u.remoteOf j).asked = none → (((flowHandler s idx sub payload).commit u).remoteOf j).asked = none :=
  structuralHandler_commit s u hs payload _

/-- The structural elements of flows and generators are written by their own rule; a tether binding is not (R400). -/
theorem elementHandler_flow (s : State) (rq : Rq) {idx sub : Nat} {payload : List Byte} (hs : isStructural idx sub = true)
    (hidx : flowIndex idx) (hsub : sub < 0x1800) (htether : idx = 0x4000 → sub < 0x800 → bindKind (ofBytes payload) ≠ 3) :
    elementHandler s rq idx sub payload = flowHandler s idx sub payload := by
  have place := structuralPlace hs
  rcases hidx with rfl | rfl | rfl | rfl | rfl | rfl | rfl | rfl
  · exact if_neg fun h => htether rfl h.2.1 h.2.2
  · rfl
  · exact if_neg fun h => absurd (place.sync rfl) (by omega)
  · rfl
  · exact if_pos (place.generator rfl)
  · exact if_neg fun h => absurd hsub (by omega)
  · rfl
  · rfl

/-- Nothing is left to settle where no tether input has asked for a reservation. -/
theorem settleElement_of_unasked {s : State} {idx sub : Nat} (hidx : idx ≠ 0x8900)
    (h : idx = 0x4000 → sub < 0x800 → (s.remoteOf sub).asked = none) : settleElement s idx sub = s := by
  unfold settleElement
  rw [if_neg fun h => hidx h.1]
  split
  · next hbind => rw [h hbind.1 hbind.2]
  · rfl

/-- A write to a structural element of a flow or a generator is its request alone, where no reservation is asked for. -/
theorem writeElement_flow (s : State) (rq : Rq) {idx sub : Nat} {payload : List Byte} (hs : isStructural idx sub = true)
    (hidx : flowIndex idx) (hsub : sub < 0x1800) (htether : idx = 0x4000 → sub < 0x800 → bindKind (ofBytes payload) ≠ 3)
    (hunasked : idx = 0x4000 → sub < 0x800 →
      ((request s rq opWrite idx sub payload (flowHandler s idx sub payload)).remoteOf sub).asked = none) :
    writeElement s rq opWrite idx sub payload = request s rq opWrite idx sub payload (flowHandler s idx sub payload) := by
  unfold writeElement
  rw [elementHandler_flow s rq hs hidx hsub htether]
  dsimp only
  have hnotSprite : idx ≠ 0x8900 := by unfold flowIndex at hidx; omega
  rw [settleElement_of_unasked hnotSprite hunasked, ite_self]

/-- Settles O15: a protection by the word its commit stores, a structural write by the two ways its commit takes, and a move
point by what finishing the move leaves alone. -/
theorem routesProtectedAndMoved : Obligations.RoutesProtectedAndMoved := by
  unfold Obligations.RoutesProtectedAndMoved
  refine ⟨fun s rq j v hj hfits ha => ?protect, fun s rq idx sub v hs hidx hsub htether hfits ha => ?write,
    fun s idx sub m hs hsub hrun hmove hdue => ?point⟩
  case protect =>
    obtain ⟨u, -, after⟩ := request_commits ha
    refine act_does (f := fun u => request u rq opWrite 0x5010 j (valueBytes rq v)
      (protectHandler u rq j (valueBytes rq v))) rfl ?_
    calc _ = ((protectHandler s.fresh rq j (valueBytes rq v)).commit u).elem 0x5010 j := after.elem (by decide) (by omega)
      _ = if bit (ofBytes (valueBytes rq v)) 31 then 2 ^ 31 + rq.origin * 2 ^ 24 + rq.session else 0 := by
        unfold protectHandler
        rw [State.commit_elem, if_pos rfl]
      _ = _ := by rw [valueBytes_value hfits]
  case write =>
    have hval := valueBytes_value hfits
    obtain ⟨u, before, after⟩ := request_commits_keepsAt hs ha
    obtain ⟨taken, unasked⟩ := flowHandler_commit s.fresh u hs (valueBytes rq v)
    rw [hval] at taken
    have unaskedNow (hin : idx = 0x4000) (hlow : sub < 0x800) := after.asked _ (unasked _ (before.asked _ (htether hin hlow).1))
    have written := writeElement_flow s.fresh rq hs hidx hsub (fun hin hlow => hval.symm ▸ (htether hin hlow).2) unaskedNow
    refine act_does (f := fun u => if isStructural idx sub then writeElement u rq opWrite idx sub (valueBytes rq v) else u) rfl ?_
    dsimp only
    rw [if_pos hs, written]
    have settled := taken.of_keepsAt after
    exact settled
  case point =>
    obtain ⟨rfl, rfl⟩ := moveOf_some hmove
    refine actRunning_does rfl hrun ?_
    have hmove' : s.fresh.moveOf m.index m.sub = some m := hmove
    have hdue' : s.fresh.moveDue m = true := hdue
    dsimp only
    rw [hmove']
    dsimp only
    rw [if_pos hdue']
    exact finishMove_over s.fresh hs

end Sys2Proof.Machine
end

section
/-! SUPPORT. What an accepted request changes beside its commit, where the banked elements stand, and the proofs of the statement
on the DIRTY flags (R236, R237, R249). -/

namespace Sys2Proof.Machine

/-! The commit of an accepted request, whole (R24, R424, R476). -/

/-- `t` differs from `s` at most in what the change stream and an answer touch. -/
structure Streams (s t : State) : Prop where
  rest : t = { s with dict := t.dict, emitted := t.emitted, req := t.req, log := t.log, pair := t.pair }
  elem : ∀ i k, i ≠ 0x1001 → k < 0x10000 → t.elem i k = s.elem i k

theorem Streams.refl (s : State) : Streams s s := ⟨rfl, fun _ _ _ _ => rfl⟩

theorem Streams.trans {s t u : State} (h : Streams s t) (h' : Streams t u) : Streams s u where
  rest := by rw [h'.rest, h.rest]
  elem i k hi hk := (h'.elem i k hi hk).trans (h.elem i k hi hk)

theorem Answers.streams {s t : State} (h : Answers s t) : Streams s t := ⟨by rw [h.rest], h.elem⟩

theorem Streams.banks {s t : State} (h : Streams s t) : t.banks = s.banks := by rw [h.rest]
theorem Streams.shadow {s t : State} (h : Streams s t) : t.shadow = s.shadow := by rw [h.rest]
theorem Streams.blobs {s t : State} (h : Streams s t) : t.blobs = s.blobs := by rw [h.rest]
theorem Streams.events {s t : State} (h : Streams s t) : t.events = s.events := by rw [h.rest]

theorem Streams.bank {s t : State} (h : Streams s t) (b : Nat) : t.bank b = s.bank b := by
  rw [State.bank, h.banks]; rfl

theorem Streams.shadowElem {s t : State} (h : Streams s t) (i k : Nat) : t.shadowElem i k = s.shadowElem i k := by
  rw [State.shadowElem, h.shadow]; rfl

theorem Streams.blob {s t : State} (h : Streams s t) (i k : Nat) : t.blob i k = s.blob i k := by
  rw [State.blob, h.blobs]; rfl

theorem streamChange_streams (s : State) (rq : Rq) (op i k st : Nat) (b d : List Byte) :
    Streams s (streamChange s rq op i k st b d) := by
  unfold streamChange
  split
  · extract_lets n pair counted
    have counts : Streams s counted := ⟨rfl, fun _ _ _ _ => rfl⟩
    exact counts.trans ((emit_answers ..).trans (emit_answers ..)).streams
  · exact .refl s

/-- What an accepted request changes but by its commit: `u` is the state at the commit. -/
theorem request_commits_streams {s : State} {rq : Rq} {op i k : Nat} {b : List Byte} {h : Handler}
    (ha : isAccepted s rq op i k b h) : ∃ u, Answers s u ∧ Streams (h.commit u) (request s rq op i k b h) := by
  rw [request_accepted ha]
  unfold commitRequest
  extract_lets status logged committed data streamed req waiting
  have streams : Streams committed streamed := streamChange_streams ..
  have waits : Answers streamed waiting := .ite (answers_req _ _) (.refl _)
  exact ⟨logged, (judged_answers ..).trans (appendLog_answers ..),
    streams.trans (waits.trans ((recordReply_answers ..).trans (sendReply_answers ..))).streams⟩

/-! Banked elements (R235-R237). -/

theorem dictRow_spans {i k : Nat} {r : DictRow} (h : dictRow i k = some r) :
    r ∈ (List.range 15).flatMap dictRange ∧ r.idxLo ≤ i ∧ i ≤ r.idxHi ∧ r.subLo ≤ k ∧ k ≤ r.subHi := by
  have hmem : r ∈ dictRange (i / 4096) := List.mem_of_find?_eq_some h
  have hspan := List.find?_some h
  simp only [Bool.and_eq_true, decide_eq_true_eq, DictRow.hasSub] at hspan
  obtain ⟨⟨hlo, hhi⟩, ⟨hsubLo, hsubHi⟩, -⟩ := hspan
  exact ⟨List.mem_flatMap.2 ⟨_, List.mem_range.2 (range_of_mem_dictRange hmem), hmem⟩, hlo, hhi, hsubLo, hsubHi⟩

/-- The rows of the map whose elements are banked. -/
def bankedRows : List DictRow := ((List.range 15).flatMap dictRange).filter fun r => r.attr matches .banked _

theorem bankedRow_of_bankOf {i k : Nat} {b : Bank} (h : bankOf i k = some b) :
    ∃ r ∈ bankedRows, r.idxLo ≤ i ∧ i ≤ r.idxHi ∧ r.subLo ≤ k ∧ k ≤ r.subHi := by
  unfold bankOf at h
  split at h
  · next r hrow =>
    obtain ⟨hmem, hspan⟩ := dictRow_spans hrow
    split at h
    · next hattr => exact ⟨r, List.mem_filter.2 ⟨hmem, by rw [hattr]⟩, hspan⟩
    · cases h
  · cases h

/-- The banked elements of a compositor head: its background, its fade and its meter bars (R354, R377). -/
def headBanked (k : Nat) : Prop := 0x10 ≤ k ∧ k < 0x20 ∨ 0x50 ≤ k ∧ k < 0x60 ∨ 0x1000 ≤ k ∧ k < 0x1400

/-- Where the banked elements stand: routes, audio routes and gains, the spool selection, heads, layers, coefficients. -/
theorem bankedPlace {i k : Nat} {b : Bank} (h : bankOf i k = some b) :
    k < 0xC000 ∧ (i = 0x5000 ∨ i = 0x7000 ∨ i = 0x7100 ∨ i = 0x7200 ∧ k = 0 ∨ i = 0x8000 ∧ headBanked k ∨
      (0x8100 ≤ i ∧ i < 0x8500) ∧ k < 0x100 ∨ i = 0x8800) := by
  have rows : ∀ r ∈ bankedRows, r.subHi < 0xC000 ∧
      (r.idxLo = 0x5000 ∧ r.idxHi = 0x5000 ∨ r.idxLo = 0x7000 ∧ r.idxHi = 0x7000 ∨ r.idxLo = 0x7100 ∧ r.idxHi = 0x7100 ∨
        (r.idxLo = 0x7200 ∧ r.idxHi = 0x7200) ∧ r.subHi = 0 ∨
        (r.idxLo = 0x8000 ∧ r.idxHi = 0x8000) ∧ (0x10 ≤ r.subLo ∧ r.subHi < 0x20 ∨ 0x50 ≤ r.subLo ∧ r.subHi < 0x60 ∨
          0x1000 ≤ r.subLo ∧ r.subHi < 0x1400) ∨
        (r.idxLo = 0x8100 ∧ r.idxHi = 0x84FF) ∧ r.subHi < 0x100 ∨ r.idxLo = 0x8800 ∧ r.idxHi = 0x8800) := by decide
  obtain ⟨r, hr, hspan⟩ := bankedRow_of_bankOf h
  obtain ⟨hsub, hrow⟩ := rows r hr
  refine ⟨by omega, ?_⟩
  rcases hrow with hroute | haudio | hgain | hspool | hhead | hlayer | hcoef
  · exact .inl (by omega)
  · exact .inr (.inl (by omega))
  · exact .inr (.inr (.inl (by omega)))
  · exact .inr (.inr (.inr (.inl (by omega))))
  · exact .inr (.inr (.inr (.inr (.inl ⟨by omega, by unfold headBanked; omega⟩))))
  · exact .inr (.inr (.inr (.inr (.inr (.inl (by omega))))))
  · exact .inr (.inr (.inr (.inr (.inr (.inr (by omega))))))

/-- A handler that writes `v` to the shadow of an element of bank `b`, and on a refusal leaves the banks. -/
structure WritesShadow (i k b : Nat) (v : Word) (h : Handler) : Prop where
  shadow : ∀ u, (h.commit u).shadowElem i k = v
  dirty : ∀ u, ((h.commit u).bank b).dirty = true
  elem : ∀ u, (h.commit u).elem i k = u.elem i k
  refused : ∀ st u, (h.refused st u).banks = u.banks

theorem bankedHandler_writesShadow (s : State) {i k : Nat} {b : Bank} (hb : bankOf i k = some b) (payload : List Byte)
    (c : Checks) : WritesShadow i k b.num (ofBytes payload) (bankedHandler s i k payload c) := by
  have hnum : (bankNum i k).getD 0 = b.num := by simp [bankNum, hb]
  refine ⟨fun u => ?_, fun u => ?_, fun u => rfl, fun st u => rfl⟩
  · calc _ = (u.putShadow i k (ofBytes payload)).shadowElem i k := rfl
      _ = ofBytes payload := by rw [State.putShadow_shadowElem, if_pos rfl]
  · simp [bankedHandler, hnum]

-- For every element and value: with numerals in their place, `rfl` would compute them.
theorem State.put_banks (s : State) (i k : Nat) (v : Word) : (s.put i k v).banks = s.banks := rfl
theorem State.put_bank (s : State) (i k : Nat) (v : Word) (b : Nat) : (s.put i k v).bank b = s.bank b := rfl
theorem State.put_shadowElem (s : State) (i k : Nat) (v : Word) (i' k' : Nat) :
    (s.put i k v).shadowElem i' k' = s.shadowElem i' k' := rfl

/-- A route write also reports, at 0x5200 (R219). -/
theorem routeHandler_writesShadow (s : State) (rq : Rq) {j : Nat} {b : Bank} (hb : bankOf 0x5000 j = some b)
    (payload : List Byte) : WritesShadow 0x5000 j b.num (ofBytes payload) (routeHandler s rq j payload) := by
  have hj : j < 0x10000 := by have := (bankedPlace hb).1; omega
  unfold routeHandler
  extract_lets v t codes h
  obtain ⟨shadow, dirty, elem, -⟩ : WritesShadow 0x5000 j b.num (ofBytes payload) h :=
    bankedHandler_writesShadow s hb payload _
  exact ⟨fun u => (State.put_shadowElem ..).trans (shadow u),
    fun u => (congrArg BankSt.dirty (State.put_bank ..)).trans (dirty u),
    fun u => (State.put_elem_ne hj hj (.inl (by decide)) _ _).trans (elem u), fun st u => State.put_banks ..⟩

/-- A handler that is the banked one, with some checks of its element's own. -/
def isBanked (s : State) (i k : Nat) (payload : List Byte) (h : Handler) : Prop :=
  ∃ c, h = bankedHandler s i k payload c

theorem isBanked.ite {s : State} {i k : Nat} {payload : List Byte} {h h' : Handler} {p : Prop} [Decidable p]
    (hp : isBanked s i k payload h) (hn : ¬ p → isBanked s i k payload h') :
    isBanked s i k payload (if p then h else h') := by
  split
  · exact hp
  · exact hn ‹_›

theorem compHandler_head_banked (s : State) {k : Nat} (hk : headBanked k) (payload : List Byte) :
    isBanked s 0x8000 k payload (compHandler s 0x8000 k payload) := by
  unfold compHandler
  unfold headBanked at hk
  extract_lets v t banked
  rw [if_pos rfl, if_neg (by omega)]
  refine .ite ⟨_, rfl⟩ fun hbackground => ?_
  rw [if_neg (by omega)]
  refine .ite ⟨_, rfl⟩ fun hfade => ?_
  rw [if_pos (by omega)]
  exact ⟨_, rfl⟩

theorem compHandler_layer_banked (s : State) {i k : Nat} (hi : 0x8100 ≤ i ∧ i < 0x8500) (hk : k < 0x100)
    (payload : List Byte) : isBanked s i k payload (compHandler s i k payload) := by
  unfold compHandler
  extract_lets v t banked layer n
  rw [if_neg (by omega), if_pos hi.2]
  exact .ite ⟨_, rfl⟩ fun _ => .ite ⟨_, rfl⟩ fun _ => .ite ⟨_, rfl⟩ fun _ => .ite ⟨_, rfl⟩ fun _ =>
    .ite ⟨_, rfl⟩ fun _ => .ite ⟨_, rfl⟩ fun _ => .ite ⟨_, rfl⟩ fun h => absurd hk h

/-- The compositor's elements are written by their own rule, the capture of a sprite apart (R372). -/
theorem elementHandler_comp (s : State) (rq : Rq) {i : Nat} (k : Nat) (payload : List Byte) (hi : 0x8000 ≤ i ∧ i < 0x8900) :
    elementHandler s rq i k payload = compHandler s i k payload := by
  have hrange : i / 4096 = 8 := by omega
  unfold elementHandler
  rw [hrange]
  exact if_neg (by omega)

/-- A write to a banked element goes to the shadow (R236, R237). -/
theorem elementHandler_writesShadow (s : State) (rq : Rq) {i k : Nat} {b : Bank} (hb : bankOf i k = some b)
    (payload : List Byte) : WritesShadow i k b.num (ofBytes payload) (elementHandler s rq i k payload) := by
  have banked (h : isBanked s i k payload (elementHandler s rq i k payload)) :
      WritesShadow i k b.num (ofBytes payload) (elementHandler s rq i k payload) := by
    obtain ⟨c, hc⟩ := h
    exact hc ▸ bankedHandler_writesShadow s hb payload c
  have comp (hi : 0x8000 ≤ i ∧ i < 0x8900) (h : isBanked s i k payload (compHandler s i k payload)) :=
    banked ((elementHandler_comp s rq k payload hi).symm ▸ h)
  rcases (bankedPlace hb).2 with rfl | rfl | rfl | ⟨rfl, rfl⟩ | ⟨rfl, hk⟩ | ⟨hi, hk⟩ | rfl
  · exact routeHandler_writesShadow s rq hb payload
  · exact banked ⟨_, rfl⟩
  · exact banked ⟨_, rfl⟩
  · exact banked ⟨_, rfl⟩
  · exact comp (by decide) (compHandler_head_banked s hk payload)
  · exact comp (by omega) (compHandler_layer_banked s hi hk payload)
  · exact comp (by decide) ⟨_, rfl⟩

/-- A write to a banked element is its request alone. -/
theorem writeElement_banked (s : State) (rq : Rq) (op : Nat) {i k : Nat} {b : Bank} (hb : bankOf i k = some b)
    (payload : List Byte) :
    writeElement s rq op i k payload = request s rq op i k payload (elementHandler s rq i k payload) := by
  have place := (bankedPlace hb).2
  unfold writeElement
  dsimp only
  rw [settleElement_of_unasked (by omega) (fun hi => by omega), ite_self]

theorem shadowWrite_does {s : State} {rq : Rq} {i k : Nat} {b : Bank} {v : Word} {P : State → Prop} (hb : bankOf i k = some b)
    (hp : P { writeElement s.fresh rq opWrite i k (valueBytes rq v) with pending := s.pending }) :
    does (.shadowWrite rq i k v) s P := by
  refine act_does (f := fun u => if (bankOf i k).isSome then writeElement u rq opWrite i k (valueBytes rq v) else u) rfl ?_
  have hbanked : (bankOf i k).isSome = true := by rw [hb]; rfl
  dsimp only
  rwa [if_pos hbanked]

/-- A refusal touches no bank, where its element's own rule touches none. -/
theorem refuseRequest_banks (s : State) (rq : Rq) (op i k st : Nat) {h : Handler}
    (hr : ∀ u, (h.refused st u).banks = u.banks) : (refuseRequest s rq op i k st h).banks = s.banks := by
  unfold refuseRequest
  extract_lets counted logged reported noted recorded
  have counts : Answers s counted :=
    .ite (countPort_answers _ _ _ (by decide)) (.ite (countPort_answers _ _ _ (by decide)) (.refl s))
  have logs : Answers counted logged := logRefusal_answers ..
  have reports_banks : reported.banks = logged.banks := by
    unfold reported
    split
    · exact State.put_banks ..
    · rfl
  have records : Answers noted recorded := .ite (.refl _) (recordReply_answers ..)
  calc _ = noted.banks := (records.trans (sendReply_answers ..)).streams.banks
    _ = reported.banks := hr reported
    _ = logged.banks := reports_banks
    _ = s.banks := (counts.trans logs).streams.banks

/-! A DISCARD (R249). -/

/-- A fold establishes what one of its steps establishes and no step undoes. -/
theorem foldl_establishes {α : Type} {P : State → Prop} {f : State → α → State} {a : α} {l : List α} (ha : a ∈ l)
    (hest : ∀ u, P (f u a)) (hkeep : ∀ x ∈ l, ∀ u, P u → P (f u x)) (s : State) : P (l.foldl f s) := by
  induction l generalizing s with
  | nil => cases ha
  | cons x l ih =>
    obtain ⟨-, hrest⟩ := List.forall_mem_cons.1 hkeep
    rcases List.mem_cons.1 ha with rfl | ha
    · exact List.foldlRecOn l f (hest s) fun u hu x hx => hrest x hx u hu
    · exact ih ha hrest (f s x)

/-- A DISCARD starts the reseed of every bank that it names. -/
theorem discardHandler_commit_bank (s u : State) (payload : List Byte) {b : Nat} (hb : b < 5)
    (hbit : bit (ofBytes payload) b = true) : ((discardHandler s payload).commit u).bank b = { reseeding := true } := by
  unfold discardHandler
  extract_lets v
  refine foldl_establishes (P := fun u => u.bank b = { reseeding := true }) (List.mem_range.2 hb) (fun w => ?_)
    (fun x _ w hw => ?_) u
  · rw [if_pos (show scopeHas v b = true from hbit), State.setBank_bank, if_pos rfl]
  · split
    · extract_lets copied
      have hcopied : copied.banks = w.banks := foldl_keeps State.banks (by intro _ _; rfl) _ w
      rw [State.setBank_bank]
      split
      · rfl
      · rwa [State.bank, hcopied]
    · exact hw

/-- Settles O14: a write by the shadow its commit writes and the flag it sets, a reseed and a DISCARD by the bank they leave, a
refused write by what its refusal reports. -/
theorem dirtyFollowsWrites : Obligations.DirtyFollowsWrites := by
  unfold Obligations.DirtyFollowsWrites
  refine ⟨fun s rq idx sub b v hb hsub hfits ha => ?write, fun s b hb hrun hreseeding => ?reseed,
    fun s rq v hfits ha => ?discard, fun s rq idx sub st b v hb hr => ?refused⟩
  case write =>
    have place := (bankedPlace hb).2
    obtain ⟨shadow, dirty, elem, -⟩ := elementHandler_writesShadow s.fresh rq hb (valueBytes rq v)
    obtain ⟨u, before, after⟩ := request_commits_streams ha
    have hi : idx ≠ 0x1001 := by omega
    refine shadowWrite_does hb ?_
    rw [writeElement_banked _ _ _ hb]
    exact ⟨(after.shadowElem idx sub).trans ((shadow u).trans (valueBytes_value hfits)),
      (congrArg BankSt.dirty (after.bank b.num)).trans (dirty u),
      (after.elem idx sub hi hsub).trans ((elem u).trans (before.elem idx sub hi hsub))⟩
  case reseed =>
    refine onUnit_does rfl hb hrun ?_
    have hdone : reseedDone s.fresh b = s.fresh.setBank b {} := if_pos hreseeding
    have hbank : (s.fresh.setBank b {}).bank b = {} := by rw [State.setBank_bank, if_pos rfl]
    rw [hdone]
    exact congrArg BankSt.dirty hbank
  case discard =>
    obtain ⟨u, -, after⟩ := request_commits_streams ha
    refine act_does (f := fun u => request u rq opWrite 0x1100 2 (valueBytes rq v) (discardHandler u (valueBytes rq v))) rfl
      fun b hb hbit => ?_
    have hbank := discardHandler_commit_bank s.fresh u (valueBytes rq v) hb (by rwa [valueBytes_value hfits])
    exact congrArg BankSt.dirty ((after.bank b).trans hbank)
  case refused =>
    refine shadowWrite_does hb ?_
    rw [writeElement_refused hr]
    calc _ = (judged s.fresh rq opWrite idx sub (valueBytes rq v)).banks :=
          refuseRequest_banks _ _ _ _ _ _ ((elementHandler_writesShadow s.fresh rq hb (valueBytes rq v)).refused st)
      _ = s.fresh.banks := (judged_answers ..).streams.banks

end Sys2Proof.Machine
end

section
/-! SUPPORT. Which checks an accepted request has passed, and the proofs of the statement on salvos (R255-R260). -/

namespace Sys2Proof.Machine

/-! The checks of a list (R13). -/

/-- A list of checks gives OK exactly where none of them fails. -/
theorem firstFailure_ok_iff {l : List (Bool × Nat)} (hl : ∀ x ∈ l, x.2 ≠ stOk) :
    firstFailure l = stOk ↔ ∀ x ∈ l, x.1 = false := by
  induction l with
  | nil => exact ⟨fun _ _ h => absurd h List.not_mem_nil, fun _ => rfl⟩
  | cons a l ih =>
    obtain ⟨fails, status⟩ := a
    obtain ⟨hstatus, hrest⟩ := List.forall_mem_cons.1 hl
    rw [List.forall_mem_cons, ← ih hrest]
    cases fails with
    | true => exact ⟨fun h => absurd h hstatus, fun h => nomatch h.1⟩
    | false => exact ⟨fun h => ⟨rfl, h⟩, fun h => h.2⟩

/-- An accepted request has passed the range check of its element. -/
theorem range_of_isAccepted {s : State} {rq : Rq} {op i k : Nat} {b : List Byte} {h : Handler}
    (ha : isAccepted s rq op i k b h) : h.checks.range = false := by
  obtain ⟨-, -, hstatus⟩ := ha
  have passed := (firstFailure_ok_iff (by simp [checkList])).1 hstatus (h.checks.range || rq.rsv != 0, stRange)
    (by simp [checkList])
  exact (Bool.or_eq_false_iff.1 passed).1

/-! A firing (R257-R259). -/

/-- The queue of `t` is that of `s` and after it a firing of salvo `n`, with the entries stored in `s`. -/
def capturesSalvo (s t : State) (n : Nat) : Prop :=
  ∃ e : Event, t.events = s.events ++ [e] ∧ e.kind = 2 ∧ e.arg = n ∧ e.image = imageEntries (s.blob 0x1110 n)

theorem queueSalvo_captures (s : State) (n : Nat) (rq : Option Rq) : capturesSalvo s (queueSalvo s n rq) n :=
  ⟨_, queueEvent_events .., rfl, rfl, rfl⟩

/-- Only a salvo number that exists is accepted, and it is the one that fires. -/
theorem fireHandler_commit_captures {s : State} (u : State) {rq : Rq} {b : List Byte}
    (h : (fireHandler s rq b).checks.range = false) : capturesSalvo u ((fireHandler s rq b).commit u) (ofBytes b) := by
  have hlt : ofBytes b < 64 := by
    have hrange := (Bool.or_eq_false_iff.1 h).2
    rwa [decide_eq_false_iff_not, Nat.not_le] at hrange
  have hnumber : bits (ofBytes b) 5 0 = ofBytes b := by
    rw [bits, Nat.pow_zero, Nat.div_one]
    exact Nat.mod_eq_of_lt hlt
  have hcommit : (fireHandler s rq b).commit u = queueSalvo u (bits (ofBytes b) 5 0) (some rq) := rfl
  rw [hcommit, hnumber]
  exact queueSalvo_captures ..

/-- A field input's firing that fails no check (R257, R258). -/
theorem fireFromField_captures {s : State} {n : Nat} (hmode : s.mode = .active ∨ s.mode = .solo) (hlog : s.logStrict = false)
    (hrange : (fireChecks s n 0 0).range = false) (hbound : (fireChecks s n 0 0).mode = false)
    (hprot : (fireChecks s n 0 0).prot = false) (hadmission : (fireChecks s n 0 0).admission = false) :
    capturesSalvo s (fireFromField s n) n := by
  have hfaulted : (s.mode == .faulted) = false := by rcases hmode with h | h <;> rw [h] <;> rfl
  have hboot : (s.mode == .boot) = false := by rcases hmode with h | h <;> rw [h] <;> rfl
  unfold fireFromField
  extract_lets c status refused reported
  have hstatus : status = stOk := (firstFailure_ok_iff (by simp)).2 (by
    simp [c, hfaulted, hboot, hlog, hrange, hbound, hprot, hadmission])
  obtain ⟨e, hevents, captured⟩ := queueSalvo_captures s n none
  rw [if_pos hstatus]
  exact ⟨e, (logEvent_events ..).trans hevents, captured⟩

/-! A salvo at its TP (R260). -/

theorem logEvent_dict (s : State) (i k : Nat) (old new : Word) (p : Nat) (b : Bool) (st : Nat) :
    (logEvent s i k old new p b st).dict = s.dict := by
  unfold logEvent
  split
  · rfl
  · obtain ⟨l, h⟩ := appendLog_eq s { tp := s.pos p, time := s.ns, entry := 0, plane := p, origin := 0xF, kind := 2,
                                      index := i, sub := k, old := old, new := new, struct := b, status := st }
    rw [h]

/-- Switches are put on the outputs and on air: the active set stays (R245). -/
theorem scheduleSwitches_dict (s : State) (t : Rat) (js : List Nat) : (scheduleSwitches s t js).dict = s.dict := by
  refine foldl_keeps State.dict (fun u j => ?_) js s
  extract_lets x
  split
  · exact State.setOut_dict ..
  · split
    · exact State.putAir_dict ..
    · exact State.setOut_dict ..

/-- One entry of a salvo: in the active set, and in the shadow where its bank is clean or reseeding (R260). -/
def enterEntry (s : State) (i : Nat × Nat × Nat) : State :=
  let b := if i.1 = 0x5000 then 0 else 1
  let s := s.put i.1 i.2.1 i.2.2
  if (s.bank b).reseeding || !(s.bank b).dirty then s.putShadow i.1 i.2.1 i.2.2 else s

theorem enterEntry_elem (s : State) (i : Nat × Nat × Nat) (idx sub : Nat) :
    (enterEntry s i).elem idx sub = if ekey idx sub = ekey i.1 i.2.1 then i.2.2 else s.elem idx sub := by
  unfold enterEntry
  extract_lets b entered
  have helem := State.put_elem s i.1 i.2.1 i.2.2 idx sub
  split
  · exact helem
  · exact helem

/-- Of the elements, a salvo at its TP changes its entries and the count at 0x1101. -/
theorem fireSalvo_elem (s : State) (e : Event) {idx sub : Nat} (hidx : idx ≠ 0x1101) (hsub : sub < 0x10000) :
    (fireSalvo s e).elem idx sub = (e.image.foldl enterEntry s).elem idx sub := by
  unfold fireSalvo
  extract_lets t changed entered stale routes points switched marked
  have hstale : stale.dict = entered.dict := foldl_keeps State.dict (fun u b => by split <;> rfl) _ _
  calc _ = (marked.count 0x1101 4).elem idx sub := elem_of_dict (logEvent_dict ..) idx sub
    _ = marked.elem idx sub := State.count_elem_ne hsub (by decide) (.inl hidx) marked
    _ = stale.elem idx sub := elem_of_dict (scheduleSwitches_dict stale t routes) idx sub
    _ = (e.image.foldl enterEntry s).elem idx sub := elem_of_dict hstale idx sub

/-- Entries that name no element twice all enter. -/
theorem foldl_enterEntry_elem {es : List (Nat × Nat × Nat)} (hsub : ∀ i ∈ es, i.2.1 < 0x10000)
    (hes : (es.map fun i => (i.1, i.2.1)).Nodup) {i : Nat × Nat × Nat} (hi : i ∈ es) (s : State) :
    (es.foldl enterEntry s).elem i.1 i.2.1 = i.2.2 := by
  induction es generalizing s with
  | nil => cases hi
  | cons x es ih =>
    obtain ⟨hx, hsubs⟩ := List.forall_mem_cons.1 hsub
    obtain ⟨hnew, hnodup⟩ := List.nodup_cons.1 hes
    rcases List.mem_cons.1 hi with rfl | hi
    · have entered : (enterEntry s i).elem i.1 i.2.1 = i.2.2 := by rw [enterEntry_elem, if_pos rfl]
      refine List.foldlRecOn (motive := fun u => u.elem i.1 i.2.1 = i.2.2) es enterEntry entered fun u hu y hy => ?_
      have hother : ekey i.1 i.2.1 ≠ ekey y.1 y.2.1 := fun hkey =>
        hnew (List.mem_map.2 ⟨y, hy, (Prod.ext_iff.2 ((ekey_inj hx (hsubs y hy)).1 hkey)).symm⟩)
      rw [enterEntry_elem, if_neg hother, hu]
    · exact ih hsubs hnodup hi _

/-- The one entry of the queue, where it is due, is the one that fires (R57). -/
theorem fireNext_alone {s : State} {e : Event} {kinds : List Nat} (hevents : s.events = [e]) (hdue : s.due e = true)
    (hkind : e.kind ∈ kinds) : fireNext s kinds = if e.kind = 1 then fireTake s e else fireSalvo s e := by
  have hfires : (kinds.contains e.kind && s.due e) = true := Bool.and_eq_true_iff.2 ⟨List.contains_iff_mem.2 hkind, hdue⟩
  have hnext : s.dueEvent kinds = some e := by
    rw [State.dueEvent, hevents]
    exact List.find?_cons_of_pos hfires
  unfold fireNext
  rw [hnext]

/-- Settles O17: a store by its commit, a firing by what it queues once its checks pass, an execution by the fold over its
entries, of which no two name one element. -/
theorem salvosRun : Obligations.SalvosRun := by
  unfold Obligations.SalvosRun
  refine ⟨fun s rq n image _ ha => ?store, fun s rq v hfits ha => ?fire,
    fun s line v _ hv hrun hmode hlog hrange hbound hprot hadmission => ?field,
    fun s e hrun hevents hdue hkind _ hplace hnodup => ?execute⟩
  case store =>
    obtain ⟨u, -, after⟩ := request_commits_streams ha
    have hblob : (u.putBlob 0x1110 n image).blob 0x1110 n = image := by rw [State.putBlob_blob, if_pos rfl]
    exact act_does (f := fun u => request u rq opWrite 0x1110 n image (salvoHandler u n image)) rfl
      ((after.blob 0x1110 n).trans hblob)
  case fire =>
    obtain ⟨u, before, after⟩ := request_commits_streams ha
    obtain ⟨e, hevents, hkind, harg, himage⟩ := fireHandler_commit_captures u (range_of_isAccepted ha)
    rw [before.events] at hevents
    rw [valueBytes_value hfits] at harg himage
    rw [before.streams.blob] at himage
    exact act_does (f := fun u => request u rq opWrite 0x1110 0x40 (valueBytes rq v) (fireHandler u rq (valueBytes rq v))) rfl
      ⟨e, after.events.trans hevents, hkind, harg, himage⟩
  case field =>
    have captures := fireFromField_captures (s := s.fresh) hmode hlog hrange hbound hprot hadmission
    refine actRunning_does rfl hrun ?_
    rw [Nat.mod_eq_of_lt hv]
    exact captures
  case execute =>
    refine actRunning_does rfl hrun ?_
    intro i hi
    have hfire : fireNext s.fresh [2] = fireSalvo s.fresh e :=
      (fireNext_alone (s := s.fresh) hevents hdue (by simp [hkind])).trans (if_neg (by omega))
    obtain ⟨hindex, hsub⟩ := hplace i hi
    calc _ = (fireSalvo s.fresh e).elem i.1 i.2.1 := congrArg (State.elem · i.1 i.2.1) hfire
      _ = (e.image.foldl enterEntry s.fresh).elem i.1 i.2.1 := fireSalvo_elem _ e (by omega) hsub
      _ = i.2.2 := foldl_enterEntry_elem (fun x hx => (hplace x hx).2) hnodup hi _

end Sys2Proof.Machine
end

section
/-! SUPPORT. A window's bytes and its operation, what leaves them alone, and the proofs of the statement on capture and insert
windows (R285, R286, R469, R484-R486, R549). -/

namespace Sys2Proof.Machine

/-! Bytes of a window (R286). -/

/-- A run of bytes stored from `off + k` on. -/
theorem foldl_mapSet_zipIdx (b : List Byte) (off k a : Nat) (m : SMap Byte) :
    mapGet byteD ((b.zipIdx k).foldl (fun (m : SMap Byte) e => mapSet byteD m (off + e.2) e.1) m) a =
      if off + k ≤ a then b[a - (off + k)]?.getD (mapGet byteD m a) else mapGet byteD m a := by
  induction b generalizing k m with
  | nil => simp
  | cons x b ih =>
    rw [List.zipIdx_cons, List.foldl_cons, ih, mapGet_mapSet]
    rcases Nat.lt_trichotomy a (off + k) with hlt | rfl | hgt
    · rw [if_neg (by omega), if_neg (by omega), if_neg (by omega)]
    · rw [if_neg (by omega), if_pos rfl, if_pos (Nat.le_refl _), Nat.sub_self, List.getElem?_cons_zero, Option.getD_some]
    · obtain ⟨i, rfl⟩ : ∃ i, a = off + (k + 1) + i := ⟨a - (off + (k + 1)), by omega⟩
      have hi : off + (k + 1) + i - (off + k) = i + 1 := by omega
      rw [if_pos (by omega), if_neg (by omega), if_pos (by omega), hi, List.getElem?_cons_succ, Nat.add_sub_cancel_left]

/-- What a byte of a window is after bytes are stored in it. -/
theorem putWin_byte (s : State) (w off : Nat) (b : List Byte) (a : Nat) :
    mapGet byteD (mapGet winD (putWin s w off b).winBytes w) a =
      if off ≤ a then b[a - off]?.getD (mapGet byteD (mapGet winD s.winBytes w) a)
      else mapGet byteD (mapGet winD s.winBytes w) a := by
  unfold putWin
  rw [mapGet_mapSet, if_pos rfl, foldl_mapSet_zipIdx, Nat.add_zero]

/-- Bytes stored read back (R469). -/
theorem readWin_putWin (s : State) (w off : Nat) (b : List Byte) : (putWin s w off b).readWin w off b.length = b := by
  refine List.ext_getElem (by simp [State.readWin]) fun i _ hi => ?_
  simp [State.readWin, putWin_byte, hi]

/-- Bytes beside those stored stay. -/
theorem putWin_byte_outside (s : State) (w : Nat) {off a : Nat} {b : List Byte} (ha : a < off ∨ off + b.length ≤ a) :
    mapGet byteD (mapGet winD (putWin s w off b).winBytes w) a = mapGet byteD (mapGet winD s.winBytes w) a := by
  rw [putWin_byte]
  rcases ha with hbefore | hafter
  · rw [if_neg (by omega)]
  · rw [if_pos (by omega), List.getElem?_eq_none (by omega), Option.getD_none]

theorem readWin_of_winBytes {s t : State} (h : t.winBytes = s.winBytes) (w off n : Nat) :
    t.readWin w off n = s.readWin w off n := by rw [State.readWin, h]; rfl

/-! The card port (R469). -/

theorem emit_card (s : State) (b : List Byte) : s.emit (.card b) = { s with emitted := s.emitted ++ [.card b] } :=
  if_neg Bool.false_ne_true

/-- A read within a window on which nothing runs. -/
theorem windowRead_sends {s : State} {w off n : Nat} (hw : w < 16) (hsize : off + n ≤ s.winSize w)
    (hidle : (s.window w).state ≠ 2) :
    windowRead s w off n = { s with emitted := s.emitted ++ [.card (s.readWin w off n)] } := by
  have hguard : ¬ (16 ≤ w ∨ s.winSize w < off + n ∨ ((s.window w).state = 2 ∧ winOp (s.window w).command = 1)) := by
    rintro (h | h | h)
    · omega
    · omega
    · exact hidle h.1
  exact (if_neg hguard).trans (emit_card ..)

/-- A write within a window on which nothing runs. -/
theorem windowWrite_stores {s : State} {w off : Nat} {data : List Byte} (hw : w < 16) (hsize : off + data.length ≤ s.winSize w)
    (hidle : (s.window w).state ≠ 2) : windowWrite s w off data = putWin s w off data := by
  refine if_neg ?_
  rintro (h | h | h)
  · omega
  · omega
  · exact hidle h

/-! Commands to a window (R484-R486). -/

theorem Answers.windows {s t : State} (h : Answers s t) : t.windows = s.windows := by rw [h.rest]
theorem Answers.winBytes {s t : State} (h : Answers s t) : t.winBytes = s.winBytes := by rw [h.rest]
theorem Streams.windows {s t : State} (h : Streams s t) : t.windows = s.windows := by rw [h.rest]

theorem window_of_windows {s t : State} (h : t.windows = s.windows) (w : Nat) : t.window w = s.window w := by
  rw [State.window, h]; rfl

theorem winBusy_of_windows {s t : State} (h : t.windows = s.windows) (w : Nat) : t.winBusy w = s.winBusy w := by
  rw [State.winBusy, window_of_windows h]; rfl

/-- A field replaced reads as its new value, cut to the field (R4). -/
theorem bits_setBits (v : Word) {lo hi : Nat} (h : lo ≤ hi) (x : Nat) :
    bits (setBits v hi lo x) hi lo = x % 2 ^ (hi + 1 - lo) := by
  have hpow : 2 ^ (hi + 1) = 2 ^ lo * 2 ^ (hi + 1 - lo) := by rw [← Nat.pow_add]; congr 1; omega
  have hword : setBits v hi lo x =
      2 ^ lo * (2 ^ (hi + 1 - lo) * (v / 2 ^ (hi + 1)) + x % 2 ^ (hi + 1 - lo)) + v % 2 ^ lo := by
    rw [setBits, hpow, Nat.mul_add (2 ^ lo), Nat.mul_comm (2 ^ lo) (x % _), Nat.mul_comm (v / _), Nat.mul_assoc]
  rw [bits, hword, Nat.mul_add_div (Nat.two_pow_pos lo), Nat.div_eq_of_lt (Nat.mod_lt _ (Nat.two_pow_pos lo)), Nat.add_zero,
    Nat.mul_add_mod, Nat.mod_mod]

/-- OP of a window command that has its OP put in (R484). -/
theorem winOp_setBits (v : Word) {x : Nat} (hx : x < 16) : winOp (setBits v 191 188 x) = x :=
  (bits_setBits v (by decide) x).trans (Nat.mod_eq_of_lt hx)

/-- An accepted command leaves of the operations what its commit leaves: `u` is the state at the commit. -/
theorem windowCommand_commits {s : State} {rq : Rq} {w : Nat} {b : List Byte}
    (ha : isAccepted s rq opWrite 0x1300 w b (windowHandler s w b)) : ∃ u : State, u.windows = s.windows ∧
      (request s rq opWrite 0x1300 w b (windowHandler s w b)).windows = ((windowHandler s w b).commit u).windows := by
  obtain ⟨u, before, after⟩ := request_commits_streams ha
  exact ⟨u, before.windows, after.windows⟩

/-- An operation that waits for its START, with nothing played or stored yet. -/
def waitsWith (op : WindowOp) (v : Word) : Prop := op.state = 1 ∧ op.command = v ∧ op.done = 0

/-- A command with an OP other than STOP (R484-R486). -/
theorem windowHandler_starts (s u : State) (w : Nat) {b : List Byte} {v : Word} (hv : ofBytes b = v) (hop : winOp v ≠ 3) :
    waitsWith (((windowHandler s w b).commit u).window w) v := by
  subst hv
  have hstart : windowHandler s w b = startHandler s w b := if_neg hop
  rw [hstart]
  simp [startHandler, waitsWith]

/-- A STOP to an operation that waits or runs (R484). -/
theorem windowHandler_stops (s : State) {u : State} {w : Nat} {b : List Byte} (hop : winOp (ofBytes b) = 3)
    (hbusy : u.winBusy w = true) : ((windowHandler s w b).commit u).window w = { u.window w with stopping := true } := by
  have hcommit : (windowHandler s w b).commit u = u.setWindow w { u.window w with stopping := true } := by
    unfold windowHandler
    rw [if_pos hop]
    exact if_pos hbusy
  rw [hcommit, State.setWindow_window, if_pos rfl]

/-- A capture or an insert, from its command to the operation that waits (R485, R486). -/
theorem windowCommand_starts {s : State} {rq : Rq} {w : Nat} {v : Word} {op : Nat} (hop : op < 3)
    (hfits : rq.fits (setBits v 191 188 op) = true)
    (ha : isAccepted s rq opWrite 0x1300 w (valueBytes rq (setBits v 191 188 op))
      (windowHandler s w (valueBytes rq (setBits v 191 188 op)))) :
    waitsWith ((request s rq opWrite 0x1300 w (valueBytes rq (setBits v 191 188 op))
      (windowHandler s w (valueBytes rq (setBits v 191 188 op)))).window w) (setBits v 191 188 op) := by
  obtain ⟨u, -, after⟩ := windowCommand_commits ha
  have hcode : winOp (setBits v 191 188 op) ≠ 3 := by
    rw [winOp_setBits v (by omega)]
    omega
  rw [window_of_windows after]
  exact windowHandler_starts s u w (valueBytes_value hfits) hcode

/-- A STOP, from its command to the operation that is to stop (R484). -/
theorem windowCommand_stops {s : State} {rq : Rq} {w : Nat} {v : Word} (hfits : rq.fits (setBits v 191 188 3) = true)
    (hbusy : s.winBusy w = true) (ha : isAccepted s rq opWrite 0x1300 w (valueBytes rq (setBits v 191 188 3))
      (windowHandler s w (valueBytes rq (setBits v 191 188 3)))) :
    (request s rq opWrite 0x1300 w (valueBytes rq (setBits v 191 188 3))
      (windowHandler s w (valueBytes rq (setBits v 191 188 3)))).window w = { s.window w with stopping := true } := by
  obtain ⟨u, before, after⟩ := windowCommand_commits ha
  have hcode : winOp (ofBytes (valueBytes rq (setBits v 191 188 3))) = 3 := by
    rw [valueBytes_value hfits, winOp_setBits v (by decide)]
  rw [window_of_windows after, windowHandler_stops s hcode ((winBusy_of_windows before w).trans hbusy),
    window_of_windows before]

/-- A START that has come (R485, R486). -/
theorem windowStart_runs {s : State} {w : Nat} (hstate : (s.window w).state = 1)
    (hdue : s.tpTime (winPlane (s.window w).command) (s.window w).startTp ≤ s.now) :
    (windowStart s w).window w = { s.window w with state := 2 } := by
  have hstart : windowStart s w = s.setWindow w { s.window w with state := 2 } := if_pos ⟨hstate, hdue⟩
  rw [hstart, State.setWindow_window, if_pos rfl]

/-! The end of an operation (R484-R486, R456). -/

theorem logEvent_answers (s : State) (i k : Nat) (old new : Word) (p : Nat) (b : Bool) (st : Nat) :
    Answers s (logEvent s i k old new p b st) := by
  unfold logEvent
  exact .ite (answers_log _ _) (appendLog_answers _ _)

theorem notify_answers (s : State) (rq : Rq) (i k st : Nat) (d : List Byte) : Answers s (notify s rq i k st d) := by
  unfold notify
  split
  · exact .refl s
  · exact (sendFrame_answers _ _ _).trans (answers_req _ _)

theorem finishWaiting_answers (s : State) (i k st : Nat) (d : List Byte) : Answers s (finishWaiting s i k st d) := by
  unfold finishWaiting
  split
  · exact (answers_req _ _).trans (notify_answers _ _ _ _ _ _)
  · exact .refl s

/-- An operation that has ended without failure: stopped or complete (R484). -/
def WindowOp.ended (op : WindowOp) : WindowOp := { op with state := if op.stopping then 4 else 3 }

/-- A capture leaves its header in the window (R286). -/
def State.withHeader (s : State) (w : Nat) : State :=
  if winOp (s.window w).command = 1 then putWin s w 0 (toBytes 16 (s.captureHeader w)) else s

theorem putWin_window (s : State) (w off : Nat) (b : List Byte) (k : Nat) : (putWin s w off b).window k = s.window k := rfl

theorem withHeader_window (s : State) (w k : Nat) : (s.withHeader w).window k = s.window k := by
  unfold State.withHeader
  split
  · exact putWin_window ..
  · rfl

/-- Where no frame of a video capture is still to be filled, an operation that is over ends, and its host is told. -/
theorem windowEnd_answers {s : State} {w : Nat} (hstate : (s.window w).state = 2) (hdma : s.dmaStopped = false)
    (haudio : winOp (s.window w).command = 1 → s.winAudio w = true) (hover : s.windowOver w = true) :
    Answers ((s.withHeader w).setWindow w (s.window w).ended) (windowEnd s w) := by
  have hguard : ¬ ((s.window w).state ≠ 2 ∨ s.dmaStopped = true) := by simp [hstate, hdma]
  have hfilled : ¬ (winOp (s.window w).command = 1 && !s.winAudio w) = true := by simpa using haudio
  have hend : windowEnd s w =
      finishWaiting ((s.withHeader w).setWindow w ((s.withHeader w).window w).ended) 0x1300 w stOk [] := by
    unfold windowEnd
    rw [if_neg hguard]
    dsimp only
    rw [if_neg hfilled, if_neg (by simp [hover])]
    rfl
  rw [hend, withHeader_window]
  exact finishWaiting_answers ..

/-- The header is what the window of a capture then holds. -/
theorem withHeader_readWin {s : State} {w : Nat} (hop : winOp (s.window w).command = 1) :
    (s.withHeader w).readWin w 0 16 = toBytes 16 (s.captureHeader w) := by
  have hread := readWin_putWin s w 0 (toBytes 16 (s.captureHeader w))
  rw [toBytes_length] at hread
  rw [State.withHeader, if_pos hop, hread]

/-- The operation has stopped or is complete. -/
theorem Answers.windowEnded {s t : State} {w : Nat} (h : Answers ((s.withHeader w).setWindow w (s.window w).ended) t) :
    (t.window w).state = if (s.window w).stopping then 4 else 3 := by
  rw [window_of_windows h.windows, State.setWindow_window, if_pos rfl]
  rfl

/-- An insert with nothing more to play is over (R486). -/
theorem windowOver_insert {s : State} {w : Nat} (hop : winOp (s.window w).command = 2) (hnext : s.insertNext w = none) :
    s.windowOver w = true := by
  unfold State.windowOver
  simp only [hop, hnext, if_true, Option.isNone_none]

/-- A capture that is to stop is over (R485). -/
theorem windowOver_stopping {s : State} {w : Nat} (hop : winOp (s.window w).command = 1)
    (hstop : (s.window w).stopping = true) : s.windowOver w = true := by
  unfold State.windowOver
  simp [hop, hstop]

/-! A DMA channel that halts (R549, R518). -/

/-- The operation of window `w` runs, or has failed. -/
def State.runsOrFailed (s : State) (w : Nat) : Prop := (s.window w).state = 2 ∨ (s.window w).state = 5

/-- Halted channels stay halted, and an operation that runs does not end but in failure. -/
structure HoldsHalt (w : Nat) (s t : State) : Prop where
  halted : t.faults.dmaHalted = s.faults.dmaHalted
  window : s.runsOrFailed w → t.runsOrFailed w

section
variable {w : Nat}

theorem HoldsHalt.refl (s : State) : HoldsHalt w s s := ⟨rfl, id⟩

theorem HoldsHalt.trans {s t u : State} (h : HoldsHalt w s t) (h' : HoldsHalt w t u) : HoldsHalt w s u :=
  ⟨h'.halted.trans h.halted, h'.window ∘ h.window⟩

theorem HoldsHalt.ite {s t u : State} {c : Prop} [Decidable c] (h : HoldsHalt w s t) (h' : HoldsHalt w s u) :
    HoldsHalt w s (if c then t else u) := by split <;> assumption

theorem HoldsHalt.foldl {α : Type} {f : State → α → State} (hf : ∀ s a, HoldsHalt w s (f s a)) (l : List α) (s : State) :
    HoldsHalt w s (l.foldl f s) := by
  induction l generalizing s with
  | nil => exact .refl s
  | cons a l ih => exact (hf s a).trans (ih _)

theorem HoldsHalt.of_fields {s t : State} (hhalted : t.faults.dmaHalted = s.faults.dmaHalted) (hwindows : t.windows = s.windows) :
    HoldsHalt w s t :=
  ⟨hhalted, fun h => by rwa [State.runsOrFailed, window_of_windows hwindows]⟩

theorem Answers.holdsHalt {s t : State} (h : Answers s t) : HoldsHalt w s t :=
  .of_fields (congrArg FaultSt.dmaHalted h.sameFaults.faults) h.windows

theorem logEvent_holdsHalt (s : State) (i k : Nat) (old new : Word) (p : Nat) (b : Bool) (st : Nat) :
    HoldsHalt w s (logEvent s i k old new p b st) := (logEvent_answers s i k old new p b st).holdsHalt

theorem disarm_holdsHalt (s : State) (scope : Nat) : HoldsHalt w s (disarm s scope) := by
  refine .foldl (fun u b => ?_) _ _
  exact .ite (.of_fields rfl rfl) (.refl u)

theorem discardEvent_holdsHalt (s : State) (e : Event) (st : Nat) : HoldsHalt w s (discardEvent s e st) := by
  unfold discardEvent
  extract_lets dropped disarmed pair drilled
  have drops : HoldsHalt w s dropped := .of_fields rfl rfl
  have disarms : HoldsHalt w s disarmed := .ite (drops.trans (disarm_holdsHalt ..)) drops
  have drills : HoldsHalt w s drilled := disarms.trans (.ite (.of_fields rfl rfl) (.refl _))
  split
  extract_lets logged
  have logs : HoldsHalt w s logged := drills.trans (logEvent_holdsHalt ..)
  split
  · exact .ite (logs.trans (notify_answers ..).holdsHalt) logs
  · exact logs

theorem cancelMove_holdsHalt (s : State) (m : Move) : HoldsHalt w s (cancelMove s m) := by
  unfold cancelMove
  extract_lets dropped sided
  have drops : HoldsHalt w s dropped := .of_fields rfl rfl
  have sides : HoldsHalt w dropped sided := .ite (.of_fields rfl rfl) (.refl _)
  exact drops.trans (sides.trans (logEvent_holdsHalt ..))

theorem abandonTransfers_holdsHalt (s : State) (st : Nat) : HoldsHalt w s (abandonTransfers s st) := by
  unfold abandonTransfers
  exact (answers_req _ _).holdsHalt.trans (.foldl (fun _ _ => (notify_answers ..).holdsHalt) _ _)

theorem setMode_holdsHalt (s : State) (m : Mode) : HoldsHalt w s (setMode s m) := by
  have moded : HoldsHalt w s { s with mode := m } := .of_fields rfl rfl
  unfold setMode
  exact .ite (.refl s) (moded.trans (logEvent_holdsHalt ..))

theorem endStaging_holdsHalt (s : State) (r : Nat) (st : Option Nat) : HoldsHalt w s (endStaging s r st) := by
  unfold endStaging
  refine .ite ?_ (.refl s)
  extract_lets spareB empty boot ended
  have ends : HoldsHalt w s ended := .of_fields rfl rfl
  cases st with
  | some st => exact ends.trans (finishWaiting_answers ..).holdsHalt
  | none => exact .of_fields rfl rfl

/-- A window whose operation fails: state 5 where one waited or ran (R518). -/
theorem failWindow_window (st : Nat) (s : State) (k j : Nat) : (failWindow st s k).window j =
    if j = k ∧ ((s.window k).state = 1 ∨ (s.window k).state = 2) then { s.window k with state := 5 } else s.window j := by
  unfold failWindow
  extract_lets op
  by_cases hbusy : op.state = 1 ∨ op.state = 2
  · rw [if_pos hbusy, window_of_windows (finishWaiting_answers ..).windows, State.setWindow_window]
    exact ite_congr (propext (iff_self_and.2 fun _ => hbusy)) (fun _ => rfl) fun _ => rfl
  · rw [if_neg hbusy, if_neg fun h => hbusy h.2]

theorem failWindow_holdsHalt (st : Nat) (s : State) (k : Nat) : HoldsHalt w s (failWindow st s k) := by
  refine ⟨congrArg FaultSt.dmaHalted (failWindow_sameFaults st s k).faults, fun h => ?_⟩
  rw [State.runsOrFailed, failWindow_window]
  split
  · exact .inr rfl
  · exact h

theorem dropClaim_holdsHalt (s : State) : HoldsHalt w s (dropClaim s) := .of_fields rfl rfl

theorem failSpools_holdsHalt (s : State) : HoldsHalt w s (failSpools s) := .of_fields rfl rfl

theorem enterFaulted_holdsHalt (s : State) (n : Nat) (d : Word) : HoldsHalt w s (enterFaulted s n d) := by
  unfold enterFaulted
  extract_lets what faults stopped entered discarded cancelled abandoned failed
  have stops : HoldsHalt w s stopped := .of_fields rfl rfl
  have enters : HoldsHalt w stopped entered := (setMode_holdsHalt ..).trans (dropClaim_holdsHalt _)
  have discards : HoldsHalt w entered discarded := .foldl (fun _ _ => discardEvent_holdsHalt ..) _ _
  have cancels : HoldsHalt w discarded cancelled := .foldl cancelMove_holdsHalt _ _
  have fails : HoldsHalt w abandoned failed := .foldl (failWindow_holdsHalt stFaulted) _ _
  exact stops.trans <| .ite (.refl _) <| enters.trans <| discards.trans <| cancels.trans <|
    (abandonTransfers_holdsHalt ..).trans <| fails.trans <| (endStaging_holdsHalt ..).trans (failSpools_holdsHalt _)

theorem noteFault_holdsHalt (s : State) (n : Nat) (d : Word) (l f : Bool) (p : Nat) :
    HoldsHalt w s (noteFault s n d l f p) := by
  unfold noteFault
  extract_lets detail src cls old count logIt histIt src' entry noted logged faults latched pair told
  have notes : HoldsHalt w s noted := .of_fields rfl rfl
  have logs : HoldsHalt w noted logged := .ite (logEvent_holdsHalt ..) (.refl _)
  have tells : HoldsHalt w logged told := .of_fields rfl rfl
  exact notes.trans (logs.trans (tells.trans (.ite (emit_answers ..).holdsHalt (.refl _))))

theorem declareFault_holdsHalt (s : State) (n : Nat) (d : Word) (l f : Bool) (p : Nat) :
    HoldsHalt w s (declareFault s n d l f p) := by
  unfold declareFault
  exact .ite ((noteFault_holdsHalt ..).trans (enterFaulted_holdsHalt ..)) (noteFault_holdsHalt ..)

end

/-- One more DMA channel stands halted. -/
def State.withHalted (s : State) (channel : Nat) : State :=
  { s with faults := { s.faults with dmaHalted := channel :: s.faults.dmaHalted } }

theorem dmaHalts_free {s : State} {h : DmaHalt} (f : State → State) (hfree : h.channel ∉ s.faults.dmaHalted) :
    dmaHalts s h f = f (declareFault ((s.count 0xB200 (0x20 + h.memory)).withHalted h.channel) 0x00C
      (h.channel * 2 ^ 56 + h.address % 2 ^ 32)) :=
  if_neg fun hhalted => hfree (List.contains_iff_mem.1 hhalted)

/-- A channel that halts is declared, and ends the operation that it serves (R549). -/
theorem dmaHalts_fails {s : State} {h : DmaHalt} {w : Nat} (st : Nat) (hrunning : (s.window w).state = 2)
    (hfree : h.channel ∉ s.faults.dmaHalted) :
    ((dmaHalts s h fun u => failWindow st u w).window w).state = 5 ∧
      h.channel ∈ (dmaHalts s h fun u => failWindow st u w).faults.dmaHalted ∧
      ((dmaHalts s h fun u => failWindow st u w).source 0x00C).count = satAdd 24 (s.source 0x00C).count 1 := by
  rw [dmaHalts_free _ hfree]
  have declares : HoldsHalt w ((s.count 0xB200 (0x20 + h.memory)).withHalted h.channel)
    (declareFault ((s.count 0xB200 (0x20 + h.memory)).withHalted h.channel) 0x00C
      (h.channel * 2 ^ 56 + h.address % 2 ^ 32)) := declareFault_holdsHalt ..
  refine ⟨?_, ?_, ?_⟩
  · rw [failWindow_window]
    split
    · rfl
    · next hidle => exact (declares.window (.inl hrunning)).resolve_left fun hruns => hidle ⟨rfl, .inr hruns⟩
  · rw [(failWindow_sameFaults ..).faults, declares.halted]
    exact List.mem_cons_self
  · rw [(failWindow_sameFaults ..).source]
    exact (declareFault_declares ..).count

/-- Settles O33: a port command by the bytes it reads or stores, a command to a window by its commit, an end by the answer that
is left once the operation is over, and a halt by what a declaration leaves of a running operation. -/
theorem windowsRun : Obligations.WindowsRun := by
  unfold Obligations.WindowsRun
  refine ⟨fun s w off n hw hrun hsize hidle => ?read, fun s w off data hw hrun hsize hidle => ?write,
    fun s rq w v hfits ha => ?capture, fun s rq w v hfits ha => ?insert, fun s rq w v hfits hbusy ha => ?stop,
    fun s w hw hrun hstate hdue => ?start, fun s w hw hrun hstate hop hnext hdma => ?insertEnd,
    fun s w hw hrun hstate hop haudio hstop hdma => ?captureEnd, fun s w h hw hrun hstate hfree => ?halt⟩
  case read =>
    refine actRunning_does rfl hrun ?_
    rw [windowRead_sends (s := s.fresh) hw hsize hidle]
    exact ⟨rfl, rfl⟩
  case write =>
    refine actRunning_does rfl hrun ?_
    rw [windowWrite_stores (s := s.fresh) hw hsize hidle]
    exact ⟨readWin_putWin s.fresh w off data, fun a ha => putWin_byte_outside s.fresh w ha⟩
  case capture =>
    exact act_does (f := fun u => request u rq opWrite 0x1300 w (valueBytes rq (setBits v 191 188 1))
      (windowHandler u w (valueBytes rq (setBits v 191 188 1)))) rfl (windowCommand_starts (by decide) hfits ha)
  case insert =>
    exact act_does (f := fun u => request u rq opWrite 0x1300 w (valueBytes rq (setBits v 191 188 2))
      (windowHandler u w (valueBytes rq (setBits v 191 188 2)))) rfl (windowCommand_starts (by decide) hfits ha)
  case stop =>
    have stops := windowCommand_stops (s := s.fresh) hfits hbusy ha
    have hstopping := congrArg WindowOp.stopping stops
    have hstate := congrArg WindowOp.state stops
    exact act_does (f := fun u => request u rq opWrite 0x1300 w (valueBytes rq (setBits v 191 188 3))
      (windowHandler u w (valueBytes rq (setBits v 191 188 3)))) rfl ⟨hstopping, hstate⟩
  case start => exact onUnit_does rfl hw hrun (windowStart_runs (s := s.fresh) hstate hdue)
  case insertEnd =>
    have ends := windowEnd_answers (s := s.fresh) hstate hdma (fun h => absurd (h.symm.trans hop) (by decide))
      (windowOver_insert hop hnext)
    exact onUnit_does rfl hw hrun ends.windowEnded
  case captureEnd =>
    have ends := windowEnd_answers (s := s.fresh) hstate hdma (fun _ => haudio) (windowOver_stopping hop hstop)
    refine onUnit_does rfl hw hrun ⟨ends.windowEnded.trans (if_pos hstop), ?_⟩
    calc _ = (s.fresh.withHeader w).readWin w 0 16 := readWin_of_winBytes ends.winBytes w 0 16
      _ = toBytes 16 (s.captureHeader w) := withHeader_readWin (s := s.fresh) hop
  case halt =>
    have hserves : (if (s.fresh.window w).state = 2 then dmaHalts s.fresh h fun u => failWindow stType u w else s.fresh) =
        dmaHalts s.fresh h fun u => failWindow stType u w := if_pos hstate
    have fails := dmaHalts_fails (s := s.fresh) stType hstate hfree
    rw [← hserves] at fails
    exact onUnit_does rfl hw hrun fails

end Sys2Proof.Machine
end

section
/-! SUPPORT. Proofs of the statement on the audio period, gain steps, delay crossfades and metering (R293, R311, R315, R319). -/

namespace Sys2Proof.Machine

/-! What is sent changes nothing but the list of emissions. -/

theorem emit_fresh (s : State) (e : Emission) : (s.emit e).fresh = s.fresh := by
  obtain ⟨es, h⟩ := emit_eq_emitted s e
  rw [h]
  rfl

theorem mirror_fresh (s : State) (k o : Nat) (v : Word) : (mirror s k o v).fresh = s.fresh := by
  unfold mirror
  split
  · exact (emit_fresh ..).trans (emit_fresh ..)
  · rfl

theorem trackMix_fresh (s : State) : (trackMix s).fresh = s.fresh := by
  unfold trackMix
  split
  · exact foldl_keeps State.fresh (fun _ _ => emit_fresh ..) _ s
  · rfl

/-! The period (R293). -/

theorem audioPeriod_marks {s : State} (frames : List (Nat × List (List Nat))) (h : s.period ≠ some s.gridNow) :
    (audioPeriod s frames).period = some s.gridNow ∧ (audioPeriod s frames).mix.computed = false := by
  unfold audioPeriod
  dsimp only
  rw [if_neg h]
  exact ⟨rfl, rfl⟩

theorem audioPeriod_does {s : State} (frames : List (Nat × List (List Nat))) (hrun : s.running = true)
    (h : s.period ≠ some s.gridNow) :
    does (.audioPeriod frames) s fun t => t.period = some s.gridNow ∧ t.mix.computed = false := by
  obtain ⟨hperiod, hmix⟩ := audioPeriod_marks (s := s.fresh) frames h
  have tracked := trackMix_fresh (audioPeriod s.fresh frames)
  refine actRunning_does rfl hrun ⟨?_, ?_⟩
  · exact (congrArg State.period tracked).trans hperiod
  · exact (congrArg (fun t => t.mix.computed) tracked).trans hmix

/-! Gains (R311). -/

/-- A gain on its way to its target whose last step is a timeout old. -/
def State.gainLate (s : State) (g : GainSt) : Prop := g.now ≠ g.target ∧ g.stepAt + s.gainTimeout ≤ s.up

theorem gainTimeoutStep_aout {s : State} {n : Nat} (hn : n < 0x10000) (h : s.gainLate (s.aoutSlot n).gain) :
    ((gainTimeoutStep s n).aoutSlot n).gain = (s.aoutSlot n).gain.step s.up := by
  unfold gainTimeoutStep
  extract_lets late x
  have hlate : late x.gain = true := by simpa [late, State.gainLate] using h
  rw [if_pos hn, if_pos hlate, State.setAout_aoutSlot, if_pos rfl]

theorem gainTimeoutStep_side {s : State} (n : Nat) (h : s.gainLate (mapGet gainD s.sideGains n)) :
    mapGet gainD (gainTimeoutStep s (0x10000 + n)).sideGains n = (mapGet gainD s.sideGains n).step s.up := by
  unfold gainTimeoutStep
  extract_lets late x g
  have hslot : 0x10000 + n - 0x10000 = n := Nat.add_sub_cancel_left ..
  have hg : g = mapGet gainD s.sideGains n := by rw [← hslot]
  have hlate : late g = true := by simpa [late, State.gainLate, hg] using h
  rw [if_neg (by omega), if_pos hlate, hslot, hg, mapGet_mapSet, if_pos rfl]

theorem gainStepTimeout_side_does {s : State} {n : Nat} {P : State → Prop} (hn : n < 256) (hrun : s.running = true)
    (hp : P { gainTimeoutStep s.fresh (0x10000 + n) with pending := s.pending }) : does (.gainStepTimeout (0x10000 + n)) s P := by
  have hexec : exec (.gainStepTimeout (0x10000 + n)) s =
      onUnit (0x10000 + n - 0x10000 + (if 0x10000 + n < 0x10000 then 256 else 0)) 256 s
        fun s => gainTimeoutStep s (0x10000 + n) := if_neg (by omega)
  exact onUnit_does hexec (by rw [if_neg (by omega)]; omega) hrun hp

/-! Delays (R315). -/

/-- A crossfade of 240 samples or more to the requested delay ends. -/
theorem settleDelay_ended {x : AinSlot} {i : Nat} (hat : x.at_ = some i) (hi : 240 ≤ i) :
    settleDelay x.delay x = { x with at_ := none } := by
  unfold settleDelay
  extract_lets ended
  have hended : ended = { x with at_ := none } := if_pos (by simp [hat, hi])
  rw [if_neg (by simp [hended]), hended]

theorem delayCrossfadeEnd_does {s : State} {n i : Nat} (hn : n < 49152) (hrun : s.running = true)
    (hgroup : s.flag 0x7410 n 15 = true) (hat : (s.ainSlot n).at_ = some i) (hi : 240 ≤ i)
    (hdelay : s.eff 0x7420 n = (s.ainSlot n).delay) :
    does (.delayCrossfadeEnd n) s fun t => (t.ainSlot n).at_ = none ∧ (t.ainSlot n).delay = (s.ainSlot n).delay := by
  have hgroup' : s.fresh.flag 0x7410 n 15 = true := hgroup
  have settles : (s.fresh.setAin n (settleDelay (s.eff 0x7420 n) (s.ainSlot n))).ainSlot n = { s.ainSlot n with at_ := none } := by
    rw [State.setAin_ainSlot, if_pos rfl, hdelay, settleDelay_ended hat hi]
  refine onUnit_does rfl hn hrun ?_
  dsimp only
  rw [if_pos hgroup']
  exact ⟨congrArg AinSlot.at_ settles, (congrArg AinSlot.delay settles :)⟩

/-! Meters (R319). -/

theorem meterTick_meterAt {s : State} (h : intervalOf s.gridNow ≠ s.meterAt) :
    (meterTick s).meterAt = intervalOf s.gridNow := by
  unfold meterTick
  rw [if_neg h]
  rfl

/-- Settles O18: a period by the marks its last step sets, which the records to the partner leave alone, a gain by the step it
takes once it is late, a crossfade by the end of its fade, a metering interval by its number. -/
theorem audioPeriodRuns : Obligations.AudioPeriodRuns := by
  unfold Obligations.AudioPeriodRuns
  refine ⟨fun s frames hrun hperiod => ?period, fun s n hn hrun hgain hlate => ?aout, fun s n hn hrun hgain hlate => ?side,
    fun s n i hn hrun hgroup hat hi hdelay => ?delay, fun s hrun hmeter => ?meter⟩
  case period => exact audioPeriod_does frames hrun hperiod
  case aout =>
    have steps := gainTimeoutStep_aout (s := s.fresh) (n := n) (by omega) ⟨hgain, hlate⟩
    exact actRunning_does (if_pos hn) hrun (congrArg GainSt.now steps)
  case side =>
    have steps := gainTimeoutStep_side (s := s.fresh) n ⟨hgain, hlate⟩
    exact gainStepTimeout_side_does hn hrun (congrArg GainSt.now steps)
  case delay => exact delayCrossfadeEnd_does hn hrun hgroup hat hi hdelay
  case meter => exact actRunning_does rfl hrun (meterTick_meterAt (s := s.fresh) hmeter)

end Sys2Proof.Machine
end

section
/-! SUPPORT. What the bridges and the ports keep through the audio engine's shared operations, and the proofs of the statement on
bridges and port clocks (R297, R299, R303, R307). -/

namespace Sys2Proof.Machine

/-! Bridges and ports after a change, a report and a fault. -/

@[simp] theorem State.setBridge_bridge (s : State) (i : Nat) (x : Bridge) (k : Nat) :
    (s.setBridge i x).bridge k = if k = i then x else s.bridge k := by
  simp [State.setBridge, State.bridge]

theorem bridge_of_bridges {s t : State} (h : t.bridges = s.bridges) (i : Nat) : t.bridge i = s.bridge i := by
  rw [State.bridge, h, State.bridge]

/-- A command on a unit, by what it leaves of bridge `i`. -/
theorem onUnit_bridge_does {c : Instr} {s : State} {n l i : Nat} {f : State → State} {Q : Bridge → Prop}
    (h : exec c s = onUnit n l s f) (hn : n < l) (hr : s.running = true) (hq : Q ((f s.fresh).bridge i)) :
    does c s fun t => Q (t.bridge i) := onUnit_does h hn hr hq

theorem reports.bridges {s t : State} (h : reports s t) : t.bridges = s.bridges := by rw [h.1]
theorem reports.audioPorts {s t : State} (h : reports s t) : t.audioPorts = s.audioPorts := by rw [h.1]
theorem reports.up {s t : State} (h : reports s t) : t.up = s.up := by rw [h.1]; rfl

theorem mirror_bridge (s : State) (k o : Nat) (v : Word) (i : Nat) : (mirror s k o v).bridge i = s.bridge i :=
  bridge_of_bridges (congrArg State.bridges (mirror_fresh s k o v) :) i

theorem mirror_source (s : State) (k o : Nat) (v : Word) (n : Nat) : (mirror s k o v).source n = s.source n :=
  congrArg (mapGet srcD · n) (congrArg (fun t : State => t.faults.src) (mirror_fresh s k o v) :)

theorem settleRate_bridges (s : State) : (settleRate s).bridges = s.bridges := by
  unfold settleRate
  split
  · rfl
  · rfl

/-- A rate error, declared or cleared, changes no bridge (R297, R324). -/
theorem setRateErr_bridge (s : State) (i : Nat) (on : Bool) (k : Nat) : (setRateErr s i on).bridge k = s.bridge k := by
  unfold setRateErr
  extract_lets b marked
  have hmarked : marked.bridges = s.bridges := by
    unfold marked
    split
    · rfl
    · rfl
  refine bridge_of_bridges ?_ k
  split
  · exact (declareFault_reports ..).bridges.trans hmarked
  · exact (settleRate_bridges _).trans hmarked

/-- A rate error is declared at 0x0C1 (R324). -/
theorem setRateErr_count (s : State) (i : Nat) :
    ((setRateErr s i true).source 0x0C1).count = satAdd 24 (s.source 0x0C1).count 1 := by
  unfold setRateErr
  extract_lets b marked
  have hmarked : marked.source 0x0C1 = s.source 0x0C1 := by
    unfold marked
    split
    · rfl
    · rfl
  rw [if_pos rfl, (declareFault_declares marked 0x0C1 i true false 0).count, hmarked]

/-! Bridges in line with their bindings (R296, R300). -/

/-- The state but for its bridges. -/
def State.withoutBridges (s : State) : State := { s with bridges := [] }

theorem syncBridges_withoutBridges (s : State) : (syncBridges s).withoutBridges = s.withoutBridges := by
  unfold syncBridges
  extract_lets wanted fits kept sided
  refine .trans (foldl_keeps State.withoutBridges ?_ _ sided) rfl
  exact fun _ _ => rfl

theorem syncBridges_up (s : State) : (syncBridges s).up = s.up :=
  (congrArg State.up (syncBridges_withoutBridges s) :)

theorem syncBridges_mirrored (s : State) : (syncBridges s).mirrored = s.mirrored :=
  (congrArg State.mirrored (syncBridges_withoutBridges s) :)

/-! A nominal rate is found (R297). -/

/-- A buffer reset to its target leaves the loop of its bridge as it was (R299). -/
theorem resetBuffer_bridge (s : State) (i : Nat) : ∃ buf,
    (resetBuffer s i).bridge i = { s.bridge i with phase := 0, fadeIn := 0, fadeOut := 0, buf := buf } := by
  unfold resetBuffer
  extract_lets b n emptied
  have hemptied : emptied.bridge i = { b with phase := 0, fadeIn := 0, fadeOut := 0, buf := fitQueue [] n b.buf } := by
    simp [emptied]
  refine ⟨fitQueue [] n b.buf, .trans ?_ hemptied⟩
  split
  · refine bridge_of_bridges (foldl_keeps State.bridges ?_ _ emptied) i
    exact fun _ _ => rfl
  · rfl

/-- A bridge whose loop has begun, at a nominal rate's `ratio`. -/
def Bridge.acquired (b : Bridge) (ratio : Int) : Prop := b.st = 1 ∧ b.band = 1 ∧ b.ratio = ratio

theorem acquireBridge_acquired {s : State} {i : Nat} (h : (s.bridge i).st = 1) (n : Nat) (ratio : Int) :
    ((acquireBridge s i (some (n, ratio))).bridge i).acquired ratio := by
  have hst : (s.bridge i).st ≠ 4 := by simp [h]
  unfold acquireBridge
  dsimp only
  rw [if_neg hst]
  obtain ⟨buf, hreset⟩ := resetBuffer_bridge (s.setBridge i { s.bridge i with
    st := 1, nominal := n, ratio := ratio, integ := (ratio : Rat) / 1000000000, band := 1, bandAt := s.up, updAt := s.up }) i
  rw [hreset, State.setBridge_bridge, if_pos rfl]
  exact ⟨rfl, rfl, rfl⟩

theorem bridgeAcquired_acquired {s : State} {i : Nat} {rate : Rat} (hhas : s.hasBridge i = true) (hband : (s.bridge i).band = 0)
    (hst : (s.bridge i).st = 1) (hsince : (s.bridge i).since + 10000000 ≤ s.up) (hkind : (s.bridge i).kind ≤ 2)
    (hlo : ((s.bridge i).nominal : Rat) * 999 / 1000 ≤ rate) (hhi : rate ≤ ((s.bridge i).nominal : Rat) * 1001 / 1000)
    (hown : s.mirrored = false) :
    ((bridgeAcquired s i rate).bridge i).acquired ((rate / (s.bridge i).nominal - 1) * 1000000000).floor := by
  unfold bridgeAcquired
  extract_lets b nominal
  have hguard : ¬ (!s.hasBridge i || b.band != 0 || (b.st != 1 && b.st != 4) || decide (s.up < b.since + 10000000) ||
      s.mirrored) = true := by
    simp [b, hhas, hband, hst, hsince, hown]
  have hnominal : nominal = some b.nominal := (if_pos hkind).trans (if_pos ⟨hlo, hhi⟩)
  rw [if_neg hguard, hnominal]
  dsimp only
  rw [mirror_bridge]
  exact acquireBridge_acquired hst ..

/-! Bandwidth steps (R297). -/

theorem bridgeStep_widens {s : State} {i : Nat} (hhas : s.hasBridge i = true) (hst : (s.bridge i).st = 1)
    (hlo : 1 ≤ (s.bridge i).band) (hhi : (s.bridge i).band ≤ 5) (hdue : (s.bridge i).bandAt + 400000000 ≤ s.up)
    (hown : s.mirrored = false) : (bridgeStep s i).bridge i =
      { s.bridge i with band := (s.bridge i).band + 1, bandAt := s.up, st := if (s.bridge i).band = 5 then 2 else 1 } := by
  unfold bridgeStep
  extract_lets b
  have hband : b.band ≠ 0 := Nat.ne_of_gt hlo
  have hguard : ¬ (!s.hasBridge i || b.st != 1 || b.band == 0 || decide (6 ≤ b.band) ||
      decide (s.up < b.bandAt + 400000000) || s.mirrored) = true := by
    simp [b, hhas, hst, hband, hdue, hown]
    omega
  rw [if_neg hguard, mirror_bridge]
  unfold widenBridge
  rw [State.setBridge_bridge, if_pos rfl]

/-! Ratio updates (R297). -/

/-- The guard on a bridge that acquires or tracks. -/
theorem acquiringOrTracking_of_st {st : Nat} (h : st = 1 ∨ st = 2) : (st != 1 && st != 2) = false := by
  rcases h with rfl | rfl
  · rfl
  · rfl

theorem setRatio_lost {s : State} {i : Nat} {ratio : Int} (h : ratio < -1000000 ∨ 1000000 < ratio) :
    (setRatio s i ratio).bridge i = { s.bridge i with st := 4, band := 0, since := s.up } ∧
      ((setRatio s i ratio).source 0x0C1).count = satAdd 24 (s.source 0x0C1).count 1 := by
  unfold setRatio
  rw [if_pos h]
  refine ⟨?_, setRateErr_count ..⟩
  rw [setRateErr_bridge, State.setBridge_bridge, if_pos rfl]

theorem setRatio_kept {s : State} {i : Nat} {ratio : Int} (h : ¬ (ratio < -1000000 ∨ 1000000 < ratio)) :
    (setRatio s i ratio).bridge i = { s.bridge i with next := some ratio, updAt := s.up } := by
  unfold setRatio
  rw [if_neg h, State.setBridge_bridge, if_pos rfl]

theorem bridgeRatio_sets {s : State} {i : Nat} (error : Rat) (hhas : s.hasBridge i = true) (hband : (s.bridge i).band ≠ 0)
    (hst : (s.bridge i).st = 1 ∨ (s.bridge i).st = 2) (hdue : (s.bridge i).updAt + 1000000 ≤ s.up) (hown : s.mirrored = false) :
    bridgeRatio s i error = mirror (setRatio (s.setBridge i { s.bridge i with integ := ((s.bridge i).loop error).1 }) i
      ((s.bridge i).loop error).2) 6 i (ofSigned 32 ((s.bridge i).loop error).2) := by
  unfold bridgeRatio
  extract_lets b r
  have hguard : ¬ (!s.hasBridge i || b.band == 0 || (b.st != 1 && b.st != 2) || decide (s.up < b.updAt + 1000000) ||
      s.mirrored) = true := by
    simp [b, hhas, hband, acquiringOrTracking_of_st hst, hdue, hown]
  exact if_neg hguard

/-- An update moves the integrator, and its ratio waits for its period or is a rate error. -/
theorem bridgeRatio_tracks {s : State} {i : Nat} (error : Rat) (hhas : s.hasBridge i = true) (hband : (s.bridge i).band ≠ 0)
    (hst : (s.bridge i).st = 1 ∨ (s.bridge i).st = 2) (hdue : (s.bridge i).updAt + 1000000 ≤ s.up) (hown : s.mirrored = false) :
    ((bridgeRatio s i error).bridge i).integ = ((s.bridge i).loop error).1 ∧
      if ((s.bridge i).loop error).2 < -1000000 ∨ 1000000 < ((s.bridge i).loop error).2 then
        ((bridgeRatio s i error).bridge i).st = 4 ∧
          ((bridgeRatio s i error).source 0x0C1).count = satAdd 24 (s.source 0x0C1).count 1
      else ((bridgeRatio s i error).bridge i).next = some ((s.bridge i).loop error).2 ∧
        ((bridgeRatio s i error).bridge i).updAt = s.up := by
  rw [bridgeRatio_sets error hhas hband hst hdue hown, mirror_bridge, mirror_source]
  split
  · next hlost =>
    obtain ⟨hbridge, hcount⟩ := setRatio_lost
      (s := s.setBridge i { s.bridge i with integ := ((s.bridge i).loop error).1 }) (i := i) hlost
    rw [hbridge, State.setBridge_bridge, if_pos rfl]
    exact ⟨rfl, rfl, hcount⟩
  · next hkept =>
    rw [setRatio_kept hkept, State.setBridge_bridge, if_pos rfl]
    exact ⟨rfl, rfl, rfl⟩

/-! A lost source (R299). -/

/-- Whether bridge `i` is without its source: 10 ms without a sample at an input, no clock at the followed port of an output. -/
def State.sourceGone (s : State) (i : Nat) : Prop :=
  (i < 0x1000 ∧ (s.bridge i).lastAt + 10000000 ≤ s.up) ∨
    (0x1000 ≤ i ∧ ∃ p, (s.bridge i).port i = some p ∧ s.portFollows p = true ∧ (s.audioPort (s.followPort p)).clock = false)

theorem bridgeLost_drops {s : State} {i : Nat} (hhas : s.hasBridge i = true) (hst : (s.bridge i).st = 1 ∨ (s.bridge i).st = 2)
    (hgone : s.sourceGone i) (hown : s.mirrored = false) : bridgeLost s i = mirror (dropBridge s i) 10 i 0 := by
  unfold bridgeLost
  extract_lets b lost
  have hlost : lost = true := by
    rcases hgone with ⟨hi, hdue⟩ | ⟨hi, p, hport, hfollows, hclock⟩
    · exact (if_pos hi).trans (decide_eq_true hdue)
    · refine (if_neg (Nat.not_lt.2 hi)).trans ?_
      simp [b, hport, hfollows, hclock]
  have hguard : ¬ (!s.hasBridge i || (b.st != 1 && b.st != 2) || !lost || s.mirrored) = true := by
    simp [b, hhas, acquiringOrTracking_of_st hst, hlost, hown]
  exact if_neg hguard

theorem dropBridge_st (s : State) (i : Nat) : ((dropBridge s i).bridge i).st = if i < 0x1000 then 3 else 5 := by
  unfold dropBridge
  split
  · rw [State.setBridge_bridge, if_pos rfl]
  · rw [setRateErr_bridge, State.setBridge_bridge, if_pos rfl]

theorem bridgeLost_st {s : State} {i : Nat} (hhas : s.hasBridge i = true) (hst : (s.bridge i).st = 1 ∨ (s.bridge i).st = 2)
    (hgone : s.sourceGone i) (hown : s.mirrored = false) :
    ((bridgeLost s i).bridge i).st = if i < 0x1000 then 3 else 5 := by
  rw [bridgeLost_drops hhas hst hgone hown, mirror_bridge, dropBridge_st]

/-! What a frame at a pin clock sets, and what the rest of its work leaves alone (R303, R306, R307). -/

/-- A port's pin clock: whether it runs, its measured rate, its last edge. -/
def PortSt.pinClock (x : PortSt) : Bool × Nat × Rat := (x.clock, x.rate, x.edgeAt)

def State.pinClock (s : State) (p : Nat) : Bool × Nat × Rat := (s.audioPort p).pinClock

theorem pinClock_of_ports {s t : State} (h : t.audioPorts = s.audioPorts) : t.pinClock = s.pinClock := by
  funext p
  rw [State.pinClock, State.audioPort, h, State.pinClock, State.audioPort]

/-- A change of a port that keeps its pin clock keeps them all. -/
theorem setAudioPort_pinClock {s : State} {p : Nat} {x : PortSt} (h : x.pinClock = s.pinClock p) :
    (s.setAudioPort p x).pinClock = s.pinClock := by
  funext k
  rw [State.pinClock, State.setAudioPort_audioPort]
  split
  · next hk => rw [hk, h]
  · rfl

theorem emit_pinClock (s : State) (e : Emission) : (s.emit e).pinClock = s.pinClock :=
  (congrArg State.pinClock (emit_fresh s e) :)

theorem mirror_pinClock (s : State) (k o : Nat) (v : Word) : (mirror s k o v).pinClock = s.pinClock :=
  (congrArg State.pinClock (mirror_fresh s k o v) :)

theorem declareFault_pinClock (s : State) (n : Nat) (d : Word) (l f : Bool) (p : Nat) :
    (declareFault s n d l f p).pinClock = s.pinClock := pinClock_of_ports (declareFault_reports ..).audioPorts

theorem settleRate_pinClock (s : State) : (settleRate s).pinClock = s.pinClock := by
  unfold settleRate
  split
  · rfl
  · rfl

theorem settleClock_pinClock (s : State) : (settleClock s).pinClock = s.pinClock := by
  unfold settleClock
  split
  · rfl
  · rfl

theorem setRateErr_pinClock (s : State) (i : Nat) (on : Bool) : (setRateErr s i on).pinClock = s.pinClock := by
  unfold setRateErr
  extract_lets b marked
  have hmarked : marked.pinClock = s.pinClock := by
    unfold marked
    split
    · exact setAudioPort_pinClock rfl
    · rfl
  split
  · exact (declareFault_pinClock ..).trans hmarked
  · exact (settleRate_pinClock _).trans hmarked

/-! Samples and elastic stores. -/

theorem giveSample_pinClock (s : State) (viaC : Bool) (ain : Nat) (k : Int) (v : Nat) :
    (giveSample s viaC ain k v).pinClock = s.pinClock := by
  unfold giveSample
  split
  · exact pinClock_of_ports rfl
  · exact pinClock_of_ports rfl

theorem PortSt.setStore_pinClock (x : PortSt) (out : Bool) (e : Elastic) : (x.setStore out e).pinClock = x.pinClock := by
  unfold PortSt.setStore
  split
  · rfl
  · rfl

theorem setStore_pinClock (s : State) (p : Nat) (out : Bool) (e : Elastic) :
    (s.setAudioPort p ((s.audioPort p).setStore out e)).pinClock = s.pinClock :=
  setAudioPort_pinClock (PortSt.setStore_pinClock ..)

theorem noteSlip_pinClock (s : State) (p : Nat) : (noteSlip s p).pinClock = s.pinClock := by
  unfold noteSlip
  split
  · exact setAudioPort_pinClock (s := s.count 0x7300 (0x200 + p)) rfl
  · exact setAudioPort_pinClock (s := s.count 0x7310 (0x200 + (p - 16))) rfl

theorem slip_pinClock {s t : State} {slipped : Bool} {p : Nat} {v : Word} (h : t.pinClock = s.pinClock) :
    (if slipped then mirror (noteSlip t p) 19 p v else t).pinClock = s.pinClock := by
  split
  · exact (mirror_pinClock ..).trans <| (noteSlip_pinClock ..).trans h
  · exact h

theorem putStore_pinClock (s : State) (p : Nat) (out : Bool) (frame : List Nat) :
    (putStore s p out frame).pinClock = s.pinClock := by
  unfold putStore
  extract_lets x e r put
  split
  · exact setStore_pinClock ..
  · exact slip_pinClock (setStore_pinClock ..)

theorem getStore_pinClock (s : State) (p : Nat) (out : Bool) : (getStore s p out).1.pinClock = s.pinClock := by
  unfold getStore
  extract_lets x e r got
  split
  · rfl
  · exact slip_pinClock (setStore_pinClock ..)

/-! Frames that leave at a pin clock. -/

theorem driveAudio_pinClock (s : State) (p : Nat) (frame : List Nat) : (driveAudio s p frame).pinClock = s.pinClock := by
  unfold driveAudio
  extract_lets sent x counted
  split
  · exact emit_pinClock ..
  · exact (emit_pinClock ..).trans (setAudioPort_pinClock rfl)

theorem resetBuffer_pinClock (s : State) (i : Nat) : (resetBuffer s i).pinClock = s.pinClock := by
  unfold resetBuffer
  extract_lets b n emptied
  split
  · refine .trans (foldl_keeps State.pinClock ?_ _ emptied) rfl
    exact fun _ _ => rfl
  · rfl

theorem bridgedFrame_pinClock (s : State) (p i : Nat) : (bridgedFrame s p i).pinClock = s.pinClock := by
  unfold bridgedFrame
  extract_lets b0 centred b n frame moved
  have hcentred : centred.pinClock = s.pinClock := by
    unfold centred
    split
    · exact mirror_pinClock ..
    · rfl
  have hmoved : moved.pinClock = s.pinClock := hcentred
  split
  · exact driveAudio_pinClock ..
  · refine (driveAudio_pinClock ..).trans ?_
    split
    · exact (resetBuffer_pinClock ..).trans hmoved
    · exact hmoved

theorem sendPinFrame_pinClock (s : State) (p : Nat) : (sendPinFrame s p).pinClock = s.pinClock := by
  unfold sendPinFrame
  split
  · rfl
  · split
    · exact (driveAudio_pinClock ..).trans (getStore_pinClock ..)
    · split
      · refine (bridgedFrame_pinClock ..).trans ?_
        split
        · exact setRateErr_pinClock ..
        · rfl
      · rfl

/-! A frame that arrives. -/

theorem clockReturns_clock (s : State) (p : Nat) : ((clockReturns s p).audioPort p).clock = true := by
  unfold clockReturns
  extract_lets x
  split
  · next h => exact h
  · refine (congrArg Prod.fst (congrFun (settleClock_pinClock _) p)).trans ?_
    rw [State.pinClock, State.setAudioPort_audioPort, if_pos rfl]
    rfl

theorem clockReturns_up (s : State) (p : Nat) : (clockReturns s p).up = s.up := by
  unfold clockReturns settleClock
  extract_lets x
  split
  · rfl
  · split
    · rfl
    · rfl

theorem pinFrame_pinClock {s : State} {p : Nat} (h : s.portClocked p = true) (rate : Nat) (slots bad : List Nat) (block : Bool) :
    (pinFrame s p rate slots bad block).pinClock p = (true, rate, s.up) := by
  unfold pinFrame
  rw [if_neg (by simp [h])]
  extract_lets returned x rateErr declared taken samples odd wrong place nonAudio frame counted old marked settled given sampled outs
  have hreturned : (returned.audioPort p).clock = true := clockReturns_clock ..
  have hup : returned.up = s.up := (clockReturns_up ..).trans (syncBridges_up s)
  have hdeclared : declared.pinClock = returned.pinClock ∧ declared.up = returned.up := by
    unfold declared
    split
    · exact ⟨declareFault_pinClock .., (declareFault_reports ..).up⟩
    · exact ⟨rfl, rfl⟩
  have hcounted : counted.pinClock = returned.pinClock ∧ counted.up = returned.up := by
    unfold counted
    split
    · exact hdeclared
    · exact hdeclared
  have hclock : (counted.audioPort p).clock = true :=
    (congrArg Prod.fst (congrFun hcounted.1 p)).trans hreturned
  have hmarked : marked.pinClock p = (true, rate, s.up) := by
    rw [State.pinClock, State.setAudioPort_audioPort, if_pos rfl]
    show ((counted.audioPort p).clock, rate, counted.up) = _
    rw [hclock, hcounted.2, hup]
  have hsettled : settled.pinClock = marked.pinClock := by
    unfold settled
    split
    · exact settleRate_pinClock _
    · rfl
  have hsampled : sampled.pinClock = settled.pinClock := by
    unfold sampled
    split
    · rfl
    · split
      · have hgiven : given.pinClock = settled.pinClock := foldl_keeps State.pinClock (fun _ _ => giveSample_pinClock ..) _ settled
        split
        · exact hgiven
        · exact hgiven
      · exact putStore_pinClock ..
  have hsent := foldl_keeps State.pinClock sendPinFrame_pinClock outs sampled
  rw [hsent, hsampled, hsettled, hmarked]

/-! A clock that is lost (R303, R324). -/

theorem clockLost_declares {s : State} {p : Nat} (hclocked : s.portClocked p = true) (hhere : (s.audioPort p).absent = false)
    (hdue : (s.audioPort p).edgeAt + 10000000 ≤ s.up) :
    ((clockLost s p).audioPort p).clock = false ∧ ((clockLost s p).audioPort p).rate = 0 ∧
      ((clockLost s p).source 0x0C0).count = satAdd 24 (s.source 0x0C0).count 1 := by
  unfold clockLost
  extract_lets x silenced
  have hguard : ¬ (!s.portClocked p || x.absent || decide (s.up < x.edgeAt + 10000000)) = true := by
    simp [x, hclocked, hhere, hdue]
  have hclock : (declareFault silenced 0x0C0 p true).pinClock p = (false, 0, x.edgeAt) := by
    rw [declareFault_pinClock, State.pinClock, State.setAudioPort_audioPort, if_pos rfl]
    rfl
  rw [if_neg hguard]
  exact ⟨congrArg Prod.fst hclock, congrArg (fun c => c.2.1) hclock, (declareFault_declares ..).count⟩

/-- Settles O19: each step of a bridge by what it makes of the bridge, which neither a rate error's declaration nor the record to
the partner touches, a frame by the pin clock it sets and the rest of its work keeps, a lost clock by its declaration. The form
of the loop's update and the rate error past the tracking range are the model's (log entries 271 and 106). -/
theorem bridgesTrack : Obligations.BridgesTrack := by
  unfold Obligations.BridgesTrack
  refine ⟨fun s i rate hi hrun hhas hband hst hsince hkind hlo hhi hown => ?acquire,
    fun s i hi hrun hhas hst hlo hhi hdue hown => ?step, fun s i error hi hrun hhas hband hst hdue hown => ?ratio,
    fun s i hi hrun hhas hst hdue hown => ?inputLost, fun s i p hi hi' hrun hhas hst hport hfollows hclock hown => ?outputLost,
    fun s p rate samples bad block hp hrun hbit hslave hinput => ?frame,
    fun s p hp hrun hclocked hhere hdue => ?clockLost⟩
  case acquire =>
    have hsince' : ((syncBridges s.fresh).bridge i).since + 10000000 ≤ (syncBridges s.fresh).up := by
      rw [syncBridges_up]; exact hsince
    have hown' : (syncBridges s.fresh).mirrored = false := (syncBridges_mirrored s.fresh).trans hown
    have acquires := bridgeAcquired_acquired hhas hband hst hsince' hkind hlo hhi hown'
    exact onUnit_bridge_does (Q := fun b => b.acquired _) rfl hi hrun acquires
  case step =>
    have widens := bridgeStep_widens (s := s.fresh) hhas hst hlo hhi hdue hown
    have iband := congrArg Bridge.band widens
    have ist := congrArg Bridge.st widens
    exact onUnit_does rfl hi hrun ⟨iband, ist⟩
  case ratio => exact onUnit_does rfl hi hrun (bridgeRatio_tracks (s := s.fresh) error hhas hband hst hdue hown)
  case inputLost =>
    have drops := bridgeLost_st (s := s.fresh) hhas hst (.inl ⟨hi, hdue⟩) hown
    rw [if_pos hi] at drops
    exact onUnit_bridge_does (Q := fun b => b.st = 3) rfl (by omega) hrun drops
  case outputLost =>
    have drops := bridgeLost_st (s := s.fresh) hhas hst (.inr ⟨hi, p, hport, hfollows, hclock⟩) hown
    rw [if_neg (Nat.not_lt.2 hi)] at drops
    exact onUnit_bridge_does (Q := fun b => b.st = 5) rfl hi' hrun drops
  case frame =>
    have hpins : s.portClocked p = true := by
      simp only [State.portClocked, hbit, hslave]
      rcases Nat.lt_or_ge p 16 with hserial | hexair
      · simp [hserial]
      · simp [hinput hexair]
    have hclock := pinFrame_pinClock (s := s.fresh) hpins rate samples bad block
    have iclock := congrArg Prod.fst hclock
    have irate := congrArg (fun c => c.2.1) hclock
    have iedge := congrArg (fun c => c.2.2) hclock
    exact onUnit_does rfl hp hrun ⟨iclock, irate, iedge⟩
  case clockLost => exact onUnit_does rfl hp hrun (clockLost_declares (s := s.fresh) hclocked hhere hdue)

end Sys2Proof.Machine
end

section
/-! SUPPORT. Proofs of the statements on a step, on a machine whose waiting commands are well-formed, on the state after reset and
on the header of a frame (R10, R451-R453, R475, R524, R531, R566). -/

namespace Sys2Proof.Machine

/-! A step (R27). -/

theorem actRunning_idle {s : State} (hr : s.running = false) (f : State → State) : actRunning s f = .next s.fresh := by
  have still : ¬ s.fresh.running = true := by simp [show s.fresh.running = false from hr]
  show Host.Outcome.next { whenRunning s.fresh f with pending := s.pending } = _
  rw [whenRunning, if_neg still]
  rfl

theorem slewFor_now (s : State) (dt : Rat) : (slewFor s dt).now = s.now := by
  unfold slewFor
  split
  · split <;> rfl
  · rfl

/-- Of what a core cycle does, the patterns checked, the control value summed and the slew leave device time alone. -/
theorem cyclePasses_now (s : State) : (cyclePasses s).now = s.now + s.cycleNs :=
  (congrArg Prod.fst (checkPatterns_clock _ _)).trans (slewFor_now _ _)

/-- Settles O45: the front of the queue by the definition of a step, a core cycle by the clock it moves. -/
theorem stepTakesFront : Obligations.StepTakesFront := by
  unfold Obligations.StepTakesFront
  refine ⟨fun _ _ _ => rfl, fun s hp => by simp [step, hp], fun s hp hr => ?_, fun s hp hr => ?_⟩
  · exact ⟨_, step_cycle hp hr, cyclePasses_now s.fresh⟩
  · have hstep : step s = coreCycle s := by simp [step, hp]
    exact hstep.trans (actRunning_idle hr _)

/-! Every well-formed command completes (R29). -/

/-- The outcome is a next state, with the queue of `s`. -/
def goesOn (s : State) (o : Host.Outcome State Fault Refusal) : Prop := ∃ t, o = .next t ∧ t.pending = s.pending

theorem act_goesOn (s : State) (f : State → State) : goesOn s (act s f) := ⟨_, rfl, rfl⟩

theorem onUnit_goesOn {n l : Nat} (h : n < l) (s : State) (f : State → State) : goesOn s (onUnit n l s f) := by
  unfold onUnit
  rw [if_pos h]
  exact act_goesOn s _

theorem onLine_goesOn {n : Nat} (h : n < 32) (s : State) (f : State → State) : goesOn s (onLine n s f) := by
  unfold onLine
  rw [if_pos h]
  exact act_goesOn s _

theorem execGainStepTimeout_goesOn {n : Nat} (h : n < 0xC000 ∨ 0x10000 ≤ n ∧ n < 0x10100) (s : State) :
    goesOn s (execGainStepTimeout n s) := by
  unfold execGainStepTimeout
  rcases h with h | ⟨hlo, hhi⟩
  · rw [if_pos h]
    exact act_goesOn s _
  · rw [if_neg (by omega)]
    exact onUnit_goesOn (by rw [if_neg (by omega)]; omega) s _

theorem execSalvoFire_goesOn (who : Firer) (v : Word) (s : State) : goesOn s (execSalvoFire who v s) := by
  cases who with
  | dumus | fieldInput => exact ⟨_, rfl, rfl⟩

theorem execWake_goesOn {p : Port} (h : p = .dumusA ∨ p = .dumusB) (frame : List Byte) (s : State) :
    goesOn s (execWake p frame s) := by
  rcases h with rfl | rfl <;> exact ⟨_, rfl, rfl⟩

theorem execDumusFrameReceived_goesOn {p : Port} (h : p = .dumusA ∨ p = .dumusB) (dst etherType src : Nat)
    (tagged fcsOk : Bool) (frame : List Byte) (s : State) :
    goesOn s (execDumusFrameReceived p dst etherType src tagged fcsOk frame s) := by
  rcases h with rfl | rfl <;> exact ⟨_, rfl, rfl⟩

theorem execStagedFrameComplete_goesOn {h l : Nat} (hh : h < 16) (hl : l < 64) (s : State) :
    goesOn s (execStagedFrameComplete h l s) := by
  unfold execStagedFrameComplete
  rw [if_pos hl]
  exact onUnit_goesOn hh s _

/-- A unit that a well-formed command names is one that the device has; no other operand stops a command. -/
theorem exec_goesOn (c : Instr) (s : State) (h : c.wf = true) : goesOn s (exec c s) := by
  cases c
  case salvoFire => exact execSalvoFire_goesOn _ _ s
  case gainStepTimeout => exact execGainStepTimeout_goesOn (by simpa [Instr.wf] using h) s
  case stagedFrameComplete =>
    obtain ⟨hh, hl⟩ : _ ∧ _ := by simpa [Instr.wf] using h
    exact execStagedFrameComplete_goesOn hh hl s
  case wake => exact execWake_goesOn (by simpa [Instr.wf] using h) _ s
  case dumusFrameReceived =>
    obtain ⟨hport, -⟩ : _ ∧ _ := by simpa [Instr.wf, and_assoc] using h
    exact execDumusFrameReceived_goesOn hport _ _ _ _ _ _ s
  case tetherCommaInsert | alignmentLost | uncorrectableCodeword | electricalIdleEnter | arpFrameReceived
    | igmpQueryReceived =>
    obtain ⟨hlane, -⟩ : _ ∧ _ := by
      simpa [Instr.wf, LaneBlocks.fits, LaneCommas.fits, LaneLevels.fits, LaneFrame.fits, and_assoc] using h
    exact onUnit_goesOn hlane s _
  case reoriginFrameEnd | reoriginNewPhase | candidatePresent | candidateLoss | candidateQualify
    | ptpMessageReceived | ptpDelayReqSend | ptpAnnounceTimeout | synthesiserLocked | synthesiserLockFail
    | synthesiserRelockAttempt | adaptationComplete | losDeclare | losClear | lolDeclare | lolClear
    | ethernetLinkChange | sdiRateDetected | polarityReversalDetected | alignmentAcquired | idleMarkerReceived
    | electricalIdleExit | idleExitFailure | txShortDeclare | txShortProbe | trsLock | trsLockLost
    | sdiLineReceived | formatMismatchClear | outputFrameStart | outputLineLaunch | outputSwitchPoint
    | arpResolveRetry | arpRefresh | igmpQueryResponse | igmpStateChangeReport | igmpCompatTimeout
    | mediaPacketReceived | lineCloseTimeout | videoPacketSend | audioPacketSend | ancPacketSend | tsDriftDeclare
    | ancAttachTimeout | pathAbsent | ipInputLost | inputReturn | holdExpiry | inputMistimed | mistimedRecovery
    | autoSyncPromotion | promotionRetry | reseedComplete | fsSlotSelect | bridgeAcquire | bridgeBandwidthStep
    | bridgeRatioUpdate | bridgeSourceLost | audioPortClockLost | delayCrossfadeEnd | spoolCheckComplete
    | spoolLoadAbandon | headFrameBoundary | headTimingChange | spriteCaptureDone | spriteCaptureTimeout
    | tetherPortUp | tetherPortDown | tetherPlanecfgReceived | pathEcho | creditStall | changeoverRequestReceived
    | windowOperationStart | windowOperationEnd | fatalDeclaration | eccWriteback | scrubRead | scrubLapEnd
    | crossbarAccessError | fieldPortLineCheck | fieldPortStuck | fieldPortStuckClear | audioPortFrame
    | generatorFrameStart | creditSend | helloReceived | tetherTimelineReceived | tetherCellReceived
    | creditReceived | reserveReceived | streamStateReceived | tunnelFragmentReceived | cascadeRecordReceived
    | changeoverRecordReceived =>
    simp only [Instr.wf, Bool.and_eq_true, decide_eq_true_eq] at h
    exact onUnit_goesOn (by omega) s _
  case fieldLineHoldEnd | fieldInputMeasure | fieldInputAccept | fieldOutputReadback | contentionDeclare
    | contentionClear | outputOvercurrent | overcurrentRetry | openLoadDeclare | openLoadClear =>
    simp only [Instr.wf, decide_eq_true_eq] at h
    exact onLine_goesOn h s _
  all_goals exact ⟨_, rfl, rfl⟩

/-! A safe machine (R29). -/

/-- In a safe machine a step takes the front command, if one waits, and leaves a safe machine. -/
theorem step_safe {s : State} (hs : s.safe = true) : ∃ t, step s = .next t ∧ t.safe = true ∧ t.pending = s.pending.tail := by
  cases hp : s.pending with
  | nil =>
    have hstep : step s = coreCycle s := by simp [step, hp]
    exact ⟨_, hstep, hs, hp⟩
  | cons c rest =>
    obtain ⟨hc, hrest⟩ : c.wf = true ∧ rest.all Instr.wf = true := by simpa [State.safe, hp] using hs
    obtain ⟨t, ht, hqueue⟩ := exec_goesOn c { s with pending := rest } hc
    exact ⟨t, by simpa only [step, hp] using ht, (congrArg (List.all · Instr.wf) hqueue).trans hrest, hqueue⟩

/-- The state a step answers; where it answers none, the state as it was. -/
def State.stepped! (s : State) : State :=
  match step s with
  | .next t => t
  | _ => s

theorem stepped!_of_next {s t : State} (h : step s = .next t) : s.stepped! = t := by rw [State.stepped!, h]

/-- A safe machine runs on: each step leaves a safe machine, with one command less. -/
theorem run_safe {s : State} (hs : s.safe = true) (n : Nat) :
    (State.stepped!^[n] s).safe = true ∧ (State.stepped!^[n] s).pending = s.pending.drop n := by
  induction n with
  | zero => exact ⟨hs, rfl⟩
  | succ n ih =>
    obtain ⟨hsafe, hpending⟩ := ih
    obtain ⟨t, ht, htsafe, htpending⟩ := step_safe hsafe
    rw [Function.iterate_succ_apply', stepped!_of_next ht, htpending, hpending, List.tail_drop]
    exact ⟨htsafe, rfl⟩

/-- Settles O46: a command by the shape of its meaning, a machine by what each step leaves in its queue. -/
theorem safeMachineGoesOn : Obligations.SafeMachineGoesOn := by
  unfold Obligations.SafeMachineGoesOn
  refine ⟨fun c s h => exec_goesOn c s h, fun s hs => step_safe hs, fun s hs => ?_⟩
  refine ⟨fun n => State.stepped!^[n] s, rfl, fun n => ?_, ?_⟩ <;> dsimp only
  · obtain ⟨hsafe, -⟩ := run_safe hs n
    obtain ⟨t, ht, -, -⟩ := step_safe hsafe
    rw [Function.iterate_succ_apply', stepped!_of_next ht]
    exact ⟨ht, hsafe⟩
  · rw [(run_safe hs _).2, List.drop_length]

/-! The state after reset (R10, R475, R524, R531, R566). -/

/-- The identity code of a revision. The device's own revision is a constant without a value, and a sum with a large numeral
beside such a constant is not compared in the kernel: so the sum is taken revision by revision. -/
def idcodeOf (revision : BitVec 4) : Word := revision.toNat * 2 ^ 28 + 0x2048 * 2 ^ 12 + 0x5A6 * 2 + 1

theorem idcodeOf_eq : ∀ revision : BitVec 4, idcodeOf revision = revision.toNat * 2 ^ 28 + 0x02048B4D := by decide

theorem idcodeWord_eq : idcodeWord = Config.mediaRev.toNat * 2 ^ 28 + 0x02048B4D := idcodeOf_eq Config.mediaRev

/-- Settles O50: every field by the record of the state after reset, an element by the empty store. -/
theorem resetState : Obligations.ResetState := by
  unfold Obligations.ResetState
  refine ⟨rfl, rfl, rfl, rfl, ?running, rfl, rfl, rfl, fun _ _ => rfl, fun _ _ => rfl, rfl, rfl, rfl, rfl, ?idcode⟩
  case running => decide
  case idcode => exact idcodeWord_eq

/-! The header of a frame (R451-R453). -/

/-- Fields of given widths side by side in a word, the least significant first (R4). -/
def packed : List (Nat × Nat) → Nat
  | [] => 0
  | (w, x) :: r => x + 2 ^ w * packed r

/-- The width of fields side by side. -/
def packedWidth : List (Nat × Nat) → Nat
  | [] => 0
  | (w, _) :: r => packedWidth r + w

def fieldsFit (l : List (Nat × Nat)) : Prop := ∀ f ∈ l, f.2 < 2 ^ f.1

theorem packed_lt {l : List (Nat × Nat)} (hl : fieldsFit l) : packed l < 2 ^ packedWidth l := by
  induction l with
  | nil => decide
  | cons f r ih =>
    obtain ⟨w, x⟩ := f
    obtain ⟨hx, hr⟩ := List.forall_mem_cons.1 hl
    have hx' : x < 2 ^ w := hx
    have hlt : packed r + 1 ≤ 2 ^ packedWidth r := ih hr
    calc x + 2 ^ w * packed r < 2 ^ w + 2 ^ w * packed r := Nat.add_lt_add_right hx' _
      _ = 2 ^ w * (packed r + 1) := by ring
      _ ≤ 2 ^ w * 2 ^ packedWidth r := Nat.mul_le_mul_left _ hlt
      _ = 2 ^ (packedWidth r + w) := by rw [Nat.pow_add, Nat.mul_comm]

/-- A field of a word is read where its place among the fields says (R4). -/
theorem bits_packed {l : List (Nat × Nat)} (hl : fieldsFit l) (n : Nat) {w x hi lo : Nat} (hn : l[n]? = some (w, x))
    (hlo : packedWidth (l.take n) = lo) (hhi : hi + 1 = lo + w) : bits (packed l) hi lo = x := by
  have hwidth : hi + 1 - lo = w := by omega
  unfold bits
  rw [hwidth, ← hlo]
  clear hlo hhi hwidth
  induction l generalizing n with
  | nil => cases hn
  | cons f r ih =>
    obtain ⟨w', x'⟩ := f
    obtain ⟨hx, hr⟩ := List.forall_mem_cons.1 hl
    have hx' : x' < 2 ^ w' := hx
    cases n with
    | zero =>
      obtain ⟨rfl, rfl⟩ : w' = w ∧ x' = x := by simpa using hn
      simp [packedWidth, packed, Nat.mod_eq_of_lt hx']
    | succ n =>
      have hdiv : (x' + 2 ^ w' * packed r) / 2 ^ w' = packed r := by
        rw [Nat.add_mul_div_left _ _ (Nat.two_pow_pos _), Nat.div_eq_of_lt hx', Nat.zero_add]
      have hrest := ih hr n (by simpa using hn)
      simpa only [List.take_succ_cons, packedWidth, packed, Nat.pow_add', ← Nat.div_div_eq_div_mul, hdiv] using hrest

/-- The fields of a header, TYPE first. -/
def headerFields (op : Nat) (rq : Rq) (idx sub : Nat) : List (Nat × Nat) :=
  [(8, rq.typ), (4, rq.rsv % 16), (1, rq.key), (1, ofBool rq.last), (1, ofBool rq.first), (1, ofBool rq.shadow), (16, rq.len),
    (16, sub), (16, idx), (16, rq.seq), (16, rq.session), (4, rq.origin), (4, rq.rsv / 16), (8, rq.node), (8, 0), (4, op), (4, 1)]

theorem ofBool_lt (b : Bool) : ofBool b < 2 ^ 1 := by cases b <;> decide

/-- A request of a frame: its header's fields fit their places (R451), and its opcode is a request's (R452). -/
theorem headerFields_fit {op idx sub : Nat} {rq : Rq} (hrq : rq.wf = true) (hop : op < 16) (hidx : idx < 65536)
    (hsub : sub < 65536) : fieldsFit (headerFields op rq idx sub) := by
  simp only [Rq.wf, Bool.and_eq_true, decide_eq_true_eq, and_assoc] at hrq
  obtain ⟨-, -, hnode, horigin, hsession, hseq, hlen, hkey, htyp, -, hrsv⟩ := hrq
  simp only [fieldsFit, headerFields, List.forall_mem_cons, List.not_mem_nil, false_implies, implies_true, and_true]
  have hlen' : rq.len < 2 ^ 16 := by omega
  have hlow : rq.rsv % 16 < 2 ^ 4 := Nat.mod_lt _ (by decide)
  have hhigh : rq.rsv / 16 < 2 ^ 4 := by omega
  exact ⟨htyp, hlow, hkey, ofBool_lt _, ofBool_lt _, ofBool_lt _, hlen', hsub, hidx, hseq, hsession, horigin, hhigh, hnode,
    by decide, hop, by decide⟩

theorem headerBytes_length (op st : Nat) (rq : Rq) (idx sub len typ : Nat) :
    (headerBytes op st rq idx sub len typ).length = 16 := toBytes_length _ _

/-- The fields of a header side by side, each at its place (R451). -/
theorem packed_headerFields (op idx sub : Nat) (rq : Rq) : packed (headerFields op rq idx sub) =
    2 ^ 124 + op * 2 ^ 120 + 0 * 2 ^ 112 + rq.node * 2 ^ 104 + (rq.rsv / 16 * 2 ^ 100 + rq.rsv % 16 * 2 ^ 8) +
      rq.origin * 2 ^ 96 + rq.session * 2 ^ 80 + rq.seq * 2 ^ 64 + idx * 2 ^ 48 + sub * 2 ^ 32 + rq.len * 2 ^ 16 +
      ofBool rq.shadow * 2 ^ 15 + ofBool rq.first * 2 ^ 14 + ofBool rq.last * 2 ^ 13 + rq.key * 2 ^ 12 + rq.typ := by
  simp only [headerFields, packed]
  ring

/-- The sixteen bytes of a request's header spell its fields (R451). -/
theorem ofBytes_headerBytes {op idx sub : Nat} {rq : Rq} (hfits : fieldsFit (headerFields op rq idx sub)) (h7 : op ≠ 7)
    (h9 : op ≠ 9) : ofBytes (headerBytes op 0 rq idx sub rq.len rq.typ) = packed (headerFields op rq idx sub) := by
  have hwidth : packedWidth (headerFields op rq idx sub) = 128 := rfl
  have hlt := packed_lt hfits
  rw [hwidth, show 2 ^ 128 = 256 ^ 16 by norm_num] at hlt
  have hkind : ¬ (op = 7 ∨ op = 9) := by omega
  simp only [fieldsFit, headerFields, List.forall_mem_cons, List.not_mem_nil, false_implies, implies_true, and_true] at hfits
  obtain ⟨htyp, -, hkey, -, -, -, hlen, hsub, hidx, hseq, hsession, horigin, hhigh, hnode, -, hop, -⟩ := hfits
  rw [headerBytes, ofBytes_toBytes, if_neg hkind, Nat.mod_eq_of_lt (b := 16) hop, Nat.mod_eq_of_lt (b := 256) hnode,
    Nat.mod_eq_of_lt (b := 16) horigin, Nat.mod_eq_of_lt hsession, Nat.mod_eq_of_lt hseq, Nat.mod_eq_of_lt hidx,
    Nat.mod_eq_of_lt hsub, Nat.mod_eq_of_lt hlen, Nat.mod_eq_of_lt (b := 2) hkey, Nat.mod_eq_of_lt (b := 256) htyp,
    Nat.mod_eq_of_lt (b := 16) hhigh, Nat.zero_mod, ← packed_headerFields, Nat.mod_eq_of_lt hlt]

/-- A frame's first sixteen bytes are its header. -/
theorem frame_header (op st : Nat) (rq : Rq) (idx sub len typ : Nat) (payload tag : List Byte) :
    (headerBytes op st rq idx sub len typ ++ payload ++ tag).take 16 = headerBytes op st rq idx sub len typ := by
  rw [List.append_assoc]
  exact List.take_left' (headerBytes_length _ _ _ _ _ _ _)

section
variable {op idx sub : Nat} {rq : Rq} (h : fieldsFit (headerFields op rq idx sub))
include h

theorem packed_hdrVersion : hdrVersion (packed (headerFields op rq idx sub)) = 1 := bits_packed h 16 rfl rfl rfl
theorem packed_hdrOpcode : hdrOpcode (packed (headerFields op rq idx sub)) = op := bits_packed h 15 rfl rfl rfl
theorem packed_hdrNode : hdrNode (packed (headerFields op rq idx sub)) = rq.node := bits_packed h 13 rfl rfl rfl
theorem packed_hdrIndex : hdrIndex (packed (headerFields op rq idx sub)) = idx := bits_packed h 8 rfl rfl rfl
theorem packed_hdrSub : hdrSub (packed (headerFields op rq idx sub)) = sub := bits_packed h 7 rfl rfl rfl
theorem packed_hdrLength : hdrLength (packed (headerFields op rq idx sub)) = rq.len := bits_packed h 6 rfl rfl rfl

/-- A bit of the header that carries a flag. -/
theorem packed_flag (n : Nat) {k : Nat} {b : Bool} (hn : (headerFields op rq idx sub)[n]? = some (1, ofBool b))
    (hk : packedWidth ((headerFields op rq idx sub).take n) = k) : bit (packed (headerFields op rq idx sub)) k = b := by
  have hbits : bits (packed (headerFields op rq idx sub)) k k = ofBool b := bits_packed h n hn hk rfl
  rw [bits_self] at hbits
  cases b <;> simpa [ofBool] using hbits

end

/-- The request that a device reads from a frame whose header spells `rq` (R451). -/
theorem headerRq_of_header {op idx sub : Nat} {rq : Rq} (h : fieldsFit (headerFields op rq idx sub)) (p : Port)
    (tnode src : Nat) {frame : List Byte} (hhead : ofBytes (frame.take 16) = packed (headerFields op rq idx sub))
    (htag : ofBytes ((frame.drop (16 + rq.len)).take 8) = rq.tag) :
    headerRq p tnode src frame = { rq with port := p, tnode := tnode, src := src } := by
  have horigin : bits (packed (headerFields op rq idx sub)) 99 96 = rq.origin := bits_packed h 11 rfl rfl rfl
  have hsession : bits (packed (headerFields op rq idx sub)) 95 80 = rq.session := bits_packed h 10 rfl rfl rfl
  have hseq : bits (packed (headerFields op rq idx sub)) 79 64 = rq.seq := bits_packed h 9 rfl rfl rfl
  have hkey : bits (packed (headerFields op rq idx sub)) 12 12 = rq.key := bits_packed h 2 rfl rfl rfl
  have htyp : bits (packed (headerFields op rq idx sub)) 7 0 = rq.typ := bits_packed h 0 rfl rfl rfl
  have hlow : bits (packed (headerFields op rq idx sub)) 11 8 = rq.rsv % 16 := bits_packed h 1 rfl rfl rfl
  have hhigh : bits (packed (headerFields op rq idx sub)) 103 100 = rq.rsv / 16 := bits_packed h 12 rfl rfl rfl
  have hshadow : bit (packed (headerFields op rq idx sub)) 15 = rq.shadow := packed_flag h 5 rfl rfl
  have hfirst : bit (packed (headerFields op rq idx sub)) 14 = rq.first := packed_flag h 4 rfl rfl
  have hlast : bit (packed (headerFields op rq idx sub)) 13 = rq.last := packed_flag h 3 rfl rfl
  have hrsv : rq.rsv / 16 * 16 + rq.rsv % 16 = rq.rsv := Nat.div_add_mod' _ _
  rw [headerRq, hhead]
  simp only [packed_hdrNode h, packed_hdrLength h, horigin, hsession, hseq, hkey, htyp, hlow, hhigh, hshadow, hfirst, hlast,
    htag, hrsv]

/-- Settles O49: each field by its place in the header word, the payload and the tag by the lengths before them. -/
theorem headerRoundTrip : Obligations.HeaderRoundTrip := by
  unfold Obligations.HeaderRoundTrip
  intro rq p tnode src op idx sub payload hwf hlen hop1 hop hidx hsub
  have hop16 : op < 16 := by omega
  have hfits := headerFields_fit hwf hop16 hidx hsub
  have hhead := ofBytes_headerBytes hfits (by omega) (by omega)
  have htag : rq.tag < 256 ^ 8 := by
    simp only [Rq.wf, Bool.and_eq_true, decide_eq_true_eq] at hwf
    omega
  have hheader := headerBytes_length op 0 rq idx sub rq.len rq.typ
  generalize hframe : headerBytes op 0 rq idx sub rq.len rq.typ ++ payload ++ toBytes 8 rq.tag = frame
  have hlength : frame.length = 24 + rq.len := by
    rw [← hframe, List.length_append, List.length_append, hheader, hlen, toBytes_length]
    omega
  have htake : ofBytes (frame.take 16) = packed (headerFields op rq idx sub) := by
    rw [← hframe, frame_header, hhead]
  have hdrop : frame.drop (16 + rq.len) = toBytes 8 rq.tag := by
    rw [← hframe]
    exact List.drop_left' (by rw [List.length_append, hheader, hlen])
  refine ⟨frame, rfl, hlength, ?isGood, headerRq_of_header hfits p tnode src htake ?tagRead, ?_, ?_, ?_, ?payloadRead⟩
  case isGood =>
    have htaken : opTaken op = true := by simp [opTaken]; omega
    simp [frameBad, htake, packed_hdrVersion hfits, packed_hdrOpcode hfits, packed_hdrLength hfits, htaken, hlength]
  case tagRead => rw [hdrop, List.take_of_length_le (by rw [toBytes_length]), ofBytes_toBytes, Nat.mod_eq_of_lt htag]
  case payloadRead =>
    rw [framePayload, htake, packed_hdrLength hfits, ← hframe, List.append_assoc, List.drop_left' hheader, ← hlen,
      List.take_left' rfl]
  · rw [htake, packed_hdrOpcode hfits]
  · rw [htake, packed_hdrIndex hfits]
  · rw [htake, packed_hdrSub hfits]

end Sys2Proof.Machine
end

section
/-! SUPPORT. Footprints: which fields of the state, and which elements, an operation may change. A footprint lemma says of an
operation that whatever lies outside its footprint is left as it was. -/

namespace Sys2Proof.Machine

/-! Fields (the record of the state). -/

/-- The fields of the state. -/
inductive Field where
  | pending | free | emitted | now | stepped | freqNow | mode | dict | shadow | onAir | blobs | recent | planes
  | events | order | banks | lastRefusal | moves | req | keys | log | faults | dbg | boot | wake | pair | windows
  | ref | lanes | synths | portFault | cells | ins | outs | remote | busSlotsB | silent | ainIn | gens | arp | igmp
  | rx | tx | bridgeIn | aoutOut | ain | aout | sideGains | period | meters | meterAt | bridges | audioPorts | spools
  | mix | layers | heads | gfx | feeds | meterOld | meterStamp | tether | winBytes | inserted | fieldBank
deriving DecidableEq

/-- Field `f` is the same in `s` and `t`. -/
def State.agree (s t : State) : Field → Prop
  | .pending => t.pending = s.pending
  | .free => t.free = s.free
  | .emitted => t.emitted = s.emitted
  | .now => t.now = s.now
  | .stepped => t.stepped = s.stepped
  | .freqNow => t.freqNow = s.freqNow
  | .mode => t.mode = s.mode
  | .dict => t.dict = s.dict
  | .shadow => t.shadow = s.shadow
  | .onAir => t.onAir = s.onAir
  | .blobs => t.blobs = s.blobs
  | .recent => t.recent = s.recent
  | .planes => t.planes = s.planes
  | .events => t.events = s.events
  | .order => t.order = s.order
  | .banks => t.banks = s.banks
  | .lastRefusal => t.lastRefusal = s.lastRefusal
  | .moves => t.moves = s.moves
  | .req => t.req = s.req
  | .keys => t.keys = s.keys
  | .log => t.log = s.log
  | .faults => t.faults = s.faults
  | .dbg => t.dbg = s.dbg
  | .boot => t.boot = s.boot
  | .wake => t.wake = s.wake
  | .pair => t.pair = s.pair
  | .windows => t.windows = s.windows
  | .ref => t.ref = s.ref
  | .lanes => t.lanes = s.lanes
  | .synths => t.synths = s.synths
  | .portFault => t.portFault = s.portFault
  | .cells => t.cells = s.cells
  | .ins => t.ins = s.ins
  | .outs => t.outs = s.outs
  | .remote => t.remote = s.remote
  | .busSlotsB => t.busSlotsB = s.busSlotsB
  | .silent => t.silent = s.silent
  | .ainIn => t.ainIn = s.ainIn
  | .gens => t.gens = s.gens
  | .arp => t.arp = s.arp
  | .igmp => t.igmp = s.igmp
  | .rx => t.rx = s.rx
  | .tx => t.tx = s.tx
  | .bridgeIn => t.bridgeIn = s.bridgeIn
  | .aoutOut => t.aoutOut = s.aoutOut
  | .ain => t.ain = s.ain
  | .aout => t.aout = s.aout
  | .sideGains => t.sideGains = s.sideGains
  | .period => t.period = s.period
  | .meters => t.meters = s.meters
  | .meterAt => t.meterAt = s.meterAt
  | .bridges => t.bridges = s.bridges
  | .audioPorts => t.audioPorts = s.audioPorts
  | .spools => t.spools = s.spools
  | .mix => t.mix = s.mix
  | .layers => t.layers = s.layers
  | .heads => t.heads = s.heads
  | .gfx => t.gfx = s.gfx
  | .feeds => t.feeds = s.feeds
  | .meterOld => t.meterOld = s.meterOld
  | .meterStamp => t.meterStamp = s.meterStamp
  | .tether => t.tether = s.tether
  | .winBytes => t.winBytes = s.winBytes
  | .inserted => t.inserted = s.inserted
  | .fieldBank => t.fieldBank = s.fieldBank

/-- `s` with the fields listed as `t` has them. -/
def State.graft (s : State) (l : List Field) (t : State) : State where
  pending := bif l.contains .pending then t.pending else s.pending
  free := bif l.contains .free then t.free else s.free
  emitted := bif l.contains .emitted then t.emitted else s.emitted
  now := bif l.contains .now then t.now else s.now
  stepped := bif l.contains .stepped then t.stepped else s.stepped
  freqNow := bif l.contains .freqNow then t.freqNow else s.freqNow
  mode := bif l.contains .mode then t.mode else s.mode
  dict := bif l.contains .dict then t.dict else s.dict
  shadow := bif l.contains .shadow then t.shadow else s.shadow
  onAir := bif l.contains .onAir then t.onAir else s.onAir
  blobs := bif l.contains .blobs then t.blobs else s.blobs
  recent := bif l.contains .recent then t.recent else s.recent
  planes := bif l.contains .planes then t.planes else s.planes
  events := bif l.contains .events then t.events else s.events
  order := bif l.contains .order then t.order else s.order
  banks := bif l.contains .banks then t.banks else s.banks
  lastRefusal := bif l.contains .lastRefusal then t.lastRefusal else s.lastRefusal
  moves := bif l.contains .moves then t.moves else s.moves
  req := bif l.contains .req then t.req else s.req
  keys := bif l.contains .keys then t.keys else s.keys
  log := bif l.contains .log then t.log else s.log
  faults := bif l.contains .faults then t.faults else s.faults
  dbg := bif l.contains .dbg then t.dbg else s.dbg
  boot := bif l.contains .boot then t.boot else s.boot
  wake := bif l.contains .wake then t.wake else s.wake
  pair := bif l.contains .pair then t.pair else s.pair
  windows := bif l.contains .windows then t.windows else s.windows
  ref := bif l.contains .ref then t.ref else s.ref
  lanes := bif l.contains .lanes then t.lanes else s.lanes
  synths := bif l.contains .synths then t.synths else s.synths
  portFault := bif l.contains .portFault then t.portFault else s.portFault
  cells := bif l.contains .cells then t.cells else s.cells
  ins := bif l.contains .ins then t.ins else s.ins
  outs := bif l.contains .outs then t.outs else s.outs
  remote := bif l.contains .remote then t.remote else s.remote
  busSlotsB := bif l.contains .busSlotsB then t.busSlotsB else s.busSlotsB
  silent := bif l.contains .silent then t.silent else s.silent
  ainIn := bif l.contains .ainIn then t.ainIn else s.ainIn
  gens := bif l.contains .gens then t.gens else s.gens
  arp := bif l.contains .arp then t.arp else s.arp
  igmp := bif l.contains .igmp then t.igmp else s.igmp
  rx := bif l.contains .rx then t.rx else s.rx
  tx := bif l.contains .tx then t.tx else s.tx
  bridgeIn := bif l.contains .bridgeIn then t.bridgeIn else s.bridgeIn
  aoutOut := bif l.contains .aoutOut then t.aoutOut else s.aoutOut
  ain := bif l.contains .ain then t.ain else s.ain
  aout := bif l.contains .aout then t.aout else s.aout
  sideGains := bif l.contains .sideGains then t.sideGains else s.sideGains
  period := bif l.contains .period then t.period else s.period
  meters := bif l.contains .meters then t.meters else s.meters
  meterAt := bif l.contains .meterAt then t.meterAt else s.meterAt
  bridges := bif l.contains .bridges then t.bridges else s.bridges
  audioPorts := bif l.contains .audioPorts then t.audioPorts else s.audioPorts
  spools := bif l.contains .spools then t.spools else s.spools
  mix := bif l.contains .mix then t.mix else s.mix
  layers := bif l.contains .layers then t.layers else s.layers
  heads := bif l.contains .heads then t.heads else s.heads
  gfx := bif l.contains .gfx then t.gfx else s.gfx
  feeds := bif l.contains .feeds then t.feeds else s.feeds
  meterOld := bif l.contains .meterOld then t.meterOld else s.meterOld
  meterStamp := bif l.contains .meterStamp then t.meterStamp else s.meterStamp
  tether := bif l.contains .tether then t.tether else s.tether
  winBytes := bif l.contains .winBytes then t.winBytes else s.winBytes
  inserted := bif l.contains .inserted then t.inserted else s.inserted
  fieldBank := bif l.contains .fieldBank then t.fieldBank else s.fieldBank

theorem eq_of_agree {s t : State} (h : ∀ f, s.agree t f) : t = s := by
  obtain ⟨⟩ := s
  obtain ⟨⟩ := t
  rw [State.mk.injEq]
  exact ⟨h .pending, h .free, h .emitted, h .now, h .stepped, h .freqNow, h .mode, h .dict, h .shadow, h .onAir, h .blobs,
    h .recent, h .planes, h .events, h .order, h .banks, h .lastRefusal, h .moves, h .req, h .keys, h .log,
    h .faults, h .dbg, h .boot, h .wake, h .pair, h .windows, h .ref, h .lanes, h .synths, h .portFault, h .cells,
    h .ins, h .outs, h .remote, h .busSlotsB, h .silent, h .ainIn, h .gens, h .arp, h .igmp, h .rx, h .tx,
    h .bridgeIn, h .aoutOut, h .ain, h .aout, h .sideGains, h .period, h .meters, h .meterAt, h .bridges,
    h .audioPorts, h .spools, h .mix, h .layers, h .heads, h .gfx, h .feeds, h .meterOld, h .meterStamp, h .tether,
    h .winBytes, h .inserted, h .fieldBank⟩

theorem State.agree_refl (s : State) (f : Field) : s.agree s f := by cases f <;> rfl

theorem State.agree_trans {s t u : State} {f : Field} (h : s.agree t f) (h' : t.agree u f) : s.agree u f := by
  cases f <;> exact h'.trans h

/-- A grafted field is that of the one or of the other. -/
theorem State.graft_agree (s t : State) {l : List Field} {f : Field} (hf : f ∉ l) : s.agree (s.graft l t) f := by
  have hl : l.contains f = false := by simpa using hf
  cases f <;> exact congrArg (cond · _ _) hl

theorem State.agree_graft (s t : State) {l : List Field} {f : Field} (hf : f ∈ l) : (s.graft l t).agree t f := by
  have hl : l.contains f = true := by simpa using hf
  cases f <;> exact (congrArg (cond · _ _) hl).symm

theorem agree_of_graft {s t : State} {l : List Field} (h : t = s.graft l t) {f : Field} (hf : f ∉ l) : s.agree t f :=
  h ▸ s.graft_agree t hf

/-- Fields taken from one state, then more of them. -/
theorem eq_graft_of_agree {s t : State} {l : List Field} (h : ∀ f, f ∉ l → s.agree t f) : t = s.graft l t := by
  refine eq_of_agree fun f => ?_
  by_cases hf : f ∈ l
  · exact s.agree_graft t hf
  · have hs := h f hf
    have hg := s.graft_agree t hf
    cases f <;> exact hs.trans hg.symm

/-! Footprints. -/

/-- A footprint: fields, and the indices of elements; `whole` where any element may change. -/
structure Foot where
  fields : List Field
  elems : List Nat := []
  whole : Bool := false

/-- The footprint covers these fields and elements. -/
def Foot.holds (F : Foot) (fields : List Field) (elems : List Nat := []) : Bool :=
  fields.all F.fields.contains && (F.whole || elems.all F.elems.contains)

/-- The footprint covers these fields and every element. -/
def Foot.holdsWhole (F : Foot) (fields : List Field) : Bool := fields.all F.fields.contains && F.whole

/-- The footprint leaves the elements of index `i` alone. -/
def Foot.spares (F : Foot) (i : Nat) : Bool := !F.whole && !F.elems.contains i

/-- The footprint's elements are those listed, and those of the index after each. -/
def Foot.frames (F : Foot) (l : List Nat) : Bool := !F.whole && F.elems.all fun k => l.contains k || l.contains (k - 1)

/-- Elements of indices not listed read the same; those of a move's new side, 0x8000 and up, are left out. -/
def sameElems (s t : State) (l : List Nat) : Prop := ∀ i j, i ∉ l → j < 0x8000 → t.elem i j = s.elem i j

/-- Outside the footprint `t` is as `s` is. -/
structure Keeps (F : Foot) (s t : State) : Prop where
  fields : ∀ f, f ∉ F.fields → s.agree t f
  elems : F.whole = false → sameElems s t F.elems

theorem Foot.holds_iff {F : Foot} {fields : List Field} {elems : List Nat} :
    F.holds fields elems = true ↔ (∀ f ∈ fields, f ∈ F.fields) ∧ (F.whole = true ∨ ∀ k ∈ elems, k ∈ F.elems) := by
  simp [Foot.holds]

/-- A footprint that covers one covers a smaller one. -/
theorem Foot.holds_sub {F : Foot} {fields fields' : List Field} {elems elems' : List Nat} (hF : F.holds fields elems = true)
    (hsub : (⟨fields, elems, false⟩ : Foot).holds fields' elems' = true) : F.holds fields' elems' = true := by
  obtain ⟨hfs, hes⟩ := Foot.holds_iff.1 hF
  obtain ⟨hfs', hes'⟩ := Foot.holds_iff.1 hsub
  exact Foot.holds_iff.2 ⟨fun f hf => hfs f (hfs' f hf), hes.imp id fun h k hk => h k (hes'.resolve_left (by simp) k hk)⟩

theorem sameElems.refl (s : State) (l : List Nat) : sameElems s s l := fun _ _ _ _ => rfl

theorem sameElems.trans {s t u : State} {l : List Nat} (h : sameElems s t l) (h' : sameElems t u l) : sameElems s u l :=
  fun i j hi hj => (h' i j hi hj).trans (h i j hi hj)

theorem sameElems.mono {s t : State} {l l' : List Nat} (h : sameElems s t l) (hl : ∀ k ∈ l, k ∈ l') : sameElems s t l' :=
  fun i j hi hj => h i j (fun hk => hi (hl i hk)) hj

theorem sameElems_of_dict {s t : State} (h : t.dict = s.dict) (l : List Nat) : sameElems s t l :=
  fun _ _ _ _ => elem_of_dict h _ _

/-- The statements leave out the index after each that they list. -/
theorem sameElems.stands {s t : State} {l l' : List Nat} (h : sameElems s t l)
    (hl : (l.all fun k => l'.contains k || l'.contains (k - 1)) = true) : stands s t l' := by
  intro i j hi hj
  refine h i j (fun hin => ?_) hj
  rcases (by simpa using List.all_eq_true.1 hl i hin : i ∈ l' ∨ i - 1 ∈ l') with hk | hk
  · exact (hi i hk).1 rfl
  · obtain ⟨hne, hnext⟩ := hi (i - 1) hk
    omega

section
variable {F : Foot} {s t u : State}

theorem Keeps.refl (s : State) : Keeps F s s := ⟨fun f _ => s.agree_refl f, fun _ => sameElems.refl s _⟩

theorem Keeps.trans (h : Keeps F s t) (h' : Keeps F t u) : Keeps F s u where
  fields f hf := State.agree_trans (h.fields f hf) (h'.fields f hf)
  elems hw := (h.elems hw).trans (h'.elems hw)

theorem Keeps.ite {c : Prop} [Decidable c] (h : Keeps F s t) (h' : Keeps F s u) : Keeps F s (if c then t else u) := by
  split <;> assumption

theorem Keeps.foldl {α : Type} {f : State → α → State} (hf : ∀ u a, Keeps F u (f u a)) (l : List α) (s : State) :
    Keeps F s (l.foldl f s) := by
  induction l generalizing s with
  | nil => exact .refl s
  | cons a l ih => exact (hf s a).trans (ih _)

/-- A smaller footprint is kept in a larger one. -/
theorem Keeps.mono {fields : List Field} {elems : List Nat} (hF : F.holds fields elems = true) (h : Keeps ⟨fields, elems, false⟩ s t) :
    Keeps F s t := by
  obtain ⟨hfields, helems⟩ := Foot.holds_iff.1 hF
  refine ⟨fun f hf => h.fields f fun hin => hf (hfields f hin), fun hw => (h.elems rfl).mono ?_⟩
  exact helems.resolve_left (by simp [hw])

/-- The same of an operation that may change any element. -/
theorem Keeps.monoWhole {fields : List Field} (hF : F.holdsWhole fields = true) (h : Keeps ⟨fields, [], true⟩ s t) : Keeps F s t := by
  obtain ⟨hfields, hwhole⟩ : (∀ f ∈ fields, f ∈ F.fields) ∧ F.whole = true := by simpa [Foot.holdsWhole] using hF
  exact ⟨fun f hf => h.fields f fun hin => hf (hfields f hin), fun hw => absurd hwhole (by simp [hw])⟩

/-- Fields set, and no element. -/
theorem Keeps.set (l : List Field) (h : t = { s.graft l t with dict := s.dict }) (hF : F.holds l = true) : Keeps F s t := by
  obtain ⟨hfields, -⟩ := Foot.holds_iff.1 hF
  refine ⟨fun f hf => ?_, fun _ => sameElems_of_dict (by rw [h]) _⟩
  have hg := s.graft_agree t fun hin : f ∈ l => hf (hfields f hin)
  rw [h]
  cases f
  case dict => rfl
  all_goals exact hg

/-- Fields set, and any element. -/
theorem Keeps.setWhole (l : List Field) (h : t = s.graft l t) (hF : F.holdsWhole l = true) : Keeps F s t :=
  .monoWhole hF ⟨fun _ hf => agree_of_graft h hf, fun hw => nomatch hw⟩

/-- An element written. -/
theorem put_keeps {i : Nat} (s : State) {j : Nat} (v : Word) (hj : j < 65536) (hF : F.holds [.dict] [i] = true) :
    Keeps F s (s.put i j v) := by
  refine .mono hF ⟨fun f hf => agree_of_graft (l := [.dict]) rfl hf, fun _ i' j' hi hj' => ?_⟩
  have hne : i' ≠ i := fun he => hi (he ▸ List.mem_singleton_self _)
  have hkey : ekey i' j' ≠ ekey i j := by unfold ekey; omega
  simp [hkey]

/-- An element written at a sub-index that may reach into the index after its own, which the dictionary does not have. -/
theorem put_keeps_next {i : Nat} (s : State) {j : Nat} (v : Word) (hj : j < 0x20000) (hF : F.holds [.dict] [i, i + 1] = true) :
    Keeps F s (s.put i j v) := by
  refine .mono hF ⟨fun f hf => agree_of_graft (l := [.dict]) rfl hf, fun _ i' j' hi hj' => ?_⟩
  obtain ⟨hne, hnext⟩ : i' ≠ i ∧ i' ≠ i + 1 := by simpa using hi
  have hkey : ekey i' j' ≠ ekey i j := by unfold ekey; omega
  simp [hkey]

/-- A field outside the footprint. -/
theorem Keeps.same (h : Keeps F s t) (f : Field) (hf : F.fields.contains f = false) : s.agree t f := h.fields f (by simpa using hf)

/-- An element outside the footprint. -/
theorem Keeps.elem (h : Keeps F s t) {i j : Nat} (hi : F.spares i = true) (hj : j < 0x8000) : t.elem i j = s.elem i j := by
  obtain ⟨hw, hin⟩ : F.whole = false ∧ i ∉ F.elems := by simpa [Foot.spares] using hi
  exact h.elems hw i j hin hj

/-- What a footprint says of the record. -/
theorem Keeps.eq_graft (h : Keeps F s t) : t = s.graft F.fields t := eq_graft_of_agree h.fields

theorem Keeps.stands {l : List Nat} (h : Keeps F s t) (hl : F.frames l = true) : stands s t l := by
  obtain ⟨hw, hall⟩ := (Bool.and_eq_true _ _).mp hl
  exact (h.elems (by simpa using hw)).stands hall

/-- What a footprint says of the record and of the elements. -/
theorem Keeps.frame {l : List Nat} (h : Keeps F s t) (hl : F.frames l = true) : t = s.graft F.fields t ∧ Machine.stands s t l :=
  ⟨h.eq_graft, h.stands hl⟩

end

/-! An entry to FAULTED (R518). -/

/-- The fields that an entry to FAULTED may change. -/
def faultedFields : List Field :=
  [.mode, .dict, .emitted, .events, .banks, .moves, .req, .log, .faults, .boot, .pair, .windows, .cells, .ins, .spools]

/-- A footprint, and what an entry to FAULTED may change beside it. -/
def Foot.orFaulted (F : Foot) : Foot := ⟨F.fields ++ faultedFields, 0x1001 :: F.elems, F.whole⟩

/-- A footprint without the mode: a declaration changes it in an entry to FAULTED alone. -/
def Foot.noMode (F : Foot) : Foot := { F with fields := F.fields.filter (· != .mode) }

/-- Outside the footprint `t` is as `s` is, or the device has gone to FAULTED. -/
def Faults (F : Foot) (s t : State) : Prop := Keeps F.noMode s t ∨ (t.mode = .faulted ∧ Keeps F.orFaulted s t)

section
variable {F : Foot} {s t u : State}

theorem Foot.mem_noMode {f : Field} : f ∈ F.noMode.fields ↔ f ∈ F.fields ∧ f ≠ .mode := by simp [Foot.noMode]

theorem Foot.holds_noMode {fields : List Field} {elems : List Nat} (hF : F.holds fields elems = true)
    (hmode : fields.contains .mode = false) : F.noMode.holds fields elems = true := by
  obtain ⟨hfields, helems⟩ := Foot.holds_iff.1 hF
  refine Foot.holds_iff.2 ⟨fun f hf => Foot.mem_noMode.2 ⟨hfields f hf, fun he => ?_⟩, helems⟩
  simp [← he, hf] at hmode

theorem Keeps.ofNoMode (h : Keeps F.noMode s t) : Keeps F s t where
  fields f hf := h.fields f fun hin => hf (Foot.mem_noMode.1 hin).1
  elems hw := h.elems hw

theorem Keeps.orFaulted (h : Keeps F s t) : Keeps F.orFaulted s t where
  fields f hf := h.fields f fun hin => hf (List.mem_append_left _ hin)
  elems hw := (h.elems hw).mono fun _ => List.mem_cons_of_mem _

theorem Keeps.faults (h : Keeps F.noMode s t) : Faults F s t := .inl h

theorem Faults.refl (s : State) : Faults F s s := .inl (.refl s)

theorem Faults.trans (h : Faults F s t) (h' : Faults F t u) : Faults F s u := by
  rcases h with h | ⟨hm, h⟩
  · rcases h' with h' | ⟨hm', h'⟩
    · exact .inl (h.trans h')
    · exact .inr ⟨hm', h.ofNoMode.orFaulted.trans h'⟩
  · rcases h' with h' | ⟨hm', h'⟩
    · exact .inr ⟨(h'.fields .mode fun hin => (Foot.mem_noMode.1 hin).2 rfl).trans hm, h.trans h'.ofNoMode.orFaulted⟩
    · exact .inr ⟨hm', h.trans h'⟩

theorem Faults.ite {c : Prop} [Decidable c] (h : Faults F s t) (h' : Faults F s u) : Faults F s (if c then t else u) := by
  split <;> assumption

theorem Faults.foldl {α : Type} {f : State → α → State} (hf : ∀ u a, Faults F u (f u a)) (l : List α) (s : State) :
    Faults F s (l.foldl f s) := by
  induction l generalizing s with
  | nil => exact .refl s
  | cons a l ih => exact (hf s a).trans (ih _)

theorem Faults.orFaulted (h : Faults F s t) : Keeps F.orFaulted s t := h.elim (fun hk => hk.ofNoMode.orFaulted) And.right

/-- The mode changes to FAULTED alone. -/
theorem Faults.mode (h : Faults F s t) : t.mode = s.mode ∨ t.mode = .faulted :=
  h.imp (fun hk => hk.fields .mode fun hin => (Foot.mem_noMode.1 hin).2 rfl) And.left

/-- A footprint that takes in an entry to FAULTED. -/
theorem Faults.keeps (h : Faults F s t) (hF : F.holds faultedFields [0x1001] = true) : Keeps F s t := by
  obtain ⟨hfields, helems⟩ := Foot.holds_iff.1 hF
  have hk := h.orFaulted
  refine ⟨fun f hf => hk.fields f fun hin => ?_, fun hw => (hk.elems hw).mono fun k hin => ?_⟩
  · exact (List.mem_append.1 hin).elim hf fun hin' => hf (hfields f hin')
  · rcases List.mem_cons.1 hin with rfl | hin
    · exact helems.resolve_left (by simp [hw]) _ (List.mem_singleton_self _)
    · exact hin

/-- A smaller footprint in a larger one. -/
theorem Faults.mono {fields : List Field} {elems : List Nat} (hF : F.holds fields elems = true)
    (h : Faults ⟨fields, elems, false⟩ s t) : Faults F s t := by
  obtain ⟨hfields, helems⟩ := Foot.holds_iff.1 hF
  rcases h with h | ⟨hm, h⟩
  · refine .inl ⟨fun f hf => h.fields f fun hin => hf ?_, fun hw => (h.elems rfl).mono (helems.resolve_left (by simp [show F.whole = false from hw]))⟩
    obtain ⟨hin, hne⟩ := Foot.mem_noMode.1 hin
    exact Foot.mem_noMode.2 ⟨hfields f hin, hne⟩
  · refine .inr ⟨hm, fun f hf => h.fields f fun hin => hf ?_, fun hw => (h.elems rfl).mono fun k hk => ?_⟩
    · exact (List.mem_append.1 hin).elim (fun hin' => List.mem_append_left _ (hfields f hin')) (List.mem_append_right _)
    · rcases List.mem_cons.1 hk with rfl | hk
      · exact List.mem_cons_self
      · exact List.mem_cons_of_mem _ (helems.resolve_left (by simp [show F.whole = false from hw]) _ hk)

/-- The same of an operation that may change any element. -/
theorem Faults.monoWhole {fields : List Field} (hF : F.holdsWhole fields = true) (h : Faults ⟨fields, [], true⟩ s t) :
    Faults F s t := by
  obtain ⟨hfields, hwhole⟩ : (∀ f ∈ fields, f ∈ F.fields) ∧ F.whole = true := by simpa [Foot.holdsWhole] using hF
  rcases h with h | ⟨hm, h⟩
  · refine .inl ⟨fun f hf => h.fields f fun hin => hf ?_, fun hw => absurd hwhole (by simp [show F.whole = false from hw])⟩
    obtain ⟨hin, hne⟩ := Foot.mem_noMode.1 hin
    exact Foot.mem_noMode.2 ⟨hfields f hin, hne⟩
  · refine .inr ⟨hm, fun f hf => h.fields f fun hin => hf ?_, fun hw => absurd hwhole (by simp [show F.whole = false from hw])⟩
    exact (List.mem_append.1 hin).elim (fun hin' => List.mem_append_left _ (hfields f hin')) (List.mem_append_right _)

/-- What a footprint says of the record where the device may go to FAULTED. -/
theorem Faults.framed (h : Faults F s t) : framed t (s.graft F.fields t) := by
  refine h.imp (fun hk => hk.ofNoMode.eq_graft) fun ⟨hm, h⟩ => ⟨hm, ?_⟩
  refine (eq_graft_of_agree (l := faultedFields) fun f hf => ?_ : t = (s.graft F.fields t).graft faultedFields t)
  by_cases hin : f ∈ F.fields
  · exact s.agree_graft t hin
  · have hs := h.fields f fun h' => (List.mem_append.1 h').elim hin hf
    have hg := s.graft_agree t hin
    cases f <;> exact hs.trans hg.symm

/-- What a footprint says of the elements where the device may go to FAULTED. -/
theorem Faults.sameElems (h : Faults F s t) (hw : F.whole = false) (h1001 : F.elems.contains 0x1001 = true) :
    sameElems s t F.elems := by
  refine (h.orFaulted.elems hw).mono fun k hk => ?_
  rcases List.mem_cons.1 hk with rfl | hk
  · simpa using h1001
  · exact hk

/-- What a footprint says of the record and of the elements where the device may go to FAULTED. -/
theorem Faults.frame {l : List Nat} (h : Faults F s t) (hl : F.orFaulted.frames l = true) :
    Machine.framed t (s.graft F.fields t) ∧ stands s t l :=
  ⟨h.framed, h.orFaulted.stands hl⟩

end

/-! What a command's next state is (R25). -/

section
variable {F : Foot} {c : Instr} {s t : State} {f : State → State}

/-- Around a meaning stand the empty list of emissions and the queue as it was. -/
theorem Keeps.around (h : Keeps F s.fresh (f s.fresh)) (hF : F.fields.contains .emitted = true) :
    Keeps F s { f s.fresh with pending := s.pending } where
  fields x hx := by
    have hne : x ≠ .emitted := fun he => hx (he ▸ by simpa using hF)
    have hk := h.fields x hx
    cases x
    case pending => rfl
    case emitted => exact absurd rfl hne
    all_goals exact hk
  elems hw := h.elems hw

theorem Faults.around (h : Faults F s.fresh (f s.fresh)) (hF : F.fields.contains .emitted = true) :
    Faults F s { f s.fresh with pending := s.pending } :=
  h.imp (fun hk => hk.around (by simpa [Foot.noMode] using hF)) fun ⟨hm, hk⟩ => ⟨hm, hk.around (by simp [Foot.orFaulted, faultedFields])⟩

theorem fresh_keeps (s : State) (hF : F.fields.contains .emitted = true) : Keeps F s s.fresh :=
  .set [.emitted] rfl (by simpa [Foot.holds] using hF)

/-- No queue is touched: the state that a meaning acts on, and the one it answers. -/
theorem Keeps.queue (h : Keeps F s.fresh (f s.fresh)) : Keeps F s.fresh { f s.fresh with pending := s.pending } where
  fields x hx := by
    have hk := h.fields x hx
    cases x
    case pending => rfl
    all_goals exact hk
  elems hw := h.elems hw

/-- What a command that acts leaves unchanged. -/
theorem Keeps.of_act (h : exec c s = act s f) (ht : exec c s = .next t) (hF : F.fields.contains .emitted = true)
    (hk : Keeps F s.fresh (f s.fresh)) : Keeps F s t := act_next h ht ▸ hk.around hF

theorem Keeps.of_actRunning (h : exec c s = actRunning s f) (ht : exec c s = .next t) (hF : F.fields.contains .emitted = true)
    (hk : Keeps F s.fresh (f s.fresh)) : Keeps F s t :=
  actRunning_next h ht ▸ .ite (hk.around hF) (fresh_keeps s hF)

theorem Keeps.of_onUnit {n l : Nat} (h : exec c s = onUnit n l s f) (ht : exec c s = .next t)
    (hF : F.fields.contains .emitted = true) (hk : n < l → Keeps F s.fresh (f s.fresh)) : Keeps F s t := by
  obtain ⟨hn, he⟩ := onUnit_next h ht
  exact he ▸ .ite ((hk hn).around hF) (fresh_keeps s hF)

theorem Faults.of_act (h : exec c s = act s f) (ht : exec c s = .next t) (hF : F.fields.contains .emitted = true)
    (hk : Faults F s.fresh (f s.fresh)) : Faults F s t := act_next h ht ▸ hk.around hF

theorem Faults.of_actRunning (h : exec c s = actRunning s f) (ht : exec c s = .next t) (hF : F.fields.contains .emitted = true)
    (hk : Faults F s.fresh (f s.fresh)) : Faults F s t :=
  actRunning_next h ht ▸ .ite (hk.around hF) (fresh_keeps s (by simpa [Foot.noMode] using hF)).faults

theorem Faults.of_onUnit {n l : Nat} (h : exec c s = onUnit n l s f) (ht : exec c s = .next t)
    (hF : F.fields.contains .emitted = true) (hk : n < l → Faults F s.fresh (f s.fresh)) : Faults F s t := by
  obtain ⟨hn, he⟩ := onUnit_next h ht
  exact he ▸ .ite ((hk hn).around hF) (fresh_keeps s (by simpa [Foot.noMode] using hF)).faults

end

end Sys2Proof.Machine
end

section
/-! SUPPORT. Footprints of the device's shared operations: emissions, elements, the log, frames and replies, faults, requests
(R451-R458, R476-R482, R511, R518, R552-R565). -/

namespace Sys2Proof.Machine

variable {F : Foot}

/-! Emissions and elements. -/

theorem emit_keeps (s : State) (e : Emission) (hF : F.holds [.emitted] = true) : Keeps F s (s.emit e) := by
  unfold State.emit
  split
  · exact .refl s
  · exact .set [.emitted] rfl hF

theorem emitTwice_keeps (s : State) (w : Word) (b : List Byte) (hF : F.holds [.emitted] = true) :
    Keeps F s (s.emitTwice w b) := (emit_keeps _ _ hF).trans (emit_keeps _ _ hF)

theorem mirror_keeps (s : State) (k o : Nat) (v : Word) (hF : F.holds [.emitted] = true) :
    Keeps F s (mirror s k o v) := by
  unfold mirror
  split
  · exact emitTwice_keeps _ _ _ hF
  · exact .refl s

theorem putFlag_keeps {i j : Nat} (s : State) (n : Nat) (b : Bool) (hj : j < 65536) (hF : F.holds [.dict] [i] = true) :
    Keeps F s (s.putFlag i j n b) := put_keeps s _ hj hF

theorem putField_keeps {i j : Nat} (s : State) (hi lo v : Nat) (hj : j < 65536) (hF : F.holds [.dict] [i] = true) :
    Keeps F s (s.putField i j hi lo v) := put_keeps s _ hj hF

theorem count_keeps {i j : Nat} (s : State) (hj : j < 65536) (hF : F.holds [.dict] [i] = true) :
    Keeps F s (s.count i j) := put_keeps s _ hj hF

theorem countBy_keeps {i j : Nat} (s : State) (n : Nat) (hj : j < 65536) (hF : F.holds [.dict] [i] = true) :
    Keeps F s (s.countBy i j n) := put_keeps s _ hj hF

theorem count64_keeps {i j : Nat} (s : State) (n : Nat) (hj : j < 65536) (hF : F.holds [.dict] [i] = true) :
    Keeps F s (s.count64 i j n) := put_keeps s _ hj hF

theorem commit_keeps {i j : Nat} (s : State) (v : Word) (hj : j < 65536) (hF : F.holds [.dict, .recent] [i] = true) :
    Keeps F s (s.commit i j v) := by
  have h : Keeps ⟨[.dict, .recent], [i], false⟩ (s.put i j v) (s.commit i j v) := .set [.recent] rfl (by simp [Foot.holds])
  exact .mono hF ((put_keeps s v hj (by simp [Foot.holds])).trans h)

/-! The log, frames and replies. -/

theorem appendLog_keeps (s : State) (e : LogEntry) (hF : F.holds [.log] = true) : Keeps F s (appendLog s e) := by
  unfold appendLog
  dsimp only
  repeat' split
  all_goals exact .set [.log] rfl hF

theorem logEvent_keeps (s : State) (i j : Nat) (o n : Word) (p : Nat) (b : Bool) (st : Nat) (hF : F.holds [.log] = true) :
    Keeps F s (logEvent s i j o n p b st) := by
  unfold logEvent
  split
  · exact .set [.log] rfl hF
  · exact appendLog_keeps _ _ hF

theorem countPort_keeps (s : State) (p : Port) (n : Nat) (hn : n < 0x10) (hF : F.holds [.dict] [0x1001] = true) :
    Keeps F s (countPort s p n) := by
  have hp : portNum p ≤ 3 := by cases p <;> decide
  have hc : Keeps F s (s.count 0x1001 (0x100 + 0x10 * portNum p + n)) := count_keeps s (by omega) hF
  unfold countPort
  split
  · exact .refl s
  · exact .refl s
  · exact hc

/-- The fields that an answer touches. -/
abbrev answerFields : List Field := [.dict, .req, .emitted]

theorem sendFrame_keeps (s : State) (rq : Rq) (frame : List Byte) (hF : F.holds answerFields [0x1001] = true) :
    Keeps F s (sendFrame s rq frame) := by
  refine .mono hF ?_
  unfold sendFrame
  split
  · exact .ite (.set [.req] rfl (by rfl)) (countPort_keeps _ _ _ (by decide) (by rfl))
  · exact .ite (emit_keeps _ _ (by rfl)) (.refl s)
  · exact .ite (emit_keeps _ _ (by rfl)) (.refl s)
  · exact emit_keeps _ _ (by rfl)
  · exact emit_keeps _ _ (by rfl)
  · exact .refl s

theorem sendReply_keeps (s : State) (rq : Rq) (i j st : Nat) (d : List Byte) (hF : F.holds answerFields [0x1001] = true) :
    Keeps F s (sendReply s rq i j st d) := by
  refine .mono hF ?_
  unfold sendReply
  dsimp only
  split
  · exact .refl s
  · exact .ite (((sendFrame_keeps _ _ _ (by rfl)).trans (.set [.req] rfl (by rfl))).trans (countPort_keeps _ _ _ (by decide) (by rfl))) (.refl s)
  · exact .ite (((sendFrame_keeps _ _ _ (by rfl)).trans (.set [.req] rfl (by rfl))).trans (countPort_keeps _ _ _ (by decide) (by rfl))) (.refl s)
  · exact (sendFrame_keeps _ _ _ (by rfl)).trans (countPort_keeps _ _ _ (by decide) (by rfl))

theorem notify_keeps (s : State) (rq : Rq) (i j st : Nat) (d : List Byte) (hF : F.holds answerFields [0x1001] = true) :
    Keeps F s (notify s rq i j st d) := by
  refine .mono hF ?_
  unfold notify
  split
  · exact .refl s
  · exact (sendFrame_keeps _ _ _ (by rfl)).trans (.set [.req] rfl (by rfl))

theorem finishWaiting_keeps (s : State) (i j st : Nat) (d : List Byte) (hF : F.holds answerFields [0x1001] = true) :
    Keeps F s (finishWaiting s i j st d) := by
  refine .mono hF ?_
  unfold finishWaiting
  split
  · exact .trans (.set [.req] rfl (by rfl)) (notify_keeps _ _ _ _ _ _ (by rfl))
  · exact .refl s

theorem setMode_keeps (s : State) (m : Mode) (hF : F.holds [.mode, .log] = true) : Keeps F s (setMode s m) := by
  refine .mono hF ?_
  unfold setMode
  split
  · exact .refl s
  · exact .trans (.set [.mode] rfl (by rfl)) (logEvent_keeps _ _ _ _ _ _ _ _ (by rfl))

theorem setBank_keeps (s : State) (b : Nat) (x : BankSt) (hF : F.holds [.banks] = true) : Keeps F s (s.setBank b x) :=
  .set [.banks] rfl hF

theorem disarm_keeps (s : State) (scope : Nat) (hF : F.holds [.banks] = true) : Keeps F s (disarm s scope) :=
  .foldl (fun u b => .ite (setBank_keeps u b _ hF) (.refl u)) _ s

theorem freeze_keeps (s : State) (trigger : Nat) (hF : F.holds [.mode, .log, .faults, .dbg] = true) :
    Keeps F s (freeze s trigger) := by
  refine .mono hF ?_
  unfold freeze
  split
  · exact .refl s
  · exact .trans (.set [.faults, .dbg] rfl (by rfl)) (setMode_keeps _ _ (by rfl))

/-! Events, moves and transfers given up (R45, R58, R241, R266, R518). -/

/-- The fields that an event given up touches. -/
abbrev discardFields : List Field := [.events, .banks, .pair, .log, .dict, .req, .emitted]

theorem discardEvent_keeps (s : State) (e : Event) (st : Nat) (hF : F.holds discardFields [0x1001] = true) :
    Keeps F s (discardEvent s e st) := by
  refine .mono hF ?_
  have hend : ∀ (i j : Nat) (a : State), Keeps ⟨discardFields, [0x1001], false⟩ s a →
      Keeps ⟨discardFields, [0x1001], false⟩ s (match e.rq with
        | some rq => if e.kind = 1 ∨ (e.kind = 2 ∧ st = stFaulted) then
            notify (logEvent a i j (logValue 8 e.tp) 0 e.plane false st) rq i j st [] else
            logEvent a i j (logValue 8 e.tp) 0 e.plane false st
        | none => logEvent a i j (logValue 8 e.tp) 0 e.plane false st) := by
    intro i j a ha
    have hl := ha.trans (logEvent_keeps a i j (logValue 8 e.tp) 0 e.plane false st (by rfl))
    split
    · exact .ite (hl.trans (notify_keeps _ _ _ _ _ _ (by rfl))) hl
    · exact hl
  have hgone : Keeps ⟨discardFields, [0x1001], false⟩ s { s with events := s.events.filter fun x => x.order != e.order } :=
    .set [.events] rfl (by rfl)
  have hdisarm : Keeps ⟨discardFields, [0x1001], false⟩ s
      (if e.kind = 1 then disarm { s with events := s.events.filter fun x => x.order != e.order } e.scope
        else { s with events := s.events.filter fun x => x.order != e.order }) :=
    .ite (hgone.trans (disarm_keeps _ _ (by rfl))) hgone
  exact hend _ _ _ (.ite (hdisarm.trans (.set [.pair] rfl (by rfl))) hdisarm)

theorem discardEvents_keeps (s : State) (p : Event → Bool) (st : Nat) (hF : F.holds discardFields [0x1001] = true) :
    Keeps F s (discardEvents s p st) := .foldl (fun _ _ => discardEvent_keeps _ _ _ hF) _ s

theorem dropNewSide_keeps (s : State) (j : Nat) (hF : F.holds [.dict, .ins, .cells] = true) :
    Keeps F s (dropNewSide s j) := by
  refine .mono hF ⟨fun f hf => agree_of_graft (l := [.dict, .ins, .cells]) rfl hf, fun _ i k _ hk => ?_⟩
  refine mapGet_filter _ _ _ (fun v => ?_) _
  have hsub : ekey i k % 65536 = k := by unfold ekey; omega
  simp only [hsub]
  simp
  omega

theorem cancelMove_keeps (s : State) (m : Move) (hF : F.holds [.moves, .dict, .ins, .cells, .log] = true) :
    Keeps F s (cancelMove s m) := by
  refine .mono hF ?_
  unfold cancelMove
  dsimp only
  refine .trans ?_ (logEvent_keeps _ _ _ _ _ _ _ _ (by rfl))
  exact .ite (.trans (.set [.moves] rfl (by rfl)) (dropNewSide_keeps _ _ (by rfl))) (.set [.moves] rfl (by rfl))

theorem cancelMoves_keeps (s : State) (hF : F.holds [.moves, .dict, .ins, .cells, .log] = true) :
    Keeps F s (cancelMoves s) := .foldl (fun _ _ => cancelMove_keeps _ _ hF) _ s

theorem abandonTransfers_keeps (s : State) (st : Nat) (hF : F.holds answerFields [0x1001] = true) :
    Keeps F s (abandonTransfers s st) := by
  refine .mono hF ?_
  unfold abandonTransfers
  exact .trans (.set [.req] rfl (by rfl)) (.foldl (fun _ _ => notify_keeps _ _ _ _ _ _ (by rfl)) _ _)

theorem setWindow_keeps (s : State) (w : Nat) (x : WindowOp) (hF : F.holds [.windows] = true) :
    Keeps F s (s.setWindow w x) := .set [.windows] rfl hF

theorem failWindow_keeps (st : Nat) (s : State) (w : Nat) (hF : F.holds [.windows, .dict, .req, .emitted] [0x1001] = true) :
    Keeps F s (failWindow st s w) := by
  refine .mono hF ?_
  unfold failWindow
  exact .ite (.trans (setWindow_keeps _ _ _ (by rfl)) (finishWaiting_keeps _ _ _ _ _ (by rfl))) (.refl s)

theorem endStaging_keeps (s : State) (r : Nat) (st : Option Nat) (hF : F.holds [.boot, .dict, .req, .emitted] [0x1001] = true) :
    Keeps F s (endStaging s r st) := by
  refine .mono hF ?_
  unfold endStaging
  split
  · dsimp only
    split
    · exact .trans (.set [.boot] rfl (by rfl)) (finishWaiting_keeps _ _ _ _ _ (by rfl))
    · exact .set [.boot, .req] rfl (by rfl)
  · exact .refl s

theorem dropClaim_keeps (s : State) (hF : F.holds [.pair] = true) : Keeps F s (dropClaim s) := .set [.pair] rfl hF

theorem failSpools_keeps (s : State) (hF : F.holds [.spools] = true) : Keeps F s (failSpools s) := .set [.spools] rfl hF

/-! Faults (R518, R552-R557). -/

theorem enterFaulted_keeps (s : State) (n : Nat) (d : Word) (hF : F.holds faultedFields [0x1001] = true) :
    Keeps F s (enterFaulted s n d) := by
  refine .mono hF ?_
  have hstop : Keeps ⟨faultedFields, [0x1001], false⟩ s
      { s with faults := { s.faults with stopped := s.faults.stopped ++ [{
          what := match faultRow n with
            | some r => r.implicates
            | none => .none
          detail := d }] } } := .set [.faults] rfl (by rfl)
  unfold enterFaulted
  refine .ite hstop ?_
  exact hstop.trans <| (setMode_keeps _ _ (by rfl)).trans <| (dropClaim_keeps _ (by rfl)).trans <| (discardEvents_keeps _ _ _ (by rfl)).trans <|
    (cancelMoves_keeps _ (by rfl)).trans <| (abandonTransfers_keeps _ _ (by rfl)).trans <|
      (Keeps.foldl (fun _ _ => failWindow_keeps _ _ _ (by rfl)) _ _).trans <| (endStaging_keeps _ _ _ (by rfl)).trans (failSpools_keeps _ (by rfl))

theorem setSource_keeps (s : State) (n : Nat) (x : FaultSrc) (hF : F.holds [.faults] = true) :
    Keeps F s (s.setSource n x) := .set [.faults] rfl hF

theorem clearActive_keeps (s : State) (n : Nat) (hF : F.holds [.faults] = true) : Keeps F s (clearActive s n) :=
  setSource_keeps _ _ _ hF

/-- The fields that the note of a fault touches. -/
abbrev noteFields : List Field := [.log, .faults, .pair, .emitted]

theorem noteFault_keeps (s : State) (n : Nat) (d : Word) (l f : Bool) (p : Nat) (hF : F.holds noteFields = true) :
    Keeps F s (noteFault s n d l f p) := by
  refine .mono hF ?_
  have hemit : ∀ a, Keeps ⟨noteFields, [], false⟩ s a →
      Keeps ⟨noteFields, [], false⟩ s (if a.paired = true then a.emit
        (.bridle (0x08 * 2 ^ 248 + n * 2 ^ 239 + s.sourceClass n * 2 ^ 237 + ofSigned 64 a.ns * 2 ^ 173) []) else a) :=
    fun a ha => .ite (ha.trans (emit_keeps _ _ (by rfl))) ha
  unfold noteFault
  dsimp only
  refine hemit _ ?_
  refine .trans ?_ (.set [.faults, .pair] rfl (by rfl))
  exact .ite (.trans (setSource_keeps _ _ _ (by rfl)) (logEvent_keeps _ _ _ _ _ _ _ _ (by rfl))) (setSource_keeps _ _ _ (by rfl))

theorem declareFault_faults (s : State) (n : Nat) (d : Word) (l f : Bool) (p : Nat) (hF : F.holds noteFields = true) :
    Faults F s (declareFault s n d l f p) := by
  have hnote : Keeps F.noMode s (noteFault s n d l f p) := noteFault_keeps s n d l f p (Foot.holds_noMode hF (by rfl))
  unfold declareFault
  dsimp only
  split
  · refine .inr ⟨(enterFaulted_faulted _ _ _).1, hnote.ofNoMode.orFaulted.trans (enterFaulted_keeps _ _ _ ?_)⟩
    simp [Foot.orFaulted, Foot.holds, faultedFields]
  · exact hnote.faults

/-! Requests (R12, R13, R25, R426, R454-R458, R476-R482). -/

theorem unbuffer_keeps (s : State) (rq : Rq) (op i j : Nat) (b : List Byte) (hF : F.holds [.req] = true) :
    Keeps F s (unbuffer s rq op i j b) := by
  unfold unbuffer
  dsimp only
  split
  case h_5 => exact .refl s
  all_goals exact .set [.req] rfl hF

theorem recordReply_keeps (s : State) (rq : Rq) (st : Nat) (d : List Byte) (hF : F.holds [.req] = true) :
    Keeps F s (recordReply s rq st d) := .set [.req] rfl hF

theorem streamChange_keeps (s : State) (rq : Rq) (op i j st : Nat) (b d : List Byte) (hF : F.holds [.pair, .emitted] = true) :
    Keeps F s (streamChange s rq op i j st b d) := by
  refine .mono hF ?_
  unfold streamChange
  exact .ite (.trans (.set [.pair] rfl (by rfl)) (emitTwice_keeps _ _ _ (by rfl))) (.refl s)

theorem logRefusal_keeps (s : State) (rq : Rq) (op i j st : Nat) (h : Handler) (hF : F.holds [.log] = true) :
    Keeps F s (logRefusal s rq op i j st h) := by
  unfold logRefusal
  exact .ite (.refl s) (.ite (.set [.log] rfl hF) (appendLog_keeps _ _ hF))

/-- The fields that a request touches after its commit. -/
abbrev replyFields : List Field := [.dict, .req, .emitted, .pair]

/-- The fields that a request touches beside its commit. -/
abbrev requestFields : List Field := [.dict, .req, .emitted, .log, .pair]

/-- After its commit stand the change stream and the reply. -/
theorem afterCommit_keeps (u : State) (rq : Rq) (op i j st : Nat) (b d : List Byte) (w : Bool)
    (hF : F.holds replyFields [0x1001] = true) :
    Keeps F u (sendReply (recordReply (if w = true then { streamChange u rq op i j st b d with
      req := { (streamChange u rq op i j st b d).req with waiting := (streamChange u rq op i j st b d).req.waiting ++
        [{ rq := rq, index := i, sub := j }] } } else streamChange u rq op i j st b d) rq st d) rq i j st d) := by
  refine .mono hF ?_
  have hs : Keeps ⟨replyFields, [0x1001], false⟩ u (streamChange u rq op i j st b d) := streamChange_keeps _ _ _ _ _ _ _ _ (by rfl)
  exact (Keeps.ite (hs.trans (.set [.req] rfl (by rfl))) hs).trans ((recordReply_keeps _ _ _ _ (by rfl)).trans (sendReply_keeps _ _ _ _ _ _ (by rfl)))

section
variable {h : Handler} (hF : F.holds requestFields [0x1001, 0x5300] = true)
include hF

theorem commitRequest_keeps (hc : ∀ u, Keeps F u (h.commit u)) (s : State) (rq : Rq) (op i j : Nat) (b : List Byte) :
    Keeps F s (commitRequest s rq op i j b h) :=
  (appendLog_keeps _ _ ((Foot.holds_sub hF (by rfl)))).trans <| (hc _).trans (afterCommit_keeps _ _ _ _ _ _ _ _ _ (Foot.holds_sub hF (by rfl)))

theorem commitRequest_faults (hc : ∀ u, Faults F u (h.commit u)) (s : State) (rq : Rq) (op i j : Nat) (b : List Byte) :
    Faults F s (commitRequest s rq op i j b h) :=
  have hF' : F.noMode.holds requestFields [0x1001, 0x5300] = true := Foot.holds_noMode hF (by rfl)
  (appendLog_keeps _ _ (Foot.holds_sub hF' (by rfl))).faults.trans
    ((hc _).trans (afterCommit_keeps _ _ _ _ _ _ _ _ _ (Foot.holds_sub hF' (by rfl))).faults)

theorem refuseRequest_keeps (hr : ∀ st u, Keeps F u (h.refused st u)) (s : State) (rq : Rq) (op i j st : Nat) :
    Keeps F s (refuseRequest s rq op i j st h) := by
  have hcount : ∀ n, n < 0x10 → Keeps F s (countPort s rq.port n) := fun n hn =>
    countPort_keeps _ _ _ hn ((Foot.holds_sub hF (by rfl)))
  have hput : ∀ u v, Keeps F u (u.put 0x5300 8 v) := fun u v => put_keeps _ _ (by decide) ((Foot.holds_sub hF (by rfl)))
  unfold refuseRequest
  dsimp only
  refine .trans ?_ (sendReply_keeps _ _ _ _ _ _ ((Foot.holds_sub hF (by rfl))))
  have hlogged := (Keeps.ite (c := st = stAuth) (hcount 4 (by decide)) (.ite (c := st = stAccess) (hcount 5 (by decide)) (.refl s))).trans
    (logRefusal_keeps _ rq op i j st h ((Foot.holds_sub hF (by rfl))))
  have hrefused : ∀ a, Keeps F s a → Keeps F s (if st = stAuth then h.refused st a else recordReply (h.refused st a) rq st []) :=
    fun a ha => .ite (ha.trans (hr _ _)) ((ha.trans (hr _ _)).trans (recordReply_keeps _ _ _ _ ((Foot.holds_sub hF (by rfl)))))
  exact hrefused _ (.ite (hlogged.trans (hput _ _)) hlogged)

theorem request_keeps (hc : ∀ u, Keeps F u (h.commit u)) (hr : ∀ st u, Keeps F u (h.refused st u)) (s : State) (rq : Rq)
    (op i j : Nat) (b : List Byte) : Keeps F s (request s rq op i j b h) := by
  have hjudged : Keeps F s (judged s rq op i j b) :=
    (unbuffer_keeps _ _ _ _ _ _ ((Foot.holds_sub hF (by rfl)))).trans (countPort_keeps _ _ _ (by decide) ((Foot.holds_sub hF (by rfl))))
  unfold request
  refine .ite (.refl s) ?_
  dsimp only
  split
  · exact hjudged.trans (sendReply_keeps _ _ _ _ _ _ ((Foot.holds_sub hF (by rfl))))
  · exact .ite (hjudged.trans (commitRequest_keeps hF hc _ _ _ _ _ _)) (hjudged.trans (refuseRequest_keeps hF hr _ _ _ _ _ _))

theorem request_faults (hc : ∀ u, Faults F u (h.commit u)) (hr : ∀ st u, Keeps F.noMode u (h.refused st u)) (s : State) (rq : Rq)
    (op i j : Nat) (b : List Byte) : Faults F s (request s rq op i j b h) := by
  have hF' : F.noMode.holds requestFields [0x1001, 0x5300] = true := Foot.holds_noMode hF (by rfl)
  have hjudged : Keeps F.noMode s (judged s rq op i j b) :=
    (unbuffer_keeps _ _ _ _ _ _ (Foot.holds_sub hF' (by rfl))).trans (countPort_keeps _ _ _ (by decide) (Foot.holds_sub hF' (by rfl)))
  unfold request
  refine .ite (.refl s) ?_
  dsimp only
  split
  · exact (hjudged.trans (sendReply_keeps _ _ _ _ _ _ (Foot.holds_sub hF' (by rfl)))).faults
  · exact .ite (hjudged.faults.trans (commitRequest_faults hF hc _ _ _ _ _ _))
      (hjudged.trans (refuseRequest_keeps hF' hr _ _ _ _ _ _)).faults

end

/-- An accepted request: `u` is the state at its commit. -/
theorem request_accepts {s : State} {rq : Rq} {op i j : Nat} {b : List Byte} {h : Handler} (ha : isAccepted s rq op i j b h) :
    ∃ u, Keeps ⟨[.dict, .req, .log], [0x1001], false⟩ s u ∧
      Keeps ⟨replyFields, [0x1001], false⟩ (h.commit u) (request s rq op i j b h) := by
  have hjudged : Keeps ⟨[.dict, .req, .log], [0x1001], false⟩ s (judged s rq op i j b) :=
    (unbuffer_keeps _ _ _ _ _ _ (by rfl)).trans (countPort_keeps _ _ _ (by decide) (by rfl))
  rw [request_accepted ha]
  exact ⟨_, hjudged.trans (appendLog_keeps _ _ (by rfl)), afterCommit_keeps _ _ _ _ _ _ _ _ _ (by rfl)⟩

/-- An accepted request names an element of the map (R488). -/
theorem dictRow_of_isAccepted {s : State} {rq : Rq} {op i j : Nat} {b : List Byte} {h : Handler} (ha : isAccepted s rq op i j b h) :
    ∃ r, dictRow i j = some r := by
  obtain ⟨-, -, hstatus⟩ := ha
  have passed := (firstFailure_ok_iff (by simp [checkList])).1 hstatus ((dictRow i j).isNone || h.checks.noSub, stNoSub)
    (by simp [checkList])
  exact Option.isSome_iff_exists.1 (by simpa using (Bool.or_eq_false_iff.1 passed).1)

/-- Sub-indices of an index stay below the end of its rows. -/
theorem sub_of_isAccepted {s : State} {rq : Rq} {op i j : Nat} {b : List Byte} {h : Handler} (ha : isAccepted s rq op i j b h)
    (n : Nat) (hn : ((dictRange (i / 4096)).all fun r => !(decide (r.idxLo ≤ i) && decide (i ≤ r.idxHi)) || decide (r.subHi < n)) = true) :
    j < n := by
  obtain ⟨r, hr⟩ := dictRow_of_isAccepted ha
  obtain ⟨-, hlo, hhi, -, hsub⟩ := dictRow_spans hr
  have hall := List.all_eq_true.1 hn r (List.mem_of_find?_eq_some hr)
  simp [hlo, hhi] at hall
  omega

theorem plainHandler_keeps {i j : Nat} (s u : State) (b : List Byte) (c : Checks) (hj : j < 65536)
    (hF : F.holds [.dict, .recent] [i] = true) : Keeps F u ((plainHandler s i j b c).commit u) :=
  commit_keeps _ _ hj hF

theorem zeroHandler_keeps {i j : Nat} (s u : State) (b : List Byte) (r : State → Word) (hj : j < 65536)
    (hF : F.holds [.dict] [i] = true) : Keeps F u ((zeroHandler s i j b r).commit u) :=
  put_keeps _ _ hj hF

end Sys2Proof.Machine
end

section
/-! SUPPORT. Footprints of the event queue, of takes given up and of salvos fired by an input (R55, R241, R248, R257, R268, R407-R409). -/

namespace Sys2Proof.Machine

variable {F : Foot}

theorem queueEvent_keeps (s : State) (e : Event) (hF : F.holds [.events, .order, .dict] [0x2200] = true) :
    Keeps F s (queueEvent s e) := by
  refine .mono hF ?_
  have hqueued : Keeps ⟨[.events, .order, .dict], [0x2200], false⟩ s
      { s with events := s.events ++ [{ e with order := s.order }], order := s.order + 1 } := .set [.events, .order] rfl (by rfl)
  unfold queueEvent
  exact .ite (hqueued.trans (put_keeps _ _ (by decide) (by rfl))) hqueued

theorem reseedDone_keeps (s : State) (b : Nat) (hF : F.holds [.banks] = true) : Keeps F s (reseedDone s b) := by
  unfold reseedDone
  exact .ite (setBank_keeps _ _ _ hF) (.refl s)

theorem cancelTake_keeps (s : State) (e : Event) (hF : F.holds [.events, .banks, .dict, .log] [0x1101] = true) :
    Keeps F s (cancelTake s e) := by
  refine .mono hF ?_
  unfold cancelTake
  exact .trans (.set [.events] rfl (by rfl)) <| (disarm_keeps _ _ (by rfl)).trans <| (count_keeps _ (by decide) (by rfl)).trans (logEvent_keeps _ _ _ _ _ _ _ _ (by rfl))

theorem takeRefused_keeps (b : Bool) (st : Nat) (s : State) (hF : F.holds [.lastRefusal, .dict] [0x1101] = true) :
    Keeps F s (takeRefused b st s) := by
  refine .mono hF ?_
  have hcount : Keeps ⟨[.lastRefusal, .dict], [0x1101], false⟩ s (s.count 0x1101 2) := count_keeps _ (by decide) (by rfl)
  have hnote : ∀ n, Keeps ⟨[.lastRefusal, .dict], [0x1101], false⟩ s (noteRefusal (s.count 0x1101 2) n) := fun n =>
    hcount.trans (.set [.lastRefusal] rfl (by rfl))
  unfold takeRefused
  exact .ite (hnote _) (.ite (hnote _) (.ite (hnote _) hcount))

theorem fireRefused_keeps (st : Nat) (s : State) (hF : F.holds [.lastRefusal, .dict] [0x1101] = true) :
    Keeps F s (fireRefused st s) := by
  refine .mono hF ?_
  have hcount : Keeps ⟨[.lastRefusal, .dict], [0x1101], false⟩ s (s.count 0x1101 5) := count_keeps _ (by decide) (by rfl)
  have hnote : ∀ n, Keeps ⟨[.lastRefusal, .dict], [0x1101], false⟩ s (noteRefusal (s.count 0x1101 5) n) := fun n =>
    hcount.trans (.set [.lastRefusal] rfl (by rfl))
  unfold fireRefused
  exact .ite (hnote _) (.ite (hnote _) hcount)

/-- The fields that a salvo fired by an input touches. -/
abbrev fireFields : List Field := [.events, .order, .lastRefusal, .dict, .log, .faults, .pair, .emitted]

theorem fireFromField_faults (s : State) (n : Nat) (hF : F.holds fireFields [0x1101, 0x2200, 0x5300] = true) :
    Faults F s (fireFromField s n) := by
  refine .mono hF ?_
  have hqueued : Keeps (Foot.noMode ⟨fireFields, [0x1101, 0x2200, 0x5300], false⟩) s (queueSalvo s n none) := queueEvent_keeps _ _ (by rfl)
  have hrefused : ∀ st, Keeps (Foot.noMode ⟨fireFields, [0x1101, 0x2200, 0x5300], false⟩) s (fireRefused st s) := fun st => fireRefused_keeps st s (by rfl)
  have hlog : ∀ (u : State) i j o v p b st, Faults ⟨fireFields, [0x1101, 0x2200, 0x5300], false⟩ u (logEvent u i j o v p b st) :=
    fun u i j o v p b st => (logEvent_keeps u i j o v p b st (by rfl)).faults
  unfold fireFromField
  refine .ite (hqueued.faults.trans (hlog _ _ _ _ _ _ _ _)) ?_
  refine .trans (.trans ?_ (declareFault_faults _ _ _ _ _ _ (by rfl))) (hlog _ _ _ _ _ _ _ _)
  exact .ite ((hrefused _).trans (put_keeps _ _ (by decide) (by rfl))).faults (hrefused _).faults

theorem floodCascade_keeps (s : State) (m : CascadeMsg) (q : Option Nat) (hF : F.holds [.tether, .emitted] = true) :
    Keeps F s (floodCascade s m q) := by
  refine .mono hF ?_
  unfold floodCascade
  exact .trans (.set [.tether] rfl (by rfl)) (.foldl (fun _ _ => emit_keeps _ _ (by rfl)) _ _)

theorem armCascade_keeps (s : State) (tp : Word) (p scope : Nat) (n f : Bool) (rq : Option Rq)
    (hF : F.holds [.banks, .events, .order, .dict] [0x2200] = true) : Keeps F s (armCascade s tp p scope n f rq) := by
  refine .mono hF ?_
  have harm : ∀ (u : State) i, Keeps ⟨[.banks, .events, .order, .dict], [0x2200], false⟩ u
      (if bit (scope &&& s.bound) i then (reseedDone u i).setBank i { (reseedDone u i).bank i with armed := true } else u) :=
    fun u i => .ite ((reseedDone_keeps u i (by rfl)).trans (setBank_keeps _ _ _ (by rfl))) (.refl u)
  unfold armCascade
  exact .ite (.refl s) ((Keeps.foldl harm _ _).trans (queueEvent_keeps _ _ (by rfl)))

/-- The fields that an ABORT touches. -/
abbrev abortFields : List Field := [.events, .banks, .tether, .dict, .req, .emitted, .log, .pair]

theorem abortHandler_keeps (s u : State) (rq : Rq) (b : List Byte) (hF : F.holds abortFields [0x1101] = true) :
    Keeps F u ((abortHandler s rq b).commit u) := .mono hF (.foldl (fun _ _ => cancelTake_keeps _ _ (by rfl)) _ _)

theorem dropIssued_keeps (s : State) (l : List Issued) (hF : F.holds [.tether] = true) : Keeps F s (dropIssued s l) :=
  .set [.tether] rfl hF

theorem cascadeAbortHandler_keeps (s u : State) (rq : Rq) (b : List Byte) (hF : F.holds abortFields [0x1101] = true) :
    Keeps F u ((cascadeAbortHandler s rq b).commit u) := by
  refine .mono hF ?_
  exact (Keeps.foldl (fun _ _ => cancelTake_keeps _ _ (by rfl)) _ _).trans ((dropIssued_keeps _ _ (by rfl)).trans (floodCascade_keeps _ _ _ (by rfl)))

theorem abortAny_keeps (s : State) (rq : Rq) (b : List Byte) (hF : F.holds abortFields [0x1001, 0x1101, 0x5300] = true) :
    Keeps F s (abortAny s rq b) := by
  refine .mono hF ?_
  unfold abortAny
  refine request_keeps (by rfl) (fun u => ?_) (fun _ u => ?_) _ _ _ _ _ _
  · split
    · exact cascadeAbortHandler_keeps _ _ _ _ (by rfl)
    · exact abortHandler_keeps _ _ _ _ (by rfl)
  · split <;> exact .refl u

theorem fieldAbort_keeps (s : State) (hF : F.holds abortFields [0x1001, 0x1101, 0x5300] = true) :
    Keeps F s (fieldAbort s) := by
  refine .mono hF ?_
  unfold fieldAbort
  exact .trans (.set [.req] rfl (by rfl)) ((abortAny_keeps _ _ _ (by rfl)).trans (.set [.req] rfl (by rfl)))

end Sys2Proof.Machine
end

section
/-! SUPPORT. The field bank (R592-R606): what settling its lines does, and the footprints of its operations. -/

namespace Sys2Proof.Machine

variable {F : Foot}

/-! Settling (R599, R600, R603, R604, R606). -/

/-- Line `n` after an output's driver has followed its command, from line state `x`. -/
def State.settled (s : State) (n : Nat) (x : FieldLine) : FieldLine :=
  if s.lineMode n ≠ 2 ∨ x.hold.isSome = true then x
  else if s.vfieldOk = false then { x with st := 5 }
  else if s.bankDriven = false then x
  else
    let command := s.commanded n
    let on := command && x.latched.isNone
    let st := if on then 6 else 5
    let retry := x.latched.map fun t => if command then t else minRat [t, s.up]
    if x.st = st ∧ x.latched = retry then x
    else { x with st := st, latched := retry, onAt := if on then some s.up else x.onAt }

theorem settleLine_fline (s : State) (n k : Nat) :
    (settleLine s n).fline k = if k = n then s.settled n (s.fline n) else s.fline k := by
  by_cases hk : k = n
  · subst hk
    rw [if_pos rfl]
    unfold settleLine State.settled
    dsimp only
    have hoff : (if (s.fline k).st = 5 then s.fline k else { s.fline k with st := 5 }) = { s.fline k with st := 5 } := by
      split
      next h => rw [← h]
      next => rfl
    simp only [apply_ite (fun t : State => t.fline k), State.setFline_fline, if_true, hoff]
  · rw [if_neg hk]
    unfold settleLine
    dsimp only
    repeat' split
    all_goals simp [hk]

/-- Settling a line changes the lines alone, and nothing by which another is settled. -/
theorem settleLine_eq (s : State) (n : Nat) :
    ∃ l, settleLine s n = { s with fieldBank := { s.fieldBank with lines := l } } := by
  unfold settleLine
  dsimp only
  repeat' split
  all_goals exact ⟨_, rfl⟩

theorem settled_lines (s : State) (l : SMap FieldLine) (n : Nat) (x : FieldLine) :
    { s with fieldBank := { s.fieldBank with lines := l } }.settled n x = s.settled n x := rfl

theorem settleAll_eq (s : State) (k : Nat) :
    ∃ l, (List.range k).foldl settleLine s = { s with fieldBank := { s.fieldBank with lines := l } } := by
  induction k with
  | zero => exact ⟨s.fieldBank.lines, rfl⟩
  | succ k ih =>
    obtain ⟨l, hl⟩ := ih
    rw [List.range_succ, List.foldl_append, hl]
    obtain ⟨l', hl'⟩ := settleLine_eq { s with fieldBank := { s.fieldBank with lines := l } } k
    exact ⟨l', hl'⟩

theorem settleAll_fline (s : State) (k n : Nat) :
    ((List.range k).foldl settleLine s).fline n = if n < k then s.settled n (s.fline n) else s.fline n := by
  induction k with
  | zero => rfl
  | succ k ih =>
    obtain ⟨l, hl⟩ := settleAll_eq s k
    rw [List.range_succ, List.foldl_append]
    show (settleLine _ k).fline n = _
    rw [settleLine_fline]
    by_cases hn : n = k
    · subst hn
      rw [if_pos rfl, ih, if_neg (Nat.lt_irrefl n), if_pos (Nat.lt_succ_self n), hl, settled_lines]
    · rw [if_neg hn, ih]
      by_cases hk : n < k
      · rw [if_pos hk, if_pos (Nat.lt_succ_of_lt hk)]
      · rw [if_neg hk, if_neg (by omega)]

theorem settleSource_keeps (n : Nat) (b : Bool) (s : State) (hF : F.holds [.faults] = true) :
    Keeps F s (settleSource n b s) := by
  unfold settleSource
  exact .ite (.refl s) (clearActive_keeps s n hF)

theorem settleBank_keeps (s : State) (hF : F.holds [.faults] = true) : Keeps F s (settleBank s) :=
  (settleSource_keeps _ _ _ hF).trans <| (settleSource_keeps _ _ _ hF).trans <| (settleSource_keeps _ _ _ hF).trans
    (settleSource_keeps _ _ _ hF)

theorem settleBank_fieldBank (s : State) : (settleBank s).fieldBank = s.fieldBank :=
  (settleBank_keeps (F := ⟨[.faults], [], false⟩) s (by rfl)).fields .fieldBank (by decide)

theorem settleLines_fline (s : State) (n : Nat) :
    (settleLines s).fline n = if n < 32 then s.settled n (s.fline n) else s.fline n := by
  rw [← settleAll_fline s 32 n]
  unfold settleLines State.fline
  rw [settleBank_fieldBank]

theorem settled_of_input {s : State} {n : Nat} (h : s.lineMode n ≠ 2) (x : FieldLine) : s.settled n x = x := if_pos (.inl h)

theorem settled_of_held (s : State) (n : Nat) {x : FieldLine} (h : x.hold.isSome = true) : s.settled n x = x := if_pos (.inr h)

/-- The driver's state, its latch and its last change to on are all that settling sets. -/
theorem settled_eq (s : State) (n : Nat) (x : FieldLine) :
    ∃ st latched onAt, s.settled n x = { x with st := st, latched := latched, onAt := onAt } := by
  unfold State.settled
  dsimp only
  repeat' split
  all_goals exact ⟨_, _, _, rfl⟩

theorem setFline_keeps (s : State) (n : Nat) (x : FieldLine) (hF : F.holds [.fieldBank] = true) :
    Keeps F s (s.setFline n x) := .set [.fieldBank] rfl hF

theorem settleLine_keeps (s : State) (n : Nat) (hF : F.holds [.fieldBank] = true) : Keeps F s (settleLine s n) := by
  obtain ⟨l, hl⟩ := settleLine_eq s n
  exact hl ▸ .set [.fieldBank] rfl hF

theorem settleLines_keeps (s : State) (hF : F.holds [.fieldBank, .faults] = true) : Keeps F s (settleLines s) := by
  refine .mono hF ?_
  exact (Keeps.foldl (fun u n => settleLine_keeps u n (by rfl)) _ _).trans (settleBank_keeps _ (by rfl))

theorem fline_congr {s t : State} (h : t.fieldBank = s.fieldBank) (n : Nat) : t.fline n = s.fline n := by
  unfold State.fline
  rw [h]

theorem lineMode_congr {s t : State} {n : Nat} (h : t.elem 0xC000 n = s.elem 0xC000 n) : t.lineMode n = s.lineMode n :=
  congrArg (bits · 31 30) h

theorem onLine_next {c : Instr} {s t : State} {n : Nat} {f : State → State} (h : exec c s = onLine n s f) (ht : exec c s = .next t) :
    n < 32 ∧ t = { (if s.running = true then settleLines (f s.fresh) else s.fresh) with pending := s.pending } := by
  by_cases hn : n < 32
  · exact ⟨hn, act_next (h.trans (if_pos hn)) ht⟩
  · cases (h.trans (if_neg hn)).symm.trans ht

end Sys2Proof.Machine
end

section
/-! PROOFS. A write to 0xC000 applies at once; a change of MODE holds the line (R594). -/

namespace Sys2Proof.Machine

theorem held_notSensed {s : State} {n : Nat} (h : (s.fline n).hold.isSome = true) : s.sensed n = false := by
  simp [State.sensed, Option.isNone_eq_false_iff.2 h]

theorem held_notLive {s : State} {n : Nat} (h : (s.fline n).hold.isSome = true) : s.outputLive n = false := by
  simp [State.outputLive, Option.isNone_eq_false_iff.2 h]

theorem settleLines_fline_held {s : State} {n : Nat} (h : (s.fline n).hold.isSome = true) : (settleLines s).fline n = s.fline n := by
  rw [settleLines_fline, settled_of_held _ _ h, ite_self]

theorem settleLines_fline_input {s : State} {n : Nat} (h : s.lineMode n ≠ 2) : (settleLines s).fline n = s.fline n := by
  rw [settleLines_fline, settled_of_input h, ite_self]

theorem holdEnd_keeps {F : Foot} (s : State) (n : Nat) (hF : F.holds [.fieldBank] = true) : Keeps F s (holdEnd s n) := by
  unfold holdEnd
  dsimp only
  split
  · exact .ite (setFline_keeps _ _ _ hF) (.refl s)
  · exact .refl s

theorem holdEnd_fline_due {s : State} {n : Nat} {a : Rat} (hold : (s.fline n).hold = some a) (hdue : a ≤ s.up) :
    (holdEnd s n).fline n = { s.fline n with hold := none, st := 0 } := by
  unfold holdEnd
  simp [hold, hdue]

theorem holdEnd_early {s : State} {n : Nat} {a : Rat} (hold : (s.fline n).hold = some a) (hearly : s.up < a) : holdEnd s n = s := by
  unfold holdEnd
  simp [hold, not_le.2 hearly]

/-- What the commit of a line's configuration does (R594). -/
theorem lineHandler_commit {s u : State} {n : Nat} {b : List Byte} {v : Word} (hv : ofBytes b = v) (hn : n < 32) :
    ((lineHandler s n b).commit u).elem 0xC000 n = v ∧
    Keeps ⟨[.dict, .fieldBank, .faults], [0xC000], false⟩ u ((lineHandler s n b).commit u) ∧
    (bits v 31 30 ≠ u.lineMode n → ((lineHandler s n b).commit u).fline n =
      { value := (u.fline n).value, hold := some (u.up + 1000000) }) ∧
    (bits v 31 30 = u.lineMode n → ((lineHandler s n b).commit u).fline n = { u.fline n with runSt := 0, runLen := 0 }) := by
  subst hv
  have hput : Keeps ⟨[.dict, .fieldBank, .faults], [0xC000], false⟩ u (u.put 0xC000 n (ofBytes b)) := put_keeps _ _ (by omega) (by rfl)
  by_cases hmoved : bits (ofBytes b) 31 30 = u.lineMode n
  · have hcommit : (lineHandler s n b).commit u = (u.put 0xC000 n (ofBytes b)).setFline n { u.fline n with runSt := 0, runLen := 0 } :=
      if_neg (by simpa using hmoved)
    rw [hcommit]
    exact ⟨(State.put_elem ..).trans (if_pos rfl), hput.trans (setFline_keeps _ _ _ (by rfl)), fun h => absurd hmoved h,
      fun _ => (State.setFline_fline ..).trans (if_pos rfl)⟩
  · have hcommit : (lineHandler s n b).commit u = settleBank ((u.put 0xC000 n (ofBytes b)).setFline n
        { value := (u.fline n).value, hold := some (u.up + 1000000) }) := if_pos (by simpa using hmoved)
    have hbank : Keeps ⟨[.faults], [], false⟩ _ ((lineHandler s n b).commit u) := hcommit ▸ settleBank_keeps _ (by rfl)
    refine ⟨(elem_of_dict (hbank.same .dict (by rfl)) _ _).trans ((State.put_elem ..).trans (if_pos rfl)),
      hcommit ▸ hput.trans ((setFline_keeps _ _ _ (by rfl)).trans (settleBank_keeps _ (by rfl))), fun _ => ?_, fun h => absurd h hmoved⟩
    exact (fline_congr (hbank.same .fieldBank (by rfl)) n).trans <| (State.setFline_fline ..).trans (if_pos rfl)

/-- An accepted write to 0xC000 (R594). -/
theorem fieldLineConfigWrite_does {s : State} {rq : Rq} {n : Nat} {v : Word} (hfits : rq.fits v = true)
    (ha : isAccepted s.fresh rq opWrite 0xC000 n (valueBytes rq v) (lineHandler s.fresh n (valueBytes rq v))) :
    does (.fieldLineConfigWrite rq n v) s fun t => t.elem 0xC000 n = v ∧ t.moves = s.moves ∧
      (bits v 31 30 ≠ s.lineMode n → t.fline n = { value := (s.fline n).value, hold := some (s.up + 1000000) }) ∧
      (bits v 31 30 = s.lineMode n → t.fline n = { s.fline n with runSt := 0, runLen := 0 }) := by
  have hn : n < 32 := sub_of_isAccepted ha 32 (by decide)
  obtain ⟨u, before, after⟩ := request_accepts ha
  obtain ⟨helem, hcommit, hmoved, hstays⟩ := lineHandler_commit (s := s.fresh) (u := u) (valueBytes_value hfits) hn
  have hmode : u.lineMode n = s.lineMode n := lineMode_congr (before.elem (by rfl) (by omega))
  have hup : u.up = s.up := congrArg₂ (· - ·) (before.same .now (by rfl)) (before.same .stepped (by rfl))
  have hline : u.fline n = s.fline n := fline_congr (before.same .fieldBank (by rfl)) n
  rw [hmode, hup, hline] at hmoved
  rw [hmode, hline] at hstays
  refine act_does (f := fun u => request u rq opWrite 0xC000 n (valueBytes rq v) (lineHandler u n (valueBytes rq v))) rfl ⟨?_, ?_, ?_, ?_⟩
  · exact (after.elem (by rfl) (by omega)).trans helem
  · exact (after.same .moves (by rfl)).trans ((hcommit.same .moves (by rfl)).trans (before.same .moves (by rfl)))
  · exact fun h => (fline_congr (after.same .fieldBank (by rfl)) n).trans (hmoved h)
  · exact fun h => (fline_congr (after.same .fieldBank (by rfl)) n).trans (hstays h)

/-- Settles O44: a held line is neither sensed nor driven, and settling leaves it as it is. -/
theorem lineModeChanges : Obligations.LineModeChanges := by
  unfold Obligations.LineModeChanges
  refine ⟨fun s rq n v hfits ha => fieldLineConfigWrite_does hfits ha,
    fun s n hheld => ⟨held_notSensed hheld, held_notLive hheld, settleLines_fline_held hheld⟩, ?_, ?_⟩
  · intro s n a hn hr hhold hdue
    have hend := holdEnd_fline_due (s := s.fresh) hhold hdue
    have hkeeps : Keeps ⟨[.fieldBank, .faults], [], false⟩ s.fresh (settleLines (holdEnd s.fresh n)) :=
      (holdEnd_keeps _ _ (by rfl)).trans (settleLines_keeps _ (by rfl))
    refine onLine_does rfl hn hr ⟨?_, hkeeps.same .events (by rfl), holdEnd_fline_due hhold hdue, fun hmode => ?_⟩
    · show ((settleLines (holdEnd s.fresh n)).fline n).hold = none
      rw [settleLines_fline, if_pos hn, hend]
      obtain ⟨st, latched, onAt, he⟩ := settled_eq (holdEnd s.fresh n) n { s.fline n with hold := none, st := 0 }
      exact congrArg FieldLine.hold he
    · refine (settleLines_fline_input ?_).trans hend
      have hkeep : Keeps ⟨[.fieldBank], [], false⟩ s.fresh (holdEnd s.fresh n) := holdEnd_keeps _ _ (by rfl)
      exact fun h => hmode ((lineMode_congr (hkeep.elem (by rfl) (by omega))).symm.trans h)
  · intro s n a hn hr hhold hearly
    refine onLine_does rfl hn hr ?_
    show (settleLines (holdEnd s.fresh n)).fline n = s.fline n
    rw [holdEnd_early (s := s.fresh) hhold hearly]
    exact settleLines_fline_held (s := s.fresh) (Option.isSome_iff_exists.2 ⟨a, hhold⟩)

end Sys2Proof.Machine
end

section
/-! SUPPORT. What the field bank's operations do to a line, to the supply and to a field port (R592-R603). -/

namespace Sys2Proof.Machine

variable {F : Foot}

theorem settled_value (s : State) (n : Nat) (x : FieldLine) : (s.settled n x).value = x.value := by
  obtain ⟨_, _, _, h⟩ := settled_eq s n x
  rw [h]

theorem settled_contention (s : State) (n : Nat) (x : FieldLine) : (s.settled n x).contention = x.contention := by
  obtain ⟨_, _, _, h⟩ := settled_eq s n x
  rw [h]

theorem settled_openLoad (s : State) (n : Nat) (x : FieldLine) : (s.settled n x).openLoad = x.openLoad := by
  obtain ⟨_, _, _, h⟩ := settled_eq s n x
  rw [h]

/-- A line latched off stays off, and latched (R600). -/
theorem settled_latched {s : State} {n : Nat} {x : FieldLine} (hlatched : x.latched.isSome = true) (hst : x.st = 5) :
    (s.settled n x).latched.isSome = true ∧ (s.settled n x).st = 5 := by
  obtain ⟨a, ha⟩ := Option.isSome_iff_exists.1 hlatched
  have hoff : (s.commanded n && x.latched.isNone) = false := by simp [ha]
  have hretry : (x.latched.map fun t => if s.commanded n = true then t else minRat [t, s.up]).isSome = true := by simp [ha]
  unfold State.settled
  simp only [hoff, Bool.false_eq_true, if_false]
  generalize (x.latched.map fun t => if s.commanded n = true then t else minRat [t, s.up]) = retry at hretry ⊢
  split
  · exact ⟨hlatched, hst⟩
  · split
    · exact ⟨hlatched, rfl⟩
    · split
      · exact ⟨hlatched, hst⟩
      · split
        · exact ⟨hlatched, hst⟩
        · exact ⟨hretry, rfl⟩

/-- A live output that is commanded on drives, unless it is latched off (R599, R600). -/
theorem settled_commanded {s : State} {n : Nat} {x : FieldLine} (hmode : s.lineMode n = 2) (hhold : x.hold = none)
    (hfield : s.vfieldOk = true) (hbank : s.bankDriven = true) (hon : s.commanded n = true) :
    (s.settled n x).latched = x.latched ∧ (s.settled n x).st = if x.latched.isSome = true then 5 else 6 := by
  unfold State.settled
  rw [if_neg (by simp [hmode, hhold]), if_neg (by simp [hfield]), if_neg (by simp [hbank])]
  dsimp only
  have hretry : (x.latched.map fun t => if s.commanded n = true then t else minRat [t, s.up]) = x.latched := by
    simp [hon]
  have hst : (if (s.commanded n && x.latched.isNone) = true then 6 else 5) = if x.latched.isSome = true then 5 else 6 := by
    cases x.latched <;> simp [hon]
  rw [hretry, hst]
  generalize (if x.latched.isSome = true then 5 else 6) = st
  split
  next h => exact ⟨rfl, h.1⟩
  next => exact ⟨rfl, rfl⟩

theorem outputLive_iff {s : State} {n : Nat} :
    s.outputLive n = true ↔ s.lineMode n = 2 ∧ (s.fline n).hold = none ∧ s.bankDriven = true ∧ s.vfieldOk = true := by
  simp [State.outputLive, and_assoc]

theorem lineMode_of_sensed {s : State} {n : Nat} (h : s.sensed n = true) : s.lineMode n ≠ 2 := by
  have hmode : s.lineMode n = 1 := by
    simp only [State.sensed, Bool.and_eq_true, beq_iff_eq] at h
    exact h.1.1.1.1
  omega

theorem heldFor_some {s : State} {a d : Rat} (h : a + d ≤ s.up) : s.heldFor (some a) d = true := decide_eq_true h

/-- The supply is measured, its state and the ports' lines are set, outside settling. -/
theorem settleLines_fieldBank (s : State) : ∃ l, (settleLines s).fieldBank = { s.fieldBank with lines := l } := by
  obtain ⟨l, hl⟩ := settleAll_eq s 32
  exact ⟨l, (settleBank_fieldBank _).trans (congrArg State.fieldBank hl)⟩

/-! Footprints. -/

theorem measureLine_keeps (s : State) (n o : Nat) (hF : F.holds [.fieldBank] = true) : Keeps F s (measureLine s n o) := by
  unfold measureLine
  exact .ite (setFline_keeps _ _ _ hF) (.refl s)

theorem readback_keeps (s : State) (n v : Nat) (hF : F.holds [.fieldBank] = true) : Keeps F s (readback s n v) := by
  unfold readback
  exact .ite (.ite (setFline_keeps _ _ _ hF) (setFline_keeps _ _ _ hF)) (.refl s)

theorem alsoContends_keeps (a : Rat) (n : Nat) (s : State) (m : Nat) (hF : F.holds [.fieldBank] = true) :
    Keeps F s (alsoContends a n s m) := by
  unfold alsoContends
  dsimp only
  split
  · exact .ite (setFline_keeps _ _ _ hF) (.refl s)
  · exact .refl s

theorem retryLine_keeps (s : State) (n : Nat) (b : Bool) (hF : F.holds [.fieldBank] = true) :
    Keeps F s (retryLine s n b) := by
  unfold retryLine
  dsimp only
  split
  · exact .ite (setFline_keeps _ _ _ hF) (.refl s)
  · exact .refl s

theorem contentionEnds_keeps (s : State) (n : Nat) (hF : F.holds [.fieldBank] = true) : Keeps F s (contentionEnds s n) := by
  unfold contentionEnds
  exact .ite (setFline_keeps _ _ _ hF) (.refl s)

theorem openLoadEnds_keeps (s : State) (n : Nat) (hF : F.holds [.fieldBank] = true) : Keeps F s (openLoadEnds s n) := by
  unfold openLoadEnds
  exact .ite (setFline_keeps _ _ _ hF) (.refl s)

theorem forgetInputs_keeps (s : State) (hF : F.holds [.fieldBank] = true) : Keeps F s (forgetInputs s) :=
  .foldl (fun u n => .ite (setFline_keeps u n _ hF) (.refl u)) _ s

theorem setFieldPort_keeps (s : State) (p : Nat) (x : PortLine) (hF : F.holds [.fieldBank] = true) :
    Keeps F s (s.setFieldPort p x) := .set [.fieldBank] rfl hF

theorem settleFieldPorts_keeps (s : State) (hF : F.holds [.faults] = true) : Keeps F s (settleFieldPorts s) :=
  settleSource_keeps _ _ _ hF

/-- The fields that a fault of the field bank touches. -/
abbrev fieldFaultFields : List Field := [.fieldBank, .dict, .log, .faults, .pair, .emitted]

theorem contends_faults (s : State) (n : Nat) (hF : F.holds fieldFaultFields = true) : Faults F s (contends s n) := by
  refine .mono hF ?_
  unfold contends
  dsimp only
  split
  · refine .ite ?_ (.refl s)
    exact ((setFline_keeps _ _ _ (by rfl)).faults.trans (declareFault_faults _ _ _ _ _ _ (by rfl))).trans
      (.foldl (fun u m => (alsoContends_keeps _ _ u m (by rfl)).faults) _ _)
  · exact .refl s

theorem overcurrent_faults (s : State) {n : Nat} (hn : n < 32) (hF : F.holds fieldFaultFields [0xC300] = true) :
    Faults F s (overcurrent s n) := by
  refine .mono hF ?_
  unfold overcurrent
  refine .ite ?_ (.refl s)
  exact ((setFline_keeps _ _ _ (by rfl)).trans (count_keeps _ (by omega) (by rfl))).faults.trans (declareFault_faults _ _ _ _ _ _ (by rfl))

theorem openLoads_faults (s : State) (n : Nat) (hF : F.holds fieldFaultFields = true) : Faults F s (openLoads s n) := by
  refine .mono hF ?_
  unfold openLoads
  exact .ite ((setFline_keeps _ _ _ (by rfl)).faults.trans (declareFault_faults _ _ _ _ _ _ (by rfl))) (.refl s)

theorem judgeVfield_faults (s : State) (v : Int) (hF : F.holds fieldFaultFields = true) : Faults F s (judgeVfield s v) := by
  refine .mono hF ?_
  have hset : ∀ x, Keeps (Foot.noMode ⟨fieldFaultFields, [], false⟩) s { s with fieldBank := x } := fun _ => .set [.fieldBank] rfl (by rfl)
  unfold judgeVfield
  refine .ite (hset _).faults (.ite ((hset _).trans (clearActive_keeps _ _ (by rfl))).faults ?_)
  exact ((hset _).faults.trans (declareFault_faults _ _ _ _ _ _ (by rfl))).trans (forgetInputs_keeps _ (by rfl)).faults

theorem judgeAmplitude_faults (s : State) (p mv : Nat) (hF : F.holds fieldFaultFields = true) :
    Faults F s (judgeAmplitude s p mv) := by
  refine .mono hF ?_
  have hset : ∀ x, Keeps (Foot.noMode ⟨fieldFaultFields, [], false⟩) s (s.setFieldPort p x) := fun _ => setFieldPort_keeps _ _ _ (by rfl)
  unfold judgeAmplitude
  refine .ite (.refl s) (.ite ((hset _).faults.trans (declareFault_faults _ _ _ _ _ _ (by rfl))) ?_)
  exact ((hset _).trans (settleFieldPorts_keeps _ (by rfl))).faults

theorem portStuck_faults (s : State) (p : Nat) (hF : F.holds fieldFaultFields = true) : Faults F s (portStuck s p) := by
  refine .mono hF ?_
  unfold portStuck
  exact .ite (.refl s) ((setFieldPort_keeps _ _ _ (by rfl)).faults.trans (declareFault_faults _ _ _ _ _ _ (by rfl)))

/-- The fields that the action of an accepted input touches. -/
abbrev acceptFields : List Field :=
  [.events, .order, .banks, .lastRefusal, .tether, .dict, .req, .log, .faults, .pair, .emitted]

/-- The elements that the action of an accepted input touches. -/
abbrev acceptElems : List Nat := [0x1001, 0x1101, 0x2200, 0x5300]

/-- The line in its new state, counted. -/
def acceptedLine (s : State) (n st : Nat) : State := (s.setFline n { s.fline n with st := st }).count 0xC300 n

theorem acceptLine_faults (s : State) (n st : Nat) : Faults ⟨acceptFields, acceptElems, false⟩ (acceptedLine s n st) (acceptLine s n st) := by
  have hwired : Faults ⟨acceptFields, acceptElems, false⟩ (acceptedLine s n st)
      (settleBank (if st = 1 ∨ st = 4 then declareFault (acceptedLine s n st) 0x144 n true else acceptedLine s n st)) :=
    (Faults.ite (declareFault_faults _ _ _ _ _ _ (by rfl)) (.refl _)).trans (settleBank_keeps _ (by rfl)).faults
  have hfire : ∀ k, Faults ⟨acceptFields, acceptElems, false⟩ (acceptedLine s n st) (fireFromField
      (settleBank (if st = 1 ∨ st = 4 then declareFault (acceptedLine s n st) 0x144 n true else acceptedLine s n st)) k) :=
    fun _ => hwired.trans (fireFromField_faults _ _ (by rfl))
  unfold acceptLine
  exact .ite hwired (.ite (.ite (hfire _) (.ite (hwired.trans (fieldAbort_keeps _ (by rfl)).faults) hwired)) (.ite (hfire _) hwired))

end Sys2Proof.Machine
end

section
/-! PROOFS. The field bank's inputs, outputs and supply (R592-R603). -/

namespace Sys2Proof.Machine

theorem measureLine_fline {s : State} {n ohms : Nat} (hs : s.sensed n = true) :
    (settleLines (measureLine s n ohms)).fline n = { s.fline n with
      value := min 0xFFFF (ohms / 10), runSt := loopState (s.elem 0xC000 n) ohms
      runLen := if (s.fline n).runSt = loopState (s.elem 0xC000 n) ohms ∧ 0 < (s.fline n).runLen then (s.fline n).runLen + 1
        else 1 } := by
  have hmeasured : measureLine s n ohms = s.setFline n { s.fline n with
      value := min 0xFFFF (ohms / 10), runSt := loopState (s.elem 0xC000 n) ohms
      runLen := if (s.fline n).runSt = loopState (s.elem 0xC000 n) ohms ∧ 0 < (s.fline n).runLen then (s.fline n).runLen + 1
        else 1 } := if_pos hs
  have hmode : (measureLine s n ohms).lineMode n ≠ 2 := by
    rw [hmeasured]
    exact (lineMode_of_sensed hs : s.lineMode n ≠ 2)
  rw [settleLines_fline_input hmode, hmeasured, State.setFline_fline, if_pos rfl]

/-- An accepted state is counted, and stays through the line's action (R596). -/
theorem acceptRun_accepts {s : State} {n : Nat} (hn : n < 32) (hs : s.sensed n = true) (hmirror : s.mirrored = false)
    (hrun : (s.fline n).runSt ≠ (s.fline n).st) (hlen : 4 * s.field 0xC000 n 27 22 + 1 ≤ (s.fline n).runLen) :
    ((settleLines (acceptRun s n)).fline n).st = (s.fline n).runSt ∧
      (settleLines (acceptRun s n)).elem 0xC300 n = wrapAdd 32 (s.elem 0xC300 n) 1 := by
  have haccept : acceptRun s n = mirror (acceptLine s n (s.fline n).runSt) 7 n (s.fline n).runSt := if_pos ⟨hs, hmirror, hrun, hlen⟩
  have hafter : Keeps (Foot.orFaulted ⟨acceptFields, acceptElems, false⟩) (acceptedLine s n (s.fline n).runSt) (acceptRun s n) := by
    rw [haccept]
    exact (acceptLine_faults s n _).orFaulted.trans (mirror_keeps _ _ _ _ (by rfl))
  have hcounted : Keeps ⟨[.fieldBank, .dict], [0xC300], false⟩ s (acceptedLine s n (s.fline n).runSt) :=
    (setFline_keeps _ _ _ (by rfl)).trans (count_keeps _ (by omega) (by rfl))
  have hmode : (acceptRun s n).lineMode n ≠ 2 := by
    rw [lineMode_congr (hafter.elem (by rfl) (by omega)), lineMode_congr (hcounted.elem (by rfl) (by omega))]
    exact lineMode_of_sensed hs
  have hsettled : Keeps ⟨[.fieldBank, .faults], [], false⟩ (acceptRun s n) (settleLines (acceptRun s n)) := settleLines_keeps _ (by rfl)
  constructor
  · rw [settleLines_fline_input hmode, fline_congr (hafter.same .fieldBank (by rfl))]
    exact congrArg FieldLine.st ((State.setFline_fline ..).trans (if_pos rfl))
  · rw [hsettled.elem (by rfl) (by omega), hafter.elem (by rfl) (by omega)]
    exact (State.put_elem ..).trans (if_pos rfl)

theorem readback_value {s : State} {n volts : Nat} (hmode : s.lineMode n = 2) :
    ((settleLines (readback s n volts)).fline n).value = min 0xFFFF volts := by
  have hread : ((readback s n volts).fline n).value = min 0xFFFF volts := by
    unfold readback
    rw [if_pos hmode]
    dsimp only
    split
    · exact congrArg FieldLine.value ((State.setFline_fline ..).trans (if_pos rfl))
    · exact congrArg FieldLine.value ((State.setFline_fline ..).trans (if_pos rfl))
  rw [settleLines_fline]
  split
  · rw [settled_value, hread]
  · exact hread

/-- Settling changes no count of a source. -/
theorem settleSource_count (n : Nat) (b : Bool) (s : State) (k : Nat) : ((settleSource n b s).source k).count = (s.source k).count := by
  unfold settleSource
  split
  · rfl
  · rw [clearActive_source]
    split
    next h => rw [h]
    next => rfl

theorem settleBank_count (s : State) (k : Nat) : ((settleBank s).source k).count = (s.source k).count := by
  unfold settleBank
  rw [settleSource_count, settleSource_count, settleSource_count, settleSource_count]

theorem settleLines_count (s : State) (k : Nat) : ((settleLines s).source k).count = (s.source k).count := by
  obtain ⟨l, hl⟩ := settleAll_eq s 32
  unfold settleLines
  rw [settleBank_count, hl]
  rfl

theorem declareFault_count (s : State) (n : Nat) (d : Word) (l f : Bool) (p : Nat) :
    ((declareFault s n d l f p).source n).count = satAdd 24 (s.source n).count 1 := (declareFault_declares ..).count

theorem declareFault_fline (s : State) (n : Nat) (d : Word) (l f : Bool) (p k : Nat) :
    (declareFault s n d l f p).fline k = s.fline k := fline_congr (declareFault_fieldBank ..) k

theorem alsoContends_fline (a : Rat) (n : Nat) (s : State) (m : Nat) : (alsoContends a n s m).fline n = s.fline n := by
  unfold alsoContends
  dsimp only
  split
  · split
    next h => exact (State.setFline_fline ..).trans (if_neg (Ne.symm h.1))
    next => rfl
  · rfl

theorem foldl_alsoContends_fline (a : Rat) (n : Nat) (l : List Nat) (s : State) : (l.foldl (alsoContends a n) s).fline n = s.fline n := by
  induction l generalizing s with
  | nil => rfl
  | cons m l ih => exact (ih _).trans (alsoContends_fline a n s m)

/-- A mismatch of 10 ms (R601). -/
theorem contends_declares {s : State} {n : Nat} {a : Rat} (ha : (s.fline n).mismatchAt = some a) (hdue : a + 10000000 ≤ s.up)
    (hc : (s.fline n).contention = false) (hl : (s.fline n).latched = none) :
    ((settleLines (contends s n)).fline n).contention = true ∧
      ((settleLines (contends s n)).source 0x141).count = satAdd 24 (s.source 0x141).count 1 := by
  have hcontends : contends s n = (List.range 32).foldl (alsoContends a n)
      (declareFault (s.setFline n { s.fline n with contention := true }) 0x141 n true) := by
    unfold contends
    simp only [ha]
    exact if_pos ⟨heldFor_some hdue, hc, hl⟩
  have hline : ((contends s n).fline n).contention = true := by
    rw [hcontends, foldl_alsoContends_fline, declareFault_fline, State.setFline_fline, if_pos rfl]
  constructor
  · rw [settleLines_fline]
    split
    · rw [settled_contention, hline]
    · exact hline
  · have hfold : Keeps ⟨[.fieldBank], [], false⟩ (declareFault (s.setFline n { s.fline n with contention := true }) 0x141 n true)
        (contends s n) := hcontends ▸ .foldl (fun u m => alsoContends_keeps _ _ u m (by rfl)) _ _
    have hsource : (contends s n).source 0x141 =
        (declareFault (s.setFline n { s.fline n with contention := true }) 0x141 n true).source 0x141 :=
      congrArg (fun f : FaultSt => mapGet srcD f.src 0x141) (hfold.same .faults (by rfl))
    rw [settleLines_count, hsource, declareFault_count]
    rfl

theorem contentionEnds_clears {s : State} {n : Nat} {a : Rat} (ha : (s.fline n).matchAt = some a) (hdue : a + 10000000 ≤ s.up)
    (hl : (s.fline n).latched = none) : ((settleLines (contentionEnds s n)).fline n).contention = false := by
  have hends : contentionEnds s n = s.setFline n { s.fline n with contention := false } :=
    if_pos ⟨ha ▸ heldFor_some hdue, hl⟩
  have hline : ((contentionEnds s n).fline n).contention = false := by rw [hends, State.setFline_fline, if_pos rfl]
  rw [settleLines_fline]
  split
  · rw [settled_contention, hline]
  · exact hline

/-- An output at its current limit is latched off (R600). -/
theorem overcurrent_latches {s : State} {n : Nat} (hn : n < 32) (hlive : s.outputLive n = true) (hst : (s.fline n).st = 6)
    (hl : (s.fline n).latched = none) :
    ((settleLines (overcurrent s n)).fline n).latched.isSome = true ∧ ((settleLines (overcurrent s n)).fline n).st = 5 ∧
      (settleLines (overcurrent s n)).elem 0xC300 n = wrapAdd 32 (s.elem 0xC300 n) 1 ∧
      ((settleLines (overcurrent s n)).source 0x140).count = satAdd 24 (s.source 0x140).count 1 := by
  let latched : State := s.setFline n
    { s.fline n with latched := some (s.up + 100000000), st := 5, mismatchAt := none, matchAt := none }
  have hlatches : overcurrent s n = declareFault (latched.count 0xC300 n) 0x140 n true := if_pos ⟨hlive, hst, hl⟩
  have hline : (overcurrent s n).fline n =
      { s.fline n with latched := some (s.up + 100000000), st := 5, mismatchAt := none, matchAt := none } := by
    rw [hlatches, declareFault_fline]
    exact (State.setFline_fline ..).trans (if_pos rfl)
  have hoff := settled_latched (s := overcurrent s n) (n := n) (x := (overcurrent s n).fline n) (by rw [hline]; rfl) (by rw [hline])
  have hsettled : Keeps ⟨[.fieldBank, .faults], [], false⟩ (overcurrent s n) (settleLines (overcurrent s n)) := settleLines_keeps _ (by rfl)
  refine ⟨?_, ?_, ?_, ?_⟩
  · rw [settleLines_fline, if_pos hn]
    exact hoff.1
  · rw [settleLines_fline, if_pos hn]
    exact hoff.2
  · rw [hsettled.elem (by rfl) (by omega), hlatches, (declareFault_reports ..).elem (by decide) (by omega)]
    exact (State.put_elem ..).trans (if_pos rfl)
  · rw [settleLines_count, hlatches, declareFault_count]
    rfl

/-- A retry: the current at its limit keeps the latch, else the line drives again (R600). -/
theorem retryLine_retries {s : State} {n : Nat} {a : Rat} {atLimit : Bool} (hn : n < 32) (hlive : s.outputLive n = true)
    (hon : s.commanded n = true) (ha : (s.fline n).latched = some a) (hdue : a ≤ s.up) :
    ((settleLines (retryLine s n atLimit)).fline n).latched = (if atLimit then some (s.up + 100000000) else none) ∧
      ((settleLines (retryLine s n atLimit)).fline n).st = if atLimit then 5 else 6 := by
  have hretry : retryLine s n atLimit =
      s.setFline n { s.fline n with latched := if atLimit then some (s.up + 100000000) else none } := by
    unfold retryLine
    simp only [ha]
    exact if_pos ⟨hlive, hon, hdue⟩
  obtain ⟨hmode, hhold, hbank, hfield⟩ := outputLive_iff.1 hlive
  have hline : (retryLine s n atLimit).fline n =
      { s.fline n with latched := if atLimit then some (s.up + 100000000) else none } := by
    rw [hretry, State.setFline_fline, if_pos rfl]
  obtain ⟨hlatched, hst⟩ := settled_commanded (s := retryLine s n atLimit) (n := n) (x := (retryLine s n atLimit).fline n)
    (by rw [hretry]; exact hmode) (by rw [hline]; exact hhold) (by rw [hretry]; exact hfield) (by rw [hretry]; exact hbank)
    (by rw [hretry]; exact hon)
  rw [settleLines_fline, if_pos hn, hlatched, hst, hline]
  cases atLimit <;> exact ⟨rfl, rfl⟩

theorem openLoads_declares {s : State} {n : Nat} {a : Rat} (ha : (s.fline n).openAt = some a) (hdue : a + 100000000 ≤ s.up)
    (ho : (s.fline n).openLoad = false) :
    ((settleLines (openLoads s n)).fline n).openLoad = true ∧
      ((settleLines (openLoads s n)).source 0x142).count = satAdd 24 (s.source 0x142).count 1 := by
  have hopen : openLoads s n = declareFault (s.setFline n { s.fline n with openLoad := true }) 0x142 n true :=
    if_pos ⟨ha ▸ heldFor_some hdue, ho⟩
  have hline : ((openLoads s n).fline n).openLoad = true := by
    rw [hopen, declareFault_fline, State.setFline_fline, if_pos rfl]
  constructor
  · rw [settleLines_fline]
    split
    · rw [settled_openLoad, hline]
    · exact hline
  · rw [settleLines_count, hopen, declareFault_count]
    rfl

theorem openLoadEnds_clears {s : State} {n : Nat} {a : Rat} (ha : (s.fline n).loadAt = some a) (hdue : a + 100000000 ≤ s.up) :
    ((settleLines (openLoadEnds s n)).fline n).openLoad = false := by
  have hends : openLoadEnds s n = s.setFline n { s.fline n with openLoad := false } := if_pos (ha ▸ heldFor_some hdue)
  have hline : ((openLoadEnds s n).fline n).openLoad = false := by rw [hends, State.setFline_fline, if_pos rfl]
  rw [settleLines_fline]
  split
  · rw [settled_openLoad, hline]
  · exact hline

/-! The supply and the field ports (R592, R603). -/

/-- The supply in range (R603). -/
theorem judgeVfield_normal {s : State} {v : Int} (hv : 110 ≤ v) :
    (judgeVfield s v).fieldBank.vfState = 1 ∧ (judgeVfield s v).fieldBank.volts = v := by
  unfold judgeVfield
  extract_lets bank low rev read st changed
  have hst : st = 1 := if_pos hv
  split
  next h => exact ⟨h.symm.trans hst, rfl⟩
  next => exact ⟨hst, rfl⟩

/-- An input line forgets its state and its run. -/
def forgetLine (s : State) (n : Nat) : State :=
  if s.lineMode n = 1 then s.setFline n { s.fline n with st := 0, runSt := 0, runLen := 0 } else s

theorem forgetLines_fline (s : State) {n : Nat} (hmode : s.lineMode n = 1) (k : Nat) :
    ((List.range k).foldl forgetLine s).lineMode n = 1 ∧ (n < k → (((List.range k).foldl forgetLine s).fline n).st = 0) := by
  induction k with
  | zero => exact ⟨hmode, fun h => absurd h (Nat.not_lt_zero n)⟩
  | succ k ih =>
    obtain ⟨hk, hst⟩ := ih
    rw [List.range_succ, List.foldl_append]
    simp only [List.foldl_cons, List.foldl_nil]
    unfold forgetLine at hk hst ⊢
    split
    next =>
      refine ⟨hk, fun hlt => ?_⟩
      rw [State.setFline_fline]
      split
      next => rfl
      next hne => exact hst (by omega)
    next hne => exact ⟨hk, fun hlt => hst (Nat.lt_of_le_of_ne (Nat.le_of_lt_succ hlt) fun he => hne (he ▸ hk))⟩

theorem forgetInputs_fline (s : State) {n : Nat} (hn : n < 32) (hmode : s.lineMode n = 1) : ((forgetInputs s).fline n).st = 0 :=
  (forgetLines_fline s hmode 32).2 hn

theorem forgetInputs_vfState (s : State) : (forgetInputs s).fieldBank.vfState = s.fieldBank.vfState :=
  foldl_keeps (fun u : State => u.fieldBank.vfState) (f := forgetLine) (fun u n => by unfold forgetLine; split <;> rfl) _ s

/-- The supply low for 10 ms (R603). -/
theorem judgeVfield_low {s : State} {v : Int} {a : Rat} (hlow : v < 105) (hrev : -10 ≤ v) (ha : s.fieldBank.lowAt = some a)
    (hdue : a + 10000000 ≤ s.up) (hvf : s.fieldBank.vfState = 1) :
    (judgeVfield s v).fieldBank.vfState = 2 ∧ ((judgeVfield s v).source 0x143).count = satAdd 24 (s.source 0x143).count 1 ∧
      ∀ n, n < 32 → s.lineMode n = 1 → (judgeVfield s v).lineMode n = 1 ∧ ((judgeVfield s v).fline n).st = 0 := by
  unfold judgeVfield
  extract_lets bank low rev read st readBank changed
  have hlowAt : low = some a := by simp [low, aboveSince, hlow, bank, ha]
  have hrevAt : rev = none := if_neg (by simpa using hrev)
  have hst : st = 2 := by
    have h110 : ¬ 110 ≤ v := by omega
    have hnorev : read.heldFor rev 10000000 = false := by rw [hrevAt]; rfl
    have hheld : read.heldFor low 10000000 = true := hlowAt ▸ heldFor_some hdue
    simp [st, h110, hnorev, hheld]
  have hne : st ≠ bank.vfState := by rw [hst]; simp [bank, hvf]
  rw [if_neg hne, if_neg (by omega)]
  have hforget : Keeps ⟨[.fieldBank], [], false⟩ (declareFault changed 0x143 0 true) (forgetInputs (declareFault changed 0x143 0 true)) :=
    forgetInputs_keeps _ (by rfl)
  have hmode : ∀ n, n < 32 → s.lineMode n = 1 → (declareFault changed 0x143 0 true).lineMode n = 1 := fun n hn h =>
    (lineMode_congr ((declareFault_reports ..).elem (by decide) (by omega))).trans h
  refine ⟨?_, ?_, fun n hn h => ⟨(lineMode_congr (hforget.elem (by rfl) (by omega))).trans (hmode n hn h), forgetInputs_fline _ hn (hmode n hn h)⟩⟩
  · rw [forgetInputs_vfState, declareFault_fieldBank]
    exact hst
  · have hsource := congrArg (fun f : FaultSt => mapGet srcD f.src 0x143) (hforget.same .faults (by rfl))
    exact (congrArg FaultSrc.count hsource).trans (declareFault_count ..)

theorem settleLines_vfState (s : State) : (settleLines s).fieldBank.vfState = s.fieldBank.vfState ∧
    (settleLines s).fieldBank.volts = s.fieldBank.volts := by
  obtain ⟨l, hl⟩ := settleLines_fieldBank s
  rw [hl]
  exact ⟨rfl, rfl⟩

theorem setFieldPort_fieldPort (s : State) (p : Nat) (x : PortLine) : (s.setFieldPort p x).fieldPort p = x := by
  unfold State.setFieldPort State.fieldPort
  by_cases h : p = 0 <;> simp [h]

theorem fieldPort_congr {s t : State} (h : t.fieldBank = s.fieldBank) (p : Nat) : t.fieldPort p = s.fieldPort p := by
  unfold State.fieldPort
  rw [h]

theorem settleFieldPorts_fieldPort (s : State) (p : Nat) : (settleFieldPorts s).fieldPort p = s.fieldPort p :=
  fieldPort_congr ((settleFieldPorts_keeps (F := ⟨[.faults], [], false⟩) s (by rfl)).same .fieldBank (by rfl)) p

/-- A frame at a good amplitude (R592). -/
theorem judgeAmplitude_good {s : State} {p mv : Nat} (hstuck : (s.fieldPort p).stuck = false) (hlo : 600 ≤ mv)
    (hhi : mv ≤ 1400) :
    ((judgeAmplitude s p mv).fieldPort p).low = 0 ∧ ((judgeAmplitude s p mv).fieldPort p).high = 0 ∧
      ((judgeAmplitude s p mv).fieldPort p).good = (s.fieldPort p).good + 1 ∧
      ((s.fieldPort p).st = 0 → ((judgeAmplitude s p mv).fieldPort p).st = 1) := by
  unfold judgeAmplitude
  extract_lets x low high good st judged
  have hlow : low = 0 := if_neg (by omega)
  have hhigh : high = 0 := if_neg (by omega)
  have hgood : good = x.good + 1 := if_pos ⟨hlo, hhi⟩
  have hset : judged.fieldPort p = { x with st := st, low := low, high := high, good := good } := setFieldPort_fieldPort _ _ _
  rw [if_neg (by simp [x, hstuck]), if_neg (by simp [hlow, hhigh]), settleFieldPorts_fieldPort, hset]
  refine ⟨hlow, hhigh, hgood, fun hst => ?_⟩
  have hst' : x.st = 0 := hst
  simp [st, hlow, hhigh, hst']

/-- The third frame in a row that is too weak (R592). -/
theorem judgeAmplitude_low {s : State} {p mv : Nat} (hstuck : (s.fieldPort p).stuck = false) (hmv : mv < 300)
    (hlow2 : (s.fieldPort p).low = 2) (hst : (s.fieldPort p).st ≠ 3) :
    ((judgeAmplitude s p mv).fieldPort p).st = 3 ∧
      ((judgeAmplitude s p mv).source 0x145).count = satAdd 24 (s.source 0x145).count 1 := by
  unfold judgeAmplitude
  extract_lets x low high good st judged
  have hlow : low = 3 := (if_pos hmv).trans (congrArg (· + 1) hlow2)
  have hset : judged.fieldPort p = { x with st := st, low := low, high := high, good := good } := setFieldPort_fieldPort _ _ _
  rw [if_neg (by simp [x, hstuck]), if_pos (.inl ⟨hlow, hst⟩)]
  refine ⟨?_, declareFault_count ..⟩
  rw [fieldPort_congr (declareFault_fieldBank ..), hset]
  exact if_pos hlow

theorem portStuck_declares {s : State} {p : Nat} (hstuck : (s.fieldPort p).stuck = false) :
    ((portStuck s p).fieldPort p).stuck = true ∧
      ((portStuck s p).source 0x145).count = satAdd 24 (s.source 0x145).count 1 := by
  have hdeclare : portStuck s p = declareFault (s.setFieldPort p { s.fieldPort p with stuck := true, low := 0, high := 0, good := 0 })
      0x145 p true := if_neg (by simp [hstuck])
  rw [hdeclare]
  refine ⟨?_, declareFault_count ..⟩
  rw [fieldPort_congr (declareFault_fieldBank ..), setFieldPort_fieldPort _ _ _]

theorem ruleHandler_keeps (s u : State) {n : Nat} (b : List Byte) (hn : n < 65536) :
    Keeps ⟨[.dict, .recent, .fieldBank, .faults], [0xC100], false⟩ u ((ruleHandler s n b).commit u) := by
  have hcommit : Keeps ⟨[.dict, .recent, .fieldBank, .faults], [0xC100], false⟩ u (u.commit 0xC100 n (ofBytes b)) :=
    commit_keeps _ _ hn (by rfl)
  show Keeps _ u (whenRunning (u.commit 0xC100 n (ofBytes b)) settleLines)
  unfold whenRunning
  exact .ite (hcommit.trans (settleLines_keeps _ (by rfl))) hcommit

/-- An accepted write of a tally rule (R599). -/
theorem tallyRuleWrite_does {s : State} {rq : Rq} {n : Nat} {v : Word} (hfits : rq.fits v = true)
    (ha : isAccepted s.fresh rq opWrite 0xC100 n (valueBytes rq v) (ruleHandler s.fresh n (valueBytes rq v))) :
    does (.tallyRuleWrite rq n v) s fun t => t.elem 0xC100 n = v := by
  have hn : n < 32 := sub_of_isAccepted ha 32 (by decide)
  obtain ⟨u, -, after⟩ := request_accepts ha
  refine act_does (f := fun u => request u rq opWrite 0xC100 n (valueBytes rq v) (ruleHandler u n (valueBytes rq v))) rfl ?_
  refine (after.elem (by rfl) (by omega)).trans ?_
  have hcommit : (u.commit 0xC100 n (ofBytes (valueBytes rq v))).elem 0xC100 n = v :=
    (State.commit_elem ..).trans ((if_pos rfl).trans (valueBytes_value hfits))
  show (whenRunning (u.commit 0xC100 n (ofBytes (valueBytes rq v))) settleLines).elem 0xC100 n = v
  unfold whenRunning
  split
  · exact (elem_of_dict ((settleLines_keeps (F := ⟨[.fieldBank, .faults], [], false⟩) _ (by rfl)).same .dict (by rfl)) _ _).trans hcommit
  · exact hcommit

/-- Settles O43, line by line: what a line's own operation sets stands through settling, but for the driver's state. -/
theorem fieldBankRuns : Obligations.FieldBankRuns := by
  unfold Obligations.FieldBankRuns
  refine ⟨?_, ?_, ?_, ?_, ?_, ?_, ?_, ?_, ?_, ?_, ?_, ?_, ?_, ?_, ?_, ?_⟩
  case refine_1 => exact fun s n ohms hn hr hs => onLine_does rfl hn hr (measureLine_fline (s := s.fresh) hs)
  case refine_2 =>
    exact fun s n hn hr hs hm hrun hlen => onLine_does rfl hn hr (acceptRun_accepts (s := s.fresh) hn hs hm hrun hlen)
  case refine_3 => exact fun s n volts hn hr hmode => onLine_does rfl hn hr (readback_value (s := s.fresh) hmode)
  case refine_4 =>
    exact fun s n a hn hr ha hdue hc hl => onLine_does rfl hn hr (contends_declares (s := s.fresh) ha hdue hc hl)
  case refine_5 => exact fun s n a hn hr ha hdue hl => onLine_does rfl hn hr (contentionEnds_clears (s := s.fresh) ha hdue hl)
  case refine_6 =>
    exact fun s n hn hr hlive hst hl => onLine_does rfl hn hr (overcurrent_latches (s := s.fresh) hn hlive hst hl)
  case refine_7 =>
    exact fun s n a atLimit hn hr hlive hon ha hdue =>
      onLine_does rfl hn hr (retryLine_retries (s := s.fresh) hn hlive hon ha hdue)
  case refine_8 => exact fun s n a hn hr ha hdue ho => onLine_does rfl hn hr (openLoads_declares (s := s.fresh) ha hdue ho)
  case refine_9 => exact fun s n a hn hr ha hdue => onLine_does rfl hn hr (openLoadEnds_clears (s := s.fresh) ha hdue)
  case refine_10 =>
    intro s v hr hv
    obtain ⟨hst, hvolts⟩ := judgeVfield_normal (s := s.fresh) hv
    obtain ⟨hst', hvolts'⟩ := settleLines_vfState (judgeVfield s.fresh v)
    exact actRunning_does (f := fun s => settleLines (judgeVfield s v)) rfl hr ⟨hst'.trans hst, hvolts'.trans hvolts⟩
  case refine_11 =>
    intro s v a hr hlow hrev ha hdue hvf
    obtain ⟨hst, hcount, hinputs⟩ := judgeVfield_low (s := s.fresh) hlow hrev ha hdue hvf
    refine actRunning_does (f := fun s => settleLines (judgeVfield s v)) rfl hr ⟨?_, ?_, fun n hn hmode => ?_⟩
    · exact (settleLines_vfState _).1.trans hst
    · exact (settleLines_count _ _).trans hcount
    · obtain ⟨hinput, hline⟩ := hinputs n hn hmode
      exact (congrArg FieldLine.st (settleLines_fline_input (by omega))).trans hline
  case refine_12 => exact fun s rq n v hfits ha => tallyRuleWrite_does hfits ha
  case refine_13 =>
    exact fun s p mv hp hr hstuck hlo hhi => onUnit_does rfl hp hr (judgeAmplitude_good (s := s.fresh) hstuck hlo hhi)
  case refine_14 =>
    exact fun s p mv hp hr hstuck hmv hlow hst =>
      onUnit_does rfl hp hr (judgeAmplitude_low (s := s.fresh) hstuck hmv hlow hst)
  case refine_15 => exact fun s p hp hr hstuck => onUnit_does rfl hp hr (portStuck_declares (s := s.fresh) hstuck)
  case refine_16 =>
    exact fun s p hp hr => onUnit_does (f := fun s => settleFieldPorts (s.setFieldPort p { s.fieldPort p with stuck := false })) rfl hp hr
      ((settleFieldPorts_fieldPort _ p).trans (setFieldPort_fieldPort _ _ _))

end Sys2Proof.Machine
end

section
/-! PROOFS. What field-bank commands and declarations leave unchanged (R518, R554, R594, R599, R601). -/

namespace Sys2Proof.Machine

/-! Sources cleared (R553, R606). -/

/-- The faults `g` are `f`, but that sources of the field bank may be ACTIVE no more. -/
structure Clears (f g : FaultSt) : Prop where
  faults : g = { f with src := g.src }
  source : ∀ k, mapGet srcD g.src k = mapGet srcD f.src k ∨
    (0x140 ≤ k ∧ k ≤ 0x145 ∧ mapGet srcD g.src k = { mapGet srcD f.src k with active := false })

theorem Clears.refl (f : FaultSt) : Clears f f := ⟨rfl, fun _ => .inl rfl⟩

theorem Clears.trans {f g h : FaultSt} (hfg : Clears f g) (hgh : Clears g h) : Clears f h where
  faults := by rw [hgh.faults, hfg.faults]
  source k := by
    rcases hgh.source k with hh | ⟨hlo, hhi, hh⟩
    · rcases hfg.source k with hg | ⟨hlo, hhi, hg⟩
      · exact .inl (hh.trans hg)
      · exact .inr ⟨hlo, hhi, hh.trans hg⟩
    · refine .inr ⟨hlo, hhi, hh.trans ?_⟩
      rcases hfg.source k with hg | ⟨-, -, hg⟩
      · rw [hg]
      · rw [hg]

theorem settleSource_clears {n : Nat} (b : Bool) (s : State) (hlo : 0x140 ≤ n) (hhi : n ≤ 0x145) :
    Clears s.faults (settleSource n b s).faults := by
  unfold settleSource
  split
  · exact .refl _
  · refine ⟨rfl, fun k => ?_⟩
    show (clearActive s n).source k = s.source k ∨ (0x140 ≤ k ∧ k ≤ 0x145 ∧ (clearActive s n).source k = { s.source k with active := false })
    rw [clearActive_source]
    split
    next h => exact .inr ⟨h ▸ hlo, h ▸ hhi, by rw [h]⟩
    next => exact .inl rfl

theorem settleBank_clears (s : State) : Clears s.faults (settleBank s).faults := by
  unfold settleBank
  refine .trans ?_ (settleSource_clears _ _ (by decide) (by decide))
  refine .trans ?_ (settleSource_clears _ _ (by decide) (by decide))
  exact .trans (settleSource_clears _ _ (by decide) (by decide)) (settleSource_clears _ _ (by decide) (by decide))

theorem settleLines_clears (s : State) : Clears s.faults (settleLines s).faults := by
  obtain ⟨l, hl⟩ := settleAll_eq s 32
  have hfaults : ((List.range 32).foldl settleLine s).faults = s.faults := by rw [hl]
  exact hfaults ▸ settleBank_clears _

/-! A line's own commands. -/

/-- A line's own command touches the field bank, and clears sources. -/
structure LineActs (s t : State) : Prop where
  keeps : Keeps ⟨[.fieldBank, .faults], [], false⟩ s.fresh t
  clears : Clears s.faults t.faults

theorem LineActs.frame {s t : State} (h : LineActs s t) :
    t = { s with fieldBank := t.fieldBank, faults := t.faults, emitted := [] } ∧
      t.faults = { s.faults with src := t.faults.src } ∧
      ∀ k, t.source k = s.source k ∨ (0x140 ≤ k ∧ k ≤ 0x145 ∧ t.source k = { s.source k with active := false }) :=
  ⟨h.keeps.eq_graft, h.clears.faults, h.clears.source⟩

theorem lineActs_fresh (s : State) : LineActs s s.fresh := ⟨.refl _, .refl _⟩

theorem LineActs.of_onLine {c : Instr} {s t : State} {n : Nat} {f : State → State} (h : exec c s = onLine n s f)
    (ht : exec c s = .next t) (hf : Keeps ⟨[.fieldBank], [], false⟩ s.fresh (f s.fresh)) : LineActs s t := by
  obtain ⟨-, rfl⟩ := onLine_next h ht
  split
  · have hkeeps : Keeps ⟨[.fieldBank, .faults], [], false⟩ s.fresh (settleLines (f s.fresh)) :=
      (Keeps.mono (by decide) hf).trans (settleLines_keeps _ (by rfl))
    have hfaults : (f s.fresh).faults = s.faults := hf.same .faults (by rfl)
    exact ⟨hkeeps.queue (f := fun s => settleLines (f s)), hfaults ▸ settleLines_clears _⟩
  · exact lineActs_fresh s

theorem fieldPortStuckClear_lineActs {s t : State} {p : Nat} (ht : exec (.fieldPortStuckClear p) s = .next t) : LineActs s t := by
  obtain ⟨-, rfl⟩ := onUnit_next (f := fun s => settleFieldPorts (s.setFieldPort p { s.fieldPort p with stuck := false })) rfl ht
  split
  · have hkeeps : Keeps ⟨[.fieldBank, .faults], [], false⟩ s.fresh
        (settleFieldPorts (s.fresh.setFieldPort p { s.fresh.fieldPort p with stuck := false })) :=
      (setFieldPort_keeps _ _ _ (by rfl)).trans (settleFieldPorts_keeps _ (by rfl))
    refine ⟨hkeeps.queue (f := fun s => settleFieldPorts (s.setFieldPort p { s.fieldPort p with stuck := false })), ?_⟩
    exact settleSource_clears (n := 0x145) _ (s.fresh.setFieldPort p _) (by decide) (by decide)
  · exact lineActs_fresh s

theorem lineCommand_lineActs {s t : State} {c : Instr} {n x : Nat} {b : Bool}
    (hc : c = .fieldLineHoldEnd n ∨ c = .fieldInputMeasure n x ∨ c = .fieldOutputReadback n x ∨ c = .overcurrentRetry n b ∨
      c = .contentionClear n ∨ c = .openLoadClear n ∨ c = .fieldPortStuckClear n) (ht : exec c s = .next t) : LineActs s t := by
  rcases hc with rfl | rfl | rfl | rfl | rfl | rfl | rfl
  · exact .of_onLine (f := fun s => holdEnd s n) rfl ht (holdEnd_keeps _ _ (by rfl))
  · exact .of_onLine (f := fun s => measureLine s n x) rfl ht (measureLine_keeps _ _ _ (by rfl))
  · exact .of_onLine (f := fun s => readback s n x) rfl ht (readback_keeps _ _ _ (by rfl))
  · exact .of_onLine (f := fun s => retryLine s n b) rfl ht (retryLine_keeps _ _ _ (by rfl))
  · exact .of_onLine (f := fun s => contentionEnds s n) rfl ht (contentionEnds_keeps _ _ (by rfl))
  · exact .of_onLine (f := fun s => openLoadEnds s n) rfl ht (openLoadEnds_keeps _ _ (by rfl))
  · exact fieldPortStuckClear_lineActs ht

/-! Declarations. -/

/-- What a declaration of the field bank or of a fault condition touches. -/
abbrev conditionFoot : Foot := ⟨fieldFaultFields, [0x1001, 0xC300], false⟩

theorem Faults.of_onLine {c : Instr} {s t : State} {n : Nat} {f : State → State} (h : exec c s = onLine n s f)
    (ht : exec c s = .next t) (hf : n < 32 → Faults conditionFoot s.fresh (f s.fresh)) : Faults conditionFoot s t := by
  obtain ⟨hn, rfl⟩ := onLine_next h ht
  have hsettled : Faults conditionFoot s.fresh (settleLines (f s.fresh)) := (hf hn).trans (settleLines_keeps _ (by rfl)).faults
  split
  · exact hsettled.around (f := fun s => settleLines (f s)) (by rfl)
  · exact (fresh_keeps s (by rfl)).faults

theorem declareAbove_faults {F : Foot} (s : State) (n : Nat) (a : Option Rat) (d : Rat) (v : Word)
    (hF : F.holds noteFields = true) : Faults F s (declareAbove s n a d v) := by
  refine .mono hF ?_
  unfold declareAbove
  split
  · exact .ite (declareFault_faults _ _ _ _ _ _ (by rfl)) (.refl s)
  · exact (clearActive_keeps _ _ (by rfl)).faults

theorem sensorRead_faults {F : Foot} (s : State) (v : Int) (hF : F.holds fieldFaultFields = true) :
    Faults F s (sensorRead s v) := by
  refine .mono hF ?_
  have hread : ∀ x y, Keeps (Foot.noMode ⟨fieldFaultFields, [], false⟩) s { s with fieldBank := x, faults := y } := fun _ _ =>
    .set [.fieldBank, .faults] rfl (by rfl)
  exact ((hread _ _).faults.trans (declareAbove_faults _ _ _ _ _ (by rfl))).trans (declareAbove_faults _ _ _ _ _ (by rfl))

theorem thermPin_faults {F : Foot} (s : State) (b : Bool) (hF : F.holds fieldFaultFields = true) :
    Faults F s (thermPin s b) := by
  refine .mono hF ?_
  have hpin : ∀ x, Keeps (Foot.noMode ⟨fieldFaultFields, [], false⟩) s { s with fieldBank := x } := fun _ => .set [.fieldBank] rfl (by rfl)
  unfold thermPin
  exact .ite (.ite (hpin _).faults ((hpin _).faults.trans (declareFault_faults _ _ _ _ _ _ (by rfl))))
    ((hpin _).trans (clearActive_keeps _ _ (by rfl))).faults

theorem condition_faults {s t : State} {c : Instr} {n x : Nat} {v : Int} {b : Bool}
    (hc : c = .contentionDeclare n ∨ c = .outputOvercurrent n ∨ c = .openLoadDeclare n ∨ c = .vfieldCheck v ∨
      c = .fieldPortLineCheck n x ∨ c = .fieldPortStuck n ∨ c = .thermAlert b ∨ c = .thermalSensorRead v ∨ c = .oscInFailed ∨
      c = .interDieLinkTimeout ∨ c = .crossbarAccessError n x ∨ c = .fatalDeclaration n x) (ht : exec c s = .next t) :
    Faults conditionFoot s t := by
  rcases hc with rfl | rfl | rfl | rfl | rfl | rfl | rfl | rfl | rfl | rfl | rfl | rfl
  · exact .of_onLine (f := fun s => contends s n) rfl ht fun _ => contends_faults _ _ (by rfl)
  · exact .of_onLine (f := fun s => overcurrent s n) rfl ht fun hn => overcurrent_faults _ hn (by rfl)
  · exact .of_onLine (f := fun s => openLoads s n) rfl ht fun _ => openLoads_faults _ _ (by rfl)
  · exact .of_actRunning (f := fun s => settleLines (judgeVfield s v)) rfl ht (by rfl)
      ((judgeVfield_faults _ _ (by rfl)).trans (settleLines_keeps _ (by rfl)).faults)
  · exact .of_onUnit (f := fun s => judgeAmplitude s n x) rfl ht (by rfl) fun _ => judgeAmplitude_faults _ _ _ (by rfl)
  · exact .of_onUnit (f := fun s => portStuck s n) rfl ht (by rfl) fun _ => portStuck_faults _ _ (by rfl)
  · exact .of_actRunning (f := fun s => thermPin s b) rfl ht (by rfl) (thermPin_faults _ _ (by rfl))
  · exact .of_actRunning (f := fun s => sensorRead s v) rfl ht (by rfl) (sensorRead_faults _ _ (by rfl))
  · exact .of_actRunning (f := fun s => declareFault s 0x002 0) rfl ht (by rfl) (declareFault_faults _ _ _ _ _ _ (by rfl))
  · exact .of_actRunning (f := fun s => if s.boot.exOn then declareFault s 0x001 0 else s) rfl ht (by rfl)
      (.ite (declareFault_faults _ _ _ _ _ _ (by rfl)) (.refl _))
  · exact .of_onUnit (f := fun s => if crossbarGrants x n then s else declareFault s 0x00D (n * 256 + x % 256)) rfl ht (by rfl) fun _ =>
      .ite (.refl _) (declareFault_faults _ _ _ _ _ _ (by rfl))
  · exact .of_onUnit (f := fun s => if s.sourceClass n = 2 ∧ n ≠ 0 then declareFault s n x else s) rfl ht (by rfl) fun _ =>
      .ite (declareFault_faults _ _ _ _ _ _ (by rfl)) (.refl _)

theorem Faults.conditionFrame {s t : State} (h : Faults conditionFoot s t) :
    t = { s with
      mode := t.mode, dict := t.dict, emitted := t.emitted, events := t.events, banks := t.banks, moves := t.moves
      req := t.req, log := t.log, faults := t.faults, boot := t.boot, pair := t.pair, windows := t.windows
      spools := t.spools, ins := t.ins, cells := t.cells, fieldBank := t.fieldBank } ∧
      (t.mode = s.mode ∨ t.mode = .faulted) ∧
      ∀ i j, i ≠ 0x1001 → i ≠ 0xC300 → j < 0x8000 → t.elem i j = s.elem i j :=
  ⟨h.orFaulted.eq_graft, h.mode, fun i j h1001 hC300 hj => h.sameElems rfl rfl i j (by simp [h1001, hC300]) hj⟩

/-! Writes of a line's configuration and of a tally rule. -/

/-- A refusal for admission fails the element's own check. -/
theorem firstFailure_ne_admission {l : List (Bool × Nat)} {st : Nat} (hst : st ≠ stOk) (hl : ∀ x ∈ l, x.2 = st → x.1 = false) :
    firstFailure l ≠ st := by
  induction l with
  | nil => exact fun h => hst h.symm
  | cons a l ih =>
    obtain ⟨fails, status⟩ := a
    obtain ⟨hhead, hrest⟩ := List.forall_mem_cons.1 hl
    unfold firstFailure
    split
    next hf => exact fun h => absurd hf (by simp [show fails = false from hhead h])
    next => exact ih hrest

theorem requestStatus_ne_admission (s : State) (rq : Rq) (op i j : Nat) (b : List Byte) {c : Checks} (hc : c.admission = false) :
    requestStatus s rq op i j b c ≠ stAdmission := by
  refine firstFailure_ne_admission (by decide) ?_
  simp [checkList, hc]

/-- A request for an element that has no admission check and no effect of its own on a refusal: it is answered alone, or it
commits in `u` and is streamed. -/
theorem request_answers_or {h : Handler} (hadmission : h.checks.admission = false) (hrefused : ∀ st u, h.refused st u = u)
    (s : State) (rq : Rq) (op i j : Nat) (b : List Byte) :
    Answers s (request s rq op i j b h) ∨ ∃ u st d, Answers s u ∧
      Answers (streamChange (h.commit u) rq op i j st b d) (request s rq op i j b h) := by
  have hjudged := judged_answers s rq op i j b
  unfold request
  split
  · exact .inl (.refl s)
  · dsimp only
    split
    · exact .inl (hjudged.trans (sendReply_answers _ _ _ _ _ _))
    · split
      · refine .inr ?_
        unfold commitRequest
        extract_lets status logged committed data streamed req waiting
        have waits : Answers streamed waiting := .ite (answers_req _ _) (.refl _)
        exact ⟨logged, status, data, hjudged.trans (appendLog_answers _ _),
          waits.trans ((recordReply_answers ..).trans (sendReply_answers ..))⟩
      · refine .inl (hjudged.trans ?_)
        unfold refuseRequest
        dsimp only
        rw [if_neg (requestStatus_ne_admission _ _ _ _ _ _ hadmission), hrefused]
        refine .trans (.trans ?_ (logRefusal_answers _ rq op i j _ h))
          (.trans (.ite (.refl _) (recordReply_answers _ _ _ _)) (sendReply_answers _ _ _ _ _ _))
        exact .ite (countPort_answers _ _ _ (by decide)) (.ite (countPort_answers _ _ _ (by decide)) (.refl _))

/-- What a write of line `n`'s configuration or tally rule touches. -/
structure LineWrites (n : Nat) (s t : State) : Prop where
  keeps : Keeps ⟨[.dict, .recent, .emitted, .req, .log, .pair, .faults, .fieldBank], [], true⟩ s t
  clears : Clears s.faults t.faults
  elem : ∀ i j, i ≠ 0x1001 → ¬ ((i = 0xC000 ∨ i = 0xC100) ∧ j = n) → j < 65536 → t.elem i j = s.elem i j
  claim : t.pair.claimOut = s.pair.claimOut

section
variable {n : Nat} {s t u : State}

theorem LineWrites.trans (h : LineWrites n s t) (h' : LineWrites n t u) : LineWrites n s u where
  keeps := h.keeps.trans h'.keeps
  clears := h.clears.trans h'.clears
  elem i j h1001 hn hj := (h'.elem i j h1001 hn hj).trans (h.elem i j h1001 hn hj)
  claim := h'.claim.trans h.claim

theorem Answers.lineWrites (h : Answers s t) : LineWrites n s t where
  keeps := .setWhole [.dict, .emitted, .req, .log] h.rest (by rfl)
  clears := by rw [h.rest]; exact .refl _
  elem i j h1001 _ hj := h.elem i j h1001 hj
  claim := by rw [h.rest]

/-- An operation that writes no element. -/
theorem LineWrites.of_keeps {fields : List Field} (h : Keeps ⟨fields, [], false⟩ s t)
    (hc : Clears s.faults t.faults) (hp : t.pair.claimOut = s.pair.claimOut)
    (hfields : fields.all [Field.recent, .emitted, .pair, .faults, .fieldBank].contains = true) : LineWrites n s t := by
  have hsub : ∀ f ∈ fields, f ∈ [Field.recent, .emitted, .pair, .faults, .fieldBank] := by simpa using hfields
  refine ⟨⟨fun f hf => h.fields f fun hin => hf ?_, fun hw => nomatch hw⟩, hc, fun i j _ _ _ => elem_of_dict ?_ i j, hp⟩
  · have := hsub f hin
    simp only [List.mem_cons, List.not_mem_nil, or_false] at this ⊢
    tauto
  · exact h.fields .dict fun hin => absurd (hsub _ hin) (by decide)

theorem lineWrites_put {i : Nat} (s : State) (v : Word) (hn : n < 65536) (hi : i = 0xC000 ∨ i = 0xC100) :
    LineWrites n s (s.put i n v) where
  keeps := .setWhole [.dict] rfl (by rfl)
  clears := .refl _
  elem i' j' _ hne hj' := (State.put_elem ..).trans <| if_neg fun he => by
    obtain ⟨rfl, rfl⟩ := (ekey_inj hj' hn).1 he
    exact hne ⟨hi, rfl⟩
  claim := rfl

theorem streamChange_lineWrites (s : State) (rq : Rq) (op i j st : Nat) (b d : List Byte) :
    LineWrites n s (streamChange s rq op i j st b d) := by
  have hk : Keeps ⟨[.pair, .emitted], [], false⟩ s (streamChange s rq op i j st b d) := streamChange_keeps _ _ _ _ _ _ _ _ (by rfl)
  have hfaults : (streamChange s rq op i j st b d).faults = s.faults := hk.same .faults (by rfl)
  refine .of_keeps hk (hfaults ▸ .refl _) ?_ (by rfl)
  unfold streamChange
  split
  · dsimp only
    exact (congrArg PairSt.claimOut ((emitTwice_keeps (F := ⟨[.emitted], [], false⟩) _ _ _ (by rfl)).same .pair (by rfl))).trans rfl
  · rfl

theorem settleBank_lineWrites (s : State) : LineWrites n s (settleBank s) :=
  have hk : Keeps ⟨[.faults], [], false⟩ s (settleBank s) := settleBank_keeps s (by rfl)
  .of_keeps hk (settleBank_clears s) (congrArg PairSt.claimOut (hk.same .pair (by rfl))) (by rfl)

theorem settleLines_lineWrites (s : State) : LineWrites n s (settleLines s) :=
  have hk : Keeps ⟨[.fieldBank, .faults], [], false⟩ s (settleLines s) := settleLines_keeps s (by rfl)
  .of_keeps hk (settleLines_clears s) (congrArg PairSt.claimOut (hk.same .pair (by rfl))) (by rfl)

theorem setFline_lineWrites (s : State) (x : FieldLine) : LineWrites n s (s.setFline n x) :=
  .of_keeps (fields := [.fieldBank]) (setFline_keeps _ _ _ (by rfl)) (.refl _) rfl (by rfl)

theorem lineHandler_lineWrites (s u : State) (b : List Byte) (hn : n < 65536) : LineWrites n u ((lineHandler s n b).commit u) := by
  have hput : LineWrites n u (u.put 0xC000 n (ofBytes b)) := lineWrites_put _ _ hn (.inl rfl)
  unfold lineHandler
  dsimp only
  split
  · exact (hput.trans (setFline_lineWrites _ _)).trans (settleBank_lineWrites _)
  · exact hput.trans (setFline_lineWrites _ _)

theorem ruleHandler_lineWrites (s u : State) (b : List Byte) (hn : n < 65536) : LineWrites n u ((ruleHandler s n b).commit u) := by
  have hcommit : LineWrites n u (u.commit 0xC100 n (ofBytes b)) :=
    (lineWrites_put _ _ hn (.inr rfl)).trans (.of_keeps (fields := [.recent]) (.set [.recent] rfl (by rfl)) (.refl _) rfl (by rfl))
  show LineWrites n u (whenRunning (u.commit 0xC100 n (ofBytes b)) settleLines)
  unfold whenRunning
  split
  · exact hcommit.trans (settleLines_lineWrites _)
  · exact hcommit

theorem request_lineWrites {h : Handler} (hadmission : h.checks.admission = false) (hrefused : ∀ st u, h.refused st u = u)
    (hcommit : ∀ u, LineWrites n u (h.commit u)) (s : State) (rq : Rq) (op i j : Nat) (b : List Byte) :
    LineWrites n s (request s rq op i j b h) := by
  rcases request_answers_or hadmission hrefused s rq op i j b with hanswers | ⟨u, st, d, hbefore, hafter⟩
  · exact hanswers.lineWrites
  · exact (hbefore.lineWrites.trans (hcommit u)).trans ((streamChange_lineWrites _ _ _ _ _ _ _ _).trans hafter.lineWrites)

end

theorem lineWrite_lineWrites {s t : State} {c : Instr} {rq : Rq} {n : Nat} {v : Word}
    (hc : c = .fieldLineConfigWrite rq n v ∨ c = .tallyRuleWrite rq n v) (hwf : c.wf = true) (ht : exec c s = .next t) :
    LineWrites n s t := by
  have hn : n < 65536 := by
    have hline : n < 32 := by rcases hc with rfl | rfl <;> simp_all [Instr.wf]
    omega
  have haround : ∀ f : State → State, LineWrites n s.fresh (f s.fresh) → LineWrites n s { f s.fresh with pending := s.pending } :=
    fun f h => ⟨(fresh_keeps s (by rfl)).trans h.keeps.queue, h.clears, h.elem, h.claim⟩
  rcases hc with rfl | rfl
  · rw [act_next (f := fun s => request s rq opWrite 0xC000 n (valueBytes rq v) (lineHandler s n (valueBytes rq v))) rfl ht]
    exact haround (fun s => request s rq opWrite 0xC000 n (valueBytes rq v) (lineHandler s n (valueBytes rq v)))
      (request_lineWrites rfl (fun _ _ => rfl) (fun u => lineHandler_lineWrites _ u _ hn) _ _ _ _ _ _)
  · rw [act_next (f := fun s => request s rq opWrite 0xC100 n (valueBytes rq v) (ruleHandler s n (valueBytes rq v))) rfl ht]
    exact haround (fun s => request s rq opWrite 0xC100 n (valueBytes rq v) (ruleHandler s n (valueBytes rq v)))
      (request_lineWrites rfl (fun _ _ => rfl) (fun u => ruleHandler_lineWrites _ u _ hn) _ _ _ _ _ _)

/-- Settles O52: each command by its footprint, and a line's own by what settling can clear. -/
theorem fieldBankFramed : Obligations.FieldBankFramed := by
  unfold Obligations.FieldBankFramed
  refine ⟨fun s t c n x b hc ht => (lineCommand_lineActs hc ht).frame, fun s t c n x v b hc ht => (condition_faults hc ht).conditionFrame, ?_⟩
  intro s t c rq n v hc hwf ht
  have h := lineWrite_lineWrites hc hwf ht
  exact ⟨h.keeps.eq_graft, h.clears.faults, h.elem, h.claim⟩

end Sys2Proof.Machine
end

section
/-! PROOFS. What Dumus and debug-port commands leave unchanged (R457, R464, R465, R566, R567). -/

namespace Sys2Proof.Machine

/-! The ports. -/

/-- What a port's own command touches: the request path, the counters at 0x1001, and what it sends. -/
structure Portwise (s t : State) : Prop where
  rest : t = { s with dict := t.dict, emitted := t.emitted, req := t.req }
  elem : ∀ i j, i ≠ 0x1001 → j < 65536 → t.elem i j = s.elem i j

section
variable {s t u : State}

theorem Portwise.of_answers (hk : Keeps ⟨answerFields, [0x1001], false⟩ s t) (ha : Answers s t) : Portwise s t :=
  ⟨hk.eq_graft, ha.elem⟩

theorem Portwise.refl (s : State) : Portwise s s := ⟨rfl, fun _ _ _ _ => rfl⟩

theorem Portwise.trans (h : Portwise s t) (h' : Portwise t u) : Portwise s u where
  rest := by rw [h'.rest, h.rest]
  elem i j hi hj := (h'.elem i j hi hj).trans (h.elem i j hi hj)

theorem Portwise.ite {c : Prop} [Decidable c] (h : Portwise s t) (h' : Portwise s u) : Portwise s (if c then t else u) := by
  split <;> assumption

theorem portwise_req (s : State) (x : ReqSt) : Portwise s { s with req := x } := ⟨rfl, fun _ _ _ _ => rfl⟩

end

theorem countPort_portwise (s : State) (p : Port) (n : Nat) (hn : n < 16) : Portwise s (countPort s p n) :=
  .of_answers (countPort_keeps _ _ _ hn (by rfl)) (countPort_answers _ _ _ hn)

theorem emit_portwise (s : State) (e : Emission) : Portwise s (s.emit e) := .of_answers (emit_keeps _ _ (by rfl)) (emit_answers _ _)

theorem sendFrame_portwise (s : State) (rq : Rq) (f : List Byte) : Portwise s (sendFrame s rq f) :=
  .of_answers (sendFrame_keeps _ _ _ (by rfl)) (sendFrame_answers _ _ _)

theorem sendReply_portwise (s : State) (rq : Rq) (i j st : Nat) (d : List Byte) : Portwise s (sendReply s rq i j st d) :=
  .of_answers (sendReply_keeps _ _ _ _ _ _ (by rfl)) (sendReply_answers _ _ _ _ _ _)

theorem unbuffer_portwise (s : State) (rq : Rq) (op i j : Nat) (b : List Byte) : Portwise s (unbuffer s rq op i j b) :=
  .of_answers (unbuffer_keeps _ _ _ _ _ _ (by rfl)) (unbuffer_answers _ _ _ _ _ _)

theorem recordReply_portwise (s : State) (rq : Rq) (st : Nat) (d : List Byte) : Portwise s (recordReply s rq st d) := portwise_req _ _

theorem notify_portwise (s : State) (rq : Rq) (i j st : Nat) (d : List Byte) : Portwise s (notify s rq i j st d) := by
  unfold notify
  split
  · exact .refl s
  · exact (sendFrame_portwise _ _ _).trans (portwise_req _ _)

/-- A refused read is not logged, and reports no admission refusal. -/
theorem refuseRead_portwise (s : State) (rq : Rq) {op : Nat} (i j st : Nat) (c : Checks) (hop : opChanges op = false)
    (hst : st ≠ stAdmission) : Portwise s (refuseRequest s rq op i j st { checks := c }) := by
  have hlog : ∀ u, logRefusal u rq op i j st { checks := c } = u := fun u => if_pos (by simp [hop])
  unfold refuseRequest
  dsimp only
  rw [hlog, if_neg hst]
  refine .trans ?_ (.trans (.ite (.refl _) (recordReply_portwise _ _ _ _)) (sendReply_portwise _ _ _ _ _ _))
  exact .ite (countPort_portwise _ _ _ (by decide)) (.ite (countPort_portwise _ _ _ (by decide)) (.refl _))

theorem readRequest_portwise (s : State) (rq : Rq) {op : Nat} (i j : Nat) (b : List Byte) {c : Checks} (short : Bool)
    (data : State → List Byte) (hop : opChanges op = false) (hc : c.admission = false) :
    Portwise s (readRequest s rq op i j b c short data) := by
  have hjudged : Portwise s (countPort (unbuffer s rq op i j b) rq.port 0) :=
    (unbuffer_portwise _ _ _ _ _ _).trans (countPort_portwise _ _ _ (by decide))
  unfold readRequest
  refine .ite (.refl s) (.ite (hjudged.trans (refuseRead_portwise _ _ _ _ _ _ hop (requestStatus_ne_admission _ _ _ _ _ _ hc))) ?_)
  refine .ite (hjudged.trans ((recordReply_portwise _ _ _ _).trans (sendReply_portwise _ _ _ _ _ _))) ?_
  exact hjudged.trans ((recordReply_portwise _ _ _ _).trans ((sendReply_portwise _ _ _ _ _ _).trans (notify_portwise _ _ _ _ _ _)))

theorem cardSend_portwise (s : State) (n : Nat) (f : List Byte) (crc : Word) : Portwise s (cardSend s n f crc) := by
  have hcount : ∀ k, k < 16 → Portwise s (countPort s .card k) := fun k hk => countPort_portwise _ _ _ hk
  unfold cardSend
  refine .ite (hcount 3 (by decide)) (.ite (hcount 2 (by decide)) (.ite (hcount 1 (by decide)) ?_))
  exact .ite (hcount 0xC (by decide)) (.ite (hcount 3 (by decide)) (.ite (.refl s) (portwise_req _ _)))

theorem cardReceive_portwise (s : State) : Portwise s (cardReceive s) := (portwise_req _ _).trans (emit_portwise _ _)

theorem pendingDone_portwise (s : State) (rq : Rq) (i j : Nat) : Portwise s (pendingDone s rq i j) := by
  have hgone : Portwise s (unbuffer s rq opPendingDone i j []) := unbuffer_portwise _ _ _ _ _ _
  unfold pendingDone
  refine .ite (.refl s) (.ite (hgone.trans (countPort_portwise _ _ _ (by decide))) ?_)
  exact .ite (hgone.trans (countPort_portwise _ _ _ (by decide))) (hgone.trans (portwise_req _ _))

theorem resendNotify_portwise (s : State) (o n q : Nat) : Portwise s (resendNotify s o n q) := by
  unfold resendNotify
  dsimp only
  split
  · exact .refl s
  · refine .ite ((portwise_req _ _).trans (countPort_portwise _ _ _ (by decide))) ?_
    exact (sendFrame_portwise _ _ _).trans ((countPort_portwise _ _ _ (by decide)).trans (portwise_req _ _))

theorem retryReply_portwise (s : State) (p : Port) (b : Bool) : Portwise s (retryReply s p b) := by
  unfold retryReply
  split
  · exact .refl s
  · refine .ite (.ite ((portwise_req _ _).trans (countPort_portwise _ _ _ (by decide))) (portwise_req _ _)) ?_
    exact .ite ((portwise_req _ _).trans (emit_portwise _ _)) (portwise_req _ _)

/-! Field-port frames. -/

/-- What a field-port frame touches: the port, the pair's record of what a standby hears, and in DORMANT the start. -/
structure FrameActs (fcsOk : Bool) (s t : State) : Prop where
  rest : t = { s with dict := t.dict, req := t.req, pair := t.pair, boot := t.boot, emitted := t.emitted }
  boot : s.mode ≠ .dormant → t.boot = s.boot
  elem : ∀ i j, i ≠ 0x1001 → j < 65536 → t.elem i j = s.elem i j
  pair : fcsOk = false → t.pair = s.pair

theorem Portwise.frameActs {s t : State} (h : Portwise s t) (b : Bool) : FrameActs b s t where
  rest := by rw [h.rest]
  boot _ := by rw [h.rest]
  elem := h.elem
  pair _ := by rw [h.rest]

theorem FrameActs.ite {s t u : State} {b : Bool} {c : Prop} [Decidable c] (h : FrameActs b s t) (h' : FrameActs b s u) :
    FrameActs b s (if c then t else u) := by split <;> assumption

theorem hear_frameActs (s : State) (p : Port) (src : Nat) (f : List Byte) : FrameActs true s (hear s p src f) := by
  unfold hear
  dsimp only
  split
  · exact ⟨rfl, fun _ => rfl, fun _ _ _ _ => rfl, fun h => nomatch h⟩
  · exact (Portwise.refl s).frameActs true

theorem dumusFrame_frameActs (s : State) (p : Port) (dst et src : Nat) (tagged fcsOk : Bool) (f : List Byte) :
    FrameActs fcsOk s (dumusFrame s p dst et src tagged fcsOk f) := by
  have hcount : ∀ k, k < 16 → FrameActs fcsOk s (countPort s p k) := fun k hk => (countPort_portwise _ _ _ hk).frameActs _
  have hnone : FrameActs fcsOk s s := (Portwise.refl s).frameActs _
  have hreq : ∀ x, FrameActs fcsOk s { s with req := x } := fun x => (portwise_req s x).frameActs _
  unfold dumusFrame
  dsimp only
  split
  · exact hnone
  · split
    · exact hcount 2 (by decide)
    next hfcs =>
      obtain rfl : fcsOk = true := by simpa using hfcs
      split
      · exact hcount 0xC (by decide)
      · split
        · exact hcount 3 (by decide)
        · split
          · exact hnone
          · split
            · exact hear_frameActs _ _ _ _
            · exact .ite (hcount 1 (by decide)) (.ite (hreq _) (hreq _))

theorem wakeFrame_frameActs (s : State) (p : Port) (f : List Byte) (b : Bool) : FrameActs b s (wakeFrame s p f) := by
  unfold wakeFrame
  dsimp only
  split
  next hmode =>
    split
    · exact ⟨rfl, fun h => absurd hmode h, fun _ _ _ _ => rfl, fun _ => rfl⟩
    · exact (Portwise.refl s).frameActs b
  · unfold whenRunning
    split
    · exact (countPort_portwise _ _ _ (by decide)).frameActs b
    · exact (Portwise.refl s).frameActs b

theorem fieldFrame_frameActs (s : State) (p : Port) (dst et src : Nat) (tagged fcsOk : Bool) (f : List Byte) :
    FrameActs fcsOk s (fieldFrame s p dst et src tagged fcsOk f) := by
  unfold fieldFrame
  split
  · split
    · exact wakeFrame_frameActs _ _ _ _
    · exact (Portwise.refl s).frameActs _
  · unfold whenRunning
    split
    · exact dumusFrame_frameActs _ _ _ _ _ _ _ _
    · exact (Portwise.refl s).frameActs _

/-! The commands. -/

theorem Portwise.of_act {c : Instr} {s t : State} {f : State → State} (h : exec c s = act s f) (ht : exec c s = .next t)
    (hf : Portwise s.fresh (f s.fresh)) : Portwise s t := by
  rw [act_next h ht]
  exact ⟨by rw [hf.rest]; rfl, hf.elem⟩

theorem Portwise.of_actRunning {c : Instr} {s t : State} {f : State → State} (h : exec c s = actRunning s f)
    (ht : exec c s = .next t) (hf : Portwise s.fresh (f s.fresh)) : Portwise s t :=
  .of_act h ht (.ite hf (.refl _))

theorem FrameActs.of_act {c : Instr} {s t : State} {f : State → State} {b : Bool} (h : exec c s = act s f)
    (ht : exec c s = .next t) (hf : FrameActs b s.fresh (f s.fresh)) : FrameActs b s t := by
  rw [act_next h ht]
  exact ⟨by rw [hf.rest]; rfl, hf.boot, hf.elem, hf.pair⟩

theorem dumusFrameReceived_frameActs {s t : State} {p : Port} {dst et src : Nat} {tagged fcsOk : Bool} {f : List Byte}
    (ht : exec (.dumusFrameReceived p dst et src tagged fcsOk f) s = .next t) : FrameActs fcsOk s t := by
  have hact : ∀ q, FrameActs fcsOk s.fresh (fieldFrame s.fresh q dst et src tagged fcsOk f) := fun q => fieldFrame_frameActs _ _ _ _ _ _ _ _
  cases p with
  | dumusA => exact .of_act (f := fun s => fieldFrame s .dumusA dst et src tagged fcsOk f) rfl ht (hact _)
  | dumusB => exact .of_act (f := fun s => fieldFrame s .dumusB dst et src tagged fcsOk f) rfl ht (hact _)
  | card | tunnel | relay | stream => cases ht

theorem portCommand_frameActs {s t : State} {c : Instr} {rq : Rq} {p : Port} {i j n m o : Nat} {b : Bool} {frame : List Byte}
    (hc : c = .read rq i j ∨ c = .blockRead rq i j frame ∨ c = .cardSend n frame m ∨ c = .cardReceive ∨ c = .cardStatus ∨
      c = .unknownCardCommand n ∨ c = .pendingDone rq i j ∨ c = .notifyResend n m o ∨ c = .replyBackoffRetry p b ∨
      c = .dumusFrameReceived p n m o b true frame ∨ c = .dumusFrameReceived p n m o b false frame)
    (ht : exec c s = .next t) :
    FrameActs (match c with | .dumusFrameReceived _ _ _ _ _ fcsOk _ => fcsOk | _ => false) s t := by
  rcases hc with rfl | rfl | rfl | rfl | rfl | rfl | rfl | rfl | rfl | rfl | rfl
  · exact (Portwise.of_act (f := fun s => readElement s rq i j) rfl ht (readRequest_portwise _ _ _ _ _ _ _ rfl rfl)).frameActs _
  · exact (Portwise.of_act (f := fun s => blockReadElements s rq i j frame) rfl ht (readRequest_portwise _ _ _ _ _ _ _ rfl rfl)).frameActs _
  · exact (Portwise.of_actRunning (f := fun s => cardSend s n frame m) rfl ht (cardSend_portwise _ _ _ _)).frameActs _
  · exact (Portwise.of_actRunning (f := cardReceive) rfl ht (cardReceive_portwise _)).frameActs _
  · exact (Portwise.of_actRunning (f := fun s => s.emit (.card (toBytes 4 s.cardWord))) rfl ht (emit_portwise _ _)).frameActs _
  · exact (Portwise.of_actRunning (f := fun s => if [0x5A, 0xA5, 0x3C, 0xC3, 0x96].contains n then s else countPort s .card 3) rfl ht
      (.ite (.refl _) (countPort_portwise _ _ _ (by decide)))).frameActs _
  · exact (Portwise.of_act (f := fun s => pendingDone s rq i j) rfl ht (pendingDone_portwise _ _ _ _)).frameActs _
  · exact (Portwise.of_actRunning (f := fun s => resendNotify s n m o) rfl ht (resendNotify_portwise _ _ _ _)).frameActs _
  · exact (Portwise.of_actRunning (f := fun s => retryReply s p b) rfl ht (retryReply_portwise _ _ _)).frameActs _
  · exact dumusFrameReceived_frameActs ht
  · exact dumusFrameReceived_frameActs ht

/-! The debug port. -/

/-- What a reading instruction of the debug port touches: the port, and the free values; no fuse. -/
structure DebugActs (s t : State) : Prop where
  rest : t = { s with dbg := t.dbg, free := t.free, emitted := t.emitted }
  openings : t.dbg.openings = s.dbg.openings
  relocks : t.dbg.relocks = s.dbg.relocks

section
variable {s t u : State}

theorem DebugActs.refl (s : State) : DebugActs s s := ⟨rfl, rfl, rfl⟩

theorem DebugActs.trans (h : DebugActs s t) (h' : DebugActs t u) : DebugActs s u where
  rest := by rw [h'.rest, h.rest]
  openings := h'.openings.trans h.openings
  relocks := h'.relocks.trans h.relocks

theorem emit_debugActs (s : State) (e : Emission) : DebugActs s (s.emit e) := by
  have h : Keeps ⟨[.emitted], [], false⟩ s (s.emit e) := emit_keeps s e (by rfl)
  rw [h.eq_graft]
  exact ⟨rfl, rfl, rfl⟩

theorem DebugActs.emit (h : DebugActs s t) (e : Emission) : DebugActs s (t.emit e) := h.trans (emit_debugActs _ _)

theorem shiftOut_debugActs (n : Nat) (v : Word) (s : State) : DebugActs s (shiftOut n v s) := emit_debugActs _ _

theorem draw_debugActs (s : State) : DebugActs s s.draw := ⟨rfl, rfl, rfl⟩

theorem challenge_debugActs (s : State) : DebugActs s (challenge s) := by
  unfold challenge
  split
  · dsimp only
    split
    · refine .emit ?_ _
      exact ⟨rfl, rfl, rfl⟩
    · refine .emit ?_ _
      exact ⟨rfl, rfl, rfl⟩
  · exact (shiftOut_debugActs _ _ _).trans (draw_debugActs _)

theorem DebugActs.of_act {c : Instr} {f : State → State} (h : exec c s = act s f) (ht : exec c s = .next t)
    (hf : DebugActs s.fresh (f s.fresh)) : DebugActs s t := by
  rw [act_next h ht]
  exact ⟨by rw [hf.rest]; rfl, hf.openings, hf.relocks⟩

theorem DebugActs.of_instruct {c : Instr} {code : Nat} {f : State → State} (h : exec c s = instruct s code f)
    (ht : exec c s = .next t) (hf : ∀ u, DebugActs u (f u)) : DebugActs s t := by
  refine .of_act h ht ?_
  split
  · have hload : DebugActs s.fresh { s.fresh with dbg := { s.fresh.dbg with ir := code } } := ⟨rfl, rfl, rfl⟩
    exact hload.trans (hf _)
  · exact ⟨rfl, rfl, rfl⟩

theorem debugCommand_debugActs {c : Instr} {n : Nat}
    (hc : c = .trstReset ∨ c = .extest ∨ c = .samplePreload ∨ c = .idcode ∨ c = .bypass n ∨ c = .captureRead n ∨ c = .captureSeek n ∨
      c = .lifecycle ∨ c = .openChallenge) (ht : exec c s = .next t) : DebugActs s t := by
  rcases hc with rfl | rfl | rfl | rfl | rfl | rfl | rfl | rfl | rfl
  · exact .of_act (f := fun s => { s with dbg := { s.dbg with ir := 0x02 } }) rfl ht ⟨rfl, rfl, rfl⟩
  · exact .of_instruct (code := 0x00) (f := id) rfl ht fun u => .refl u
  · exact .of_instruct (code := 0x01) (f := fun s => { s with dbg := { s.dbg with scan := s.drawn Config.boundaryLength } }.draw) rfl ht
      fun _ => ⟨rfl, rfl, rfl⟩
  · exact .of_instruct (code := 0x02) (f := shiftOut 4 idcodeWord) rfl ht fun u => shiftOut_debugActs _ _ u
  · exact .of_act (f := fun s => { s with dbg := { s.dbg with ir := if s.irAllowed n then n else 0xFF } }) rfl ht ⟨rfl, rfl, rfl⟩
  · exact .of_instruct (code := 0x10) (f := captureRead n) rfl ht fun u => (emit_debugActs u _).trans ⟨rfl, rfl, rfl⟩
  · exact .of_instruct (code := 0x11) (f := captureSeek n) rfl ht fun _ => ⟨rfl, rfl, rfl⟩
  · exact .of_instruct (code := 0x20) (f := fun s => shiftOut 16 s.lifecycleWord s) rfl ht fun u => shiftOut_debugActs _ _ u
  · exact .of_instruct (code := 0x21) (f := challenge) rfl ht challenge_debugActs

end

/-- Settles O51: each command by what its one act touches. -/
theorem portsFramed : Obligations.PortsFramed := by
  unfold Obligations.PortsFramed
  constructor
  · intro s t c rq p idx sub n m o b frame hc ht
    have h := portCommand_frameActs hc ht
    refine ⟨h.rest, h.boot, h.elem, fun hne => h.pair ?_⟩
    cases c
    case dumusFrameReceived x y z w u fcsOk f =>
      cases fcsOk with
      | true => exact absurd rfl (hne x y z w u f)
      | false => rfl
    all_goals rfl
  · intro s t c n hc ht
    have h := debugCommand_debugActs hc ht
    exact ⟨h.rest, h.openings, h.relocks⟩

end Sys2Proof.Machine
end

section
/-! PROOFS. Frames at the Dumus ports (R452, R453, R464-R468). -/

namespace Sys2Proof.Machine

theorem mode_of_running {s : State} (h : s.running = true) : s.mode ≠ .dormant := by
  simp only [State.running, Bool.and_eq_true, bne_iff_ne] at h
  exact h.1.1

theorem whenRunning_of_running {s : State} (h : s.running = true) (f : State → State) : whenRunning s f = f s := if_pos h

/-- A frame that passes its port's filter is one of the port's address and EtherType, untagged. -/
theorem fieldFrame_running {s : State} {p : Port} {dst src : Nat} {fcsOk : Bool} {frame : List Byte} (hr : s.running = true) :
    fieldFrame s p dst (s.field 0x1001 0 15 0) src false fcsOk frame = dumusFrame s p dst (s.field 0x1001 0 15 0) src false fcsOk frame := by
  unfold fieldFrame
  rw [if_neg (mode_of_running hr), whenRunning_of_running hr]

theorem filter_passes {s : State} {p : Port} {dst : Nat} (hport : s.portRuns p = true) (hdst : dst = s.elem 0x1001 1 ∨ dst = dumusMac p) :
    ¬ (!s.portRuns p || false || !(dst == s.elem 0x1001 1 || dst == dumusMac p) ||
      s.field 0x1001 0 15 0 != s.field 0x1001 0 15 0) = true := by
  simpa [hport, or_iff_not_imp_left] using hdst

/-- A frame with a bad FCS is counted (R464). -/
theorem dumusFrame_badFcs {s : State} {p : Port} {dst src : Nat} {frame : List Byte} (hport : s.portRuns p = true)
    (hdst : dst = s.elem 0x1001 1 ∨ dst = dumusMac p) :
    dumusFrame s p dst (s.field 0x1001 0 15 0) src false false frame = countPort s p 2 := by
  unfold dumusFrame
  dsimp only
  rw [if_neg (filter_passes hport hdst)]
  rfl

/-- A good frame is heard by a standby, else buffered while there is room. -/
theorem dumusFrame_good {s : State} {p : Port} {dst src : Nat} {frame : List Byte} (hport : s.portRuns p = true)
    (hdst : dst = s.elem 0x1001 1 ∨ dst = dumusMac p) (hop : hdrOpcode (ofBytes (frame.take 16)) ≠ 8) (hgood : frameBad frame true = false)
    (hnode : s.nodeTaken (hdrNode (ofBytes (frame.take 16))) = true) :
    dumusFrame s p dst (s.field 0x1001 0 15 0) src false true frame =
      if s.mode = .standby then hear s p src (frame.take (24 + hdrLength (ofBytes (frame.take 16))))
      else if 16384 < queueBytes (if p = .dumusA then s.req.bufA else s.req.bufB) +
          (frame.take (24 + hdrLength (ofBytes (frame.take 16)))).length then countPort s p 1
      else if p = .dumusA then
        { s with req := { s.req with bufA := s.req.bufA ++ [frame.take (24 + hdrLength (ofBytes (frame.take 16)))] } }
      else { s with req := { s.req with bufB := s.req.bufB ++ [frame.take (24 + hdrLength (ofBytes (frame.take 16)))] } } := by
  unfold dumusFrame
  dsimp only
  rw [if_neg (filter_passes hport hdst), if_neg (by decide), if_neg (fun h => hop h.1), if_neg (by simp [hgood]),
    if_neg (by simp [hnode])]

theorem opcode_of_good {frame : List Byte} {e : Bool} (h : frameBad frame e = false) : hdrOpcode (ofBytes (frame.take 16)) ≠ 8 := by
  intro h8
  simp [frameBad, h8, opTaken] at h

/-- A changing request that a standby hears is kept (R427). -/
theorem hear_keeps_request {s : State} {p : Port} {src : Nat} {frame : List Byte} (hop : hdrOpcode (ofBytes (frame.take 16)) = opWrite) :
    ∃ h : Heard, (hear s p src frame).pair.heard = s.pair.heard ++ [h] ∧ h.rq = headerRq p 0xFFF src frame ∧ h.at_ = s.up := by
  unfold hear
  dsimp only
  rw [if_pos (by simp [hop, opChanges])]
  exact ⟨_, rfl, rfl, rfl⟩

theorem countPort_field {s : State} {p : Port} {n : Nat} (hp : p ≠ .relay ∧ p ≠ .stream) :
    (countPort s p n).elem 0x1001 (0x100 + 0x10 * portNum p + n) = wrapAdd 32 (s.elem 0x1001 (0x100 + 0x10 * portNum p + n)) 1 := by
  cases p
  case relay => exact absurd rfl hp.1
  case stream => exact absurd rfl hp.2
  all_goals exact (State.put_elem ..).trans (if_pos rfl)

theorem countPort_req (s : State) (p : Port) (n : Nat) : (countPort s p n).req = s.req := by cases p <;> rfl

theorem countPort_emitted (s : State) (p : Port) (n : Nat) : (countPort s p n).emitted = s.emitted := by cases p <;> rfl

/-- A frame that the card sends whole, with its CRC right (R468). -/
theorem cardSend_good {s : State} {frame : List Byte} (hlo : 24 ≤ frame.length) (hhi : frame.length ≤ 1048)
    (hroom : queueBytes s.req.bufCard + frame.length ≤ 16384) (hgood : frameBad frame false = false)
    (hnode : s.nodeTaken (hdrNode (ofBytes (frame.take 16))) = true) :
    cardSend s frame.length frame (crc32c (toBytes 2 frame.length ++ frame)) =
      { s with req := { s.req with bufCard := s.req.bufCard ++ [frame] } } := by
  unfold cardSend
  dsimp only
  rw [if_neg (by omega), if_neg (fun h => h rfl), if_neg (by omega), if_neg (fun h => opcode_of_good hgood h.1),
    if_neg (by simp [hgood]), if_neg (by simp [hnode])]

theorem cardSend_badCrc {s : State} {n : Nat} {frame : List Byte} {crc : Word} (hlen : frame.length = n) (hlo : 24 ≤ n) (hhi : n ≤ 1048)
    (hcrc : crc ≠ crc32c (toBytes 2 n ++ frame)) : cardSend s n frame crc = countPort s .card 2 := by
  unfold cardSend
  rw [if_neg (by omega), if_pos (Ne.symm hcrc)]

theorem emit_fresh_card (s : State) (b : List Byte) (h : s.emitted = []) : (s.emit (.card b)).emitted = [.card b] := by
  unfold State.emit
  simp [State.silences, h]

/-- Settles O30, by the way each frame takes through its port's checks. -/
theorem dumusFramesTaken : Obligations.DumusFramesTaken := by
  unfold Obligations.DumusFramesTaken
  refine ⟨?_, ?_, ?_, ?_, ?_, ?_, ?_, ?_, ?_, ?_⟩
  case refine_1 =>
    intro s dst src frame hr hport hdst hop hgood hnode hmode hroom
    refine act_does (f := fun s' => fieldFrame s' .dumusA dst (s.field 0x1001 0 15 0) src false true frame) rfl ?_
    have hframe := (fieldFrame_running (s := s.fresh) (p := .dumusA) (dst := dst) (src := src) (fcsOk := true) (frame := frame) hr).trans
      (dumusFrame_good (s := s.fresh) hport hdst hop hgood hnode)
    have hbuffered := hframe.trans ((if_neg hmode).trans ((if_neg (Nat.not_lt.2 hroom)).trans (if_pos rfl)))
    exact congrArg (fun t : State => t.req.bufA) hbuffered
  case refine_2 =>
    intro s src frame hr hport hmode hlen hgood hop hnode
    refine act_does (f := fun s' => fieldFrame s' .dumusB (dumusMac .dumusB) (s.field 0x1001 0 15 0) src false true frame) rfl ?_
    have hframe := (fieldFrame_running (s := s.fresh) (p := .dumusB) (dst := dumusMac .dumusB) (src := src) (fcsOk := true) (frame := frame) hr).trans
      (dumusFrame_good (s := s.fresh) hport (.inr rfl) (by rw [hop]; decide) hgood hnode)
    rw [if_pos (show s.fresh.mode = .standby from hmode), List.take_of_length_le (Nat.le_of_eq hlen)] at hframe
    obtain ⟨h, hheard, hrq, hat⟩ := hear_keeps_request (s := s.fresh) (p := .dumusB) (src := src) hop
    exact ⟨h, (congrArg (fun t : State => t.pair.heard) hframe).trans hheard, hrq, hat⟩
  case refine_3 =>
    intro s src frame hr hport
    refine act_does (f := fun s' => fieldFrame s' .dumusA (s.elem 0x1001 1) (s.field 0x1001 0 15 0) src false false frame) rfl ?_
    have hframe := (fieldFrame_running (s := s.fresh) (p := .dumusA) (dst := s.elem 0x1001 1) (src := src) (fcsOk := false) (frame := frame) hr).trans
      (dumusFrame_badFcs (s := s.fresh) hport (.inl rfl))
    constructor
    · exact (congrArg (fun t : State => t.elem 0x1001 0x112) hframe).trans (countPort_field (p := .dumusA) (n := 2) (by decide))
    · exact (congrArg State.req hframe).trans (countPort_req _ _ _)
  case refine_4 =>
    intro s frame hr hlo hhi hroom hgood hnode
    refine actRunning_does (f := fun s => cardSend s frame.length frame (crc32c (toBytes 2 frame.length ++ frame))) rfl hr ?_
    exact congrArg (fun t : State => t.req.bufCard) (cardSend_good (s := s.fresh) hlo hhi hroom hgood hnode)
  case refine_5 =>
    intro s n frame crc hr hlen hlo hhi hcrc
    refine actRunning_does (f := fun s => cardSend s n frame crc) rfl hr ?_
    have hsend := cardSend_badCrc (s := s.fresh) hlen hlo hhi hcrc
    constructor
    · exact (congrArg (fun t : State => t.elem 0x1001 0x102) hsend).trans (countPort_field (p := .card) (n := 2) (by decide))
    · exact (congrArg State.req hsend).trans (countPort_req _ _ _)
  case refine_6 =>
    intro s hr
    refine actRunning_does (f := cardReceive) rfl hr ⟨?_, ?_⟩
    · exact congrArg ReqSt.outQueue ((emit_keeps (F := ⟨[.emitted], [], false⟩) _ _ (by rfl)).same .req (by rfl))
    · exact emit_fresh_card _ _ rfl
  case refine_7 =>
    intro s hr
    refine actRunning_does (f := fun s => s.emit (.card (toBytes 4 s.cardWord))) rfl hr ⟨?_, ?_⟩
    · exact emit_fresh_card _ _ rfl
    · exact (emit_keeps (F := ⟨[.emitted], [], false⟩) s.fresh _ (by rfl)).same .req (by rfl)
  case refine_8 =>
    intro s code hr hcode
    refine actRunning_does (f := fun s => if [0x5A, 0xA5, 0x3C, 0xC3, 0x96].contains code then s else countPort s .card 3) rfl hr ?_
    have hcount : (if [0x5A, 0xA5, 0x3C, 0xC3, 0x96].contains code then s.fresh else countPort s.fresh .card 3) = countPort s.fresh .card 3 :=
      if_neg (by simpa using hcode)
    dsimp only
    rw [hcount]
    exact ⟨countPort_field (p := .card) (n := 3) (by decide), rfl, rfl⟩
  case refine_9 =>
    intro s p frame hp hmode hver hop hnode hlen hcode hpayload hlong
    have hwake : ∀ q, wakeFrame s.fresh q frame =
        { s.fresh with boot := { s.fresh.boot with mainPwrEn := true, inReset := true } } := fun q =>
      (if_pos hmode).trans (if_pos ⟨hver, hop, hnode, hlen, hcode, hpayload, hlong⟩)
    rcases hp with rfl | rfl
    · refine act_does (f := fun s => wakeFrame s .dumusA frame) rfl ?_
      rw [hwake]
      exact ⟨rfl, rfl⟩
    · refine act_does (f := fun s => wakeFrame s .dumusB frame) rfl ?_
      rw [hwake]
      exact ⟨rfl, rfl⟩
  case refine_10 =>
    intro s frame hr
    refine act_does (f := fun s => wakeFrame s .dumusA frame) rfl ?_
    have hwake : wakeFrame s.fresh .dumusA frame = countPort s.fresh .dumusA 0xC :=
      (if_neg (mode_of_running hr)).trans (whenRunning_of_running (s := s.fresh) hr _)
    rw [hwake]
    exact countPort_field (p := .dumusA) (n := 0xC) (by decide)

end Sys2Proof.Machine
end

section
/-! PROOFS. NOTIFYs, retries, abandoned transfers, keys and log releases (R427, R447-R480). -/

namespace Sys2Proof.Machine

theorem pendingDone_ends {s : State} {rq : Rq} {i j : Nat} (htakes : s.takesUp rq = true)
    (htag : s.tagFails rq opPendingDone i j [] = false) (hport : admitted rq.port rq.origin = true) :
    ∀ n ∈ (pendingDone s rq i j).req.notifies, ¬ (n.rq.origin = rq.origin ∧ n.rq.session = rq.session ∧ n.rq.seq = rq.seq) := by
  have hunbuffer : Keeps ⟨[.req], [], false⟩ s (unbuffer s rq opPendingDone i j []) := unbuffer_keeps _ _ _ _ _ _ (by rfl)
  have htag' : (unbuffer s rq opPendingDone i j []).tagFails rq opPendingDone i j [] = false := by
    rw [hunbuffer.eq_graft]
    exact htag
  unfold pendingDone
  rw [if_neg (by simp [htakes])]
  dsimp only
  rw [if_neg (by simp [htag']), if_neg (by simp [hport])]
  intro n hn
  have hkept := (List.mem_filter.1 hn).2
  rintro ⟨horigin, hsession, hseq⟩
  simp [horigin, hsession, hseq] at hkept

theorem resendNotify_one {s : State} {n : Notify} (hn : s.req.notifies = [n]) (hdue : n.last + 1000000 ≤ s.up) :
    (resendNotify s n.rq.origin n.rq.session n.rq.seq).req.notifies =
      if 8 ≤ n.sends then [] else [{ n with sends := n.sends + 1, last := s.up }] := by
  have hfound : s.req.notifies.find? (fun x => (x.rq.origin == n.rq.origin && x.rq.session == n.rq.session && x.rq.seq == n.rq.seq) &&
      decide (x.last + 1000000 ≤ s.up)) = some n := by simp [hn, hdue]
  have hothers : s.req.notifies.erase n = [] := by simp [hn]
  unfold resendNotify
  dsimp only
  rw [hfound]
  dsimp only
  rw [hothers]
  split
  · rw [countPort_req]
  · have hsent : Keeps ⟨answerFields, [0x1001], false⟩ s
        (countPort (sendFrame s n.rq (answerFrame s 7 n.status n.rq n.index n.sub n.data)) n.rq.port 8) :=
      (sendFrame_keeps _ _ _ (by rfl)).trans (countPort_keeps _ _ _ (by decide) (by rfl))
    have hup : (countPort (sendFrame s n.rq (answerFrame s 7 n.status n.rq n.index n.sub n.data)) n.rq.port 8).up = s.up :=
      congrArg₂ (· - ·) (hsent.same .now (by rfl)) (hsent.same .stepped (by rfl))
    show [] ++ [{ n with sends := n.sends + 1, last := _ }] = _
    rw [hup]
    rfl

/-- A reply that collides is tried again, up to the sixteenth attempt (R454). -/
theorem retryReply_collides {s : State} {d : Deferred} (hd : s.req.deferred = [d]) :
    (retryReply s d.port true).req.deferred = if 16 ≤ d.attempts + 1 then [] else [{ d with attempts := d.attempts + 1 }] := by
  unfold retryReply
  simp only [hd, List.find?_cons, beq_self_eq_true, List.filter_cons, bne_self_eq_false, Bool.false_eq_true, if_false, List.filter_nil,
    if_true, List.nil_append]
  split
  · rw [countPort_req]
  · rfl

/-- A deferred reply is sent. -/
theorem retryReply_sends {s : State} {d : Deferred} (hd : s.req.deferred = [d]) (hreplies : s.fieldReplies = true)
    (hruns : s.portRuns d.port = true) (he : s.emitted = []) :
    (retryReply s d.port false).req.deferred = [] ∧ (retryReply s d.port false).emitted = [.dumus d.port d.dst d.frame] := by
  have hloud : s.pair.ripIn = false := by
    unfold State.fieldReplies at hreplies
    simpa using (Bool.and_eq_true _ _ ▸ hreplies : (!s.pair.ripIn) = true ∧ _).1
  have hsends : retryReply s d.port false =
      ({ s with req := { s.req with deferred := [] } } : State).emit (.dumus d.port d.dst d.frame) := by
    unfold retryReply
    simp only [hd, List.find?_cons, beq_self_eq_true, List.filter_cons, bne_self_eq_false, Bool.false_eq_true, if_false, List.filter_nil]
    refine if_pos ?_
    exact (Bool.and_eq_true _ _).mpr ⟨hreplies, hruns⟩
  rw [hsends]
  unfold State.emit
  simp [State.silences, hloud, he]

theorem sendFrame_transfers (s : State) (rq : Rq) (frame : List Byte) : (sendFrame s rq frame).req.transfers = s.req.transfers := by
  have hemit : ∀ e : Emission, (s.emit e).req.transfers = s.req.transfers := fun e =>
    congrArg ReqSt.transfers ((emit_keeps (F := ⟨[.emitted], [], false⟩) s e (by rfl)).same .req (by rfl))
  unfold sendFrame
  split
  · split
    · rfl
    · exact congrArg ReqSt.transfers (countPort_req _ _ _)
  · split
    · exact hemit _
    · rfl
  · split
    · exact hemit _
    · rfl
  · exact hemit _
  · exact hemit _
  · rfl

theorem notify_transfers (s : State) (rq : Rq) (i j st : Nat) (d : List Byte) : (notify s rq i j st d).req.transfers = s.req.transfers := by
  unfold notify
  split
  · rfl
  · exact sendFrame_transfers _ _ _

theorem idleTransfer_one {s : State} {tr : Transfer} (htr : s.req.transfers = [tr]) (hdue : tr.last + 1000000000 ≤ s.up)
    (hidx : tr.index ≠ 0x7210) : (idleTransfer s tr.index tr.sub).req.transfers = [] := by
  have hidle : idleTransfer s tr.index tr.sub = abandonTransfer s tr.index tr.sub stType := by
    unfold idleTransfer
    simp [htr, hdue, hidx]
  have hends : abandonTransfer s tr.index tr.sub stType =
      notify { s with req := { s.req with transfers := [] } } tr.rq tr.index tr.sub stType [] := by
    unfold abandonTransfer
    simp [htr]
  rw [hidle, hends]
  exact notify_transfers _ _ _ _ _ _

/-- A request heard and not carried by the stream within 20 µs of its arrival (R427). -/
theorem missingRequest_one {s : State} {h : Heard} (hmode : s.mode = .standby) (hh : s.pair.heard = [h]) (hdue : h.at_ + 20000 ≤ s.up) :
    (missingRequest s h.rq.origin h.rq.session h.rq.seq).pair.heard = [] ∧
    (missingRequest s h.rq.origin h.rq.session h.rq.seq).elem 0x9010 6 =
      if s.pair.streamed.contains (h.rq.origin, h.rq.session, h.rq.seq) then s.elem 0x9010 6 else wrapAdd 32 (s.elem 0x9010 6) 1 := by
  have hgone : missingRequest s h.rq.origin h.rq.session h.rq.seq =
      if s.pair.streamed.contains (h.rq.origin, h.rq.session, h.rq.seq) then { s with pair := { s.pair with heard := [] } }
      else ({ s with pair := { s.pair with heard := [] } } : State).count 0x9010 6 := by
    unfold missingRequest
    simp [hh, hmode, hdue]
  rw [hgone]
  split
  · exact ⟨rfl, rfl⟩
  · exact ⟨rfl, (State.put_elem ..).trans (if_pos rfl)⟩

theorem judged_keeps {F : Foot} (s : State) (rq : Rq) (op i j : Nat) (b : List Byte) (hF : F.holds [.dict, .req] [0x1001] = true) :
    Keeps F s (judged s rq op i j b) :=
  .mono hF ((unbuffer_keeps _ _ _ _ _ _ (by rfl)).trans (countPort_keeps _ _ _ (by decide) (by rfl)))

/-- An accepted request, from the log entry that stands before its commit (R476). -/
theorem request_logs {s : State} {rq : Rq} {op i j : Nat} {b : List Byte} {h : Handler} (ha : isAccepted s rq op i j b h) :
    ∃ e, Keeps ⟨replyFields, [0x1001], false⟩ (h.commit (appendLog (judged s rq op i j b) e)) (request s rq op i j b h) := by
  rw [request_accepted ha]
  exact ⟨_, afterCommit_keeps _ _ _ _ _ _ _ _ _ (by rfl)⟩

theorem appendLog_entries {s : State} {e : LogEntry} (hroom : s.logFull = false) :
    (appendLog s e).log.entries = s.log.entries ++ [{ e with entry := s.log.next }] := by
  unfold appendLog
  simp [hroom]

/-- An entry appended leaves the age of the others as it was. -/
theorem appendLog_logAge {s : State} {e : LogEntry} (hroom : s.logFull = false) (hsome : s.log.entries ≠ []) (n : Nat) :
    (appendLog s e).logAge n = s.logAge n := by
  have holdest : (appendLog s e).logOldest = s.logOldest := by
    obtain ⟨first, rest, hlist⟩ := List.exists_cons_of_ne_nil hsome
    unfold State.logOldest
    rw [appendLog_entries hroom, hlist]
    rfl
  unfold State.logAge
  rw [holdest]

theorem keyWrite_stores {s : State} {rq : Rq} {sub : Nat} {payload : List Byte}
    (ha : isAccepted s.fresh rq opWrite 0x1020 sub payload (keyHandler rq sub payload)) :
    does (.keyWrite rq sub payload) s fun t => mapGet natD t.keys.session sub = ofBytes payload := by
  obtain ⟨u, -, after⟩ := request_accepts ha
  refine act_does (f := fun u => request u rq opWrite 0x1020 sub payload (keyHandler rq sub payload)) rfl ?_
  refine (congrArg (fun k : KeySt => mapGet natD k.session sub) (after.same .keys (by rfl))).trans ?_
  exact (mapGet_mapSet ..).trans (if_pos rfl)

theorem logRelease_releases {s : State} {rq : Rq} {v : Word} (hfits : rq.fits v = true) (hroom : s.logFull = false)
    (ha : isAccepted s.fresh rq opWrite 0x1200 3 (valueBytes rq v) (releaseHandler s.fresh (valueBytes rq v))) :
    does (.logRelease rq v) s fun t => ∀ e ∈ s.log.entries, s.logAge e.entry ≤ s.logAge v → e ∉ t.log.entries := by
  obtain ⟨entry, after⟩ := request_logs ha
  generalize hu : judged s.fresh rq opWrite 0x1200 3 (valueBytes rq v) = u at after
  have hlog : u.log = s.log :=
    hu ▸ (judged_keeps (F := ⟨[.dict, .req], [0x1001], false⟩) s.fresh rq opWrite 0x1200 3 (valueBytes rq v) (by rfl)).same .log (by rfl)
  have hage : ∀ n, u.logAge n = s.logAge n := fun n => by unfold State.logAge State.logOldest; rw [hlog]
  have huroom : u.logFull = false := by unfold State.logFull; rw [hlog]; exact hroom
  refine act_does (f := fun u => request u rq opWrite 0x1200 3 (valueBytes rq v) (releaseHandler u (valueBytes rq v))) rfl ?_
  intro e hin hold hkept
  have hsome : u.log.entries ≠ [] := fun hnil => by rw [hlog] at hnil; simp [hnil] at hin
  have hstays := (congrArg LogSt.entries (after.same .log (by rfl))) ▸ hkept
  have hyoung : (appendLog u entry).logAge (ofBytes (valueBytes rq v)) < (appendLog u entry).logAge e.entry := by
    simpa using (List.mem_filter.1 hstays).2
  rw [appendLog_logAge huroom hsome, appendLog_logAge huroom hsome, hage, hage, valueBytes_value hfits] at hyoung
  omega

/-- Settles O32, by the list that each command works on. -/
theorem notifiesAndControls : Obligations.NotifiesAndControls := by
  unfold Obligations.NotifiesAndControls
  refine ⟨?_, ?_, ?_, ?_, ?_, ?_, ?_, ?_, ?_⟩
  case refine_1 =>
    intro s rq i j htakes htag hport
    exact act_does (f := fun s => pendingDone s rq i j) rfl (pendingDone_ends (s := s.fresh) htakes htag hport)
  case refine_2 =>
    intro s n hr hn hdue
    exact actRunning_does (f := fun s => resendNotify s n.rq.origin n.rq.session n.rq.seq) rfl hr (resendNotify_one (s := s.fresh) hn hdue)
  case refine_3 =>
    intro s d hr hd
    exact actRunning_does (f := fun s => retryReply s d.port true) rfl hr (retryReply_collides (s := s.fresh) hd)
  case refine_4 =>
    intro s d hr hd hreplies hport
    exact actRunning_does (f := fun s => retryReply s d.port false) rfl hr (retryReply_sends (s := s.fresh) hd hreplies hport rfl)
  case refine_5 =>
    intro s tr hr htr hdue hidx
    exact actRunning_does (f := fun s => idleTransfer s tr.index tr.sub) rfl hr (idleTransfer_one (s := s.fresh) htr hdue hidx)
  case refine_6 =>
    intro s h hr hmode hh hdue
    exact actRunning_does (f := fun s => missingRequest s h.rq.origin h.rq.session h.rq.seq) rfl hr
      (missingRequest_one (s := s.fresh) hmode hh hdue)
  case refine_7 => exact fun s rq sub payload ha => keyWrite_stores ha
  case refine_8 => exact fun s rq v hfits hroom ha => logRelease_releases hfits hroom ha
  case refine_9 =>
    intro s master target hm hr hdenied
    refine onUnit_does (f := fun s => if crossbarGrants target master then s else declareFault s 0x00D (master * 256 + target % 256))
      rfl hm hr ?_
    dsimp only
    rw [if_neg (by simp [hdenied])]
    exact (declareFault_declares s.fresh 0x00D _ false false 0).count

end Sys2Proof.Machine
end

section
/-! PROOFS. Mode requests, the way into DORMANT, and FAULTED (R512, R514, R515, R518, R519). -/

namespace Sys2Proof.Machine

variable {F : Foot}

/-- An accepted request has passed the mode check of its element. -/
theorem modeCheck_of_isAccepted {s : State} {rq : Rq} {op i k : Nat} {b : List Byte} {h : Handler}
    (ha : isAccepted s rq op i k b h) : h.checks.mode = false := by
  obtain ⟨-, -, hstatus⟩ := ha
  have passed := (firstFailure_ok_iff (by simp [checkList])).1 hstatus
    ((judged s rq op i k b).modeRefuses rq op i k || h.checks.mode, stMode) (by simp [checkList])
  exact (Bool.or_eq_false_iff.1 passed).2

/-- An accepted mode request comes in SERVICE or SOLO. -/
theorem modeHandler_mode {s : State} {rq : Rq} {v : Word}
    (ha : isAccepted s rq opWrite 0x0011 0 (valueBytes rq v) (modeHandler s (valueBytes rq v))) :
    s.mode = .service ∨ s.mode = .solo := by
  have hcheck : (!(s.mode == .service || s.mode == .solo)) = false :=
    (Bool.or_eq_false_iff.1 (modeCheck_of_isAccepted ha)).1
  simpa [imp_iff_not_or, or_comm] using hcheck

theorem pairChange_keeps (s : State) (f : PairSt → PairSt) (hF : F.holds [.pair, .log] = true) : Keeps F s (pairChange s f) := by
  refine .mono hF ?_
  unfold pairChange
  exact .ite (.trans (.set [.pair] rfl (by rfl)) (logEvent_keeps _ _ _ _ _ _ _ _ (by rfl))) (.set [.pair] rfl (by rfl))

theorem releaseClaim_keeps (s : State) (hF : F.holds [.pair, .log] = true) : Keeps F s (releaseClaim s) :=
  .ite (pairChange_keeps _ _ hF) (.refl s)

theorem turnRest_keeps (s : State) (hF : F.holds [.boot] = true) : Keeps F s (turnRest s) := .set [.boot] rfl hF

/-- The commit of a request for SERVICE (R514). -/
theorem serviceCommit_mode {s u : State} {b : List Byte} (hb : ofBytes b = 2) (hu : u.mode = .service ∨ u.mode = .solo) :
    ((modeHandler s b).commit u).mode = .service := by
  have hcommit : (modeHandler s b).commit u = if u.mode = .solo then turnRest (setMode (releaseClaim u) .service) else u := by
    unfold modeHandler
    simp only [hb]
  rw [hcommit]
  split
  · exact setMode_mode _ _
  · exact hu.resolve_right ‹_›

/-- The commit of a request for SOLO (R515). -/
theorem soloCommit_mode {s u : State} {b : List Byte} (hb : ofBytes b = 3) (hu : u.mode = .service ∨ u.mode = .solo) :
    ((modeHandler s b).commit u).mode = .solo := by
  have hcommit : (modeHandler s b).commit u = if u.mode = .service then turnRest (setMode u .solo) else u := by
    unfold modeHandler
    simp only [hb]
  rw [hcommit]
  split
  · exact setMode_mode _ _
  · exact hu.resolve_left ‹_›

/-- The commit of a request for DORMANT (R519). -/
theorem dormantCommit_starts {s u : State} {b : List Byte} (hb : ofBytes b = 0) (hu : u.boot.dormantAt = none) :
    ((modeHandler s b).commit u).boot.dormantAt = some u.up ∧ ((modeHandler s b).commit u).mode = u.mode := by
  have hcommit : (modeHandler s b).commit u =
      { releaseClaim (if u.mode = .solo then turnRest u else u) with
        boot := { (releaseClaim (if u.mode = .solo then turnRest u else u)).boot with
          dormantAt := some (releaseClaim (if u.mode = .solo then turnRest u else u)).up } } := by
    unfold modeHandler
    simp [hb, hu]
  have hreleased : Keeps ⟨[.boot, .pair, .log], [], false⟩ u (releaseClaim (if u.mode = .solo then turnRest u else u)) :=
    (Keeps.ite (turnRest_keeps _ (by rfl)) (.refl u)).trans (releaseClaim_keeps _ (by rfl))
  rw [hcommit]
  exact ⟨congrArg some (congrArg₂ (· - ·) (hreleased.same .now (by rfl)) (hreleased.same .stepped (by rfl))), hreleased.same .mode (by rfl)⟩

theorem dormantFor_of_due {s : State} {a d : Rat} (ha : s.boot.dormantAt = some a) (hdue : a + d ≤ s.up) : s.dormantFor d = true := by
  unfold State.dormantFor
  rw [ha]
  exact decide_eq_true hdue

/-! The entry to FAULTED (R416, R518). -/

theorem disarm_claimOut (s : State) (scope : Nat) : (disarm s scope).pair.claimOut = s.pair.claimOut :=
  congrArg PairSt.claimOut ((disarm_keeps (F := ⟨[.banks], [], false⟩) s scope (by rfl)).same .pair (by rfl))

theorem discardEvent_claimOut (s : State) (e : Event) (st : Nat) : (discardEvent s e st).pair.claimOut = s.pair.claimOut := by
  have hnotify : ∀ (a : State) (rq : Rq) (i j : Nat), (notify a rq i j st []).pair.claimOut = a.pair.claimOut := fun a rq i j =>
    congrArg PairSt.claimOut ((notify_keeps (F := ⟨answerFields, [0x1001], false⟩) a rq i j st [] (by rfl)).same .pair (by rfl))
  have hlog : ∀ (a : State) (i j : Nat) (v : Word), (logEvent a i j v 0 e.plane false st).pair.claimOut = a.pair.claimOut :=
    fun a i j v => congrArg PairSt.claimOut ((logEvent_keeps (F := ⟨[.log], [], false⟩) a i j v 0 e.plane false st (by rfl)).same .pair (by rfl))
  unfold discardEvent
  extract_lets gone disarmed pair drilled
  have hdrilled : drilled.pair.claimOut = s.pair.claimOut := by
    have hdisarmed : disarmed.pair.claimOut = s.pair.claimOut := by
      show (if e.kind = 1 then disarm gone e.scope else gone).pair.claimOut = _
      split
      · exact disarm_claimOut _ _
      · rfl
    show (if e.kind = 4 then { disarmed with pair := { disarmed.pair with drillResult := 3 } } else disarmed).pair.claimOut = _
    split <;> exact hdisarmed
  split
  split
  · split
    · exact (hnotify _ _ _ _).trans ((hlog _ _ _ _).trans hdrilled)
    · exact (hlog _ _ _ _).trans hdrilled
  · exact (hlog _ _ _ _).trans hdrilled

theorem discardEvents_claimOut (s : State) (p : Event → Bool) (st : Nat) : (discardEvents s p st).pair.claimOut = s.pair.claimOut :=
  foldl_keeps (fun u : State => u.pair.claimOut) (fun u e => discardEvent_claimOut u e st) _ s

/-- A move cancelled is no longer listed (R266). -/
theorem cancelMove_moves (s : State) (m : Move) :
    (cancelMove s m).moves = s.moves.filter fun x => !(x.index == m.index && x.sub == m.sub) := by
  unfold cancelMove
  extract_lets gone dropped
  have hdropped : dropped.moves = gone.moves := by
    show (if 0x4000 ≤ m.index ∧ m.index ≤ 0x4200 ∧ m.sub < 0x800 then dropNewSide gone m.sub else gone).moves = _
    split <;> rfl
  exact ((logEvent_keeps (F := ⟨[.log], [], false⟩) dropped _ _ _ _ _ _ _ (by rfl)).same .moves (by rfl)).trans hdropped

theorem foldl_cancelMove_moves (l : List Move) (s : State) :
    ∀ m ∈ (l.foldl cancelMove s).moves, m ∈ s.moves ∧ m ∉ l := by
  induction l generalizing s with
  | nil => exact fun m hm => ⟨hm, List.not_mem_nil⟩
  | cons a l ih =>
    intro m hm
    obtain ⟨hin, hnot⟩ := ih (cancelMove s a) m hm
    rw [cancelMove_moves] at hin
    obtain ⟨hs, hkept⟩ := List.mem_filter.1 hin
    refine ⟨hs, fun hmem => (List.mem_cons.1 hmem).elim (fun he => ?_) hnot⟩
    simp [he] at hkept

theorem cancelMoves_moves (s : State) : (cancelMoves s).moves = [] :=
  List.eq_nil_iff_forall_not_mem.2 fun m hm =>
    have h := foldl_cancelMove_moves s.moves s m hm
    h.2 h.1

/-- An entry to FAULTED lowers CLAIM_OUT and cancels the moves (R416, R518). -/
theorem enterFaulted_enters {s : State} (hmode : s.mode ≠ .faulted) (n : Nat) (d : Word) :
    (enterFaulted s n d).pair.claimOut = false ∧ (enterFaulted s n d).moves = [] := by
  unfold enterFaulted
  extract_lets what faults stopped dropped discarded cancelled abandoned failed
  rw [if_neg (show ¬ stopped.mode = .faulted from hmode)]
  have hrest : Keeps ⟨[.boot, .windows, .spools, .dict, .req, .emitted], [0x1001], false⟩ cancelled
      (failSpools (endStaging failed 7 (some stFaulted))) :=
    (abandonTransfers_keeps _ _ (by rfl)).trans <| (Keeps.foldl (fun _ _ => failWindow_keeps _ _ _ (by rfl)) _ _).trans <|
      (endStaging_keeps _ _ _ (by rfl)).trans (failSpools_keeps _ (by rfl))
  have hcancelled : Keeps ⟨[.moves, .dict, .ins, .cells, .log], [], false⟩ discarded cancelled := cancelMoves_keeps _ (by rfl)
  constructor
  · calc _ = cancelled.pair.claimOut := congrArg PairSt.claimOut (hrest.same .pair (by rfl))
      _ = discarded.pair.claimOut := congrArg PairSt.claimOut (hcancelled.same .pair (by rfl))
      _ = dropped.pair.claimOut := discardEvents_claimOut _ _ _
      _ = false := rfl
  · exact (hrest.same .moves (by rfl)).trans (cancelMoves_moves _)

/-- A FATAL declaration takes the device to FAULTED (R518). -/
theorem declareFault_enters {s : State} {n : Nat} (hclass : s.sourceClass n = 2) (hmode : s.mode ≠ .faulted) (d : Word)
    (l f : Bool) (p : Nat) : (declareFault s n d l f p).pair.claimOut = false ∧ (declareFault s n d l f p).moves = [] := by
  have hnoted : (noteFault s n d l f p).mode = s.mode :=
    (noteFault_keeps (F := ⟨noteFields, [], false⟩) s n d l f p (by rfl)).same .mode (by rfl)
  have henters : declareFault s n d l f p = enterFaulted (noteFault s n d l f p) n d := if_pos hclass
  rw [henters]
  exact enterFaulted_enters (hnoted ▸ hmode) n d

/-- Settles O34, each mode request at its commit. -/
theorem modesChange : Obligations.ModesChange := by
  unfold Obligations.ModesChange
  refine ⟨?_, ?_, ?_, ?_, ?_, ?_⟩
  case refine_1 =>
    intro s rq hfits ha
    obtain ⟨u, before, after⟩ := request_accepts ha
    refine act_does (f := fun s => request s rq opWrite 0x0011 0 (valueBytes rq 2) (modeHandler s (valueBytes rq 2))) rfl ?_
    exact (after.same .mode (by rfl)).trans <| serviceCommit_mode (valueBytes_value hfits) <|
      (before.same .mode (by rfl) : u.mode = _) ▸ modeHandler_mode ha
  case refine_2 =>
    intro s rq hfits ha
    obtain ⟨u, before, after⟩ := request_accepts ha
    refine act_does (f := fun s => request s rq opWrite 0x0011 0 (valueBytes rq 3) (modeHandler s (valueBytes rq 3))) rfl ?_
    exact (after.same .mode (by rfl)).trans <| soloCommit_mode (valueBytes_value hfits) <|
      (before.same .mode (by rfl) : u.mode = _) ▸ modeHandler_mode ha
  case refine_3 =>
    intro s rq hfits hd ha
    obtain ⟨u, before, after⟩ := request_accepts ha
    have hboot : u.boot = s.boot := before.same .boot (by rfl)
    obtain ⟨hstarts, hmode⟩ := dormantCommit_starts (s := s.fresh) (u := u) (valueBytes_value hfits) (hboot ▸ hd)
    refine act_does (f := fun s => request s rq opWrite 0x0011 0 (valueBytes rq 0) (modeHandler s (valueBytes rq 0))) rfl ⟨?_, ?_⟩
    · refine (congrArg BootSt.dormantAt (after.same .boot (by rfl))).trans (hstarts.trans (congrArg some ?_))
      exact congrArg₂ (· - ·) (before.same .now (by rfl)) (before.same .stepped (by rfl))
    · exact (after.same .mode (by rfl)).trans (hmode.trans (before.same .mode (by rfl)))
  case refine_4 =>
    intro s a hr ha hdue
    have hfor : s.fresh.dormantFor 10000000 = true := dormantFor_of_due (s := s.fresh) ha hdue
    refine actRunning_does (f := fun s => if s.dormantFor 10000000 then { s with wake :=
      { node := s.elem 0x1000 0, group := s.elem 0x1001 1, etherType := s.field 0x1001 0 15 0, code := s.keys.wakeCode } } else s) rfl hr ?_
    dsimp only
    rw [if_pos hfor]
    rfl
  case refine_5 =>
    intro s a hr ha hdue
    have hfor : s.fresh.dormantFor 20000000 = true := dormantFor_of_due (s := s.fresh) ha hdue
    have hmode : Keeps ⟨[.mode, .log], [], false⟩ s.fresh (setMode s.fresh .dormant) := setMode_keeps _ _ (by rfl)
    refine actRunning_does (f := fun s => if s.dormantFor 20000000 then
      { setMode s .dormant with boot := { (setMode s .dormant).boot with mainPwrEn := false, dormantAt := none } } else s) rfl hr ?_
    dsimp only
    rw [if_pos hfor]
    exact ⟨setMode_mode _ _, rfl, rfl, hmode.same .dict (by rfl)⟩
  case refine_6 =>
    intro s n d hn hn0 hr hclass
    refine onUnit_does (f := fun s => if s.sourceClass n = 2 ∧ n ≠ 0 then declareFault s n d else s) rfl hn hr ?_
    dsimp only
    rw [if_pos ⟨hclass, hn0⟩]
    have hdeclares := declareFault_declares s.fresh n d false false 0
    exact ⟨hdeclares.faulted hclass, hdeclares.count, fun hm => declareFault_enters (s := s.fresh) hclass hm d false false 0⟩

end Sys2Proof.Machine
end

section
/-! PROOFS. RELOCK returns an OPENED device to FIELD-LOCKED (R571). -/

namespace Sys2Proof.Machine

/-- The state that a data register acts on: the instruction loaded. -/
def loaded (s : State) (code : Nat) : State := { s.fresh with dbg := { s.dbg with ir := code } }

/-- An instruction that is allowed is loaded, and its data register acts (R566). -/
theorem instruct_does {c : Instr} {s : State} {code : Nat} {f : State → State} {P : State → Prop} (h : exec c s = instruct s code f)
    (hallowed : s.irAllowed code = true)
    (hp : P { f (loaded s code) with pending := s.pending }) : does c s P := by
  refine act_does (f := fun s => if s.irAllowed code = true then f { s with dbg := { s.dbg with ir := code } }
    else { s with dbg := { s.dbg with ir := 0xFF } }) h ?_
  dsimp only
  rw [if_pos (show s.fresh.irAllowed code = true from hallowed)]
  exact hp

theorem logEvent_logs {s : State} (hroom : s.logFull = false) (i j : Nat) (o n : Word) (p : Nat) (b : Bool) (st : Nat) :
    ∃ e ∈ (logEvent s i j o n p b st).log.entries, e.index = i ∧ e.sub = j ∧ e.kind = 2 ∧ e.old = o ∧ e.new = n := by
  unfold logEvent
  rw [if_neg (by simp [hroom]), appendLog_entries hroom]
  exact ⟨_, List.mem_append_right _ (List.mem_singleton_self _), rfl, rfl, rfl, rfl, rfl⟩

theorem logEvent_lifecycle (s : State) (i j : Nat) (o n : Word) (p : Nat) (b : Bool) (st : Nat) :
    (logEvent s i j o n p b st).lifecycle = s.lifecycle := by
  have hdbg : (logEvent s i j o n p b st).dbg = s.dbg :=
    (logEvent_keeps (F := ⟨[.log], [], false⟩) s i j o n p b st (by rfl)).same .dbg (by rfl)
  unfold State.lifecycle
  rw [hdbg]

/-- An OPENED device is no development device, and has used more openings than relocks (R569). -/
theorem opened_iff {s : State} : s.lifecycle = 2 ↔ s.dbg.development = false ∧ s.dbg.relocks < s.dbg.openings := by
  unfold State.lifecycle
  cases s.dbg.development <;> simp

theorem relocked_lifecycle {s : State} (hopened : s.lifecycle = 2) (hlast : s.dbg.openings = s.dbg.relocks + 1) {t : State}
    (hdbg : t.dbg.development = s.dbg.development ∧ t.dbg.openings = s.dbg.openings ∧ t.dbg.relocks = s.dbg.relocks + 1) :
    t.lifecycle = 1 := by
  obtain ⟨hdev, hopen, hrelocks⟩ := hdbg
  unfold State.lifecycle
  rw [hdev, hopen, hrelocks, (opened_iff.1 hopened).1]
  simp [hlast]

/-- A relock before its log entry (R571): the fuse blown and a new identity key made. -/
def relocked (s : State) : State :=
  ({ s with dbg := { s.dbg with relocks := s.dbg.relocks + 1 }
            keys := { s.keys with identity := some (BitVec.ofNat 256 (s.drawn 256)) } } : State).draw

theorem relock_relocks {v : Word} (hv : v % 256 = 0xA5) (s : State) :
    relock v s = logEvent (relocked s) 0xE000 0 (logValue 1 2) (logValue 1 1) := if_pos hv

/-- With no session key held, a request that needs a tag fails (R472). -/
theorem tagFails_keyless {s : State} {rq : Rq} {op : Nat} (hkeys : s.keys.session = []) (hport : rq.port ≠ .stream)
    (hneeds : s.needsTag op rq.origin = true) (i j : Nat) (b : List Byte) : s.tagFails rq op i j b = true := by
  have hkey : s.sessionKey rq.origin rq.key = 0 := by
    unfold State.sessionKey
    rw [hkeys]
    rfl
  unfold State.tagFails
  simp [hport, hneeds, hkey]

/-- Settles O42: RELOCK's act on the fuses and the identity key, and its log entry. -/
theorem relockCloses : Obligations.RelockCloses := by
  unfold Obligations.RelockCloses
  refine ⟨?_, ?_, ?_⟩
  case refine_1 =>
    intro s v hopened hlast hv
    have hallowed : s.irAllowed 0x23 = true := beq_iff_eq.2 hopened
    refine instruct_does (f := relock v) rfl hallowed ?_
    rw [relock_relocks hv]
    have hlog := fun u : State => logEvent_keeps (F := ⟨[.log], [], false⟩) u 0xE000 0 (logValue 1 2) (logValue 1 1) 0 false 0 (by rfl)
    have hclosed := (logEvent_lifecycle (relocked (loaded s 0x23)) 0xE000 0 (logValue 1 2) (logValue 1 1)
      0 false 0).trans (relocked_lifecycle hopened hlast ⟨rfl, rfl, rfl⟩)
    refine ⟨hclosed, ?_, ?_, ?_, fun hroom => logEvent_logs (s := relocked (loaded s 0x23)) hroom _ _ _ _ _ _ _⟩
    · exact bne_eq_false_iff_eq.2 hclosed
    · exact congrArg (·.relocks) ((hlog _).same .dbg (by rfl))
    · exact (hlog _).same .keys (by rfl)
  case refine_2 =>
    intro s v hopened hv
    refine instruct_does (f := relock v) rfl (beq_iff_eq.2 hopened) ?_
    have hidle : ∀ u, relock v u = u := fun u => if_neg hv
    rw [hidle]
    rfl
  case refine_3 =>
    intro s rq op i j b c hkeys hmode hport hneeds
    unfold requestStatus checkList
    simp [firstFailure, hmode, tagFails_keyless hkeys hport hneeds]

end Sys2Proof.Machine
end

section
/-! PROOFS. The debug port's instructions and opening (R566-R570). -/

namespace Sys2Proof.Machine

theorem emit_unsilenced {s : State} {e : Emission} (h : s.silences e = false) : (s.emit e).emitted = s.emitted ++ [e] := by
  unfold State.emit
  simp [h]

theorem instruct_refused {c : Instr} {s : State} {code : Nat} {f : State → State} {P : State → Prop} (h : exec c s = instruct s code f)
    (hdenied : s.irAllowed code = false) (hp : P { s with emitted := [], dbg := { s.dbg with ir := 0xFF } }) : does c s P := by
  refine act_does (f := fun s => if s.irAllowed code = true then f { s with dbg := { s.dbg with ir := code } }
    else { s with dbg := { s.dbg with ir := 0xFF } }) h ?_
  dsimp only
  rw [if_neg (by simp [show s.fresh.irAllowed code = false from hdenied])]
  exact hp

theorem challenge_challenges {s : State} (hopens : s.opens = true) (hleft : s.dbg.failures < 4) (he : s.emitted = []) :
    ∃ c, (challenge s).dbg.challenge = some c ∧ (challenge s).emitted = [.tdo c] ∧ c.length = 140 := by
  unfold challenge
  rw [if_pos ⟨hopens, hleft⟩]
  extract_lets head drawn r c after challenged
  have hemitted : after.emitted = [] := by
    simp only [after, r]
    split <;> exact he
  refine ⟨c, rfl, ?_, ?_⟩
  · exact (emit_unsilenced rfl).trans (congrArg (· ++ [Emission.tdo c]) hemitted)
  · simp [c, head, toBytes_length]

/-- A declaration touches neither the debug port nor the key store. -/
theorem declareFault_debug (s : State) (n : Nat) (d : Word) (l f : Bool) (p : Nat) :
    (declareFault s n d l f p).dbg = s.dbg ∧ (declareFault s n d l f p).keys = s.keys := by
  have h := (declareFault_faults (F := ⟨noteFields, [], false⟩) s n d l f p (by rfl)).orFaulted
  exact ⟨h.same .dbg (by rfl), h.same .keys (by rfl)⟩

/-- A response that opens debug (R570, steps 4-8). -/
theorem openDebug_opens (s : State) : (openDebug s none).dbg.openings = s.dbg.openings + 1 ∧ (openDebug s none).keys = {} ∧
    (openDebug s none).dbg.lastOpen = 1 := by
  unfold openDebug
  dsimp only
  have hlog := logEvent_keeps (F := ⟨[.log], [], false⟩) { s with keys := {} } 0xE000 0 (logValue 1 1) (logValue 1 2) 0 false 0 (by rfl)
  have hdbg : (logEvent { s with keys := {} } 0xE000 0 (logValue 1 1) (logValue 1 2)).dbg = s.dbg := hlog.same .dbg (by rfl)
  obtain ⟨hdebug, hkeys⟩ := declareFault_debug { logEvent { s with keys := {} } 0xE000 0 (logValue 1 1) (logValue 1 2) with
    dbg := { (logEvent { s with keys := {} } 0xE000 0 (logValue 1 1) (logValue 1 2)).dbg with lastOpen := 1 } } 0x160
    (logEvent { s with keys := {} } 0xE000 0 (logValue 1 1) (logValue 1 2)).dbg.openings false false 0
  refine ⟨?_, ?_, ?_⟩
  · show (declareFault _ 0x160 _).dbg.openings + 1 = _
    rw [hdebug]
    exact congrArg (·.openings + 1) hdbg
  · exact hkeys.trans (hlog.same .keys (by rfl))
  · exact congrArg (·.lastOpen) hdebug

theorem openingRefused_refuses (s : State) (status : Nat) : (openingRefused s status).dbg =
    { s.dbg with lastOpen := status, challenge := none, failures := s.dbg.failures + 1 } ∧ (openingRefused s status).keys = s.keys :=
  declareFault_debug _ _ _ _ _ _

theorem openResponse_judges {s : State} {sig c : List Byte} {failing : Option Nat} (hopens : s.opens = true) (hleft : s.dbg.openings < 32)
    (hc : s.dbg.challenge = some c) : openResponse sig failing s =
      if signatureOk Config.debugAuthorityKey c sig = true then openDebug s failing else openingRefused s 2 := by
  unfold openResponse
  rw [if_neg (by simp [hopens]), if_neg (by omega), hc]

theorem shiftOut_running (n : Nat) (v : Word) (s : State) : (shiftOut n v s).running = s.running := rfl

/-- A transaction on another target than the dictionary store, or one that its master may not have, leaves the store alone. -/
theorem debugAccess_write {s : State} (hr : s.running = true) (a : Nat) (d : Word) :
    debugAccess true 1 a d s = noteAccess (shiftOut 9 s.dbg.access s) true 0 a d := by
  unfold debugAccess debugTransaction
  rw [shiftOut_running, if_neg (by simp [hr]), if_neg (by decide), if_neg (by decide), if_pos rfl]

theorem debugAccess_denied {s : State} (hr : s.running = true) (w : Bool) (a : Nat) (d : Word) :
    debugAccess w 3 a d s = noteAccess (declareFault (shiftOut 9 s.dbg.access s) 0x00D (11 * 256 + 3)) true 1 a 0 := by
  unfold debugAccess debugTransaction
  rw [shiftOut_running, if_neg (by simp [hr]), if_pos (by decide)]

theorem debugAccess_read {s : State} (hr : s.running = true) {i j : Nat} (hi : i < 65536) (hj : j < 65536) {v : Word}
    (hv : (shiftOut 9 s.dbg.access s).debugRead i j = some v) (d : Word) :
    debugAccess false 0 (i * 65536 + j) d s = noteAccess (shiftOut 9 s.dbg.access s) true 0 (i * 65536 + j) v := by
  have hindex : (i * 65536 + j) / 65536 % 65536 = i := by omega
  have hsub : (i * 65536 + j) % 65536 = j := by omega
  unfold debugAccess debugTransaction
  rw [shiftOut_running, if_neg (by simp [hr]), if_neg (by decide), if_pos rfl, hindex, hsub]
  simp [hv]

theorem noteAccess_access (s : State) (status a d : Nat) :
    (noteAccess s true status a d).dbg.access = 2 ^ 71 + status * 2 ^ 64 + a % 2 ^ 32 * 2 ^ 32 + d % 2 ^ 32 := by
  have hdone : ofBool true * 2 ^ 71 = 2 ^ 71 := Nat.one_mul _
  have hnoted : (noteAccess s true status a d).dbg.access =
      ofBool true * 2 ^ 71 + status * 2 ^ 64 + a % 2 ^ 32 * 2 ^ 32 + d % 2 ^ 32 := rfl
  rw [hnoted, hdone]

theorem noteAccess_source (s : State) (done : Bool) (status a d n : Nat) : (noteAccess s done status a d).source n = s.source n := rfl

/-- An access that is not granted answers an error and raises the NOTE of R450. -/
theorem debugAccess_deniedNotes {s : State} (hr : s.running = true) (w : Bool) (a : Nat) (d : Word) :
    (debugAccess w 3 a d s).dbg.access = 2 ^ 71 + 2 ^ 64 + a % 2 ^ 32 * 2 ^ 32 ∧
    ((debugAccess w 3 a d s).source 0x00D).count = satAdd 24 (s.source 0x00D).count 1 := by
  have haccess := noteAccess_access (declareFault (shiftOut 9 s.dbg.access s) 0x00D (11 * 256 + 3)) 1 a 0
  have hsum : ∀ x y z w : Nat, x + 1 * y + z + 0 % w = x + y + z := fun x y z w => by simp
  rw [debugAccess_denied hr]
  exact ⟨haccess.trans (hsum _ _ _ _), (congrArg FaultSrc.count (noteAccess_source _ _ _ _ _ _)).trans
    (declareFault_declares (shiftOut 9 s.dbg.access s) 0x00D (11 * 256 + 3) false false 0).count⟩

/-- Settles O41, instruction by instruction. -/
theorem debugPortRuns : Obligations.DebugPortRuns := by
  unfold Obligations.DebugPortRuns
  refine ⟨?_, ?_, ?_, ?_, ?_, ?_, ?_, ?_, ?_, ?_, ?_, ?_, ?_, ?_, ?_⟩
  case refine_1 => exact fun s => act_does (f := fun s => { s with dbg := { s.dbg with ir := 0x02 } }) rfl rfl
  case refine_2 =>
    intro s
    cases hopen : s.debugOpen
    · exact instruct_refused (f := id) rfl hopen rfl
    · exact instruct_does (f := id) rfl hopen rfl
  case refine_3 =>
    exact fun s => instruct_does (f := fun s => { s with dbg := { s.dbg with scan := s.drawn Config.boundaryLength } }.draw) rfl rfl ⟨rfl, rfl⟩
  case refine_4 => exact fun s => instruct_does (f := shiftOut 4 idcodeWord) rfl rfl ⟨rfl, rfl⟩
  case refine_5 =>
    exact fun s code => act_does (f := fun s => { s with dbg := { s.dbg with ir := if s.irAllowed code then code else 0xFF } }) rfl ⟨rfl, rfl⟩
  case refine_6 =>
    intro s n hfrozen
    refine instruct_does (f := captureRead n) rfl (beq_iff_eq.2 hfrozen) ⟨rfl, _, rfl, ?_⟩
    simp
  case refine_7 => exact fun s n hfrozen => instruct_refused (f := captureRead n) rfl (beq_eq_false_iff_ne.2 hfrozen) rfl
  case refine_8 => exact fun s id hfrozen => instruct_does (f := captureSeek id) rfl (beq_iff_eq.2 hfrozen) rfl
  case refine_9 => exact fun s => instruct_does (f := fun s => shiftOut 16 s.lifecycleWord s) rfl rfl ⟨rfl, rfl⟩
  case refine_10 =>
    intro s hlife hopens hleft
    exact instruct_does (f := challenge) rfl (beq_iff_eq.2 hlife)
      (challenge_challenges (s := loaded s 0x21) hopens hleft rfl)
  case refine_11 =>
    intro s sig c hlife hopens hleft hc hsig
    refine instruct_does (f := openResponse sig none) rfl (beq_iff_eq.2 hlife) ?_
    rw [openResponse_judges (s := loaded s 0x22) hopens hleft hc, if_pos hsig]
    exact openDebug_opens _
  case refine_12 =>
    intro s sig c failing hlife hopens hleft hc hsig
    refine instruct_does (f := openResponse sig failing) rfl (beq_iff_eq.2 hlife) ?_
    rw [openResponse_judges (s := loaded s 0x22) hopens hleft hc, if_neg (by simp [hsig])]
    obtain ⟨hdbg, hkeys⟩ := openingRefused_refuses (loaded s 0x22) 2
    exact ⟨congrArg (·.challenge) hdbg, congrArg (·.failures) hdbg, congrArg (·.lastOpen) hdbg, congrArg (·.openings) hdbg, hkeys⟩
  case refine_13 =>
    intro s a d hopen hr
    refine instruct_does (f := debugAccess true 1 a d) rfl hopen ?_
    rw [debugAccess_write (s := loaded s 0x30) hr]
    exact ⟨(noteAccess_access _ 0 a d).trans (by simp), rfl⟩
  case refine_14 =>
    intro s w a d hopen hr
    refine instruct_does (f := debugAccess w 3 a d) rfl hopen ?_
    exact debugAccess_deniedNotes (s := loaded s 0x30) hr w a d
  case refine_15 =>
    intro s i j v d hi hj hopen hr hv
    refine instruct_does (f := debugAccess false 0 (i * 65536 + j) d) rfl hopen ?_
    rw [debugAccess_read (s := loaded s 0x30) hr hi hj hv]
    have haddress : (i * 65536 + j) % 2 ^ 32 = i * 65536 + j := Nat.mod_eq_of_lt (by omega)
    exact (noteAccess_access _ 0 _ v).trans (by rw [haddress, Nat.zero_mul, Nat.add_zero])

end Sys2Proof.Machine
end

section
/-! SUPPORT. What a declaration writes of the fault state (R556, R559, R563), and which sources it leaves as they were. -/

namespace Sys2Proof.Machine

variable {s t u : State}

/-- A record of declarations: sources, history, first fatal, the time of a FATAL and what it stopped; nothing of the scrubbers. -/
def declaresOnly (s t : State) : Prop :=
  t.faults = { s.faults with
    src := t.faults.src, history := t.faults.history, firstFatal := t.faults.firstFatal, fatalAt := t.faults.fatalAt
    stopped := t.faults.stopped }

theorem declaresOnly.refl (s : State) : declaresOnly s s := rfl

theorem declaresOnly.of_faults (h : t.faults = s.faults) : declaresOnly s t := by
  unfold declaresOnly
  rw [h]

theorem declaresOnly.trans (h : declaresOnly s t) (h' : declaresOnly t u) : declaresOnly s u := by
  unfold declaresOnly at *
  rw [h'] 
  rw [h]

theorem declaresOnly.ite {c : Prop} [Decidable c] (h : declaresOnly s t) (h' : declaresOnly s u) : declaresOnly s (if c then t else u) := by
  split <;> assumption

/-- Every source but `n` is the same. -/
def otherSources (s t : State) (n : Nat) : Prop := ∀ m, m ≠ n → t.source m = s.source m

theorem source_of_faults (h : t.faults = s.faults) (n : Nat) : t.source n = s.source n := congrArg (fun f : FaultSt => mapGet srcD f.src n) h

theorem enterFaulted_stops (s : State) (n : Nat) (d : Word) :
    ∃ stopped, (enterFaulted s n d).faults = { s.faults with stopped := stopped } := by
  unfold enterFaulted
  extract_lets what faults stopped dropped discarded cancelled abandoned failed
  split
  · exact ⟨_, rfl⟩
  · have hrest : Keeps ⟨faultedFields.filter (· != .faults), [0x1001], false⟩ stopped (failSpools (endStaging failed 7 (some stFaulted))) :=
      (setMode_keeps _ _ (by rfl)).trans <| (dropClaim_keeps _ (by rfl)).trans <| (discardEvents_keeps _ _ _ (by rfl)).trans <|
        (cancelMoves_keeps _ (by rfl)).trans <| (abandonTransfers_keeps _ _ (by rfl)).trans <|
          (Keeps.foldl (fun _ _ => failWindow_keeps _ _ _ (by rfl)) _ _).trans <|
            (endStaging_keeps _ _ _ (by rfl)).trans (failSpools_keeps _ (by rfl))
    exact ⟨_, hrest.same .faults (by rfl)⟩

theorem enterFaulted_declaresOnly (s : State) (n : Nat) (d : Word) : declaresOnly s (enterFaulted s n d) := by
  obtain ⟨stopped, h⟩ := enterFaulted_stops s n d
  unfold declaresOnly
  rw [h]

theorem noteFault_declaresOnly (s : State) (n : Nat) (d : Word) (l f : Bool) (p : Nat) :
    declaresOnly s (noteFault s n d l f p) ∧ otherSources s (noteFault s n d l f p) n := by
  unfold noteFault
  extract_lets detail src cls old count logIt histIt src' entry noted logged faults latched pair told
  have hlogs : Keeps ⟨[.log], [], false⟩ noted logged := .ite (logEvent_keeps _ _ _ _ _ _ _ _ (by rfl)) (.refl _)
  have hemits : ∀ w b, Keeps ⟨[.emitted], [], false⟩ told (if told.paired = true then told.emit (.bridle w b) else told) :=
    fun w b => .ite (emit_keeps _ _ (by rfl)) (.refl _)
  have hnoted : declaresOnly s noted := rfl
  have hlogged : logged.faults = noted.faults := hlogs.same .faults (by rfl)
  have htold : declaresOnly logged told := rfl
  constructor
  · exact (hnoted.trans (.of_faults hlogged)).trans (htold.trans (.of_faults ((hemits _ _).same .faults (by rfl))))
  · intro m hm
    calc _ = told.source m := source_of_faults ((hemits _ _).same .faults (by rfl)) m
      _ = logged.source m := rfl
      _ = noted.source m := source_of_faults hlogged m
      _ = s.source m := (mapGet_mapSet ..).trans (if_neg hm)

theorem declareFault_declaresOnly (s : State) (n : Nat) (d : Word) (l f : Bool) (p : Nat) : declaresOnly s (declareFault s n d l f p) := by
  unfold declareFault
  exact .ite ((noteFault_declaresOnly ..).1.trans (enterFaulted_declaresOnly _ _ _)) (noteFault_declaresOnly ..).1

theorem declareFault_otherSources (s : State) (n : Nat) (d : Word) (l f : Bool) (p : Nat) :
    otherSources s (declareFault s n d l f p) n := by
  intro m hm
  unfold declareFault
  dsimp only
  split
  · have hsrc := (enterFaulted_faulted (noteFault s n d l f p) n d).2
    exact (congrArg (fun src => mapGet srcD src m) hsrc).trans ((noteFault_declaresOnly ..).2 m hm)
  · exact (noteFault_declaresOnly ..).2 m hm

end Sys2Proof.Machine
end

section
/-! PROOFS. Scrubbing counts, writes back and laps (R548-R551): not where a cell waits for a port that the device does not have. -/

namespace Sys2Proof.Machine

/-- A cell of no flow. -/
def strayCell : LinkCell where
  label := 0
  vc := 0
  reserved := false
  anc := false
  frame := 0
  line := 0
  index := 0
  last := false
  valid := 0
  subst := false
  meta_ := 0
  pcrc := 0
  payload := []

/-- A port number that the device does not have: its discard counter, 0xA100:0500 + p, falls on 0xB200:002F. -/
def strayPort : Nat := 0x10FFFB2F

/-- A running device whose express queue holds cells for that port, more than the free value drawn at an uncorrectable error. -/
def strayQueue : State :=
  { State.reset with
    mode := .solo
    tether := { State.reset.tether with queue := List.replicate (State.reset.drawn 40 + 1) (strayPort, 0, strayCell) } }

/-- An express cell that can no longer be read counts at the port it waited for (R202). -/
theorem loseExpressCell_counts {s : State} {e : Nat × Nat × LinkCell} (hq : s.tether.queue[s.drawn 40 % (s.tether.queue.length + 1)]? = some e)
    (i j : Nat) : (loseExpressCell s).elem i j = (s.count 0xA100 (0x500 + e.1)).elem i j := by
  unfold loseExpressCell
  dsimp only
  rw [hq]
  rfl

/-- A memory error that a scrubber meets in the express buffers. -/
theorem scrubbed_express {s : State} (hlap : lapCheck { s with faults := { s.faults with
      scrubAddr := mapSet natD s.faults.scrubAddr 15 (mapGet natD s.faults.scrubAddr 15 + 1) } } 15 = { s with faults := { s.faults with
      scrubAddr := mapSet natD s.faults.scrubAddr 15 (mapGet natD s.faults.scrubAddr 15 + 1) } })
    {e : Nat × Nat × LinkCell} (hq : s.tether.queue[s.drawn 40 % (s.tether.queue.length + 1)]? = some e) :
    (scrubbed s 15 .uncorrectable).elem 0xB200 0x2F = ((s.count 0xB200 0x2F).count 0xA100 (0x500 + e.1)).elem 0xB200 0x2F := by
  unfold scrubbed
  dsimp only
  rw [hlap]
  generalize hu : ({ s with faults := { s.faults with
      scrubAddr := mapSet natD s.faults.scrubAddr 15 (mapGet natD s.faults.scrubAddr 15 + 1) } } : State) = u
  have hdeclare : uncorrectable u 15 (mapGet natD s.faults.scrubAddr 15) =
      declareFault (loseExpressCell (u.count 0xB200 0x2F)) 0x084 (memoryDetail 15 (mapGet natD s.faults.scrubAddr 15)) := rfl
  have hkept := (declareFault_faults (F := ⟨noteFields, [], false⟩) (loseExpressCell (u.count 0xB200 0x2F)) 0x084
    (memoryDetail 15 (mapGet natD s.faults.scrubAddr 15)) false false 0 (by rfl)).orFaulted
  rw [hdeclare, hkept.elem (by rfl) (by omega), loseExpressCell_counts (e := e) (by rw [← hu]; exact hq), ← hu]
  rfl

/-- Whatever free value is drawn, it picks one of these cells. -/
theorem strayQueue_cell : strayQueue.fresh.tether.queue[strayQueue.fresh.drawn 40 % (strayQueue.fresh.tether.queue.length + 1)]? =
    some (strayPort, 0, strayCell) := by
  have hlength : strayQueue.fresh.tether.queue.length = State.reset.drawn 40 + 1 := List.length_replicate
  have hdrawn : strayQueue.fresh.drawn 40 = State.reset.drawn 40 := rfl
  rw [hlength, hdrawn, Nat.mod_eq_of_lt (by omega)]
  exact (List.getElem?_replicate ..).trans (if_pos (by omega))

/-- Refutes O38: an express queue with cells for port 0x10FFFB2F, which the state does not exclude. Where one of them can no longer
be read, its count at that port falls on the scrubber's own counter 0xB200:002F, which then moves by two. -/
theorem not_memoryScrubbed : ¬ Obligations.MemoryScrubbed := by
  unfold Obligations.MemoryScrubbed
  rintro ⟨-, -, -, huncorrectable, -⟩
  obtain ⟨t, ht, hcount, -⟩ := huncorrectable strayQueue 15 (by decide) rfl
  obtain ⟨-, he⟩ := onUnit_next (n := 15) (l := 24) (f := fun s => scrubbed s 15 .uncorrectable) rfl ht
  rw [if_pos (show strayQueue.running = true from rfl)] at he
  have hmoved : t.elem 0xB200 0x2F = wrapAdd 32 (wrapAdd 32 (strayQueue.elem 0xB200 0x2F) 1) 1 := by
    rw [he]
    refine (scrubbed_express (s := strayQueue.fresh) (e := (strayPort, 0, strayCell)) (if_neg ?_) strayQueue_cell).trans ?_
    · rintro ⟨hlate, -⟩
      have hlap : ((1 : Nat) : Rat) * 1000000000 < 0 - 0 - 0 := hlate
      norm_num at hlap
    · exact (State.put_elem ..).trans ((if_pos rfl).trans (congrArg (wrapAdd 32 · 1) ((State.put_elem ..).trans (if_pos rfl))))
  rw [hcount] at hmoved
  exact absurd hmoved (by decide)

end Sys2Proof.Machine
end

section
/-! PROOFS. Freezes by pin, by schedule and on a FATAL (R559-R565). -/

namespace Sys2Proof.Machine

theorem running_iff {s : State} : s.running = true ↔ s.mode ≠ .dormant ∧ s.mode ≠ .frozen ∧ s.boot.inReset = false := by
  unfold State.running
  simp [and_assoc]

theorem freeze_freezes {s : State} (hr : s.running = true) (trigger : Nat) :
    (freeze s trigger).mode = .frozen ∧ (freeze s trigger).faults.lastFreeze = trigger ∧
      (freeze s trigger).faults.frozenMode = some s.mode ∧ (freeze s trigger).events = s.events ∧ (freeze s trigger).now = s.now ∧
      (freeze s trigger).dict = s.dict := by
  obtain ⟨hdormant, hfrozen, hreset⟩ := running_iff.1 hr
  have hacts : freeze s trigger = setMode { s with
      faults := { s.faults with lastFreeze := trigger, frozenMode := some s.mode }, dbg := { s.dbg with stream := 0 } } .frozen :=
    if_neg (by simp [hdormant, hfrozen, hreset])
  have hmode := setMode_keeps (F := ⟨[.mode, .log], [], false⟩) ({ s with
      faults := { s.faults with lastFreeze := trigger, frozenMode := some s.mode }, dbg := { s.dbg with stream := 0 } } : State) .frozen (by rfl)
  have hfaults : (freeze s trigger).faults = { s.faults with lastFreeze := trigger, frozenMode := some s.mode } :=
    hacts ▸ hmode.same .faults (by rfl)
  exact ⟨hacts ▸ setMode_mode _ _, by rw [hfaults], by rw [hfaults], hacts ▸ hmode.same .events (by rfl), hacts ▸ hmode.same .now (by rfl),
    hacts ▸ hmode.same .dict (by rfl)⟩

/-- The bit that says schedule or cancel lies below the plane and the TP. -/
theorem bits_setBit_zero (v : Word) (b : Bool) :
    bits (setBit v 0 b) 15 8 = bits v 15 8 ∧ bits (setBit v 0 b) 79 16 = bits v 79 16 := by
  unfold setBit setBits bits
  constructor <;> cases b <;> simp [ofBool] <;> omega

/-- An accepted write that schedules a freeze (R562). -/
theorem freezeHandler_schedules {s u : State} {rq : Rq} {b : List Byte} {arg : Word} (hb : ofBytes b = setBit arg 0 false) :
    ∃ e : Event, ((freezeHandler s rq b).commit u).events = u.events ++ [e] ∧ e.kind = 5 ∧ e.plane = bits arg 15 8 ∧
      (bits arg 79 16 ≠ 0 → e.tp = bits arg 79 16) := by
  have hbit : bit (setBit arg 0 false) 0 = false := by rw [bit_setBit, if_pos rfl]
  obtain ⟨hplane, htp⟩ := bits_setBit_zero arg false
  have hcommit : (freezeHandler s rq b).commit u = queueEvent u
      { tp := u.scheduleTp (bits arg 15 8) (bits arg 79 16), plane := bits arg 15 8, kind := 5, rq := some rq } := by
    unfold freezeHandler
    simp only [hb, hbit, hplane, htp, Bool.false_eq_true, if_false]
  rw [hcommit]
  exact ⟨_, queueEvent_events _ _, rfl, rfl, fun hset => if_neg hset⟩

/-- An accepted write that cancels one (R562). -/
theorem freezeHandler_cancels {s u : State} {rq : Rq} {b : List Byte} {arg : Word} (hb : ofBytes b = setBit arg 0 true) :
    ∀ e ∈ ((freezeHandler s rq b).commit u).events, e.kind = 5 → e.fired = true := by
  have hbit : bit (setBit arg 0 true) 0 = true := by rw [bit_setBit, if_pos rfl]
  have hcommit : (freezeHandler s rq b).commit u =
      { u with events := u.events.filter fun e => !(e.kind == 5 && !e.fired) } := by
    unfold freezeHandler
    simp only [hb, hbit, if_true]
  rw [hcommit]
  intro e he hkind
  have hkept := (List.mem_filter.1 he).2
  simpa [hkind] using hkept

theorem freezeControl_rearms {s u : State} {b : List Byte} {v : Word} (hb : ofBytes b = setBit v 29 true) :
    ((freezeControl s b).commit u).faults.firstFatal = none := by
  have hbit : bit (setBit v 29 true) 29 = true := by rw [bit_setBit, if_pos rfl]
  unfold freezeControl
  simp only [hb, hbit, if_true]

/-- Settles O40: each trigger of `freeze`, and what the two writes to 0xB400 commit. -/
theorem freezesTaken : Obligations.FreezesTaken := by
  unfold Obligations.FreezesTaken
  refine ⟨?_, ?_, ?_, ?_, ?_, ?_⟩
  case refine_1 =>
    intro s rq v hfits ha
    obtain ⟨u, -, after⟩ := request_accepts ha
    refine act_does (f := fun s => request s rq opWrite 0xB400 0 (valueBytes rq (setBit v 29 true))
      (freezeControl s (valueBytes rq (setBit v 29 true)))) rfl ?_
    exact (congrArg FaultSt.firstFatal (after.same .faults (by rfl))).trans (freezeControl_rearms (valueBytes_value hfits))
  case refine_2 =>
    intro s hpin hdormant hfrozen hreset
    refine act_does (f := fun s => if s.flag 0xB400 0 31 then s else freeze s 1) rfl ?_
    dsimp only
    rw [if_neg (by simp [show s.fresh.flag 0xB400 0 31 = false from hpin])]
    obtain ⟨hmode, hlast, hfrom, -, hnow, hdict⟩ := freeze_freezes (s := s.fresh) (running_iff.2 ⟨hdormant, hfrozen, hreset⟩) 1
    exact ⟨hmode, hlast, hfrom, hnow, hdict⟩
  case refine_3 =>
    intro s rq arg hfits ha
    obtain ⟨u, before, after⟩ := request_accepts ha
    obtain ⟨e, hevents, hrest⟩ := freezeHandler_schedules (s := s.fresh) (u := u) (rq := rq) (arg := arg) (valueBytes_value hfits)
    refine act_does (f := fun s => request s rq opWrite 0xB400 1 (valueBytes rq (setBit arg 0 false))
      (freezeHandler s rq (valueBytes rq (setBit arg 0 false)))) rfl ⟨e, ?_, hrest⟩
    have hbefore : u.events = s.events := before.same .events (by rfl)
    exact (after.same .events (by rfl)).trans (hbefore ▸ hevents)
  case refine_4 =>
    intro s rq arg hfits ha
    obtain ⟨u, -, after⟩ := request_accepts ha
    refine act_does (f := fun s => request s rq opWrite 0xB400 1 (valueBytes rq (setBit arg 0 true))
      (freezeHandler s rq (valueBytes rq (setBit arg 0 true)))) rfl ?_
    intro e he hkind
    exact freezeHandler_cancels (s := s.fresh) (u := u) (rq := rq) (arg := arg) (valueBytes_value hfits) e
      ((after.same .events (by rfl)) ▸ he) hkind
  case refine_5 =>
    intro s e hr hothers hdue
    refine actRunning_does (f := fireFreeze) rfl hr ?_
    have hfires : fireFreeze s.fresh = freeze { s.fresh with events := s.events.filter fun x => x.order != e.order } 2 := by
      unfold fireFreeze
      rw [show s.fresh.dueEvent [1, 2, 3, 4] = none from hothers, show s.fresh.dueEvent [5] = some e from hdue]
      rfl
    rw [hfires]
    obtain ⟨hmode, hlast, -, hevents, -⟩ := freeze_freezes (s := { s.fresh with events := s.events.filter fun x => x.order != e.order }) hr 2
    exact ⟨hmode, hlast, hevents⟩
  case refine_6 =>
    intro s a hr hfatal hdue hon
    refine actRunning_does (f := fatalFreeze) rfl hr ?_
    have hfreezes : fatalFreeze s.fresh = freeze s.fresh 3 := by
      unfold fatalFreeze
      rw [show s.fresh.faults.fatalAt = some a from hfatal]
      exact if_pos ⟨hdue, hon⟩
    rw [hfreezes]
    obtain ⟨hmode, hlast, -⟩ := freeze_freezes (s := s.fresh) hr 3
    exact ⟨hmode, hlast⟩

end Sys2Proof.Machine
end

section
/-! PROOFS. Power-up, power loss, reset and release (R418, R523-R527). -/

namespace Sys2Proof.Machine

/-- Nothing of a staging, the keys or the lifecycle is lost with VDD_SRAM (R526). -/
theorem afterSram_same {s : State} (hstage : s.boot.stageState ≠ 1) (kept : Bool) :
    ∃ log faults, endStaging (if kept then s else loseSram s) 7 none = { s with log := log, faults := faults } := by
  unfold endStaging
  cases kept
  · exact ⟨_, _, if_neg hstage⟩
  · exact ⟨_, _, if_neg hstage⟩

/-- What a release leaves (R524). -/
structure Released (s t : State) (nodeSel : Nat) (sideB : Bool) : Prop where
  mode : t.mode = .boot
  now : t.now = 0
  boot : t.boot.phase = .selfCheck ∧ t.boot.resets = (s.boot.resets + 1) % 2 ^ 16 ∧ t.boot.slotA = s.boot.slotA ∧
    t.boot.slotB = s.boot.slotB ∧ t.boot.sideB = sideB
  node : t.elem 0x1000 0 = nodeSel % 64 ∧ t.elem 0xA000 0 = nodeSel % 64
  keys : t.keys = s.keys
  openings : t.dbg.openings = s.dbg.openings

theorem Released.of_keeps {s t u : State} {nodeSel : Nat} {sideB : Bool} (h : Released s t nodeSel sideB)
    (hk : Keeps ⟨[.log], [], false⟩ t u) : Released s u nodeSel sideB where
  mode := (hk.same .mode (by rfl)).trans h.mode
  now := (hk.same .now (by rfl)).trans h.now
  boot := (hk.same .boot (by rfl) : u.boot = t.boot) ▸ h.boot
  node := ⟨(hk.elem (by rfl) (by omega)).trans h.node.1, (hk.elem (by rfl) (by omega)).trans h.node.2⟩
  keys := (hk.same .keys (by rfl)).trans h.keys
  openings := (hk.same .dbg (by rfl) : u.dbg = t.dbg) ▸ h.openings

/-- A release with no loss of power to declare. -/
theorem released_starts {s : State} (nodeSel : Nat) (sideB kept : Bool) (hstage : s.boot.stageState ≠ 1)
    (halarm : s.boot.pendingAlarms.contains (0x005, 0) = false) : Released s (released s nodeSel sideB kept) nodeSel sideB := by
  obtain ⟨log, faults, hs⟩ := afterSram_same hstage kept
  unfold released
  rw [hs]
  extract_lets u b t0 f0 d0 p0 b0 t1 t2 t3
  rw [if_neg (ne_true_of_eq_false (show b.pendingAlarms.contains (0x005, 0) = false from halarm))]
  have hput : Released s t2 nodeSel sideB :=
    ⟨rfl, rfl, ⟨rfl, rfl, rfl, rfl, rfl⟩, ⟨(State.put_elem_ne (by decide) (by decide) (by decide) _ _).trans ((State.put_elem ..).trans (if_pos rfl)),
      (State.put_elem ..).trans (if_pos rfl)⟩, rfl, rfl⟩
  exact hput.of_keeps (.ite (.refl _) (logEvent_keeps _ _ _ _ _ _ _ _ (by rfl)))

/-- The Exair die's power, where it was on already and where it was not (R523). -/
theorem exairPower_on (s : State) : (if s.boot.exOn = true then s else { s with boot := { s.boot with exOn := true } }) =
    { s with boot := { s.boot with exOn := true } } := by
  split
  · rename_i hon
    rw [← hon]
  · rfl

/-- Settles O35, by the pins and rails that each command moves. -/
theorem powerSequenced : Obligations.PowerSequenced := by
  unfold Obligations.PowerSequenced
  refine ⟨?_, ?_, ?_, ?_, ?_, ?_, ?_, ?_, ?_⟩
  case refine_1 =>
    intro s
    refine act_does (f := fun s => if s.boot.exOn then s else { s with boot := { s.boot with exOn := true } }) rfl ?_
    rw [exairPower_on]
    rfl
  case refine_2 =>
    intro s hex hmain hmode
    refine act_does (f := raisePower) rfl ?_
    rw [show raisePower s.fresh = _ from if_pos ⟨hex, hmain, hmode⟩]
    rfl
  case refine_3 =>
    intro s hex hmain hmode
    refine act_does (f := raisePower) rfl ?_
    rw [show raisePower s.fresh = _ from if_pos ⟨hex, hmain, hmode⟩]
    rfl
  case refine_4 =>
    intro s hmain hreset
    refine act_does (f := fun s => if s.boot.mainPwrEn ∧ s.boot.inReset then
      { s with boot := { s.boot with mainPwrEn := false, pendingAlarms := s.boot.pendingAlarms ++ [(0x004, 0)] } } else s) rfl ?_
    dsimp only
    rw [if_pos ⟨hmain, hreset⟩]
    rfl
  case refine_5 =>
    intro s kept hmain hreset
    refine act_does (f := fun s => if s.boot.inReset ∨ s.boot.mainPwrEn = false then s else
      { holdReset (if kept then s else loseSram s) with boot := { (holdReset (if kept then s else loseSram s)).boot with
        pendingAlarms := (holdReset (if kept then s else loseSram s)).boot.pendingAlarms ++ [(0x005, 0)] } }) rfl ?_
    dsimp only
    rw [if_neg (by simp [show s.fresh.boot.inReset = false from hreset, show s.fresh.boot.mainPwrEn = true from hmain])]
    refine ⟨rfl, List.mem_append_right _ (List.mem_singleton_self _), rfl, rfl, ?_⟩
    cases kept <;> rfl
  case refine_6 =>
    intro s hmode
    refine act_does (f := fun s => if s.mode = .dormant then s else holdReset s) rfl ?_
    dsimp only
    rw [if_neg (show ¬ s.fresh.mode = .dormant from hmode)]
    rfl
  case refine_7 =>
    intro s hmode
    refine act_does (f := fun s => if s.mode = .dormant then holdReset { s with boot := { s.boot with mainPwrEn := true } } else s) rfl ?_
    dsimp only
    rw [if_pos (show s.fresh.mode = .dormant from hmode)]
    exact ⟨rfl, rfl, hmode⟩
  case refine_8 =>
    intro s nodeSel sideB kept hreset hex hmain halarm hstage
    refine act_does (f := fun s => if s.boot.inReset ∧ s.boot.exOn ∧ s.boot.mainPwrEn then released s nodeSel sideB kept else s) rfl ?_
    dsimp only
    rw [if_pos (show s.fresh.boot.inReset = true ∧ s.fresh.boot.exOn = true ∧ s.fresh.boot.mainPwrEn = true from ⟨hreset, hex, hmain⟩)]
    obtain ⟨hmode, hnow, ⟨hphase, hresets, hslotA, hslotB, hside⟩, ⟨hnode, hcascade⟩, hkeys, hopenings⟩ :=
      released_starts (s := s.fresh) nodeSel sideB kept hstage halarm
    exact ⟨hmode, hphase, hnow, hresets, hnode, hcascade, hslotA, hslotB, hkeys, hopenings, hside⟩
  case refine_9 => exact fun s => ⟨_, rfl, rfl, rfl, rfl, rfl, rfl, rfl, rfl⟩

end Sys2Proof.Machine
end

section
/-! PROOFS. Staging, trial, saving and erasing (R535-R543). -/

namespace Sys2Proof.Machine

variable {s t u : State} {F : Foot}

/-! The two slots (R528, R532). -/

theorem slot_of_boot (h : t.boot = s.boot) (n : Nat) : t.slot n = s.slot n := by
  unfold State.slot
  rw [h]

theorem setSlot_slot (s : State) (n : Nat) (x : Slot) : (s.setSlot n x).slot n = x := by
  unfold State.slot State.setSlot
  split <;> rfl

theorem setSlot_slot_other {n k : Nat} (hn : n < 2) (hk : k < 2) (hne : k ≠ n) (s : State) (x : Slot) :
    (s.setSlot n x).slot k = s.slot k := by
  obtain rfl | rfl : n = 0 ∨ n = 1 := by omega
  · obtain rfl : k = 1 := by omega
    rfl
  · obtain rfl : k = 0 := by omega
    rfl

/-- NEXT stands on one slot alone. -/
theorem nextSlot_slot {k : Nat} (hk : k < 2) (s : State) (n : Nat) : (nextSlot s n).slot k = { s.slot k with next := n == k } := by
  obtain rfl | rfl : k = 0 ∨ k = 1 := by omega
  · rfl
  · rfl

theorem spareSlot_lt (s : State) : s.spareSlot < 2 := by
  unfold State.spareSlot
  split <;> omega

theorem setSlot_keeps (s : State) (n : Nat) (x : Slot) (hF : F.holds [.boot] = true) : Keeps F s (s.setSlot n x) := .set [.boot] rfl hF

theorem nextSlot_keeps (s : State) (n : Nat) (hF : F.holds [.boot] = true) : Keeps F s (nextSlot s n) := .set [.boot] rfl hF

/-! Staging (R536-R538). -/

theorem spareSlot_of_boot (h : t.boot = s.boot) : t.spareSlot = s.spareSlot := by
  unfold State.spareSlot
  rw [h]

/-- The commit of a staging request (R536). -/
theorem stageHandler_stages (s u : State) (path : List Byte) :
    ((stageHandler s path).commit u).boot.stageState = 1 ∧ ((stageHandler s path).commit u).boot.stagePath = path ∧
      (((stageHandler s path).commit u).slot u.spareSlot).state = 1 := by
  unfold stageHandler
  refine ⟨rfl, rfl, ?_⟩
  have hstate : ∀ v : State, (v.slot u.spareSlot).state = 1 →
      ((match v.boot.running with
        | some r => nextSlot v r
        | none => v).slot u.spareSlot).state = 1 := by
    intro v hv
    split
    · rw [nextSlot_slot (spareSlot_lt u)]
      exact hv
    · exact hv
  exact hstate (u.setSlot u.spareSlot { state := 1 }) (congrArg Slot.state (setSlot_slot _ _ _))

/-- A staging that is done (R537). -/
theorem stagingDone_stages {file img : List Byte} (hstage : s.boot.stageState = 1)
    (himg : stagedImage file (match s.boot.running with
      | some n => (s.slot n).image
      | none => []) = img) (hfile : file.length ≤ pkgMax) (hlen : img.length ≤ pkgMax) (hdma : s.dmaStopped = false) :
    (stagingDone s file).boot.stageState = 2 ∧ (stagingDone s file).slot s.spareSlot = { state := 2, next := true, image := img } ∧
      ((stagingDone s file).slot (1 - s.spareSlot)).next = false := by
  have hdone : stagingDone s file = finishWaiting { nextSlot (s.setSlot s.spareSlot { state := 2, image := img }) s.spareSlot with
      boot := { (nextSlot (s.setSlot s.spareSlot { state := 2, image := img }) s.spareSlot).boot with
        stageState := 2, stageResult := 0, stageKiB := img.length / 1024 } } 0xD020 0 stOk [] := by
    unfold stagingDone
    rw [if_neg (by simp [hstage, hdma])]
    extract_lets staged
    have hstaged : staged = img := himg
    rw [hstaged, if_neg fun h : pkgMax < file.length ∨ pkgMax < img.length => h.elim (Nat.not_lt.2 hfile) (Nat.not_lt.2 hlen)]
    clear_value staged
    subst hstaged
    rfl
  have hboot : (stagingDone s file).boot = { (nextSlot (s.setSlot s.spareSlot { state := 2, image := img }) s.spareSlot).boot with
      stageState := 2, stageResult := 0, stageKiB := img.length / 1024 } :=
    hdone ▸ (finishWaiting_keeps (F := ⟨answerFields, [0x1001], false⟩) _ _ _ _ _ (by rfl)).same .boot (by rfl)
  have hslot : ∀ k, (stagingDone s file).slot k = (nextSlot (s.setSlot s.spareSlot { state := 2, image := img }) s.spareSlot).slot k := by
    intro k
    unfold State.slot
    rw [hboot]
  have hspare := spareSlot_lt s
  refine ⟨by rw [hboot], ?_, ?_⟩
  · rw [hslot, nextSlot_slot hspare, setSlot_slot, beq_self_eq_true]
  · rw [hslot, nextSlot_slot (by omega)]
    exact beq_eq_false_iff_ne.2 (by omega)

/-- A staging that fails (R538). -/
theorem endStaging_fails (hstage : s.boot.stageState = 1) (r st : Nat) :
    (endStaging s r (some st)).boot.stageState = 3 ∧ (endStaging s r (some st)).boot.stageResult = r ∧
      (endStaging s r (some st)).slot s.spareSlot = { state := 0, reason := 9 } := by
  have hboot : (endStaging s r (some st)).boot = { s.boot with
      stageState := 3, stageResult := r
      slotA := if (s.boot.running == some 0) = true then s.boot.slotA else { state := 0, reason := 9 }
      slotB := if (s.boot.running == some 0) = true then { state := 0, reason := 9 } else s.boot.slotB } := by
    unfold endStaging
    rw [if_pos hstage]
    exact (finishWaiting_keeps (F := ⟨answerFields, [0x1001], false⟩) _ _ _ _ _ (by rfl)).same .boot (by rfl)
  refine ⟨by rw [hboot], by rw [hboot], ?_⟩
  unfold State.slot State.spareSlot
  rw [hboot]
  by_cases hrun : s.boot.running = some 0 <;> simp [hrun]

theorem stagingFails_fails (hstage : s.boot.stageState = 1) {r : Nat} (hlo : 1 ≤ r) (hhi : r ≤ 6) :
    (stagingFails s r).boot.stageState = 3 ∧ (stagingFails s r).boot.stageResult = r ∧
      (stagingFails s r).slot s.spareSlot = { state := 0, reason := 9 } := by
  unfold stagingFails
  split
  case h_7 h1 h2 h3 h4 h5 h6 => exact absurd (by omega : r = 1 ∨ r = 2 ∨ r = 3 ∨ r = 4 ∨ r = 5 ∨ r = 6) (by simp_all)
  all_goals exact endStaging_fails hstage _ _

/-! Trial (R539-R541). -/

/-- The commit of a confirmation (R539). -/
theorem healthHandler_confirms {n : Nat} (hrun : u.boot.running = some n) (hn : n < 2) (s : State) (b : List Byte) :
    let t := (healthHandler s b).commit u
    t.boot.health = none ∧ (t.slot n).state = 4 ∧ (t.slot n).boots = 0 ∧ (t.slot n).next = true ∧ (t.slot (1 - n)).next = false := by
  have hcommit : (healthHandler s b).commit u =
      nextSlot (({ u with boot := { u.boot with health := none } } : State).setSlot n
        { u.slot n with state := 4, boots := 0, reason := 0, component := 0 }) n := by
    unfold healthHandler
    dsimp only
    rw [hrun]
    rfl
  dsimp only
  rw [hcommit]
  have hhealth : (({ u with boot := { u.boot with health := none } } : State).setSlot n
      { u.slot n with state := 4, boots := 0, reason := 0, component := 0 }).boot.health = none := by
    unfold State.setSlot
    split <;> rfl
  rw [nextSlot_slot hn, nextSlot_slot (by omega), setSlot_slot]
  exact ⟨hhealth, rfl, rfl, beq_self_eq_true n, beq_eq_false_iff_ne.2 (by omega)⟩

/-- A slot whose trial is lost: NEXT goes to the other slot if that is GOOD (R540). -/
def lostSlot (s : State) (n : Nat) : State :=
  if ((s.setSlot n { s.slot n with state := 5, reason := 7, next := false }).slot (1 - n)).state = 4 then
    nextSlot (s.setSlot n { s.slot n with state := 5, reason := 7, next := false }) (1 - n)
  else s.setSlot n { s.slot n with state := 5, reason := 7, next := false }

theorem lostSlot_slot {n : Nat} (hn : n < 2) (s : State) :
    ((lostSlot s n).slot n).state = 5 ∧ ((lostSlot s n).slot n).reason = 7 ∧ ((lostSlot s n).slot n).next = false := by
  unfold lostSlot
  split
  · rw [nextSlot_slot hn, setSlot_slot]
    exact ⟨rfl, rfl, beq_eq_false_iff_ne.2 (by omega)⟩
  · rw [setSlot_slot]
    exact ⟨rfl, rfl, rfl⟩

/-- A trial without its confirmation (R540). -/
theorem healthLost_rejects {a : Rat} {n : Nat} (hhealth : s.boot.health = some a) (hrun : s.boot.running = some n) (hn : n < 2)
    (hdue : a + 600000000000 ≤ s.up) :
    let t := healthLost s
    (t.slot n).state = 5 ∧ (t.slot n).reason = 7 ∧ (t.slot n).next = false ∧ t.boot.inReset = true ∧ (0x009, n) ∈ t.boot.pendingAlarms := by
  have hacts : ∃ old new, healthLost s = holdReset { logEvent (lostSlot s n) 0xD000 n old new with
      boot := { (logEvent (lostSlot s n) 0xD000 n old new).boot with
        pendingAlarms := (logEvent (lostSlot s n) 0xD000 n old new).boot.pendingAlarms ++ [(0x009, n)], health := none } } := by
    unfold healthLost
    rw [hhealth, hrun]
    exact ⟨_, _, if_pos hdue⟩
  obtain ⟨old, new, hacts⟩ := hacts
  have hlog : (logEvent (lostSlot s n) 0xD000 n old new).boot = (lostSlot s n).boot :=
    (logEvent_keeps (F := ⟨[.log], [], false⟩) _ _ _ _ _ _ _ _ (by rfl)).same .boot (by rfl)
  have hslot : (healthLost s).slot n = (lostSlot s n).slot n := by
    rw [hacts]
    exact slot_of_boot hlog n
  obtain ⟨hstate, hreason, hnext⟩ := lostSlot_slot hn s
  dsimp only
  rw [hslot]
  refine ⟨hstate, hreason, hnext, ?_, ?_⟩
  · rw [hacts]
    rfl
  · rw [hacts]
    exact List.mem_append_right _ (List.mem_singleton_self _)

/-! The stored configuration (R541-R543). -/

theorem configCommand_saves {b : List Byte} (hb : ofBytes b = 1) (s u : State) :
    ((configCommand s b).commit u).boot.saving = some u.configSnapshot := by
  unfold configCommand
  simp only [hb]

theorem configCommand_erases {b : List Byte} (hb : ofBytes b = 2) (s u : State) : ((configCommand s b).commit u).boot.erasing = true := by
  unfold configCommand
  simp only [hb]

theorem configCommand_selects {b : List Byte} {n : Nat} (hb : ofBytes b = 3) (hrun : s.boot.running = some n) (u : State) :
    (configCommand s b).commit u = nextSlot u (1 - n) := by
  unfold configCommand
  simp only [hb, hrun]

/-- What SAVE takes is not of the log. -/
theorem configSnapshot_appendLog (s : State) (e : LogEntry) : (appendLog s e).configSnapshot = s.configSnapshot := by
  have h : Keeps ⟨[.log], [], false⟩ s (appendLog s e) := appendLog_keeps _ _ (by rfl)
  have hdict : (appendLog s e).dict = s.dict := h.same .dict (by rfl)
  have hboot : (appendLog s e).boot = s.boot := h.same .boot (by rfl)
  have hblobs : (appendLog s e).blobs = s.blobs := h.same .blobs (by rfl)
  unfold State.configSnapshot State.slot State.elem
  rw [hdict, hboot, hblobs]

/-- The newest copy by its serial number: the first copy where both have one number (R529). -/
def newest (a b : Saved) : Saved := if (b.seq + 2 ^ 32 - a.seq) % 2 ^ 32 < 2 ^ 31 ∧ a.seq ≠ b.seq then b else a

theorem newest_or (a b : Saved) : newest a b = b ∨ newest a b = a := ite_eq_or_eq _ _ _

/-- A copy whose number follows the other's is the newest, in either place. -/
theorem newest_next (x a : Saved) {n : Nat} (hn : n = (a.seq + 1) % 2 ^ 32) :
    newest { x with seq := n } a = { x with seq := n } ∧ newest a { x with seq := n } = { x with seq := n } := by
  have hbefore : ¬ ((a.seq + 2 ^ 32 - n) % 2 ^ 32 < 2 ^ 31 ∧ n ≠ a.seq) := by omega
  have hafter : (n + 2 ^ 32 - a.seq) % 2 ^ 32 < 2 ^ 31 ∧ a.seq ≠ n := by omega
  exact ⟨if_neg hbefore, if_pos hafter⟩

theorem savedCopy_both {a b : Saved} (ha : s.boot.copy0 = some a) (hb : s.boot.copy1 = some b) : s.savedCopy = some (newest a b) := by
  unfold State.savedCopy newest
  rw [ha, hb]
  dsimp only
  split <;> rfl

theorem savedCopy_first {a : Saved} (ha : s.boot.copy0 = some a) (hb : s.boot.copy1 = none) : s.savedCopy = some a := by
  unfold State.savedCopy
  rw [ha, hb]

theorem savedCopy_second (ha : s.boot.copy0 = none) : s.savedCopy = s.boot.copy1 := by
  unfold State.savedCopy
  rw [ha]

theorem savedCopy_of_boot (h0 : t.boot.copy0 = s.boot.copy0) (h1 : t.boot.copy1 = s.boot.copy1) : t.savedCopy = s.savedCopy := by
  unfold State.savedCopy
  rw [h0, h1]

/-- The number of the next copy. -/
def nextSeq (s : State) : Nat := ((s.savedCopy.map Saved.seq).getD 0 + 1) % 2 ^ 32

theorem nextSeq_of_saved {a : Saved} (h : s.savedCopy = some a) : nextSeq s = (a.seq + 1) % 2 ^ 32 := by
  unfold nextSeq
  rw [h, Option.map_some, Option.getD_some]

/-- A copy written over the older one, with the next number (R529). -/
def written (s : State) (x : Saved) : BootSt :=
  if (s.boot.copy1.isSome && s.savedCopy == s.boot.copy1) = true ∨ s.boot.copy0 = none then
    { s.boot with saving := none, copy0 := some { x with seq := nextSeq s } }
  else { s.boot with saving := none, copy1 := some { x with seq := nextSeq s } }

theorem written_saving (s : State) (x : Saved) : (written s x).saving = none := by
  unfold written
  split <;> rfl

/-- A copy written is the newest. -/
theorem written_newest {x : Saved} (h : t.boot = written s x) : t.savedCopy = some { x with seq := nextSeq s } := by
  unfold written at h
  generalize hn : nextSeq s = n at h ⊢
  cases h0 : s.boot.copy0 with
  | none =>
    rw [if_pos (.inr h0)] at h
    cases h1 : s.boot.copy1 with
    | none => exact savedCopy_first (by rw [h]) (by rw [h, h1])
    | some b =>
      have hsaved : s.savedCopy = some b := (savedCopy_second h0).trans h1
      exact (savedCopy_both (by rw [h]) (by rw [h, h1])).trans (congrArg some (newest_next x b (hn.symm.trans (nextSeq_of_saved hsaved))).1)
  | some a =>
    cases h1 : s.boot.copy1 with
    | none =>
      rw [if_neg (by simp [h0, h1])] at h
      have hsaved : s.savedCopy = some a := savedCopy_first h0 h1
      exact (savedCopy_both (by rw [h, h0]) (by rw [h])).trans (congrArg some (newest_next x a (hn.symm.trans (nextSeq_of_saved hsaved))).2)
    | some b =>
      have hsaved : s.savedCopy = some (newest a b) := savedCopy_both h0 h1
      by_cases hsecond : newest a b = b
      · rw [if_pos (by simp [h1, hsaved, hsecond])] at h
        exact (savedCopy_both (by rw [h]) (by rw [h, h1])).trans
          (congrArg some (newest_next x b (hn.symm.trans (nextSeq_of_saved (hsecond ▸ hsaved)))).1)
      · have hfirst : newest a b = a := (newest_or a b).resolve_left hsecond
        have hkeep : ¬ ((s.boot.copy1.isSome && s.savedCopy == s.boot.copy1) = true ∨ s.boot.copy0 = none) := by
          rintro (hsame | hnone)
          · have hsaved' := eq_of_beq ((Bool.and_eq_true _ _).mp hsame).2
            exact hsecond (Option.some.inj (hsaved.symm.trans (hsaved'.trans h1)))
          · rw [h0] at hnone
            cases hnone
        rw [if_neg hkeep] at h
        exact (savedCopy_both (by rw [h, h0]) (by rw [h])).trans (congrArg some (newest_next x a (hn.symm.trans (nextSeq_of_saved (hfirst ▸ hsaved)))).2)

/-- A save that ends (R529, R543). -/
theorem configDone_saves {x : Saved} (herase : s.boot.erasing = false) (hsave : s.boot.saving = some x) (hsize : x.size ≤ 4194304) :
    (configDone s).boot = written s x := by
  unfold configDone written nextSeq
  rw [if_neg (by simp [herase]), hsave]
  dsimp only
  rw [if_neg (by omega)]
  exact (finishWaiting_keeps (F := ⟨answerFields, [0x1001], false⟩) _ _ _ _ _ (by rfl)).same .boot (by rfl)

theorem configDone_erases (herase : s.boot.erasing = true) : (configDone s).boot.erasing = false ∧ (configDone s).savedCopy = none := by
  have hboot : (configDone s).boot = { s.boot with copy0 := none, copy1 := none, erasing := false } := by
    unfold configDone
    rw [if_pos herase]
    exact (finishWaiting_keeps (F := ⟨answerFields, [0x1001], false⟩) _ _ _ _ _ (by rfl)).same .boot (by rfl)
  refine ⟨by rw [hboot], ?_⟩
  unfold State.savedCopy
  rw [hboot]

/-- Settles O37, by what each command writes of the boot state. -/
theorem updatesAndSaves : Obligations.UpdatesAndSaves := by
  unfold Obligations.UpdatesAndSaves
  refine ⟨?_, ?_, ?_, ?_, ?_, ?_, ?_, ?_, ?_, ?_⟩
  case refine_1 =>
    intro s rq path ha
    obtain ⟨u, before, after⟩ := request_accepts ha
    have hboot : u.boot = s.boot := before.same .boot (by rfl)
    have hafter := after.same .boot (by rfl)
    obtain ⟨hstate, hpath, hslot⟩ := stageHandler_stages s.fresh u path
    refine act_does (f := fun s => request s rq opWrite 0xD020 0 path (stageHandler s path)) rfl ⟨?_, ?_, ?_⟩
    · exact (congrArg BootSt.stageState hafter).trans hstate
    · exact (congrArg BootSt.stagePath hafter).trans hpath
    · exact (congrArg Slot.state (slot_of_boot hafter _)).trans (spareSlot_of_boot hboot ▸ hslot)
  case refine_2 =>
    intro s file img hr hstage himg hfile hlen hdma
    exact actRunning_does (f := fun s => stagingDone s file) rfl hr (stagingDone_stages (s := s.fresh) hstage himg hfile hlen hdma)
  case refine_3 =>
    intro s r hr hstage hlo hhi
    exact actRunning_does (f := fun s => stagingFails s r) rfl hr (stagingFails_fails (s := s.fresh) hstage hlo hhi)
  case refine_4 =>
    intro s rq v n _ hrun hn ha
    obtain ⟨u, before, after⟩ := request_accepts ha
    have hboot : u.boot = s.boot := before.same .boot (by rfl)
    have hafter := after.same .boot (by rfl)
    obtain ⟨hhealth, hstate, hboots, hnext, hother⟩ := healthHandler_confirms (u := u) (hboot ▸ hrun) hn s.fresh (valueBytes rq v)
    refine act_does (f := fun s => request s rq opWrite 0xD010 0 (valueBytes rq v) (healthHandler s (valueBytes rq v))) rfl ⟨?_, ?_, ?_, ?_, ?_⟩
    · exact (congrArg BootSt.health hafter).trans hhealth
    · exact (congrArg Slot.state (slot_of_boot hafter _)).trans hstate
    · exact (congrArg Slot.boots (slot_of_boot hafter _)).trans hboots
    · exact (congrArg Slot.next (slot_of_boot hafter _)).trans hnext
    · exact (congrArg Slot.next (slot_of_boot hafter _)).trans hother
  case refine_5 =>
    intro s a n hr hhealth hrun hn hdue
    exact actRunning_does (f := healthLost) rfl hr (healthLost_rejects (s := s.fresh) hhealth hrun hn hdue)
  case refine_6 =>
    intro s rq hfits ha
    obtain ⟨e, after⟩ := request_logs ha
    refine act_does (f := fun s => request s rq opWrite 0xD030 1 (valueBytes rq 1) (configCommand s (valueBytes rq 1))) rfl ?_
    exact (congrArg BootSt.saving (after.same .boot (by rfl))).trans <|
      (configCommand_saves (valueBytes_value hfits) _ _).trans (congrArg some (configSnapshot_appendLog _ _))
  case refine_7 =>
    intro s rq hfits ha
    obtain ⟨u, -, after⟩ := request_accepts ha
    refine act_does (f := fun s => request s rq opWrite 0xD030 1 (valueBytes rq 2) (configCommand s (valueBytes rq 2))) rfl ?_
    exact (congrArg BootSt.erasing (after.same .boot (by rfl))).trans (configCommand_erases (valueBytes_value hfits) _ _)
  case refine_8 =>
    intro s hr herase
    exact actRunning_does (f := configDone) rfl hr (configDone_erases (s := s.fresh) herase)
  case refine_9 =>
    intro s x hr herase hsave hsize
    have hboot := configDone_saves (s := s.fresh) herase hsave hsize
    refine actRunning_does (f := configDone) rfl hr ⟨(congrArg BootSt.saving hboot).trans (written_saving _ _), ?_⟩
    exact ⟨_, written_newest (s := s.fresh) (t := configDone s.fresh) hboot⟩
  case refine_10 =>
    intro s rq n hfits hrun hn ha
    obtain ⟨u, -, after⟩ := request_accepts ha
    rw [configCommand_selects (s := s.fresh) (valueBytes_value hfits) hrun] at after
    have hafter := after.same .boot (by rfl)
    refine act_does (f := fun s => request s rq opWrite 0xD030 1 (valueBytes rq 3) (configCommand s (valueBytes rq 3))) rfl ⟨?_, ?_⟩
    · exact (congrArg Slot.next (slot_of_boot hafter _)).trans (by rw [nextSlot_slot (by omega)]; exact beq_self_eq_true _)
    · exact (congrArg Slot.next (slot_of_boot hafter _)).trans (by rw [nextSlot_slot hn]; exact beq_eq_false_iff_ne.2 (by omega))

end Sys2Proof.Machine
end

section
/-! PROOFS. The boot from self-check to its end (R521, R531-R534, R540, R544). -/

namespace Sys2Proof.Machine

variable {s t u : State} {F : Foot}

/-! The choice of a slot (R532). -/

theorem noteSlot_slot (s t : State) (n k : Nat) : (noteSlot s n t).slot k = t.slot k := rfl

theorem setSlot_selfCheckOk (s : State) (n : Nat) (x : Slot) : (s.setSlot n x).boot.selfCheckOk = s.boot.selfCheckOk := by
  unfold State.setSlot
  split <;> rfl

/-- A slot is chosen, or recovery; either way its image is verified next (R532, R540). -/
theorem chooseSlot_verifies (s : State) :
    (chooseSlot s).boot.phase = .verify ∧ (chooseSlot s).boot.selfCheckOk = s.boot.selfCheckOk := by
  unfold chooseSlot
  extract_lets rejected judged trial good take
  have hrejected : ∀ (v : State) (n : Nat), (rejected v n).boot.selfCheckOk = v.boot.selfCheckOk := by
    intro v n
    show (if _ then noteSlot v n (v.setSlot n _) else v).boot.selfCheckOk = _
    split
    · exact setSlot_selfCheckOk v n _
    · rfl
  have hjudged : judged.boot.selfCheckOk = s.boot.selfCheckOk := (hrejected _ 1).trans (hrejected s 0)
  split
  · exact ⟨rfl, (setSlot_selfCheckOk judged _ _).trans hjudged⟩
  · split
    · exact ⟨rfl, hjudged⟩
    · exact ⟨rfl, hjudged⟩

/-- Slot A, GOOD and NEXT, is chosen where slot B is not NEXT. -/
theorem chooseSlot_first (hgood : s.boot.slotA.state = 4) (hnext : s.boot.slotA.next = true) (hother : s.boot.slotB.next = false) :
    (chooseSlot s).boot.chosen = some 0 := by
  unfold chooseSlot
  simp [State.slot, hgood, hnext, hother]

/-- NEXT passes to the other slot where that is GOOD (R533). -/
def passNext (s : State) (n : Nat) : State := if (s.slot (1 - n)).state = 4 then nextSlot s (1 - n) else s

theorem passNext_slot {n : Nat} (hn : n < 2) (hnext : (s.slot n).next = false) : (passNext s n).slot n = s.slot n := by
  unfold passNext
  split
  · rw [nextSlot_slot hn, ← hnext.trans (beq_eq_false_iff_ne.2 (by omega : 1 - n ≠ n)).symm]
  · rfl

theorem passNext_other {n : Nat} (hn : n < 2) (hgood : (s.slot (1 - n)).state = 4) : ((passNext s n).slot (1 - n)).next = true := by
  unfold passNext
  rw [if_pos hgood, nextSlot_slot (by omega)]
  exact beq_self_eq_true _

/-- A slot rejected, before its reset. -/
def rejectedSlot (s : State) (n reason component : Nat) : State :=
  noteSlot s n (s.setSlot n { s.slot n with state := 5, reason := reason, component := component, next := false })

theorem rejectedSlot_slot (s : State) (n reason component : Nat) :
    (rejectedSlot s n reason component).slot n = { s.slot n with state := 5, reason := reason, component := component, next := false } :=
  setSlot_slot _ _ _

/-- A slot that is rejected (R533). -/
theorem rejectSlot_rejects {n : Nat} (hchosen : s.boot.chosen = some n) (hn : n < 2) (reason component : Nat) :
    let t := rejectSlot s reason component
    (t.slot n).state = 5 ∧ (t.slot n).reason = reason ∧ (t.slot n).component = component ∧ t.boot.inReset = true ∧
      ((s.slot (1 - n)).state = 4 → (t.slot (1 - n)).next = true) := by
  have hslot : ∀ k, (rejectSlot s reason component).slot k = (passNext (rejectedSlot s n reason component) n).slot k := by
    intro k
    unfold rejectSlot
    rw [hchosen]
    rfl
  have hreset : (rejectSlot s reason component).boot.inReset = true := by
    unfold rejectSlot
    rw [hchosen]
    rfl
  have hrejected : (rejectSlot s reason component).slot n = _ :=
    (hslot n).trans ((passNext_slot hn (congrArg Slot.next (rejectedSlot_slot ..))).trans (rejectedSlot_slot ..))
  dsimp only
  rw [hrejected]
  refine ⟨rfl, rfl, rfl, hreset, fun hgood => ?_⟩
  rw [hslot]
  exact passNext_other hn ((congrArg Slot.state (setSlot_slot_other hn (by omega) (by omega) _ _)).trans hgood)

/-! The end of the boot (R521, R545). -/

/-- Declarations of which none is FATAL note their faults alone. -/
theorem foldl_declareFault_keeps (l : List (Nat × Nat)) (s : State) (h : ∀ a ∈ l, s.sourceClass a.1 ≠ 2) :
    Keeps ⟨noteFields, [], false⟩ s (l.foldl (fun s a => declareFault s a.1 a.2) s) := by
  induction l generalizing s with
  | nil => exact .refl s
  | cons a l ih =>
    have hnote : Keeps ⟨noteFields, [], false⟩ s (declareFault s a.1 a.2) := by
      have hnot : declareFault s a.1 a.2 = noteFault s a.1 a.2 := if_neg (h a List.mem_cons_self)
      rw [hnot]
      exact noteFault_keeps _ _ _ _ _ _ (by rfl)
    refine hnote.trans (ih _ fun b hb => ?_)
    have hclass : (declareFault s a.1 a.2).sourceClass b.1 = s.sourceClass b.1 :=
      congrArg (bits · 31 30) (elem_of_dict (hnote.same .dict (by rfl)) _ _)
    rw [hclass]
    exact h b (List.mem_cons_of_mem _ hb)

theorem bootDone_keeps (s : State) (h : ∀ a ∈ s.boot.pendingAlarms, s.sourceClass a.1 ≠ 2) :
    ∃ b, b.pendingAlarms = [] ∧ Keeps ⟨noteFields, [], false⟩ { s with boot := b } (bootDone s) := by
  unfold bootDone
  extract_lets alarms trial entries boot settled logged
  have hlogs : Keeps ⟨[.log], [], false⟩ settled logged := .foldl (fun _ _ => logEvent_keeps _ _ _ _ _ _ _ _ (by rfl)) _ _
  refine ⟨settled.boot, rfl, ?_⟩
  have hclass : ∀ n, logged.sourceClass n = s.sourceClass n := fun n =>
    congrArg (bits · 31 30) (elem_of_dict (hlogs.same .dict (by rfl)) _ _)
  exact (Keeps.mono (by rfl) hlogs).trans (foldl_declareFault_keeps _ _ fun a ha => by rw [hclass]; exact h a ha)

theorem noteFault_partnerHere (s : State) (n : Nat) (d : Word) (l f : Bool) (p : Nat) :
    (noteFault s n d l f p).pair.partnerHere = s.pair.partnerHere := by
  unfold noteFault
  extract_lets detail src cls old count logIt histIt src' entry noted logged faults latched pair told
  have hlogs : Keeps ⟨[.log], [], false⟩ noted logged := .ite (logEvent_keeps _ _ _ _ _ _ _ _ (by rfl)) (.refl _)
  have hemits : ∀ w b, Keeps ⟨[.emitted], [], false⟩ told (if told.paired = true then told.emit (.bridle w b) else told) :=
    fun w b => .ite (emit_keeps _ _ (by rfl)) (.refl _)
  calc _ = told.pair.partnerHere := congrArg PairSt.partnerHere ((hemits _ _).same .pair (by rfl))
    _ = logged.pair.partnerHere := rfl
    _ = s.pair.partnerHere := congrArg PairSt.partnerHere (hlogs.same .pair (by rfl))

theorem foldl_declareFault_partnerHere (l : List (Nat × Nat)) (s : State) (h : ∀ a ∈ l, s.sourceClass a.1 ≠ 2) :
    (l.foldl (fun s a => declareFault s a.1 a.2) s).pair.partnerHere = s.pair.partnerHere := by
  induction l generalizing s with
  | nil => rfl
  | cons a l ih =>
    have hnot : declareFault s a.1 a.2 = noteFault s a.1 a.2 := if_neg (h a List.mem_cons_self)
    have hnote : Keeps ⟨noteFields, [], false⟩ s (noteFault s a.1 a.2) := noteFault_keeps _ _ _ _ _ _ (by rfl)
    refine (ih (declareFault s a.1 a.2) fun b hb => ?_).trans (hnot ▸ noteFault_partnerHere ..)
    have hclass : (noteFault s a.1 a.2).sourceClass b.1 = s.sourceClass b.1 :=
      congrArg (bits · 31 30) (elem_of_dict (hnote.same .dict (by rfl)) _ _)
    rw [hnot, hclass]
    exact h b (List.mem_cons_of_mem _ hb)

theorem bootDone_partnerHere (s : State) (h : ∀ a ∈ s.boot.pendingAlarms, s.sourceClass a.1 ≠ 2) :
    (bootDone s).pair.partnerHere = s.pair.partnerHere := by
  unfold bootDone
  extract_lets alarms trial entries boot settled logged
  have hlogs : Keeps ⟨[.log], [], false⟩ settled logged := .foldl (fun _ _ => logEvent_keeps _ _ _ _ _ _ _ _ (by rfl)) _ _
  have hclass : ∀ n, logged.sourceClass n = s.sourceClass n := fun n =>
    congrArg (bits · 31 30) (elem_of_dict (hlogs.same .dict (by rfl)) _ _)
  exact (foldl_declareFault_partnerHere _ _ fun a ha => by rw [hclass]; exact h a ha).trans
    (congrArg PairSt.partnerHere (hlogs.same .pair (by rfl)))

/-- An entry to FAULTED gives up a staging, and no alarm that waits for the next boot. -/
theorem endStaging_pendingAlarms (s : State) (r : Nat) (st : Option Nat) :
    (endStaging s r st).boot.pendingAlarms = s.boot.pendingAlarms := by
  unfold endStaging
  split
  · dsimp only
    split
    · exact (congrArg BootSt.pendingAlarms ((finishWaiting_keeps (F := ⟨answerFields, [0x1001], false⟩) _ _ _ _ _ (by rfl)).same .boot (by rfl))).trans rfl
    · rfl
  · rfl

theorem enterFaulted_pendingAlarms (s : State) (n : Nat) (d : Word) :
    (enterFaulted s n d).boot.pendingAlarms = s.boot.pendingAlarms := by
  unfold enterFaulted
  extract_lets what faults stopped dropped discarded cancelled abandoned failed
  split
  · rfl
  · have hrest : Keeps ⟨faultedFields.filter (· != .boot), [0x1001], false⟩ stopped ((List.range 16).foldl (failWindow stFaulted) abandoned) :=
      (setMode_keeps _ _ (by rfl)).trans <| (dropClaim_keeps _ (by rfl)).trans <| (discardEvents_keeps _ _ _ (by rfl)).trans <|
        (cancelMoves_keeps _ (by rfl)).trans <| (abandonTransfers_keeps _ _ (by rfl)).trans <|
          (Keeps.foldl (fun _ _ => failWindow_keeps _ _ _ (by rfl)) _ _)
    have hboot : failed.boot = s.boot := hrest.same .boot (by rfl)
    have hspools : (failSpools (endStaging failed 7 (some stFaulted))).boot = (endStaging failed 7 (some stFaulted)).boot :=
      (failSpools_keeps (F := ⟨[.spools], [], false⟩) _ (by rfl)).same .boot (by rfl)
    calc _ = (endStaging failed 7 (some stFaulted)).boot.pendingAlarms := congrArg BootSt.pendingAlarms hspools
      _ = failed.boot.pendingAlarms := endStaging_pendingAlarms _ _ _
      _ = s.boot.pendingAlarms := congrArg BootSt.pendingAlarms hboot

theorem declareFault_pendingAlarms (s : State) (n : Nat) (d : Word) (l f : Bool) (p : Nat) :
    (declareFault s n d l f p).boot.pendingAlarms = s.boot.pendingAlarms := by
  have hnote : (noteFault s n d l f p).boot = s.boot := (noteFault_keeps (F := ⟨noteFields, [], false⟩) s n d l f p (by rfl)).same .boot (by rfl)
  unfold declareFault
  dsimp only
  split
  · exact (enterFaulted_pendingAlarms ..).trans (congrArg BootSt.pendingAlarms hnote)
  · exact congrArg BootSt.pendingAlarms hnote

theorem askJoin_pendingAlarms (s : State) : (askJoin s).boot.pendingAlarms = s.boot.pendingAlarms := by
  have hemit : ∀ (a : State) e, (a.emit e).boot = a.boot := fun a e => (emit_keeps (F := ⟨[.emitted], [], false⟩) a e (by rfl)).same .boot (by rfl)
  unfold askJoin
  split
  · rfl
  · dsimp only
    split
    · rfl
    · split
      · exact declareFault_pendingAlarms ..
      · split
        · exact congrArg BootSt.pendingAlarms (hemit _ _)
        · rfl

theorem enterSolo_enters (s : State) : (enterSolo s).mode = .solo ∧ (enterSolo s).boot = { s.boot with phase := .ended } :=
  ⟨setMode_mode _ _, (setMode_keeps (F := ⟨[.mode, .log], [], false⟩) _ _ (by rfl)).same .boot (by rfl)⟩

theorem booting_iff {p : BootPhase} : s.booting p = true ↔ s.mode = .boot ∧ s.running = true ∧ s.boot.phase = p := by
  unfold State.booting
  simp [and_assoc]

section
variable (hready : s.booting .ready = true) (hclass : ∀ a ∈ s.boot.pendingAlarms, s.sourceClass a.1 ≠ 2)
include hready hclass

/-- After a boot that succeeds the device is in BOOT still, and no alarm waits. -/
theorem bootDone_done : (bootDone s).mode = .boot ∧ (bootDone s).boot.pendingAlarms = [] ∧ (bootDone s).paired = s.paired ∧
    (bootDone s).up = s.up := by
  obtain ⟨b, hb, hkeeps⟩ := bootDone_keeps s hclass
  have hmode : (bootDone s).mode = s.mode := hkeeps.same .mode (by rfl)
  exact ⟨hmode.trans (booting_iff.1 hready).1, (congrArg BootSt.pendingAlarms (hkeeps.same .boot (by rfl))).trans hb,
    flag_of_dict (hkeeps.same .dict (by rfl)) _ _ _, congrArg₂ (· - ·) (hkeeps.same .now (by rfl)) (hkeeps.same .stepped (by rfl))⟩

/-- The boot of a device that does not run on its own ends in SERVICE. -/
theorem endBoot_service (hauto : (s.boot.installed && s.boot.auto && !s.boot.recovery) = false) :
    (endBoot s).mode = .service ∧ (endBoot s).boot.pendingAlarms = [] := by
  obtain ⟨hmode, halarms, -⟩ := bootDone_done hready hclass
  have hends : endBoot s = setMode { bootDone s with boot := { (bootDone s).boot with phase := .ended } } .service := by
    unfold endBoot
    rw [hauto, if_neg (by simp [hready])]
    dsimp only
    rw [if_neg (by simp [hmode])]
    rfl
  rw [hends]
  exact ⟨setMode_mode _ _, (congrArg BootSt.pendingAlarms ((setMode_keeps (F := ⟨[.mode, .log], [], false⟩) _ _ (by rfl)).same .boot (by rfl))).trans halarms⟩

/-- The boot of a device that runs on its own ends in SOLO, in the wait for a partner, or in a join. -/
theorem endBoot_auto (hauto : (s.boot.installed && s.boot.auto && !s.boot.recovery) = true) (hlanes : s.lanesReady = true ∨ 5500000000 ≤ s.up) :
    (endBoot s).boot.pendingAlarms = [] ∧ (s.paired = false → (endBoot s).mode = .solo) ∧
      (s.paired = true → s.pair.partnerHere = false → (endBoot s).boot.phase = .bridleWait ∧ (endBoot s).boot.enabledAt = some s.up) := by
  obtain ⟨hmode, halarms, hpaired, hup⟩ := bootDone_done hready hclass
  have hhere := bootDone_partnerHere s hclass
  have hgo : (!s.booting .ready || (true && !s.lanesReady && decide (s.up < 5500000000))) = false := by
    rcases hlanes with h | h
    · simp [hready, h]
    · simp [hready, not_lt.2 h]
  have hsolo : ∀ u : State, (enterSolo u).boot.pendingAlarms = u.boot.pendingAlarms := fun u =>
    (congrArg BootSt.pendingAlarms (enterSolo_enters u).2).trans rfl
  unfold endBoot
  rw [hauto]
  dsimp only
  rw [if_neg (ne_true_of_eq_false hgo), if_neg (by simp [hmode]), if_neg (by simp), hpaired]
  cases hp : s.paired
  · rw [if_pos (by rfl)]
    exact ⟨(hsolo _).trans halarms, fun _ => (enterSolo_enters _).1, fun h => absurd h (by simp)⟩
  · rw [if_neg (by simp)]
    refine ⟨?_, fun h => absurd h (by simp), fun _ hnone => ?_⟩
    · split
      · exact halarms
      · split
        · exact (askJoin_pendingAlarms _).trans halarms
        · exact (hsolo _).trans halarms
    · rw [hhere, hnone, if_pos (by simp), hup]
      exact ⟨rfl, rfl⟩

end

/-! The installation of the stored configuration (R544). -/

theorem syncBridges_boot (s : State) : (syncBridges s).boot = s.boot := (congrArg State.boot (syncBridges_withoutBridges s) :)

theorem syncBridges_moves (s : State) : (syncBridges s).moves = s.moves := (congrArg State.moves (syncBridges_withoutBridges s) :)

theorem installAll_installed (s : State) (c : Saved) : (installAll s c).boot.installed = true ∧ (installAll s c).moves = [] := by
  unfold installAll
  exact ⟨congrArg BootSt.installed (syncBridges_boot _), syncBridges_moves _⟩

section
variable (hboot : s.booting .install = true)
include hboot

theorem installConfig_none (hnone : s.savedCopy = none) : installConfig s = { s with boot := { s.boot with phase := .ready } } := by
  have hsaved : ({ s with boot := { s.boot with phase := .ready } } : State).savedCopy = none := hnone
  unfold installConfig
  rw [if_pos hboot]
  dsimp only at hsaved ⊢
  rw [hsaved]

theorem installConfig_some {c : Saved} (hsome : s.savedCopy = some c) : installConfig s =
    if installFails (installAll { s with boot := { s.boot with phase := .ready } } c) c = true then
      { s with boot := { s.boot with
        phase := .ready, installed := false, auto := false, pendingAlarms := s.boot.pendingAlarms ++ [(0x00A, 0)] } }
    else installAll { s with boot := { s.boot with phase := .ready } } c := by
  have hsaved : ({ s with boot := { s.boot with phase := .ready } } : State).savedCopy = some c := hsome
  unfold installConfig
  rw [if_pos hboot]
  dsimp only at hsaved ⊢
  rw [hsaved]

theorem installConfig_installs {c : Saved} (hsome : s.savedCopy = some c)
    (hpasses : installFails (installAll { s with boot := { s.boot with phase := .ready } } c) c = false) :
    (installConfig s).boot.installed = true ∧ (installConfig s).moves = [] := by
  rw [installConfig_some hboot hsome, if_neg (ne_true_of_eq_false hpasses)]
  exact installAll_installed _ _

end

/-- Settles O36, phase by phase. -/
theorem bootRuns : Obligations.BootRuns := by
  unfold Obligations.BootRuns
  refine ⟨?_, ?_, ?_, ?_, ?_, ?_, ?_, ?_, ?_, ?_, ?_, ?_, ?_, ?_⟩
  case refine_1 =>
    intro s hboot
    obtain ⟨-, hr, -⟩ := booting_iff.1 hboot
    obtain ⟨hphase, hok⟩ := chooseSlot_verifies { s.fresh with boot := { s.boot with selfCheckOk := true } }
    refine actRunning_does (f := fun s => if s.booting .selfCheck then chooseSlot { s with boot := { s.boot with selfCheckOk := true } } else s)
      rfl hr ?_
    dsimp only
    rw [if_pos (show s.fresh.booting .selfCheck = true from hboot)]
    exact ⟨hok, hphase, fun hgood hnext hother =>
      chooseSlot_first (s := { s.fresh with boot := { s.boot with selfCheckOk := true } }) hgood hnext hother⟩
  case refine_2 =>
    intro s m hboot
    obtain ⟨hmode, hr, -⟩ := booting_iff.1 hboot
    refine actRunning_does (f := fun s => if s.booting .selfCheck then (match some m with
      | none => chooseSlot { s with boot := { s.boot with selfCheckOk := true } }
      | some m => { noteFault s 0x000 (m * 2 ^ 56) with boot := { s.boot with phase := .stuck } }) else s) rfl hr ?_
    dsimp only
    rw [if_pos (show s.fresh.booting .selfCheck = true from hboot)]
    have hnote := noteFault_keeps (F := ⟨noteFields, [], false⟩) s.fresh 0x000 (m * 2 ^ 56) false false 0 (by rfl)
    obtain ⟨lastLog, lastHist, hsource⟩ := noteFault_source s.fresh 0x000 (m * 2 ^ 56) false false 0
    exact ⟨rfl, (hnote.same .mode (by rfl)).trans hmode, congrArg FaultSrc.count hsource⟩
  case refine_3 =>
    intro s hboot himage
    obtain ⟨-, hr, -⟩ := booting_iff.1 hboot
    refine actRunning_does (f := fun s => if s.booting .verify then (match verifyImage s.bootImage with
      | some (reason, comp) => rejectSlot s reason comp
      | none => { s with boot := { s.boot with phase := .start 1, running := s.boot.chosen } }) else s) rfl hr ?_
    dsimp only
    rw [if_pos (show s.fresh.booting .verify = true from hboot), show verifyImage s.fresh.bootImage = none from himage]
    exact ⟨rfl, rfl⟩
  case refine_4 =>
    intro s n reason component hboot himage hchosen hn
    obtain ⟨-, hr, -⟩ := booting_iff.1 hboot
    refine actRunning_does (f := fun s => if s.booting .verify then (match verifyImage s.bootImage with
      | some (reason, comp) => rejectSlot s reason comp
      | none => { s with boot := { s.boot with phase := .start 1, running := s.boot.chosen } }) else s) rfl hr ?_
    dsimp only
    rw [if_pos (show s.fresh.booting .verify = true from hboot), show verifyImage s.fresh.bootImage = some (reason, component) from himage]
    exact rejectSlot_rejects (s := s.fresh) hchosen hn reason component
  case refine_5 =>
    intro s i hr hmode hphase hstart
    refine actRunning_does (f := fun s => match s.boot.phase with
      | .start i => if s.mode ≠ .boot then s else if mayStart s.bootImage i then { s with boot := { s.boot with phase := .waitReady i } }
        else rejectSlot s 5 i
      | _ => s) rfl hr ?_
    dsimp only
    rw [show s.fresh.boot.phase = .start i from hphase]
    dsimp only
    rw [if_neg (by simp [show s.fresh.mode = .boot from hmode]), if_pos (show mayStart s.fresh.bootImage i = true from hstart)]
    rfl
  case refine_6 =>
    intro s i n hr hmode hphase hstart hchosen hn
    refine actRunning_does (f := fun s => match s.boot.phase with
      | .start i => if s.mode ≠ .boot then s else if mayStart s.bootImage i then { s with boot := { s.boot with phase := .waitReady i } }
        else rejectSlot s 5 i
      | _ => s) rfl hr ?_
    dsimp only
    rw [show s.fresh.boot.phase = .start i from hphase]
    dsimp only
    rw [if_neg (by simp [show s.fresh.mode = .boot from hmode]), if_neg (by simp [show mayStart s.fresh.bootImage i = false from hstart])]
    obtain ⟨hstate, hreason, hcomponent, -⟩ := rejectSlot_rejects (s := s.fresh) hchosen hn 5 i
    exact ⟨hstate, hreason, hcomponent⟩
  case refine_7 =>
    intro s i hr hmode hphase
    refine actRunning_does (f := fun s => match s.boot.phase with
      | .waitReady i => if s.mode = .boot then { s with boot := { s.boot with phase := if 5 ≤ i then .install else .start (i + 1) } } else s
      | _ => s) rfl hr ?_
    dsimp only
    rw [show s.fresh.boot.phase = .waitReady i from hphase]
    dsimp only
    rw [if_pos (show s.fresh.mode = .boot from hmode)]
  case refine_8 =>
    intro s i n hr hmode hphase hchosen hn
    refine actRunning_does (f := fun s => match s.boot.phase with
      | .waitReady i => if s.mode = .boot then rejectSlot s 6 i else s
      | _ => s) rfl hr ?_
    dsimp only
    rw [show s.fresh.boot.phase = .waitReady i from hphase]
    dsimp only
    rw [if_pos (show s.fresh.mode = .boot from hmode)]
    obtain ⟨hstate, hreason, -, hreset, -⟩ := rejectSlot_rejects (s := s.fresh) hchosen hn 6 i
    exact ⟨hstate, hreason, hreset⟩
  case refine_9 =>
    intro s hboot hnone
    obtain ⟨-, hr, -⟩ := booting_iff.1 hboot
    refine actRunning_does (f := installConfig) rfl hr ?_
    rw [installConfig_none (s := s.fresh) hboot hnone]
    rfl
  case refine_10 =>
    intro s c hboot hsome hfails
    obtain ⟨-, hr, -⟩ := booting_iff.1 hboot
    refine actRunning_does (f := installConfig) rfl hr ?_
    rw [(installConfig_some (s := s.fresh) hboot hsome).trans (if_pos hfails)]
    exact ⟨rfl, rfl, rfl, List.mem_append_right _ (List.mem_singleton_self _)⟩
  case refine_11 =>
    intro s c hboot hsome hpasses
    obtain ⟨-, hr, -⟩ := booting_iff.1 hboot
    refine actRunning_does (f := installConfig) rfl hr ?_
    have hinstalls := installConfig_installs (s := s.fresh) hboot hsome hpasses
    exact ⟨hinstalls.1, hinstalls.2⟩
  case refine_12 =>
    intro s hboot hauto hclass
    obtain ⟨-, hr, -⟩ := booting_iff.1 hboot
    exact actRunning_does (f := endBoot) rfl hr (endBoot_service (s := s.fresh) hboot hclass hauto)
  case refine_13 =>
    intro s hboot hauto hlanes hclass
    obtain ⟨-, hr, -⟩ := booting_iff.1 hboot
    exact actRunning_does (f := endBoot) rfl hr (endBoot_auto (s := s.fresh) hboot hclass hauto hlanes)
  case refine_14 =>
    intro s a hboot henabled hdue
    obtain ⟨-, hr, -⟩ := booting_iff.1 hboot
    refine actRunning_does (f := fun s => match s.boot.enabledAt with
      | some t => if s.booting .bridleWait && decide (t + 500000000 ≤ s.up) then enterSolo s else s
      | none => s) rfl hr ?_
    dsimp only
    rw [show s.fresh.boot.enabledAt = some a from henabled]
    dsimp only
    rw [if_pos (show (s.fresh.booting .bridleWait && decide (a + 500000000 ≤ s.fresh.up)) = true from
      (Bool.and_eq_true _ _).mpr ⟨hboot, decide_eq_true hdue⟩)]
    obtain ⟨hmode, hended⟩ := enterSolo_enters s.fresh
    exact ⟨hmode, congrArg BootSt.phase hended⟩

end Sys2Proof.Machine
end

section
/-! SUPPORT. Footprints of power, boot, update and memory (R523-R551). -/

namespace Sys2Proof.Machine

variable {F : Foot}

/-! Power and boot. -/

theorem holdReset_keeps (s : State) (hF : F.holds [.boot, .pair] = true) : Keeps F s (holdReset s) := .set [.boot, .pair] rfl hF

theorem loseSram_keeps (s : State) (hF : F.holds [.log, .faults] = true) : Keeps F s (loseSram s) := .set [.log, .faults] rfl hF

theorem raisePower_keeps (s : State) (hF : F.holds [.boot] = true) : Keeps F s (raisePower s) := .ite (.set [.boot] rfl hF) (.refl s)

theorem rejectSlot_keeps (s : State) (r c : Nat) (hF : F.holds [.boot, .pair] = true) : Keeps F s (rejectSlot s r c) := by
  refine .mono hF ?_
  have hnoted : ∀ n x, Keeps ⟨[.boot, .pair], [], false⟩ s (noteSlot s n (s.setSlot n x)) := fun n x => .set [.boot] rfl (by rfl)
  unfold rejectSlot
  split
  · exact .set [.boot] rfl (by rfl)
  · exact (Keeps.ite ((hnoted _ _).trans (nextSlot_keeps _ _ (by rfl))) (hnoted _ _)).trans (.set [.boot, .pair] rfl (by rfl))

theorem chooseSlot_keeps (s : State) (hF : F.holds [.boot] = true) : Keeps F s (chooseSlot s) := by
  refine .mono hF ?_
  unfold chooseSlot
  extract_lets rejected judged trial good take
  have hrejected : ∀ (v : State) (n : Nat), Keeps ⟨[.boot], [], false⟩ v (rejected v n) := fun v n =>
    .ite (.set [.boot] rfl (by rfl)) (.refl v)
  have hjudged : Keeps ⟨[.boot], [], false⟩ s judged := (hrejected s 0).trans (hrejected _ 1)
  split
  · exact hjudged.trans (.set [.boot] rfl (by rfl))
  · split
    · exact hjudged.trans (.set [.boot] rfl (by rfl))
    · exact hjudged.trans (.set [.boot] rfl (by rfl))

theorem enterSolo_keeps (s : State) (hF : F.holds [.mode, .log, .boot] = true) : Keeps F s (enterSolo s) :=
  .mono hF (.trans (.set [.boot] rfl (by rfl)) (setMode_keeps _ _ (by rfl)))

theorem healthLost_keeps (s : State) (hF : F.holds [.log, .boot, .pair] = true) : Keeps F s (healthLost s) := by
  refine .mono hF ?_
  have hslot : ∀ n x, Keeps ⟨[.log, .boot, .pair], [], false⟩ s (s.setSlot n x) := fun n x => setSlot_keeps s n x (by rfl)
  unfold healthLost
  split
  · refine .ite (.trans ?_ (holdReset_keeps _ (by rfl))) (.refl s)
    refine .trans (.trans ?_ (logEvent_keeps _ _ _ _ _ _ _ _ (by rfl))) (.set [.boot] rfl (by rfl))
    exact .ite ((hslot _ _).trans (nextSlot_keeps _ _ (by rfl))) (hslot _ _)
  · exact .refl s

/-! Staging and the stored configuration. -/

theorem stageHandler_keeps (s u : State) (b : List Byte) (hF : F.holds [.boot] = true) : Keeps F u ((stageHandler s b).commit u) := by
  have hnext : ∀ v : State, Keeps F v (match v.boot.running with
      | some r => nextSlot v r
      | none => v) := by
    intro v
    split
    · exact nextSlot_keeps _ _ hF
    · exact .refl v
  exact ((setSlot_keeps u u.spareSlot { state := 1 } hF).trans (hnext _)).trans (.set [.boot] rfl hF)

theorem stagingDone_keeps (s : State) (file : List Byte) (hF : F.holds [.boot, .dict, .req, .emitted] [0x1001] = true) :
    Keeps F s (stagingDone s file) := by
  refine .mono hF ?_
  unfold stagingDone
  refine .ite (.refl s) (.ite (endStaging_keeps _ _ _ (by rfl)) ?_)
  exact .trans (.set [.boot] rfl (by rfl)) (finishWaiting_keeps _ _ _ _ _ (by rfl))

theorem stagingFails_keeps (s : State) (r : Nat) (hF : F.holds [.boot, .dict, .req, .emitted] [0x1001] = true) :
    Keeps F s (stagingFails s r) := by
  unfold stagingFails
  split
  case h_7 => exact .refl s
  all_goals exact endStaging_keeps _ _ _ hF

theorem healthHandler_keeps (s u : State) (b : List Byte) (hF : F.holds [.boot] = true) : Keeps F u ((healthHandler s b).commit u) := by
  unfold healthHandler
  dsimp only
  split
  · exact .trans (.set [.boot] rfl hF) ((setSlot_keeps _ _ _ hF).trans (nextSlot_keeps _ _ hF))
  · exact .set [.boot] rfl hF

theorem configCommand_keeps (s u : State) (b : List Byte) (hF : F.holds [.boot] = true) : Keeps F u ((configCommand s b).commit u) := by
  unfold configCommand
  dsimp only
  split
  · exact .set [.boot] rfl hF
  · exact .set [.boot] rfl hF
  · split
    · exact nextSlot_keeps _ _ hF
    · exact .refl u

theorem configDone_keeps (s : State) (hF : F.holds [.boot, .dict, .req, .emitted] [0x1001] = true) : Keeps F s (configDone s) := by
  refine .mono hF ?_
  unfold configDone
  refine .ite (.trans (.set [.boot] rfl (by rfl)) (finishWaiting_keeps _ _ _ _ _ (by rfl))) ?_
  split
  · exact .refl s
  · refine .ite (.trans (.set [.boot] rfl (by rfl)) (finishWaiting_keeps _ _ _ _ _ (by rfl))) ?_
    exact .trans (.set [.boot] rfl (by rfl)) (finishWaiting_keeps _ _ _ _ _ (by rfl))

/-! Declarations at the end of a boot (R521, R545). -/

theorem bootDone_faults (s : State) (hF : F.holds [.boot, .log, .faults, .pair, .emitted] = true) : Faults F s (bootDone s) := by
  refine .mono hF ?_
  unfold bootDone
  extract_lets alarms trial entries boot settled logged
  have hlogged : Keeps (Foot.noMode ⟨[.boot, .log, .faults, .pair, .emitted], [], false⟩) s logged :=
    .trans (.set [.boot] rfl (by rfl)) (.foldl (fun _ _ => logEvent_keeps _ _ _ _ _ _ _ _ (by rfl)) _ settled)
  exact hlogged.faults.trans (.foldl (fun _ _ => declareFault_faults _ _ _ _ _ _ (by rfl)) _ _)

theorem notCompatible_faults (s : State) (hF : F.holds noteFields = true) : Faults F s (notCompatible s) := by
  refine .mono hF ?_
  exact .trans (Keeps.faults (.set [.pair] rfl (by rfl))) (declareFault_faults _ _ _ _ _ _ (by rfl))

theorem askJoin_faults (s : State) (hF : F.holds noteFields = true) : Faults F s (askJoin s) := by
  refine .mono hF ?_
  have hasked : Keeps (Foot.noMode ⟨noteFields, [], false⟩) s { s with pair := { s.pair with joinAsked := some s.up } } := .set [.pair] rfl (by rfl)
  unfold askJoin
  exact .ite (.refl s) (.ite hasked.faults (.ite (hasked.faults.trans (notCompatible_faults _ (by rfl)))
    (.ite (hasked.trans (emit_keeps _ _ (by rfl))).faults hasked.faults)))

theorem endBoot_keeps (s : State) (hF : F.holds faultedFields [0x1001] = true) : Keeps F s (endBoot s) := by
  refine .mono hF ?_
  have hdone : Keeps ⟨faultedFields, [0x1001], false⟩ s (bootDone s) := (bootDone_faults _ (by rfl)).keeps (by rfl)
  have hends : ∀ b, Keeps ⟨faultedFields, [0x1001], false⟩ s { bootDone s with boot := b } := fun b => hdone.trans (.set [.boot] rfl (by rfl))
  unfold endBoot
  refine .ite (.refl s) (.ite (hends _) (.ite ((hends _).trans (setMode_keeps _ _ (by rfl)))
    (.ite (hdone.trans (enterSolo_keeps _ (by rfl))) (.ite (hends _) (.ite ?_ ((hends _).trans (enterSolo_keeps _ (by rfl))))))))
  exact (hends _).trans ((askJoin_faults _ (by rfl)).keeps (by rfl))

/-! DMA and memory errors (R546-R551). -/

theorem dmaHalts_faults (s : State) {h : DmaHalt} {f : State → State} (hh : h.memory < 24)
    (hF : F.holds [.dict, .log, .faults, .pair, .emitted] [0xB200] = true) (hf : ∀ u, Faults F u (f u)) : Faults F s (dmaHalts s h f) := by
  have hF' := Foot.holds_noMode hF (by rfl)
  unfold dmaHalts
  refine .ite (.refl s) (.trans (.trans (Keeps.faults ?_) (declareFault_faults _ _ _ _ _ _ (Foot.holds_sub hF (by rfl)))) (hf _))
  exact (count_keeps s (by omega) (Foot.holds_sub hF' (by rfl))).trans (.set [.faults] rfl (Foot.holds_sub hF' (by rfl)))

theorem lapCheck_faults (s : State) (n : Nat) (hF : F.holds noteFields = true) : Faults F s (lapCheck s n) := by
  unfold lapCheck
  refine .ite (.trans (Keeps.faults (.set [.faults] rfl ?_)) (declareFault_faults _ _ _ _ _ _ hF)) (.refl s)
  exact Foot.holds_noMode (Foot.holds_sub hF (by rfl)) (by rfl)

theorem lapEnd_faults (s : State) {n : Nat} (hn : n < 24) (hF : F.holds [.dict, .log, .faults, .pair, .emitted] [0xB300] = true) :
    Faults F s (lapEnd s n) := by
  have hF' := Foot.holds_noMode hF (by rfl)
  have hscrubs : ∀ u x, Keeps F.noMode u { u with faults := x } := fun _ _ => .set [.faults] rfl (Foot.holds_sub hF' (by rfl))
  unfold lapEnd
  refine (lapCheck_faults s n (Foot.holds_sub hF (by rfl))).trans (Keeps.faults ?_)
  exact (put_keeps _ _ (by omega) (Foot.holds_sub hF' (by rfl))).trans (hscrubs _ _)

/-- The fields that a memory error touches beside its declaration, and any element. -/
abbrev damageFoot : Foot :=
  ⟨[.free, .dict, .keys, .log, .faults, .pair, .emitted, .cells, .ins, .ain, .mix, .layers, .heads, .gfx, .feeds, .tether, .winBytes], [], true⟩

section
variable (s : State)

theorem putAny_damages (i j : Nat) (v : Word) : Keeps damageFoot s (s.put i j v) := .setWhole [.dict] rfl (by rfl)

theorem draw_damages : Keeps damageFoot s s.draw := .setWhole [.free] rfl (by rfl)

theorem emptyKeySlot_damages (k : Nat) : Keeps damageFoot s (emptyKeySlot s k) := by
  have hkeys : ∀ x, Keeps damageFoot s { s with keys := x } := fun _ => .setWhole [.keys] rfl (by rfl)
  exact .ite (hkeys _) (.ite (hkeys _) (.ite (hkeys _) (hkeys _)))

theorem emptyLogSlot_damages (k : Nat) : Keeps damageFoot s (emptyLogSlot s k) := .setWhole [.log] rfl (by rfl)

theorem loseCellLine_damages : Keeps damageFoot s (loseCellLine s) := by
  unfold loseCellLine
  dsimp only
  split
  · exact .setWhole [.cells, .feeds, .free] rfl (by rfl)
  · exact draw_damages s

theorem loseExpressCell_damages : Keeps damageFoot s (loseExpressCell s) := by
  unfold loseExpressCell
  dsimp only
  split
  · exact .setWhole [.tether, .dict, .free] rfl (by rfl)
  · exact draw_damages s

theorem zeroDelaySample_damages (n k : Nat) : Keeps damageFoot s (zeroDelaySample s n k) := .setWhole [.ain, .dict] rfl (by rfl)

theorem poisonWindow_damages (w off : Nat) : Keeps damageFoot s (poisonWindow s w off) := .setWhole [.winBytes] rfl (by rfl)

theorem clearStagedLine_damages : Keeps damageFoot s (clearStagedLine s) := by
  unfold clearStagedLine
  dsimp only
  split
  · exact .setWhole [.layers, .free] rfl (by rfl)
  · exact draw_damages s

theorem damageCoef_damages : Keeps damageFoot s (damageCoef s) := by
  unfold damageCoef
  dsimp only
  split
  · exact .setWhole [.dict, .mix, .free] rfl (by rfl)
  · exact draw_damages s

theorem poisonRecord_damages : Keeps damageFoot s (poisonRecord s) := by
  unfold poisonRecord
  extract_lets lines rows planes samples records k drawn k'
  have hdrawn : Keeps damageFoot s drawn := draw_damages s
  split
  · exact hdrawn.trans (.setWhole [.ins] rfl (by rfl))
  · exact hdrawn.trans (.setWhole [.gfx] rfl (by rfl))
  · split
    · exact hdrawn.trans (.setWhole [.heads] rfl (by rfl))
    · exact hdrawn.trans (zeroDelaySample_damages _ _ _)
    · exact hdrawn.trans (poisonWindow_damages _ _ _)
    · exact hdrawn

theorem zeroSample_damages : Keeps damageFoot s (zeroSample s) := .setWhole [.ain, .free] rfl (by rfl)

theorem dataReads_damages (n m : Nat) : Faults damageFoot s (dataReads n m s) :=
  have hcount : ∀ u : State, Keeps damageFoot.noMode u (u.count 0x7200 0x13) := fun u => putAny_damages u _ _ _
  .foldl (fun u _ => (hcount u).faults.trans (declareFault_faults _ _ _ _ _ _ (by rfl))) _ _

theorem damageWork_damages : Faults damageFoot s (damageWork s) := by
  have hdraw : Keeps damageFoot.noMode s s.draw := draw_damages s
  have hmixed : ∀ x, Keeps damageFoot.noMode s ({ s with mix := x } : State).draw := fun _ => .setWhole [.mix, .free] rfl (by rfl)
  have hhit : ∀ x, Faults damageFoot s (dataReads 1 12 ({ s with mix := x } : State).draw) := fun x =>
    (hmixed x).faults.trans (dataReads_damages _ _ _)
  unfold damageWork
  split
  · exact .refl s
  · dsimp only
    split
    · exact hhit _
    · exact hhit _
    · exact hhit _
    · exact hdraw.faults

/-- An uncorrectable error and its declaration. -/
theorem uncorrectable_damages (n a : Nat) : Faults damageFoot s (uncorrectable s n a) := by
  have hcount : Keeps damageFoot.noMode s (s.count 0xB200 (0x20 + n)) := putAny_damages s _ _ _
  have hdeclare : ∀ u k d, Faults damageFoot u (declareFault u k d) := fun u k d => declareFault_faults u k d _ _ _ (by rfl)
  have hnext : ∀ u k d, Keeps damageFoot.noMode (s.count 0xB200 (0x20 + n)) u → Faults damageFoot s (declareFault u k d) :=
    fun u k d hu => (hcount.trans hu).faults.trans (hdeclare u k d)
  unfold uncorrectable
  dsimp only
  refine .ite (hnext _ _ _ (.refl _)) (.ite (hnext _ _ _ ?_) (.ite (hnext _ _ _ ?_) (.ite (hnext _ _ _ (.refl _))
    (.ite (hnext _ _ _ (.refl _)) (.ite ?_ (.ite (hnext _ _ _ ?_) (.ite (hnext _ _ _ ?_) (.ite (hnext _ _ _ ?_)
      (.ite (hnext _ _ _ ?_) (.ite (hnext _ _ _ ?_) (hnext _ _ _ (.refl _))))))))))))
  · exact (draw_damages _).trans (emptyKeySlot_damages _ _)
  · exact emptyLogSlot_damages _ _
  · refine hcount.faults.trans (.trans ?_ (hdeclare _ _ _))
    exact .ite (Keeps.faults (damageCoef_damages _)) (damageWork_damages _)
  · exact zeroSample_damages _
  · exact loseExpressCell_damages _
  · exact .ite (clearStagedLine_damages _) (loseCellLine_damages _)
  · exact draw_damages _
  · exact (poisonRecord_damages _).trans (draw_damages _)

theorem corrected_damages (n a : Nat) : Faults damageFoot s (corrected s n a) := by
  have hcounted : ∀ x, Keeps damageFoot.noMode s { s.count 0xB200 n with faults := x } := fun _ => .setWhole [.dict, .faults] rfl (by rfl)
  have hdeclared : ∀ x, Faults damageFoot s (declareFault { s.count 0xB200 n with faults := x } 0x00F (memoryDetail n a)) := fun x =>
    (hcounted x).faults.trans (declareFault_faults _ _ _ _ _ _ (by rfl))
  exact .ite ((hdeclared _).trans (declareFault_faults _ _ _ _ _ _ (by rfl))) (hdeclared _)

theorem scrubbed_damages (n : Nat) (e : ScrubError) : Faults damageFoot s (scrubbed s n e) := by
  have hchecked : ∀ x, Faults damageFoot s (lapCheck { s with faults := x } n) := fun x =>
    (Keeps.faults (.setWhole [.faults] rfl (by rfl) : Keeps damageFoot.noMode s _)).trans (lapCheck_faults _ _ (by rfl))
  cases e
  · exact hchecked _
  · exact (hchecked _).trans (corrected_damages _ _ _)
  · exact (hchecked _).trans (uncorrectable_damages _ _ _)

end

end Sys2Proof.Machine
end

section
/-! PROOFS. What the commands of power, boot, update, memory, faults, freezes and the debug port leave unchanged. -/

namespace Sys2Proof.Machine

variable {F : Foot}

/-- A request whose handler does nothing at a refusal. -/
theorem Keeps.of_request {c : Instr} {s t : State} {rq : Rq} {op i j : Nat} {b : List Byte} {h : State → Handler}
    (he : exec c s = act s fun s => request s rq op i j b (h s)) (ht : exec c s = .next t)
    (hF : F.holds requestFields [0x1001, 0x5300] = true) (hr : ∀ st u, (h s.fresh).refused st u = u)
    (hc : ∀ u, Keeps F u ((h s.fresh).commit u)) : Keeps F s t := by
  have hemits : F.fields.contains .emitted = true := by simpa using (Foot.holds_iff.1 hF).1 .emitted (by decide)
  exact .of_act (f := fun s => request s rq op i j b (h s)) he ht hemits
    (request_keeps hF hc (fun st u => (hr st u).symm ▸ .refl u) _ _ _ _ _ _)

theorem Faults.of_request {c : Instr} {s t : State} {rq : Rq} {op i j : Nat} {b : List Byte} {h : State → Handler}
    (he : exec c s = act s fun s => request s rq op i j b (h s)) (ht : exec c s = .next t)
    (hF : F.holds requestFields [0x1001, 0x5300] = true) (hr : ∀ st u, (h s.fresh).refused st u = u)
    (hc : ∀ u, Faults F u ((h s.fresh).commit u)) : Faults F s t := by
  have hemits : F.fields.contains .emitted = true := by simpa using (Foot.holds_iff.1 hF).1 .emitted (by decide)
  exact .of_act (f := fun s => request s rq op i j b (h s)) he ht hemits
    (request_faults hF hc (fun st u => (hr st u).symm ▸ .refl u) _ _ _ _ _ _)

theorem elems_lt {s : State} {i : Nat} {e : Nat × Word} (he : e ∈ s.elems i) : e.1 < 65536 := by
  obtain ⟨x, -, rfl⟩ := List.mem_map.1 he
  exact Nat.mod_lt _ (by omega)

theorem Keeps.foldl_mem {α : Type} {s : State} {f : State → α → State} (l : List α) (hf : ∀ a ∈ l, ∀ u, Keeps F u (f u a)) :
    Keeps F s (l.foldl f s) := by
  induction l generalizing s with
  | nil => exact .refl s
  | cons a l ih => exact (hf a List.mem_cons_self s).trans (ih fun b hb => hf b (List.mem_cons_of_mem _ hb))

theorem alarmCleared_keeps (n : Nat) (s : State) (hF : F.holds [.dict, .faults] [0x3200] = true) : Keeps F s (alarmCleared n s) := by
  refine .mono hF ?_
  unfold alarmCleared
  refine .ite (.set [.faults] rfl (by rfl)) (.ite (.foldl_mem _ fun e he u => ?_) (.refl s))
  exact .ite (putFlag_keeps _ _ _ (elems_lt he) (by rfl)) (.refl u)

theorem sourceStateHandler_keeps (s u : State) (n : Nat) (b : List Byte) (hF : F.holds [.dict, .faults] [0x3200] = true) :
    Keeps F u ((sourceStateHandler s n b).commit u) := by
  have hsource : ∀ x, Keeps F u (u.setSource n x) := fun x => setSource_keeps _ _ _ (Foot.holds_sub hF (by rfl))
  unfold sourceStateHandler
  dsimp only
  split
  · exact (hsource _).trans (alarmCleared_keeps _ _ hF)
  · exact hsource _

theorem forceHandler_faults (s u : State) (rq : Rq) (n : Nat) (b : List Byte) (hF : F.holds noteFields = true) :
    Faults F u ((forceHandler s rq n b).commit u) := by
  unfold forceHandler
  dsimp only
  split
  · exact declareFault_faults _ _ _ _ _ _ hF
  · exact .refl u

theorem freezeControl_keeps (s u : State) (b : List Byte) (hF : F.holds [.dict, .recent, .faults] [0xB400] = true) :
    Keeps F u ((freezeControl s b).commit u) := by
  have hcommit : ∀ v, Keeps F u (u.commit 0xB400 0 v) := fun v => commit_keeps _ _ (by decide) (Foot.holds_sub hF (by rfl))
  have hfaults : ∀ (x : State) y, Keeps F x { x with faults := y } := fun _ _ => .set [.faults] rfl (Foot.holds_sub hF (by rfl))
  unfold freezeControl
  dsimp only
  split
  · exact (hcommit _).trans (hfaults _ _)
  · exact hcommit _

theorem freezeHandler_keeps (s u : State) (rq : Rq) (b : List Byte) (hF : F.holds [.events, .order, .dict] [0x2200] = true) :
    Keeps F u ((freezeHandler s rq b).commit u) := by
  unfold freezeHandler
  dsimp only
  split
  · exact .set [.events] rfl (Foot.holds_sub hF (by rfl))
  · exact queueEvent_keeps _ _ hF

theorem freezeHandler_refused (s : State) (rq : Rq) (b : List Byte) (st : Nat) (u : State) : (freezeHandler s rq b).refused st u = u := by
  unfold freezeHandler
  dsimp only
  split <;> rfl

theorem modeHandler_keeps (s u : State) (b : List Byte) (hF : F.holds [.mode, .log, .boot, .pair] = true) :
    Keeps F u ((modeHandler s b).commit u) := by
  refine .mono hF ?_
  unfold modeHandler
  dsimp only
  split
  · exact .ite ((releaseClaim_keeps _ (by rfl)).trans ((setMode_keeps _ _ (by rfl)).trans (turnRest_keeps _ (by rfl)))) (.refl u)
  · exact .ite ((setMode_keeps _ _ (by rfl)).trans (turnRest_keeps _ (by rfl))) (.refl u)
  · refine .ite (.refl u) (.trans ?_ (.set [.boot] rfl (by rfl)))
    exact (Keeps.ite (turnRest_keeps _ (by rfl)) (.refl u)).trans (releaseClaim_keeps _ (by rfl))

/-! The debug port (R570, R571). -/

/-- An instruction loads, and its data register acts or BYPASS stands in its place. -/
theorem Keeps.of_instruct {c : Instr} {s t : State} {code : Nat} {f : State → State} (h : exec c s = instruct s code f)
    (ht : exec c s = .next t) (hF : F.holds [.dbg, .emitted] = true) (hf : ∀ u, Keeps F u (f u)) : Keeps F s t := by
  have hload : ∀ x, Keeps F s.fresh { s.fresh with dbg := x } := fun _ => .set [.dbg] rfl (Foot.holds_sub hF (by rfl))
  exact .of_act (f := fun s => if s.irAllowed code = true then f { s with dbg := { s.dbg with ir := code } }
    else { s with dbg := { s.dbg with ir := 0xFF } }) h ht (by simpa using (Foot.holds_iff.1 hF).1 .emitted (by decide))
    (.ite ((hload _).trans (hf _)) (hload _))

theorem Faults.of_instruct {c : Instr} {s t : State} {code : Nat} {f : State → State} (h : exec c s = instruct s code f)
    (ht : exec c s = .next t) (hF : F.holds [.dbg, .emitted] = true) (hf : ∀ u, Faults F u (f u)) : Faults F s t := by
  have hload : ∀ x, Keeps F.noMode s.fresh { s.fresh with dbg := x } := fun _ =>
    .set [.dbg] rfl (Foot.holds_noMode (Foot.holds_sub hF (by rfl)) (by rfl))
  exact .of_act (f := fun s => if s.irAllowed code = true then f { s with dbg := { s.dbg with ir := code } }
    else { s with dbg := { s.dbg with ir := 0xFF } }) h ht (by simpa using (Foot.holds_iff.1 hF).1 .emitted (by decide))
    (.ite ((hload _).faults.trans (hf _)) (hload _).faults)

theorem openDebug_faults (s : State) (failing : Option Nat) (hF : F.holds [.keys, .log, .faults, .dbg, .pair, .emitted] = true) :
    Faults F s (openDebug s failing) := by
  refine .mono hF ?_
  have hdbg : ∀ (u : State) x, Keeps (Foot.noMode ⟨[.keys, .log, .faults, .dbg, .pair, .emitted], [], false⟩) u { u with dbg := x } :=
    fun _ _ => .set [.dbg] rfl (by rfl)
  have hkeys : Keeps (Foot.noMode ⟨[.keys, .log, .faults, .dbg, .pair, .emitted], [], false⟩) s { s with keys := {} } := .set [.keys] rfl (by rfl)
  unfold openDebug
  dsimp only
  split
  · exact (hkeys.trans (hdbg _ _)).faults.trans (declareFault_faults _ _ _ _ _ _ (by rfl))
  · refine .trans (.trans ((hkeys.trans (logEvent_keeps _ _ _ _ _ _ _ _ (by rfl))).trans (hdbg _ _)).faults
      (declareFault_faults _ _ _ _ _ _ (by rfl))) (hdbg _ _).faults

theorem openingRefused_faults (s : State) (st : Nat) (hF : F.holds [.log, .faults, .dbg, .pair, .emitted] = true) :
    Faults F s (openingRefused s st) := by
  refine .mono hF ?_
  exact .trans (Keeps.faults (.set [.dbg] rfl (by rfl))) (declareFault_faults _ _ _ _ _ _ (by rfl))

theorem openResponse_faults (sig : List Byte) (failing : Option Nat) (s : State)
    (hF : F.holds [.keys, .log, .faults, .dbg, .pair, .emitted] = true) : Faults F s (openResponse sig failing s) := by
  have hdbg : ∀ x, Faults F s { s with dbg := x } := fun _ => Keeps.faults (.set [.dbg] rfl (Foot.holds_noMode (Foot.holds_sub hF (by rfl)) (by rfl)))
  unfold openResponse
  refine .ite (hdbg _) (.ite (hdbg _) ?_)
  split
  · exact openingRefused_faults _ _ (Foot.holds_sub hF (by rfl))
  · exact .ite (openDebug_faults _ _ hF) (openingRefused_faults _ _ (Foot.holds_sub hF (by rfl)))

theorem relock_keeps (v : Word) (s : State) (hF : F.holds [.free, .keys, .log, .dbg] = true) : Keeps F s (relock v s) := by
  refine .mono hF ?_
  unfold relock
  exact .ite (.trans (.set [.dbg, .keys, .free] rfl (by rfl)) (logEvent_keeps _ _ _ _ _ _ _ _ (by rfl))) (.refl s)

/-! Each command. -/

theorem wakeFrame_keeps (s : State) (p : Port) (f : List Byte) (hF : F.holds [.dict, .boot] [0x1001] = true) : Keeps F s (wakeFrame s p f) := by
  refine .mono hF ?_
  unfold wakeFrame
  refine .ite (.ite (.set [.boot] rfl (by rfl)) (.refl s)) ?_
  exact .ite (countPort_keeps _ _ _ (by decide) (by rfl)) (.refl s)

theorem wake_keeps {s t : State} {p : Port} {f : List Byte} (ht : exec (.wake p f) s = .next t) :
    Keeps ⟨[.dict, .boot, .emitted], [0x1001], false⟩ s t := by
  cases p
  case dumusA => exact .of_act (f := fun s => wakeFrame s .dumusA f) rfl ht (by rfl) (wakeFrame_keeps _ _ _ (by rfl))
  case dumusB => exact .of_act (f := fun s => wakeFrame s .dumusB f) rfl ht (by rfl) (wakeFrame_keeps _ _ _ (by rfl))
  all_goals cases ht

theorem stagingFailure_faults {s t : State} {r : Nat} {halt : Option DmaHalt} (hwf : (Instr.stagingFailure r halt).wf = true)
    (ht : exec (.stagingFailure r halt) s = .next t) :
    Faults ⟨[.dict, .req, .log, .faults, .boot, .pair, .emitted], [0x1001, 0xB200], false⟩ s t := by
  have hfails : ∀ (u : State) n, Faults ⟨[.dict, .req, .log, .faults, .boot, .pair, .emitted], [0x1001, 0xB200], false⟩ u (stagingFails u n) :=
    fun u n => (stagingFails_keeps u n (by rfl)).faults
  cases halt with
  | none => exact .of_actRunning (f := fun s => stagingFails s r) rfl ht (by rfl) (hfails _ _)
  | some h =>
    have hmemory : h.memory < 24 := by
      simp only [Instr.wf, DmaHalt.wf, Option.all_some, Bool.and_eq_true, decide_eq_true_eq] at hwf
      exact hwf.2.1.2
    exact .of_actRunning (f := fun s => if s.boot.stageState = 1 then dmaHalts s h fun s => stagingFails s 5 else s) rfl ht (by rfl)
      (.ite (dmaHalts_faults _ hmemory (by rfl) fun u => hfails u 5) (.refl _))

theorem openResponse_faulted {s t : State} {sig : List Byte} {failing : Option Nat} (ht : exec (.openResponse sig failing) s = .next t) :
    Faults ⟨[.keys, .log, .faults, .dbg, .pair, .emitted], [0x1001], false⟩ s t :=
  .of_instruct (f := openResponse sig failing) rfl ht (by rfl) fun u => openResponse_faults _ _ u (by rfl)

theorem relocked_keeps {s t : State} {v : Word} (ht : exec (.relock v) s = .next t) :
    Keeps ⟨[.free, .keys, .log, .dbg, .emitted], [], false⟩ s t :=
  .of_instruct (f := relock v) rfl ht (by rfl) fun u => relock_keeps _ u (by rfl)

theorem interDieResend_keeps {s t : State} (ht : exec .interDieResend s = .next t) :
    Keeps ⟨[.emitted], [], false⟩ s t := by
  exact .of_act (f := id) rfl ht (by rfl) (.refl _)

theorem componentReady_keeps {s t : State} (ht : exec .componentReady s = .next t) :
    Keeps ⟨[.boot, .emitted], [], false⟩ s t := by
  refine .of_actRunning (f := fun s => match s.boot.phase with
    | .waitReady i => if s.mode = .boot then { s with boot := { s.boot with phase := if 5 ≤ i then .install else .start (i + 1) } } else s
    | _ => s) rfl ht (by rfl) ?_
  split
  · exact .ite (.set [.boot] rfl (by rfl)) (.refl _)
  · exact .refl _

theorem exairPowerOn_keeps {s t : State} (ht : exec .exairPowerOn s = .next t) :
    Keeps ⟨[.boot, .emitted], [], false⟩ s t := by
  exact .of_act (f := fun s => if s.boot.exOn then s else
    { s with boot := { s.boot with exOn := true } }) rfl ht (by rfl) (.ite (.refl _) (.set [.boot] rfl (by rfl)))

theorem mainPowerEnable_keeps {s t : State} (ht : exec .mainPowerEnable s = .next t) :
    Keeps ⟨[.boot, .emitted], [], false⟩ s t := by
  exact .of_act (f := raisePower) rfl ht (by rfl) (raisePower_keeps _ (by rfl))

theorem powerSequenceRetry_keeps {s t : State} (ht : exec .powerSequenceRetry s = .next t) :
    Keeps ⟨[.boot, .emitted], [], false⟩ s t := by
  exact .of_act (f := raisePower) rfl ht (by rfl) (raisePower_keeps _ (by rfl))

theorem powerSequenceTimeout_keeps {s t : State} (ht : exec .powerSequenceTimeout s = .next t) :
    Keeps ⟨[.boot, .emitted], [], false⟩ s t := by
  exact .of_act (f := fun s => if s.boot.mainPwrEn ∧ s.boot.inReset then
    { s with boot := { s.boot with mainPwrEn := false, pendingAlarms := s.boot.pendingAlarms ++ [(0x004, 0)] } } else s) rfl ht (by rfl)
    (.ite (.set [.boot] rfl (by rfl)) (.refl _))

theorem dormantPrepare_keeps {s t : State} (ht : exec .dormantPrepare s = .next t) :
    Keeps ⟨[.wake, .emitted], [], false⟩ s t := by
  exact .of_actRunning (f := fun s => if s.dormantFor 10000000 then { s with wake :=
    { node := s.elem 0x1000 0, group := s.elem 0x1001 1, etherType := s.field 0x1001 0 15 0, code := s.keys.wakeCode } } else s) rfl ht
    (by rfl) (.ite (.set [.wake] rfl (by rfl)) (.refl _))

theorem eccWriteback_keeps {s t : State} {m a : Nat} (ht : exec (.eccWriteback m a) s = .next t) :
    Keeps ⟨[.faults, .emitted], [], false⟩ s t := by
  exact .of_onUnit (f := fun s => { s with faults := { s.faults with
    writebacks := s.faults.writebacks.filter fun w => !(w == (m, a)) } }) rfl ht (by rfl) fun _ => .set [.faults] rfl (by rfl)

theorem componentReadyTimeout_keeps {s t : State} (ht : exec .componentReadyTimeout s = .next t) :
    Keeps ⟨[.boot, .pair, .emitted], [], false⟩ s t := by
  refine .of_actRunning (f := fun s => match s.boot.phase with
    | .waitReady i => if s.mode = .boot then rejectSlot s 6 i else s
    | _ => s) rfl ht (by rfl) ?_
  split
  · exact .ite (rejectSlot_keeps _ _ _ (by rfl)) (.refl _)
  · exact .refl _

theorem componentStart_keeps {s t : State} (ht : exec .componentStart s = .next t) :
    Keeps ⟨[.boot, .pair, .emitted], [], false⟩ s t := by
  refine .of_actRunning (f := fun s => match s.boot.phase with
    | .start i => if s.mode ≠ .boot then s else if mayStart s.bootImage i then { s with boot := { s.boot with phase := .waitReady i } }
      else rejectSlot s 5 i
    | _ => s) rfl ht (by rfl) ?_
  split
  · exact .ite (.refl _) (.ite (.set [.boot] rfl (by rfl)) (rejectSlot_keeps _ _ _ (by rfl)))
  · exact .refl _

theorem porstAssert_keeps {s t : State} (ht : exec .porstAssert s = .next t) :
    Keeps ⟨[.boot, .pair, .emitted], [], false⟩ s t := by
  exact .of_act (f := fun s => if s.mode = .dormant then s else holdReset s) rfl ht
    (by rfl) (.ite (.refl _) (holdReset_keeps _ (by rfl)))

theorem porstNRisesInDormant_keeps {s t : State} (ht : exec .porstNRisesInDormant s = .next t) :
    Keeps ⟨[.boot, .pair, .emitted], [], false⟩ s t := by
  exact .of_act (f := fun s => if s.mode = .dormant then
    holdReset { s with boot := { s.boot with mainPwrEn := true } } else s) rfl ht (by rfl)
    (.ite (.trans (.set [.boot] rfl (by rfl)) (holdReset_keeps _ (by rfl))) (.refl _))

theorem slotVerifyComplete_keeps {s t : State} (ht : exec .slotVerifyComplete s = .next t) :
    Keeps ⟨[.boot, .pair, .emitted], [], false⟩ s t := by
  refine .of_actRunning (f := fun s => if s.booting .verify then
    (match verifyImage s.bootImage with
      | some (reason, comp) => rejectSlot s reason comp
      | none => { s with boot := { s.boot with phase := .start 1, running := s.boot.chosen } }) else s) rfl ht (by rfl) ?_
  refine .ite ?_ (.refl _)
  split
  · exact rejectSlot_keeps _ _ _ (by rfl)
  · exact .set [.boot] rfl (by rfl)

theorem bootPartnerWaitEnd_keeps {s t : State} (ht : exec .bootPartnerWaitEnd s = .next t) :
    Keeps ⟨[.mode, .log, .boot, .emitted], [], false⟩ s t := by
  refine .of_actRunning (f := fun s => match s.boot.enabledAt with
    | some t => if s.booting .bridleWait && decide (t + 500000000 ≤ s.up) then enterSolo s else s
    | none => s) rfl ht (by rfl) ?_
  split
  · exact .ite (enterSolo_keeps _ (by rfl)) (.refl _)
  · exact .refl _

theorem dormantPowerDown_keeps {s t : State} (ht : exec .dormantPowerDown s = .next t) :
    Keeps ⟨[.mode, .log, .boot, .emitted], [], false⟩ s t := by
  exact .of_actRunning (f := fun s => if s.dormantFor 20000000 then
    { setMode s .dormant with boot := { (setMode s .dormant).boot with mainPwrEn := false, dormantAt := none } } else s) rfl ht (by rfl)
    (.ite ((setMode_keeps _ _ (by rfl)).trans (.set [.boot] rfl (by rfl))) (.refl _))

theorem configSaveComplete_keeps {s t : State} (ht : exec .configSaveComplete s = .next t) :
    Keeps ⟨[.dict, .req, .boot, .emitted], [0x1001], false⟩ s t := by
  exact .of_actRunning (f := configDone) rfl ht (by rfl)
    (configDone_keeps _ (by rfl))

theorem stagingComplete_keeps {s t : State} {file : List Byte} (ht : exec (.stagingComplete file) s = .next t) :
    Keeps ⟨[.dict, .req, .boot, .emitted], [0x1001], false⟩ s t := by
  exact .of_actRunning (f := fun s => stagingDone s file) rfl ht (by rfl)
    (stagingDone_keeps _ _ (by rfl))

theorem healthConfirmTimeout_keeps {s t : State} (ht : exec .healthConfirmTimeout s = .next t) :
    Keeps ⟨[.log, .boot, .pair, .emitted], [], false⟩ s t := by
  exact .of_actRunning (f := healthLost) rfl ht (by rfl)
    (healthLost_keeps _ (by rfl))

theorem freezeOnFatal_keeps {s t : State} (ht : exec .freezeOnFatal s = .next t) :
    Keeps ⟨[.mode, .log, .faults, .dbg, .emitted], [], false⟩ s t := by
  refine .of_actRunning (f := fatalFreeze) rfl ht (by rfl) ?_
  unfold fatalFreeze
  split
  · exact .ite (freeze_keeps _ _ (by rfl)) (.refl _)
  · exact .refl _

theorem freezePin_keeps {s t : State} (ht : exec .freezePin s = .next t) :
    Keeps ⟨[.mode, .log, .faults, .dbg, .emitted], [], false⟩ s t := by
  exact .of_act (f := fun s => if s.flag 0xB400 0 31 then s else freeze s 1)
    rfl ht (by rfl) (.ite (.refl _) (freeze_keeps _ _ (by rfl)))

theorem powerGoodLost_keeps {s t : State} {kept : Bool} (ht : exec (.powerGoodLost kept) s = .next t) :
    Keeps ⟨[.log, .faults, .boot, .pair, .emitted], [], false⟩ s t := by
  refine .of_act (f := fun s =>
    if s.boot.inReset ∨ s.boot.mainPwrEn = false then s else
      { holdReset (if kept then s else loseSram s) with boot := { (holdReset (if kept then s else loseSram s)).boot with
        pendingAlarms := (holdReset (if kept then s else loseSram s)).boot.pendingAlarms ++ [(0x005, 0)] } }) rfl ht (by rfl) ?_
  refine .ite (.refl _) (.trans (.trans ?_ (holdReset_keeps _ (by rfl))) (.set [.boot] rfl (by rfl)))
  exact .ite (.refl _) (loseSram_keeps _ (by rfl))

theorem selfCheckComplete_keeps {s t : State} {failed : Option Nat} (ht : exec (.selfCheckComplete failed) s = .next t) :
    Keeps ⟨[.log, .faults, .boot, .pair, .emitted], [], false⟩ s t := by
  cases failed with
  | none =>
    exact .of_actRunning (f := fun s => if s.booting .selfCheck then chooseSlot { s with boot := { s.boot with selfCheckOk := true } } else s)
      rfl ht (by rfl) (.ite (.trans (.set [.boot] rfl (by rfl)) (chooseSlot_keeps _ (by rfl))) (.refl _))
  | some m =>
    have hstuck : ∀ (u : State) b, Keeps ⟨[.log, .faults, .boot, .pair, .emitted], [], false⟩ u { u with boot := b } :=
      fun _ _ => .set [.boot] rfl (by rfl)
    exact .of_actRunning (f := fun s => if s.booting .selfCheck then
      { noteFault s 0x000 (m * 2 ^ 56) with boot := { s.boot with phase := .stuck } } else s) rfl ht (by rfl)
      (.ite ((noteFault_keeps _ _ _ _ _ _ (by rfl)).trans (hstuck _ _)) (.refl _))

theorem scrubLapEnd_faults {s t : State} {m : Nat} (ht : exec (.scrubLapEnd m) s = .next t) :
    Faults ⟨[.dict, .log, .faults, .pair, .emitted], [0x1001, 0xB300], false⟩ s t := by
  exact .of_onUnit (f := fun s => lapEnd s m) rfl ht (by rfl)
    fun hm => lapEnd_faults _ hm (by rfl)

theorem alarmClear_keeps {s t : State} {rq : Rq} {n : Nat} {v : Word} (ht : exec (.alarmClear rq n v) s = .next t) :
    Keeps ⟨[.dict, .req, .log, .faults, .pair, .emitted], [0x1001, 0x3200, 0x5300], false⟩ s t := by
  exact .of_request (h := fun s => sourceStateHandler s n (valueBytes rq v)) rfl ht (by rfl)
    (fun _ _ => rfl) fun u => sourceStateHandler_keeps _ u _ _ (by rfl)

theorem configErase_keeps {s t : State} {rq : Rq} (ht : exec (.configErase rq) s = .next t) :
    Keeps ⟨[.dict, .req, .log, .boot, .pair, .emitted], [0x1001, 0x5300], false⟩ s t := by
  exact .of_request (h := fun s => configCommand s (valueBytes rq 2)) rfl ht (by rfl)
    (fun _ _ => rfl) fun u => configCommand_keeps _ u _ (by rfl)

theorem configSave_keeps {s t : State} {rq : Rq} (ht : exec (.configSave rq) s = .next t) :
    Keeps ⟨[.dict, .req, .log, .boot, .pair, .emitted], [0x1001, 0x5300], false⟩ s t := by
  exact .of_request (h := fun s => configCommand s (valueBytes rq 1)) rfl ht (by rfl)
    (fun _ _ => rfl) fun u => configCommand_keeps _ u _ (by rfl)

theorem selectGoodSlot_keeps {s t : State} {rq : Rq} (ht : exec (.selectGoodSlot rq) s = .next t) :
    Keeps ⟨[.dict, .req, .log, .boot, .pair, .emitted], [0x1001, 0x5300], false⟩ s t := by
  exact .of_request (h := fun s => configCommand s (valueBytes rq 3)) rfl ht (by rfl)
    (fun _ _ => rfl) fun u => configCommand_keeps _ u _ (by rfl)

theorem healthConfirm_keeps {s t : State} {rq : Rq} {v : Word} (ht : exec (.healthConfirm rq v) s = .next t) :
    Keeps ⟨[.dict, .req, .log, .boot, .pair, .emitted], [0x1001, 0x5300], false⟩ s t := by
  exact .of_request (h := fun s => healthHandler s (valueBytes rq v)) rfl ht (by rfl)
    (fun _ _ => rfl) fun u => healthHandler_keeps _ u _ (by rfl)

theorem stagePackage_keeps {s t : State} {rq : Rq} {path : List Byte} (ht : exec (.stagePackage rq path) s = .next t) :
    Keeps ⟨[.dict, .req, .log, .boot, .pair, .emitted], [0x1001, 0x5300], false⟩ s t := by
  exact .of_request (h := fun s => stageHandler s path) rfl ht (by rfl)
    (fun _ _ => rfl) fun u => stageHandler_keeps _ u _ (by rfl)

theorem faultForce_faults {s t : State} {rq : Rq} {n : Nat} {v : Word} (ht : exec (.faultForce rq n v) s = .next t) :
    Faults ⟨[.dict, .req, .log, .faults, .pair, .emitted], [0x1001, 0x5300], false⟩ s t := by
  exact .of_request (h := fun s => forceHandler s rq n (valueBytes rq v)) rfl ht (by rfl)
    (fun _ _ => rfl) fun u => forceHandler_faults _ u _ _ _ (by rfl)

theorem licenceTokenWrite_keeps {s t : State} {rq : Rq} {slot : Nat} {b : List Byte} (ht : exec (.licenceTokenWrite rq slot b) s = .next t) :
    Keeps ⟨[.dict, .req, .keys, .log, .pair, .emitted], [0x1001, 0x5300], false⟩ s t := by
  exact .of_request (h := fun s => licenceHandler slot b) rfl ht (by rfl)
    (fun _ _ => rfl) fun u => .set [.keys] rfl (by rfl)

theorem scheduledFreeze_keeps {s t : State} (ht : exec .scheduledFreeze s = .next t) :
    Keeps ⟨[.mode, .events, .log, .faults, .dbg, .emitted], [], false⟩ s t := by
  refine .of_actRunning (f := fireFreeze) rfl ht (by rfl) ?_
  unfold fireFreeze
  split
  · exact .trans (.set [.events] rfl (by rfl)) (freeze_keeps _ _ (by rfl))
  · exact .refl _

theorem freezeCancel_keeps {s t : State} {rq : Rq} {arg : Word} (ht : exec (.freezeCancel rq arg) s = .next t) :
    Keeps ⟨[.dict, .events, .order, .req, .log, .pair, .emitted], [0x1001, 0x2200, 0x5300], false⟩ s t := by
  exact .of_request (h := fun s => freezeHandler s rq (valueBytes rq (setBit arg 0 true))) rfl ht (by rfl)
    (freezeHandler_refused _ _ _) fun u => freezeHandler_keeps _ u _ _ (by rfl)

theorem freezeSchedule_keeps {s t : State} {rq : Rq} {arg : Word} (ht : exec (.freezeSchedule rq arg) s = .next t) :
    Keeps ⟨[.dict, .events, .order, .req, .log, .pair, .emitted], [0x1001, 0x2200, 0x5300], false⟩ s t := by
  exact .of_request (h := fun s => freezeHandler s rq (valueBytes rq (setBit arg 0 false))) rfl ht (by rfl)
    (freezeHandler_refused _ _ _) fun u => freezeHandler_keeps _ u _ _ (by rfl)

theorem powerDown_keeps {s t : State} (ht : exec .powerDown s = .next t) :
    Keeps ⟨[.mode, .log, .faults, .boot, .wake, .pair, .emitted], [], false⟩ s t := by
  have hdown : ∀ (u : State) m b, Keeps ⟨[.mode, .log, .faults, .boot, .wake, .pair, .emitted], [], false⟩ u
      { u with mode := m, wake := {}, boot := b } := fun _ _ _ => .set [.mode, .wake, .boot] rfl (by rfl)
  exact .of_act (f := fun s =>
    { holdReset (loseSram s) with
      mode := if (holdReset (loseSram s)).mode = .dormant then .boot else (holdReset (loseSram s)).mode
      wake := {}
      boot := { (holdReset (loseSram s)).boot with mainPwrEn := false, exOn := false } }) rfl ht (by rfl)
    (((loseSram_keeps _ (by rfl)).trans (holdReset_keeps _ (by rfl))).trans (hdown _ _ _))

theorem rearm_keeps {s t : State} {rq : Rq} {v : Word} (ht : exec (.rearm rq v) s = .next t) :
    Keeps ⟨[.dict, .recent, .req, .log, .faults, .pair, .emitted], [0x1001, 0x5300, 0xB400], false⟩ s t := by
  exact .of_request (h := fun s => freezeControl s (valueBytes rq (setBit v 29 true))) rfl ht (by rfl)
    (fun _ _ => rfl) fun u => freezeControl_keeps _ u _ (by rfl)

theorem requestDormant_keeps {s t : State} {rq : Rq} (ht : exec (.requestDormant rq) s = .next t) :
    Keeps ⟨[.mode, .dict, .req, .log, .boot, .pair, .emitted], [0x1001, 0x5300], false⟩ s t := by
  exact .of_request (h := fun s => modeHandler s (valueBytes rq 0)) rfl ht (by rfl)
    (fun _ _ => rfl) fun u => modeHandler_keeps _ u _ (by rfl)

theorem requestService_keeps {s t : State} {rq : Rq} (ht : exec (.requestService rq) s = .next t) :
    Keeps ⟨[.mode, .dict, .req, .log, .boot, .pair, .emitted], [0x1001, 0x5300], false⟩ s t := by
  exact .of_request (h := fun s => modeHandler s (valueBytes rq 2)) rfl ht (by rfl)
    (fun _ _ => rfl) fun u => modeHandler_keeps _ u _ (by rfl)

theorem requestSolo_keeps {s t : State} {rq : Rq} (ht : exec (.requestSolo rq) s = .next t) :
    Keeps ⟨[.mode, .dict, .req, .log, .boot, .pair, .emitted], [0x1001, 0x5300], false⟩ s t := by
  exact .of_request (h := fun s => modeHandler s (valueBytes rq 3)) rfl ht (by rfl)
    (fun _ _ => rfl) fun u => modeHandler_keeps _ u _ (by rfl)

theorem bootEnd_keeps {s t : State} (ht : exec .bootEnd s = .next t) :
    Keeps ⟨faultedFields, [0x1001], false⟩ s t := by
  exact .of_actRunning (f := endBoot) rfl ht (by rfl) (endBoot_keeps _ (by rfl))

theorem scrubRead_faults {s t : State} {m : Nat} {e : ScrubError} (ht : exec (.scrubRead m e) s = .next t) :
    Faults damageFoot s t := by
  exact .of_onUnit (f := fun s => scrubbed s m e) rfl ht (by rfl) fun _ => scrubbed_damages _ _ _

/-- What an accepted input touches (R596). -/
abbrev acceptedFoot : Foot :=
  ⟨[.dict, .events, .order, .banks, .lastRefusal, .req, .log, .faults, .pair, .busSlotsB, .tether, .fieldBank, .emitted],
    [0xC300, 0x1001, 0x1101, 0x2200, 0x5300], false⟩

theorem acceptRun_faults (s : State) {n : Nat} (hn : n < 32) : Faults acceptedFoot s (acceptRun s n) := by
  have hcounted : Keeps acceptedFoot.noMode s (acceptedLine s n (s.fline n).runSt) :=
    (setFline_keeps _ _ _ (by rfl)).trans (count_keeps _ (by omega) (by rfl))
  have haccept : Faults acceptedFoot (acceptedLine s n (s.fline n).runSt) (acceptLine s n (s.fline n).runSt) :=
    .mono (by rfl) (acceptLine_faults s n (s.fline n).runSt)
  unfold acceptRun
  exact .ite ((hcounted.faults.trans haccept).trans (mirror_keeps _ _ _ _ (by rfl)).faults) (.refl s)

theorem fieldInputAccept_faults {s t : State} {n : Nat} (ht : exec (.fieldInputAccept n) s = .next t) : Faults acceptedFoot s t := by
  obtain ⟨hn, rfl⟩ := onLine_next (f := fun s => acceptRun s n) rfl ht
  have hsettled : Faults acceptedFoot s.fresh (settleLines (acceptRun s.fresh n)) :=
    (acceptRun_faults _ hn).trans (settleLines_keeps _ (by rfl)).faults
  split
  · exact hsettled.around (f := fun s => settleLines (acceptRun s n)) (by rfl)
  · exact (fresh_keeps s (by rfl)).faults

/-- Settles O60, by the footprint of each command's meaning. -/
theorem systemFramed : Obligations.SystemFramed := by
  unfold Obligations.SystemFramed
  intro c s t hwf ht
  cases c
  case interDieResend => exact (interDieResend_keeps ht).eq_graft
  case componentReady => exact (componentReady_keeps ht).eq_graft
  case exairPowerOn => exact (exairPowerOn_keeps ht).eq_graft
  case mainPowerEnable => exact (mainPowerEnable_keeps ht).eq_graft
  case powerSequenceRetry => exact (powerSequenceRetry_keeps ht).eq_graft
  case powerSequenceTimeout => exact (powerSequenceTimeout_keeps ht).eq_graft
  case dormantPrepare => exact (dormantPrepare_keeps ht).eq_graft
  case eccWriteback _ _ => exact (eccWriteback_keeps ht).eq_graft
  case componentReadyTimeout => exact (componentReadyTimeout_keeps ht).eq_graft
  case componentStart => exact (componentStart_keeps ht).eq_graft
  case porstAssert => exact (porstAssert_keeps ht).eq_graft
  case porstNRisesInDormant => exact (porstNRisesInDormant_keeps ht).eq_graft
  case slotVerifyComplete => exact (slotVerifyComplete_keeps ht).eq_graft
  case wake p f => exact (wake_keeps ht).frame (by rfl)
  case bootPartnerWaitEnd => exact (bootPartnerWaitEnd_keeps ht).eq_graft
  case dormantPowerDown => exact (dormantPowerDown_keeps ht).eq_graft
  case configSaveComplete => exact (configSaveComplete_keeps ht).frame (by rfl)
  case stagingComplete _ => exact (stagingComplete_keeps ht).frame (by rfl)
  case healthConfirmTimeout => exact (healthConfirmTimeout_keeps ht).eq_graft
  case freezeOnFatal => exact (freezeOnFatal_keeps ht).eq_graft
  case freezePin => exact (freezePin_keeps ht).eq_graft
  case powerGoodLost _ => exact (powerGoodLost_keeps ht).eq_graft
  case selfCheckComplete _ => exact (selfCheckComplete_keeps ht).eq_graft
  case relock v => exact (relocked_keeps ht).eq_graft
  case scrubLapEnd _ => exact (scrubLapEnd_faults ht).frame (by rfl)
  case alarmClear _ _ _ => exact (alarmClear_keeps ht).frame (by rfl)
  case configErase _ => exact (configErase_keeps ht).frame (by rfl)
  case configSave _ => exact (configSave_keeps ht).frame (by rfl)
  case selectGoodSlot _ => exact (selectGoodSlot_keeps ht).frame (by rfl)
  case healthConfirm _ _ => exact (healthConfirm_keeps ht).frame (by rfl)
  case stagePackage _ _ => exact (stagePackage_keeps ht).frame (by rfl)
  case faultForce _ _ _ => exact (faultForce_faults ht).frame (by rfl)
  case licenceTokenWrite _ _ _ => exact (licenceTokenWrite_keeps ht).frame (by rfl)
  case openResponse sig failing => exact (openResponse_faulted ht).frame (by rfl)
  case scheduledFreeze => exact (scheduledFreeze_keeps ht).eq_graft
  case freezeCancel _ _ => exact (freezeCancel_keeps ht).frame (by rfl)
  case freezeSchedule _ _ => exact (freezeSchedule_keeps ht).frame (by rfl)
  case powerDown => exact (powerDown_keeps ht).eq_graft
  case rearm _ _ => exact (rearm_keeps ht).frame (by rfl)
  case requestDormant _ => exact (requestDormant_keeps ht).frame (by rfl)
  case requestService _ => exact (requestService_keeps ht).frame (by rfl)
  case requestSolo _ => exact (requestSolo_keeps ht).frame (by rfl)
  case stagingFailure r halt => exact (stagingFailure_faults hwf ht).frame (by rfl)
  case fieldInputAccept n => exact (fieldInputAccept_faults ht).framed
  case bootEnd => exact (bootEnd_keeps ht).frame (by rfl)
  case scrubRead _ _ => exact (scrubRead_faults ht).framed
  all_goals exact trivial

end Sys2Proof.Machine
end

section
/-! PROOFS. Commands to a pair member: join, release, relay and drill (R415, R418, R433, R442, R446). -/

namespace Sys2Proof.Machine

/-! What a declaration and a reply write of the pair's state. -/

/-- The part of the pair's state that `g` reads is none that a declaration writes. -/
def Undeclared {α : Type} (g : PairSt → α) : Prop :=
  ∀ p claim drill own, g { p with claimOut := claim, drillResult := drill, ownFault := own } = g p

theorem noteFault_pair (s : State) (n : Nat) (d : Word) (l f : Bool) (p : Nat) :
    ∃ own, (noteFault s n d l f p).pair = { s.pair with ownFault := own } := by
  unfold noteFault
  extract_lets detail src cls old count logIt histIt src' entry noted logged faults latched pair told
  have hlogged : logged.pair = noted.pair :=
    (Keeps.ite (logEvent_keeps (F := ⟨[.log], [], false⟩) _ _ _ _ _ _ _ _ (by rfl)) (.refl _)).same .pair (by rfl)
  have hemits : ∀ w b, (if told.paired = true then told.emit (.bridle w b) else told).pair = told.pair := fun w b =>
    (Keeps.ite (emit_keeps (F := ⟨[.emitted], [], false⟩) _ _ (by rfl)) (.refl _)).same .pair (by rfl)
  exact ⟨told.pair.ownFault, (hemits _ _).trans (congrArg (fun q : PairSt => { q with ownFault := told.pair.ownFault }) hlogged)⟩

theorem discardEvent_pair (s : State) (e : Event) (st : Nat) :
    ∃ drill, (discardEvent s e st).pair = { s.pair with drillResult := drill } := by
  have hnotify : ∀ (a : State) (rq : Rq) (i j : Nat), (notify a rq i j st []).pair = a.pair := fun a rq i j =>
    (notify_keeps (F := ⟨answerFields, [0x1001], false⟩) a rq i j st [] (by rfl)).same .pair (by rfl)
  have hlog : ∀ (a : State) (i j : Nat) (v : Word), (logEvent a i j v 0 e.plane false st).pair = a.pair :=
    fun a i j v => (logEvent_keeps (F := ⟨[.log], [], false⟩) a i j v 0 e.plane false st (by rfl)).same .pair (by rfl)
  unfold discardEvent
  extract_lets gone disarmed pair drilled
  have hdisarmed : disarmed.pair = s.pair :=
    (Keeps.ite (disarm_keeps (F := ⟨[.banks], [], false⟩) _ _ (by rfl)) (.refl gone)).same .pair (by rfl)
  have hdrilled : ∃ drill, drilled.pair = { s.pair with drillResult := drill } := by
    show ∃ drill, (if e.kind = 4 then { disarmed with pair := { disarmed.pair with drillResult := 3 } } else disarmed).pair = _
    split
    · exact ⟨3, by rw [hdisarmed]⟩
    · exact ⟨s.pair.drillResult, hdisarmed⟩
  obtain ⟨drill, hdrill⟩ := hdrilled
  refine ⟨drill, ?_⟩
  split
  split
  · split
    · exact (hnotify _ _ _ _).trans ((hlog _ _ _ _).trans hdrill)
    · exact (hlog _ _ _ _).trans hdrill
  · exact (hlog _ _ _ _).trans hdrill

section
variable {α : Type} {g : PairSt → α} (hg : Undeclared g)
include hg

theorem enterFaulted_pair (s : State) (n : Nat) (d : Word) : g (enterFaulted s n d).pair = g s.pair := by
  have hdiscard : ∀ u e, g (discardEvent u e stFaulted).pair = g u.pair := fun u e => by
    obtain ⟨drill, hdrill⟩ := discardEvent_pair u e stFaulted
    rw [hdrill]
    exact hg u.pair u.pair.claimOut drill u.pair.ownFault
  unfold enterFaulted
  extract_lets what faults stopped dropped discarded cancelled abandoned failed
  split
  · rfl
  · have hrest : Keeps ⟨[.boot, .windows, .spools, .moves, .dict, .ins, .cells, .log, .req, .emitted], [0x1001], false⟩ discarded
        (failSpools (endStaging failed 7 (some stFaulted))) :=
      (cancelMoves_keeps _ (by rfl)).trans <| (abandonTransfers_keeps _ _ (by rfl)).trans <|
        (Keeps.foldl (fun _ _ => failWindow_keeps _ _ _ (by rfl)) _ _).trans <|
          (endStaging_keeps _ _ _ (by rfl)).trans (failSpools_keeps _ (by rfl))
    have hmode : (setMode stopped .faulted).pair = s.pair :=
      (setMode_keeps (F := ⟨[.mode, .log], [], false⟩) stopped .faulted (by rfl)).same .pair (by rfl)
    calc _ = g discarded.pair := congrArg g (hrest.same .pair (by rfl))
      _ = g dropped.pair := foldl_keeps (fun u : State => g u.pair) hdiscard _ dropped
      _ = g (setMode stopped .faulted).pair := hg _ _ _ _
      _ = g s.pair := congrArg g hmode

theorem declareFault_pair (s : State) (n : Nat) (d : Word) (l f : Bool) (p : Nat) : g (declareFault s n d l f p).pair = g s.pair := by
  have hnoted : g (noteFault s n d l f p).pair = g s.pair := by
    obtain ⟨own, hown⟩ := noteFault_pair s n d l f p
    rw [hown]
    exact hg s.pair s.pair.claimOut s.pair.drillResult own
  unfold declareFault
  dsimp only
  split
  · exact (enterFaulted_pair hg _ _ _).trans hnoted
  · exact hnoted

end

/-- What is emitted stays so. -/
def Emits (s t : State) : Prop := s.emitted <+: t.emitted

theorem Emits.refl (s : State) : Emits s s := List.prefix_refl _
theorem Emits.trans {s t u : State} (h : Emits s t) (h' : Emits t u) : Emits s u := List.IsPrefix.trans h h'
theorem Emits.ite {s t u : State} {c : Prop} [Decidable c] (h : Emits s t) (h' : Emits s u) : Emits s (if c then t else u) := by
  split <;> assumption
theorem Emits.of_eq {s t : State} (h : t.emitted = s.emitted) : Emits s t := by
  unfold Emits
  rw [h]
theorem Emits.mem {s t : State} (h : Emits s t) {e : Emission} (he : e ∈ s.emitted) : e ∈ t.emitted := h.subset he

theorem emit_emits (s : State) (e : Emission) : Emits s (s.emit e) := by
  unfold State.emit
  exact .ite (.refl s) (List.prefix_append _ _)

theorem countPort_emits (s : State) (p : Port) (n : Nat) (hn : n < 0x10) : Emits s (countPort s p n) :=
  .of_eq ((countPort_keeps (F := ⟨[.dict], [0x1001], false⟩) s p n hn (by rfl)).same .emitted (by rfl))

theorem sendFrame_emits (s : State) (rq : Rq) (frame : List Byte) : Emits s (sendFrame s rq frame) := by
  unfold sendFrame
  split
  · exact .ite (.of_eq rfl) (countPort_emits _ _ _ (by decide))
  · exact .ite (emit_emits _ _) (.refl s)
  · exact .ite (emit_emits _ _) (.refl s)
  · exact emit_emits _ _
  · exact emit_emits _ _
  · exact .refl s

theorem sendReply_emits (s : State) (rq : Rq) (i j st : Nat) (d : List Byte) : Emits s (sendReply s rq i j st d) := by
  have hsent : ∀ x, Emits s { sendFrame s rq (answerFrame s 9 st rq i j d) with req := x } := fun _ => sendFrame_emits _ _ _
  unfold sendReply
  dsimp only
  split
  · exact .refl s
  · exact .ite ((hsent _).trans (countPort_emits _ _ _ (by decide))) (.refl s)
  · exact .ite ((hsent _).trans (countPort_emits _ _ _ (by decide))) (.refl s)
  · exact (sendFrame_emits _ _ _).trans (countPort_emits _ _ _ (by decide))

theorem streamChange_emits (s : State) (rq : Rq) (op i j st : Nat) (b d : List Byte) : Emits s (streamChange s rq op i j st b d) := by
  have hemits : ∀ (u : State) w c, Emits u (u.emitTwice w c) := fun _ _ _ => (emit_emits _ _).trans (emit_emits _ _)
  unfold streamChange
  extract_lets n pair next
  have hnext : Emits s next := .of_eq rfl
  exact .ite (hnext.trans (hemits next _ _)) (.refl s)

/-- A frame sent takes no request out of those that wait. -/
theorem sendFrame_waiting (s : State) (rq : Rq) (frame : List Byte) : (sendFrame s rq frame).req.waiting = s.req.waiting := by
  have hemit : ∀ e : Emission, (s.emit e).req.waiting = s.req.waiting := fun e =>
    congrArg ReqSt.waiting ((emit_keeps (F := ⟨[.emitted], [], false⟩) s e (by rfl)).same .req (by rfl))
  unfold sendFrame
  split
  · split
    · rfl
    · exact congrArg ReqSt.waiting (countPort_req _ _ _)
  · split
    · exact hemit _
    · rfl
  · split
    · exact hemit _
    · rfl
  · exact hemit _
  · exact hemit _
  · rfl

theorem sendReply_waiting (s : State) (rq : Rq) (i j st : Nat) (d : List Byte) : (sendReply s rq i j st d).req.waiting = s.req.waiting := by
  have hcount : ∀ (u : State), (countPort u rq.port 6).req.waiting = u.req.waiting := fun u => congrArg ReqSt.waiting (countPort_req _ _ _)
  unfold sendReply
  dsimp only
  split
  · rfl
  · split
    · exact (hcount _).trans rfl
    · rfl
  · split
    · exact (hcount _).trans rfl
    · rfl
  · exact (hcount _).trans (sendFrame_waiting _ _ _)

/-- What the pair's state is after an accepted request: the change stream goes on from its commit (R424). -/
theorem request_pair {s : State} {rq : Rq} {op i j : Nat} {b : List Byte} {h : Handler} (ha : isAccepted s rq op i j b h) :
    ∃ u sent streamed, Keeps ⟨[.dict, .req, .log], [0x1001], false⟩ s u ∧
      (request s rq op i j b h).pair = { (h.commit u).pair with streamSent := sent, streamed := streamed } := by
  have hjudged : Keeps ⟨[.dict, .req, .log], [0x1001], false⟩ s (judged s rq op i j b) := judged_keeps _ _ _ _ _ _ (by rfl)
  have hstream : ∀ (u : State) st d, ∃ sent streamed,
      (streamChange u rq op i j st b d).pair = { u.pair with streamSent := sent, streamed := streamed } := by
    intro u st d
    unfold streamChange
    split
    · have hemits : ∀ (a : State) w c, (a.emitTwice w c).pair = a.pair := fun a w c =>
        (emitTwice_keeps (F := ⟨[.emitted], [], false⟩) a w c (by rfl)).same .pair (by rfl)
      exact ⟨_, _, hemits _ _ _⟩
    · exact ⟨u.pair.streamSent, u.pair.streamed, rfl⟩
  rw [request_accepted ha]
  unfold commitRequest
  extract_lets status logged committed data streamed req waiting
  obtain ⟨sent, list, hpair⟩ := hstream committed status data
  have hwaiting : waiting.pair = streamed.pair := by
    show (if h.pending = true then { streamed with req := _ } else streamed).pair = _
    split <;> rfl
  refine ⟨logged, sent, list, hjudged.trans (appendLog_keeps _ _ (by rfl)), ?_⟩
  have hreply : ∀ a : State, (sendReply a rq i j status data).pair = a.pair := fun a =>
    (sendReply_keeps (F := ⟨answerFields, [0x1001], false⟩) a rq i j status data (by rfl)).same .pair (by rfl)
  exact (hreply _).trans (hwaiting.trans hpair)

/-- What waits, and what was emitted at the commit, of an accepted request that is answered PENDING (R456). -/
theorem request_waits {s : State} {rq : Rq} {op i j : Nat} {b : List Byte} {h : Handler} (ha : isAccepted s rq op i j b h)
    (hpending : h.pending = true) :
    ∃ u, Keeps ⟨[.dict, .req, .log], [0x1001], false⟩ s u ∧ Emits (h.commit u) (request s rq op i j b h) ∧
      ∃ w ∈ (request s rq op i j b h).req.waiting, w.rq = rq ∧ w.index = i := by
  have hjudged : Keeps ⟨[.dict, .req, .log], [0x1001], false⟩ s (judged s rq op i j b) := judged_keeps _ _ _ _ _ _ (by rfl)
  rw [request_accepted ha]
  unfold commitRequest
  extract_lets status logged committed data streamed req waiting
  have hwaiting : waiting = { streamed with req := { req with waiting := req.waiting ++
      [{ rq := rq, index := i, sub := j }] } } := if_pos hpending
  refine ⟨logged, hjudged.trans (appendLog_keeps _ _ (by rfl)), ?_, ?_⟩
  · have hstreamed : Emits committed streamed := streamChange_emits _ _ _ _ _ _ _ _
    have hrecorded : Emits streamed (recordReply waiting rq status data) := .of_eq (by rw [hwaiting]; rfl)
    exact hstreamed.trans (hrecorded.trans (sendReply_emits _ _ _ _ _ _))
  · rw [sendReply_waiting]
    refine ⟨{ rq := rq, index := i, sub := j }, ?_, rfl, rfl⟩
    show _ ∈ (recordReply waiting rq status data).req.waiting
    rw [hwaiting]
    exact List.mem_append_right _ (List.mem_singleton_self _)

theorem logEvent_pair (s : State) (i j : Nat) (o n : Word) (p : Nat) (b : Bool) (st : Nat) :
    (logEvent s i j o n p b st).pair = s.pair :=
  (logEvent_keeps (F := ⟨[.log], [], false⟩) s i j o n p b st (by rfl)).same .pair (by rfl)

theorem pairChange_pair (s : State) (f : PairSt → PairSt) : (pairChange s f).pair = f s.pair := by
  unfold pairChange
  dsimp only
  split
  · exact logEvent_pair _ _ _ _ _ _ _ _
  · rfl

/-- Whether a member may ask to join depends on the mode, the boot's phase, 0x9000:0000 and six parts of the pair's state (R430). -/
theorem mayAsk_congr {s t : State} (hmode : t.mode = s.mode) (hboot : t.boot = s.boot) (h9000 : t.elem 0x9000 0 = s.elem 0x9000 0)
    (hpair : t.pair.claimOut = s.pair.claimOut ∧ t.pair.ripIn = s.pair.ripIn ∧ t.pair.inStep = s.pair.inStep ∧ t.pair.role = s.pair.role) :
    t.mayAsk = s.mayAsk := by
  obtain ⟨hclaim, hrip, hstep, hrole⟩ := hpair
  have hpaired : t.paired = s.paired := flag_congr h9000 _
  unfold State.mayAsk State.role
  rw [hmode, hboot, hpaired, hclaim, hrip, hstep, hrole]

/-- A member that asks to join notes when (R430). -/
theorem askJoin_asks {s : State} (hask : s.mayAsk = true) : (askJoin s).pair.joinAsked = some s.up := by
  unfold askJoin
  rw [if_neg (by simp [hask])]
  dsimp only
  split
  · rfl
  · split
    · exact declareFault_pair (g := PairSt.joinAsked) (fun _ _ _ _ => rfl) _ _ _ _ _ _
    · split
      · exact congrArg PairSt.joinAsked ((emit_keeps (F := ⟨[.emitted], [], false⟩) _ _ (by rfl)).same .pair (by rfl))
      · rfl

/-- A request to join releases the ripcord or SUSPECT at the most before it asks. -/
theorem joinAsked_of_join {s : State} {rq : Rq} {v : Word} (hfits : rq.fits (setBit v 0 true) = true) (hask : s.mayAsk = true)
    (ha : isAccepted s rq opWrite 0x9000 1 (valueBytes rq (setBit v 0 true)) (pairCommand s (valueBytes rq (setBit v 0 true)))) :
    (request s rq opWrite 0x9000 1 (valueBytes rq (setBit v 0 true))
      (pairCommand s (valueBytes rq (setBit v 0 true)))).pair.joinAsked = some s.up := by
  obtain ⟨u, sent, streamed, hu, hpair⟩ := request_pair ha
  have hbit : bit (ofBytes (valueBytes rq (setBit v 0 true))) 0 = true := by rw [valueBytes_value hfits, bit_setBit]; rfl
  rw [hpair]
  show ((pairCommand s (valueBytes rq (setBit v 0 true))).commit u).pair.joinAsked = _
  unfold pairCommand
  dsimp only
  generalize ofBytes (valueBytes rq (setBit v 0 true)) = w at hbit
  generalize hreleased : (if bit w 1 && u.pair.ripOut then pairChange u fun p => { p with ripOut := false } else u) = a
  generalize hcleared : (if bit w 2 && a.pair.suspect then pairChange a fun p => { p with suspect := false } else a) = b
  have hkept : Keeps ⟨[.pair, .log], [], false⟩ u b := by
    rw [← hcleared, ← hreleased]
    exact (Keeps.ite (pairChange_keeps _ _ (by rfl)) (.refl u)).trans (.ite (pairChange_keeps _ _ (by rfl)) (.refl _))
  have hsame : b.pair.claimOut = u.pair.claimOut ∧ b.pair.ripIn = u.pair.ripIn ∧ b.pair.inStep = u.pair.inStep ∧ b.pair.role = u.pair.role := by
    rw [← hcleared, ← hreleased]
    split <;> split <;> simp [pairChange_pair]
  have hb : Keeps ⟨[.pair, .log, .dict, .req], [0x1001], false⟩ s b := (hu.mono (by rfl)).trans (hkept.mono (by rfl))
  rw [if_pos hbit]
  have hus : u.pair = s.pair := hu.same .pair (by rfl)
  have hmay : b.mayAsk = true :=
    (mayAsk_congr (hb.same .mode (by rfl)) (hb.same .boot (by rfl)) (hb.elem (by rfl) (by omega)) (hus ▸ hsame)).trans hask
  exact (askJoin_asks hmay).trans (congrArg some (congrArg₂ (· - ·) (hb.same .now (by rfl)) (hb.same .stepped (by rfl))))

section
variable {α : Type} {g : PairSt → α} (hg : Undeclared g) (hask : ∀ p a i, g { p with joinAsked := a, incompatible := i } = g p)
include hg hask

theorem notCompatible_pair (s : State) : g (notCompatible s).pair = g s.pair :=
  (declareFault_pair hg _ _ _ _ _ _).trans (hask s.pair s.pair.joinAsked true)

theorem askJoin_pair (s : State) : g (askJoin s).pair = g s.pair := by
  have hasked : g { s.pair with joinAsked := some s.up } = g s.pair := hask s.pair (some s.up) s.pair.incompatible
  unfold askJoin
  split
  · rfl
  · dsimp only
    split
    · exact hasked
    · split
      · exact (notCompatible_pair hg hask _).trans hasked
      · split
        · exact (congrArg g ((emit_keeps (F := ⟨[.emitted], [], false⟩) _ _ (by rfl)).same .pair (by rfl))).trans hasked
        · exact hasked

end

/-- The commands that 0x9000:0001 gives (R415, R418): RIPCORD released, SUSPECT cleared. -/
theorem pairCommand_commit (s u : State) (b : List Byte) :
    (bit (ofBytes b) 1 = true → ((pairCommand s b).commit u).pair.ripOut = false) ∧
    (bit (ofBytes b) 2 = true → ((pairCommand s b).commit u).pair.suspect = false) := by
  unfold pairCommand
  dsimp only
  generalize ofBytes b = w
  generalize hreleased : (if bit w 1 && u.pair.ripOut then pairChange u fun p => { p with ripOut := false } else u) = r
  generalize hcleared : (if bit w 2 && r.pair.suspect then pairChange r fun p => { p with suspect := false } else r) = c
  have hasks : ∀ {g : PairSt → Bool}, Undeclared g → (∀ p a i, g { p with joinAsked := a, incompatible := i } = g p) →
      g (if bit w 0 then askJoin c else c).pair = g c.pair := by
    intro g hg hask
    split
    · exact askJoin_pair hg hask c
    · rfl
  constructor
  · intro hbit
    refine (hasks (g := PairSt.ripOut) (fun _ _ _ _ => rfl) (fun _ _ _ => rfl)).trans ?_
    have hr : r.pair.ripOut = false := by
      rw [← hreleased, hbit]
      cases hrip : u.pair.ripOut <;> simp [hrip, pairChange_pair]
    rw [← hcleared]
    split
    · rw [pairChange_pair]; exact hr
    · exact hr
  · intro hbit
    refine (hasks (g := PairSt.suspect) (fun _ _ _ _ => rfl) (fun _ _ _ => rfl)).trans ?_
    rw [← hcleared, hbit]
    cases hsuspect : r.pair.suspect <;> simp [hsuspect, pairChange_pair]

/-- The drill's event is the one that its handler queues (R442). -/
theorem drillHandler_queues (s u : State) (rq : Rq) (b : List Byte) : ∃ e : Event,
    ((drillHandler s rq b).commit u).events = u.events ++ [e] ∧ e.kind = 4 ∧ e.plane = bits (ofBytes b) 15 8 ∧
      (bits (ofBytes b) 79 16 ≠ 0 → e.tp = bits (ofBytes b) 79 16) := by
  have hflood : ∀ (a : State) m, (floodCascade a m none).events = a.events := fun a m =>
    (floodCascade_keeps (F := ⟨[.tether, .emitted], [], false⟩) a m none (by rfl)).same .events (by rfl)
  refine ⟨{ tp := u.scheduleTp (bits (ofBytes b) 15 8) (bits (ofBytes b) 79 16), plane := bits (ofBytes b) 15 8, kind := 4
            force := bit (ofBytes b) 0, rq := some rq, order := u.order }, ?_, rfl, rfl, fun htp => if_neg htp⟩
  unfold drillHandler
  dsimp only
  split
  · exact (hflood _ _).trans (queueEvent_events u _)
  · exact queueEvent_events u _

/-! A change of the claim (R444, R445). -/

section
variable {F : Foot}

theorem sendArp_keeps (s : State) (l dst oper spa tha tpa : Nat) (hF : F.holds [.emitted] = true) :
    Keeps F s (sendArp s l dst oper spa tha tpa) := .ite (emit_keeps _ _ hF) (.refl s)

theorem gratuitousArp_keeps (s : State) (l : Nat) (hF : F.holds [.emitted] = true) : Keeps F s (gratuitousArp s l) :=
  .ite (sendArp_keeps _ _ _ _ _ _ _ hF) (.refl s)

theorem claimArps_keeps (s : State) (hF : F.holds [.emitted] = true) : Keeps F s (claimArps s) :=
  .foldl (fun _ _ => gratuitousArp_keeps _ _ hF) _ s

theorem claimChange_keeps (s : State) (n : Nat) (f : PairSt → PairSt) (hF : F.holds [.pair, .log, .dict, .emitted] [0x9010] = true) :
    Keeps F s (claimChange s n f) := by
  refine .mono hF ?_
  unfold claimChange
  extract_lets counted changed
  have hchanged : Keeps ⟨[.pair, .log, .dict, .emitted], [0x9010], false⟩ s changed :=
    (Keeps.ite (count_keeps _ (by decide) (by rfl)) (.refl s)).trans (pairChange_keeps _ _ (by rfl))
  exact .ite (hchanged.trans (claimArps_keeps _ (by rfl))) hchanged

end

theorem claimChange_pair (s : State) (n : Nat) (f : PairSt → PairSt) :
    ∃ tp, (claimChange s n f).pair = { f s.pair with lastChange := n, lastChangeTp := tp } := by
  unfold claimChange
  extract_lets counted changed
  have hcounted : counted.pair = s.pair := by
    show (if n ≤ 7 then s.count 0x9010 2 else s).pair = _
    split <;> rfl
  have hchanged : changed.pair = { f s.pair with lastChange := n, lastChangeTp := s.pos 0 } :=
    (pairChange_pair _ _).trans (congrArg (fun p : PairSt => { f p with lastChange := n, lastChangeTp := s.pos 0 }) hcounted)
  refine ⟨s.pos 0, ?_⟩
  split
  · exact ((claimArps_keeps (F := ⟨[.emitted], [], false⟩) _ (by rfl)).same .pair (by rfl)).trans hchanged
  · exact hchanged

theorem setMode_pair (s : State) (m : Mode) : (setMode s m).pair = s.pair :=
  (setMode_keeps (F := ⟨[.mode, .log], [], false⟩) s m (by rfl)).same .pair (by rfl)

/-- A drill at its TP, at the active member (R442). -/
theorem fireDrill_active {s : State} (e : Event) (hpaired : s.paired = true) (hstep : s.pair.inStep = true)
    (hhere : s.pair.partnerHere = true) (hrip : s.pair.ripIn = false) (hpartner : s.pair.partnerMode ≠ 6) (hmode : s.mode = .active) :
    (fireDrill s e).mode = .standby ∧ (fireDrill s e).pair.drillResult = 1 ∧ (fireDrill s e).pair.lastChange = 5 := by
  unfold fireDrill
  extract_lets ready pair changed
  have hready : ready = true := by simp [ready, hpaired, hstep, hhere, hrip, hpartner]
  have hchanged : changed = becomeStandby (claimChange s 5 fun p =>
      { p with handover := some (s.now, 5), suspect := false, partnerSuspect := false, drillResult := 1 }) := if_pos (by simp [hready, hmode])
  obtain ⟨tp, hclaim⟩ := claimChange_pair s 5 fun p =>
    { p with handover := some (s.now, 5), suspect := false, partnerSuspect := false, drillResult := 1 }
  have hpair : changed.pair.drillResult = 1 ∧ changed.pair.lastChange = 5 := by
    rw [hchanged, becomeStandby, setMode_pair, hclaim]
    exact ⟨rfl, rfl⟩
  have hstandby : changed.mode = .standby := by
    rw [hchanged]
    exact setMode_mode _ _
  exact ⟨hstandby, hpair.1, hpair.2⟩

/-- Whether the bridle is mute depends on the boot state, the time and its lanes' elements (R127, R519). -/
theorem bridleMute_congr {s t : State} (hboot : t.boot = s.boot) (hup : t.up = s.up)
    (h3200 : ∀ j, j < 0x8000 → t.elem 0x3200 j = s.elem 0x3200 j) (h3400 : ∀ j, j < 0x8000 → t.elem 0x3400 j = s.elem 0x3400 j) :
    t.bridleMute = s.bridleMute := by
  have hlane : ∀ l, 188 ≤ l → l < 192 → t.laneMute l = s.laneMute l := by
    intro l hlo hhi
    have hflag : t.flag 0x3200 l 26 = s.flag 0x3200 l 26 := flag_congr (h3200 l (by omega)) _
    have hfield : t.field 0x3400 l 26 24 = s.field 0x3400 l 26 24 := congrArg (bits · 26 24) (h3400 l (by omega))
    unfold State.laneMute State.laneQuiet
    rw [hflag, hfield, hboot, hup, decide_eq_false (by omega : ¬ l < 188), Bool.and_false, Bool.and_false]
  unfold State.bridleMute
  simp [hlane]

/-- Settles O29, each command at its commit. -/
theorem pairCommanded : Obligations.PairCommanded := by
  unfold Obligations.PairCommanded
  refine ⟨?_, ?_, ?_, ?_, ?_, ?_, ?_⟩
  case refine_1 =>
    intro s rq v hfits hask ha
    exact act_does (f := fun s => request s rq opWrite 0x9000 1 (valueBytes rq (setBit v 0 true))
      (pairCommand s (valueBytes rq (setBit v 0 true)))) rfl (joinAsked_of_join (s := s.fresh) hfits hask ha)
  case refine_2 =>
    intro s rq v hfits ha
    obtain ⟨u, sent, streamed, -, hpair⟩ := request_pair ha
    refine act_does (f := fun s => request s rq opWrite 0x9000 1 (valueBytes rq (setBit v 1 true))
      (pairCommand s (valueBytes rq (setBit v 1 true)))) rfl ((congrArg PairSt.ripOut hpair).trans ?_)
    exact (pairCommand_commit s.fresh u _).1 (by rw [valueBytes_value hfits, bit_setBit]; rfl)
  case refine_3 =>
    intro s rq v hfits ha
    obtain ⟨u, sent, streamed, -, hpair⟩ := request_pair ha
    refine act_does (f := fun s => request s rq opWrite 0x9000 1 (valueBytes rq (setBit v 2 true))
      (pairCommand s (valueBytes rq (setBit v 2 true)))) rfl ((congrArg PairSt.suspect hpair).trans ?_)
    exact (pairCommand_commit s.fresh u _).2 (by rw [valueBytes_value hfits, bit_setBit]; rfl)
  case refine_4 =>
    intro s rq frame hmute ha
    obtain ⟨u, hu, hemits, hwaits⟩ := request_waits ha rfl
    have hup : u.up = s.fresh.up := congrArg₂ (· - ·) (hu.same .now (by rfl)) (hu.same .stepped (by rfl))
    have hloud : u.bridleMute = false :=
      (bridleMute_congr (hu.same .boot (by rfl)) hup (fun _ hj => hu.elem (by rfl) hj) (fun _ hj => hu.elem (by rfl) hj)).trans hmute
    refine act_does (f := fun s => request s rq opWrite 0x9040 0 frame (relayHandler s frame)) rfl ⟨hemits.mem ?_, hwaits⟩
    show _ ∈ (u.emit _).emitted
    rw [emit_unsilenced (show u.silences (.bridle _ _) = false from hloud)]
    exact List.mem_append_right _ (List.mem_singleton_self _)
  case refine_5 =>
    intro s rq v hfits ha
    obtain ⟨u, hu, after⟩ := request_accepts ha
    obtain ⟨e, hqueued, hkind, hplane, htp⟩ := drillHandler_queues s.fresh u rq (valueBytes rq v)
    have hevents : (request s.fresh rq opWrite 0x9030 0 (valueBytes rq v) (drillHandler s.fresh rq (valueBytes rq v))).events = s.events ++ [e] :=
      (after.same .events (by rfl)).trans (hqueued.trans (congrArg (· ++ [e]) (hu.same .events (by rfl))))
    rw [valueBytes_value hfits] at hplane htp
    exact act_does (f := fun s => request s rq opWrite 0x9030 0 (valueBytes rq v) (drillHandler s rq (valueBytes rq v))) rfl
      ⟨e, hevents, hkind, hplane, htp⟩
  case refine_6 =>
    intro s e hr hdue hpaired hstep hhere hrip hpartner hmode
    refine actRunning_does (f := fun s => match s.dueEvent [4] with
      | some e => drillFires s e
      | none => s) rfl hr ?_
    dsimp only
    rw [show s.fresh.dueEvent [4] = some e from hdue]
    have hfires : drillFires s.fresh e = fireDrill s.fresh e :=
      if_neg fun hand => Mode.noConfusion (hmode.symm.trans hand.1)
    show (drillFires s.fresh e).mode = _ ∧ (drillFires s.fresh e).pair.drillResult = _ ∧ (drillFires s.fresh e).pair.lastChange = _
    rw [hfires]
    exact fireDrill_active (s := s.fresh) e hpaired hstep hhere hrip hpartner hmode
  case refine_7 =>
    intro s e hr hdue hpaired
    refine actRunning_does (f := fun s => match s.dueEvent [4] with
      | some e => drillFires s e
      | none => s) rfl hr ?_
    dsimp only
    rw [show s.fresh.dueEvent [4] = some e from hdue]
    have hnot : s.fresh.paired = false := hpaired
    have hfails : fireDrill s.fresh e =
        purgeEvents (markFired { s.fresh with pair := { s.fresh.pair with drillResult := 2 } } e.order s.now []) := by
      unfold fireDrill
      simp [hnot]
      rfl
    have hfires : drillFires s.fresh e = fireDrill s.fresh e := by
      refine if_neg fun hand => ?_
      obtain ⟨hstandby, hactive⟩ := hand
      rw [hfails] at hactive
      exact Mode.noConfusion (hstandby.symm.trans hactive)
    show (drillFires s.fresh e).pair.drillResult = _ ∧ (drillFires s.fresh e).mode = _
    rw [hfires, hfails]
    exact ⟨rfl, rfl⟩

end Sys2Proof.Machine
end

section
/-! SUPPORT. Footprints of the timebase: the selector, PTP, capture and steps (R38-R48, R65-R93). -/

namespace Sys2Proof.Machine

variable {F : Foot}

/-- The fields that a reference selection touches. -/
abbrev timingFields : List Field := [.dict, .log, .faults, .pair, .ref, .rx, .tx, .emitted]

theorem rebuildDesc_keeps (s : State) (p q : Word → Bool) (hF : F.holds [.rx, .tx] = true) : Keeps F s (rebuildDesc s p q) := by
  refine .mono hF ?_
  unfold rebuildDesc
  exact (Keeps.foldl (fun _ _ => .set [.rx] rfl (by rfl)) _ s).trans (.foldl (fun _ _ => .set [.tx] rfl (by rfl)) _ _)

theorem noteClock_keeps {f : State → State} (s : State) (hF : F.holds [.rx, .tx] = true) (hf : Keeps F s (f s)) : Keeps F s (noteClock f s) :=
  .ite hf (hf.trans (rebuildDesc_keeps _ _ _ hF))

theorem noteClock_faults {f : State → State} (s : State) (hF : F.holds [.rx, .tx] = true) (hf : Faults F s (f s)) : Faults F s (noteClock f s) :=
  .ite hf (hf.trans (rebuildDesc_keeps _ _ _ (Foot.holds_noMode hF (by rfl))).faults)

theorem setTb_keeps (s : State) (n : Nat) (old : Word) (hF : F.holds [.ref, .log] = true) : Keeps F s (setTb s n old) := by
  refine .mono hF ?_
  unfold setTb
  exact .ite (.refl s) (.trans (.set [.ref] rfl (by rfl)) (logEvent_keeps _ _ _ _ _ _ _ _ (by rfl)))

theorem setCand_keeps (s : State) (c : Nat) (x : Cand) (hF : F.holds [.ref] = true) : Keeps F s (s.setCand c x) := .set [.ref] rfl hF

theorem setPtp_keeps (s : State) (i : Nat) (x : Ptp) (hF : F.holds [.ref] = true) : Keeps F s (s.setPtp i x) := .set [.ref] rfl hF

theorem setPlane_keeps (s : State) (p : Nat) (x : Plane) (hF : F.holds [.planes] = true) : Keeps F s (s.setPlane p x) := .set [.planes] rfl hF

theorem startTransfer_keeps (s : State) (c : Nat) (hF : F.holds [.dict, .log, .ref, .rx, .tx, .emitted] [0x2120] = true) :
    Keeps F s (startTransfer s c) := by
  refine .mono hF ?_
  refine noteClock_keeps s (by rfl) ?_
  have hcount : ∀ v, Keeps ⟨[.dict, .log, .ref, .rx, .tx, .emitted], [0x2120], false⟩ s (s.put 0x2120 (if s.ref.transfer then 0x21 else 0x20) v) :=
    fun v => put_keeps _ _ (by split <;> decide) (by rfl)
  have hset : ∀ (u : State) x, Keeps ⟨[.dict, .log, .ref, .rx, .tx, .emitted], [0x2120], false⟩ u { u with ref := x } :=
    fun _ _ => .set [.ref] rfl (by rfl)
  exact (hcount _).trans ((hset _ _).trans ((setTb_keeps _ _ _ (by rfl)).trans (mirror_keeps _ _ _ _ (by rfl))))

theorem enterHoldover_faults (s : State) (hF : F.holds timingFields [0x2120] = true) : Faults F s (enterHoldover s) := by
  refine .mono hF ?_
  refine noteClock_faults s (by rfl) ?_
  have hset : ∀ x n old, Keeps (Foot.noMode ⟨timingFields, [0x2120], false⟩) s (setTb { s with ref := x } n old) :=
    fun _ _ _ => .trans (.set [.ref] rfl (by rfl)) (setTb_keeps _ _ _ (by rfl))
  dsimp only
  split
  · exact ((hset _ _ _).trans (count_keeps _ (by decide) (by rfl))).faults.trans (declareFault_faults _ _ _ _ _ _ (by rfl))
  · exact .ite ((hset _ _ _).faults.trans (declareFault_faults _ _ _ _ _ _ (by rfl))) (hset _ _ _).faults

theorem selectorEvaluate_faults (s : State) (hF : F.holds timingFields [0x2120] = true) : Faults F s (selectorEvaluate s) := by
  refine .mono hF ?_
  have hforced : Keeps (Foot.noMode ⟨timingFields, [0x2120], false⟩) s (match s.ref.forced with
      | some f => if (s.cand f).qualified then s else { s with ref := { s.ref with forced := none } }
      | none => s) := by
    split
    · exact .ite (.refl s) (.set [.ref] rfl (by rfl))
    · exact .refl s
  unfold selectorEvaluate
  extract_lets ref forced target
  refine .ite (.refl s) (.trans (t := forced) hforced.faults (.ite (.refl _) ?_))
  clear_value target
  split
  · exact (startTransfer_keeps _ _ (by rfl)).faults
  · exact enterHoldover_faults _ (by rfl)

theorem dropCandidate_faults (s : State) (c r : Nat) (hF : F.holds [.log, .faults, .pair, .ref, .emitted] = true) :
    Faults F s (dropCandidate s c r) := by
  refine .mono hF ?_
  have hlogged : ∀ x o n, Keeps (Foot.noMode ⟨[.log, .faults, .pair, .ref, .emitted], [], false⟩) s
      (logEvent (s.setCand c x) 0x2120 (0x10 + c) o n) := fun _ _ _ =>
    (setCand_keeps _ _ _ (by rfl)).trans (logEvent_keeps _ _ _ _ _ _ _ _ (by rfl))
  unfold dropCandidate
  exact .ite ((hlogged _ _ _).faults.trans (declareFault_faults _ _ _ _ _ _ (by rfl))) (hlogged _ _ _).faults

section
variable (hF : F.holds timingFields [0x2120] = true)
include hF

theorem loseCandidate_faults (s : State) (c r : Nat) : Faults F s (loseCandidate s c r) :=
  (dropCandidate_faults _ _ _ (Foot.holds_sub hF (by rfl))).trans (selectorEvaluate_faults _ hF)

theorem judgePresence_faults (s : State) : Faults F s (judgePresence s) :=
  .foldl (fun u c => .ite (dropCandidate_faults _ _ _ (Foot.holds_sub hF (by rfl))) (.refl u)) _ s

theorem judgePlaced_faults (s : State) : Faults F s (judgePlaced s) := (judgePresence_faults hF s).trans (selectorEvaluate_faults _ hF)

theorem qualifyCandidate_faults (s : State) (c : Nat) : Faults F s (qualifyCandidate s c) :=
  (setCand_keeps _ _ _ (Foot.holds_noMode (Foot.holds_sub hF (by rfl)) (by rfl))).faults.trans (selectorEvaluate_faults _ hF)

theorem presentCandidate_faults (s : State) (c d : Nat) (f : Int) (g : Rat) : Faults F s (presentCandidate s c d f g) := by
  have hset : ∀ x, Faults F s (s.setCand c x) := fun _ => (setCand_keeps _ _ _ (Foot.holds_noMode (Foot.holds_sub hF (by rfl)) (by rfl))).faults
  unfold presentCandidate
  exact .ite (.refl s) (.ite ((hset _).trans (qualifyCandidate_faults hF _ _)) (hset _))

theorem candidateConfig_faults (s u : State) {c : Nat} (b : List Byte) (hc : c < 65536) (hF' : F.holds [.dict, .recent] [0x2100] = true) :
    Faults F u ((candidateConfig s c b).commit u) := by
  have hnm := Foot.holds_noMode hF (by rfl)
  have hset : ∀ (a : State) x, Keeps F.noMode a (a.setCand c x) := fun _ _ => setCand_keeps _ _ _ (Foot.holds_sub hnm (by rfl))
  have hput : ∀ (a : State) x, Keeps F.noMode a (a.setPtp (c - 6) x) := fun _ _ => setPtp_keeps _ _ _ (Foot.holds_sub hnm (by rfl))
  unfold candidateConfig
  extract_lets v param bad h
  have hcommit : Keeps F.noMode u (h.commit u) := plainHandler_keeps s u b _ hc (Foot.holds_noMode hF' (by rfl))
  dsimp -zeta only
  extract_lets old committed moved reset judged
  have hreset : Keeps F.noMode (h.commit u) reset := .ite (hput _ _) (.refl _)
  have hjudged : Faults F reset judged := .ite (loseCandidate_faults hF _ _ _) (selectorEvaluate_faults _ hF)
  exact ((hcommit.trans hreset).faults.trans hjudged).trans (.ite (hset _ _).faults (.refl _))

theorem installTable_faults (s : State) (l : List Word) (hF' : F.holds [.dict, .recent] [0x2110] = true) : Faults F s (installTable s l) := by
  have hnm := Foot.holds_noMode hF' (by rfl)
  unfold installTable
  extract_lets written told
  have hwritten : Keeps F.noMode s written := .foldl_mem _ fun i hi u =>
    commit_keeps _ _ (by have := List.mem_range.1 hi; omega) hnm
  refine hwritten.faults.trans (.trans ?_ (selectorEvaluate_faults _ hF))
  dsimp only [told]
  split
  · exact .ite (declareFault_faults _ _ _ _ _ _ (Foot.holds_sub hF (by rfl))) (.refl _)
  · exact .refl _

theorem followMaster_faults (s : State) (i : Nat) (l : List Foreign) (f : Foreign) : Faults F s (followMaster s i l f) := by
  have hnm := Foot.holds_noMode hF (by rfl)
  have hset : ∀ (a : State) c x, Keeps F.noMode a (a.setCand c x) := fun _ _ _ => setCand_keeps _ _ _ (Foot.holds_sub hnm (by rfl))
  have hput : ∀ (a : State) x, Keeps F.noMode a (noteClock (fun u => u.setPtp i x) a) := fun _ _ =>
    noteClock_keeps _ (Foot.holds_sub hnm (by rfl)) (setPtp_keeps _ _ _ (Foot.holds_sub hnm (by rfl)))
  unfold followMaster
  exact .ite (((hput _ _).trans (hset _ _ _)).faults.trans (loseCandidate_faults hF _ _ _)) ((hput _ _).trans (hset _ _ _)).faults

theorem ptpAnnounce_faults (s : State) (i : Nat) (a : PtpAnnounce) : Faults F s (ptpAnnounce s i a) := by
  have hnm := Foot.holds_noMode hF (by rfl)
  have hput : ∀ x, Faults F s (s.setPtp i x) := fun _ => (setPtp_keeps _ _ _ (Foot.holds_sub hnm (by rfl))).faults
  unfold ptpAnnounce
  refine .ite (.refl s) ?_
  dsimp only
  split
  · exact .ite (followMaster_faults hF _ _ _ _) (hput _)
  · exact hput _

theorem ptpMessage_faults (s : State) (i d : Nat) (m : PtpMsg) : Faults F s (ptpMessage s i d m) := by
  have hnm := Foot.holds_noMode hF (by rfl)
  have hput : ∀ x, Faults F s (s.setPtp i x) := fun _ => (setPtp_keeps _ _ _ (Foot.holds_sub hnm (by rfl))).faults
  unfold ptpMessage
  refine .ite (.refl s) ?_
  dsimp only
  split
  · exact ptpAnnounce_faults hF _ _ _
  · exact .ite (.refl s) (.ite (hput _) (hput _))
  · split
    · exact .ite (hput _) (.refl s)
    · exact .refl s
  · split
    · exact .ite (hput _) (.refl s)
    · exact .refl s

theorem ptpTimeout_faults (s : State) (i : Nat) : Faults F s (ptpTimeout s i) := by
  have hnm := Foot.holds_noMode hF (by rfl)
  have hput : ∀ x, Faults F s (s.setPtp i x) := fun _ => (setPtp_keeps _ _ _ (Foot.holds_sub hnm (by rfl))).faults
  unfold ptpTimeout
  exact .ite (.ite ((hput _).trans (loseCandidate_faults hF _ _ _)) (hput _)) (.refl s)

theorem fireRefsel_faults (s : State) (e : Event) (hF' : F.holds [.events] = true) : Faults F s (fireRefsel s e) := by
  have hnm := Foot.holds_noMode hF (by rfl)
  have hgone : Faults F s { s with events := s.events.filter fun x => x.order != e.order } :=
    Keeps.faults (.set [.events] rfl (Foot.holds_noMode hF' (by rfl)))
  have hforce : ∀ (u : State) x, Faults F u { u with ref := x } := fun _ _ => Keeps.faults (.set [.ref] rfl (Foot.holds_sub hnm (by rfl)))
  unfold fireRefsel
  refine .ite (hgone.trans ((hforce _ _).trans (selectorEvaluate_faults _ hF))) ?_
  exact hgone.trans ((declareFault_faults _ _ _ _ _ _ (Foot.holds_sub hF (by rfl))).trans
    (logEvent_keeps _ _ _ _ _ _ _ _ (Foot.holds_sub hnm (by rfl))).faults)

end

theorem judgeError_keeps (s : State) (e : Int) (hF : F.holds [.ref] = true) : Keeps F s (judgeError s e) := .set [.ref] rfl hF

theorem loopFilter_keeps (s : State) (c : Nat) (e f : Int) (hF : F.holds [.ref] = true) : Keeps F s (loopFilter s c e f) := .set [.ref] rfl hF

theorem measure_keeps (s : State) (e f : Int) (g : Rat) (hF : F.holds [.ref] = true) : Keeps F s (measure s e f g) := by
  have hset : ∀ c x, Keeps F s (s.setCand c x) := fun _ _ => setCand_keeps _ _ _ hF
  unfold measure
  split
  · exact .refl s
  · refine .ite (.refl s) ?_
    dsimp only
    split
    · exact (hset _ _).trans (.set [.ref] rfl hF)
    · exact (hset _ _).trans ((loopFilter_keeps _ _ _ _ hF).trans (judgeError_keeps _ _ hF))
    · exact hset _ _

theorem recordSecond_keeps (s : State) (hF : F.holds [.ref] = true) : Keeps F s (recordSecond s) := by
  have hset : ∀ (u : State) x, Keeps F u { u with ref := x } := fun _ _ => .set [.ref] rfl hF
  unfold recordSecond
  refine .ite (.refl s) ?_
  dsimp only
  split
  · exact (hset _ _).trans (hset _ _)
  · exact hset _ _

theorem locked_keeps (s : State) (hF : F.holds [.ref, .log, .faults] = true) : Keeps F s (locked s) := by
  refine .mono hF ?_
  exact .trans (.set [.ref] rfl (by rfl)) ((setTb_keeps _ _ _ (by rfl)).trans ((clearActive_keeps _ _ (by rfl)).trans (clearActive_keeps _ _ (by rfl))))

/-- The fields that a capture touches. -/
abbrev stepFields : List Field := [.events, .banks, .pair, .log, .dict, .req, .emitted, .tether, .planes, .rx, .tx]

theorem putStep_keeps (s : State) (p : Nat) (r : Reorigin)
    (hF : F.holds [.events, .banks, .pair, .log, .dict, .req, .emitted, .tether, .planes] [0x1001] = true) : Keeps F s (putStep s p r) :=
  .mono hF ((discardEvents_keeps _ _ _ (by rfl)).trans ((dropIssued_keeps _ _ (by rfl)).trans (setPlane_keeps _ _ _ (by rfl))))

theorem decideStep_keeps (s : State) (p c : Nat) (n : Rat) (hF : F.holds stepFields [0x1001] = true) : Keeps F s (decideStep s p c n) := by
  refine .mono hF (noteClock_keeps s (by rfl) ?_)
  split
  · exact setPlane_keeps _ _ _ (by rfl)
  · exact putStep_keeps _ _ _ (by rfl)

theorem captureRef_keeps (s : State) (c : Nat) (hF : F.holds (.ref :: stepFields) [0x1001] = true) : Keeps F s (captureRef s c) := by
  refine .mono hF ?_
  have hset : ∀ x : State → RefSt, Keeps ⟨.ref :: stepFields, [0x1001], false⟩ s (noteClock (fun u => { u with ref := x u }) s) := fun _ =>
    noteClock_keeps _ (by rfl) (.set [.ref] rfl (by rfl))
  exact (hset _).trans (.foldl (fun _ _ => decideStep_keeps _ _ _ _ (by rfl)) _ _)

end Sys2Proof.Machine
end

section
/-! PROOFS. What the timing commands leave unchanged (R38-R48, R65-R93). -/

namespace Sys2Proof.Machine

theorem phaseMeasurement_keeps {s t : State} {e f : Int} {g : Rat} (ht : exec (.phaseMeasurement e f g) s = .next t) :
    Keeps ⟨[.ref, .emitted], [], false⟩ s t :=
  .of_actRunning (f := fun s => measure s e f g) rfl ht (by rfl) (measure_keeps _ _ _ _ (by rfl))

theorem ballastSecondRecord_keeps {s t : State} (ht : exec .ballastSecondRecord s = .next t) : Keeps ⟨[.ref, .emitted], [], false⟩ s t :=
  .of_actRunning (f := recordSecond) rfl ht (by rfl) (recordSecond_keeps _ (by rfl))

theorem ppsOutPulse_keeps {s t : State} (ht : exec .ppsOutPulse s = .next t) : Keeps ⟨[.ref, .emitted], [], false⟩ s t :=
  .of_actRunning (f := fun s =>
    let k := s.now.floor / 1000000000
    if s.ref.lastPulse < k then ({ s with ref := { s.ref with lastPulse := k } } : State).emit (.pulse 0 100000) else s) rfl ht (by rfl)
    (.ite (.trans (.set [.ref] rfl (by rfl)) (emit_keeps _ _ (by rfl))) (.refl _))

theorem frameOutPulse_keeps {s t : State} (ht : exec .frameOutPulse s = .next t) : Keeps ⟨[.ref, .emitted], [], false⟩ s t :=
  .of_actRunning (f := fun s =>
    let f := gridAtOrBefore (s.plane 0).origin (periodNs (s.planeRate 0)) s.now
    if s.ref.lastFrame < f then
      ({ s with ref := { s.ref with lastFrame := f } } : State).emit (.pulse 1 (s.houseLine 0).floor.toNat)
    else s) rfl ht (by rfl)
    (.ite (.trans (.set [.ref] rfl (by rfl)) (emit_keeps _ _ (by rfl))) (.refl _))

theorem dpllLocked_keeps {s t : State} (ht : exec .dpllLocked s = .next t) : Keeps ⟨[.log, .faults, .ref, .emitted], [], false⟩ s t := by
  refine .of_actRunning (f := fun s => match s.ref.within with
    | some t =>
      if s.ref.tb = 1 ∧ s.ref.phase = .tracking ∧ t + 2000000000 ≤ s.up ∧ s.allStopped = false then locked s else s
    | none => s) rfl ht (by rfl) ?_
  split
  · exact .ite (locked_keeps _ (by rfl)) (.refl _)
  · exact .refl _

theorem refselSchedule_keeps {s t : State} {rq : Rq} {v : Word} (ht : exec (.refselSchedule rq v) s = .next t) :
    Keeps ⟨[.dict, .events, .order, .req, .log, .pair, .emitted], [0x1001, 0x2200, 0x5300], false⟩ s t :=
  .of_request (h := fun s => refselHandler s rq (valueBytes rq v)) rfl ht (by rfl) (fun _ _ => rfl) fun _ => queueEvent_keeps _ _ (by rfl)

/-- The footprint of the commands that select. -/
abbrev selectFoot : Foot := ⟨[.dict, .log, .faults, .pair, .ref, .rx, .tx, .emitted], [0x2120], false⟩

theorem candidateLoss_faults {s t : State} {c r : Nat} (ht : exec (.candidateLoss c r) s = .next t) : Faults selectFoot s t :=
  .of_onUnit (f := fun s => if (s.cand c).present && s.mayLose c r then loseCandidate s c r else s) rfl ht (by rfl)
    fun _ => .ite (loseCandidate_faults (by rfl) _ _ _) (.refl _)

theorem candidatePresent_faults {s t : State} {c d : Nat} {f : Int} {g : Rat} (ht : exec (.candidatePresent c d f g) s = .next t) :
    Faults selectFoot s t :=
  .of_onUnit (f := fun s => presentCandidate s c d f g) rfl ht (by rfl) fun _ => presentCandidate_faults (by rfl) _ _ _ _ _

theorem candidateQualify_faults {s t : State} {c : Nat} (ht : exec (.candidateQualify c) s = .next t) : Faults selectFoot s t :=
  .of_onUnit (f := fun s =>
    let k := s.cand c
    if k.present && !k.qualified && decide (k.since + (s.field 0x2100 c 27 18 : Nat) * 1000000000 ≤ s.up) then
      qualifyCandidate s c else s) rfl ht (by rfl) fun _ => .ite (qualifyCandidate_faults (by rfl) _ _) (.refl _)

theorem lossOfLock_faults {s t : State} (ht : exec .lossOfLock s = .next t) : Faults selectFoot s t := by
  refine .of_actRunning (f := fun s => match s.ref.above, s.ref.selected with
    | some t, some c =>
      if s.ref.tb = 2 ∧ t + 1000000000 ≤ s.up ∧ s.allStopped = false then loseCandidate { s with ref := { s.ref with above := none } } c 4 else s
    | _, _ => s) rfl ht (by rfl) ?_
  split
  · exact .ite (.trans (Keeps.faults (.set [.ref] rfl (by rfl))) (loseCandidate_faults (by rfl) _ _ _)) (.refl _)
  · exact .refl _

theorem ptpAnnounceTimeout_faults {s t : State} {i : Nat} (ht : exec (.ptpAnnounceTimeout i) s = .next t) : Faults selectFoot s t :=
  .of_onUnit (f := fun s => ptpTimeout s i) rfl ht (by rfl) fun _ => ptpTimeout_faults (by rfl) _ _

theorem ptpMessageReceived_faults {s t : State} {i d : Nat} {m : PtpMsg} (ht : exec (.ptpMessageReceived i d m) s = .next t) :
    Faults selectFoot s t :=
  .of_onUnit (f := fun s => ptpMessage s i d m) rfl ht (by rfl) fun _ => ptpMessage_faults (by rfl) _ _ _ _

theorem manualClear_faults {s t : State} {rq : Rq} {v : Word} (ht : exec (.manualClear rq v) s = .next t) :
    Faults ⟨[.dict, .req, .log, .faults, .pair, .ref, .rx, .tx, .emitted], [0x1001, 0x2120, 0x5300], false⟩ s t := by
  refine .of_request (h := fun _ => manualHandler (valueBytes rq v)) rfl ht (by rfl) (fun _ _ => rfl) fun u => ?_
  exact .ite (.trans (Keeps.faults (.set [.ref] rfl (by rfl))) (selectorEvaluate_faults _ (by rfl))) (.refl u)

theorem refselFire_faults {s t : State} (ht : exec .refselFire s = .next t) :
    Faults ⟨[.dict, .events, .log, .faults, .pair, .ref, .rx, .tx, .emitted], [0x2120], false⟩ s t := by
  refine .of_actRunning (f := fun s => match s.dueEvent [3] with
    | some e => fireRefsel s e
    | none => s) rfl ht (by rfl) ?_
  split
  · exact fireRefsel_faults (by rfl) _ _ (by rfl)
  · exact .refl _

/-- The footprint of the commands that configure the selection. -/
abbrev selectConfigFoot : Foot :=
  ⟨[.dict, .recent, .req, .log, .faults, .pair, .ref, .rx, .tx, .emitted], [0x1001, 0x2100, 0x2110, 0x2120, 0x5300], false⟩

theorem candidateConfigWrite_faults {s t : State} {rq : Rq} {c : Nat} {v : Word} (hc : c < 10)
    (ht : exec (.candidateConfigWrite rq c v) s = .next t) : Faults selectConfigFoot s t :=
  .of_request (h := fun s => candidateConfig s c (valueBytes rq v)) rfl ht (by rfl) (fun _ _ => rfl) fun u =>
    candidateConfig_faults (by rfl) _ u _ (by omega) (by rfl)

theorem priorityTableWrite_faults {s t : State} {rq : Rq} {j : Nat} {v : Word} (ht : exec (.priorityTableWrite rq j v) s = .next t) :
    Faults selectConfigFoot s t :=
  .of_request (h := fun s => priorityHandler s j (valueBytes rq v)) rfl ht (by rfl) (fun _ _ => rfl) fun u =>
    installTable_faults (by rfl) u _ (by rfl)

theorem dpllCapture_keeps {s t : State} (ht : exec .dpllCapture s = .next t) :
    Keeps ⟨[.dict, .planes, .events, .banks, .req, .log, .pair, .ref, .rx, .tx, .tether, .emitted], [0x1001], false⟩ s t := by
  refine .of_actRunning (f := fun s => match s.ref.selected with
    | some c => if s.ref.phase = .slew ∧ s.slewEnds c = true ∧ s.allStopped = false then captureRef s c else s
    | none => s) rfl ht (by rfl) ?_
  split
  · exact .ite (captureRef_keeps _ _ (by rfl)) (.refl _)
  · exact .refl _

/-- Settles O53, by the footprint of each command. -/
theorem timingFramed : Obligations.TimingFramed := by
  unfold Obligations.TimingFramed
  intro c s t hwf ht
  cases c
  case ballastSecondRecord => exact (ballastSecondRecord_keeps ht).eq_graft
  case frameOutPulse => exact (frameOutPulse_keeps ht).eq_graft
  case phaseMeasurement _ _ _ => exact (phaseMeasurement_keeps ht).eq_graft
  case ppsOutPulse => exact (ppsOutPulse_keeps ht).eq_graft
  case dpllLocked => exact (dpllLocked_keeps ht).eq_graft
  case refselSchedule _ _ => exact (refselSchedule_keeps ht).frame (by rfl)
  case candidateLoss _ _ => exact (candidateLoss_faults ht).frame (by rfl)
  case candidatePresent _ _ _ _ => exact (candidatePresent_faults ht).frame (by rfl)
  case candidateQualify _ => exact (candidateQualify_faults ht).frame (by rfl)
  case lossOfLock => exact (lossOfLock_faults ht).frame (by rfl)
  case ptpAnnounceTimeout _ => exact (ptpAnnounceTimeout_faults ht).frame (by rfl)
  case ptpMessageReceived _ _ _ => exact (ptpMessageReceived_faults ht).frame (by rfl)
  case manualClear _ _ => exact (manualClear_faults ht).frame (by rfl)
  case refselFire => exact (refselFire_faults ht).frame (by rfl)
  case candidateConfigWrite rq c v =>
    have hc : c < 10 := by simp only [Instr.wf, Bool.and_eq_true, decide_eq_true_eq] at hwf; exact hwf.1.2
    exact (candidateConfigWrite_faults hc ht).frame (by rfl)
  case priorityTableWrite _ _ _ => exact (priorityTableWrite_faults ht).frame (by rfl)
  case dpllCapture => exact (dpllCapture_keeps ht).frame (by rfl)
  all_goals exact trivial

end Sys2Proof.Machine
end

section
/-! SUPPORT. Footprints of the lane array: modes and rates, synthesisers, receivers, the line code (R94-R132). -/

namespace Sys2Proof.Machine

variable {F : Foot}

theorem Faults.foldl_mem {α : Type} {s : State} {f : State → α → State} (l : List α) (hf : ∀ a ∈ l, ∀ u, Faults F u (f u a)) :
    Faults F s (l.foldl f s) := by
  induction l generalizing s with
  | nil => exact .refl s
  | cons a l ih => exact (hf a List.mem_cons_self s).trans (ih fun b hb => hf b (List.mem_cons_of_mem _ hb))

theorem setLane_keeps (s : State) (l : Nat) (x : LaneSt) (hF : F.holds [.lanes] = true) : Keeps F s (s.setLane l x) := .set [.lanes] rfl hF

theorem setSynth_keeps (s : State) (y : Nat) (x : Synth) (hF : F.holds [.synths] = true) : Keeps F s (s.setSynth y x) := .set [.synths] rfl hF

theorem setKey_keeps (s : State) (y : Nat) (k : Option SynthKey) (hF : F.holds [.synths] = true) : Keeps F s (setKey s y k) := by
  unfold setKey
  split
  · exact setSynth_keeps _ _ _ hF
  · exact .ite (.refl s) (setSynth_keeps _ _ _ hF)

theorem settleServed_keeps (s : State) (hF : F.holds [.faults] = true) : Keeps F s (settleServed s) :=
  .ite (.refl s) (clearActive_keeps _ _ hF)

theorem settleLanes_keeps (s : State) (hF : F.holds [.faults] = true) : Keeps F s (settleLanes s) := by
  have hclear : ∀ (u : State) n (c : Prop) [Decidable c], Keeps F u (if c then u else clearActive u n) := fun u n _ _ =>
    .ite (.refl u) (clearActive_keeps _ _ hF)
  exact (hclear s 0x040 _).trans ((hclear _ 0x041 _).trans (settleServed_keeps _ hF))

section
variable {l : Nat} (hl : l < 0x1000)
include hl

theorem noteServers_keeps (s : State) (hF : F.holds [.dict] [0x3200] = true) : Keeps F s (noteServers s l) :=
  (putField_keeps _ _ _ _ (by omega) hF).trans (putField_keeps _ _ _ _ (by omega) hF)

/-- The fields of a lane's declarations. -/
abbrev laneNotes : List Field := [.dict, .log, .faults, .pair, .emitted]

theorem judgeRate_faults (s : State) (hF : F.holds laneNotes [0x3200] = true) : Faults F s (judgeRate s l) := by
  refine .mono hF ?_
  have hput : ∀ b v, Keeps (Foot.noMode ⟨laneNotes, [0x3200], false⟩) s ((s.putFlag 0x3200 l 22 b).putField 0x3200 l 15 8 v) := fun _ _ =>
    (putFlag_keeps _ _ _ (by omega) (by rfl)).trans (putField_keeps _ _ _ _ (by omega) (by rfl))
  unfold judgeRate
  refine .ite (.ite ?_ (.ite (hput _ _).faults ((hput _ _).faults.trans (declareFault_faults _ _ _ _ _ _ (by rfl))))) (.refl s)
  exact ((hput _ _).trans ((settleServed_keeps _ (by rfl)).trans (noteServers_keeps hl _ (by rfl)))).faults

theorem restartLane_keeps (s : State) (on d m : Bool) (hF : F.holds [.dict, .lanes, .faults] [0x3200, 0x3300] = true) :
    Keeps F s (restartLane s l on d m) := by
  refine .mono hF ?_
  unfold restartLane
  refine .trans ?_ ((put_keeps _ _ (by omega) (by rfl)).trans (settleLanes_keeps _ (by rfl)))
  exact .ite ((setLane_keeps _ _ _ (by rfl)).trans (put_keeps _ _ (by omega) (by rfl))) (setLane_keeps _ _ _ (by rfl))

theorem noteAlignment_faults (s : State) (hF : F.holds laneNotes [0x3400] = true) : Faults F s (noteAlignment s l) :=
  (count_keeps _ (by omega) (Foot.holds_sub (Foot.holds_noMode hF (by rfl)) (by rfl))).faults.trans
    (declareFault_faults _ _ _ _ _ _ (Foot.holds_sub hF (by rfl)))

theorem declareLol_faults (s : State) (hF : F.holds laneNotes [0x3200, 0x3400] = true) : Faults F s (declareLol s l) := by
  refine .mono hF ?_
  have hput : ∀ (u : State) n b, Keeps (Foot.noMode ⟨laneNotes, [0x3200, 0x3400], false⟩) u (u.putFlag 0x3200 l n b) := fun _ _ _ =>
    putFlag_keeps _ _ _ (by omega) (by rfl)
  unfold declareLol
  extract_lets counted down
  have hcounted : Keeps (Foot.noMode ⟨laneNotes, [0x3200, 0x3400], false⟩) s counted := (hput _ _ _).trans (count_keeps _ (by omega) (by rfl))
  have hdown : Keeps (Foot.noMode ⟨laneNotes, [0x3200, 0x3400], false⟩) s down := hcounted.trans (.ite (hput _ _ _) (.refl _))
  exact .ite (.refl s) (hdown.faults.trans (declareFault_faults _ _ _ _ _ _ (by rfl)))

theorem declareShort_faults (s : State) (hF : F.holds [.dict, .log, .faults, .pair, .lanes, .emitted] [0x3200, 0x3400] = true) :
    Faults F s (declareShort s l) := by
  refine .mono hF (.trans (Keeps.faults ?_) (declareFault_faults _ _ _ _ _ _ (by rfl)))
  exact (putField_keeps _ _ _ _ (by omega) (by rfl)).trans ((setLane_keeps _ _ _ (by rfl)).trans (count_keeps _ (by omega) (by rfl)))

end

theorem lanesOfPort_lt {s : State} {p l : Nat} (hl : l ∈ s.lanesOfPort p) : l < 0x1000 := by
  unfold State.lanesOfPort at hl
  split at hl
  · have : ∀ l ∈ [188, 189, 190, 191], l < 0x1000 := by decide
    exact this l hl
  · obtain ⟨i, hi, rfl⟩ := List.mem_map.1 hl
    have hcount : i < s.portLanes p := List.mem_range.1 hi
    have hlanes : s.portLanes p < 9 := by
      unfold State.portLanes State.field bits
      omega
    have hfirst : s.portFirst p < 256 := by
      unfold State.portFirst State.field bits
      omega
    omega

theorem judgePort_faults (s : State) (p : Nat) (hF : F.holds [.dict, .log, .faults, .pair, .portFault, .emitted] [0x3200] = true) :
    Faults F s (judgePort s p) := by
  refine .mono hF ?_
  have hput : ∀ (l : Nat) (u : State) n b, l < 0x1000 →
      Keeps (Foot.noMode ⟨[.dict, .log, .faults, .pair, .portFault, .emitted], [0x3200], false⟩) u (u.putFlag 0x3200 l n b) := fun l _ _ _ hl =>
    putFlag_keeps _ _ _ (by omega) (by rfl)
  unfold judgePort
  extract_lets bad was noted judged
  have hnoted : Keeps (Foot.noMode ⟨[.dict, .log, .faults, .pair, .portFault, .emitted], [0x3200], false⟩) s noted := .set [.portFault] rfl (by rfl)
  have hjudged : Keeps (Foot.noMode ⟨[.dict, .log, .faults, .pair, .portFault, .emitted], [0x3200], false⟩) noted judged := by
    refine .foldl_mem _ fun x hx u => ?_
    have hlane : x.1 < 0x1000 := lanesOfPort_lt (List.fst_mem_of_mem_zipIdx hx)
    obtain ⟨l, i⟩ := x
    dsimp only
    split
    · exact (hput l _ _ _ hlane).trans (hput l _ _ _ hlane)
    · exact (hput l _ _ _ hlane).trans (hput l _ _ _ hlane)
  refine (hnoted.trans hjudged).faults.trans (.ite (declareFault_faults _ _ _ _ _ _ (by rfl)) ?_)
  exact .ite (clearActive_keeps _ _ (by rfl)).faults (.refl _)

/-- The fields of an alignment. -/
abbrev alignFields : List Field := [.dict, .log, .faults, .pair, .lanes, .portFault, .emitted]

section
variable {l : Nat} (hl : l < 0x1000)
include hl

theorem judgeAlignment_faults (s : State) (hF : F.holds [.dict, .log, .faults, .pair, .portFault, .emitted] [0x3200] = true) :
    Faults F s (judgeAlignment s l) := by
  unfold judgeAlignment
  split
  · exact judgePort_faults _ _ hF
  · exact (putFlag_keeps _ _ _ (by omega) (Foot.holds_sub (Foot.holds_noMode hF (by rfl)) (by rfl))).faults

variable (hF : F.holds alignFields [0x3200, 0x3400] = true)
include hF

theorem dropAlignment_faults (s : State) : Faults F s (dropAlignment s l) := by
  refine .mono hF ?_
  unfold dropAlignment
  refine .ite ?_ (.refl s)
  refine .trans (Keeps.faults ?_) ((judgeAlignment_faults hl _ (by rfl)).trans (noteAlignment_faults hl _ (by rfl)))
  exact (setLane_keeps _ _ _ (by rfl)).trans (putFlag_keeps _ _ _ (by omega) (by rfl))

theorem expectedComma_faults (s : State) (found : Option Word) : Faults F s (expectedComma s l found) := by
  have hset : ∀ x, Faults F s (s.setLane l x) := fun _ =>
    (setLane_keeps _ _ _ (Foot.holds_sub (Foot.holds_noMode hF (by rfl)) (by rfl))).faults
  unfold expectedComma
  split
  · exact .refl s
  · exact .ite (dropAlignment_faults hl hF _) (hset _)
  · exact .ite (dropAlignment_faults hl hF _) (hset _)

theorem takeMarker_faults (s : State) (w : Word) (k : Nat) : Faults F s (takeMarker s l w k) := by
  refine .mono hF ?_
  unfold takeMarker
  extract_lets lane kept placed
  have hplaced : Keeps (Foot.noMode ⟨alignFields, [0x3200, 0x3400], false⟩) s placed :=
    (setLane_keeps _ _ _ (by rfl)).trans <| (putField_keeps _ _ _ _ (by omega) (by rfl)).trans <|
      (putField_keeps _ _ _ _ (by omega) (by rfl)).trans (putFlag_keeps _ _ _ (by omega) (by rfl))
  exact .ite hplaced.faults (hplaced.faults.trans (judgeAlignment_faults hl _ (by rfl)))

theorem acquire_faults (s : State) (w : Word) (k : Nat) : Faults F s (acquire s l w k) := by
  unfold acquire
  refine .ite (.refl s) ?_
  split
  · exact .ite (takeMarker_faults hl hF _ _ _) (.ite (dropAlignment_faults hl hF _) (noteAlignment_faults hl _ (Foot.holds_sub hF (by rfl))))
  · exact takeMarker_faults hl hF _ _ _

theorem loseAlignment_faults (s : State) (x : List (Option Word)) : Faults F s (loseAlignment s l x) :=
  .foldl (fun u _ => expectedComma_faults hl hF u _) _ s

theorem countCodeword_faults (s : State) (n : Option Nat) : Faults F s (countCodeword s l n) := by
  refine .mono hF ?_
  have hput : ∀ j v, j < 65536 → Keeps (Foot.noMode ⟨alignFields, [0x3200, 0x3400], false⟩) s (s.put 0x3400 j v) := fun _ _ hj =>
    put_keeps _ _ hj (by rfl)
  unfold countCodeword
  split
  · exact (hput _ _ (by omega)).faults
  · extract_lets counted due
    have hcounted : Keeps (Foot.noMode ⟨alignFields, [0x3200, 0x3400], false⟩) s counted := hput _ _ (by omega)
    exact .ite ((hcounted.trans (setLane_keeps _ _ _ (by rfl))).faults.trans (declareFault_faults _ _ _ _ _ _ (by rfl))) hcounted.faults

theorem lineReceived_faults (s : State) (x : List Nat) : Faults F s (lineReceived s l x) := by
  unfold lineReceived
  extract_lets levels rx lane counted
  have hcounted : Faults F s counted :=
    (setLane_keeps _ _ _ (Foot.holds_sub (Foot.holds_noMode hF (by rfl)) (by rfl))).faults.trans
      (.foldl (fun u _ => countCodeword_faults hl hF u _) _ _)
  exact hcounted.trans (.foldl (fun u _ => expectedComma_faults hl hF u _) _ _)

theorem codeword_faults (s : State) (e : Nat) (x : List Nat) : Faults F s (codeword s l e x) := by
  have hemit : ∀ y, Faults F s (s.emit y) := fun _ => (emit_keeps _ _ (Foot.holds_sub (Foot.holds_noMode hF (by rfl)) (by rfl))).faults
  unfold codeword
  refine .ite ?_ (.ite (.refl s) (countCodeword_faults hl hF _ _))
  exact (Faults.ite (hemit _) (.refl s)).trans (.ite (lineReceived_faults hl hF _ _) (.refl _))

theorem idleExitFail_faults (s : State) : Faults F s (idleExitFail s l) := by
  refine .mono hF ?_
  have hput : ∀ (u : State) n b, Keeps (Foot.noMode ⟨alignFields, [0x3200, 0x3400], false⟩) u (u.putFlag 0x3200 l n b) := fun _ _ _ =>
    putFlag_keeps _ _ _ (by omega) (by rfl)
  unfold idleExitFail
  refine .ite (.trans (Keeps.faults ?_) ((judgeAlignment_faults hl _ (by rfl)).trans (noteAlignment_faults hl _ (by rfl)))) (.refl s)
  exact (setLane_keeps _ _ _ (by rfl)).trans ((hput _ _ _).trans (hput _ _ _))

end

theorem sendMarker_keeps (s : State) (l : Nat) (idle : Bool) (b : List LineBlock) (hF : F.holds [.lanes, .emitted] = true) :
    Keeps F s (sendMarker s l idle b) :=
  .mono hF ((setLane_keeps _ _ _ (by rfl)).trans (emit_keeps _ _ (by rfl)))

theorem startLink_keeps (s : State) (l : Nat) (hF : F.holds [.lanes, .emitted] = true) : Keeps F s (startLink s l) :=
  .mono hF ((setLane_keeps _ _ _ (by rfl)).trans (sendMarker_keeps _ _ _ _ (by rfl)))

theorem sendPattern_keeps (s : State) (l : Nat) (hF : F.holds [.emitted] = true) : Keeps F s (sendPattern s l) :=
  .ite (emit_keeps _ _ hF) (.refl s)

theorem startTx_keeps (s : State) (l : Nat) (hF : F.holds [.lanes, .emitted] = true) : Keeps F s (startTx s l) :=
  .ite (.refl s) (.ite (startLink_keeps _ _ hF) (sendPattern_keeps _ _ (Foot.holds_sub hF (by rfl))))

theorem commaInsert_faults (s : State) {l : Nat} (b : List LineBlock) (hl : l < 0x1000) (hF : F.holds alignFields [0x3200, 0x3400] = true) :
    Faults F s (commaInsert s l b) := by
  have hsend : Faults F s (sendMarker s l false b) :=
    (sendMarker_keeps _ _ _ _ (Foot.holds_sub (Foot.holds_noMode hF (by rfl)) (by rfl))).faults
  unfold commaInsert
  exact .ite (.ite (hsend.trans (takeMarker_faults hl hF _ _ _)) hsend) (.refl s)

/-! Synthesisers and the changes of lanes. -/

theorem synthLock_faults (s : State) {y : Nat} (hy : y < 0x200) (hF : F.holds [.dict, .log, .faults, .pair, .lanes, .synths, .emitted] [0x3200] = true) :
    Faults F s (synthLock s y) := by
  have hnm := Foot.holds_noMode hF (by rfl)
  unfold synthLock
  extract_lets x set settled started
  have hset : Faults F s set := (setSynth_keeps _ _ _ (Foot.holds_sub hnm (by rfl))).faults
  have hsettled : Faults F set settled := .ite (.refl _) (clearActive_keeps _ _ (Foot.holds_sub hnm (by rfl))).faults
  have hstarted : Faults F settled started := .foldl (fun u _ => .ite (startTx_keeps _ _ (Foot.holds_sub hnm (by rfl))).faults (.refl u)) _ _
  refine .ite (.refl s) (hset.trans (hsettled.trans (hstarted.trans ?_)))
  exact Faults.foldl_mem _ fun i hi u => judgeRate_faults (by have := List.mem_range.1 hi; omega) u (Foot.holds_sub hF (by rfl))

theorem servedLanes_lt {s : State} {y l : Nat} (hy : y < 0x200) (hl : l ∈ s.servedLanes y) : l < 0x1000 := by
  obtain ⟨i, hi, rfl⟩ := List.mem_map.1 (List.mem_filter.1 hl).1
  have := List.mem_range.1 hi
  omega

/-- The fields that a change of lanes touches. -/
abbrev laneSetFields : List Field := [.dict, .recent, .log, .faults, .pair, .ref, .lanes, .synths, .rx, .tx, .emitted]

theorem synthFail_faults (s : State) {y : Nat} (hy : y < 0x200)
    (hF : F.holds [.dict, .log, .faults, .pair, .ref, .lanes, .synths, .rx, .tx, .emitted] [0x2120, 0x3200, 0x3400] = true) :
    Faults F s (synthFail s y) := by
  have hnm := Foot.holds_noMode hF (by rfl)
  unfold synthFail
  extract_lets x lanes failed told
  have hfailed : Faults F s failed := (setSynth_keeps _ _ _ (Foot.holds_sub hnm (by rfl))).faults
  have htold : Faults F failed told := declareFault_faults _ _ _ _ _ _ (Foot.holds_sub hF (by rfl))
  refine .ite (.refl s) (hfailed.trans (htold.trans (.trans ?_ (judgePlaced_faults (Foot.holds_sub hF (by rfl)) _))))
  refine Faults.foldl_mem _ fun l hl u => ?_
  have hlane : l < 0x1000 := servedLanes_lt hy hl
  extract_lets lane down dark
  have hdown : Faults F u down := (setLane_keeps _ _ _ (Foot.holds_sub hnm (by rfl))).faults
  have hdark : Faults F down dark := .ite (.refl _) (putFlag_keeps _ _ _ (by omega) (Foot.holds_sub hnm (by rfl))).faults
  exact hdown.trans (hdark.trans (.ite (declareLol_faults hlane _ (Foot.holds_sub hF (by rfl))) (.refl _)))

theorem synthRetry_keeps (s : State) (y : Nat) (hF : F.holds [.synths] = true) : Keeps F s (synthRetry s y) := by
  unfold synthRetry
  dsimp only
  split
  · exact .ite (setSynth_keeps _ _ _ hF) (.refl s)
  · exact .refl s

theorem settleQuad_faults (s : State) {q : Nat} (hq : q < 0x200) (hF : F.holds [.dict, .log, .faults, .pair, .synths, .emitted] [0x3200] = true) :
    Faults F s (settleQuad s q) := by
  have hnm := Foot.holds_noMode hF (by rfl)
  have hkey : ∀ (u : State) y k, Faults F u (setKey u y k) := fun _ _ _ => (setKey_keeps _ _ _ (Foot.holds_sub hnm (by rfl))).faults
  unfold settleQuad
  refine ((hkey _ _ _).trans (hkey _ _ _)).trans (Faults.foldl_mem _ fun i hi u => ?_)
  have hlane : 4 * q + i < 0x1000 := by have := List.mem_range.1 hi; omega
  exact (noteServers_keeps hlane _ (Foot.holds_sub hnm (by rfl))).faults.trans (judgeRate_faults hlane _ (Foot.holds_sub hF (by rfl)))

theorem setLaneElems_keeps (s : State) (w : Nat) (m : Bool) {c : LaneSet} (hc : c.1 < 0x100)
    (hF : F.holds [.dict, .recent, .log, .lanes, .faults] [0x3000, 0x3100, 0x3200, 0x3300] = true) : Keeps F s (setLaneElems w m s c) := by
  refine .mono hF ?_
  unfold setLaneElems
  extract_lets lane on restart discard note noted committed
  have hnote : ∀ (u : State) i j v, Keeps ⟨[.dict, .recent, .log, .lanes, .faults], [0x3000, 0x3100, 0x3200, 0x3300], false⟩ u (note u i j v) :=
    fun u _ _ _ => .ite (.refl u) (logEvent_keeps _ _ _ _ _ _ _ _ (by rfl))
  have hlane : lane < 0x100 := hc
  have hnoted : Keeps ⟨[.dict, .recent, .log, .lanes, .faults], [0x3000, 0x3100, 0x3200, 0x3300], false⟩ s noted :=
    (hnote _ _ _ _).trans ((hnote _ _ _ _).trans (hnote _ _ _ _))
  have hcommitted : Keeps ⟨[.dict, .recent, .log, .lanes, .faults], [0x3000, 0x3100, 0x3200, 0x3300], false⟩ noted committed :=
    (commit_keeps _ _ (by omega) (by rfl)).trans ((commit_keeps _ _ (by omega) (by rfl)).trans (commit_keeps _ _ (by omega) (by rfl)))
  refine (hnoted.trans hcommitted).trans (.ite (restartLane_keeps (by omega) _ _ _ _ (by rfl)) (.ite ?_ (.refl _)))
  exact (putFlag_keeps _ _ _ (by omega) (by rfl)).trans (setLane_keeps _ _ _ (by rfl))

theorem applyLanes_faults (s : State) (w : Nat) (m : Bool) {cs : List LaneSet} (hcs : ∀ c ∈ cs, c.1 < 0x100)
    (hF : F.holds laneSetFields [0x2120, 0x3000, 0x3100, 0x3200, 0x3300] = true) : Faults F s (applyLanes s w m cs) := by
  have hnm := Foot.holds_noMode hF (by rfl)
  unfold applyLanes
  extract_lets restarted written settled
  have hwritten : Keeps F.noMode s written := .foldl_mem _ fun c hc u => setLaneElems_keeps _ _ _ (hcs c hc) (Foot.holds_sub hnm (by rfl))
  have hsettled : Faults F written settled := Faults.foldl_mem _ fun q hq u => by
    obtain ⟨c, hc, rfl⟩ := List.mem_map.1 (List.mem_eraseDups.1 hq)
    exact settleQuad_faults _ (by have := hcs c hc; omega) (Foot.holds_sub hF (by rfl))
  refine hwritten.faults.trans (hsettled.trans (.trans ?_ (judgePlaced_faults (Foot.holds_sub hF (by rfl)) _)))
  exact .foldl (fun _ _ => (startTx_keeps _ _ (Foot.holds_sub hnm (by rfl))).faults) _ _

theorem groupPartners_lt {l p : Nat} {m tx : Word} (hp : p ∈ groupPartners l m tx) : p ≤ l + 3 := by
  unfold groupPartners at hp
  split at hp
  · simp at hp; omega
  · split at hp
    · simp at hp; omega
    · simp at hp

theorem laneChanges_lt {s : State} {l : Nat} {m rx tx : Word} (hl : l < 192) : ∀ c ∈ laneChanges s l m rx tx, c.1 < 0x100 := by
  intro c hc
  have hbridle : ∀ o ∈ [188, 189, 190, 191].filter fun o => o != l && !(groupPartners l m tx).contains o, o < 0x100 := fun o ho =>
    (by decide : ∀ o ∈ [188, 189, 190, 191], o < 0x100) o (List.mem_filter.1 ho).1
  unfold laneChanges at hc
  rcases List.mem_cons.1 hc with rfl | hc
  · exact (by omega : l < 0x100)
  rcases List.mem_append.1 hc with hc | hc
  · rcases List.mem_append.1 hc with hc | hc
    · obtain ⟨p, hp, rfl⟩ := List.mem_map.1 hc
      have := groupPartners_lt hp
      exact (by omega : p < 0x100)
    · obtain ⟨p, hp, rfl⟩ := List.mem_map.1 hc
      have := groupPartners_lt (List.mem_filter.1 hp).1
      exact (by omega : p < 0x100)
  · split at hc
    · obtain ⟨o, ho, rfl⟩ := List.mem_map.1 hc
      exact hbridle o ho
    · split at hc
      · obtain ⟨o, ho, rfl⟩ := List.mem_map.1 hc
        exact hbridle o ho
      · exact absurd hc List.not_mem_nil

theorem laneHandler_faults (s u : State) (i : Nat) {j : Nat} (b : List Byte) (hj : j % 256 < 192)
    (hF : F.holds laneSetFields [0x2120, 0x3000, 0x3100, 0x3200, 0x3300] = true) : Faults F u ((laneHandler s i j b).commit u) := by
  have hcs : ∀ m rx tx, ∀ c ∈ laneChanges s (j % 256) m rx tx, c.1 < 0x100 := fun m rx tx => laneChanges_lt hj
  unfold laneHandler
  dsimp only
  exact applyLanes_faults u _ _ (hcs _ _ _) hF

/-! Receivers (R105-R112, R122). -/

section
variable {l : Nat} (hl : l < 0x1000)
include hl

theorem adaptComplete_keeps (s : State) (hF : F.holds [.free, .dict, .lanes] [0x3200, 0x3300] = true) : Keeps F s (adaptComplete s l) := by
  unfold adaptComplete
  extract_lets first drawn v x adapted reported
  have hadapted : Keeps F s adapted := setLane_keeps _ _ _ (Foot.holds_sub hF (by rfl))
  have hreported : Keeps F adapted reported :=
    .ite ((put_keeps _ _ (by omega) (Foot.holds_sub hF (by rfl))).trans (.set [.free] rfl (Foot.holds_sub hF (by rfl)))) (.refl _)
  exact .ite (hadapted.trans (hreported.trans (.ite (putFlag_keeps _ _ _ (by omega) (Foot.holds_sub hF (by rfl))) (.refl _)))) (.refl s)

theorem losDeclare_faults (s : State) (hF : F.holds [.dict, .log, .faults, .pair, .lanes, .emitted] [0x3200, 0x3400] = true) :
    Faults F s (losDeclare s l) := by
  have hnm := Foot.holds_noMode hF (by rfl)
  have hput : ∀ (u : State) n b, Keeps F.noMode u (u.putFlag 0x3200 l n b) := fun _ _ _ => putFlag_keeps _ _ _ (by omega) (Foot.holds_sub hnm (by rfl))
  unfold losDeclare
  extract_lets lost down x noted
  have hdown : Keeps F.noMode s down := ((hput _ _ _).trans (hput _ _ _)).trans (.ite (hput _ _ _) (.refl _))
  have hnoted : Keeps F.noMode down noted := setLane_keeps _ _ _ (Foot.holds_sub hnm (by rfl))
  refine .ite (.refl s) (.trans ((hdown.trans hnoted).trans ?_).faults (declareFault_faults _ _ _ _ _ _ (Foot.holds_sub hF (by rfl))))
  exact count_keeps _ (by omega) (Foot.holds_sub hnm (by rfl))

theorem losClear_keeps (s : State) (hF : F.holds [.dict, .faults, .lanes] [0x3200] = true) : Keeps F s (losClear s l) := by
  have hput : ∀ (u : State) n b, Keeps F u (u.putFlag 0x3200 l n b) := fun _ _ _ => putFlag_keeps _ _ _ (by omega) (Foot.holds_sub hF (by rfl))
  unfold losClear
  extract_lets x found tried
  have hfound : Keeps F s found := (hput _ _ _).trans (setLane_keeps _ _ _ (Foot.holds_sub hF (by rfl)))
  have htried : Keeps F found tried := .ite (hput _ _ _) (.refl _)
  exact .ite (.refl s) (hfound.trans (htried.trans (.ite (.refl _) (clearActive_keeps _ _ (Foot.holds_sub hF (by rfl))))))

theorem lolClear_keeps (s : State) (hF : F.holds [.dict, .faults] [0x3200] = true) : Keeps F s (lolClear s l) := by
  have hput : Keeps F s (s.putFlag 0x3200 l 30 false) := putFlag_keeps _ _ _ (by omega) (Foot.holds_sub hF (by rfl))
  exact .ite (.refl s) (.ite hput (hput.trans (clearActive_keeps _ _ (Foot.holds_sub hF (by rfl)))))

theorem polarity_faults (s : State) (hF : F.holds [.dict, .log, .faults, .pair, .lanes, .emitted] [0x3200, 0x3400] = true) :
    Faults F s (polarity s l) := by
  have hnm := Foot.holds_noMode hF (by rfl)
  have hput : ∀ (u : State) n b, Keeps F.noMode u (u.putFlag 0x3200 l n b) := fun _ _ _ => putFlag_keeps _ _ _ (by omega) (Foot.holds_sub hnm (by rfl))
  unfold polarity
  extract_lets p x noted
  have hnoted : Keeps F.noMode s noted := setLane_keeps _ _ _ (Foot.holds_sub hnm (by rfl))
  refine .ite (.ite (.trans (Keeps.faults ?_) (declareFault_faults _ _ _ _ _ _ (Foot.holds_sub hF (by rfl)))) (hnoted.trans (hput _ _ _)).faults) (.refl s)
  exact hnoted.trans ((hput _ _ _).trans (count_keeps _ (by omega) (Foot.holds_sub hnm (by rfl))))

theorem txProbe_keeps (s : State) (b : Bool) (hF : F.holds [.dict, .faults, .lanes] [0x3200] = true) : Keeps F s (txProbe s l b) := by
  unfold txProbe
  extract_lets x probed on
  have hprobed : Keeps F s probed := setLane_keeps _ _ _ (Foot.holds_sub hF (by rfl))
  have hon : Keeps F probed on := putFlag_keeps _ _ _ (by omega) (Foot.holds_sub hF (by rfl))
  exact .ite (.ite hprobed (hprobed.trans (.ite hon (hon.trans (clearActive_keeps _ _ (Foot.holds_sub hF (by rfl))))))) (.refl s)

theorem idleExit_faults (s : State) (b : Bool) (hF : F.holds [.dict, .log, .faults, .pair, .lanes, .emitted] [0x3200, 0x3400] = true) :
    Faults F s (idleExit s l b) := by
  have hnm := Foot.holds_noMode hF (by rfl)
  have hput : Keeps F.noMode s (s.putFlag 0x3200 l 24 false) := putFlag_keeps _ _ _ (by omega) (Foot.holds_sub hnm (by rfl))
  unfold idleExit
  refine .ite (.refl s) (.ite (hput.faults.trans (declareShort_faults hl _ hF)) ?_)
  exact (hput.trans ((emit_keeps _ _ (Foot.holds_sub hnm (by rfl))).trans (startLink_keeps _ _ (Foot.holds_sub hnm (by rfl))))).faults

theorem idleEnter_keeps (s : State) (b : List LineBlock) (hF : F.holds [.dict, .lanes, .emitted] [0x3200] = true) : Keeps F s (idleEnter s l b) := by
  unfold idleEnter
  exact .ite ((sendMarker_keeps _ _ _ _ (Foot.holds_sub hF (by rfl))).trans (putFlag_keeps _ _ _ (by omega) (Foot.holds_sub hF (by rfl)))) (.refl s)

theorem linkChange_faults (s : State) (up : Bool) (x : List Word)
    (hF : F.holds timingFields [0x2120, 0x3200, 0x3300] = true) : Faults F s (linkChange s l up x) := by
  have hnm := Foot.holds_noMode hF (by rfl)
  have hput : ∀ (j : Nat) (u : State) n b, j < 0x2000 → Keeps F.noMode u (u.putFlag 0x3200 j n b) := fun j _ _ _ hj =>
    putFlag_keeps _ _ _ (by omega) (Foot.holds_sub hnm (by rfl))
  have hputs : ∀ (j : Nat) (u : State) hi lo v, j < 0x2000 → Keeps F.noMode u (u.putField 0x3200 j hi lo v) := fun j _ _ _ _ hj =>
    putField_keeps _ _ _ _ (by omega) (Foot.holds_sub hnm (by rfl))
  have hlanes : ∀ j ∈ l :: groupPartners l (s.laneMode l) (s.txWord l), j < 0x2000 := by
    intro j hj
    rcases List.mem_cons.1 hj with rfl | hj
    · omega
    · have := groupPartners_lt hj
      omega
  unfold linkChange
  refine .ite (.refl s) (.ite (.ite (Keeps.faults (.foldl_mem _ fun a ha u => ?_)) (.refl s)) ?_)
  · have hj := hlanes a.1 (List.fst_mem_of_mem_zipIdx ha)
    obtain ⟨j, i⟩ := a
    dsimp only
    refine .trans (.ite ?_ (.refl u)) (hput _ _ _ _ hj)
    exact (put_keeps _ _ (by simp only at hj; omega) (Foot.holds_sub hnm (by rfl))).trans ((hput _ _ _ _ hj).trans (hput _ _ _ _ hj))
  · refine .trans (Keeps.faults (.foldl_mem _ fun j hj u => ?_)) (judgePlaced_faults (Foot.holds_sub hF (by rfl)) _)
    exact (hputs _ _ _ _ _ (hlanes j hj)).trans (hputs _ _ _ _ _ (hlanes j hj))

theorem diagHandler_keeps (s u : State) (b : List Byte) (hF : F.holds [.dict, .recent, .emitted] [0x3200, 0x3400] = true) :
    Keeps F u ((diagHandler s l b).commit u) := by
  unfold diagHandler
  extract_lets v pattern loop used h
  dsimp -zeta only
  extract_lets old committed sent hit
  have hcommitted : Keeps F u committed := commit_keeps _ _ (by omega) (Foot.holds_sub hF (by rfl))
  have hsent : Keeps F committed sent :=
    .ite ((putFlag_keeps _ _ _ (by omega) (Foot.holds_sub hF (by rfl))).trans (sendPattern_keeps _ _ (Foot.holds_sub hF (by rfl)))) (.refl _)
  have hhit : Keeps F sent hit := emit_keeps _ _ (Foot.holds_sub hF (by rfl))
  refine (hcommitted.trans hsent).trans (.ite (hhit.trans (.ite (put_keeps _ _ (by omega) (Foot.holds_sub hF (by rfl))) (.refl _))) (.refl _))

end

end Sys2Proof.Machine
end

section
/-! PROOFS. What the lane commands leave unchanged (R94-R132). -/

namespace Sys2Proof.Machine

section
variable {s t : State} {l : Nat}

theorem idleMarkerReceived_keeps {w : Word} (hl : l < 192) (ht : exec (.idleMarkerReceived l w) s = .next t) :
    Keeps ⟨[.dict, .emitted], [0x3200], false⟩ s t :=
  .of_onUnit (f := fun s => idleReceived s l w) rfl ht (by rfl) fun _ => .ite (putFlag_keeps _ _ _ (by omega) (by rfl)) (.refl _)

theorem synthesiserRelockAttempt_keeps (ht : exec (.synthesiserRelockAttempt l) s = .next t) : Keeps ⟨[.synths, .emitted], [], false⟩ s t :=
  .of_onUnit (f := fun s => synthRetry s l) rfl ht (by rfl) fun _ => synthRetry_keeps _ _ (by rfl)

theorem electricalIdleEnter_keeps {x : LaneBlocks} (ht : exec (.electricalIdleEnter x) s = .next t) :
    Keeps ⟨[.dict, .lanes, .emitted], [0x3200], false⟩ s t :=
  .of_onUnit (f := fun s => idleEnter s x.lane x.blocks) rfl ht (by rfl) fun hl => idleEnter_keeps (by omega) _ _ (by rfl)

theorem lolClear_command_keeps (ht : exec (.lolClear l) s = .next t) : Keeps ⟨[.dict, .faults, .emitted], [0x3200], false⟩ s t :=
  .of_onUnit (f := fun s => lolClear s l) rfl ht (by rfl) fun hl => lolClear_keeps (by omega) _ (by rfl)

theorem adaptationComplete_keeps (ht : exec (.adaptationComplete l) s = .next t) :
    Keeps ⟨[.free, .dict, .lanes, .emitted], [0x3200, 0x3300], false⟩ s t :=
  .of_onUnit (f := fun s => adaptComplete s l) rfl ht (by rfl) fun hl => adaptComplete_keeps (by omega) _ (by rfl)

theorem losClear_command_keeps (ht : exec (.losClear l) s = .next t) : Keeps ⟨[.dict, .faults, .lanes, .emitted], [0x3200], false⟩ s t :=
  .of_onUnit (f := fun s => losClear s l) rfl ht (by rfl) fun hl => losClear_keeps (by omega) _ (by rfl)

theorem txShortProbe_keeps {b : Bool} (ht : exec (.txShortProbe l b) s = .next t) :
    Keeps ⟨[.dict, .faults, .lanes, .emitted], [0x3200], false⟩ s t :=
  .of_onUnit (f := fun s => txProbe s l b) rfl ht (by rfl) fun hl => txProbe_keeps (by omega) _ _ (by rfl)

theorem lolDeclare_faults (ht : exec (.lolDeclare l) s = .next t) :
    Faults ⟨[.dict, .log, .faults, .pair, .emitted], [0x3200, 0x3400], false⟩ s t :=
  .of_onUnit (f := fun s => if s.rxOn l then declareLol s l else s) rfl ht (by rfl) fun hl =>
    .ite (declareLol_faults (by omega) _ (by rfl)) (.refl _)

/-- The footprint of a lane's own declarations. -/
abbrev laneFoot : Foot := ⟨[.dict, .log, .faults, .pair, .lanes, .emitted], [0x3200, 0x3400], false⟩

theorem electricalIdleExit_faults {x : LaneExit} (ht : exec (.electricalIdleExit x) s = .next t) : Faults laneFoot s t :=
  .of_onUnit (f := fun s => idleExit s x.lane x.short) rfl ht (by rfl) fun hl => idleExit_faults (by omega) _ _ (by rfl)

theorem losDeclare_command_faults (ht : exec (.losDeclare l) s = .next t) : Faults laneFoot s t :=
  .of_onUnit (f := fun s => losDeclare s l) rfl ht (by rfl) fun hl => losDeclare_faults (by omega) _ (by rfl)

theorem polarityReversalDetected_faults (ht : exec (.polarityReversalDetected l) s = .next t) : Faults laneFoot s t :=
  .of_onUnit (f := fun s => polarity s l) rfl ht (by rfl) fun hl => polarity_faults (by omega) _ (by rfl)

theorem txShortDeclare_faults (ht : exec (.txShortDeclare l) s = .next t) : Faults laneFoot s t :=
  .of_onUnit (f := fun s => txShort s l) rfl ht (by rfl) fun hl => .ite (declareShort_faults (by omega) _ (by rfl)) (.refl _)

/-- The footprint of a lane's diagnostics. -/
abbrev diagFoot : Foot := ⟨[.dict, .recent, .req, .log, .pair, .emitted], [0x1001, 0x3200, 0x3400, 0x5300], false⟩

theorem laneDiagWrite_keeps {rq : Rq} {v : Word} (hl : l < 192) (ht : exec (.laneDiagWrite rq l v) s = .next t) : Keeps diagFoot s t :=
  .of_request (h := fun s => diagHandler s l (valueBytes rq v)) rfl ht (by rfl) (fun _ _ => rfl) fun u =>
    diagHandler_keeps (by omega) _ u _ (by rfl)

theorem patternErrorInject_keeps {rq : Rq} {v : Word} (hl : l < 192) (ht : exec (.patternErrorInject rq l v) s = .next t) :
    Keeps diagFoot s t :=
  .of_request (h := fun s => diagHandler s l (valueBytes rq (setBit v 23 true))) rfl ht (by rfl) (fun _ _ => rfl) fun u =>
    diagHandler_keeps (by omega) _ u _ (by rfl)

/-- The footprint of the line code. -/
abbrev alignFoot : Foot := ⟨[.dict, .log, .faults, .pair, .lanes, .portFault, .emitted], [0x3200, 0x3400], false⟩

theorem alignmentAcquired_faults {w : Word} {k : Nat} (ht : exec (.alignmentAcquired l w k) s = .next t) : Faults alignFoot s t :=
  .of_onUnit (f := fun s => acquire s l w k) rfl ht (by rfl) fun hl => acquire_faults (by omega) (by rfl) _ _ _

theorem alignmentLost_faults {x : LaneCommas} (ht : exec (.alignmentLost x) s = .next t) : Faults alignFoot s t :=
  .of_onUnit (f := fun s => loseAlignment s x.lane x.found) rfl ht (by rfl) fun hl => loseAlignment_faults (by omega) (by rfl) _ _

theorem idleExitFailure_faults (ht : exec (.idleExitFailure l) s = .next t) : Faults alignFoot s t :=
  .of_onUnit (f := fun s => idleExitFail s l) rfl ht (by rfl) fun hl => idleExitFail_faults (by omega) (by rfl) _

theorem tetherCommaInsert_faults {x : LaneBlocks} (ht : exec (.tetherCommaInsert x) s = .next t) : Faults alignFoot s t :=
  .of_onUnit (f := fun s => commaInsert s x.lane x.blocks) rfl ht (by rfl) fun hl => commaInsert_faults _ _ (by omega) (by rfl)

theorem uncorrectableCodeword_faults {x : LaneLevels} {e : Nat} (ht : exec (.uncorrectableCodeword x e) s = .next t) : Faults alignFoot s t :=
  .of_onUnit (f := fun s => codeword s x.lane e x.levels) rfl ht (by rfl) fun hl => codeword_faults (by omega) (by rfl) _ _ _

theorem synthesiserLocked_faults (ht : exec (.synthesiserLocked l) s = .next t) :
    Faults ⟨[.dict, .log, .faults, .pair, .lanes, .synths, .emitted], [0x3200], false⟩ s t :=
  .of_onUnit (f := fun s => synthLock s l) rfl ht (by rfl) fun hl => synthLock_faults _ (by omega) (by rfl)

theorem ethernetLinkChange_faults {up : Bool} {x : List Word} (ht : exec (.ethernetLinkChange l up x) s = .next t) :
    Faults ⟨[.dict, .log, .faults, .pair, .ref, .rx, .tx, .emitted], [0x2120, 0x3200, 0x3300], false⟩ s t :=
  .of_onUnit (f := fun s => linkChange s l up x) rfl ht (by rfl) fun hl => linkChange_faults (by omega) _ _ _ (by rfl)

theorem synthesiserLockFail_faults (ht : exec (.synthesiserLockFail l) s = .next t) :
    Faults ⟨[.dict, .log, .faults, .pair, .ref, .lanes, .synths, .rx, .tx, .emitted], [0x2120, 0x3200, 0x3400], false⟩ s t :=
  .of_onUnit (f := fun s => synthFail s l) rfl ht (by rfl) fun hl => synthFail_faults _ (by omega) (by rfl)

/-- The footprint of a lane's mode and rates. -/
abbrev laneSetFoot : Foot := ⟨[.dict, .recent, .req, .log, .faults, .pair, .ref, .lanes, .synths, .rx, .tx, .emitted],
  [0x1001, 0x2120, 0x3000, 0x3100, 0x3200, 0x3300, 0x5300], false⟩

theorem laneModeWrite_faults {rq : Rq} {v : Word} (hl : l < 192) (ht : exec (.laneModeWrite rq l v) s = .next t) : Faults laneSetFoot s t :=
  .of_request (h := fun s => laneHandler s 0x3000 l (valueBytes rq v)) rfl ht (by rfl) (fun _ _ => rfl) fun u =>
    laneHandler_faults _ u _ _ (by omega) (by rfl)

theorem laneRateWrite_faults {rq : Rq} {v : Word} (hl : l % 256 < 192) (ht : exec (.laneRateWrite rq l v) s = .next t) :
    Faults laneSetFoot s t :=
  .of_request (h := fun s => laneHandler s 0x3100 l (valueBytes rq v)) rfl ht (by rfl) (fun _ _ => rfl) fun u =>
    laneHandler_faults _ u _ _ (by omega) (by rfl)

end

/-- Settles O54, by the footprint of each command. -/
theorem lanesFramed : Obligations.LanesFramed := by
  unfold Obligations.LanesFramed
  intro c s t hwf ht
  cases c
  case idleMarkerReceived l w =>
    have hl : l < 192 := by simp only [Instr.wf, Bool.and_eq_true, decide_eq_true_eq] at hwf; exact hwf.1
    exact (idleMarkerReceived_keeps hl ht).frame (by rfl)
  case synthesiserRelockAttempt _ => exact (synthesiserRelockAttempt_keeps ht).eq_graft
  case electricalIdleEnter _ => exact (electricalIdleEnter_keeps ht).frame (by rfl)
  case lolClear _ => exact (lolClear_command_keeps ht).frame (by rfl)
  case adaptationComplete _ => exact (adaptationComplete_keeps ht).frame (by rfl)
  case losClear _ => exact (losClear_command_keeps ht).frame (by rfl)
  case txShortProbe _ _ => exact (txShortProbe_keeps ht).frame (by rfl)
  case lolDeclare _ => exact (lolDeclare_faults ht).frame (by rfl)
  case electricalIdleExit _ => exact (electricalIdleExit_faults ht).frame (by rfl)
  case losDeclare _ => exact (losDeclare_command_faults ht).frame (by rfl)
  case polarityReversalDetected _ => exact (polarityReversalDetected_faults ht).frame (by rfl)
  case txShortDeclare _ => exact (txShortDeclare_faults ht).frame (by rfl)
  case laneDiagWrite rq l v =>
    have hl : l < 192 := by simp only [Instr.wf, Bool.and_eq_true, decide_eq_true_eq] at hwf; exact hwf.1.2
    exact (laneDiagWrite_keeps hl ht).frame (by rfl)
  case patternErrorInject rq l v =>
    have hl : l < 192 := by simp only [Instr.wf, Bool.and_eq_true, decide_eq_true_eq] at hwf; exact hwf.1.2
    exact (patternErrorInject_keeps hl ht).frame (by rfl)
  case alignmentAcquired _ _ _ => exact (alignmentAcquired_faults ht).frame (by rfl)
  case alignmentLost _ => exact (alignmentLost_faults ht).frame (by rfl)
  case idleExitFailure _ => exact (idleExitFailure_faults ht).frame (by rfl)
  case tetherCommaInsert _ => exact (tetherCommaInsert_faults ht).frame (by rfl)
  case uncorrectableCodeword _ _ => exact (uncorrectableCodeword_faults ht).frame (by rfl)
  case synthesiserLocked _ => exact (synthesiserLocked_faults ht).frame (by rfl)
  case ethernetLinkChange _ _ _ => exact (ethernetLinkChange_faults ht).frame (by rfl)
  case synthesiserLockFail _ => exact (synthesiserLockFail_faults ht).frame (by rfl)
  case laneModeWrite rq l v =>
    have hl : l < 192 := by simp only [Instr.wf, Bool.and_eq_true, decide_eq_true_eq] at hwf; exact hwf.1.2
    exact (laneModeWrite_faults hl ht).frame (by rfl)
  case laneRateWrite rq j v =>
    have hl : j % 256 < 192 := by simp only [Instr.wf, Bool.and_eq_true, decide_eq_true_eq] at hwf; exact hwf.1.2.1
    exact (laneRateWrite_faults hl ht).frame (by rfl)
  all_goals exact trivial

end Sys2Proof.Machine
end

section
/-! PROOFS. What the commands of inputs, network and outputs leave unchanged (R186): not where a packet waits for an entry that the
device does not have. -/

namespace Sys2Proof.Machine

/-- An ancillary packet of an entry that the device does not have: its count of late packets, 0x4400:6000 + e, falls on
0x4402:0000. -/
def strayWait : AncWait where
  ts := 0
  field := 0
  pkts := [({ line := 0, c := false, stream := 0, hoffset := 0, words := [] }, true)]
  at_ := -1000000000000
  entry := 0x1A000
  num := 0

/-- A running device whose input 0 keeps that packet. -/
def strayInput : State := { State.reset with mode := .solo, ins := [(0, { ancWait := [strayWait] })] }

/-- The packet has waited for more than a frame period. -/
theorem strayWait_old : strayWait.at_ + (strayInput.fresh.srcFmt 0).period ≤ strayInput.fresh.up := by
  have hrate : (strayInput.fresh.srcFmt 0).rate = 7 := by decide
  have hperiod : (strayInput.fresh.srcFmt 0).period = periodNs (rateHz 7) := congrArg (fun r => periodNs (rateHz r)) hrate
  have hwaited : (-1000000000000 : Rat) + periodNs (rateHz 7) ≤ 0 - 0 := by norm_num [periodNs, rateHz]
  rw [hperiod]
  exact hwaited

/-- A packet that waited too long is counted at its entry (R186). -/
theorem ancTimeout_counts {s : State} {j : Nat} {a : AncWait} (hm : s.mirrored = false) (hw : (s.in_ j).ancWait = [a])
    (hold : a.at_ + (s.srcFmt j).period ≤ s.up) (hp : a.pkts.length ≠ 0) (i k : Nat) :
    (ancTimeout s j).elem i k = (s.countBy 0x4400 (0x6000 + a.entry) a.pkts.length).elem i k := by
  have hparts : (s.in_ j).ancWait.partition (fun a => decide (a.at_ + (s.srcFmt j).period ≤ s.up)) = ([a], []) := by
    rw [hw, List.partition_eq_filter_filter]
    simp [hold]
  have hmirror : ∀ (u : State) v, (mirror u 21 j v).elem i k = u.elem i k := fun u v =>
    elem_of_dict ((mirror_keeps (F := ⟨[.emitted], [], false⟩) u 21 j v (by rfl)).same .dict (by rfl)) i k
  unfold ancTimeout
  rw [if_neg (ne_true_of_eq_false hm), hparts]
  show (ancLate (s.setIn j _) j a.entry a.num a.pkts.length).elem i k = _
  unfold ancLate countLate
  rw [hmirror, if_neg hp]
  rfl

/-- Refutes O55: an input that keeps an ancillary packet of entry 0x1A000, which the state does not exclude. Where its frame does not
come in time, the packet counts at 0x4402:0000, outside what ANC_ATTACH_TIMEOUT is said to change. -/
theorem not_mediaFramed : ¬ Obligations.MediaFramed := by
  unfold Obligations.MediaFramed
  intro h
  have ht : exec (.ancAttachTimeout 0) strayInput = .next { ancTimeout strayInput.fresh 0 with pending := strayInput.pending } := rfl
  obtain ⟨-, hstands⟩ := h (.ancAttachTimeout 0) strayInput _ rfl ht
  have hkept : (ancTimeout strayInput.fresh 0).elem 0x4402 0 = strayInput.elem 0x4402 0 := hstands 0x4402 0 (by decide) (by decide)
  have hmoved : (ancTimeout strayInput.fresh 0).elem 0x4402 0 = wrapAdd 32 (strayInput.elem 0x4400 0x20000) 1 :=
    (ancTimeout_counts (a := strayWait) rfl rfl strayWait_old (by decide) _ _).trans ((State.put_elem ..).trans (if_pos rfl))
  rw [hkept] at hmoved
  exact absurd hmoved (by decide)

end Sys2Proof.Machine
end

section
/-! PROOFS. What the tether's commands leave unchanged (R398): not where a stream feeds a flow that the device does not have. -/

namespace Sys2Proof.Machine

/-- A record that arrives by a port whose lanes deliver it. -/
theorem onPort_does {c : Instr} {s : State} {p : Nat} {f : State → State} {P : State → Prop} (h : exec c s = onPort p s f)
    (hp : p < 8) (hrun : s.running = true) (hhears : s.portHears p = true)
    (hP : P { f s.fresh with pending := s.pending }) : does c s P := by
  have hhears' : s.fresh.portHears p = true := hhears
  refine onUnit_does h hp hrun ?_
  rwa [if_pos hhears']

/-- STREAM_STATE sets the state of a confirmed flow of its stream (R398), whatever the flow's number. -/
theorem streamState_sets {s : State} {p l j : Nat} {w : Word} {t : Stream}
    (hfind : s.tether.streams.find? (fun t => !t.pending && t.from_ == some (p, l)) = some t) (hup : s.tUp p = true)
    (hwhole : t.broken = false) (houts : t.outs = []) (hflows : t.flows = [j]) (hroute : s.field 0xA200 j 127 124 = 2) :
    streamState s p l w = s.putField 0x4300 (0x4000 + j) 31 26 w := by
  unfold streamState
  rw [hfind]
  simp [hup, hwhole, houts, hflows, hroute]

/-- A stream of port 0 that feeds flow 0x30000: its state, 0x4300:4000 + j, falls on 0x4303:4000. -/
def strayStream : Stream where
  node := 1
  source := 0
  plane := 0
  rate := 0
  from_ := some (0, 0)
  flows := [0x30000]

/-- A running device whose port 0 is up on lane 0 and carries that stream; the flow's route is confirmed. -/
def strayFlow : State where
  __ := State.reset
  mode := .solo
  tether := { streams := [strayStream] }
  synths := [(0, { plane := some 0, family := rateCodeFamily 0x20, locked := true })]
  dict := [(ekey 0x3000 0, 3 * 2 ^ 28 + 2 ^ 27), (ekey 0x3100 0, 0x20 * 2 ^ 24), (ekey 0x3200 0, 0), (ekey 0xA100 0x100, 2 ^ 31),
    (ekey 0xA203 0, 2 * 2 ^ 124)]

/-- STREAM_STATE of 1 at port 0 sets 0x4303:4000. -/
theorem strayFlow_moves : does (.streamStateReceived 0 0 1) strayFlow fun t => t.elem 0x4303 0x4000 ≠ strayFlow.elem 0x4303 0x4000 := by
  have hsets : streamState strayFlow.fresh 0 0 1 = strayFlow.fresh.putField 0x4300 0x34000 31 26 1 :=
    streamState_sets (j := 0x30000) (t := strayStream) rfl (by decide) rfl rfl rfl (by decide)
  have hmoved : (streamState strayFlow.fresh 0 0 1).elem 0x4303 0x4000 ≠ strayFlow.elem 0x4303 0x4000 := by
    rw [hsets]
    decide
  have hqueue : ∀ (u : State) p v, u.elem 0x4303 0x4000 ≠ v → ({ u with pending := p } : State).elem 0x4303 0x4000 ≠ v := fun _ _ _ h => h
  exact onPort_does (p := 0) (f := fun s => streamState s 0 0 1) rfl (by decide) rfl (by decide) (hqueue _ _ _ hmoved)

/-- Refutes O58: port 0's stream feeds flow 0x30000, which the state does not exclude. STREAM_STATE sets the state of that flow at
0x4303:4000, outside what it is said to change. -/
theorem not_cascadeFramed : ¬ Obligations.CascadeFramed := by
  unfold Obligations.CascadeFramed
  intro h
  obtain ⟨t, ht, hmoved⟩ := strayFlow_moves
  obtain ⟨-, hstands⟩ := h _ _ t rfl ht
  exact hmoved (hstands 0x4303 0x4000 (by decide) (by decide))

end Sys2Proof.Machine
end

section
/-! PROOFS. What the pair's commands leave unchanged (R403): not where a port that goes down feeds a flow that the device does not have. -/

namespace Sys2Proof.Machine

/-- A device whose port 0 is up with none of its lanes on, and carries the stream of flow 0x30000: the flow's route,
0xA200:0000 + j, stands at 0xA203:0000. -/
def strayRoute : State where
  __ := State.reset
  mode := .solo
  tether := { streams := [strayStream] }
  dict := [(ekey 0xA100 0x100, 2 ^ 31), (ekey 0xA203 0, 2 * 2 ^ 124)]

/-- What stands does not depend on the waiting commands. -/
theorem stands_pending {s t : State} {p : List Instr} {l : List Nat} (h : stands s { t with pending := p } l) : stands s t l := h

/-- Refutes O59: port 0's stream feeds flow 0x30000, which the state does not exclude. TETHER_PORT_DOWN reports its path broken
at 0xA203:0000, outside what it is said to change. -/
theorem not_pairFramed : ¬ Obligations.PairFramed := by
  unfold Obligations.PairFramed
  intro h
  have hmoved : (tetherPortDown strayRoute.fresh 0).elem 0xA203 0 ≠ strayRoute.elem 0xA203 0 := by decide
  have ht : exec (.tetherPortDown 0) strayRoute = .next { tetherPortDown strayRoute.fresh 0 with pending := strayRoute.pending } := rfl
  obtain ⟨-, hstands⟩ := h _ _ _ rfl ht
  exact hmoved (stands_pending hstands 0xA203 0 (by decide) (by decide))

end Sys2Proof.Machine
end

section
/-! SUPPORT. Footprints of takes, salvos, windows, planes and moves (R37-R46, R235-R266, R484-R486). -/

namespace Sys2Proof.Machine

variable {F : Foot}

theorem setOut_keeps (s : State) (j : Nat) (x : OutFlow) (hF : F.holds [.outs] = true) : Keeps F s (s.setOut j x) := .set [.outs] rfl hF

theorem setIn_keeps (s : State) (j : Nat) (x : InFlow) (hF : F.holds [.ins] = true) : Keeps F s (s.setIn j x) := .set [.ins] rfl hF

theorem setCells_keeps (s : State) (n : Nat) (x : Cells) (hF : F.holds [.cells] = true) : Keeps F s (s.setCells n x) := .set [.cells] rfl hF

theorem putAir_keeps (s : State) (i j : Nat) (v : Word) (hF : F.holds [.onAir] = true) : Keeps F s (s.putAir i j v) := .set [.onAir] rfl hF

theorem putShadow_keeps (s : State) (i j : Nat) (v : Word) (hF : F.holds [.shadow] = true) : Keeps F s (s.putShadow i j v) :=
  .set [.shadow] rfl hF

theorem setRemote_keeps (s : State) (j : Nat) (x : Remote) (hF : F.holds [.remote] = true) : Keeps F s (s.setRemote j x) :=
  .set [.remote] rfl hF

theorem setTport_keeps (s : State) (p : Nat) (x : TetherPort) (hF : F.holds [.tether] = true) : Keeps F s (s.setTport p x) :=
  .set [.tether] rfl hF

/-- Any element written. -/
theorem put_whole (s : State) (i j : Nat) (v : Word) (hF : F.holdsWhole [.dict] = true) : Keeps F s (s.put i j v) := .setWhole [.dict] rfl hF

/-! Takes and salvos (R54, R55, R245, R260). -/

theorem purgeEvents_keeps (s : State) (hF : F.holds [.events] = true) : Keeps F s (purgeEvents s) := .set [.events] rfl hF

theorem markFired_keeps (s : State) (n : Nat) (t : Rat) (l : List (Nat × Rat)) (hF : F.holds [.events] = true) :
    Keeps F s (markFired s n t l) := .set [.events] rfl hF

theorem scheduleSwitches_keeps (s : State) (t : Rat) (js : List Nat) (hF : F.holds [.outs, .onAir] = true) :
    Keeps F s (scheduleSwitches s t js) :=
  .mono hF (.foldl (fun u j => .ite (setOut_keeps u j _ (by rfl)) (.ite (putAir_keeps u 0x5000 j _ (by rfl)) (setOut_keeps u j _ (by rfl)))) js s)

/-- The fields that a take or a salvo changes at its TP. -/
abbrev swapFoot : Foot := ⟨[.dict, .shadow, .onAir, .events, .banks, .log, .outs, .emitted], [], true⟩

theorem fireTake_keeps (s : State) (e : Event) : Keeps swapFoot s (fireTake s e) := by
  unfold fireTake
  extract_lets t points routes swapped switched marked
  have hswaps : Keeps swapFoot s swapped := .foldl (fun u b => .ite
    (.trans (.foldl (fun _ _ => .setWhole [.dict] rfl (by rfl)) _ u) (setBank_keeps _ _ _ (by rfl))) (.refl u)) _ s
  exact hswaps.trans <| (scheduleSwitches_keeps _ _ _ (by rfl)).trans <| (markFired_keeps _ _ _ _ (by rfl)).trans <|
    (count_keeps (i := 0x1101) marked (by decide) (by rfl)).trans <| (logEvent_keeps _ _ _ _ _ _ _ _ (by rfl)).trans <|
      purgeEvents_keeps _ (by rfl)

theorem fireSalvo_keeps (s : State) (e : Event) : Keeps swapFoot s (fireSalvo s e) := by
  unfold fireSalvo
  extract_lets t changed written staled routes points switched marked
  have hwrites : Keeps swapFoot s written := .foldl (fun u x => .ite
    ((put_whole u _ _ _ (by rfl)).trans (putShadow_keeps _ _ _ _ (by rfl))) (put_whole u _ _ _ (by rfl))) _ s
  have hstales : Keeps swapFoot written staled := .foldl (fun u b => .ite (setBank_keeps u _ _ (by rfl)) (.refl u)) _ written
  exact hwrites.trans <| hstales.trans <| (scheduleSwitches_keeps _ _ _ (by rfl)).trans <| (markFired_keeps _ _ _ _ (by rfl)).trans <|
    (count_keeps (i := 0x1101) marked (by decide) (by rfl)).trans <| (logEvent_keeps _ _ _ _ _ _ _ _ (by rfl)).trans <|
      purgeEvents_keeps _ (by rfl)

theorem fireNext_keeps (s : State) (kinds : List Nat) : Keeps swapFoot s (fireNext s kinds) := by
  unfold fireNext
  split
  · exact .ite (fireTake_keeps s _) (fireSalvo_keeps s _)
  · exact purgeEvents_keeps s (by rfl)

theorem fireHandler_keeps (s u : State) (rq : Rq) (b : List Byte) (hF : F.holds [.events, .order, .dict] [0x2200] = true) :
    Keeps F u ((fireHandler s rq b).commit u) := queueEvent_keeps u _ hF

/-! Windows (R272, R285, R484-R486). -/

theorem putWin_keeps (s : State) (w off : Nat) (b : List Byte) (hF : F.holds [.winBytes] = true) : Keeps F s (putWin s w off b) :=
  .set [.winBytes] rfl hF

theorem storeLine_keeps (s : State) (w n i : Nat) (frame : Int) (x : List Nat) (sub : Bool) (hF : F.holds [.winBytes] = true) :
    Keeps F s (storeLine s w n i frame x sub) := putWin_keeps s _ _ _ hF

theorem fillLines_keeps (s : State) (w n i : Nat) (hF : F.holds [.winBytes, .windows] = true) : Keeps F s (fillLines s w n i) := by
  refine .mono hF ?_
  unfold fillLines
  dsimp only
  split
  · have hfill : ∀ m (f : Fmt) (l : List Nat), Keeps ⟨[.winBytes, .windows], [], false⟩ s
        (l.foldl (fun s k => storeLine s w n k m (flatLine f (blackOf f.samp false)) false) s) := fun m f l =>
      .foldl (fun u k => storeLine_keeps u _ _ _ _ _ _ (by rfl)) l s
    exact .ite ((hfill _ _ _).trans (setWindow_keeps _ _ _ (by rfl))) ((hfill _ _ _).trans (setWindow_keeps _ _ _ (by rfl)))
  · exact .refl s

theorem nextFrame_keeps (s : State) (w n : Nat) (frame : Int) (hF : F.holds [.windows] = true) : Keeps F s (nextFrame s w n frame) :=
  setWindow_keeps s _ _ hF

theorem captureElapsed_keeps (n : Nat) (s : State) (w : Nat) (hF : F.holds [.winBytes, .windows] = true) :
    Keeps F s (captureElapsed n s w) := by
  induction n generalizing s with
  | zero => exact .refl s
  | succ n ih =>
    unfold captureElapsed
    dsimp only
    exact .ite (.refl s) (.trans (.trans (.ite (.refl s) (nextFrame_keeps s _ _ _ (Foot.holds_sub hF (by rfl)))) (fillLines_keeps _ _ _ _ hF)) (ih _))

/-- The fields that the end of a window's operation touches. -/
abbrev windowFields : List Field := [.winBytes, .windows, .dict, .req, .emitted]

theorem windowEnd_keeps (s : State) (w : Nat) (hF : F.holds windowFields [0x1001] = true) : Keeps F s (windowEnd s w) := by
  refine .mono hF ?_
  unfold windowEnd
  refine .ite (.refl s) ?_
  extract_lets v elapsed headed
  have helapsed : Keeps ⟨windowFields, [0x1001], false⟩ s elapsed := .ite (captureElapsed_keeps _ s w (by rfl)) (.refl s)
  have hheaded : Keeps ⟨windowFields, [0x1001], false⟩ elapsed headed := .ite (putWin_keeps _ _ _ _ (by rfl)) (.refl _)
  exact .ite helapsed (helapsed.trans <| hheaded.trans <| (setWindow_keeps _ _ _ (by rfl)).trans (finishWaiting_keeps _ _ _ _ _ (by rfl)))

theorem windowHandler_keeps (s u : State) (w : Nat) (b : List Byte) (hF : F.holds [.windows] = true) :
    Keeps F u ((windowHandler s w b).commit u) := by
  have hset : ∀ x, Keeps F u (u.setWindow w x) := fun x => setWindow_keeps u w x hF
  unfold windowHandler
  dsimp only
  split
  · exact .ite (hset _) (.refl u)
  · exact hset _

theorem windowHandler_refused (s : State) (w : Nat) (b : List Byte) (st : Nat) (u : State) : (windowHandler s w b).refused st u = u := by
  unfold windowHandler
  dsimp only
  split <;> rfl

/-! Planes (R37-R46). -/

theorem setOriginKind_keeps (s : State) {p : Nat} (kind : Nat) (hp : p < 65536) (hF : F.holds [.dict] [0x2010] = true) :
    Keeps F s (setOriginKind s p kind) := putField_keeps s _ _ _ hp hF

theorem enablePlane_keeps (s : State) {p : Nat} (hp : p < 65536) (hF : F.holds [.free, .dict, .planes] [0x2010] = true) :
    Keeps F s (enablePlane s p) := by
  refine .mono hF ?_
  unfold enablePlane
  split
  · exact (setPlane_keeps s _ _ (by rfl)).trans (setOriginKind_keeps _ _ hp (by rfl))
  · have hdraw : ∀ u : State, Keeps ⟨[.free, .dict, .planes], [0x2010], false⟩ u u.draw := fun _ => .set [.free] rfl (by rfl)
    exact (setPlane_keeps s _ _ (by rfl)).trans <| (hdraw _).trans (setOriginKind_keeps _ _ hp (by rfl))

theorem redecide_keeps (s : State) (p : Nat) (r : Reorigin) (hF : F.holds stepFields [0x1001] = true) : Keeps F s (redecide s p r) := by
  refine .mono hF ?_
  unfold redecide
  extract_lets plane cleared
  have hcleared : Keeps ⟨stepFields, [0x1001], false⟩ s cleared := setPlane_keeps _ _ _ (by rfl)
  split
  · exact hcleared.trans (decideStep_keeps _ _ _ _ (by rfl))
  · exact hcleared

/-- The fields that a plane's configuration touches. -/
abbrev planeFields : List Field := .free :: .recent :: stepFields

theorem planeHandler_keeps (s u : State) {p : Nat} (b : List Byte) (hp : p < 65536) (hF : F.holds planeFields [0x1001, 0x2010] = true) :
    Keeps F u ((planeHandler s p b).commit u) := by
  refine .mono hF ?_
  unfold planeHandler
  extract_lets v old on rate word h
  dsimp -zeta only
  extract_lets pending written redecided
  have hwritten : Keeps ⟨planeFields, [0x1001, 0x2010], false⟩ u written := commit_keeps u _ hp (by rfl)
  have hredecided : Keeps ⟨planeFields, [0x1001, 0x2010], false⟩ u redecided := by
    refine hwritten.trans ?_
    unfold redecided
    clear_value rate pending
    split
    · exact redecide_keeps _ _ _ (by rfl)
    · exact .refl _
  refine .ite (hwritten.trans ((setPlane_keeps _ _ _ (by rfl)).trans (putField_keeps _ _ _ _ hp (by rfl)))) <|
    .ite (hwritten.trans (enablePlane_keeps _ hp (by rfl))) (hredecided.trans ?_)
  split
  · exact decideStep_keeps _ _ _ _ (by rfl)
  · exact .refl _

/-! Moves (R262-R266). -/

theorem startInput_keeps (s : State) (j : Nat) (hF : F.holdsWhole [.dict, .ins, .cells] = true) : Keeps F s (startInput s j) := by
  refine .monoWhole hF ?_
  exact (setIn_keeps _ _ _ (by rfl)).trans <| (setCells_keeps _ _ _ (by rfl)).trans <| (put_whole _ _ _ _ (by rfl)).trans (put_whole _ _ _ _ (by rfl))

theorem settleSync_keeps (s : State) (j : Nat) (hF : F.holdsWhole [.dict] = true) : Keeps F s (settleSync s j) :=
  .ite (put_whole _ _ _ _ hF) (put_whole _ _ _ _ hF)

theorem notePool_keeps (s : State) (hF : F.holds [.dict] [0x5500] = true) : Keeps F s (notePool s) :=
  .ite (put_keeps _ _ (by decide) hF) (.refl s)

theorem adoptNewSide_keeps (s : State) (j : Nat) (hF : F.holdsWhole [.dict, .ins, .cells] = true) : Keeps F s (adoptNewSide s j) := by
  refine .monoWhole hF ?_
  exact (setIn_keeps _ _ _ (by rfl)).trans <| (setCells_keeps _ _ _ (by rfl)).trans <| (put_whole _ _ _ _ (by rfl)).trans <|
    (put_whole _ _ _ _ (by rfl)).trans <| (put_whole _ _ _ _ (by rfl)).trans (dropNewSide_keeps _ _ (by rfl))

theorem tidyStreams_keeps (s : State) (hF : F.holds [.tether, .emitted] = true) : Keeps F s (tidyStreams s) := by
  refine .mono hF ?_
  unfold tidyStreams
  extract_lets own ts gone tether kept
  have hkept : Keeps ⟨[.tether, .emitted], [], false⟩ s kept := .set [.tether] rfl (by rfl)
  refine hkept.trans (.foldl (fun u t => ?_) _ _)
  split
  · exact emit_keeps _ _ (by rfl)
  · exact .refl u

theorem settleRemote_keeps (s : State) (j : Nat) (hF : F.holdsWhole [.dict, .remote, .tether, .emitted] = true) :
    Keeps F s (settleRemote s j) := by
  refine .monoWhole hF (.trans (.ite (.refl s) ?_) (tidyStreams_keeps _ (by rfl)))
  have herase : ∀ (u : State) x, Keeps ⟨[.dict, .remote, .tether, .emitted], [], true⟩ u { u with remote := x } := fun _ _ =>
    .set [.remote] rfl (by rfl)
  exact (put_whole _ _ _ _ (by rfl)).trans (herase _ _)

/-- The footprint of a move. -/
abbrev moveFoot : Foot := ⟨[.dict, .moves, .log, .cells, .ins, .outs, .remote, .rx, .tx, .tether, .emitted], [], true⟩

theorem settleFlow_keeps (s : State) (i j : Nat) (fresh : Bool) : Keeps moveFoot s (settleFlow s i j fresh) := by
  unfold settleFlow
  extract_lets k isIn desc cleared started out
  have hdesc : ∀ u, Keeps moveFoot u (desc u) := fun u => rebuildDesc_keeps u _ _ (by rfl)
  have hcleared : Keeps moveFoot s cleared := .ite (put_whole _ _ _ _ (by rfl)) (.refl s)
  have hstarted : Keeps moveFoot s started := hcleared.trans <|
    .trans (.ite (startInput_keeps _ _ (by rfl)) (.refl _)) <| (settleSync_keeps _ _ (by rfl)).trans <| (hdesc _).trans (notePool_keeps _ (by rfl))
  exact .ite (notePool_keeps _ (by rfl)) <| .ite (.refl s) <| .ite (.ite (hstarted.trans (settleRemote_keeps _ _ (by rfl))) hstarted) <|
    (setOut_keeps _ _ _ (by rfl)).trans (hdesc _)

theorem startChange_keeps (s : State) (j : Nat) (old new : Fmt) (t : Rat) (hF : F.holdsWhole [.dict, .outs] = true) :
    Keeps F s (startChange s j old new t) :=
  .monoWhole hF (.ite (.refl s) ((setOut_keeps _ _ _ (by rfl)).trans (put_whole _ _ _ _ (by rfl))))

theorem followSource_keeps (s : State) (n : Nat) (hF : F.holdsWhole [.dict, .outs] = true) : Keeps F s (followSource s n) :=
  .foldl (fun u _ => .ite (startChange_keeps _ _ _ _ _ hF) (.refl u)) _ s

theorem movePolicy_keeps (s : State) (m : Move) : Keeps moveFoot s (movePolicy s m) := by
  unfold movePolicy
  extract_lets j old written n new out changed
  have hchanged : Keeps moveFoot written changed := .ite (setOut_keeps _ _ _ (by rfl)) (startChange_keeps _ _ _ _ _ (by rfl))
  exact (put_whole s _ _ _ (by rfl)).trans (hchanged.trans (rebuildDesc_keeps _ _ _ (by rfl)))

theorem finishMove_keeps (s : State) (m : Move) : Keeps moveFoot s (finishMove s m) := by
  unfold finishMove
  extract_lets taken written others adopted settled followed
  have htaken : Keeps moveFoot s taken := .set [.moves] rfl (by rfl)
  have hwritten : Keeps moveFoot taken written := .ite (movePolicy_keeps _ _) (put_whole _ _ _ _ (by rfl))
  have hadopted : Keeps moveFoot written adopted := .ite (adoptNewSide_keeps _ _ (by rfl)) (.refl _)
  have hsettled : Keeps moveFoot adopted settled := .ite (.refl _) (settleFlow_keeps _ _ _ _)
  have hfollowed : Keeps moveFoot settled followed := .ite (followSource_keeps _ _ (by rfl)) (.ite (followSource_keeps _ _ (by rfl)) (.refl _))
  exact htaken.trans <| hwritten.trans <| hadopted.trans <| hsettled.trans <| hfollowed.trans (logEvent_keeps _ _ _ _ _ _ _ _ (by rfl))

end Sys2Proof.Machine
end

section
/-! PROOFS. What the commands of the banks, the salvos, the moves and the windows leave unchanged (R235-R266, R484-R486). -/

namespace Sys2Proof.Machine

theorem reoriginFrameEnd_keeps {s t : State} {p : Nat} (ht : exec (.reoriginFrameEnd p) s = .next t) :
    Keeps ⟨[.planes, .emitted], [], false⟩ s t := by
  refine .of_onUnit (f := fun s => reoriginEnd s p) rfl ht (by rfl) fun _ => ?_
  unfold reoriginEnd
  split
  · exact .ite (setPlane_keeps _ _ _ (by rfl)) (.refl _)
  · exact .refl _

theorem reseedComplete_keeps {s t : State} {b : Nat} (ht : exec (.reseedComplete b) s = .next t) :
    Keeps ⟨[.banks, .emitted], [], false⟩ s t :=
  .of_onUnit (f := fun s => reseedDone s b) rfl ht (by rfl) fun _ => reseedDone_keeps _ _ (by rfl)

theorem windowOperationStart_keeps {s t : State} {w : Nat} (ht : exec (.windowOperationStart w) s = .next t) :
    Keeps ⟨[.windows, .emitted], [], false⟩ s t :=
  .of_onUnit (f := fun s => windowStart s w) rfl ht (by rfl) fun _ => .ite (setWindow_keeps _ _ _ (by rfl)) (.refl _)

theorem windowRead_keeps {s t : State} {w off n : Nat} (ht : exec (.windowRead w off n) s = .next t) :
    Keeps ⟨[.dict, .emitted], [0x1001], false⟩ s t :=
  .of_actRunning (f := fun s => windowRead s w off n) rfl ht (by rfl)
    (.ite (countPort_keeps _ _ _ (by decide) (by rfl)) (emit_keeps _ _ (by rfl)))

theorem windowWrite_keeps {s t : State} {w off : Nat} {b : List Byte} (ht : exec (.windowWrite w off b) s = .next t) :
    Keeps ⟨[.dict, .winBytes, .emitted], [0x1001], false⟩ s t :=
  .of_actRunning (f := fun s => windowWrite s w off b) rfl ht (by rfl)
    (.ite (countPort_keeps _ _ _ (by decide) (by rfl)) (putWin_keeps _ _ _ _ (by rfl)))

theorem protectionWrite_keeps {s t : State} {rq : Rq} {j : Nat} {v : Word} (hj : j < 65536)
    (ht : exec (.protectionWrite rq j v) s = .next t) :
    Keeps ⟨[.dict, .recent, .req, .log, .pair, .emitted], [0x1001, 0x5010, 0x5300], false⟩ s t :=
  .of_request (h := fun s => protectHandler s rq j (valueBytes rq v)) rfl ht (by rfl) (fun _ _ => rfl) fun _ => commit_keeps _ _ hj (by rfl)

theorem salvoStore_keeps {s t : State} {rq : Rq} {n : Nat} {b : List Byte} (ht : exec (.salvoStore rq n b) s = .next t) :
    Keeps ⟨[.dict, .blobs, .req, .log, .pair, .emitted], [0x1001, 0x5300], false⟩ s t :=
  .of_request (h := fun s => salvoHandler s n b) rfl ht (by rfl) (fun _ _ => rfl) fun _ => .set [.blobs] rfl (by rfl)

theorem discard_keeps {s t : State} {rq : Rq} {v : Word} (ht : exec (.discard rq v) s = .next t) :
    Keeps ⟨[.dict, .shadow, .banks, .req, .log, .pair, .emitted], [0x1001, 0x5300], false⟩ s t :=
  .of_request (h := fun s => discardHandler s (valueBytes rq v)) rfl ht (by rfl) (fun _ _ => rfl) fun u =>
    .foldl (fun u b => .ite (.trans (.foldl (fun _ _ => .set [.shadow] rfl (by rfl)) _ u) (setBank_keeps _ _ _ (by rfl))) (.refl u)) _ u

/-- The footprint of a window's commands. -/
abbrev windowFoot : Foot := ⟨[.dict, .req, .log, .pair, .windows, .busSlotsB, .emitted], [0x1001, 0x5300], false⟩

theorem windowCapture_keeps {s t : State} {rq : Rq} {w : Nat} {v : Word} (ht : exec (.windowCapture rq w v) s = .next t) :
    Keeps windowFoot s t :=
  .of_request (h := fun s => windowHandler s w (valueBytes rq (setBits v 191 188 1))) rfl ht (by rfl) (windowHandler_refused _ _ _)
    fun _ => windowHandler_keeps _ _ _ _ (by rfl)

theorem windowInsert_keeps {s t : State} {rq : Rq} {w : Nat} {v : Word} (ht : exec (.windowInsert rq w v) s = .next t) :
    Keeps windowFoot s t :=
  .of_request (h := fun s => windowHandler s w (valueBytes rq (setBits v 191 188 2))) rfl ht (by rfl) (windowHandler_refused _ _ _)
    fun _ => windowHandler_keeps _ _ _ _ (by rfl)

theorem windowStop_keeps {s t : State} {rq : Rq} {w : Nat} {v : Word} (ht : exec (.windowStop rq w v) s = .next t) :
    Keeps windowFoot s t :=
  .of_request (h := fun s => windowHandler s w (valueBytes rq (setBits v 191 188 3))) rfl ht (by rfl) (windowHandler_refused _ _ _)
    fun _ => windowHandler_keeps _ _ _ _ (by rfl)

theorem salvoExecute_keeps {s t : State} (ht : exec .salvoExecute s = .next t) : Keeps swapFoot s t :=
  .of_actRunning (f := fun s => fireNext s [2]) rfl ht (by rfl) (fireNext_keeps _ _)

theorem takeSwap_keeps {s t : State} (ht : exec .takeSwap s = .next t) : Keeps swapFoot s t :=
  .of_actRunning (f := fun s => fireNext s [1]) rfl ht (by rfl) (fireNext_keeps _ _)

theorem windowOperationEnd_faults {s t : State} {w : Nat} {halt : Option DmaHalt} (hh : ∀ h ∈ halt, h.memory < 24)
    (ht : exec (.windowOperationEnd w halt) s = .next t) :
    Faults ⟨[.dict, .req, .log, .faults, .pair, .windows, .winBytes, .emitted], [0x1001, 0xB200], false⟩ s t := by
  cases halt with
  | none => exact .of_onUnit (f := fun s => windowEnd s w) rfl ht (by rfl) fun _ => (windowEnd_keeps _ _ (by rfl)).faults
  | some h =>
    exact .of_onUnit (f := fun s => if (s.window w).state = 2 then dmaHalts s h fun s => failWindow stType s w else s) rfl ht (by rfl)
      fun _ => .ite (dmaHalts_faults _ (hh h rfl) (by rfl) fun _ => (failWindow_keeps _ _ _ (by rfl)).faults) (.refl _)

theorem salvoFire_faults {s t : State} {who : Firer} {v : Word} (ht : exec (.salvoFire who v) s = .next t) :
    Faults ⟨[.dict, .events, .order, .lastRefusal, .req, .log, .faults, .pair, .busSlotsB, .emitted], [0x1001, 0x1101, 0x2200, 0x5300], false⟩
      s t := by
  cases who with
  | dumus rq =>
    exact .of_act (f := fun s => request s rq opWrite 0x1110 0x40 (valueBytes rq v) (fireHandler s rq (valueBytes rq v))) rfl ht (by rfl)
      (request_keeps (by rfl) (fun _ => fireHandler_keeps _ _ _ _ (by rfl)) (fun st u => fireRefused_keeps st u (by rfl)) _ _ _ _ _ _).faults
  | fieldInput n =>
    exact .of_actRunning (f := fun s => fireFromField s (v % 64)) rfl ht (by rfl) (fireFromField_faults _ _ (by rfl))

theorem movePoint_keeps {s t : State} {i j : Nat} (ht : exec (.movePoint i j) s = .next t) : Keeps moveFoot s t := by
  refine .of_actRunning (f := fun s => match s.moveOf i j with
    | some m => if s.moveDue m then finishMove s m else s
    | none => s) rfl ht (by rfl) ?_
  split
  · exact .ite (finishMove_keeps _ _) (.refl _)
  · exact .refl _

/-- The footprint of a write of a plane's configuration. -/
abbrev planeFoot : Foot :=
  ⟨[.free, .dict, .recent, .planes, .events, .banks, .req, .log, .pair, .rx, .tx, .tether, .emitted], [0x1001, 0x2010, 0x5300], false⟩

theorem planeConfigWrite_keeps {s t : State} {rq : Rq} {p : Nat} {v : Word} (hp : p < 65536)
    (ht : exec (.planeConfigWrite rq p v) s = .next t) : Keeps planeFoot s t :=
  .of_request (h := fun s => planeHandler s p (valueBytes rq v)) rfl ht (by rfl) (fun _ _ => rfl) fun _ => planeHandler_keeps _ _ _ hp (by rfl)

theorem reorigin_keeps {s t : State} {rq : Rq} {p : Nat} {v : Word} (hp : p < 65536)
    (ht : exec (.reorigin rq p v) s = .next t) : Keeps planeFoot s t :=
  .of_request (h := fun s => planeHandler s p (valueBytes rq (setBit v 30 true))) rfl ht (by rfl) (fun _ _ => rfl) fun _ =>
    planeHandler_keeps _ _ _ hp (by rfl)

/-- Settles O57, by the footprint of each command. -/
theorem setsFramed : Obligations.SetsFramed := by
  unfold Obligations.SetsFramed
  intro c s t hwf ht
  cases c
  case reoriginFrameEnd _ => exact (reoriginFrameEnd_keeps ht).eq_graft
  case reseedComplete _ => exact (reseedComplete_keeps ht).eq_graft
  case windowOperationStart _ => exact (windowOperationStart_keeps ht).eq_graft
  case windowRead _ _ _ => exact (windowRead_keeps ht).frame (by rfl)
  case windowWrite _ _ _ => exact (windowWrite_keeps ht).frame (by rfl)
  case protectionWrite rq j v =>
    have hj : j < 2048 := by simp only [Instr.wf, Bool.and_eq_true, decide_eq_true_eq] at hwf; exact hwf.1.2
    exact (protectionWrite_keeps (by omega) ht).frame (by rfl)
  case salvoStore _ _ _ => exact (salvoStore_keeps ht).frame (by rfl)
  case discard _ _ => exact (discard_keeps ht).frame (by rfl)
  case windowCapture _ _ _ => exact (windowCapture_keeps ht).eq_graft
  case windowInsert _ _ _ => exact (windowInsert_keeps ht).eq_graft
  case windowStop _ _ _ => exact (windowStop_keeps ht).eq_graft
  case salvoExecute => exact (salvoExecute_keeps ht).eq_graft
  case takeSwap => exact (takeSwap_keeps ht).eq_graft
  case windowOperationEnd w halt =>
    have hh : ∀ h ∈ halt, h.memory < 24 := fun h hin => by
      cases hin
      simp only [Instr.wf, DmaHalt.wf, Option.all_some, Bool.and_eq_true, decide_eq_true_eq] at hwf
      omega
    exact (windowOperationEnd_faults hh ht).frame (by rfl)
  case salvoFire _ _ => exact (salvoFire_faults ht).framed
  case movePoint _ _ => exact (movePoint_keeps ht).eq_graft
  case planeConfigWrite rq p v =>
    have hp : p < 4 := by simp only [Instr.wf, Bool.and_eq_true, decide_eq_true_eq] at hwf; exact hwf.1.2
    exact (planeConfigWrite_keeps (by omega) ht).frame (by rfl)
  case reorigin rq p v =>
    have hp : p < 4 := by simp only [Instr.wf, Bool.and_eq_true, decide_eq_true_eq] at hwf; exact hwf.1.2
    exact (reorigin_keeps (by omega) ht).frame (by rfl)
  all_goals exact trivial

end Sys2Proof.Machine
end

section
/-! SUPPORT. Footprints of lines on their way: cells, windows, tether sends, the frame-synchroniser reader (R199-R205, R275-R281,
R396, R485). -/

namespace Sys2Proof.Machine

variable {F : Foot}

/-! Digests (R434). -/

theorem addDigest_keeps (s : State) (u l n p e : Nat) (b : List Byte) (hF : F.holds [.pair, .emitted] = true) :
    Keeps F s (addDigest s u l n p e b) := by
  refine .mono hF (.ite (.refl s) ?_)
  have hpair : ∀ x, Keeps ⟨[.pair, .emitted], [], false⟩ s { s with pair := x } := fun _ => .set [.pair] rfl (by rfl)
  exact .ite ((hpair _).trans (emit_keeps _ _ (by rfl))) (hpair _)

theorem digestLine_keeps (s : State) (j : Nat) (x : CellLine) (hF : F.holds [.pair, .emitted] = true) : Keeps F s (digestLine s j x) :=
  .ite (.refl s) (addDigest_keeps s _ _ _ _ _ _ hF)

theorem digestRun_keeps (s : State) (j : Nat) (m : Int) (f : Nat) (l : List AncPkt) (hF : F.holds [.pair, .emitted] = true) :
    Keeps F s (digestRun s j m f l) := .ite (.refl s) (addDigest_keeps s _ _ _ _ _ _ hF)

/-! Captures (R485). -/

theorem captureInto_keeps (s : State) (n : Nat) (frame : Int) (i : Nat) (x : List Nat) (sub : Bool) (w : Nat)
    (hF : F.holds [.winBytes, .windows] = true) : Keeps F s (captureInto n frame i x sub s w) := by
  refine .mono hF ?_
  unfold captureInto
  extract_lets active next op stored op'
  have hnext : Keeps ⟨[.winBytes, .windows], [], false⟩ s next :=
    .ite (.refl s) ((fillLines_keeps _ _ _ _ (by rfl)).trans (nextFrame_keeps _ _ _ _ (by rfl)))
  have hstored : Keeps ⟨[.winBytes, .windows], [], false⟩ next stored :=
    (fillLines_keeps _ _ _ _ (by rfl)).trans (storeLine_keeps _ _ _ _ _ _ _ (by rfl))
  exact .ite (.refl s) (.ite hnext (hnext.trans (hstored.trans (setWindow_keeps _ _ _ (by rfl)))))

theorem captureLine_keeps (s : State) (n : Nat) (frame : Int) (line : Nat) (x : List Nat) (sub : Bool)
    (hF : F.holds [.winBytes, .windows] = true) : Keeps F s (captureLine s n frame line x sub) := by
  unfold captureLine
  split
  · exact .refl s
  · split
    · exact .foldl (fun u w => captureInto_keeps u _ _ _ _ _ w hF) _ s
    · exact .refl s

/-! Tether sends (R396, R404). -/

theorem spendCredit_keeps (s : State) (q vc k : Nat) (hF : F.holds [.tether] = true) : Keeps F s (spendCredit s q vc k) :=
  setTport_keeps s _ _ hF

theorem sendOwn_keeps (s : State) (c : OwnCells) (hF : F.holds [.tether, .emitted] = true) : Keeps F s (sendOwn s c) := by
  refine .mono hF ?_
  have hown : ∀ x, Keeps ⟨[.tether, .emitted], [], false⟩ s { s with tether := x } := fun _ => .set [.tether] rfl (by rfl)
  exact .ite ((hown _).trans (setTport_keeps _ _ _ (by rfl))) ((spendCredit_keeps _ _ _ _ (by rfl)).trans (emit_keeps _ _ (by rfl)))

theorem sendLineOf_keeps (s : State) (n : Nat) (m : Int) (l : Nat) (sub : Bool) (x : Nat) (b : List Nat)
    (hF : F.holds [.tether, .emitted] = true) : Keeps F s (sendLineOf s n m l sub x b) := by
  refine .mono hF ?_
  exact .foldl (fun u t => .foldl (fun u o => .ite (.trans (.ite (emit_keeps u _ (by rfl)) (.refl u)) (sendOwn_keeps _ _ (by rfl))) (.refl u)) _ u) _ s

theorem sendAncOf_keeps (s : State) (n : Nat) (m : Int) (f : Nat) (l : List AncPkt) (hF : F.holds [.tether, .emitted] = true) :
    Keeps F s (sendAncOf s n m f l) :=
  .mono hF (.ite (.refl s) (.foldl (fun u _ => .foldl (fun u _ => .ite (sendOwn_keeps u _ (by rfl)) (.refl u)) _ u) _ s))

/-- The fields that a picture on its way touches. -/
abbrev pictureFields : List Field := [.pair, .windows, .tether, .winBytes, .emitted]

theorem sendPicture_keeps (s : State) (n : Nat) (m : Int) (hF : F.holds pictureFields = true) : Keeps F s (sendPicture s n m) := by
  refine .mono hF (.ite (.foldl (fun u i => ?_) _ s) (.refl s))
  dsimp only
  split
  · exact .trans (.ite (addDigest_keeps u _ _ _ _ _ _ (by rfl)) (.refl u)) <|
      (sendLineOf_keeps _ _ _ _ _ _ _ (by rfl)).trans (captureLine_keeps _ _ _ _ _ _ (by rfl))
  · exact .refl u

/-! Cells (R200-R203). -/

theorem noteCells_keeps (s : State) (hF : F.holds [.dict] [0x5300] = true) : Keeps F s (noteCells s) :=
  .ite (put_keeps _ _ (by decide) hF) (.refl s)

theorem releaseCells_keeps (s : State) (n : Nat) (hF : F.holds [.cells] = true) : Keeps F s (releaseCells s n) := setCells_keeps s _ _ hF

theorem count_whole (s : State) (i j : Nat) (hF : F.holdsWhole [.dict] = true) : Keeps F s (s.count i j) := put_whole s i j _ hF

theorem putFlag_whole (s : State) (i j n : Nat) (b : Bool) (hF : F.holdsWhole [.dict] = true) : Keeps F s (s.putFlag i j n b) :=
  put_whole s i j _ hF

/-- What lines on their way to cell memory and to their readers may change. -/
abbrev cellFoot : Foot :=
  ⟨[.free, .dict, .log, .faults, .pair, .windows, .cells, .ins, .feeds, .tether, .winBytes, .emitted], [], true⟩

theorem noteOverflow_faults (s : State) (n : Nat) : Faults cellFoot s (noteOverflow s n) := by
  have hflag : Keeps cellFoot.noMode s ((s.count 0x4300 (0x4800 + n)).putFlag 0x4300 (0x4000 + n) 25 true) :=
    (count_whole _ _ _ (by rfl)).trans (putFlag_whole _ _ _ _ _ (by rfl))
  have hset : ∀ (u : State) x, Keeps cellFoot.noMode u (u.setIn n x) := fun u x => setIn_keeps u n x (by rfl)
  exact .ite (.refl s) (.ite ((hflag.trans (hset _ _)).faults.trans (declareFault_faults _ _ _ _ _ _ (by rfl))) (hflag.trans (hset _ _)).faults)

theorem noteCell_faults (s : State) (n : Nat) (hF : F.holds noteFields = true) : Faults F s (noteCell s n) :=
  declareFault_faults _ _ _ _ _ _ hF

theorem feedLine_faults (s : State) (n : Nat) (x : CellLine) : Faults cellFoot s (feedLine s n x) := by
  have hcapture : Keeps cellFoot.noMode s (captureLine s n x.frame x.line x.picture x.subst) := captureLine_keeps _ _ _ _ _ _ (by rfl)
  have hfeed : ∀ (u : State) l, Keeps cellFoot.noMode u { u with feeds := l } := fun _ _ => .set [.feeds] rfl (by rfl)
  exact .ite (.ite (noteCell_faults _ _ (by rfl)) (.refl s)) (.ite (hcapture.trans (hfeed _ _)).faults hcapture.faults)

theorem writeCells_faults (s : State) (n : Nat) (x : CellLine) : Faults cellFoot s (writeCells s n x) := by
  have hreleased : Keeps cellFoot.noMode s (releaseCells s n) := releaseCells_keeps s n (by rfl)
  unfold writeCells
  extract_lets released sealed_ f
  refine hreleased.faults.trans ?_
  split
  · exact .refl _
  · rename_i fed c sent last t htime
    have hsent : Faults cellFoot fed sent :=
      .ite (sendLineOf_keeps _ _ _ _ _ _ _ (by rfl)).faults (.ite (noteCell_faults _ _ (by rfl)) (.refl _))
    refine .ite (noteOverflow_faults _ _) ?_
    exact (feedLine_faults _ _ _).trans <| hsent.trans ((setCells_keeps _ _ _ (by rfl)).trans (noteCells_keeps _ (by rfl))).faults

theorem writeAnc_keeps (s : State) (n : Nat) (m : Int) (f : Nat) (l : List AncPkt)
    (hF : F.holdsWhole [.dict, .cells, .tether, .emitted] = true) : Keeps F s (writeAnc s n m f l) := by
  refine .monoWhole hF ?_
  unfold writeAnc
  extract_lets room old fit counted sent c
  have hcounted : Keeps ⟨[.dict, .cells, .tether, .emitted], [], true⟩ s counted := .ite (.setWhole [.dict] rfl (by rfl)) (.refl s)
  exact hcounted.trans <| (sendAncOf_keeps _ _ _ _ _ (by rfl)).trans <| (setCells_keeps _ _ _ (by rfl)).trans (noteCells_keeps _ (by rfl))

/-! The frame-synchroniser reader (R276, R280). -/

theorem tagFailed_faults (s : State) (k o : Nat) (hF : F.holds [.free, .dict, .log, .faults, .pair, .emitted] [0x5500] = true) :
    Faults F s (tagFailed s k o) := by
  refine .mono hF (.trans (Keeps.faults ?_) (declareFault_faults _ _ _ _ _ _ (by rfl)))
  have hdraw : ∀ u : State, Keeps (Foot.noMode ⟨[.free, .dict, .log, .faults, .pair, .emitted], [0x5500], false⟩) u u.draw := fun _ =>
    .set [.free] rfl (by rfl)
  exact (count_keeps (i := 0x5500) _ (by decide) (by rfl)).trans <| (put_keeps (i := 0x5500) _ _ (by decide) (by rfl)).trans (hdraw _)

theorem replaceLine_keeps (s : State) (j k l : Nat) (hF : F.holdsWhole [.dict] = true) : Keeps F s (replaceLine s j k l).1 :=
  .setWhole [.dict] rfl hF

theorem readSlotLine_faults (s : State) (j : Nat) (m : Int) (k l : Nat) : Faults cellFoot s (readSlotLine s j m k l) := by
  unfold readSlotLine
  extract_lets x own prev cand
  clear_value cand
  have hreplace : ∀ u, Faults cellFoot u (replaceLine u j k l).1 := fun u => (replaceLine_keeps u j k l (by rfl)).faults
  cases cand with
  | none =>
    dsimp only
    split
    · exact (hreplace s).trans (writeCells_faults _ _ _)
    · exact (hreplace s).trans (writeCells_faults _ _ _)
  | some y =>
    dsimp only
    by_cases hp : y.poison = true
    · rw [if_pos hp]
      have htag := fun o => (tagFailed_faults (F := cellFoot) s 0 o (by rfl)).trans (hreplace _)
      split
      · exact (htag _).trans (writeCells_faults _ _ _)
      · exact (htag _).trans (writeCells_faults _ _ _)
    · rw [if_neg hp]
      exact writeCells_faults _ _ _

theorem runReader_faults (n : Nat) (s : State) (j : Nat) : Faults cellFoot s (runReader n s j) := by
  induction n generalizing s with
  | zero => exact .refl s
  | succ n ih =>
    unfold runReader
    extract_lets x
    split
    · refine .ite ((readSlotLine_faults _ _ _ _ _).trans (.trans (Keeps.faults (setIn_keeps _ _ _ (by rfl))) (ih _))) (.refl s)
    · exact .refl s

theorem passAnc_keeps (s : State) (j : Nat) (hF : F.holdsWhole [.dict, .cells, .ins, .tether, .emitted] = true) :
    Keeps F s (passAnc s j) := by
  refine .monoWhole hF ?_
  unfold passAnc
  dsimp only
  split
  · refine .ite (.refl s) (.trans (setIn_keeps _ _ _ (by rfl)) (.foldl (fun u f => ?_) _ _))
    exact .ite (.refl u) (writeAnc_keeps u _ _ _ _ (by rfl))
  · exact .refl s

theorem caughtUp_faults (s : State) (j : Nat) : Faults cellFoot s (s.caughtUp j) :=
  .ite ((runReader_faults _ _ _).trans (passAnc_keeps _ _ (by rfl)).faults) (.refl s)

end Sys2Proof.Machine
end

section
/-! SUPPORT. Footprints of the audio engine, the spools, the heads and the graphics (R296-R350, R353-R381). -/

namespace Sys2Proof.Machine

variable {F : Foot}

theorem countBy_whole (s : State) (i j n : Nat) (hF : F.holdsWhole [.dict] = true) : Keeps F s (s.countBy i j n) := put_whole s i j _ hF

/-! Spools (R337, R341-R346). -/

theorem setSpoolBank_keeps (s : State) (b : Nat) (x : SpoolBank) (hF : F.holds [.spools] = true) : Keeps F s (s.setSpoolBank b x) :=
  .set [.spools] rfl hF

theorem clearCoefs_keeps (s : State) (b : Nat) (hF : F.holdsWhole [.dict, .mix] = true) : Keeps F s (clearCoefs s b) :=
  .setWhole [.dict, .mix] rfl hF

theorem noteLoad_keeps (s : State) {b : Nat} (st c w : Nat) (hb : b < 0x1000) (hF : F.holds [.dict, .log] [0x7200] = true) :
    Keeps F s (noteLoad s b st c w) :=
  .mono hF ((put_keeps (i := 0x7200) s _ (by omega) (by rfl)).trans (logEvent_keeps _ _ _ _ _ _ _ _ (by rfl)))

theorem abandonTransfer_keeps (s : State) (i j st : Nat) (hF : F.holds answerFields [0x1001] = true) :
    Keeps F s (abandonTransfer s i j st) := by
  have hreq : ∀ x, Keeps F s { s with req := x } := fun _ => .set [.req] rfl (Foot.holds_sub hF (by rfl))
  unfold abandonTransfer
  split
  · exact (hreq _).trans (notify_keeps _ _ _ _ _ _ hF)
  · exact .refl s

theorem loadAbandoned_keeps (s : State) {b : Nat} (hb : b < 0x1000)
    (hF : F.holds [.dict, .req, .log, .spools, .emitted] [0x1001, 0x7200] = true) : Keeps F s (loadAbandoned s b) :=
  .mono hF (.ite ((noteLoad_keeps _ _ _ _ hb (by rfl)).trans <| (setSpoolBank_keeps _ _ _ (by rfl)).trans
    (abandonTransfer_keeps _ _ _ _ (by rfl))) (.refl s))

theorem spoolChecked_keeps (s : State) {b : Nat} (hb : b < 0x1000)
    (hF : F.holdsWhole [.dict, .req, .log, .spools, .emitted] = true) : Keeps F s (spoolChecked s b) := by
  refine .monoWhole hF ?_
  unfold spoolChecked
  refine .ite (.refl s) ?_
  rcases checkImage (s.spoolBank b).image with ⟨st, c, w⟩
  dsimp only
  have hnoted : Keeps ⟨[.dict, .req, .log, .spools, .emitted], [], true⟩ s (noteLoad s b st c w) := noteLoad_keeps s st c w hb (by rfl)
  have hset : ∀ (u : State) x, Keeps ⟨[.dict, .req, .log, .spools, .emitted], [], true⟩ u (u.setSpoolBank b x) := fun u x =>
    setSpoolBank_keeps u b x (by rfl)
  refine hnoted.trans (.trans ?_ (finishWaiting_keeps _ _ _ _ _ (by rfl)))
  exact .ite ((hset _ _).trans (.foldl (fun u _ => put_whole u _ _ _ (by rfl)) _ _)) (hset _ _)

theorem coefEffects_keeps (s : State) (hF : F.holds [.mix] = true) : Keeps F s (coefEffects s) := by
  have hmix : ∀ (u : State) x, Keeps F u { u with mix := x } := fun _ _ => .set [.mix] rfl hF
  exact .foldl (fun u c => (hmix u _).trans (hmix _ _)) _ s

theorem dataReads_faults (n m : Nat) (s : State) (hF : F.holdsWhole (.dict :: noteFields) = true) : Faults F s (dataReads n m s) :=
  .monoWhole hF (.foldl (fun u _ => (Keeps.faults (count_whole u _ _ (by rfl))).trans (declareFault_faults _ _ _ _ _ _ (by rfl))) _ s)

/-- The footprint of a period's computation and of a change of spool. -/
abbrev spoolFoot : Foot := ⟨[.dict, .onAir, .log, .faults, .pair, .meters, .mix, .emitted], [], true⟩

theorem computePeriod_faults (s : State) : Faults spoolFoot s (computePeriod s) := by
  have hmix : ∀ (u : State) x, Keeps spoolFoot.noMode u { u with mix := x } := fun _ _ => .set [.mix] rfl (by rfl)
  have hmeters : ∀ (u : State) x, Keeps spoolFoot.noMode u { u with meters := x } := fun _ _ => .set [.meters] rfl (by rfl)
  unfold computePeriod
  refine .ite (.refl s) ?_
  extract_lets mix effected mix' old
  have heffected : Keeps spoolFoot.noMode s effected := (hmix _ _).trans (coefEffects_keeps _ (by rfl))
  refine heffected.faults.trans ?_
  split
  · exact (hmix _ _).faults
  · extract_lets r bus sat clip computed bad read
    have hcomputed : Keeps spoolFoot.noMode effected computed := hmix _ _
    have hread : Faults spoolFoot computed read :=
      .trans ((countBy_whole _ _ _ _ (by rfl)).trans (countBy_whole _ _ _ _ (by rfl))).faults (dataReads_faults _ _ _ (by rfl))
    exact hcomputed.faults.trans (hread.trans (.foldl (fun u p => (hmeters u _).faults) _ _))

theorem spoolSwap_keeps (s : State) (hF : F.holdsWhole [.dict, .onAir, .log, .meters, .mix] = true) : Keeps F s (spoolSwap s) := by
  refine .monoWhole hF (.ite (.refl s) ?_)
  have hmix : ∀ (u : State) x, Keeps ⟨[.dict, .onAir, .log, .meters, .mix], [], true⟩ u { u with mix := x } := fun _ _ => .set [.mix] rfl (by rfl)
  have hrestart : ∀ u, Keeps ⟨[.dict, .onAir, .log, .meters, .mix], [], true⟩ u (restartMeters u) := fun _ => .setWhole [.meters, .dict] rfl (by rfl)
  exact (putAir_keeps _ _ _ _ (by rfl)).trans <| (hrestart _).trans <| (hmix _ _).trans (logEvent_keeps _ _ _ _ _ _ _ _ (by rfl))

/-! Bridges and ports (R296-R307). -/

theorem setBridge_keeps (s : State) (i : Nat) (x : Bridge) (hF : F.holds [.bridges] = true) : Keeps F s (s.setBridge i x) := .set [.bridges] rfl hF

theorem setAudioPort_keeps (s : State) (p : Nat) (x : PortSt) (hF : F.holds [.audioPorts] = true) : Keeps F s (s.setAudioPort p x) :=
  .set [.audioPorts] rfl hF

theorem syncBridges_keeps (s : State) (hF : F.holds [.bridges] = true) : Keeps F s (syncBridges s) := by
  have hkept : ∀ x, Keeps F s { s with bridges := x } := fun _ => .set [.bridges] rfl hF
  exact (hkept _).trans (.foldl (fun u _ => setBridge_keeps u _ _ hF) _ _)

theorem settleRate_keeps (s : State) (hF : F.holds [.faults] = true) : Keeps F s (settleRate s) := .ite (.refl s) (clearActive_keeps _ _ hF)

theorem settleClock_keeps (s : State) (hF : F.holds [.faults] = true) : Keeps F s (settleClock s) := .ite (.refl s) (clearActive_keeps _ _ hF)

/-- The fields that a rate error touches. -/
abbrev rateFields : List Field := [.log, .faults, .pair, .bridges, .audioPorts, .emitted]

theorem setRateErr_faults (s : State) (i : Nat) (on : Bool) (hF : F.holds rateFields = true) : Faults F s (setRateErr s i on) := by
  refine .mono hF ?_
  unfold setRateErr
  extract_lets b marked
  have hmarked : Keeps (Foot.noMode ⟨rateFields, [], false⟩) s marked := by
    unfold marked
    split
    · exact setAudioPort_keeps _ _ _ (by rfl)
    · exact .refl s
  exact hmarked.faults.trans (.ite (declareFault_faults _ _ _ _ _ _ (by rfl)) (settleRate_keeps _ (by rfl)).faults)

theorem resetBuffer_keeps (s : State) (i : Nat) (hF : F.holds [.bridges, .bridgeIn] = true) : Keeps F s (resetBuffer s i) := by
  refine .mono hF ?_
  have hset : ∀ x, Keeps ⟨[.bridges, .bridgeIn], [], false⟩ s (s.setBridge i x) := fun _ => setBridge_keeps _ _ _ (by rfl)
  have hqueue : ∀ (u : State) x, Keeps ⟨[.bridges, .bridgeIn], [], false⟩ u { u with bridgeIn := x } := fun _ _ => .set [.bridgeIn] rfl (by rfl)
  exact .ite ((hset _).trans (.foldl (fun u _ => hqueue u _) _ _)) (hset _)

theorem acquireBridge_faults (s : State) (i : Nat) (x : Option (Nat × Int)) (hF : F.holds (.bridgeIn :: rateFields) = true) :
    Faults F s (acquireBridge s i x) := by
  refine .mono hF ?_
  unfold acquireBridge
  dsimp only
  split
  · exact .trans (setBridge_keeps _ _ _ (by rfl)).faults <|
      .trans (.ite (setRateErr_faults _ _ _ (by rfl)) (.refl _)) (resetBuffer_keeps _ _ (by rfl)).faults
  · exact .ite (.refl s) (.trans (setBridge_keeps _ _ _ (by rfl)).faults (setRateErr_faults _ _ _ (by rfl)))

theorem bridgeAcquired_faults (s : State) (i : Nat) (r : Rat) (hF : F.holds (.bridgeIn :: rateFields) = true) :
    Faults F s (bridgeAcquired s i r) := by
  refine .mono hF ?_
  unfold bridgeAcquired
  refine .ite (.refl s) ?_
  dsimp only
  split
  · exact (acquireBridge_faults _ _ _ (by rfl)).trans (mirror_keeps _ _ _ _ (by rfl)).faults
  · exact (acquireBridge_faults _ _ _ (by rfl)).trans (mirror_keeps _ _ _ _ (by rfl)).faults

theorem bridgeStep_keeps (s : State) (i : Nat) (hF : F.holds [.bridges, .emitted] = true) : Keeps F s (bridgeStep s i) :=
  .mono hF (.ite (.refl s) ((setBridge_keeps _ _ _ (by rfl)).trans (mirror_keeps _ _ _ _ (by rfl))))

theorem setRatio_faults (s : State) (i : Nat) (r : Int) (hF : F.holds rateFields = true) : Faults F s (setRatio s i r) :=
  .mono hF (.ite (.trans (setBridge_keeps _ _ _ (by rfl)).faults (setRateErr_faults _ _ _ (by rfl))) (setBridge_keeps _ _ _ (by rfl)).faults)

theorem bridgeRatio_faults (s : State) (i : Nat) (e : Rat) (hF : F.holds rateFields = true) : Faults F s (bridgeRatio s i e) :=
  .mono hF (.ite (.refl s) (.trans (setBridge_keeps _ _ _ (by rfl)).faults <| .trans (setRatio_faults _ _ _ (by rfl)) (mirror_keeps _ _ _ _ (by rfl)).faults))

theorem dropBridge_faults (s : State) (i : Nat) (hF : F.holds rateFields = true) : Faults F s (dropBridge s i) :=
  .mono hF (.ite (setBridge_keeps _ _ _ (by rfl)).faults (.trans (setBridge_keeps _ _ _ (by rfl)).faults (setRateErr_faults _ _ _ (by rfl))))

theorem bridgeLost_faults (s : State) (i : Nat) (hF : F.holds rateFields = true) : Faults F s (bridgeLost s i) :=
  .mono hF (.ite (.refl s) ((dropBridge_faults _ _ (by rfl)).trans (mirror_keeps _ _ _ _ (by rfl)).faults))

theorem clockLost_faults (s : State) (p : Nat) (hF : F.holds [.log, .faults, .pair, .audioPorts, .emitted] = true) :
    Faults F s (clockLost s p) :=
  .mono hF (.ite (.refl s) (.trans (setAudioPort_keeps _ _ _ (by rfl)).faults (declareFault_faults _ _ _ _ _ _ (by rfl))))

/-- The fields that a frame at a pin clock touches. -/
abbrev pinFields : List Field := [.dict, .log, .faults, .pair, .ainIn, .bridgeIn, .bridges, .audioPorts, .emitted]

/-- The footprint of a frame at a pin clock. -/
abbrev pinFoot : Foot := ⟨pinFields, [0x7300, 0x7310], false⟩

theorem giveSample_keeps (s : State) (c : Bool) (n : Nat) (k : Int) (v : Nat) (hF : F.holds [.ainIn, .bridgeIn, .bridges] = true) :
    Keeps F s (giveSample s c n k v) := by
  have hbridge : ∀ x y, Keeps F s { s with bridgeIn := x, bridges := y } := fun _ _ => .set [.bridgeIn, .bridges] rfl (Foot.holds_sub hF (by rfl))
  have hain : ∀ x, Keeps F s { s with ainIn := x } := fun _ => .set [.ainIn] rfl (Foot.holds_sub hF (by rfl))
  exact .ite (hbridge _ _) (hain _)

theorem noteSlip_keeps (s : State) {p : Nat} (hp : p < 0x1000) (hF : F.holds [.dict, .audioPorts] [0x7300, 0x7310] = true) :
    Keeps F s (noteSlip s p) := by
  refine .mono hF (.trans (.ite ?_ ?_) (setAudioPort_keeps _ _ _ (by rfl)))
  · exact count_keeps (i := 0x7300) _ (by omega) (by rfl)
  · exact count_keeps (i := 0x7310) _ (by omega) (by rfl)

theorem putStore_keeps (s : State) {p : Nat} (out : Bool) (l : List Nat) (hp : p < 0x1000)
    (hF : F.holds [.dict, .audioPorts, .emitted] [0x7300, 0x7310] = true) : Keeps F s (putStore s p out l) := by
  refine .mono hF ?_
  have hset : ∀ x, Keeps ⟨[.dict, .audioPorts, .emitted], [0x7300, 0x7310], false⟩ s (s.setAudioPort p x) := fun _ => setAudioPort_keeps _ _ _ (by rfl)
  exact .ite (hset _) (.ite ((hset _).trans ((noteSlip_keeps _ hp (by rfl)).trans (mirror_keeps _ _ _ _ (by rfl)))) (hset _))

theorem getStore_keeps (s : State) {p : Nat} (out : Bool) (hp : p < 0x1000)
    (hF : F.holds [.dict, .audioPorts, .emitted] [0x7300, 0x7310] = true) : Keeps F s (getStore s p out).1 := by
  refine .mono hF ?_
  have hset : ∀ x, Keeps ⟨[.dict, .audioPorts, .emitted], [0x7300, 0x7310], false⟩ s (s.setAudioPort p x) := fun _ => setAudioPort_keeps _ _ _ (by rfl)
  unfold getStore
  dsimp only
  split
  · exact .refl s
  · exact .ite ((hset _).trans ((noteSlip_keeps _ hp (by rfl)).trans (mirror_keeps _ _ _ _ (by rfl)))) (hset _)

theorem driveAudio_keeps (s : State) (p : Nat) (l : List Nat) (hF : F.holds [.audioPorts, .emitted] = true) : Keeps F s (driveAudio s p l) :=
  .mono hF (.ite (emit_keeps _ _ (by rfl)) ((setAudioPort_keeps _ _ _ (by rfl)).trans (emit_keeps _ _ (by rfl))))

theorem bridgedFrame_keeps (s : State) (p i : Nat) (hF : F.holds [.bridges, .bridgeIn, .audioPorts, .emitted] = true) :
    Keeps F s (bridgedFrame s p i) := by
  refine .mono hF ?_
  have hset : ∀ (u : State) x, Keeps ⟨[.bridges, .bridgeIn, .audioPorts, .emitted], [], false⟩ u (u.setBridge i x) := fun _ _ => setBridge_keeps _ _ _ (by rfl)
  have hdrive : ∀ (u : State) l, Keeps ⟨[.bridges, .bridgeIn, .audioPorts, .emitted], [], false⟩ u (driveAudio u p l) := fun _ _ => driveAudio_keeps _ _ _ (by rfl)
  refine .ite ((hset _ _).trans (hdrive _ _)) (.trans ?_ (hdrive _ _))
  refine .trans (.ite ((hset _ _).trans (mirror_keeps _ _ _ _ (by rfl))) (.refl s)) (.ite ((hset _ _).trans (resetBuffer_keeps _ _ (by rfl))) (hset _ _))

theorem sendPinFrame_faults (s : State) {p : Nat} (hp : p < 0x1000) : Faults pinFoot s (sendPinFrame s p) := by
  unfold sendPinFrame
  refine .ite (.refl s) (.ite (Keeps.faults ((getStore_keeps _ _ hp (by rfl)).trans (driveAudio_keeps _ _ _ (by rfl)))) ?_)
  split
  · exact .trans (.ite (.trans (setBridge_keeps _ _ _ (by rfl)).faults (setRateErr_faults _ _ _ (by rfl))) (.refl s))
      (bridgedFrame_keeps _ _ _ (by rfl)).faults
  · exact .refl s

theorem clockReturns_keeps (s : State) (p : Nat) (hF : F.holds [.faults, .audioPorts] = true) : Keeps F s (clockReturns s p) :=
  .mono hF (.ite (.refl s) ((setAudioPort_keeps _ _ _ (by rfl)).trans (settleClock_keeps _ (by rfl))))

theorem pinFrame_faults (s : State) {p : Nat} (r : Nat) (l bad : List Nat) (b : Bool) (hp : p < 0x1000) : Faults pinFoot s (pinFrame s p r l bad b) := by
  unfold pinFrame
  refine .ite (.refl s) ?_
  extract_lets returned x rateErr declared taken samples odd wrong place nonAudio frame counted old marked settled given sampled outs
  have hreturned : Keeps pinFoot.noMode s returned := (syncBridges_keeps _ (by rfl)).trans (clockReturns_keeps _ _ (by rfl))
  have hdeclared : Faults pinFoot returned declared := .ite (declareFault_faults _ _ _ _ _ _ (by rfl)) (.refl _)
  have hcounted : Keeps pinFoot.noMode declared counted := .ite (.refl _) (countBy_keeps (i := 0x7310) _ _ (by omega) (by rfl))
  have hmarked : Keeps pinFoot.noMode counted marked := setAudioPort_keeps _ _ _ (by rfl)
  have hsettled : Keeps pinFoot.noMode marked settled := .ite (settleRate_keeps _ (by rfl)) (.refl _)
  have hgiven : Keeps pinFoot.noMode settled given := .foldl (fun u _ => giveSample_keeps u _ _ _ _ (by rfl)) _ _
  have hsampled : Keeps pinFoot.noMode settled sampled := by
    refine .ite (.refl _) (.ite ?_ (putStore_keeps _ _ _ hp (by rfl)))
    split
    · exact hgiven.trans (setBridge_keeps _ _ _ (by rfl))
    · exact hgiven
  have houts : ∀ q ∈ outs, q < 0x1000 := by
    intro q hq
    by_cases hlow : p < 16
    · have hq' : q = p := by simpa [outs, hlow] using hq
      omega
    · obtain ⟨⟨k, hk, rfl⟩, -⟩ : (∃ k < 24, 16 + k = q) ∧ _ := by simpa [outs, hlow] using hq
      omega
  refine hreturned.faults.trans <| hdeclared.trans <| .trans (hcounted.trans <| hmarked.trans <| hsettled.trans hsampled).faults ?_
  exact .foldl_mem _ fun q hq u => sendPinFrame_faults u (houts q hq)

/-! Gains, delays, meters (R310, R315, R319). -/

theorem setAin_keeps (s : State) (n : Nat) (x : AinSlot) (hF : F.holds [.ain] = true) : Keeps F s (s.setAin n x) := .set [.ain] rfl hF

theorem setAout_keeps (s : State) (n : Nat) (x : AoutSlot) (hF : F.holds [.aout] = true) : Keeps F s (s.setAout n x) := .set [.aout] rfl hF

theorem gainTimeoutStep_keeps (s : State) (n : Nat) (hF : F.holds [.aout, .sideGains] = true) : Keeps F s (gainTimeoutStep s n) :=
  .mono hF (.ite (.ite (setAout_keeps _ _ _ (by rfl)) (.refl s)) (.ite (.set [.sideGains] rfl (by rfl)) (.refl s)))

theorem meterTick_keeps (s : State) (hF : F.holdsWhole [.dict, .meters, .meterAt, .meterOld, .meterStamp] = true) : Keeps F s (meterTick s) := by
  refine .monoWhole hF (.ite (.refl s) ?_)
  have hold : ∀ (u : State) x, Keeps ⟨[.dict, .meters, .meterAt, .meterOld, .meterStamp], [], true⟩ u { u with meterOld := x } := fun _ _ =>
    .set [.meterOld] rfl (by rfl)
  have hboth : ∀ (u : State) x y, Keeps ⟨[.dict, .meters, .meterAt, .meterOld, .meterStamp], [], true⟩ u { u with meters := x, meterOld := y } :=
    fun _ _ _ => .set [.meters, .meterOld] rfl (by rfl)
  have hstamp : ∀ (u : State) x y, Keeps ⟨[.dict, .meters, .meterAt, .meterOld, .meterStamp], [], true⟩ u { u with meterAt := x, meterStamp := y } :=
    fun _ _ _ => .set [.meterAt, .meterStamp] rfl (by rfl)
  exact .trans (.trans (hold _ _) (.foldl (fun u e => (put_whole u _ _ _ (by rfl)).trans (hboth _ _ _)) _ _)) (hstamp _ _ _)

/-! Graphics (R371-R376). -/

theorem setSprite_keeps (s : State) (n : Nat) (x : Sprite) (hF : F.holds [.gfx] = true) : Keeps F s (s.setSprite n x) := .set [.gfx] rfl hF

theorem queueFlatten_keeps (s : State) (h : Nat) (hF : F.holds [.gfx] = true) : Keeps F s (queueFlatten s h) :=
  .ite (.refl s) (.set [.gfx] rfl hF)

theorem flattenUsers_keeps (s : State) (n : Nat) (hF : F.holds [.gfx] = true) : Keeps F s (flattenUsers s n) :=
  .foldl (fun u h => .ite (queueFlatten_keeps u h hF) (.refl u)) _ s

theorem putSprite_keeps (s : State) (n : Nat) (b : List Byte) (hF : F.holds [.gfx] = true) : Keeps F s (putSprite s n b) :=
  (setSprite_keeps _ _ _ hF).trans (flattenUsers_keeps _ _ hF)

theorem endCapture_keeps (s : State) (c : SpriteCapture) (st : Nat) (hF : F.holds (.gfx :: answerFields) [0x1001] = true) :
    Keeps F s (endCapture s c st) := by
  refine .mono hF ?_
  have hend : ∀ x y, Keeps ⟨.gfx :: answerFields, [0x1001], false⟩ s { s with gfx := x, req := y } := fun _ _ => .set [.gfx, .req] rfl (by rfl)
  exact (hend _ _).trans (notify_keeps _ _ _ _ _ _ (by rfl))

theorem captureTimeout_keeps (s : State) (n : Nat) (hF : F.holds (.gfx :: answerFields) [0x1001] = true) : Keeps F s (captureTimeout s n) := by
  unfold captureTimeout
  split
  · exact .ite (endCapture_keeps _ _ _ hF) (.refl s)
  · exact .refl s

/-- The footprint of a sprite's capture. -/
abbrev captureFoot : Foot :=
  ⟨[.free, .dict, .req, .log, .faults, .pair, .windows, .cells, .ins, .gfx, .feeds, .tether, .winBytes, .emitted], [], true⟩

theorem captureDone_faults (s : State) (n : Nat) : Faults captureFoot s (captureDone s n) := by
  unfold captureDone
  split
  · exact .refl s
  · dsimp only
    split
    · exact .trans (.monoWhole (by rfl) (caughtUp_faults _ _)) <| Keeps.faults <| (setSprite_keeps _ _ _ (by rfl)).trans <|
        (endCapture_keeps _ _ _ (by rfl)).trans (flattenUsers_keeps _ _ (by rfl))
    · exact .monoWhole (by rfl) (caughtUp_faults _ _)

theorem staticHandler_keeps (s u : State) {k : Nat} (b : List Byte) (hk : k < 0x1000) (hF : F.holds [.dict, .gfx] [0x8000] = true) :
    Keeps F u ((staticHandler s k b).commit u) :=
  .mono hF ((put_keeps (i := 0x8000) _ _ (by omega) (by rfl)).trans (queueFlatten_keeps _ _ (by rfl)))

theorem setHead_keeps (s : State) (h : Nat) (x : HeadSt) (hF : F.holds [.heads] = true) : Keeps F s (s.setHead h x) := .set [.heads] rfl hF

theorem awaitPlane_keeps (s : State) (h : Nat) (p : PlaneRows) (hF : F.holds [.heads, .emitted] = true) : Keeps F s (awaitPlane s h p) :=
  .mono hF (.ite (setHead_keeps _ _ _ (by rfl)) ((setHead_keeps _ _ _ (by rfl)).trans (mirror_keeps _ _ _ _ (by rfl))))

/-- The fields that the blitter touches. -/
abbrev blitFields : List Field := [.free, .dict, .log, .faults, .pair, .gfx, .emitted]

theorem blitOne_faults (x : Sprite) (v : Word) (s : State) (r : Nat) (hF : F.holds blitFields [0x5500] = true) : Faults F s (blitOne x v s r) := by
  refine .mono hF ?_
  unfold blitOne
  extract_lets d dst y l tagged rows row
  have htagged : Faults ⟨blitFields, [0x5500], false⟩ s tagged := .ite (tagFailed_faults _ _ _ (by rfl)) (.refl s)
  have hset : ∀ x, Keeps (Foot.noMode ⟨blitFields, [0x5500], false⟩) tagged (tagged.setSprite d x) := fun x => setSprite_keeps _ _ _ (by rfl)
  have hdraw : ∀ u : State, Keeps (Foot.noMode ⟨blitFields, [0x5500], false⟩) u u.draw := fun _ => .set [.free] rfl (by rfl)
  refine htagged.trans (.ite (hset _).faults (.trans (hset _).faults (.ite ?_ (.refl _))))
  exact .trans (count_keeps (i := 0x5500) _ (by decide) (by rfl)).faults (.trans (declareFault_faults _ _ _ _ _ _ (by rfl)) (hdraw _).faults)

/-- The footprint of the end of a blitter job. -/
abbrev jobFoot : Foot := ⟨[.free, .dict, .req, .log, .faults, .pair, .heads, .gfx, .emitted], [0x1001, 0x5500], false⟩

theorem jobDone_faults (s : State) : Faults jobFoot s (jobDone s) := by
  have hgfx : ∀ (u : State) x, Keeps jobFoot.noMode u { u with gfx := x } := fun _ _ => .set [.gfx] rfl (by rfl)
  unfold jobDone
  split
  · exact .refl s
  · exact ((hgfx _ _).trans (awaitPlane_keeps _ _ _ (by rfl))).faults
  · extract_lets ok blitted status gfx ended
    have hblitted : Faults jobFoot s blitted := .ite (.foldl (fun u r => blitOne_faults _ _ u r (by rfl)) _ s) (.refl s)
    have hended : Keeps jobFoot.noMode blitted ended := hgfx _ _
    exact hblitted.trans <| Keeps.faults <| hended.trans <|
      .trans (.ite (flattenUsers_keeps _ _ (by rfl)) (.refl _)) (finishWaiting_keeps _ _ _ _ _ (by rfl))

theorem jobStart_faults (s : State) (hF : F.holds blitFields [0x5500] = true) : Faults F s (jobStart s) := by
  refine .mono hF ?_
  have hgfx : ∀ (u : State) x, Keeps (Foot.noMode ⟨blitFields, [0x5500], false⟩) u { u with gfx := x } := fun _ _ => .set [.gfx] rfl (by rfl)
  unfold jobStart
  split
  · next j rest _ _ =>
    cases j with
    | flatten h => exact .trans (.foldl (fun u o => tagFailed_faults u _ _ (by rfl)) _ s) (hgfx _ _).faults
    | host v => exact (hgfx _ _).faults
  · exact .refl s

theorem cursorHandler_keeps (s u : State) {j : Nat} (b : List Byte) (hj : j < 65536) (hF : F.holds [.dict, .blobs, .heads] [0x8000] = true) :
    Keeps F u ((cursorHandler s j b).commit u) := by
  refine .mono hF ?_
  have hblob : Keeps ⟨[.dict, .blobs, .heads], [0x8000], false⟩ u (u.putBlob 0x8000 j b) := .set [.blobs] rfl (by rfl)
  unfold cursorHandler
  dsimp only
  split
  · exact (put_keeps _ _ hj (by rfl)).trans (setHead_keeps _ _ _ (by rfl))
  · exact hblob.trans (setHead_keeps _ _ _ (by rfl))

theorem cursorHandler_refused (s : State) (j : Nat) (b : List Byte) (st : Nat) (u : State) : (cursorHandler s j b).refused st u = u := by
  unfold cursorHandler
  dsimp only
  split <;> rfl

/-! Heads (R353-R381). -/

theorem setLayer_keeps (s : State) (i : Nat) (x : LayerSt) (hF : F.holds [.layers] = true) : Keeps F s (s.setLayer i x) := .set [.layers] rfl hF

theorem stageLayer_faults (s : State) (i : Nat) :
    Faults ⟨.layers :: cellFoot.fields, [], true⟩ s (stageLayer s i) :=
  .ite (.refl s) (.trans (.foldl (fun u j => .monoWhole (by rfl) (caughtUp_faults u j)) _ s) <| Keeps.faults <|
    (setLayer_keeps _ _ _ (by rfl)).trans (noteCells_keeps _ (by rfl)))

/-- The footprint of a head's frame boundary. -/
abbrev headFoot : Foot := ⟨[.free, .dict, .onAir, .log, .faults, .pair, .windows, .layers, .heads, .tether, .winBytes, .emitted], [], true⟩

theorem layerBoundary_faults (b : Rat) (s : State) (i : Nat) : Faults headFoot s (layerBoundary b s i) := by
  have hset : ∀ (u : State) x, Keeps headFoot.noMode u (u.setLayer i x) := fun u x => setLayer_keeps u i x (by rfl)
  have hput : ∀ (u : State) v, Keeps headFoot.noMode u (u.put (0x8100 + i) 0x100 v) := fun u v => put_whole u _ _ _ (by rfl)
  unfold layerBoundary
  extract_lets confs x staged c chosen counted declared
  have hcounted : Keeps headFoot.noMode chosen counted := .ite (count_whole _ _ _ (by rfl)) (.refl _)
  have hdeclared : Faults headFoot counted declared := .ite (declareFault_faults _ _ _ _ _ _ (by rfl)) (.refl _)
  exact (hset _ _).faults.trans (.ite ((hset _ _).faults.trans (hcounted.faults.trans (hdeclared.trans (hput _ _).faults)))
    ((hset _ _).trans (hput _ _)).faults)

theorem putOnAir_keeps (s : State) (p : Nat → Bool) (hF : F.holds [.onAir] = true) : Keeps F s (putOnAir s p) :=
  .foldl (fun _ _ => .set [.onAir] rfl hF) _ s

theorem applySets_keeps (s : State) (h : Nat) (b : Rat) (hF : F.holds [.onAir] = true) : Keeps F s (applySets s h b) :=
  .trans (.ite (.refl s) (putOnAir_keeps _ _ hF)) (.ite (.refl _) (putOnAir_keeps _ _ hF))

theorem applyImmediate_keeps (s : State) (h : Nat) (b : Rat) (hF : F.holds [.heads, .log] = true) : Keeps F s (applyImmediate s h b) := by
  refine .mono hF ?_
  have hset : ∀ (u : State) x i j o n p, Keeps ⟨[.heads, .log], [], false⟩ u (logEvent (u.setHead h x) i j o n p) := fun _ _ _ _ _ _ _ =>
    (setHead_keeps _ _ _ (by rfl)).trans (logEvent_keeps _ _ _ _ _ _ _ _ (by rfl))
  unfold applyImmediate
  extract_lets u p x cursored cursoredHead imaged imagedHead flattened y
  have hcursored : Keeps ⟨[.heads, .log], [], false⟩ s cursored := by
    unfold cursored
    split
    · exact hset _ _ _ _ _ _ _
    · exact .refl s
  have himaged : Keeps ⟨[.heads, .log], [], false⟩ cursored imaged := by
    unfold imaged
    split
    · exact hset _ _ _ _ _ _ _
    · exact .refl _
  have hflattened : Keeps ⟨[.heads, .log], [], false⟩ imaged flattened := by
    unfold flattened
    split
    · exact .ite (hset _ _ _ _ _ _ _) (.refl _)
    · exact .refl _
  exact hcursored.trans <| himaged.trans <| hflattened.trans (setHead_keeps _ _ _ (by rfl))

theorem readPlane_faults (s : State) (h : Nat) (hF : F.holds [.free, .dict, .log, .faults, .pair, .emitted] [0x5500] = true) :
    Faults F s (readPlane s h).1 := by
  unfold readPlane
  dsimp only
  split
  · exact .refl s
  · exact .foldl (fun u y => tagFailed_faults u _ _ hF) _ s

theorem headBoundary_faults (s : State) (h : Nat) : Faults headFoot s (headBoundary s h) := by
  unfold headBoundary
  extract_lets n m b x due waits applied bg layered bars
  refine .ite (.refl s) ?_
  have happlied : Keeps headFoot.noMode s applied := (applySets_keeps _ _ _ (by rfl)).trans (applyImmediate_keeps _ _ _ (by rfl))
  have hlayered : Faults headFoot applied layered := .ite (.refl _) (.foldl (fun u i => layerBoundary_faults b u i) _ _)
  have hread : Faults headFoot layered (if bg = true then (layered, ([] : PlaneRows)) else readPlane layered h).1 := by
    split
    · exact .refl _
    · exact readPlane_faults _ _ (by rfl)
  generalize (if bg = true then (layered, ([] : PlaneRows)) else readPlane layered h) = read at hread ⊢
  obtain ⟨composed, plane⟩ := read
  refine happlied.faults.trans <| hlayered.trans <| hread.trans <| Keeps.faults <| .trans (setHead_keeps _ _ _ (by rfl)) <|
    (put_whole _ _ _ _ (by rfl)).trans (sendPicture_keeps _ _ _ (by rfl))

/-- The footprint of a change of a head's timing. -/
abbrev timingFoot : Foot := ⟨[.dict, .moves, .log, .outs, .layers, .heads, .gfx, .emitted], [], true⟩

theorem settleHead_keeps (s : State) (h : Nat) (old : Word) : Keeps timingFoot s (settleHead s h old) := by
  have hlayers : ∀ (u : State) x, Keeps timingFoot u { u with layers := x } := fun _ _ => .set [.layers] rfl (by rfl)
  unfold settleHead
  extract_lets v head cleared settled
  have hsettled : Keeps timingFoot s settled := .ite (.refl s) ((setHead_keeps _ _ _ (by rfl)).trans ((put_whole _ _ _ _ (by rfl)).trans (hlayers _ _)))
  exact .ite hsettled (hsettled.trans (queueFlatten_keeps _ _ (by rfl)))

theorem headTiming_keeps (s : State) (h : Nat) : Keeps timingFoot s (headTiming s h) := by
  have hmoves : ∀ x, Keeps timingFoot s { s with moves := x } := fun _ => .set [.moves] rfl (by rfl)
  unfold headTiming
  split
  · exact .refl s
  · split
    · exact .refl s
    · refine .ite (.refl s) ?_
      exact (hmoves _).trans <| (put_whole _ _ _ _ (by rfl)).trans <| (setHead_keeps _ _ _ (by rfl)).trans <| (settleHead_keeps _ _ _).trans <|
        (followSource_keeps _ _ (by rfl)).trans <| (logEvent_keeps _ _ _ _ _ _ _ _ (by rfl)).trans (notePool_keeps _ (by rfl))

end Sys2Proof.Machine
end

section
/-! PROOFS. What the commands of audio, spools, heads and graphics leave unchanged (R296-R381). -/

namespace Sys2Proof.Machine

theorem bridgeBandwidthStep_keeps {s t : State} {i : Nat} (ht : exec (.bridgeBandwidthStep i) s = .next t) :
    Keeps ⟨[.bridges, .emitted], [], false⟩ s t :=
  .of_onUnit (f := fun s => bridgeStep s i) rfl ht (by rfl) fun _ => bridgeStep_keeps _ _ (by rfl)

theorem coefficientEffect_keeps {s t : State} (ht : exec .coefficientEffect s = .next t) : Keeps ⟨[.mix, .emitted], [], false⟩ s t :=
  .of_actRunning (f := coefEffects) rfl ht (by rfl) (coefEffects_keeps _ (by rfl))

theorem delayCrossfadeEnd_keeps {s t : State} {n : Nat} (ht : exec (.delayCrossfadeEnd n) s = .next t) :
    Keeps ⟨[.ain, .emitted], [], false⟩ s t :=
  .of_onUnit (f := fun s => if s.flag 0x7410 n 15 then s.setAin n (settleDelay (s.eff 0x7420 n) (s.ainSlot n)) else s) rfl ht (by rfl)
    fun _ => .ite (setAin_keeps _ _ _ (by rfl)) (.refl _)

theorem gainStepTimeout_keeps {s t : State} {n : Nat} (ht : exec (.gainStepTimeout n) s = .next t) :
    Keeps ⟨[.aout, .sideGains, .emitted], [], false⟩ s t := by
  by_cases hn : n < 0xC000
  · have he : exec (.gainStepTimeout n) s = actRunning s fun s => gainTimeoutStep s n := if_pos hn
    exact .of_actRunning (f := fun s => gainTimeoutStep s n) he ht (by rfl) (gainTimeoutStep_keeps _ _ (by rfl))
  · have he : exec (.gainStepTimeout n) s = onUnit (n - 0x10000 + (if n < 0x10000 then 256 else 0)) 256 s fun s => gainTimeoutStep s n := if_neg hn
    exact .of_onUnit (f := fun s => gainTimeoutStep s n) he ht (by rfl) fun _ => gainTimeoutStep_keeps _ _ (by rfl)

theorem spriteCaptureTimeout_keeps {s t : State} {n : Nat} (ht : exec (.spriteCaptureTimeout n) s = .next t) :
    Keeps ⟨[.dict, .req, .gfx, .emitted], [0x1001], false⟩ s t :=
  .of_onUnit (f := fun s => captureTimeout s n) rfl ht (by rfl) fun _ => captureTimeout_keeps _ _ (by rfl)

theorem audioPortClockLost_faults {s t : State} {p : Nat} (ht : exec (.audioPortClockLost p) s = .next t) :
    Faults ⟨[.log, .faults, .pair, .audioPorts, .emitted], [], false⟩ s t :=
  .of_onUnit (f := fun s => clockLost s p) rfl ht (by rfl) fun _ => clockLost_faults _ _ (by rfl)

theorem spoolCheckComplete_keeps {s t : State} {b : Nat} (ht : exec (.spoolCheckComplete b) s = .next t) :
    Keeps ⟨[.dict, .req, .log, .spools, .emitted], [], true⟩ s t :=
  .of_onUnit (f := fun s => spoolChecked s b) rfl ht (by rfl) fun hb => spoolChecked_keeps _ (by omega) (by rfl)

theorem spoolLoadAbandon_keeps {s t : State} {b : Nat} (ht : exec (.spoolLoadAbandon b) s = .next t) :
    Keeps ⟨[.dict, .req, .log, .spools, .emitted], [0x1001, 0x7200], false⟩ s t :=
  .of_onUnit (f := fun s => loadAbandoned s b) rfl ht (by rfl) fun hb => loadAbandoned_keeps _ (by omega) (by rfl)

/-- The footprint of the graphics' requests. -/
abbrev gfxFoot : Foot := ⟨[.dict, .req, .log, .pair, .gfx, .emitted], [0x1001, 0x5300], false⟩

theorem blitHandler_keeps (s u : State) (b : List Byte) : Keeps gfxFoot u ((blitHandler s b).commit u) := .set [.gfx] rfl (by rfl)

theorem blitCopy_keeps {s t : State} {rq : Rq} {v : Word} (ht : exec (.blitCopy rq v) s = .next t) : Keeps gfxFoot s t :=
  .of_request (h := fun s => blitHandler s (valueBytes rq (setBits v 191 188 1))) rfl ht (by rfl) (fun _ _ => rfl) fun _ => blitHandler_keeps _ _ _

theorem blitFill_keeps {s t : State} {rq : Rq} {v : Word} (ht : exec (.blitFill rq v) s = .next t) : Keeps gfxFoot s t :=
  .of_request (h := fun s => blitHandler s (valueBytes rq (setBits v 191 188 2))) rfl ht (by rfl) (fun _ _ => rfl) fun _ => blitHandler_keeps _ _ _

theorem spriteDelete_keeps {s t : State} {rq : Rq} {v : Word} (ht : exec (.spriteDelete rq v) s = .next t) : Keeps gfxFoot s t :=
  .of_request (h := fun s => deleteHandler s (valueBytes rq v)) rfl ht (by rfl) (fun _ _ => rfl) fun _ => setSprite_keeps _ _ _ (by rfl)

theorem spriteUpload_keeps {s t : State} {rq : Rq} {n : Nat} {b : List Byte} (ht : exec (.spriteUpload rq n b) s = .next t) : Keeps gfxFoot s t := by
  refine .of_act (f := fun s =>
    let h := uploadHandler s n b
    let t := request s rq opBlockWrite 0x8900 (0x100 + n) b h
    if s.accepts rq opBlockWrite 0x8900 (0x100 + n) b h.checks then finishWaiting t 0x8900 (0x100 + n) stOk [] else t) rfl ht (by rfl) ?_
  have hrequest : Keeps gfxFoot s.fresh (request s.fresh rq opBlockWrite 0x8900 (0x100 + n) b (uploadHandler s.fresh n b)) :=
    request_keeps (by rfl) (fun _ => putSprite_keeps _ _ _ (by rfl)) (fun _ u => .refl u) _ _ _ _ _ _
  exact .ite (hrequest.trans (finishWaiting_keeps _ _ _ _ _ (by rfl))) hrequest

theorem bridgeRatioUpdate_faults {s t : State} {i : Nat} {e : Rat} (ht : exec (.bridgeRatioUpdate i e) s = .next t) :
    Faults ⟨rateFields, [], false⟩ s t :=
  .of_onUnit (f := fun s => bridgeRatio s i e) rfl ht (by rfl) fun _ => bridgeRatio_faults _ _ _ (by rfl)

theorem bridgeSourceLost_faults {s t : State} {i : Nat} (ht : exec (.bridgeSourceLost i) s = .next t) : Faults ⟨rateFields, [], false⟩ s t :=
  .of_onUnit (f := fun s => bridgeLost s i) rfl ht (by rfl) fun _ => bridgeLost_faults _ _ (by rfl)

theorem bridgeAcquire_faults {s t : State} {i : Nat} {r : Rat} (ht : exec (.bridgeAcquire i r) s = .next t) :
    Faults ⟨.bridgeIn :: rateFields, [], false⟩ s t :=
  .of_onUnit (f := fun s => bridgeAcquired (syncBridges s) i r) rfl ht (by rfl) fun _ =>
    .trans (syncBridges_keeps _ (by rfl)).faults (bridgeAcquired_faults _ _ _ (by rfl))

theorem meterIntervalEnd_keeps {s t : State} (ht : exec .meterIntervalEnd s = .next t) :
    Keeps ⟨[.dict, .meters, .meterAt, .meterOld, .meterStamp, .emitted], [], true⟩ s t :=
  .of_actRunning (f := meterTick) rfl ht (by rfl) (meterTick_keeps _ (by rfl))

theorem blitterJobStart_faults {s t : State} (ht : exec .blitterJobStart s = .next t) : Faults ⟨blitFields, [0x5500], false⟩ s t :=
  .of_actRunning (f := jobStart) rfl ht (by rfl) (jobStart_faults _ (by rfl))

theorem blitterJobComplete_faults {s t : State} (ht : exec .blitterJobComplete s = .next t) : Faults jobFoot s t :=
  .of_actRunning (f := jobDone) rfl ht (by rfl) (jobDone_faults _)

/-- The footprint of a spool's load. -/
abbrev loadFoot : Foot := ⟨[.dict, .req, .log, .pair, .spools, .mix, .emitted], [], true⟩

theorem spoolBankEmpty_keeps {s t : State} {rq : Rq} {v : Word} (ht : exec (.spoolBankEmpty rq v) s = .next t) : Keeps loadFoot s t :=
  .of_request (h := fun s => emptyHandler s (valueBytes rq v)) rfl ht (by rfl) (fun _ _ => rfl) fun _ =>
    (clearCoefs_keeps _ _ (by rfl)).trans (setSpoolBank_keeps _ _ _ (by rfl))

theorem spoolLoad_keeps {s t : State} {rq : Rq} {b : Nat} {image : List Byte} (ht : exec (.spoolLoad rq b image) s = .next t) : Keeps loadFoot s t :=
  .of_request (h := fun s => loadHandler s b image) rfl ht (by rfl) (fun _ _ => rfl) fun _ =>
    (clearCoefs_keeps _ _ (by rfl)).trans (setSpoolBank_keeps _ _ _ (by rfl))

theorem spriteCapture_keeps {s t : State} {rq : Rq} {v : Word} (ht : exec (.spriteCapture rq v) s = .next t) :
    Keeps ⟨[.dict, .req, .log, .pair, .busSlotsB, .gfx, .emitted], [0x1001, 0x5300], false⟩ s t :=
  .of_request (h := fun s => captureHandler s rq (valueBytes rq v)) rfl ht (by rfl) (fun _ _ => rfl) fun _ => .set [.gfx] rfl (by rfl)

theorem staticLayerWrite_keeps {s t : State} {rq : Rq} {k : Nat} {v : Word} (hk : k < 0x1000)
    (ht : exec (.staticLayerWrite rq k v) s = .next t) :
    Keeps ⟨[.dict, .recent, .req, .log, .pair, .gfx, .emitted], [0x1001, 0x5300, 0x8000], false⟩ s t :=
  .of_request (h := fun s => staticHandler s k (valueBytes rq v)) rfl ht (by rfl) (fun _ _ => rfl) fun _ => staticHandler_keeps _ _ _ hk (by rfl)

theorem cursorWrite_keeps {s t : State} {rq : Rq} {j : Nat} {b : List Byte} (hj : j < 65536) (ht : exec (.cursorWrite rq j b) s = .next t) :
    Keeps ⟨[.dict, .blobs, .recent, .req, .log, .pair, .heads, .emitted], [0x1001, 0x5300, 0x8000], false⟩ s t :=
  .of_request (h := fun s => cursorHandler s j b) rfl ht (by rfl) (cursorHandler_refused _ _ _) fun _ => cursorHandler_keeps _ _ _ hj (by rfl)

theorem headTimingChange_keeps {s t : State} {h : Nat} (ht : exec (.headTimingChange h) s = .next t) : Keeps timingFoot s t :=
  .of_onUnit (f := fun s => headTiming s h) rfl ht (by rfl) fun _ => headTiming_keeps _ _

theorem spoolEffectPoint_faults {s t : State} (ht : exec .spoolEffectPoint s = .next t) : Faults spoolFoot s t :=
  .of_actRunning (f := spoolEffect) rfl ht (by rfl)
    (.ite (.refl _) ((computePeriod_faults _).trans (spoolSwap_keeps _ (by rfl)).faults))

theorem audioPortFrame_faults {s t : State} {p r : Nat} {l bad : List Nat} {b : Bool} (ht : exec (.audioPortFrame p r l bad b) s = .next t) :
    Faults pinFoot s t :=
  .of_onUnit (f := fun s => pinFrame s p r l bad b) rfl ht (by rfl) fun hp => pinFrame_faults _ _ _ _ _ (by omega)

theorem headFrameBoundary_faults {s t : State} {h : Nat} (ht : exec (.headFrameBoundary h) s = .next t) : Faults headFoot s t :=
  .of_onUnit (f := fun s => headBoundary s h) rfl ht (by rfl) fun _ => headBoundary_faults _ _

theorem stagedFrameComplete_faults {s t : State} {h l : Nat} (hl : l < 64) (ht : exec (.stagedFrameComplete h l) s = .next t) :
    Faults ⟨.layers :: cellFoot.fields, [], true⟩ s t :=
  have he : exec (.stagedFrameComplete h l) s = onUnit h 16 s fun s => stageLayer s (64 * h + l) := if_pos hl
  .of_onUnit (f := fun s => stageLayer s (64 * h + l)) he ht (by rfl) fun _ => stageLayer_faults _ _

theorem spriteCaptureDone_faults {s t : State} {n : Nat} (ht : exec (.spriteCaptureDone n) s = .next t) : Faults captureFoot s t :=
  .of_onUnit (f := fun s => captureDone s n) rfl ht (by rfl) fun _ => captureDone_faults _ _

/-- Settles O56, by the footprint of each command. -/
theorem audioFramed : Obligations.AudioFramed := by
  unfold Obligations.AudioFramed
  intro c s t hwf ht
  cases c
  case bridgeBandwidthStep _ => exact (bridgeBandwidthStep_keeps ht).eq_graft
  case coefficientEffect => exact (coefficientEffect_keeps ht).eq_graft
  case delayCrossfadeEnd _ => exact (delayCrossfadeEnd_keeps ht).eq_graft
  case gainStepTimeout _ => exact (gainStepTimeout_keeps ht).eq_graft
  case spriteCaptureTimeout _ => exact (spriteCaptureTimeout_keeps ht).frame (by rfl)
  case audioPortClockLost _ => exact (audioPortClockLost_faults ht).frame (by rfl)
  case spoolCheckComplete _ => exact (spoolCheckComplete_keeps ht).eq_graft
  case spoolLoadAbandon _ => exact (spoolLoadAbandon_keeps ht).frame (by rfl)
  case blitCopy _ _ => exact (blitCopy_keeps ht).frame (by rfl)
  case blitFill _ _ => exact (blitFill_keeps ht).frame (by rfl)
  case spriteDelete _ _ => exact (spriteDelete_keeps ht).frame (by rfl)
  case spriteUpload _ _ _ => exact (spriteUpload_keeps ht).frame (by rfl)
  case bridgeRatioUpdate _ _ => exact (bridgeRatioUpdate_faults ht).frame (by rfl)
  case bridgeSourceLost _ => exact (bridgeSourceLost_faults ht).frame (by rfl)
  case meterIntervalEnd => exact (meterIntervalEnd_keeps ht).eq_graft
  case blitterJobStart => exact (blitterJobStart_faults ht).frame (by rfl)
  case bridgeAcquire _ _ => exact (bridgeAcquire_faults ht).frame (by rfl)
  case spoolBankEmpty _ _ => exact (spoolBankEmpty_keeps ht).eq_graft
  case spoolLoad _ _ _ => exact (spoolLoad_keeps ht).eq_graft
  case spriteCapture _ _ => exact (spriteCapture_keeps ht).eq_graft
  case staticLayerWrite rq k v =>
    have hk : k < 64 := by simp only [Instr.wf, Bool.and_eq_true, decide_eq_true_eq] at hwf; exact hwf.1.2
    exact (staticLayerWrite_keeps (by omega) ht).frame (by rfl)
  case cursorWrite rq j b =>
    have hj : j < 0x50 := by simp only [Instr.wf, Bool.and_eq_true, decide_eq_true_eq] at hwf; exact hwf.2.2
    exact (cursorWrite_keeps (by omega) ht).frame (by rfl)
  case headTimingChange _ => exact (headTimingChange_keeps ht).eq_graft
  case spoolEffectPoint => exact (spoolEffectPoint_faults ht).framed
  case audioPortFrame _ _ _ _ _ => exact (audioPortFrame_faults ht).frame (by rfl)
  case blitterJobComplete => exact (blitterJobComplete_faults ht).frame (by rfl)
  case headFrameBoundary _ => exact (headFrameBoundary_faults ht).framed
  case stagedFrameComplete h l =>
    have hl : l < 64 := by simp only [Instr.wf, Bool.and_eq_true, decide_eq_true_eq] at hwf; exact hwf.2
    exact (stagedFrameComplete_faults hl ht).framed
  case spriteCaptureDone _ => exact (spriteCaptureDone_faults ht).framed
  all_goals exact trivial

end Sys2Proof.Machine
end

section
/-! PROOFS. Spools are loaded, checked, emptied and selected; coefficients wait for their period (R337, R338, R341-R344). -/

namespace Sys2Proof.Machine

/-- An accepted request: `u` is the state at its commit, and nothing but its answer follows. -/
theorem request_does {c : Instr} {s : State} {rq : Rq} {op i j : Nat} {b : List Byte} {h : State → Handler} {P : State → Prop}
    (he : exec c s = act s fun s => request s rq op i j b (h s)) (ha : isAccepted s.fresh rq op i j b (h s.fresh))
    (hP : ∀ u t, Answers s.fresh u → Streams ((h s.fresh).commit u) t → P { t with pending := s.pending }) : does c s P := by
  obtain ⟨u, hu, ht⟩ := request_commits_streams ha
  exact act_does he (hP u _ hu ht)

theorem Streams.spoolBank {s t : State} (h : Streams s t) (b : Nat) : t.spoolBank b = s.spoolBank b := by
  rw [State.spoolBank, h.rest]; rfl

theorem Streams.mix {s t : State} (h : Streams s t) : t.mix = s.mix := by rw [h.rest]

/-! Banks (R341, R342). -/

/-- A table without entry `k` reads the default there. -/
theorem mapGet_absent {α : Type} (d : Nat → α) {k : Nat} : ∀ {m : SMap α}, (∀ e ∈ m, e.1 ≠ k) → mapGet d m k = d k
  | [], _ => rfl
  | e :: m, h => by
    have he : k ≠ e.1 := fun hk => h e List.mem_cons_self hk.symm
    exact (if_neg he).trans (mapGet_absent d fun x hx => h x (List.mem_cons_of_mem _ hx))

/-- An emptied bank's coefficients are those of the reset (R342). -/
theorem clearCoefs_elem (s : State) (b i : Nat) (hi : i < 65536) : (clearCoefs s b).elem (0x7220 + b) i = dictReset (0x7220 + b) i := by
  have hdiv : ekey (0x7220 + b) i / 65536 = 0x7220 + b := by
    unfold ekey
    omega
  have hgone := mapGet_absent keyReset (k := ekey (0x7220 + b) i) (m := s.dict.filter fun e => e.1 / 65536 != 0x7220 + b)
    fun e he hk => by simp [hk, hdiv] at he
  have hkey : keyReset (ekey (0x7220 + b) i) = dictReset (0x7220 + b) i := by
    unfold keyReset ekey
    exact congrArg₂ dictReset (by omega) (by omega)
  exact hgone.trans hkey

theorem spoolLoad_loads (s : State) (rq : Rq) (b : Nat) (image : List Byte)
    (ha : isAccepted s.fresh rq opBlockWrite 0x7210 b image (loadHandler s.fresh b image)) :
    does (.spoolLoad rq b image) s fun t => (t.spoolBank b).st = 2 ∧ (t.spoolBank b).image = image := by
  refine request_does (h := fun s => loadHandler s b image) rfl ha fun u t _ ht => ?_
  have hbank : t.spoolBank b = { st := 2, image := image, frameAt := u.up } :=
    (ht.spoolBank b).trans (by simp [loadHandler, spoolArrived])
  have hst : (t.spoolBank b).st = 2 := by rw [hbank]
  have himage : (t.spoolBank b).image = image := by rw [hbank]
  exact ⟨hst, himage⟩

theorem spoolBankEmpty_empties (s : State) (rq : Rq) (b : Nat) (hb : rq.fits b = true)
    (ha : isAccepted s.fresh rq opWrite 0x7200 6 (valueBytes rq b) (emptyHandler s.fresh (valueBytes rq b))) :
    does (.spoolBankEmpty rq b) s fun t =>
      t.spoolBank b = {} ∧ ∀ i, i < 65536 → t.elem (0x7220 + b) i = dictReset (0x7220 + b) i := by
  refine request_does (h := fun s => emptyHandler s (valueBytes rq b)) rfl ha fun u t _ ht => ?_
  have hcommit : (emptyHandler s.fresh (valueBytes rq b)).commit u = (clearCoefs u b).setSpoolBank b {} := by
    unfold emptyHandler
    dsimp only
    rw [valueBytes_value hb]
  rw [hcommit] at ht
  refine ⟨(ht.spoolBank b).trans (by simp), fun i hi => ?_⟩
  exact (ht.elem (0x7220 + b) i (by omega) (by omega)).trans (clearCoefs_elem u b i hi)

/-- The outcome of a check (R341): the bank is LOADED or FAILED. -/
theorem spoolChecked_bank {s : State} {b : Nat} (hst : (s.spoolBank b).st = 2) :
    (spoolChecked s b).spoolBank b =
      if (checkImage (s.spoolBank b).image).1 = stOk then loadedBank (s.spoolBank b).image else { st := 4 } := by
  unfold spoolChecked
  dsimp only
  rw [if_neg (not_not.2 hst)]
  rcases hc : checkImage (s.spoolBank b).image with ⟨st, c, w⟩
  dsimp only
  have hspools : ∀ (u v : State), Keeps ⟨[.dict, .req, .log, .emitted], [], true⟩ u v → v.spoolBank b = u.spoolBank b := fun u v h =>
    congrArg (mapGet spoolBankD · b) (h.fields .spools (by decide))
  rw [hspools _ _ (finishWaiting_keeps _ _ _ _ _ (by rfl))]
  by_cases hok : st = stOk
  · rw [if_pos hok, if_pos hok, hspools _ _ (.foldl (fun u _ => put_whole u _ _ _ (by rfl)) _ _)]
    simp
  · rw [if_neg hok, if_neg hok]
    simp

/-- A load without frames for 1 s fails (R342). -/
theorem loadAbandoned_bank {s : State} {b : Nat} (hst : (s.spoolBank b).st = 1)
    (hlate : (s.spoolBank b).frameAt + 1000000000 ≤ s.up) : (loadAbandoned s b).spoolBank b = { st := 4 } := by
  unfold loadAbandoned
  dsimp only
  rw [if_pos ⟨hst, hlate⟩]
  have hspools : ∀ (u v : State), Keeps ⟨[.dict, .req, .log, .emitted], [0x1001], false⟩ u v → v.spoolBank b = u.spoolBank b := fun u v h =>
    congrArg (mapGet spoolBankD · b) (h.fields .spools (by decide))
  rw [hspools _ _ (abandonTransfer_keeps _ _ _ _ (by rfl))]
  simp

/-! SELECT (R344, R345). -/

theorem logEvent_mix (s : State) (i j : Nat) (o n : Word) (p : Nat) (b : Bool) (st : Nat) : (logEvent s i j o n p b st).mix = s.mix :=
  (logEvent_keeps (F := ⟨[.log], [], false⟩) s i j o n p b st (by rfl)).fields .mix (by decide)

theorem logEvent_onAir (s : State) (i j : Nat) (o n : Word) (p : Nat) (b : Bool) (st : Nat) : (logEvent s i j o n p b st).onAir = s.onAir :=
  (logEvent_keeps (F := ⟨[.log], [], false⟩) s i j o n p b st (by rfl)).fields .onAir (by decide)

theorem spoolSwap_swaps {s : State} (hsel : s.elem 0x7200 0 < 2) (hnew : s.airElem 0x7200 0 ≠ s.elem 0x7200 0)
    (hdue : s.sampleEffectDue 3 = true) :
    (spoolSwap s).airElem 0x7200 0 = s.elem 0x7200 0 ∧ (spoolSwap s).mix.engine = some { bank := s.elem 0x7200 0 } := by
  have hgo : ¬ (s.airElem 0x7200 0 = s.elem 0x7200 0 ∨ (!s.sampleEffectDue 3) = true) := by simp [hnew, hdue]
  unfold spoolSwap
  dsimp only
  rw [if_neg hgo, logEvent_mix, State.airElem, logEvent_onAir]
  refine ⟨?_, if_pos hsel⟩
  exact (s.putAir_airElem 0x7200 0 (s.elem 0x7200 0) 0x7200 0).trans (if_pos rfl)

/-! Coefficients (R337). -/

/-- Of a list without the elements of another, taken out one by one, what remains is what the other has not. -/
theorem mem_foldl_erase {α : Type} [DecidableEq α] (p : α → Bool) (x : α) :
    ∀ (l d : List α), (∀ y ∈ d, p y = true) → (∀ y, p y = true → l.count y ≤ d.count y) →
      (x ∈ d.foldl List.erase l ↔ x ∈ l ∧ p x = false)
  | l, [], _, hall => by
    refine ⟨fun hx => ⟨hx, ?_⟩, And.left⟩
    by_contra hp
    have hcount : l.count x = 0 := by simpa using hall x (by simpa using hp)
    exact List.count_eq_zero.1 hcount hx
  | l, a :: d, hd, hall => by
    have ha : p a = true := hd a List.mem_cons_self
    refine (mem_foldl_erase p x (l.erase a) d (fun y hy => hd y (List.mem_cons_of_mem _ hy)) fun y hy => ?_).trans ?_
    · have := hall y hy
      rw [List.count_cons] at this
      rw [List.count_erase]
      by_cases hay : a = y
      · subst hay
        simp at this ⊢
        omega
      · simpa [hay] using this
    · refine and_congr_left fun hx => ?_
      have hne : x ≠ a := fun he => by simp [he, ha] at hx
      exact List.mem_erase_of_ne hne

/-- The coefficient writes left: those that are not due. -/
theorem coefEffects_coefs (s : State) : (coefEffects s).mix.coefs = (s.mix.coefs.filter s.coefDue).foldl List.erase s.mix.coefs := by
  have hstep : ∀ (d : List CoefWrite) (u : State), (d.foldl (fun s c =>
      let (b, i) := (c.bank, c.entry)
      let old := s.coef b i
      let s := { s with mix := { s.mix with coefs := s.mix.coefs.erase c } }
      let f := startRamp (s.spoolBank b).words b i old (s.coef b i)
      { s with mix := { s.mix with engine := s.mix.engine.map f, fading := s.mix.fading.map fun x => (f x.1, x.2) } }) u).mix.coefs =
      d.foldl List.erase u.mix.coefs := by
    intro d
    induction d with
    | nil => exact fun _ => rfl
    | cons c d ih => exact fun u => ih _
  exact hstep _ s

/-- A coefficient write waits until its period has come, and no longer (R337). -/
theorem mem_coefEffects (s : State) (c : CoefWrite) : c ∈ (coefEffects s).mix.coefs ↔ c ∈ s.mix.coefs ∧ s.gridNow ≤ c.due := by
  rw [coefEffects_coefs, mem_foldl_erase s.coefDue c _ _ (fun y hy => (List.mem_filter.1 hy).2)
    fun y hy => (List.count_filter hy).ge]
  simp [State.coefDue]

theorem words32_one {b : List Byte} (hb : b.length = 4) : words32 1 b = [ofBytes b] := by
  have htake : b.take 4 = b := List.take_of_length_le hb.le
  simp [words32, htake]

/-- A write of one coefficient: the entry holds the value, and the old one stays in force until the period after next (R337). -/
theorem writeCoefs_one (s : State) (b i v : Nat) :
    (writeCoefs s b i [v]).elem (0x7220 + b) i = v ∧ ∃ c ∈ (writeCoefs s b i [v]).mix.coefs, c.due = s.effectPeriod ∧ c.bank = b ∧
      c.entry = i ∧ c.old = s.elem (0x7220 + b) i := by
  refine ⟨?_, _, List.mem_append_right _ (List.mem_singleton.2 rfl), rfl, rfl, rfl, rfl⟩
  exact (s.put_elem (0x7220 + b) i v (0x7220 + b) i).trans (if_pos rfl)

theorem elementHandler_coef (s : State) (rq : Rq) {b : Nat} (i : Nat) (payload : List Byte) (hb : b < 2) :
    elementHandler s rq (0x7220 + b) i payload = coefHandler s b i payload := by
  obtain rfl | rfl : b = 0 ∨ b = 1 := by omega
  · rfl
  · rfl

theorem writeElement_coef (s : State) (rq : Rq) {b : Nat} (i : Nat) (payload : List Byte) (hb : b < 2) :
    writeElement s rq opWrite (0x7220 + b) i payload =
      request s rq opWrite (0x7220 + b) i payload (coefHandler s b i payload) := by
  unfold writeElement
  dsimp only
  rw [settleElement_of_unasked (by omega) (fun hi => by omega), ite_self, elementHandler_coef s rq i payload hb]

/-- What COEFFICIENT_WRITE does with one word: it writes an element (R337). -/
theorem coefficientWrite_one (s : State) (rq : Rq) {b : Nat} (i : Nat) (payload : List Byte) (hb : b < 2) (hlen : payload.length ≤ 4) :
    (if payload.length ≤ 4 then writeElement s rq opWrite (0x7220 + b % 2) i payload
      else blockElements s rq (0x7220 + b % 2) i payload) = writeElement s rq opWrite (0x7220 + b) i payload := by
  rw [if_pos hlen, Nat.mod_eq_of_lt hb]

theorem coefficientWrite_waits (s : State) (rq : Rq) (b i : Nat) (payload : List Byte) (hb : b < 2) (hi : i < 65536)
    (hlen : payload.length = 4) (ha : isAccepted s.fresh rq opWrite (0x7220 + b) i payload (coefHandler s.fresh b i payload)) :
    does (.coefficientWrite rq b i payload) s fun t => t.elem (0x7220 + b) i = ofBytes payload ∧
      ∃ c ∈ t.mix.coefs, c.due = s.effectPeriod ∧ c.bank = b ∧ c.entry = i ∧ c.old = s.elem (0x7220 + b) i := by
  obtain ⟨u, hu, ht⟩ := request_commits_streams ha
  have hwrite : exec (.coefficientWrite rq b i payload) s =
      .next { request s.fresh rq opWrite (0x7220 + b) i payload (coefHandler s.fresh b i payload) with pending := s.pending } := by
    rw [← writeElement_coef s.fresh rq i payload hb, ← coefficientWrite_one s.fresh rq i payload hb hlen.le]
    rfl
  refine ⟨_, hwrite, ?_⟩
  have hcommit : (coefHandler s.fresh b i payload).commit u = writeCoefs u b i [ofBytes payload] := by
    unfold coefHandler
    dsimp only
    rw [hlen, words32_one hlen]
  rw [hcommit] at ht
  obtain ⟨helem, c, hc, hdue, hrest⟩ := writeCoefs_one u b i (ofBytes payload)
  have hperiod : u.effectPeriod = s.effectPeriod := by rw [hu.rest]; rfl
  have hold : u.elem (0x7220 + b) i = s.elem (0x7220 + b) i := hu.elem _ _ (by omega) hi
  refine ⟨(ht.elem (0x7220 + b) i (by omega) hi).trans helem, c, ?_, hdue.trans hperiod, ?_⟩
  · rw [← ht.mix] at hc
    exact hc
  · rwa [hold] at hrest

/-- Settles O20: a load and an emptying by what their commits leave of the bank; a check and an abandoned load by the bank they
set last; SELECT by the swap after the period is computed; a coefficient by the entry its write adds, which the effects of each
period take out once it is due. -/
theorem spoolsLoad : Obligations.SpoolsLoad := by
  unfold Obligations.SpoolsLoad
  refine ⟨fun s rq b image _ ha => spoolLoad_loads s rq b image ha, ?_, ?_, fun s rq b hb ha => spoolBankEmpty_empties s rq b hb ha, ?_,
    fun s rq b i payload hb hi hlen ha => coefficientWrite_waits s rq b i payload hb hi hlen ha, ?_⟩
  · exact fun s b hb hrun hst => onUnit_does (f := fun s => spoolChecked s b) rfl hb hrun (spoolChecked_bank (s := s.fresh) hst)
  · exact fun s b hb hrun hst hlate => onUnit_does (f := fun s => loadAbandoned s b) rfl hb hrun (loadAbandoned_bank (s := s.fresh) hst hlate)
  · intro s hrun hperiod hsel hnew hdue
    refine actRunning_does (f := spoolEffect) rfl hrun ?_
    have hnext : ¬ (s.fresh.period.any fun k => decide (s.fresh.gridNow ≤ k)) = true := by
      have hsame : ∀ k, s.period = some k → ¬ s.fresh.gridNow ≤ k := fun k hk => not_le.2 (hperiod k hk)
      have hperiod' : s.fresh.period = s.period := rfl
      rw [hperiod']
      cases hk : s.period with
      | none => simp
      | some k => simpa using hsame k hk
    have heffect : spoolEffect s.fresh = spoolSwap (computePeriod s.fresh) := if_neg hnext
    rw [heffect]
    exact spoolSwap_swaps hsel hnew hdue
  · exact fun s hrun => actRunning_does (f := coefEffects) rfl hrun (mem_coefEffects s.fresh)

end Sys2Proof.Machine
end

section
/-! PROOFS. Sprites, static layers, cursors and the blitter (R371-R376, R379). -/

namespace Sys2Proof.Machine

theorem Faults.same {F : Foot} {s t : State} (h : Faults F s t) (f : Field) (hf : F.orFaulted.fields.contains f = false) : s.agree t f :=
  h.orFaulted.same f hf

theorem Streams.gfx {s t : State} (h : Streams s t) : t.gfx = s.gfx := by rw [h.rest]
theorem Streams.heads {s t : State} (h : Streams s t) : t.heads = s.heads := by rw [h.rest]

theorem Streams.sprite {s t : State} (h : Streams s t) (n : Nat) : t.sprite n = s.sprite n := by
  rw [State.sprite, h.gfx]; rfl

theorem State.setHead_head (s : State) (h : Nat) (x : HeadSt) : (s.setHead h x).head h = x := by
  simp [State.setHead, State.head]

/-! What leaves the graphics alone but for the blitter's queue (R374). -/

theorem queueFlatten_gfx (s : State) (h : Nat) : { (queueFlatten s h).gfx with queue := [] } = { s.gfx with queue := [] } := by
  unfold queueFlatten
  split <;> rfl

theorem queueFlatten_dict (s : State) (h : Nat) : (queueFlatten s h).dict = s.dict := by
  unfold queueFlatten
  split <;> rfl

theorem flattenUsers_gfx (s : State) (n : Nat) : { (flattenUsers s n).gfx with queue := [] } = { s.gfx with queue := [] } := by
  refine foldl_keeps (fun u : State => { u.gfx with queue := [] }) (fun u h => ?_) _ s
  dsimp only
  split
  · exact queueFlatten_gfx u h
  · rfl

theorem flattenUsers_sprites (s : State) (n : Nat) : (flattenUsers s n).gfx.sprites = s.gfx.sprites :=
  congrArg (fun g => g.sprites) (flattenUsers_gfx s n)

theorem flattenUsers_sprite (s : State) (n k : Nat) : (flattenUsers s n).sprite k = s.sprite k :=
  congrArg (mapGet spriteD · k) (flattenUsers_sprites s n)

theorem flattenUsers_captures (s : State) (n : Nat) : (flattenUsers s n).gfx.captures = s.gfx.captures :=
  congrArg (fun g => g.captures) (flattenUsers_gfx s n)

theorem flattenUsers_job (s : State) (n : Nat) :
    (flattenUsers s n).gfx.busy = s.gfx.busy ∧ (flattenUsers s n).gfx.last = s.gfx.last :=
  ⟨congrArg (fun g => g.busy) (flattenUsers_gfx s n), congrArg (fun g => g.last) (flattenUsers_gfx s n)⟩

theorem finishWaiting_gfx (s : State) (i j st : Nat) (d : List Byte) : (finishWaiting s i j st d).gfx = s.gfx :=
  (finishWaiting_keeps (F := ⟨answerFields, [0x1001], false⟩) s i j st d (by rfl)).fields .gfx (by decide)

theorem notify_gfx (s : State) (rq : Rq) (i j st : Nat) (d : List Byte) : (notify s rq i j st d).gfx = s.gfx :=
  (notify_keeps (F := ⟨answerFields, [0x1001], false⟩) s rq i j st d (by rfl)).fields .gfx (by decide)

/-! Sprites and captures (R372, R373). -/

theorem putSprite_sprite (s : State) (n : Nat) (image : List Byte) : (putSprite s n image).sprite n =
    { w := ofBytes (image.take 2), h := ofBytes ((image.drop 2).take 2)
      rows := spriteRows (ofBytes (image.take 2)) (ofBytes ((image.drop 2).take 2)) (image.drop 8) } := by
  unfold putSprite
  dsimp only
  rw [flattenUsers_sprite]
  simp

theorem spriteUpload_replaces (s : State) (rq : Rq) (n : Nat) (image : List Byte)
    (ha : isAccepted s.fresh rq opBlockWrite 0x8900 (0x100 + n) image (uploadHandler s.fresh n image)) :
    does (.spriteUpload rq n image) s fun t => t.sprite n =
      { w := ofBytes (image.take 2), h := ofBytes ((image.drop 2).take 2)
        rows := spriteRows (ofBytes (image.take 2)) (ofBytes ((image.drop 2).take 2)) (image.drop 8) } := by
  obtain ⟨u, -, ht⟩ := request_commits_streams ha
  refine act_does (f := fun s =>
    let h := uploadHandler s n image
    let t := request s rq opBlockWrite 0x8900 (0x100 + n) image h
    if s.accepts rq opBlockWrite 0x8900 (0x100 + n) image h.checks then finishWaiting t 0x8900 (0x100 + n) stOk [] else t) rfl ?_
  have hsprite := (ht.sprite n).trans (putSprite_sprite u n image)
  dsimp only
  split
  · exact (congrArg (fun g : GraphicsSt => mapGet spriteD g.sprites n) (finishWaiting_gfx _ _ _ _ _)).trans hsprite
  · exact hsprite

theorem endCapture_gfx (s : State) (c : SpriteCapture) (st : Nat) : (endCapture s c st).gfx =
    { s.gfx with captures := s.gfx.captures.filter fun x => !(x.sprite == c.sprite && x.rq == c.rq) } := notify_gfx _ _ _ _ _ _

theorem endCapture_sprites (s : State) (c : SpriteCapture) (st : Nat) : (endCapture s c st).gfx.sprites = s.gfx.sprites := by
  rw [endCapture_gfx]

theorem endCapture_ends (s : State) (c : SpriteCapture) (st : Nat) : c ∉ (endCapture s c st).gfx.captures := by
  rw [endCapture_gfx]
  simp [List.mem_filter]

/-- A capture ends with a frame that can be staged and has been read, 64 µs after its commit (R373). -/
theorem captureDone_ends {s u : State} {n : Nat} {c : SpriteCapture} {m : Int}
    (hfind : s.gfx.captures.find? (fun c => c.sprite == n) = some c) (hu : u = s.caughtUp c.source)
    (hstage : u.stageable c.source m = true) (hlow : u.srcFrameAt c.source u.now - 2 ≤ m) (hhigh : m ≤ u.srcFrameAt c.source u.now)
    (hstart : c.at_ + u.stepped + 64000 ≤ u.srcStart c.source m)
    (hread : u.lineTime c.source m (wovenLine (u.srcFmt c.source).form (formActive (u.srcFmt c.source).form - 1)) ≤ u.now) :
    ((captureDone s n).sprite n).w = formWidth (u.srcFmt c.source).form ∧
      ((captureDone s n).sprite n).h = formActive (u.srcFmt c.source).form ∧ c ∉ (captureDone s n).gfx.captures := by
  unfold captureDone
  rw [hfind]
  dsimp only
  rw [← hu]
  split
  · next m' _ =>
    have hsprite := flattenUsers_sprite (endCapture (u.setSprite n { w := formWidth (u.srcFmt c.source).form, h := formActive (u.srcFmt c.source).form
                                                                     rows := u.captureRows c.source m' }) c stOk) n n
    have hset := hsprite.trans ((congrArg (mapGet spriteD · n) (endCapture_sprites _ c stOk)).trans
      ((u.setSprite_sprite n _ n).trans (if_pos rfl)))
    refine ⟨congrArg Sprite.w hset, congrArg Sprite.h hset, ?_⟩
    rw [flattenUsers_captures]
    exact endCapture_ends _ _ _
  · next hnone =>
    have hmem : m ∈ [u.srcFrameAt c.source u.now - 2, u.srcFrameAt c.source u.now - 1, u.srcFrameAt c.source u.now] := by
      simp only [List.mem_cons, List.not_mem_nil, or_false]
      omega
    have hempty := List.head?_eq_none_iff.1 hnone
    have hno := List.filter_eq_nil_iff.1 hempty m hmem
    simp [hstart, hread, hstage] at hno

/-- A capture without a frame for 1 s ends, and leaves the sprites alone (R373). -/
theorem captureTimeout_ends {s : State} {n : Nat} {c : SpriteCapture} (hfind : s.gfx.captures.find? (fun c => c.sprite == n) = some c)
    (hlate : c.at_ + 1000000000 ≤ s.up) :
    c ∉ (captureTimeout s n).gfx.captures ∧ (captureTimeout s n).gfx.sprites = s.gfx.sprites := by
  unfold captureTimeout
  rw [hfind]
  dsimp only
  rw [if_pos hlate]
  exact ⟨endCapture_ends s c stLate, endCapture_sprites s c stLate⟩

/-! Static layers and blits as the host writes them (R374, R375). -/

theorem staticHandler_elem (s u : State) {rq : Rq} {v : Word} {k : Nat} (hv : rq.fits v = true) :
    ((staticHandler s k (valueBytes rq v)).commit u).elem 0x8000 (0x2000 + k) = v := by
  have hput : ((staticHandler s k (valueBytes rq v)).commit u).elem 0x8000 (0x2000 + k) =
      (u.put 0x8000 (0x2000 + k) (ofBytes (valueBytes rq v))).elem 0x8000 (0x2000 + k) :=
    congrArg (mapGet keyReset · _) (queueFlatten_dict _ _)
  rw [hput, valueBytes_value hv]
  exact (u.put_elem 0x8000 (0x2000 + k) v 0x8000 (0x2000 + k)).trans (if_pos rfl)

theorem blitRequest_queues {c : Instr} {s : State} {rq : Rq} {v : Word} (he : exec c s = act s fun s => blitRequest rq v s)
    (hv : rq.fits v = true)
    (ha : isAccepted s.fresh rq opWrite 0x8900 0x200 (valueBytes rq v) (blitHandler s.fresh (valueBytes rq v))) :
    does c s fun t => t.gfx.queue = s.gfx.queue ++ [.host v] := by
  refine request_does (h := fun s => blitHandler s (valueBytes rq v)) he ha fun u t hu ht => ?_
  have hcommit : ((blitHandler s.fresh (valueBytes rq v)).commit u).gfx.queue = u.gfx.queue ++ [.host v] := by
    unfold blitHandler
    dsimp only
    rw [valueBytes_value hv]
  have hgfx : u.gfx = s.gfx := by rw [hu.rest]; rfl
  rw [hgfx] at hcommit
  exact (congrArg GraphicsSt.queue ht.gfx).trans hcommit

/-! The blitter (R375, R376). -/

theorem jobStart_starts {s : State} {j : BlitJob} {rest : List BlitJob} (hbusy : s.gfx.busy = none) (hqueue : s.gfx.queue = j :: rest) :
    (jobStart s).gfx.busy = some j ∧ (jobStart s).gfx.queue = rest := by
  unfold jobStart
  rw [hbusy, hqueue]
  exact ⟨rfl, rfl⟩

theorem awaitPlane_gfx (s : State) (h : Nat) (p : PlaneRows) : (awaitPlane s h p).gfx = s.gfx :=
  (awaitPlane_keeps (F := ⟨[.heads, .emitted], [], false⟩) s h p (by rfl)).fields .gfx (by decide)

/-- A flatten ends well (R375). -/
theorem jobDone_flatten {s : State} {h : Nat} (hbusy : s.gfx.busy = some (.flatten h)) :
    (jobDone s).gfx.busy = none ∧ (jobDone s).gfx.last = stOk := by
  unfold jobDone
  rw [hbusy]
  dsimp only
  rw [awaitPlane_gfx]
  exact ⟨rfl, rfl⟩

/-- A blit ends well where it fits its sprites, and otherwise with OUT_OF_RANGE (R375; the second judgement is log entry 122). -/
theorem jobDone_blit {s : State} {v : Word} (hbusy : s.gfx.busy = some (.host v)) :
    (jobDone s).gfx.busy = none ∧ (jobDone s).gfx.last = if s.blitFits v then stOk else stRange := by
  unfold jobDone
  rw [hbusy]
  dsimp only
  rw [finishWaiting_gfx]
  by_cases hfits : s.blitFits v = true
  · rw [if_pos hfits, if_pos hfits, if_pos hfits]
    exact flattenUsers_job _ _
  · rw [if_neg hfits, if_neg hfits, if_neg hfits]
    exact ⟨rfl, rfl⟩

/-! The cursor (R379). -/

/-- A head's effect boundary depends on its configuration, the time and the planes. -/
theorem State.effectAt_congr {s t : State} {h : Nat} (hh : h < 16) (hconf : t.elem 0x8000 h = s.elem 0x8000 h)
    (hplanes : t.planes = s.planes) (hnow : t.now = s.now) (hstepped : t.stepped = s.stepped) (d : Rat) :
    t.effectAt h d = s.effectAt h d := by
  have hplace : isInput (2048 + h) = false ∧ isHead (2048 + h) = true := by
    unfold isInput isHead
    simp
    omega
  have hplane : t.srcPlane (2048 + h) = s.srcPlane (2048 + h) := by simp [State.srcPlane, hplace, State.field, hconf]
  have hfmt : t.srcFmt (2048 + h) = s.srcFmt (2048 + h) := by simp [State.srcFmt, hplace, State.field, hconf]
  simp only [State.effectAt, hplane, hfmt, State.plane, hplanes, hnow, hstepped]

theorem Answers.effectAt {s t : State} (h : Answers s t) {k : Nat} (hk : k < 16) (d : Rat) : t.effectAt k d = s.effectAt k d :=
  State.effectAt_congr hk (h.elem 0x8000 k (by decide) (by omega)) (by rw [h.rest]) (by rw [h.rest]) (by rw [h.rest]) d

theorem cursorWrite_place (s : State) (rq : Rq) {sub : Nat} (payload : List Byte) (hlow : 0x30 ≤ sub) (hhigh : sub < 0x40)
    (ha : isAccepted s.fresh rq opWrite 0x8000 sub payload (cursorHandler s.fresh sub payload)) :
    does (.cursorWrite rq sub payload) s fun t => t.elem 0x8000 sub = ofBytes payload ∧
      (t.head (sub - 0x30)).cursorQ = (s.head (sub - 0x30)).cursorQ ++ [(s.effectAt (sub - 0x30) 16000, ofBytes payload)] := by
  have he : exec (.cursorWrite rq sub payload) s = act s fun s => request s rq opWrite 0x8000 sub payload (cursorHandler s sub payload) := by
    have hop : (if sub < 0x40 then opWrite else opBlockWrite) = opWrite := if_pos hhigh
    rw [← hop]
    rfl
  refine request_does (h := fun s => cursorHandler s sub payload) he ha fun u t hu ht => ?_
  have hcommit : (cursorHandler s.fresh sub payload).commit u = (u.put 0x8000 sub (ofBytes payload)).setHead (sub - 0x30)
      { u.head (sub - 0x30) with
        cursorQ := (u.head (sub - 0x30)).cursorQ ++ [(u.effectAt (sub - 0x30) 16000, ofBytes payload)] } := by
    unfold cursorHandler
    dsimp only
    rw [if_pos hhigh]
  rw [hcommit] at ht
  have helem := (ht.elem 0x8000 sub (by decide) (by omega)).trans ((u.put_elem 0x8000 sub (ofBytes payload) 0x8000 sub).trans (if_pos rfl))
  have hhead := (congrArg (mapGet headD · (sub - 0x30)) ht.heads).trans (State.setHead_head _ _ _)
  have hheads : u.head (sub - 0x30) = s.head (sub - 0x30) := by rw [hu.rest]; rfl
  have hat : u.effectAt (sub - 0x30) 16000 = s.effectAt (sub - 0x30) 16000 := hu.effectAt (by omega) _
  rw [hheads, hat] at hhead
  exact ⟨helem, congrArg HeadSt.cursorQ hhead⟩

theorem cursorWrite_image (s : State) (rq : Rq) {sub : Nat} (payload : List Byte) (hlow : 0x40 ≤ sub) (hhigh : sub < 0x50)
    (ha : isAccepted s.fresh rq opBlockWrite 0x8000 sub payload (cursorHandler s.fresh sub payload)) :
    does (.cursorWrite rq sub payload) s fun t => t.blob 0x8000 sub = payload ∧
      (t.head (sub - 0x40)).imageQ = (s.head (sub - 0x40)).imageQ ++ [(s.effectAt (sub - 0x40) 16000, payload)] := by
  have hnot : ¬ sub < 0x40 := by omega
  have he : exec (.cursorWrite rq sub payload) s =
      act s fun s => request s rq opBlockWrite 0x8000 sub payload (cursorHandler s sub payload) := by
    have hop : (if sub < 0x40 then opWrite else opBlockWrite) = opBlockWrite := if_neg hnot
    rw [← hop]
    rfl
  refine request_does (h := fun s => cursorHandler s sub payload) he ha fun u t hu ht => ?_
  have hcommit : (cursorHandler s.fresh sub payload).commit u = (u.putBlob 0x8000 sub payload).setHead (sub - 0x40)
      { u.head (sub - 0x40) with
        imageQ := (u.head (sub - 0x40)).imageQ ++ [(u.effectAt (sub - 0x40) 16000, payload)] } := by
    unfold cursorHandler
    dsimp only
    rw [if_neg hnot]
  rw [hcommit] at ht
  have hblob := (ht.blob 0x8000 sub).trans ((u.putBlob_blob 0x8000 sub payload 0x8000 sub).trans (if_pos rfl))
  have hhead := (congrArg (mapGet headD · (sub - 0x40)) ht.heads).trans (State.setHead_head _ _ _)
  have hheads : u.head (sub - 0x40) = s.head (sub - 0x40) := by rw [hu.rest]; rfl
  have hat : u.effectAt (sub - 0x40) 16000 = s.effectAt (sub - 0x40) 16000 := hu.effectAt (by omega) _
  rw [hheads, hat] at hhead
  exact ⟨hblob, congrArg HeadSt.imageQ hhead⟩

/-! Captures and deletions as the host asks for them (R372, R373). -/

theorem spriteCapture_waits (s : State) (rq : Rq) (v : Word) (hv : rq.fits v = true)
    (ha : isAccepted s.fresh rq opWrite 0x8900 0x140 (valueBytes rq v) (captureHandler s.fresh rq (valueBytes rq v))) :
    does (.spriteCapture rq v) s fun t => ∃ c ∈ t.gfx.captures, c.sprite = bits v 63 56 ∧ c.source = bits v 47 32 ∧ c.rq = rq := by
  refine request_does (h := fun s => captureHandler s rq (valueBytes rq v)) rfl ha fun u t _ ht => ?_
  have hcaptures : ((captureHandler s.fresh rq (valueBytes rq v)).commit u).gfx.captures =
      u.gfx.captures ++ [{ sprite := bits v 63 56, source := bits v 47 32, at_ := s.fresh.up, rq := rq }] := by
    unfold captureHandler
    dsimp only
    rw [valueBytes_value hv]
  have hall := (congrArg GraphicsSt.captures ht.gfx).trans hcaptures
  exact ⟨_, hall ▸ List.mem_append_right _ (List.mem_singleton.2 rfl), rfl, rfl, rfl⟩

theorem spriteDelete_deletes (s : State) (rq : Rq) (n : Nat) (hn : rq.fits n = true)
    (ha : isAccepted s.fresh rq opWrite 0x8900 0x141 (valueBytes rq n) (deleteHandler s.fresh (valueBytes rq n))) :
    does (.spriteDelete rq n) s fun t => t.sprite n = {} := by
  refine request_does (h := fun s => deleteHandler s (valueBytes rq n)) rfl ha fun u t _ ht => ?_
  have hcommit : (deleteHandler s.fresh (valueBytes rq n)).commit u = u.setSprite n {} := by
    unfold deleteHandler
    dsimp only
    rw [valueBytes_value hn]
  rw [hcommit] at ht
  exact (ht.sprite n).trans ((u.setSprite_sprite n {} n).trans (if_pos rfl))

/-- Settles O22: what a request asks for stands from its commit; a capture ends by the frames it finds or by its time; the blitter
takes the head of its queue and gives each job its status. -/
theorem graphicsRun : Obligations.GraphicsRun := by
  unfold Obligations.GraphicsRun
  refine ⟨?_, spriteCapture_waits, ?_, ?_, spriteDelete_deletes, ?_, ?_, ?_, ?_, ?_, ?_, ?_⟩
  · intro s rq n image _ ha
    obtain ⟨t, ht, hsprite⟩ := spriteUpload_replaces s rq n image ha
    exact ⟨t, ht, congrArg Sprite.w hsprite, congrArg Sprite.h hsprite, congrArg Sprite.rows hsprite⟩
  · intro s u n c m hn hrun hfind hu hstage hlow hhigh hstart hread
    exact onUnit_does (f := fun s => captureDone s n) rfl hn hrun
      (captureDone_ends (s := s.fresh) hfind hu hstage hlow hhigh hstart hread)
  · intro s n c hn hrun hfind hlate
    exact onUnit_does (f := fun s => captureTimeout s n) rfl hn hrun (captureTimeout_ends (s := s.fresh) hfind hlate)
  · intro s rq k v hk hv ha
    refine request_does (h := fun s => staticHandler s k (valueBytes rq v)) rfl ha fun u t _ ht => ?_
    exact (ht.elem 0x8000 (0x2000 + k) (by decide) (by omega)).trans (staticHandler_elem s.fresh u hv)
  · exact fun s rq v hv ha => blitRequest_queues rfl hv ha
  · exact fun s rq v hv ha => blitRequest_queues rfl hv ha
  · intro s j rest hrun hbusy hqueue
    exact actRunning_does (f := jobStart) rfl hrun (jobStart_starts (s := s.fresh) hbusy hqueue)
  · intro s j hrun hbusy
    cases j with
    | flatten h => exact actRunning_does (f := jobDone) rfl hrun (jobDone_flatten (s := s.fresh) hbusy)
    | host v => exact actRunning_does (f := jobDone) rfl hrun (jobDone_blit (s := s.fresh) hbusy)
  · exact fun s rq sub payload hlow hhigh ha => cursorWrite_place s rq payload hlow hhigh ha
  · exact fun s rq sub payload hlow hhigh ha => cursorWrite_image s rq payload hlow hhigh ha

end Sys2Proof.Machine
end

section
/-! PROOFS. A head's new timing (R381): its configuration does not stand where a waiting salvo names an output that the device does not
have. -/

namespace Sys2Proof.Machine

/-- The configuration of head 0 that a move brings: on, plane 0, FORM 1. -/
def strayConf : Word := 2 ^ 31 + 2 ^ 25

/-- A device with a due move of head 0 and a waiting salvo for output 0x1C000000: what stands for that output at 0x5000, 0x6000 and
0x6100 stands at 0x6C00:0000, 0x7C00:0000 and 0x7D00:0000, and makes it an output that follows head 0; its report, 0x6400:0000 + j, is
0x8000:0000. -/
def strayImage : State where
  __ := State.reset
  mode := .solo
  moves := [{ index := 0x8000, sub := 0, old := 0, new := strayConf, start := 0, point := some 0 }]
  events := [{ tp := 0, plane := 0, kind := 2, image := [(0x5000, 0x1C000000, 0)] }]
  onAir := [(ekey 0x6C00 0, 2048)]
  dict := [(ekey 0x7C00 0, 2 ^ 28), (ekey 0x7D00 0, 2 ^ 20)]

/-- HEAD_TIMING_CHANGE reports a change of that output's format, and sets bit 29 of the head's configuration. -/
theorem strayImage_moves : (headTiming strayImage.fresh 0).elem 0x8000 0 = strayConf + 2 ^ 29 := by decide

/-- Refutes O21: a waiting salvo names output 0x1C000000, which the state does not exclude. The output takes head 0's new format, and its
report falls on the head's configuration, which is then not the one that the move brought. -/
theorem not_headsCompose : ¬ Obligations.HeadsCompose := by
  unfold Obligations.HeadsCompose
  intro h
  obtain ⟨-, -, htiming⟩ := h
  obtain ⟨t, ht, helem, -⟩ := htiming strayImage 0 _ 0 (by decide) rfl rfl rfl (by decide)
  obtain ⟨-, he⟩ := onUnit_next (n := 0) (l := 16) (f := fun s => headTiming s 0) rfl ht
  have hrun : strayImage.running = true := rfl
  rw [if_pos hrun] at he
  have hqueue : ∀ (u : State) p, ({ u with pending := p } : State).elem 0x8000 0 = u.elem 0x8000 0 := fun _ _ => rfl
  rw [he, hqueue, strayImage_moves] at helem
  exact absurd helem (by decide)

end Sys2Proof.Machine
end

section
/-! SUPPORT. What the tether's operations emit and leave unchanged (R388-R404). -/

namespace Sys2Proof.Machine

theorem Faults.elem {F : Foot} {s t : State} (h : Faults F s t) {i j : Nat} (hi : F.orFaulted.spares i = true) (hj : j < 0x8000) :
    t.elem i j = s.elem i j := h.orFaulted.elem hi hj

/-! Fields of a word. -/

theorem testBit_bits (v : Word) (hi lo n : Nat) : (bits v hi lo).testBit n = (decide (n < hi + 1 - lo) && v.testBit (lo + n)) := by
  unfold bits
  rw [Nat.testBit_mod_two_pow, Nat.testBit_div_two_pow, Nat.add_comm n lo]

/-- A field is what its bits are. -/
theorem bits_congr {v w : Word} {hi lo : Nat} (h : ∀ n, lo ≤ n → n ≤ hi → bit v n = bit w n) : bits v hi lo = bits w hi lo := by
  refine Nat.eq_of_testBit_eq fun n => ?_
  rw [testBit_bits, testBit_bits]
  by_cases hn : n < hi + 1 - lo
  · have := h (lo + n) (by omega) (by omega)
    rw [bit_eq_testBit, bit_eq_testBit] at this
    rw [this]
  · simp [hn]

theorem bits_setBits_ne {v : Word} {lo hi lo' hi' : Nat} (h : lo ≤ hi) (hne : hi' < lo ∨ hi < lo') (x : Nat) :
    bits (setBits v hi lo x) hi' lo' = bits v hi' lo' :=
  bits_congr fun n hlow hhigh => by rw [bit_setBits v h, if_neg (by omega)]

/-! What is emitted. -/

theorem Emits.foldl {α : Type} {f : State → α → State} (hf : ∀ u a, Emits u (f u a)) (l : List α) (s : State) : Emits s (l.foldl f s) := by
  induction l generalizing s with
  | nil => exact .refl s
  | cons a l ih => exact (hf s a).trans (ih _)

theorem emit_silences (s : State) (x e : Emission) : (s.emit x).silences e = s.silences e := by
  unfold State.emit
  split
  · rfl
  · cases e <;> rfl

theorem emit_mem {s : State} {e : Emission} (h : s.silences e = false) : e ∈ (s.emit e).emitted := by
  rw [emit_unsilenced h]
  exact List.mem_append_right _ (List.mem_singleton.2 rfl)

/-- Of a run of emissions each comes out whose port is not mute. -/
theorem mem_foldl_emit {α : Type} {e : State → α → Emission} (he : ∀ u x a, e (State.emit u x) a = e u a) {a : α} {l : List α} {s : State}
    (ha : a ∈ l) (hs : s.silences (e s a) = false) : e s a ∈ (l.foldl (fun u b => u.emit (e u b)) s).emitted := by
  induction l generalizing s with
  | nil => cases ha
  | cons b l ih =>
    rcases List.mem_cons.1 ha with rfl | ha
    · exact (Emits.foldl (fun u b => emit_emits u (e u b)) l _).mem (emit_mem hs)
    · have hrest := ih (s := s.emit (e s b)) ha (by rw [emit_silences, he]; exact hs)
      rw [he] at hrest
      exact hrest

/-! What leaves the tether's ports and HELLOs. -/

-- For every element: with numerals in its place, `rfl` would compute the element's reset value.
theorem putField_tether (s : State) (i j hi lo v : Nat) : (s.putField i j hi lo v).tether = s.tether := rfl
theorem putFlag_tether (s : State) (i j n : Nat) (b : Bool) : (s.putFlag i j n b).tether = s.tether := rfl
theorem clearActive_tether (s : State) (n : Nat) : (clearActive s n).tether = s.tether := rfl
theorem setTport_hellos (s : State) (p : Nat) (x : TetherPort) : (s.setTport p x).tether.hellos = s.tether.hellos := rfl
theorem setIn_tether (s : State) (j : Nat) (x : InFlow) : (s.setIn j x).tether = s.tether := rfl
theorem setInState_tether (s : State) (j st : Nat) : (setInState s j st).tether = s.tether := putField_tether s 0x4300 (0x4000 + j) 31 29 st

theorem noteMap_keeps {F : Foot} (s : State) (hF : F.holds [.dict] [0xA010] = true) : Keeps F s (noteMap s) := by
  have hput : ∀ (u : State) j v, j < 65536 → Keeps F u (u.put 0xA010 j v) := fun u _ v hj => put_keeps u v hj hF
  have hall : ∀ (u : State) a b c, Keeps F u (((u.put 0xA010 1 a).put 0xA010 2 b).put 0xA010 3 c) := fun u a b c =>
    (hput u 1 a (by omega)).trans <| (hput _ 2 b (by omega)).trans (hput _ 3 c (by omega))
  unfold noteMap
  dsimp only
  split
  · exact hall s _ _ _
  · exact hall s _ _ _

theorem noteMap_tether (s : State) : (noteMap s).tether = s.tether :=
  (noteMap_keeps (F := ⟨[.dict], [0xA010], false⟩) s (by rfl)).same .tether (by decide)

theorem declareFault_tether (s : State) (n : Nat) (d : Word) (l f : Bool) (p : Nat) : (declareFault s n d l f p).tether = s.tether :=
  (declareFault_faults (F := ⟨noteFields, [], false⟩) s n d l f p (by rfl)).same .tether (by decide)

theorem emit_tether (s : State) (e : Emission) : (s.emit e).tether = s.tether :=
  (emit_keeps (F := ⟨[.emitted], [], false⟩) s e (by rfl)).same .tether (by decide)

theorem judgePlaced_tether (s : State) : (judgePlaced s).tether = s.tether :=
  (judgePlaced_faults (F := ⟨timingFields, [0x2120], false⟩) (by rfl) s).same .tether (by decide)

theorem notePeer_hellos (s : State) (p : Nat) (h : Hello) : (notePeer s p h).tether.hellos = s.tether.hellos := by
  unfold notePeer
  extract_lets x peered noted bad was marked
  have hmarked : marked.tether.hellos = s.tether.hellos := by
    unfold marked noted peered
    rw [putFlag_tether, putField_tether, putField_tether, setTport_hellos]
  split
  · rw [declareFault_tether, hmarked]
  · split
    · rw [clearActive_tether, hmarked]
    · exact hmarked

theorem noteIds_hellos (s : State) (p : Nat) (dup : Bool) (n : Nat) : (noteIds s p dup n).tether.hellos = s.tether.hellos := by
  unfold noteIds
  extract_lets x stale timed marked two active
  have htimed : timed.tether.hellos = s.tether.hellos := by
    unfold timed
    split
    · rfl
    · split <;> rfl
  have hmarked : marked.tether.hellos = s.tether.hellos := by
    unfold marked
    rw [putFlag_tether, htimed]
  split
  · rw [declareFault_tether, hmarked]
  · split
    · rw [clearActive_tether, hmarked]
    · exact hmarked

/-- A HELLO received is kept with the port and the time it came by (R390). -/
theorem helloReceived_keeps_it {s : State} {p : Nat} {h : Hello} (hready : s.portReady p = true) (hnode : h.node ≠ s.nodeId) :
    { hello := h, port := p, at_ := s.up } ∈ (helloReceived s p h).tether.hellos := by
  unfold helloReceived
  rw [if_neg (by simp [hready])]
  extract_lets own direct dup new tether kept noted flooded
  have hown : own = false := by simp [own, hnode]
  have hkept : { hello := h, port := p, at_ := s.up } ∈ kept.tether.hellos := by
    unfold kept
    rw [if_neg (by simp [hown])]
    exact List.mem_append_right _ (List.mem_singleton.2 rfl)
  have hnoted : noted.tether.hellos = kept.tether.hellos := by
    unfold noted
    split
    · exact notePeer_hellos _ _ _
    · rfl
  have hflooded : flooded.tether.hellos = noted.tether.hellos := by
    unfold flooded
    split
    · exact foldl_keeps (fun u : State => u.tether.hellos) (fun u q => by rw [emit_tether]) _ noted
    · rfl
  rw [noteMap_tether, noteIds_hellos, hflooded, hnoted]
  exact hkept

/-! Paths that break and become whole (R403). -/

theorem breakStream_ports (b : Bool) (s : State) (t : Stream) : (breakStream b s t).tether.ports = s.tether.ports := by
  unfold breakStream
  extract_lets marked held told
  have htold : told.tether.ports = s.tether.ports :=
    foldl_keeps (fun u : State => u.tether.ports) (fun u o => by rw [emit_tether]) _ held
  have hlost : ∀ (u : State) j x v, (setInState ((u.putField 0xA200 j 127 124 v).setIn j x) j 2).tether.ports = u.tether.ports := fun u j x v => by
    rw [setInState_tether, setIn_tether, putField_tether]
  refine (foldl_keeps (fun u : State => u.tether.ports) (fun u j => ?_) _ told).trans htold
  dsimp only
  split
  · rfl
  · split
    · exact hlost _ _ _ _
    · rw [putField_tether]

/-- The elements before those of the routes. -/
theorem ekey_ne_of_lt {i i' k j : Nat} (hi : i < i') (hk : k < 65536) : ekey i k ≠ ekey i' j := by
  unfold ekey
  omega

theorem putField_elem_of_lt (s : State) {i i' k j hi lo v : Nat} (h : i < i') (hk : k < 65536) :
    (s.putField i' j hi lo v).elem i k = s.elem i k := by
  unfold State.putField
  rw [State.put_elem, if_neg (ekey_ne_of_lt h hk)]

/-- An input set to state 2 sets no flag 31, whatever the input's number. -/
theorem setInState_flag {s : State} (j : Nat) {i k : Nat} (h : s.flag i k 31 = false) : (setInState s j 2).flag i k 31 = false := by
  unfold setInState State.flag State.putField
  rw [State.put_elem]
  split
  · rw [bit_setBits _ (by decide)]
    rfl
  · exact h

/-- A path that is whole again touches nothing before 0xA200. -/
theorem breakStream_whole_elem (s : State) (t : Stream) {i k : Nat} (hi : i < 0xA200) (hk : k < 65536) :
    (breakStream false s t).elem i k = s.elem i k := by
  unfold breakStream
  extract_lets marked held told
  have htold : told.elem i k = s.elem i k :=
    foldl_keeps (fun u : State => u.elem i k) (fun u o => congrArg (mapGet keyReset · _) (u.emit_dict _)) _ held
  refine (foldl_keeps (fun u : State => u.elem i k) (fun u j => ?_) _ told).trans htold
  dsimp only
  split
  · rfl
  · exact putField_elem_of_lt u hi hk

/-- A path that breaks sets no flag 31 before 0xA200: an input's state is set to 2, whatever the input's number. -/
theorem breakStream_broken_flag {s : State} (t : Stream) {i k : Nat} (hi : i < 0xA200) (hk : k < 65536) (h : s.flag i k 31 = false) :
    (breakStream true s t).flag i k 31 = false := by
  unfold breakStream
  extract_lets marked held told
  have htold : told.flag i k 31 = false :=
    (foldl_keeps (fun u : State => u.flag i k 31) (fun u o => congrArg (fun d => bit (mapGet keyReset d _) _) (u.emit_dict _)) _ held).trans h
  refine List.foldlRecOn (motive := fun u : State => u.flag i k 31 = false) t.flows _ htold fun u hu j _ => ?_
  dsimp only
  split
  · exact hu
  · have hset : ∀ (v : State) x, v.flag i k 31 = false → (v.setIn j x).flag i k 31 = false := fun _ _ hv => hv
    have hroute : (u.putField 0xA200 j 127 124 3).flag i k 31 = false := (congrArg (bit · 31) (putField_elem_of_lt u hi hk)).trans hu
    exact setInState_flag _ (hset _ _ hroute)

end Sys2Proof.Machine
end

section
/-! PROOFS. Tether ports come up, keep time and keep credits (R388-R395, R404). -/

namespace Sys2Proof.Machine

/-! HELLO, timelines and plane configurations as they are sent (R390, R391, R393). -/

theorem helloSend_sends {s : State} {p : Nat} (hp : p < 8) (hrun : s.running = true) (hmute : s.portMute p = false)
    (hon : s.portOn p = true) : does .helloSend s fun t => Emission.hello p (s.ownHello p) ∈ t.emitted := by
  refine actRunning_does (f := fun s => ((List.range 8).filter s.portOn).foldl (fun s p => s.emit (.hello p (s.ownHello p))) s) rfl hrun ?_
  have hmem : p ∈ (List.range 8).filter s.fresh.portOn := List.mem_filter.2 ⟨List.mem_range.2 hp, hon⟩
  have hsame : ∀ (u : State) x q, Emission.hello q ((u.emit x).ownHello q) = Emission.hello q (u.ownHello q) := fun u x q => by
    unfold State.emit
    split <;> rfl
  exact mem_foldl_emit (e := fun u q => .hello q (u.ownHello q)) hsame hmem hmute

theorem timelineSend_sends {s : State} {p : Nat} (hp : p < 8) (hrun : s.running = true) (hmute : s.portMute p = false)
    (hcascade : s.cascadeOn = true) (hup : s.tUp p = true) :
    does .tetherTimelineSend s fun t => Emission.tether p (controlBlock 1 s.timelineBody) [] ∈ t.emitted := by
  refine actRunning_does (f := fun s =>
    if s.cascadeOn then s.upPorts.foldl (fun s p => s.emit (.tether p (controlBlock 1 s.timelineBody) [])) s else s) rfl hrun ?_
  have hcascade' : s.fresh.cascadeOn = true := hcascade
  have hmem : p ∈ s.fresh.upPorts := List.mem_filter.2 ⟨List.mem_range.2 hp, hup⟩
  have hsame : ∀ (u : State) x (q : Nat), Emission.tether q (controlBlock 1 (u.emit x).timelineBody) [] =
      Emission.tether q (controlBlock 1 u.timelineBody) [] := fun u x q => by
    unfold State.emit
    split <;> rfl
  dsimp only
  rw [if_pos hcascade']
  exact mem_foldl_emit (e := fun u q => .tether q (controlBlock 1 u.timelineBody) []) hsame hmem hmute

theorem planecfgSend_turns (s : State) : (planecfgSend s).tether.planecfg = (s.tether.planecfg % 4 + 1) % 4 := by
  unfold planecfgSend
  extract_lets p w body record tether turned sent
  have hsent : sent.tether = turned.tether := by
    unfold sent
    split
    · exact foldl_keeps (fun u : State => u.tether) (fun u q => emit_tether _ _) _ turned
    · rfl
  split
  · rw [emit_tether, hsent]
  · rw [hsent]

theorem planecfgSend_sends {s : State} {q : Nat} (hq : q < 8) (hup : s.tUp q = true) (hmaster : s.cascadeMaster = true)
    (hmute : s.portMute q = false) : ∃ r, Emission.tether q r [] ∈ (planecfgSend s).emitted := by
  unfold planecfgSend
  extract_lets p w body record tether turned sent
  have hmaster' : turned.cascadeMaster = true := hmaster
  have hmem : q ∈ turned.upPorts := List.mem_filter.2 ⟨List.mem_range.2 hq, hup⟩
  have hsent : Emission.tether q record [] ∈ sent.emitted := by
    unfold sent
    rw [if_pos hmaster']
    exact mem_foldl_emit (e := fun _ q => .tether q record []) (fun _ _ _ => rfl) hmem hmute
  refine ⟨record, ?_⟩
  split
  · exact (emit_emits _ _).mem hsent
  · exact hsent

/-! Ports that come up and go down (R388). -/

theorem State.tport_congr {s t : State} (h : t.tether.ports = s.tether.ports) (p : Nat) : t.tport p = s.tport p :=
  congrArg (mapGet tportD · p) h

-- For every element: with numerals in its place, `rfl` would compute the element's reset value.
theorem setPlane_elem (s : State) (p : Nat) (x : Plane) (i k : Nat) : (s.setPlane p x).elem i k = s.elem i k := rfl
theorem draw_elem (s : State) (i k : Nat) : s.draw.elem i k = s.elem i k := rfl
theorem putFlag_source (s : State) (i k n m : Nat) (b : Bool) : (s.putFlag i k n b).source m = s.source m := rfl
theorem setTport_elem (s : State) (p : Nat) (x : TetherPort) (i k : Nat) : (s.setTport p x).elem i k = s.elem i k := rfl

theorem putFlag_flag (s : State) (i k n : Nat) (b : Bool) : (s.putFlag i k n b).flag i k n = b := by
  unfold State.flag State.putFlag
  rw [State.put_elem, if_pos rfl, bit_setBit, if_pos rfl]

theorem put_elem_same (s : State) (i k : Nat) (v : Word) : (s.put i k v).elem i k = v := (s.put_elem i k v i k).trans (if_pos rfl)

theorem put_tether (s : State) (i k : Nat) (v : Word) : (s.put i k v).tether = s.tether := rfl

theorem tetherPortUp_up {s : State} {p : Nat} (hp : p < 8) (hdown : s.tUp p = false) (hready : s.portReady p = true)
    (hpeer : (s.tport p).peer.isSome = true) (hside : s.flag 0xA100 (0x100 + p) 29 = false) :
    (tetherPortUp s p).tUp p = true ∧ ((tetherPortUp s p).tport p).credit0 = 512 ∧ ((tetherPortUp s p).tport p).credit1 = 512 := by
  have hgo : ¬ (s.tUp p || !s.portReady p || (s.tport p).peer.isNone || s.flag 0xA100 (0x100 + p) 29) = true := by
    cases hx : (s.tport p).peer with
    | none => simp [hx] at hpeer
    | some x => simp [hdown, hready, hside]
  unfold tetherPortUp
  rw [if_neg hgo]
  extract_lets x marked told
  have hports : (noteMap ((told.streamsFrom p).foldl (breakStream false) told)).tether.ports = told.tether.ports := by
    rw [noteMap_tether]
    exact foldl_keeps (fun u : State => u.tether.ports) (fun u t => breakStream_ports false u t) _ told
  have hport : told.tport p = marked.tport p := State.tport_congr (congrArg TetherSt.ports (emit_tether _ _)) p
  have hset : marked.tport p = { x with flight := none, credit0 := 512, credit1 := 512, dryAt := none, freed0 := 0, freed1 := 0 } :=
    (State.setTport_tport _ p _ p).trans (if_pos rfl)
  have hup : ∀ k, k = 0x100 + p → (noteMap ((told.streamsFrom p).foldl (breakStream false) told)).flag 0xA100 k 31 = true := by
    intro k hk
    have hmap := (noteMap_keeps (F := ⟨[.dict], [0xA010], false⟩) ((told.streamsFrom p).foldl (breakStream false) told) (by rfl)).elem
      (i := 0xA100) (j := k) (by decide) (by omega)
    have hwhole : ((told.streamsFrom p).foldl (breakStream false) told).elem 0xA100 k = told.elem 0xA100 k :=
      foldl_keeps (fun u : State => u.elem 0xA100 k) (fun u t => breakStream_whole_elem u t (by decide) (by omega)) _ told
    have htold : told.elem 0xA100 k = marked.elem 0xA100 k := congrArg (mapGet keyReset · _) (marked.emit_dict _)
    have hmarked : marked.flag 0xA100 k 31 = true := by
      have hflag := putFlag_flag s 0xA100 k 31 true
      unfold State.flag at hflag ⊢
      unfold marked
      rw [setTport_elem, ← hk]
      exact hflag
    unfold State.flag at hmarked ⊢
    rw [hmap, hwhole, htold, hmarked]
  refine ⟨hup _ rfl, ?_⟩
  rw [State.tport_congr hports, hport, hset]
  exact ⟨rfl, rfl⟩

theorem settlePorts_tether (s : State) : (settlePorts s).tether = s.tether := by
  unfold settlePorts
  extract_lets none_ cleared
  have hcleared : cleared.tether = s.tether := by
    unfold cleared
    split <;> rfl
  split
  · exact hcleared
  · exact hcleared

theorem settlePorts_dict (s : State) : (settlePorts s).dict = s.dict := by
  unfold settlePorts
  extract_lets none_ cleared
  have hcleared : cleared.dict = s.dict := by
    unfold cleared
    split <;> rfl
  split
  · exact hcleared
  · exact hcleared

theorem chooseUpstream_ports (s : State) : (chooseUpstream s).tether.ports = s.tether.ports := rfl

/-- A port that is lost goes down, and has no peer any more (R388). -/
theorem tetherPortDown_down {s : State} {p : Nat} (hp : p < 8) (hlost : s.portLost p = true) :
    (tetherPortDown s p).tUp p = false ∧ ((tetherPortDown s p).tport p).peer = none := by
  unfold tetherPortDown
  rw [if_neg (by simp [hlost])]
  extract_lets marked emptied tether cut settled
  have hcut : settled.tether.ports = cut.tether.ports := congrArg TetherSt.ports (settlePorts_tether cut)
  have hsettled : settled.tether.ports = emptied.tether.ports := hcut
  have hbroken : ((settled.streamsFrom p).foldl (breakStream true) settled).tether.ports = settled.tether.ports :=
    foldl_keeps (fun u : State => u.tether.ports) (fun u t => breakStream_ports true u t) _ settled
  have hports := congrArg TetherSt.ports (judgePlaced_tether (chooseUpstream (noteMap ((settled.streamsFrom p).foldl (breakStream true) settled))))
  rw [chooseUpstream_ports, noteMap_tether, hbroken, hsettled] at hports
  have hdown : ∀ k, k = 0x100 + p →
      (judgePlaced (chooseUpstream (noteMap ((settled.streamsFrom p).foldl (breakStream true) settled)))).flag 0xA100 k 31 = false := by
    intro k hk
    have hjudged := (judgePlaced_faults (F := ⟨timingFields, [0x2120], false⟩) (by rfl)
      (chooseUpstream (noteMap ((settled.streamsFrom p).foldl (breakStream true) settled)))).elem (i := 0xA100) (j := k) (by decide) (by omega)
    have hmap := (noteMap_keeps (F := ⟨[.dict], [0xA010], false⟩) ((settled.streamsFrom p).foldl (breakStream true) settled) (by rfl)).elem
      (i := 0xA100) (j := k) (by decide) (by omega)
    have hchosen : ∀ u : State, (chooseUpstream u).elem 0xA100 k = u.elem 0xA100 k := fun _ => rfl
    have hfirst : settled.flag 0xA100 k 31 = false := by
      have hdict : settled.elem 0xA100 k = marked.elem 0xA100 k := congrArg (mapGet keyReset · _) (settlePorts_dict cut)
      have hmarked : marked.elem 0xA100 k = s.elem 0xA100 k &&& 0x60000000 := by
        unfold marked
        rw [← hk, put_elem_same]
      unfold State.flag
      rw [hdict, hmarked, bit_eq_testBit, Nat.testBit_and, show Nat.testBit 0x60000000 31 = false by decide, Bool.and_false]
    have hall : ((settled.streamsFrom p).foldl (breakStream true) settled).flag 0xA100 k 31 = false :=
      List.foldlRecOn (motive := fun u : State => u.flag 0xA100 k 31 = false) _ _ hfirst fun u hu t _ =>
        breakStream_broken_flag t (by decide) (by omega) hu
    unfold State.flag at hall ⊢
    rwa [hjudged, hchosen, hmap]
  refine ⟨hdown _ rfl, ?_⟩
  rw [State.tport_congr hports]
  have hset : emptied.tport p = { dupAt := (marked.tport p).dupAt } := (State.setTport_tport _ p _ p).trans (if_pos rfl)
  rw [hset]

/-- An active member that asks for a changeover leaves the port as it is (R412). -/
theorem tetherDown_down {s : State} {p : Nat} (hp : p < 8) (hlost : s.portLost p = true) :
    (tetherDown s p).tUp p = false ∧ ((tetherDown s p).tport p).peer = none := by
  obtain ⟨hup, hpeer⟩ := tetherPortDown_down hp hlost
  unfold tetherDown
  extract_lets ask down
  split
  · have hsame : ∀ (u : State) x e, u.tUp p = false → (u.tport p).peer = none →
        (({ u with pair := x } : State).emit e).tUp p = false ∧ ((({ u with pair := x } : State).emit e).tport p).peer = none :=
      fun u x e hu hport => by
        unfold State.emit
        split
        · exact ⟨hu, hport⟩
        · exact ⟨hu, hport⟩
    exact hsame _ _ _ hup hpeer
  · exact ⟨hup, hpeer⟩

/-! Timelines, plane configurations and path exchanges as they come (R40, R47, R393-R395). -/

/-- A TIMELINE record is kept with the time it came at (R393). -/
theorem timelineReceived_keeps_it {s : State} {p : Nat} (w : Word) (hup : s.tUp p = true) :
    ((timelineReceived s p w).tport p).timeline = w ∧ ((timelineReceived s p w).tport p).timeAt = some s.up := by
  have hmeasured : ∀ (u : State) e f g, (measure u e f g).tether = u.tether := fun u e f g =>
    (measure_keeps (F := ⟨[.ref], [], false⟩) u e f g (by rfl)).same .tether (by decide)
  unfold timelineReceived
  rw [if_neg (by simp [hup])]
  extract_lets x noted chosen sent off changed lost clocked hopped
  have hnoted : chosen.tport p = { s.tport p with timeline := w, timeAt := some s.up } :=
    (State.tport_congr (chooseUpstream_ports noted) p).trans ((State.setTport_tport s p _ p).trans (if_pos rfl))
  have hlost : lost.tether = chosen.tether := by
    unfold lost
    split
    · exact (loseCandidate_faults (F := ⟨timingFields, [0x2120], false⟩) (by rfl) chosen 9 6).same .tether (by decide)
    · rfl
  clear_value lost off
  have hclocked : clocked.tether = lost.tether := by
    have href : ∀ x, Keeps ⟨[.ref, .rx, .tx], [], false⟩ lost { lost with ref := x } := fun _ => .set [.ref] rfl (by rfl)
    unfold clocked
    exact (noteClock_keeps lost (by rfl) (href _)).same .tether (by decide)
  have hhopped : hopped.tether = clocked.tether := by
    unfold hopped
    rw [put_tether]
  have hall : ∀ t : State, t.tether = chosen.tether → (t.tport p).timeline = w ∧ (t.tport p).timeAt = some s.up := fun t ht => by
    rw [State.tport_congr (congrArg TetherSt.ports ht), hnoted]
    exact ⟨rfl, rfl⟩
  split
  · exact hall _ rfl
  · split
    · exact hall _ ((hmeasured _ _ _ _).trans (hhopped.trans (hclocked.trans hlost)))
    · exact hall _ (hhopped.trans (hclocked.trans hlost))

/-- Plane `p` is configured as a record's word `w` says (R40): on or off, and where it is on, with its FORMAT and RATE. -/
def PlaneAs (p : Nat) (w : Word) (t : State) : Prop :=
  t.planeOn p = bit w 31 ∧ (bit w 31 = true → t.planeFormat p = bits w 27 24 ∧ t.planeRateCode p = bits w 23 20)

theorem PlaneAs.of_elem {p : Nat} {w : Word} {s t : State} (h : PlaneAs p w s) (he : t.elem 0x2010 p = s.elem 0x2010 p) : PlaneAs p w t := by
  unfold PlaneAs State.planeOn State.planeFormat State.planeRateCode State.flag State.field at *
  rwa [he]

/-- A word that differs from the record's in fields below RATE or in the two bits under ENABLE configures the plane as it does. -/
theorem PlaneAs.of_word {p : Nat} {w v : Word} {t : State} (he : t.elem 0x2010 p = v) (hon : bit v 31 = bit w 31)
    (hconf : ∀ n, 20 ≤ n → n ≤ 27 → bit v n = bit w n) : PlaneAs p w t := by
  unfold PlaneAs State.planeOn State.planeFormat State.planeRateCode State.flag State.field
  rw [he]
  exact ⟨hon, fun _ => ⟨bits_congr fun n hl hh => hconf n (by omega) (by omega), bits_congr fun n hl hh => hconf n (by omega) (by omega)⟩⟩

theorem PlaneAs.of_put {p : Nat} {w : Word} (s : State) (k : Nat) :
    PlaneAs p w (s.put 0x2010 p (setBits (setBits w 30 29 0) 19 18 k)) := by
  have hword : ∀ n, 20 ≤ n → n < 29 ∨ 30 < n → bit (setBits (setBits w 30 29 0) 19 18 k) n = bit w n := fun n hlow hn => by
    rw [bit_setBits _ (by omega), if_neg (by omega), bit_setBits _ (by omega), if_neg (by omega)]
  exact .of_word (put_elem_same _ _ _ _) (hword 31 (by omega) (by omega)) fun n hl hh => hword n hl (by omega)

theorem PlaneAs.originKind {p : Nat} {w : Word} {s : State} (h : PlaneAs p w s) (k : Nat) : PlaneAs p w (setOriginKind s p k) := by
  have hword : (setOriginKind s p k).elem 0x2010 p = setBits (s.elem 0x2010 p) 19 18 k := put_elem_same _ _ _ _
  unfold PlaneAs State.planeOn State.planeFormat State.planeRateCode State.flag State.field at *
  rw [hword, bit_setBits _ (by decide), if_neg (by decide), bits_setBits_ne (by decide) (by decide), bits_setBits_ne (by decide) (by decide)]
  exact h

theorem inheritConfig_planeAs (s : State) {p : Nat} (c : Nat) (w old : Word) (here : Rat) (hp : p < 4) :
    PlaneAs p w (inheritConfig s p c w old here) := by
  unfold inheritConfig
  extract_lets dropped put frac
  have hput : PlaneAs p w put := .of_put dropped _
  split
  · split
    · next r _ => exact hput.of_elem ((redecide_keeps (F := ⟨stepFields, [0x1001], false⟩) put p r (by rfl)).elem (by decide) (by omega))
    · exact hput
  · have hset : ∀ x, PlaneAs p w (put.setPlane p x) := fun _ => hput.of_elem (setPlane_elem _ _ _ _ _)
    split
    · exact (hset _).originKind _
    · exact ((hset _).of_elem (draw_elem _ _ _)).originKind 0

theorem inheritStep_elem (s : State) {p : Nat} (c k : Nat) (here : Rat) (x : Rat × Rat) (hp : p < 4) :
    (inheritStep s p c k here x).elem 0x2010 p = s.elem 0x2010 p := by
  unfold inheritStep
  split
  · rfl
  · exact (putStep_keeps (F := ⟨stepFields, [0x1001], false⟩) s p _ (by rfl)).elem (by decide) (by omega)

theorem bit_of_bits_eq {v w : Word} {hi lo n : Nat} (h : bits v hi lo = bits w hi lo) (hlow : lo ≤ n) (hhigh : n ≤ hi) : bit v n = bit w n := by
  have htest := congrArg (Nat.testBit · (n - lo)) h
  simp only [testBit_bits, show n - lo < hi + 1 - lo by omega, decide_true, Bool.true_and, Nat.add_sub_cancel' hlow] at htest
  rw [bit_eq_testBit, bit_eq_testBit, htest]

/-- A plane's configuration is inherited (R40). -/
theorem inheritPlane_planeAs (s : State) (link : Nat) {p : Nat} (w : Word) (origin : Rat) (pending : Option (Rat × Rat)) (hp : p < 4) :
    PlaneAs p w (inheritPlane s link p w origin pending) := by
  unfold inheritPlane
  extract_lets c was old ref noted here
  have hoff : bit w 31 = false → PlaneAs p w
      (if bit old 31 = true then (noted.put 0x2010 p (setBits (setBits w 30 29 0) 19 18 0)).setPlane p {} else noted) := fun hw => by
    split
    · exact (PlaneAs.of_put noted 0).of_elem (setPlane_elem _ _ _ _ _)
    · next hold =>
      refine ⟨?_, fun hon => absurd hon (by simp [hw])⟩
      rw [hw]
      exact Bool.eq_false_iff.2 hold
  split
  · next hw => exact hoff (by simpa using hw)
  · split
    · exact inheritConfig_planeAs noted c w old here hp
    · next hw hsame =>
      simp only [Bool.or_eq_true, Bool.not_eq_true', bne_iff_ne, ne_eq, not_or, Bool.not_eq_false, not_not] at hw hsame
      obtain ⟨hold, hconf⟩ := hsame
      have hnoted : PlaneAs p w noted := .of_word (v := old) rfl (hold.trans hw.symm) fun n hl hh => bit_of_bits_eq hconf.symm hl hh
      split
      · split
        · exact hnoted.of_elem (inheritStep_elem _ _ _ _ _ hp)
        · split
          · exact hnoted.of_elem ((decideStep_keeps (F := ⟨stepFields, [0x1001], false⟩) noted p c 0 (by rfl)).elem (by decide) (by omega))
          · exact hnoted
      · exact hnoted

theorem planecfgReceived_planeAs {s : State} {q p : Nat} (w : Word) (origin : Rat) (pending : Option (Rat × Rat)) (hp : p < 4)
    (hup : s.tUp q = true) (hinherits : s.inherits q = true) : PlaneAs p w (planecfgReceived s q p w origin pending) := by
  unfold planecfgReceived
  rw [if_neg (by simp [hup, hinherits]; omega)]
  extract_lets inherited
  have hinherited : PlaneAs p w inherited := inheritPlane_planeAs s q w origin pending hp
  split
  · exact hinherited
  · refine hinherited.of_elem ?_
    exact foldl_keeps (fun u : State => u.elem 0x2010 p) (fun u x => congrArg (mapGet keyReset · _) (u.emit_dict _)) _ inherited

/-! PATH exchanges (R394). -/

theorem pathEcho_measures {s : State} {p : Nat} (t1 t2 t3 t4 : Rat) (hp : p < 8) (hup : s.tUp p = true) :
    (pathEcho s p t1 t2 t3 t4).elem 0xA100 (0x208 + p) =
      ofSigned 32 (((((t4 - t1) - (t3 - t2)) / 2 * 1000 - (toSigned 32 (s.elem 0xA100 (0x400 + p)) : Int)) / 10 + 1 / 2).floor * 10) ∧
    ((pathEcho s p t1 t2 t3 t4).tport p).flight.isSome = true := by
  unfold pathEcho
  rw [if_neg (by simp [hup])]
  extract_lets ps f put
  have hput : put.elem 0xA100 (0x208 + p) = ofSigned 32 f := put_elem_same _ _ _ _
  split
  · refine ⟨?_, ?_⟩
    · rw [State.put_elem_ne (by omega) (by omega) (.inr (by omega)), setTport_elem]
      exact hput
    · have hset : ∀ (u : State) x v, ((u.setTport p x).put 0xA100 (0x200 + p) v).tport p = x := fun u x v =>
        (State.tport_congr (congrArg TetherSt.ports (put_tether _ _ _ _)) p).trans ((u.setTport_tport p x p).trans (if_pos rfl))
      rw [hset]
      rfl
  · next a ha =>
    have hflight : (put.tport p).flight.isSome = true := by rw [ha]; rfl
    split
    · refine ⟨((declareFault_reports _ _ _ _ _ _).elem (by decide) (by omega)).trans hput, ?_⟩
      rw [State.tport_congr (congrArg TetherSt.ports (declareFault_tether _ _ _ _ _ _))]
      exact hflight
    · exact ⟨hput, hflight⟩

theorem bridlePath_measures {s : State} (t1 t2 t3 t4 : Rat) (hup : s.bridleUp = true) :
    ((bridlePath s t1 t2 t3 t4).tport 8).flight.isSome = true := by
  unfold bridlePath
  rw [if_neg (by simp [hup])]
  extract_lets ps f
  split
  · rw [State.setTport_tport, if_pos rfl]
    rfl
  · next a ha =>
    have hflight : (s.tport 8).flight.isSome = true := by rw [ha]; rfl
    split
    · rw [State.tport_congr (congrArg TetherSt.ports (declareFault_tether _ _ _ _ _ _))]
      exact hflight
    · exact hflight

/-! Credits (R404). -/

theorem creditSend_sends {s : State} {p : Nat} (hup : s.tUp p = true) (hmute : s.portMute p = false) (he : s.emitted = []) :
    ((creditSend s p).tport p).freed0 = 0 ∧ ((creditSend s p).tport p).freed1 = 0 ∧ ∃ r, (creditSend s p).emitted = [.tether p r []] := by
  unfold creditSend
  rw [if_pos hup]
  extract_lets x
  have hloud : ∀ r, (s.setTport p { x with freed0 := 0, freed1 := 0 }).silences (.tether p r []) = false := fun _ => hmute
  have hport : ((s.setTport p { x with freed0 := 0, freed1 := 0 }).tport p) = { x with freed0 := 0, freed1 := 0 } :=
    (State.setTport_tport s p _ p).trans (if_pos rfl)
  rw [State.tport_congr (congrArg TetherSt.ports (emit_tether _ _)), hport, emit_unsilenced (hloud _)]
  exact ⟨rfl, rfl, _, congrArg (· ++ _) he⟩

theorem addCredit_one (x : TetherPort) (vc0 vc1 : Nat) : ((x.addCredit 0 vc0).addCredit 1 vc1).credit0 = min 512 (x.credit0 + vc0) ∧
    ((x.addCredit 0 vc0).addCredit 1 vc1).credit1 = min 512 (x.credit1 + vc1) := by
  have hput : ∀ c n : Nat, (max 0 (min 512 ((c : Int) + (n : Int)))).toNat = min 512 (c + n) := fun c n => by omega
  exact ⟨hput x.credit0 vc0, hput x.credit1 vc1⟩

theorem creditReceived_credits {s : State} {p : Nat} (vc0 vc1 : Nat) (hup : s.tUp p = true) (hqueue : s.tether.queue = [])
    (hown : s.tether.own = []) :
    ((creditReceived s p vc0 vc1).tport p).credit0 = min 512 ((s.tport p).credit0 + vc0) ∧
      ((creditReceived s p vc0 vc1).tport p).credit1 = min 512 ((s.tport p).credit1 + vc1) := by
  unfold creditReceived
  rw [if_neg (by simp [hup])]
  extract_lets x dry set flagged q tether drained own tether'
  have hflagged : flagged.tether = set.tether := by
    unfold flagged
    split
    · rfl
    · rw [settlePorts_tether, putFlag_tether]
  have hq : q = [] := (congrArg TetherSt.queue hflagged).trans hqueue
  have hdrained : drained.tether.ports = flagged.tether.ports ∧ drained.tether.own = flagged.tether.own := by
    unfold drained
    rw [hq]
    exact ⟨rfl, rfl⟩
  obtain ⟨hdports, hdown⟩ := hdrained
  have hown' : own = [] := by
    unfold own
    rw [hdown, hflagged]
    exact congrArg (List.filter _) hown
  rw [hown']
  have hall : ∀ u : State, u.tether.ports = drained.tether.ports →
      (u.tport p).credit0 = min 512 ((s.tport p).credit0 + vc0) ∧ (u.tport p).credit1 = min 512 ((s.tport p).credit1 + vc1) := fun u hu => by
    have hport : u.tport p = { x with dryAt := if dry then x.dryAt else none } :=
      (State.tport_congr (hu.trans (hdports.trans (congrArg TetherSt.ports hflagged))) p).trans ((State.setTport_tport s p _ p).trans (if_pos rfl))
    rw [hport]
    exact addCredit_one (s.tport p) vc0 vc1
  exact hall _ rfl

theorem creditStall_declares {s : State} {p : Nat} {a : Rat} (hp : p < 8) (hup : s.tUp p = true) (hdry : (s.tport p).dryAt = some a)
    (hlate : a + 100000 ≤ s.up) (hflag : s.flag 0xA100 (0x100 + p) 28 = false) :
    (creditStall s p).flag 0xA100 (0x100 + p) 28 = true ∧ ((creditStall s p).source 0x123).count = satAdd 24 (s.source 0x123).count 1 := by
  unfold creditStall
  rw [if_pos (by simp [hup, hdry, hlate, hflag])]
  have hflag := putFlag_flag s 0xA100 (0x100 + p) 28 true
  have hcount := (declareFault_declares (s.putFlag 0xA100 (0x100 + p) 28 true) 0x123 p true false 0).count
  rw [putFlag_source] at hcount
  refine ⟨?_, hcount⟩
  unfold State.flag at hflag ⊢
  rw [(declareFault_reports _ _ _ _ _ _).elem (by decide) (by omega)]
  exact hflag

/-- Settles O23: what is sent comes out of every port that is not mute; what is kept of a HELLO, a timeline or an exchange stays
through what follows from it; paths that break or become whole leave the ports and their status alone. -/
theorem tetherLinksRun : Obligations.TetherLinksRun := by
  unfold Obligations.TetherLinksRun
  refine ⟨?_, ?_, ?_, ?_, ?_, ?_, ?_, ?_, ?_, ?_, ?_, ?_, ?_⟩
  · exact fun s p hp hrun hmute hon => helloSend_sends hp hrun hmute hon
  · intro s p h hp hrun hhears hready hnode
    refine onPort_does (f := fun s => helloReceived s p h) rfl hp hrun hhears ?_
    exact ⟨_, helloReceived_keeps_it (s := s.fresh) hready hnode, rfl, rfl, rfl⟩
  · intro s p hp hrun hdown hready hpeer hside
    exact onUnit_does (f := fun s => tetherPortUp s p) rfl hp hrun (tetherPortUp_up (s := s.fresh) hp hdown hready hpeer hside)
  · intro s p hp hrun hlost
    refine onUnit_does (f := fun s => tetherDown s p) rfl hp hrun ?_
    exact tetherDown_down (s := s.fresh) hp hlost
  · exact fun s p hp hrun hmute hcascade hup => timelineSend_sends hp hrun hmute hcascade hup
  · intro s p w hp hrun hhears hup
    exact onPort_does (f := fun s => timelineReceived s p w) rfl hp hrun hhears (timelineReceived_keeps_it (s := s.fresh) w hup)
  · intro s hrun
    refine actRunning_does (f := planecfgSend) rfl hrun ⟨planecfgSend_turns s.fresh, fun q hq hup hmaster hmute => ?_⟩
    exact planecfgSend_sends (s := s.fresh) hq hup hmaster hmute
  · intro s q p w origin pending hq hp hrun hhears hup hinherits
    have hhears' : s.fresh.portHears q = true := hhears
    refine onUnit_does (f := fun s => if s.portHears q then planecfgReceived s q p w origin pending else s) rfl (by omega) hrun ?_
    rw [if_pos hhears']
    exact planecfgReceived_planeAs (s := s.fresh) w origin pending hp hup hinherits
  · intro s p t1 t2 t3 t4 hp hrun hup
    refine onUnit_does (f := fun s => if p = 8 then bridlePath s t1 t2 t3 t4 else pathEcho s p t1 t2 t3 t4) rfl (by omega) hrun ?_
    rw [if_neg (by omega)]
    exact pathEcho_measures (s := s.fresh) t1 t2 t3 t4 hp hup
  · intro s t1 t2 t3 t4 hrun hup
    refine onUnit_does (n := 8) (l := 9) (f := fun s => if 8 = 8 then bridlePath s t1 t2 t3 t4 else pathEcho s 8 t1 t2 t3 t4)
      rfl (by decide) hrun ?_
    rw [if_pos rfl]
    exact bridlePath_measures (s := s.fresh) t1 t2 t3 t4 hup
  · intro s p hp hrun hmute hup
    exact onUnit_does (f := fun s => creditSend s p) rfl hp hrun (creditSend_sends (s := s.fresh) hup hmute rfl)
  · intro s p vc0 vc1 hp hrun hhears hup hqueue hown
    exact onPort_does (f := fun s => creditReceived s p vc0 vc1) rfl hp hrun hhears
      (creditReceived_credits (s := s.fresh) vc0 vc1 hup hqueue hown)
  · intro s p a hp hrun hup hdry hlate hflag
    exact onUnit_does (f := fun s => creditStall s p) rfl hp hrun (creditStall_declares (s := s.fresh) hp hup hdry hlate hflag)

end Sys2Proof.Machine
end

section
/-! PROOFS. Tunnelled requests and cascade records (R391, R405, R408, R411). -/

namespace Sys2Proof.Machine

/-! Tunnelled requests (R405). -/

theorem unbuffer_same (s : State) (rq : Rq) (op i j : Nat) (b : List Byte) : ∃ r, unbuffer s rq op i j b = { s with req := r } := by
  unfold unbuffer
  split <;> exact ⟨_, rfl⟩

theorem sendFragments_tether (s : State) (target source : Nat) (frame : List Byte) :
    (sendFragments s target source frame).tether = s.tether := by
  unfold sendFragments
  split
  · rfl
  · exact foldl_keeps (fun u : State => u.tether) (fun u i => emit_tether _ _) _ s

theorem sendReply_tether (s : State) (rq : Rq) (i j st : Nat) (d : List Byte) : (sendReply s rq i j st d).tether = s.tether :=
  (sendReply_keeps (F := ⟨answerFields, [0x1001], false⟩) s rq i j st d (by rfl)).same .tether (by rfl)

theorem tunnelRequest_waits {s : State} {rq : Rq} (op i j : Nat) (b : List Byte) (htake : s.takesUp rq = true)
    (hadmit : admitted rq.port rq.origin = true) (hother : rq.node ≠ s.elem 0x1000 0) (hnode : rq.node ≤ 255)
    (hmapped : s.elem 0xA020 rq.node ≠ 0xFFFF) (haway : s.elem 0xA020 rq.node ≠ s.nodeId)
    (hpath : (s.portToward (s.elem 0xA020 rq.node)).isSome = true) :
    { rq := rq, node := s.elem 0xA020 rq.node, index := i, sub := j, at_ := s.up } ∈ (tunnelRequest s rq op i j b).tether.tunnels := by
  obtain ⟨r, hr⟩ := unbuffer_same s rq op i j b
  have haway' : ¬ (s.elem 0xA020 rq.node = State.nodeId { s with req := r } ∨
      (State.portToward { s with req := r } (s.elem 0xA020 rq.node)).isNone = true) := by
    rintro (h | h)
    · exact haway h
    · have hnone : (s.portToward (s.elem 0xA020 rq.node)).isNone = true := h
      simp [Option.isNone_iff_eq_none.1 hnone] at hpath
  have hup : (countPort { s with req := r } rq.port 0xA).up = s.up := by cases rq.port <;> rfl
  unfold tunnelRequest
  simp only [htake, hadmit, hr, if_neg haway', Bool.not_true, Bool.false_or, Bool.false_eq_true, if_false]
  rw [if_neg (by simp [hother, hmapped, hnode]), sendReply_tether, sendFragments_tether]
  refine List.mem_append_right _ (List.mem_singleton.2 ?_)
  rw [hup]

theorem tunnelFragment_forwards {s : State} {p q target : Nat} (source number : Nat) (last : Bool) (data : List Byte)
    (hup : s.tUp p = true) (haway : target ≠ s.nodeId) (hpath : s.portToward target = some q) (hmute : s.portMute q = false)
    (hnone : s.emitted = []) : ∃ r, (tunnelFragment s p target source number last data).emitted = [.tether q r []] := by
  unfold tunnelFragment
  rw [if_neg (by simp [hup]), if_pos haway]
  simp only [hpath]
  refine ⟨_, (emit_unsilenced ?_).trans (congrArg (· ++ _) hnone)⟩
  exact hmute

theorem tunnelFragment_collects {s : State} {p : Nat} (source number : Nat) (data : List Byte) (hup : s.tUp p = true) :
    mapGet bytesD (tunnelFragment s p s.nodeId source number false data).tether.parts source =
      (if number = 0 then [] else mapGet bytesD s.tether.parts source) ++ data := by
  unfold tunnelFragment
  rw [if_neg (by simp [hup]), if_neg (by simp)]
  exact (mapGet_mapSet _ _ _ _ _).trans (if_pos rfl)

theorem tunnelTimeout_drops {s : State} {x : Tunnel}
    (hfind : s.tether.tunnels.find? (fun t => decide (t.at_ + 1000000 ≤ s.up)) = some x) : x ∉ (tunnelTimeout s).tether.tunnels := by
  have htether : ∀ u, (notify (countPort u x.rq.port 0xB) x.rq x.index x.sub stMode []).tether = u.tether := fun u =>
    ((countPort_keeps (F := ⟨answerFields, [0x1001], false⟩) u _ _ (by decide) (by rfl)).trans (notify_keeps _ _ _ _ _ _ (by rfl))).same
      .tether (by rfl)
  unfold tunnelTimeout
  simp only [hfind]
  rw [htether]
  simp

/-! Cascade takes and aborts (R408, R409). -/

theorem floodCascade_floods (s : State) (m : CascadeMsg) (e : Option Nat) : m ∈ (floodCascade s m e).tether.flooded := by
  unfold floodCascade
  extract_lets tether flooded
  have h : ∀ l, (List.foldl (fun (u : State) q => u.emit (.cascade q m)) flooded l).tether = flooded.tether := fun l =>
    foldl_keeps (fun u : State => u.tether) (fun u q => emit_tether _ _) l flooded
  rw [h]
  exact List.mem_cons_self

theorem State.bank_congr {s t : State} (h : t.banks = s.banks) (b : Nat) : t.bank b = s.bank b := congrArg (fun l => mapGet _ l b) h

/-- A reseed done and the bank armed, as a cascade take does. -/
theorem armBank_bank (s : State) (i b : Nat) :
    ((reseedDone s i).setBank i { (reseedDone s i).bank i with armed := true }).bank b =
      if b = i then { (reseedDone s i).bank i with armed := true } else s.bank b := by
  rw [State.setBank_bank]
  split
  · rfl
  · unfold reseedDone
    split
    · rw [State.setBank_bank, if_neg (by assumption)]
    · rfl

theorem armCascade_arms {s : State} (tp plane : Nat) {scope b : Nat} (next force : Bool) (rq : Option Rq) (hb : b < 5)
    (hscope : bit scope b = true) (hbound : bit s.bound b = true) : ((armCascade s tp plane scope next force rq).bank b).armed = true := by
  have hbit : bit (scope &&& s.bound) b = true := by
    rw [bit_eq_testBit] at hscope hbound ⊢
    rw [Nat.testBit_and, hscope, hbound]
    rfl
  have hq : ∀ u e, ((queueEvent u e).bank b) = u.bank b := fun u e =>
    State.bank_congr ((queueEvent_keeps (F := ⟨[.events, .order, .dict], [0x2200], false⟩) u e (by rfl)).same .banks (by rfl)) b
  unfold armCascade
  extract_lets both armed
  have hboth : both ≠ 0 := fun h => by
    rw [show scope &&& s.bound = 0 from h] at hbit
    simp [bit] at hbit
  rw [if_neg hboth, hq]
  refine foldl_establishes (P := fun u => (u.bank b).armed = true) (a := b) (List.mem_range.2 hb) ?_ ?_ s
  · intro u
    rw [if_pos (show bit both b = true from hbit), armBank_bank, if_pos rfl]
  · intro x _ u hu
    split
    · rw [armBank_bank]
      split
      · rfl
      · exact hu
    · exact hu

theorem cascadeTake_arms {s : State} {p : Nat} {tp : Word} {plane scope origin session seq : Nat} {force : Bool} (hup : s.tUp p = true)
    (hon : s.cascadeOn = true) (hnew : s.tether.flooded.contains (.take tp plane scope force origin session seq) = false) :
    (∀ b, b < 5 → bit scope b = true → bit s.bound b = true →
      ((cascadeReceived s p (.take tp plane scope force origin session seq)).bank b).armed = true) ∧
    .take tp plane scope force origin session seq ∈ (cascadeReceived s p (.take tp plane scope force origin session seq)).tether.flooded := by
  unfold cascadeReceived
  rw [if_neg (by rw [hnew, hup, hon]; decide)]
  generalize hu : floodCascade s (.take tp plane scope force origin session seq) (some p) = u
  have hbound : u.bound = s.bound := hu ▸ congrArg (fun d => bits (mapGet keyReset d (ekey 0xA010 0)) 27 23)
    ((floodCascade_keeps (F := ⟨[.tether, .emitted], [], false⟩) s _ _ (by rfl)).same .dict (by rfl))
  have hfloods : .take tp plane scope force origin session seq ∈ u.tether.flooded := hu ▸ floodCascade_floods _ _ _
  dsimp only
  refine ⟨fun b hb hscope hb' => ?_, ?_⟩
  · rw [State.bank_congr ((logEvent_keeps (F := ⟨[.log], [], false⟩) _ _ _ _ _ _ _ _ (by rfl)).same .banks (by rfl))]
    exact armCascade_arms tp plane false force _ hb hscope (by rwa [hbound])
  · rw [show (logEvent _ _ _ _ _ _ _ _).tether = _ from (logEvent_keeps (F := ⟨[.log], [], false⟩) _ _ _ _ _ _ _ _ (by rfl)).same .tether (by rfl),
      (armCascade_keeps (F := ⟨[.events, .order, .banks, .dict], [0x2200], false⟩) _ _ _ _ _ _ _ (by rfl)).same .tether (by rfl)]
    exact hfloods

theorem cancelTake_events (s : State) (e : Event) : (cancelTake s e).events = s.events.filter fun x => x.order != e.order := by
  unfold cancelTake
  extract_lets dropped
  have hlog : (logEvent (dropped.count 0x1101 3) 0x1100 1 (logValue 8 e.tp) 0 e.plane).events = dropped.events :=
    (logEvent_keeps (F := ⟨[.log], [], false⟩) _ _ _ _ _ _ _ _ (by rfl)).same .events (by rfl)
  exact hlog.trans ((disarm_keeps (F := ⟨[.banks], [], false⟩) _ e.scope (by rfl)).same .events (by rfl))

theorem mem_cancelTakes {l : List Event} {s : State} {e : Event} (h : e ∈ (l.foldl cancelTake s).events) :
    e ∈ s.events ∧ ∀ x ∈ l, e.order ≠ x.order := by
  induction l generalizing s with
  | nil => exact ⟨h, fun x hx => nomatch hx⟩
  | cons a l ih =>
    obtain ⟨hmem, hrest⟩ := ih h
    rw [cancelTake_events, List.mem_filter] at hmem
    exact ⟨hmem.1, List.forall_mem_cons.2 ⟨by simpa using hmem.2, hrest⟩⟩

theorem cascadeAbort_cancels {s : State} {p scope origin session seq : Nat} (hup : s.tUp p = true) (hon : s.cascadeOn = true)
    (hnew : s.tether.flooded.contains (.abort scope origin session seq) = false) {e : Event}
    (he : e ∈ (cascadeReceived s p (.abort scope origin session seq)).events) (hkind : e.kind = 1) (hwaits : e.fired = false)
    (hcascade : e.cascade = true) : e.scope &&& scope = 0 := by
  unfold cascadeReceived at he
  rw [if_neg (by rw [hnew, hup, hon]; decide)] at he
  obtain ⟨hmem, hnot⟩ := mem_cancelTakes he
  by_contra hscope
  exact hnot e (List.mem_filter.2 ⟨hmem, by simp [hkind, hwaits, hcascade, hscope]⟩) rfl

/-! CHANGEOVER records (R411). -/

theorem handOver_claims {s : State} (cause : Nat) (except : Option Nat) (hmode : s.mode = .standby) (hrip : s.pair.ripIn = false)
    (hclaim : s.pair.claimOut = false) : (handOver s cause except).pair.claimOut = true ∧ (handOver s cause except).pair.handover.isSome = true := by
  unfold handOver
  rw [if_neg (by simp [hmode, hrip, hclaim])]
  extract_lets at_ claimed
  obtain ⟨tp, hpair⟩ := claimChange_pair s cause fun p => { p with claimOut := true, handover := some (at_, cause) }
  have hflood : (floodChangeover claimed except).pair = claimed.pair :=
    foldl_keeps (fun u : State => u.pair) (fun u q => (emit_keeps (F := ⟨[.emitted], [], false⟩) u _ (by rfl)).same .pair (by rfl)) _ _
  split
  · rw [hflood, hpair]
    exact ⟨rfl, rfl⟩
  · rw [hpair]
    exact ⟨rfl, rfl⟩

/-- Settles O25: each command's own state operation, past what only answers, sends or logs. -/
theorem tunnelAndCascade : Obligations.TunnelAndCascade := by
  unfold Obligations.TunnelAndCascade
  refine ⟨?_, ?_, ?_, ?_, ?_, ?_, ?_⟩
  · intro s rq op idx sub payload htake hadmit hother hnode hmapped haway hpath
    refine act_does (f := fun s => tunnelRequest s rq op idx sub payload) rfl ?_
    exact ⟨_, tunnelRequest_waits (s := s.fresh) op idx sub payload htake hadmit hother hnode hmapped haway hpath, rfl, rfl, rfl, rfl, rfl⟩
  · intro s p q target source number last data hp hrun hmute hhears hup haway hpath
    exact onPort_does (f := fun s => tunnelFragment s p target source number last data) rfl hp hrun hhears
      (tunnelFragment_forwards (s := s.fresh) source number last data hup haway hpath hmute rfl)
  · intro s p source number data hp hrun hhears hup
    exact onPort_does (f := fun s' => tunnelFragment s' p s.nodeId source number false data) rfl hp hrun hhears
      (tunnelFragment_collects (s := s.fresh) source number data hup)
  · intro s x hrun hfind
    exact actRunning_does (f := tunnelTimeout) rfl hrun (tunnelTimeout_drops (s := s.fresh) hfind)
  · intro s p plane scope origin session seq tp force hp hrun hhears hup hon hnew
    exact onPort_does (f := fun s => cascadeReceived s p (.take tp plane scope force origin session seq)) rfl hp hrun hhears
      (cascadeTake_arms (s := s.fresh) hup hon hnew)
  · intro s p scope origin session seq hp hrun hhears hup hon hnew
    exact onPort_does (f := fun s => cascadeReceived s p (.abort scope origin session seq)) rfl hp hrun hhears
      (fun e he => cascadeAbort_cancels (s := s.fresh) hup hon hnew he)
  · intro s p hp hrun hhears hup hflag hmode hrip hclaim
    refine onPort_does (f := fun s => changeoverReceived s p) rfl hp hrun hhears ?_
    have hflag' : s.fresh.flag 0xA010 0 22 = true := hflag
    have hup' : s.fresh.tUp p = true := hup
    have hmode' : s.fresh.mode = .standby := hmode
    unfold changeoverReceived
    rw [if_neg (by simp [hup', hflag']), if_pos hmode']
    exact handOver_claims (s := s.fresh) 6 (some p) hmode hrip hclaim

end Sys2Proof.Machine
end

section
/-! SUPPORT. What is sent stays sent: declarations, and lines on their way to cell memory and to their readers, send more and take
nothing back. -/

namespace Sys2Proof.Machine

theorem Keeps.emits {F : Foot} {s t : State} (h : Keeps F s t) (hF : F.fields.contains .emitted = false) : Emits s t :=
  .of_eq (h.same .emitted hF)

/-- What is sent after a step that sends nothing. -/
theorem Emits.after {s t u : State} (h : Emits t u) (he : t.emitted = s.emitted) : Emits s u := (Emits.of_eq he).trans h

/-! Declarations (R518, R554). -/

theorem logEvent_emits (s : State) (i j : Nat) (o n : Word) (p : Nat) (b : Bool) (st : Nat) : Emits s (logEvent s i j o n p b st) :=
  (logEvent_keeps (F := ⟨[.log], [], false⟩) s i j o n p b st (by rfl)).emits (by rfl)

theorem notify_emits (s : State) (rq : Rq) (i j st : Nat) (d : List Byte) : Emits s (notify s rq i j st d) := by
  have hset : ∀ (v : State) x, Emits s v → Emits s { v with req := x } := fun _ _ h => h
  unfold notify
  dsimp only
  split
  · exact .refl s
  · exact hset _ _ (sendFrame_emits _ _ _)

theorem finishWaiting_emits (s : State) (i j st : Nat) (d : List Byte) : Emits s (finishWaiting s i j st d) := by
  unfold finishWaiting
  split
  · exact .after (notify_emits _ _ _ _ _ _) rfl
  · exact .refl s

theorem discardEvent_emits (s : State) (e : Event) (st : Nat) : Emits s (discardEvent s e st) := by
  have hend : ∀ (u v : State) i j, Emits s u → v = u → Emits s
      (match e.rq with
        | some rq => if e.kind = 1 ∨ (e.kind = 2 ∧ st = stFaulted) then notify v rq i j st [] else v
        | none => v) := by
    intro u v i j hu hv
    subst hv
    split
    · exact .ite (hu.trans (notify_emits _ _ _ _ _ _)) hu
    · exact hu
  have hdisarm : ∀ u scope, Emits u (disarm u scope) := fun u scope =>
    (disarm_keeps (F := ⟨[.banks], [], false⟩) u scope (by rfl)).emits (by rfl)
  have hset : ∀ (v : State) x, Emits s v → Emits s { v with pair := x } := fun _ _ h => h
  unfold discardEvent
  extract_lets dropped disarmed pair drilled
  have hdisarmed : Emits s disarmed := .ite (.after (hdisarm dropped e.scope) rfl) (.of_eq rfl)
  have hdrilled : Emits s drilled := .ite (hset _ _ hdisarmed) hdisarmed
  exact hend _ _ _ _ (hdrilled.trans (logEvent_emits _ _ _ _ _ _ _ _)) rfl

theorem endStaging_emits (s : State) (r : Nat) (st : Option Nat) : Emits s (endStaging s r st) := by
  unfold endStaging
  dsimp only
  split
  · split
    · exact .after (finishWaiting_emits _ _ _ _ _) rfl
    · exact .of_eq rfl
  · exact .refl s

theorem failWindow_emits (st : Nat) (s : State) (w : Nat) : Emits s (failWindow st s w) :=
  .ite (.after (finishWaiting_emits _ _ _ _ _) rfl) (.refl s)

theorem dropClaim_emitted (s : State) : (dropClaim s).emitted = s.emitted := rfl
theorem failSpools_emitted (s : State) : (failSpools s).emitted = s.emitted := rfl

theorem enterFaulted_emits (s : State) (n : Nat) (d : Word) : Emits s (enterFaulted s n d) := by
  have hmode : ∀ u, Emits u (setMode u .faulted) := fun u => (setMode_keeps (F := ⟨[.mode, .log], [], false⟩) u _ (by rfl)).emits (by rfl)
  have hmoves : ∀ u, Emits u (cancelMoves u) := fun u =>
    (cancelMoves_keeps (F := ⟨[.moves, .dict, .ins, .cells, .log], [], false⟩) u (by rfl)).emits (by rfl)
  have htransfers : ∀ u, Emits u (abandonTransfers u stFaulted) := fun u => .after (.foldl (fun _ _ => notify_emits _ _ _ _ _ _) _ _) rfl
  have hentered : ∀ u : State, u.emitted = s.emitted → Emits s (failSpools (endStaging ((List.range 16).foldl (failWindow stFaulted)
      (abandonTransfers (cancelMoves (discardEvents (dropClaim (setMode u .faulted)) (fun _ => true) stFaulted)) stFaulted)) 7
        (some stFaulted))) := fun u hu =>
    (Emits.of_eq hu).trans <| (hmode u).trans <| .after ((Emits.foldl (fun _ _ => discardEvent_emits _ _ _) _ _).trans <|
      (hmoves _).trans <| (htransfers _).trans <| (Emits.foldl (failWindow_emits _) _ _).trans <|
        (endStaging_emits _ _ _).trans (.of_eq (failSpools_emitted _))) (dropClaim_emitted _)
  unfold enterFaulted
  exact .ite (.of_eq rfl) (hentered _ rfl)

theorem noteFault_emits (s : State) (n : Nat) (d : Word) (l f : Bool) (p : Nat) : Emits s (noteFault s n d l f p) := by
  unfold noteFault
  extract_lets d f cls old count logIt histIt f' h sourced logged faults faulted pair noted
  have hlogged : Emits s logged := .ite (.after (logEvent_emits _ _ _ _ _ _ _ _) rfl) (.of_eq rfl)
  have hnoted : Emits s noted := hlogged.trans (.of_eq rfl)
  exact .ite (hnoted.trans (emit_emits _ _)) hnoted

theorem declareFault_emits (s : State) (n : Nat) (d : Word) (l f : Bool) (p : Nat) : Emits s (declareFault s n d l f p) :=
  .ite ((noteFault_emits _ _ _ _ _ _).trans (enterFaulted_emits _ _ _)) (noteFault_emits _ _ _ _ _ _)

/-! Lines and runs (R200-R205, R396, R404, R434). -/

theorem addDigest_emits (s : State) (u l n p e : Nat) (b : List Byte) : Emits s (addDigest s u l n p e b) :=
  .ite (.refl s) (.ite (.after (emit_emits _ _) rfl) (.of_eq rfl))

theorem sendOwn_emits (s : State) (c : OwnCells) : Emits s (sendOwn s c) := .ite (.of_eq rfl) (.after (emit_emits _ _) rfl)

theorem sendLineOf_emits (s : State) (n : Nat) (m : Int) (l : Nat) (sub : Bool) (x : Nat) (b : List Nat) :
    Emits s (sendLineOf s n m l sub x b) :=
  .foldl (fun u _ => .foldl (fun u _ => .ite (.trans (.ite (emit_emits u _) (.refl u)) (sendOwn_emits _ _)) (.refl u)) _ u) _ s

theorem sendAncOf_emits (s : State) (n : Nat) (m : Int) (f : Nat) (l : List AncPkt) : Emits s (sendAncOf s n m f l) :=
  .ite (.refl s) (.foldl (fun u _ => .foldl (fun u _ => .ite (sendOwn_emits u _) (.refl u)) _ u) _ s)

theorem noteCells_emits (s : State) : Emits s (noteCells s) := .ite (.of_eq rfl) (.refl s)

theorem countFlag_emitted (s : State) (i j k l n : Nat) (b : Bool) : ((s.count i j).putFlag k l n b).emitted = s.emitted := rfl

theorem noteOverflow_emits (s : State) (n : Nat) : Emits s (noteOverflow s n) := by
  unfold noteOverflow
  extract_lets flagged x due kept
  have hflagged : Emits s kept := .of_eq ((State.setIn_emitted _ _ _).trans (countFlag_emitted _ _ _ _ _ _ _))
  clear_value kept
  exact .ite (.refl s) (.ite (hflagged.trans (declareFault_emits _ _ _ _ _ _)) hflagged)

theorem feedLine_emits (s : State) (n : Nat) (x : CellLine) : Emits s (feedLine s n x) := by
  have hcapture : Emits s (captureLine s n x.frame x.line x.picture x.subst) :=
    (captureLine_keeps (F := ⟨[.winBytes, .windows], [], false⟩) _ _ _ _ _ _ (by rfl)).emits (by rfl)
  exact .ite (.ite (declareFault_emits _ _ _ _ _ _) (.refl s)) (.ite (hcapture.trans (.of_eq rfl)) hcapture)

theorem writeCells_emits (s : State) (n : Nat) (x : CellLine) : Emits s (writeCells s n x) := by
  unfold writeCells
  extract_lets released sealed_ f
  have hreleased : Emits s released := .of_eq rfl
  refine hreleased.trans ?_
  split
  · exact .refl _
  · rename_i fed c sent last t htime
    have hsent : Emits fed sent := .ite (sendLineOf_emits _ _ _ _ _ _ _) (.ite (declareFault_emits _ _ _ _ _ _) (.refl _))
    exact .ite (noteOverflow_emits _ _) <| (feedLine_emits _ _ _).trans <| hsent.trans <| .after (noteCells_emits _) rfl

theorem writeAnc_emits (s : State) (n : Nat) (m : Int) (f : Nat) (l : List AncPkt) : Emits s (writeAnc s n m f l) := by
  unfold writeAnc
  extract_lets room old fit counted sent c
  have hcounted : Emits s counted := .ite (.of_eq rfl) (.refl s)
  exact hcounted.trans <| (sendAncOf_emits _ _ _ _ _).trans <| .after (noteCells_emits _) rfl

theorem takeCell_emits (c : LinkCell) (s : State) (j : Nat) : Emits s (takeCell c s j) := by
  have hline : ∀ y, Emits s (digestLine s j y) := fun y => .ite (.refl s) (addDigest_emits _ _ _ _ _ _ _)
  unfold takeCell
  extract_lets f x key mine o spans count whole rest first x' bytes kept pkts
  have hrun : ∀ m g l, Emits kept (digestRun kept j m g l) := fun m g l => .ite (.refl _) (addDigest_emits _ _ _ _ _ _ _)
  have hline : ∀ z, Emits kept (digestLine kept j z) := fun z => .ite (.refl _) (addDigest_emits _ _ _ _ _ _ _)
  have hkept : Emits s kept := .of_eq rfl
  refine .ite (.refl s) (.ite (hkept.trans (.ite ?_ ?_)) (.of_eq rfl))
  · exact (hrun _ _ _).trans (writeAnc_emits _ _ _ _ _)
  · exact (hline _).trans (writeCells_emits _ _ _)

theorem launchCell_emits (s : State) (q : Nat) (c : LinkCell) : Emits s (launchCell s q c) := .after (emit_emits _ _) rfl

end Sys2Proof.Machine
end

section
/-! SUPPORT. The search of the cascade map reads no counter of a port and no status of a route (R390, R400). -/

namespace Sys2Proof.Machine

/-- `t` has the tether of `s`, and every element of `s` but the counters of the Dumus ports and the statuses of the routes. -/
structure SameCascade (s t : State) : Prop where
  tether : t.tether = s.tether
  elem : ∀ i j, i ≠ 0x1001 → i ≠ 0xA200 → j < 65536 → t.elem i j = s.elem i j

theorem Answers.sameCascade {s t : State} (h : Answers s t) : SameCascade s t :=
  ⟨by rw [h.rest], fun i j hi _ hj => h.elem i j hi hj⟩

theorem SameCascade.setRemote {s t : State} (h : SameCascade s t) (j : Nat) (x : Remote) : SameCascade s (t.setRemote j x) :=
  ⟨h.tether, h.elem⟩

theorem SameCascade.putRoute {s t : State} (h : SameCascade s t) {j : Nat} (v : Word) (hj : j < 65536) : SameCascade s (t.put 0xA200 j v) :=
  ⟨h.tether, fun i k hi hi' hk => (State.put_elem_ne hk hj (.inl hi') t v).trans (h.elem i k hi hi' hk)⟩

theorem SameCascade.nodeId {s t : State} (h : SameCascade s t) : t.nodeId = s.nodeId := h.elem _ _ (by decide) (by decide) (by decide)

theorem SameCascade.upPorts {s t : State} (h : SameCascade s t) : t.upPorts = s.upPorts := by
  refine List.filter_congr fun p hp => ?_
  have hlt := List.mem_range.1 hp
  exact congrArg (bit · 31) (h.elem 0xA100 (0x100 + p) (by decide) (by decide) (by omega))

theorem SameCascade.tport {s t : State} (h : SameCascade s t) (p : Nat) : t.tport p = s.tport p :=
  congrArg (fun x : TetherSt => mapGet tportD x.ports p) h.tether

theorem SameCascade.ownLinks {s t : State} (h : SameCascade s t) : t.ownLinks = s.ownLinks := by
  unfold State.ownLinks
  rw [h.upPorts]
  simp only [h.tport]

theorem SameCascade.peersOf {s t : State} (h : SameCascade s t) : t.peersOf = s.peersOf := by
  funext a
  unfold State.peersOf
  rw [h.nodeId, h.ownLinks, h.tether]

theorem SameCascade.hops {s t : State} (h : SameCascade s t) (a b : Nat) : t.hops a b = s.hops a b := by
  unfold State.hops
  rw [h.peersOf, h.tether]

theorem SameCascade.arriving {s t : State} (h : SameCascade s t) (p : Nat) : t.arriving p = s.arriving p := by
  unfold State.arriving
  rw [h.tether]

theorem SameCascade.dupNode {s t : State} (h : SameCascade s t) : t.dupNode = s.dupNode := by
  unfold State.dupNode
  rw [h.tether]

theorem bits_lt (v : Word) {hi lo : Nat} : bits v hi lo < 2 ^ (hi + 1 - lo) := Nat.mod_lt _ (Nat.two_pow_pos _)

theorem SameCascade.portCapacity {s t : State} (h : SameCascade s t) {p : Nat} (hp : p < 8) : t.portCapacity p = s.portCapacity p := by
  have hport : t.elem 0xA100 p = s.elem 0xA100 p := h.elem _ _ (by decide) (by decide) (by omega)
  have hfirst : bits (s.elem 0xA100 p) 27 20 < 256 := bits_lt _
  have hrate : t.elem 0x3100 (0x100 + bits (s.elem 0xA100 p) 27 20) = s.elem 0x3100 (0x100 + bits (s.elem 0xA100 p) 27 20) :=
    h.elem _ _ (by decide) (by decide) (by omega)
  unfold State.portCapacity State.portOn State.portLanes State.portFirst State.txWord State.flag State.field
  rw [hport, hrate]

theorem SameCascade.arriveOver {s t : State} (h : SameCascade s t) {p : Nat} (hp : p < 8) (r : Rat) : t.arriveOver p r = s.arriveOver p r := by
  unfold State.arriveOver
  rw [h.portCapacity hp, h.arriving]

/-- Two choices that agree where `P` holds agree on a list of such elements. -/
theorem foldl_eq_of {α : Type} {P : α → Prop} {f g : α → α → α} (hfg : ∀ a b, P a → P b → f a b = g a b)
    (hP : ∀ a b, P a → P b → P (g a b)) {l : List α} (hl : ∀ a ∈ l, P a) {a : α} (ha : P a) :
    l.foldl f a = l.foldl g a ∧ P (l.foldl g a) := by
  induction l generalizing a with
  | nil => exact ⟨rfl, ha⟩
  | cons b l ih =>
    obtain ⟨hb, hrest⟩ := List.forall_mem_cons.1 hl
    rw [List.foldl_cons, List.foldl_cons, hfg a b ha hb]
    exact ih hrest (hP a b ha hb)

theorem ownLinks_lt {s : State} {e : Nat × Nat} (h : e ∈ s.ownLinks) : e.1 < 8 := by
  obtain ⟨p, hp, he⟩ := List.mem_filterMap.1 h
  obtain ⟨x, -, rfl⟩ := Option.map_eq_some_iff.1 he
  exact List.mem_range.1 (List.mem_filter.1 hp).1

/-- The freer of two ports (R390). -/
def State.freer (s : State) (b q : Nat) : Nat := if s.portCapacity b - s.arriving b < s.portCapacity q - s.arriving q then q else b

theorem SameCascade.freest {s t : State} (h : SameCascade s t) {l : List Nat} (hl : ∀ q ∈ l, q < 8) {p : Nat} (hp : p < 8) :
    l.foldl t.freer p = l.foldl s.freer p ∧ l.foldl s.freer p < 8 := by
  refine foldl_eq_of (P := (· < 8)) (fun a b ha hb => ?_) (fun a b ha hb => ?_) hl hp
  · unfold State.freer
    rw [h.portCapacity ha, h.portCapacity hb, h.arriving, h.arriving]
  · unfold State.freer
    split <;> assumption

/-- The port toward a node is one of the eight, and the same in both states. -/
theorem SameCascade.portToward {s t : State} (h : SameCascade s t) (n : Nat) :
    t.portToward n = s.portToward n ∧ ∀ q, s.portToward n = some q → q < 8 := by
  unfold State.portToward
  rw [h.nodeId, h.hops, h.ownLinks]
  simp only [h.hops]
  split
  · exact ⟨rfl, fun q hq => nomatch hq⟩
  · split
    · exact ⟨rfl, fun q hq => nomatch hq⟩
    · rename_i d hd l p peer rest hcands
      simp only [hcands]
      have hmem : ∀ e ∈ (p, peer) :: rest, e.1 < 8 := fun e he => ownLinks_lt (List.mem_filter.1 (hcands ▸ he)).1
      have htrunk : ∀ q ∈ (((p, peer) :: rest).filter fun e => e.2 == peer).map Prod.fst, q < 8 := fun q hq => by
        obtain ⟨e, he, rfl⟩ := List.mem_map.1 hq
        exact hmem e (List.mem_filter.1 he).1
      obtain ⟨heq, hlt⟩ := h.freest htrunk (hmem _ List.mem_cons_self)
      refine ⟨congrArg some heq, fun q hq => ?_⟩
      obtain rfl := Option.some.inj hq
      exact hlt

end Sys2Proof.Machine
end

section
/-! PROOFS. Tether cells, reservations and stream states (R396, R398-R400, R403, R404). -/

namespace Sys2Proof.Machine

/-! Cells (R396, R404). -/

theorem count_elem_same (s : State) (i j : Nat) : (s.count i j).elem i j = wrapAdd 32 (s.elem i j) 1 := by
  unfold State.count
  rw [State.put_elem, if_pos rfl]

theorem cellReceived_discards {s : State} {p : Nat} {c : LinkCell} (hup : s.tUp p = true)
    (hnone : c.reserved = true ∨ s.tether.streams.find? (fun t => !t.pending && t.from_ == some (p, c.label)) = none) :
    (cellReceived s p c).elem 0xA100 (0x508 + p) = wrapAdd 32 (s.elem 0xA100 (0x508 + p)) 1 := by
  have hnone' : (if c.reserved then none else s.tether.streams.find? fun t => !t.pending && t.from_ == some (p, c.label)) = none := by
    rcases hnone with h | h
    · rw [if_pos h]
    · rw [h, ite_self]
  unfold cellReceived
  rw [if_neg (by simp [hup])]
  simp only [hnone']
  exact count_elem_same _ _ _

theorem launchCell_sends {s : State} {q : Nat} {c : LinkCell} (hmute : s.portMute q = false) :
    Emission.blocks q (linkBlocks { c with vc := s.leaveVc q c.vc }) ∈ (launchCell s q c).emitted :=
  emit_mem (s := spendCredit s q (s.leaveVc q c.vc) 1) hmute

theorem cellReceived_forwards {s : State} {p q l : Nat} {c : LinkCell} {st : Stream} (hmute : s.portMute q = false) (hup : s.tUp p = true)
    (hown : c.reserved = false) (hfind : s.tether.streams.find? (fun t => !t.pending && t.from_ == some (p, c.label)) = some st)
    (houts : st.outs = [(q, l)]) (hcredit : 0 < (s.tport q).credit (s.leaveVc q c.vc)) :
    Emission.blocks q (linkBlocks { c with label := l, vc := s.leaveVc q c.vc }) ∈ (cellReceived s p c).emitted := by
  have hfind' : (if c.reserved then none else s.tether.streams.find? fun t => !t.pending && t.from_ == some (p, c.label)) = some st := by
    rw [if_neg (ne_true_of_eq_false hown), hfind]
  have hsent : Emits (launchCell s q { c with label := l }) (st.flows.foldl (takeCell c) (launchCell s q { c with label := l })) :=
    .foldl (takeCell_emits c) _ _
  unfold cellReceived
  rw [if_neg (by simp [hup])]
  simp only [hfind', houts, List.foldl_cons, List.foldl_nil, if_pos hcredit, Bool.false_eq_true, if_false]
  exact hsent.mem (launchCell_sends hmute)

/-! Streams (R396, R400). -/

theorem setStream_finds (s : State) (t : Stream) : (setStream s t).stream? t.node t.source = some t := by
  refine List.find?_append.trans ?_
  rw [List.find?_eq_none.2 ?_]
  · simp
  · intro x hx
    simpa [imp_iff_not_or] using (List.mem_filter.1 hx).2

theorem put_remote (s : State) (i j : Nat) (v : Word) : (s.put i j v).remote = s.remote := rfl
theorem putFlag_remote (s : State) (i j n : Nat) (b : Bool) : (s.putFlag i j n b).remote = s.remote := rfl

theorem wakePort_same (s : State) (p : Nat) : (wakePort s p).tether = s.tether ∧ (wakePort s p).remote = s.remote := by
  have hidle : ∀ (u : State) l, (idleExit u l false).tether = u.tether ∧ (idleExit u l false).remote = u.remote := fun u l => by
    unfold idleExit
    rw [if_neg Bool.false_ne_true]
    split
    · exact ⟨rfl, rfl⟩
    · have h := fun (v : State) e => (emit_keeps (F := ⟨[.lanes, .emitted], [], false⟩) v e (by rfl)).trans (startLink_keeps _ l (by rfl))
      exact ⟨((h _ _).same .tether (by rfl)).trans (putFlag_tether _ _ _ _ _), ((h _ _).same .remote (by rfl)).trans (putFlag_remote _ _ _ _ _)⟩
  exact ⟨foldl_keeps (fun u : State => u.tether) (fun u l => (hidle u l).1) _ s,
    foldl_keeps (fun u : State => u.remote) (fun u l => (hidle u l).2) _ s⟩

theorem stream?_congr {s t : State} (h : t.tether = s.tether) (n m : Nat) : t.stream? n m = s.stream? n m :=
  congrArg (fun x : TetherSt => x.streams.find? fun y : Stream => y.node == n && y.source == m) h

/-- A stream held on the port toward its origin, where that port has room for it. -/
theorem holdStream_holds {s : State} {t : Stream} {q : Nat} (hpath : s.portToward t.node = some q) (hdup : s.dupNode = false)
    (hroom : s.arriveOver q t.rate = false) :
    (holdStream s t).1.stream? t.node t.source = some { t with from_ := some (q, 0), pending := true } ∧
      (holdStream s t).1.remote = s.remote := by
  unfold holdStream
  simp only [hpath]
  rw [if_neg (by simp [hdup, hroom])]
  obtain ⟨htether, hremote⟩ := wakePort_same (setStream s { t with from_ := some (q, 0), pending := true }) q
  refine ⟨?_, ((emit_keeps (F := ⟨[.emitted], [], false⟩) _ _ (by rfl)).same .remote (by rfl)).trans hremote⟩
  rw [stream?_congr ((emit_tether _ _).trans htether)]
  exact setStream_finds s { t with from_ := some (q, 0), pending := true }

/-! A tether binding (R399, R400). -/

theorem accepts_of_isAccepted {s : State} {rq : Rq} {op i j : Nat} {b : List Byte} {h : Handler} (ha : isAccepted s rq op i j b h) :
    s.accepts rq op i j b h.checks = true := by
  obtain ⟨htakes, hnew, hstatus⟩ := ha
  unfold State.accepts
  rw [htakes, Bool.true_and]
  split
  · rename_i st data hseen
    exact absurd hseen (hnew st data)
  · exact beq_iff_eq.2 hstatus

theorem admission_of_isAccepted {s : State} {rq : Rq} {op i k : Nat} {b : List Byte} {h : Handler}
    (ha : isAccepted s rq op i k b h) : h.checks.admission = false := by
  obtain ⟨-, -, hstatus⟩ := ha
  exact (firstFailure_ok_iff (by simp [checkList])).1 hstatus (h.checks.admission, stAdmission) (by simp [checkList])

/-- What an admitted binding of a stream that is not held here finds: the port toward its origin, with room. -/
theorem tetherBind_admitted {s : State} {j : Nat} {b : List Byte} (hnew : s.stream? (bindOrigin (ofBytes b)).1 (bindOrigin (ofBytes b)).2 = none)
    (h : (tetherBind s j b).checks.admission = false) :
    ∃ q, s.portToward (bindOrigin (ofBytes b)).1 = some q ∧ s.dupNode = false ∧ s.arriveOver q (s.wanted j (ofBytes b)).rate = false := by
  unfold tetherBind at h
  dsimp only [plainHandler] at h
  rw [hnew, Bool.not_eq_false', List.isEmpty_iff] at h
  have hbeyond := (List.append_eq_nil_iff.1 (List.append_eq_nil_iff.1 h).1).1
  cases hpath : s.portToward (bindOrigin (ofBytes b)).1 with
  | none => simp [hpath] at hbeyond
  | some q => exact ⟨q, rfl, by simp_all⟩

/-- The commit of a binding whose stream is not held here asks for it on the port toward its origin. -/
theorem tetherBind_commit {s u : State} {j : Nat} {b : List Byte} (hu : Answers s u) (hj : j < 2048)
    (hnew : s.stream? (bindOrigin (ofBytes b)).1 (bindOrigin (ofBytes b)).2 = none) (h : (tetherBind s j b).checks.admission = false) :
    (((tetherBind s j b).commit u).remoteOf j).asked = some (ofBytes b) ∧
      ∃ st, ((tetherBind s j b).commit u).stream? (bindOrigin (ofBytes b)).1 (bindOrigin (ofBytes b)).2 = some st ∧
        st.pending = true ∧ j ∈ st.flows := by
  obtain ⟨q, hpath, hdup, hroom⟩ := tetherBind_admitted hnew h
  have hwanted : (s.wanted j (ofBytes b)).node = (bindOrigin (ofBytes b)).1 ∧ (s.wanted j (ofBytes b)).source = (bindOrigin (ofBytes b)).2 := by
    unfold State.wanted
    dsimp only
    rw [hnew]
    exact ⟨rfl, rfl⟩
  obtain ⟨hnode, hsource⟩ := hwanted
  unfold tetherBind
  extract_lets w o t known c beyond codes h
  dsimp only
  have hknown : known = false := by
    unfold known
    rw [hnew]
    rfl
  rw [if_neg (ne_true_of_eq_false hknown)]
  set asked : State := u.setRemote j { u.remoteOf j with asked := some w } with hasked
  have hremote : (asked.remoteOf j).asked = some w := by rw [hasked, State.setRemote_remoteOf, if_pos rfl]
  have hsame : SameCascade s asked := hu.sameCascade.setRemote _ _
  clear_value asked
  generalize hroute : (if bindKind (asked.inBind j) = 3 then asked else asked.put 0xA200 j (2 ^ 124 + o.1 * 2 ^ 100 + o.2 * 2 ^ 88)) = routed
  have hrouted : SameCascade s routed ∧ routed.remote = asked.remote := by
    rw [← hroute]
    split
    · exact ⟨hsame, rfl⟩
    · exact ⟨hsame.putRoute _ (by omega), put_remote _ _ _ _⟩
  obtain ⟨hcascade, hkept⟩ := hrouted
  obtain ⟨htoward, hlt⟩ := hcascade.portToward o.1
  have hnode' : t.node = o.1 := hnode
  have hsource' : t.source = o.2 := hsource
  obtain ⟨hfound, hheld⟩ := holdStream_holds (s := routed) (t := { t with flows := t.flows ++ [j] }) (q := q)
    (by rw [hnode', htoward]; exact hpath) (by rw [hcascade.dupNode]; exact hdup) (by rw [hcascade.arriveOver (hlt q hpath)]; exact hroom)
  refine ⟨?_, { t with flows := t.flows ++ [j], from_ := some (q, 0), pending := true }, ?_, rfl,
    List.mem_append_right t.flows (List.mem_singleton.2 rfl)⟩
  · rw [← hremote]
    exact congrArg (fun r => (mapGet remoteD r j).asked) (hheld.trans hkept)
  · rw [← hnode', ← hsource']
    exact hfound

theorem bindTether_asks {s : State} {rq : Rq} {j : Nat} {b : List Byte} (hj : j < 2048)
    (ha : isAccepted s rq opWrite 0x4000 j b (tetherBind s j b))
    (hnew : s.stream? (bindOrigin (ofBytes b)).1 (bindOrigin (ofBytes b)).2 = none) :
    ((bindTether s rq j b).remoteOf j).asked = some (ofBytes b) ∧
      ∃ st, (bindTether s rq j b).stream? (bindOrigin (ofBytes b)).1 (bindOrigin (ofBytes b)).2 = some st ∧ st.pending = true ∧
        j ∈ st.flows := by
  obtain ⟨u, hu, ht⟩ := request_commits_streams ha
  obtain ⟨hasked, st, hfound, hpending, hflow⟩ := tetherBind_commit hu hj hnew (admission_of_isAccepted ha)
  have hremote : (request s rq opWrite 0x4000 j b (tetherBind s j b)).remoteOf j = ((tetherBind s j b).commit u).remoteOf j := by
    rw [ht.rest]
    rfl
  have hstreams : (request s rq opWrite 0x4000 j b (tetherBind s j b)).stream? (bindOrigin (ofBytes b)).1 (bindOrigin (ofBytes b)).2 = some st :=
    (stream?_congr (by rw [ht.rest]) _ _).trans hfound
  rw [← hremote] at hasked
  have hleft : bindTether s rq j b = request s rq opWrite 0x4000 j b (tetherBind s j b) := by
    unfold bindTether
    dsimp only
    rw [if_pos (accepts_of_isAccepted ha)]
    simp only [hasked, hstreams, if_pos hpending]
  rw [hleft]
  exact ⟨hasked, st, hstreams, hpending, hflow⟩

/-! Answers to a reservation (R400, R403). -/

theorem tidyStreams_streams (s : State) : (tidyStreams s).tether.streams =
    (s.tether.streams.map fun t : Stream => { t with flows := t.flows.filter (s.takesStream t) }).filter fun t =>
      !(t.outs.isEmpty && t.flows.isEmpty) := by
  unfold tidyStreams
  extract_lets own ts gone tether kept
  refine foldl_keeps (fun u : State => u.tether.streams) (fun u t => ?_) _ kept
  split
  · rw [emit_tether]
  · rfl

theorem tidyStreams_mem {s : State} {x : Stream} (h : x ∈ (tidyStreams s).tether.streams) :
    ∃ y ∈ s.tether.streams, y.node = x.node ∧ y.source = x.source := by
  rw [tidyStreams_streams] at h
  obtain ⟨y, hy, rfl⟩ := List.mem_map.1 (List.mem_filter.1 h).1
  exact ⟨y, hy, rfl, rfl⟩

/-- A refusal takes streams away at most, and no input's request but that of the input refused. -/
theorem refuseRemote_drops (s : State) (j code : Nat) :
    (∀ x ∈ (refuseRemote s j code).tether.streams, ∃ y ∈ s.tether.streams, y.node = x.node ∧ y.source = x.source) ∧
      ∀ k, ((refuseRemote s j code).remoteOf k).asked = if k = j then none else (s.remoteOf k).asked := by
  unfold refuseRemote
  extract_lets was freed routed refused noted
  have hnoted : noted.tether = s.tether ∧ noted.remote = freed.remote := by
    have hrouted : routed.tether = s.tether ∧ routed.remote = freed.remote := by
      unfold routed
      split
      · exact ⟨rfl, rfl⟩
      · exact ⟨rfl, put_remote _ _ _ _⟩
    have hfields : ∀ (u : State) i j a b c d e f, ((u.putField i j a b c).putField i j d e f).remote = u.remote := fun _ _ _ _ _ _ _ _ _ => rfl
    exact ⟨(put_tether _ _ _ _).trans (((putField_tether _ _ _ _ _ _).trans (putField_tether routed _ _ _ _ _)).trans hrouted.1),
      (put_remote _ _ _ _).trans ((hfields routed _ _ _ _ _ _ _ _).trans hrouted.2)⟩
  clear_value noted
  have hfin := finishWaiting_keeps (F := ⟨answerFields, [0x1001], false⟩) noted 0x4000 j stAdmission [] (by rfl)
  refine ⟨fun x hx => ?_, fun k => ?_⟩
  · obtain ⟨y, hy, hsame⟩ := tidyStreams_mem hx
    rw [hfin.same .tether (by rfl), hnoted.1] at hy
    exact ⟨y, hy, hsame⟩
  · have htidy := (tidyStreams_keeps (F := ⟨[.tether, .emitted], [], false⟩) (finishWaiting noted 0x4000 j stAdmission []) (by rfl)).same
      .remote (by rfl)
    have hremote := htidy.trans ((hfin.same .remote (by rfl)).trans hnoted.2)
    refine (congrArg (fun r => (mapGet remoteD r k).asked) hremote).trans ?_
    refine (congrArg Remote.asked (State.setRemote_remoteOf s j { s.remoteOf j with asked := none } k)).trans ?_
    split <;> rfl

theorem refuseRemotes_drop (l : List Nat) (s : State) (code : Nat) :
    (∀ x ∈ (l.foldl (fun s j => refuseRemote s j code) s).tether.streams,
      ∃ y ∈ s.tether.streams, y.node = x.node ∧ y.source = x.source) ∧
    ∀ j ∈ l, ((l.foldl (fun s j => refuseRemote s j code) s).remoteOf j).asked = none := by
  refine ⟨?_, fun j hj => ?_⟩
  · refine List.foldlRecOn (motive := fun u : State => ∀ x ∈ u.tether.streams, ∃ y ∈ s.tether.streams, y.node = x.node ∧ y.source = x.source)
      l _ (fun x hx => ⟨x, hx, rfl, rfl⟩) fun u hu j _ x hx => ?_
    obtain ⟨y, hy, hnode, hsource⟩ := (refuseRemote_drops u j code).1 x hx
    obtain ⟨z, hz, hnode', hsource'⟩ := hu y hy
    exact ⟨z, hz, hnode'.trans hnode, hsource'.trans hsource⟩
  · refine foldl_establishes (P := fun u => (u.remoteOf j).asked = none) hj (fun u => ?_) (fun k _ u hu => ?_) s
    · rw [(refuseRemote_drops u j code).2, if_pos rfl]
    · rw [(refuseRemote_drops u k code).2]
      split
      · rfl
      · exact hu

theorem reserveRefused_frees {s : State} {p q node source : Nat} {r : Reserved} {st : Stream} (hup : s.tUp p = true)
    (hfind : s.stream? node source = some st) (hpending : st.pending = true) (hfrom : st.from_ = some (p, q)) (hr : r.reason ≠ 0) :
    (∀ x ∈ (reserveReceived s p (.answer node source r)).tether.streams, ¬ (x.node = node ∧ x.source = source)) ∧
      ∀ j ∈ s.askingFlows st, ((reserveReceived s p (.answer node source r)).remoteOf j).asked = none := by
  have hkey := List.find?_some hfind
  obtain ⟨hnode, hsource⟩ : st.node = node ∧ st.source = source := by simpa using hkey
  unfold reserveReceived
  rw [if_neg (by simp [hup])]
  unfold reserveAnswer
  simp only [hfind]
  rw [if_neg (by simp [hpending, hfrom]), if_pos hr]
  generalize htold : List.foldl (fun (u : State) (o : Nat × Nat) => u.emit (.reserve o.1 (.answer node source { reason := r.reason })))
    (dropStream s st) st.outs = told
  have htether : told.tether = (dropStream s st).tether := htold ▸ foldl_keeps (fun u : State => u.tether) (fun u o => emit_tether _ _) _ _
  obtain ⟨hstreams, hasked⟩ := refuseRemotes_drop (s.askingFlows st) told r.reason
  refine ⟨fun x hx hsame => ?_, hasked⟩
  obtain ⟨y, hy, hnode', hsource'⟩ := hstreams x hx
  rw [htether] at hy
  have hother := (List.mem_filter.1 hy).2
  rw [hnode', hsource', hnode, hsource] at hother
  simp [hsame] at hother

/-! Broken paths (R403). -/

theorem putField_field {s : State} {i j i' j' hi lo v : Nat} (h : lo ≤ hi) :
    (s.putField i' j' hi lo v).field i j hi lo = if ekey i j = ekey i' j' then v % 2 ^ (hi + 1 - lo) else s.field i j hi lo := by
  unfold State.field State.putField
  rw [State.put_elem]
  split
  · exact bits_setBits _ h _
  · rfl

/-- A flow of a stream whose path breaks, or is whole again. -/
def breakFlow (broken : Bool) (s : State) (j : Nat) : State :=
  if s.field 0xA200 j 127 124 < 2 then s
  else
    let s := s.putField 0xA200 j 127 124 (if broken then 3 else 2)
    if broken then setInState (s.setIn j { s.in_ j with lostAt := some s.up, frame := none, whole := false, openLines := [] }) j 2
    else s

theorem breakStream_flows (broken : Bool) (s : State) (t : Stream) : breakStream broken s t = t.flows.foldl (breakFlow broken)
    (t.outs.foldl (fun s o => s.emit (.reserve o.1 (.path t.node t.source broken))) (setStream s { t with broken := broken })) := rfl

theorem breakFlow_tether (b : Bool) (s : State) (j : Nat) : (breakFlow b s j).tether = s.tether := by
  unfold breakFlow
  dsimp only
  split
  · rfl
  · split
    · rw [setInState_tether, setIn_tether, putField_tether]
    · rw [putField_tether]

/-- The route of flow `j` is set where flow `j` is told. -/
theorem breakFlow_route (b : Bool) (s : State) {j k : Nat} (hj : j < 65536) (hk : k < 65536) :
    (breakFlow b s k).field 0xA200 j 127 124 =
      if j = k ∧ 2 ≤ s.field 0xA200 k 127 124 then (if b then 3 else 2) else s.field 0xA200 j 127 124 := by
  have hkey : ekey 0xA200 j = ekey 0xA200 k ↔ j = k := by rw [ekey_inj hj hk]; simp
  have hroute : (s.putField 0xA200 k 127 124 (if b then 3 else 2)).field 0xA200 j 127 124 =
      if j = k then (if b then 3 else 2) else s.field 0xA200 j 127 124 := by
    rw [putField_field (by decide)]
    simp only [hkey]
    split
    · cases b <;> rfl
    · rfl
  have hstate : ∀ (u : State) x, (setInState (u.setIn k x) k 2).field 0xA200 j 127 124 = u.field 0xA200 j 127 124 := fun u x => by
    have hne : ekey 0xA200 j ≠ ekey 0x4300 (0x4000 + k) := by
      unfold ekey
      omega
    unfold setInState State.putField State.field
    rw [State.put_elem, if_neg hne]
    rfl
  unfold breakFlow
  dsimp only
  by_cases hlow : s.field 0xA200 k 127 124 < 2
  · rw [if_pos hlow, if_neg (by omega)]
  · rw [if_neg hlow]
    have hcond : (j = k ∧ 2 ≤ s.field 0xA200 k 127 124) ↔ j = k := ⟨And.left, fun h => ⟨h, by omega⟩⟩
    simp only [hcond]
    rw [← hroute]
    split
    · exact hstate _ _
    · rfl

theorem pathReceived_breaks {s : State} {p l node source : Nat} {broken : Bool} {st : Stream} (hup : s.tUp p = true)
    (hfind : s.stream? node source = some st) (hfrom : st.from_ = some (p, l)) (hflows : ∀ k ∈ st.flows, k < 65536) :
    { st with broken := broken } ∈ (reserveReceived s p (.path node source broken)).tether.streams ∧
      ∀ j ∈ st.flows, j < 2048 → 2 ≤ s.field 0xA200 j 127 124 →
        (reserveReceived s p (.path node source broken)).field 0xA200 j 127 124 = if broken then 3 else 2 := by
  unfold reserveReceived
  rw [if_neg (by simp [hup])]
  simp only [hfind]
  rw [if_pos (by simp [hfrom]), breakStream_flows]
  generalize htold : st.outs.foldl (fun (s : State) o => s.emit (.reserve o.1 (.path st.node st.source broken)))
    (setStream s { st with broken := broken }) = told
  have htether : told.tether = (setStream s { st with broken := broken }).tether :=
    htold ▸ foldl_keeps (fun u : State => u.tether) (fun u o => emit_tether _ _) _ _
  have hfield : ∀ j, told.field 0xA200 j 127 124 = s.field 0xA200 j 127 124 := fun j => htold ▸
    foldl_keeps (fun u : State => u.field 0xA200 j 127 124) (fun u o => congrArg (fun d => bits (mapGet keyReset d _) 127 124) (u.emit_dict _)) _ _
  refine ⟨?_, fun j hj hsmall hroute => ?_⟩
  · rw [foldl_keeps (fun u : State => u.tether) (fun u k => breakFlow_tether _ u k), htether]
    exact List.mem_append_right _ (List.mem_singleton.2 rfl)
  · have hlost : 2 ≤ (st.flows.foldl (breakFlow broken) told).field 0xA200 j 127 124 := by
      refine List.foldlRecOn (motive := fun u : State => 2 ≤ u.field 0xA200 j 127 124) st.flows _ (hfield j ▸ hroute) fun u hu k hk => ?_
      rw [breakFlow_route _ _ (by omega) (hflows k hk)]
      split
      · split <;> omega
      · exact hu
    have hset := foldl_establishes (P := fun u => 2 ≤ u.field 0xA200 j 127 124 → u.field 0xA200 j 127 124 = if broken then 3 else 2)
      (f := breakFlow broken) hj (fun u hu => ?_) (fun k hk u hu => ?_) told
    · exact hset hlost
    · rw [breakFlow_route _ _ (by omega) (by omega)] at hu ⊢
      split
      · rfl
      · rename_i hnot
        rw [if_neg hnot] at hu
        exact absurd ⟨rfl, hu⟩ hnot
    · rw [breakFlow_route _ _ (by omega) (hflows k hk)]
      split
      · exact fun _ => rfl
      · exact hu

/-! Stream states (R398). -/

/-- A flow of a stream takes its origin's state where its route is confirmed. -/
def takeState (w : Word) (s : State) (j : Nat) : State :=
  if s.field 0xA200 j 127 124 = 2 then s.putField 0x4300 (0x4000 + j) 31 26 w else s

theorem takeState_route (w : Word) (s : State) {j k : Nat} (hk : k < 2048) :
    (takeState w s k).field 0xA200 j 127 124 = s.field 0xA200 j 127 124 := by
  have hne : ekey 0xA200 j ≠ ekey 0x4300 (0x4000 + k) := by
    unfold ekey
    omega
  unfold takeState
  split
  · unfold State.field State.putField
    rw [State.put_elem, if_neg hne]
  · rfl

theorem takeState_state (w : Word) (s : State) (j k : Nat) :
    (takeState w s k).field 0x4300 (0x4000 + j) 31 26 =
      if j = k ∧ s.field 0xA200 k 127 124 = 2 then w % 64 else s.field 0x4300 (0x4000 + j) 31 26 := by
  have hkey : ekey 0x4300 (0x4000 + j) = ekey 0x4300 (0x4000 + k) ↔ j = k := by
    unfold ekey
    omega
  unfold takeState
  by_cases hroute : s.field 0xA200 k 127 124 = 2
  · rw [if_pos hroute, putField_field (by decide)]
    simp [hkey, hroute]
  · rw [if_neg hroute, if_neg (fun h => hroute h.2)]

theorem streamState_sets_flows {s : State} {p label j : Nat} {w : Word} {st : Stream} (hup : s.tUp p = true)
    (hfind : s.tether.streams.find? (fun t => !t.pending && t.from_ == some (p, label)) = some st) (hwhole : st.broken = false)
    (hj : j ∈ st.flows) (hroute : s.field 0xA200 j 127 124 = 2) (hflows : ∀ k ∈ st.flows, k < 2048) :
    (streamState s p label w).field 0x4300 (0x4000 + j) 31 26 = w % 64 := by
  unfold streamState
  simp only [hfind]
  rw [if_neg (by simp [hup, hwhole])]
  generalize htold : st.outs.foldl (fun (s : State) o => s.emit (.streamState o.1 o.2 w)) s = told
  have hfield : told.field 0xA200 j 127 124 = 2 := (htold ▸ foldl_keeps (fun u : State => u.field 0xA200 j 127 124)
    (fun u o => congrArg (fun d => bits (mapGet keyReset d _) 127 124) (u.emit_dict _)) _ _ : told.field 0xA200 j 127 124 = _).trans hroute
  have hkept : (st.flows.foldl (takeState w) told).field 0xA200 j 127 124 = 2 :=
    List.foldlRecOn (motive := fun u : State => u.field 0xA200 j 127 124 = 2) st.flows _ hfield fun u hu k hk =>
      (takeState_route w u (hflows k hk)).trans hu
  refine foldl_establishes (P := fun u => u.field 0xA200 j 127 124 = 2 → u.field 0x4300 (0x4000 + j) 31 26 = w % 64)
    (f := takeState w) hj (fun u hu => ?_) (fun k hk u hu hroute => ?_) told hkept
  · rw [takeState_route w u (hflows j hj)] at hu
    rw [takeState_state w u j j, if_pos ⟨rfl, hu⟩]
  · rw [takeState_route w u (hflows k hk)] at hroute
    rw [takeState_state w u j k]
    split
    · rfl
    · exact hu hroute

/-- Settles O24: the search of the cascade map is the same before and after the request's own answer, so a binding that its checks
admit is held; an answer or a path touches the stream and the flows that it names. -/
theorem tetherStreamsRun : Obligations.TetherStreamsRun := by
  unfold Obligations.TetherStreamsRun
  refine ⟨?_, ?_, ?_, ?_, ?_, ?_⟩
  · intro s p c hp hrun hhears hup hnone
    exact onPort_does (f := fun s => cellReceived s p c) rfl hp hrun hhears (cellReceived_discards (s := s.fresh) hup hnone)
  · intro s p q l c st hp hrun hmute hhears hup hown hfind houts hcredit
    exact onPort_does (f := fun s => cellReceived s p c) rfl hp hrun hhears
      (cellReceived_forwards (s := s.fresh) hmute hup hown hfind houts hcredit)
  · intro s rq j v w hj hw hfits ha hnew
    subst hw
    have hvalue := valueBytes_value hfits
    refine act_does (f := fun s => bindTether s rq j (valueBytes rq (setBits v 31 28 3))) rfl ?_
    obtain ⟨hasked, st, hfound, hpending, hflow⟩ := bindTether_asks hj ha (by rw [hvalue]; exact hnew)
    rw [hvalue] at hasked hfound
    have hkey := List.find?_some hfound
    obtain ⟨hnode, hsource⟩ : st.node = _ ∧ st.source = _ := by simpa using hkey
    exact ⟨hasked, st, List.mem_of_find?_eq_some hfound, hnode, hsource, hpending, hflow⟩
  · intro s p q node source r st hp hrun hhears hup hfind hpending hfrom hr
    exact onPort_does (f := fun s => reserveReceived s p (.answer node source r)) rfl hp hrun hhears
      (reserveRefused_frees (s := s.fresh) hup hfind hpending hfrom hr)
  · intro s p l node source broken st hp hrun hhears hup hfind hfrom hflows
    exact onPort_does (f := fun s => reserveReceived s p (.path node source broken)) rfl hp hrun hhears
      (pathReceived_breaks (s := s.fresh) hup hfind hfrom hflows)
  · intro s p label j w st hp hrun hhears hup hfind hwhole hj hsmall hroute hflows
    exact onPort_does (f := fun s => streamState s p label w) rfl hp hrun hhears
      (streamState_sets_flows (s := s.fresh) hup hfind hwhole hj hroute hflows)

end Sys2Proof.Machine
end

section
/-! SUPPORT. What intake and declarations leave of a member's mode and of its pair's state (R434-R441, R518): the mode but for an
entry to FAULTED, and of the pair all but CLAIM_OUT, the drill's result, the evidence of an own fault, the own digests and the copies
that wait. -/

namespace Sys2Proof.Machine

/-- The pair's state without what intake and declarations write. -/
def PairSt.core (p : PairSt) : PairSt :=
  { p with claimOut := false, drillResult := 0, ownFault := none, ownDigests := [], digestsOut := [], held := [], choices := [] }

/-- `t` is in the mode of `s` or FAULTED, and its pair stands as that of `s` but for what intake and declarations write. -/
structure Calm (s t : State) : Prop where
  mode : t.mode = s.mode ∨ t.mode = .faulted
  core : t.pair.core = s.pair.core
  claim : t.pair.claimOut = s.pair.claimOut ∨ t.mode = .faulted ∧ t.pair.claimOut = false

section
variable {s t u : State}

theorem Calm.refl (s : State) : Calm s s := ⟨.inl rfl, rfl, .inl rfl⟩

theorem Calm.trans (h : Calm s t) (h' : Calm t u) : Calm s u where
  mode := by
    rcases h'.mode with h' | h'
    · rw [h']
      exact h.mode
    · exact .inr h'
  core := h'.core.trans h.core
  claim := by
    rcases h'.claim with hclaim | hfaulted
    · rw [hclaim]
      refine h.claim.imp_right fun ⟨hfaulted, hlow⟩ => ⟨?_, hlow⟩
      rcases h'.mode with hmode | hmode
      · exact hmode.trans hfaulted
      · exact hmode
    · exact .inr hfaulted

theorem Calm.as (h : Calm s t) (hmode : u.mode = t.mode) (hpair : u.pair = t.pair) : Calm s u :=
  h.trans ⟨.inl hmode, congrArg PairSt.core hpair, .inl (congrArg PairSt.claimOut hpair)⟩

theorem Calm.ite {c : Prop} [Decidable c] (h : Calm s t) (h' : Calm s u) : Calm s (if c then t else u) := by
  split <;> assumption

theorem Calm.foldl {α : Type} {f : State → α → State} (hf : ∀ u a, Calm u (f u a)) (l : List α) (s : State) : Calm s (l.foldl f s) := by
  induction l generalizing s with
  | nil => exact .refl s
  | cons a l ih => exact (hf s a).trans (ih _)

/-- A member that stood by does so no more. -/
theorem Calm.leaves (h : Calm s t) (hs : s.mode ≠ .standby) : t.mode ≠ .standby := by
  rcases h.mode with h | h
  · rw [h]
    exact hs
  · rw [h]
    decide

end

/-- Every part of the state that lines, packets and references on their way may touch, but for the mode and the pair. -/
abbrev calmFoot : Foot :=
  ⟨[.free, .emitted, .dict, .req, .log, .faults, .moves, .ref, .lanes, .cells, .ins, .outs, .remote, .silent, .ainIn, .rx, .tx, .bridgeIn,
    .bridges, .layers, .heads, .gfx, .feeds, .tether, .windows, .winBytes, .planes, .audioPorts], [], true⟩

theorem Keeps.calm {s t : State} (h : Keeps calmFoot s t) : Calm s t :=
  ⟨.inl (h.same .mode (by rfl)), congrArg PairSt.core (h.same .pair (by rfl)), .inl (congrArg PairSt.claimOut (h.same .pair (by rfl)))⟩

section
variable {s t : State}

/-! Setters, after a state that is calm. -/

theorem Calm.put (h : Calm s t) (i j : Nat) (v : Word) : Calm s (t.put i j v) := h.as rfl rfl
theorem Calm.putFlag (h : Calm s t) (i j n : Nat) (b : Bool) : Calm s (t.putFlag i j n b) := h.as rfl rfl
theorem Calm.putField (h : Calm s t) (i j hi lo v : Nat) : Calm s (t.putField i j hi lo v) := h.as rfl rfl
theorem Calm.setInState (h : Calm s t) (j v : Nat) : Calm s (setInState t j v) := h.putField 0x4300 (0x4000 + j) 31 29 v
theorem Calm.count (h : Calm s t) (i j : Nat) : Calm s (t.count i j) := h.as rfl rfl
theorem Calm.countBy (h : Calm s t) (i j n : Nat) : Calm s (t.countBy i j n) := h.as rfl rfl
theorem Calm.setIn (h : Calm s t) (j : Nat) (x : InFlow) : Calm s (t.setIn j x) := h.as rfl rfl
theorem Calm.setRx (h : Calm s t) (j : Nat) (x : RxSt) : Calm s (t.setRx j x) := h.as rfl rfl
theorem Calm.setCells (h : Calm s t) (j : Nat) (x : Cells) : Calm s (t.setCells j x) := h.as rfl rfl
theorem Calm.draw (h : Calm s t) : Calm s t.draw := h.as rfl rfl
theorem Calm.clearActive (h : Calm s t) (n : Nat) : Calm s (clearActive t n) := h.as rfl rfl

theorem Calm.mirror (h : Calm s t) (k o : Nat) (v : Word) : Calm s (mirror t k o v) := h.trans (mirror_keeps _ _ _ _ (by rfl)).calm
theorem Calm.logEvent (h : Calm s t) (i j : Nat) (o n : Word) (p : Nat) (b : Bool) (st : Nat) : Calm s (logEvent t i j o n p b st) :=
  h.trans (logEvent_keeps _ _ _ _ _ _ _ _ (by rfl)).calm

/-! Declarations (R518, R554). -/

/-- An entry to FAULTED lowers CLAIM_OUT (R416). -/
theorem enterFaulted_claim (s : State) (n : Nat) (d : Word) : (enterFaulted s n d).pair.claimOut = s.pair.claimOut ∨
    (enterFaulted s n d).mode = .faulted ∧ (enterFaulted s n d).pair.claimOut = false := by
  have hdiscard : ∀ u e, (discardEvent u e stFaulted).pair.claimOut = u.pair.claimOut := fun u e => by
    obtain ⟨drill, hdrill⟩ := discardEvent_pair u e stFaulted
    rw [hdrill]
  have hlow : ∀ u, (failSpools (endStaging ((List.range 16).foldl (failWindow stFaulted) (abandonTransfers (cancelMoves
      (discardEvents (dropClaim u) (fun _ => true) stFaulted)) stFaulted)) 7 (some stFaulted))).pair.claimOut = false := fun u => by
    have hrest : ∀ v, Keeps ⟨[.boot, .windows, .spools, .moves, .dict, .ins, .cells, .log, .req, .emitted], [0x1001], false⟩ v
        (failSpools (endStaging ((List.range 16).foldl (failWindow stFaulted) (abandonTransfers (cancelMoves v) stFaulted)) 7
          (some stFaulted))) := fun v =>
      (cancelMoves_keeps _ (by rfl)).trans <| (abandonTransfers_keeps _ _ (by rfl)).trans <|
        (Keeps.foldl (fun _ _ => failWindow_keeps _ _ _ (by rfl)) _ _).trans <|
          (endStaging_keeps _ _ _ (by rfl)).trans (failSpools_keeps _ (by rfl))
    calc _ = (discardEvents (dropClaim u) (fun _ => true) stFaulted).pair.claimOut := congrArg PairSt.claimOut ((hrest _).same .pair (by rfl))
      _ = (dropClaim u).pair.claimOut := foldl_keeps (fun v : State => v.pair.claimOut) hdiscard _ _
      _ = false := rfl
  have hfaulted := (enterFaulted_faulted s n d).1
  unfold enterFaulted at hfaulted ⊢
  dsimp only at hfaulted ⊢
  split
  · exact .inl rfl
  · rename_i hmode
    rw [if_neg hmode] at hfaulted
    exact .inr ⟨hfaulted, hlow _⟩

theorem declareFault_calm (s : State) (n : Nat) (d : Word) (l f : Bool) (p : Nat) : Calm s (declareFault s n d l f p) where
  mode := (declareFault_faults (F := ⟨noteFields, [], false⟩) s n d l f p (by rfl)).mode
  core := declareFault_pair (g := PairSt.core) (fun _ _ _ _ => rfl) s n d l f p
  claim := by
    have hnoted : (noteFault s n d l f p).pair.claimOut = s.pair.claimOut := by
      obtain ⟨own, hown⟩ := noteFault_pair s n d l f p
      rw [hown]
    unfold declareFault
    dsimp only
    split
    · exact (enterFaulted_claim _ _ _).imp_left fun h => h.trans hnoted
    · exact .inl hnoted

theorem Calm.declare (h : Calm s t) (n : Nat) (d : Word) (l f : Bool) (p : Nat) : Calm s (declareFault t n d l f p) :=
  h.trans (declareFault_calm _ _ _ _ _ _)

end

/-! Lines and runs on their way to cell memory (R200-R205, R434). -/

theorem addDigest_calm (s : State) (u l n p e : Nat) (b : List Byte) : Calm s (addDigest s u l n p e b) := by
  have hpair : ∀ x y, Calm s { s with pair := { s.pair with ownDigests := x, digestsOut := y } } := fun _ _ => ⟨.inl rfl, rfl, .inl rfl⟩
  exact .ite (.refl s) (.ite ((hpair _ _).trans (emit_keeps _ _ (by rfl)).calm) (hpair _ _))

theorem digestLine_calm (s : State) (j : Nat) (x : CellLine) : Calm s (digestLine s j x) := .ite (.refl s) (addDigest_calm _ _ _ _ _ _ _)

theorem digestRun_calm (s : State) (j : Nat) (m : Int) (f : Nat) (l : List AncPkt) : Calm s (digestRun s j m f l) :=
  .ite (.refl s) (addDigest_calm _ _ _ _ _ _ _)

theorem noteOverflow_calm (s : State) (n : Nat) : Calm s (noteOverflow s n) := by
  unfold noteOverflow
  extract_lets flagged x due kept
  have hkept : Calm s kept := (((Calm.refl s).count _ _).putFlag _ _ _ _).setIn _ _
  exact .ite (.refl s) (.ite (hkept.declare _ _ _ _ _) hkept)

theorem feedLine_calm (s : State) (n : Nat) (x : CellLine) : Calm s (feedLine s n x) := by
  have hcapture : Calm s (captureLine s n x.frame x.line x.picture x.subst) := (captureLine_keeps _ _ _ _ _ _ (by rfl)).calm
  have hfeed : ∀ (u : State) l, Calm s u → Calm s { u with feeds := l } := fun _ _ h => h.as rfl rfl
  exact .ite (.ite (declareFault_calm _ _ _ _ _ _) (.refl s)) (.ite (hfeed _ _ hcapture) hcapture)

theorem writeCells_calm (s : State) (n : Nat) (x : CellLine) : Calm s (writeCells s n x) := by
  unfold writeCells
  extract_lets released sealed_ f
  have hreleased : Calm s released := (releaseCells_keeps s n (by rfl)).calm
  refine hreleased.trans ?_
  split
  · exact .refl _
  · rename_i fed c sent last t htime
    have hsent : Calm fed sent :=
      .ite (sendLineOf_keeps _ _ _ _ _ _ _ (by rfl)).calm (.ite (declareFault_calm _ _ _ _ _ _) (.refl _))
    exact .ite (noteOverflow_calm _ _) <| (feedLine_calm _ _ _).trans <| (hsent.setCells _ _).trans (noteCells_keeps _ (by rfl)).calm

theorem writeAnc_calm (s : State) (n : Nat) (m : Int) (f : Nat) (l : List AncPkt) : Calm s (writeAnc s n m f l) :=
  (writeAnc_keeps _ _ _ _ _ (by rfl)).calm

end Sys2Proof.Machine
end

section
/-! SUPPORT. Intake is calm: the frame-synchroniser reader, lines, ancillary runs, SDI lines (R138-R148, R223-R226, R275-R281). -/

namespace Sys2Proof.Machine

/-! Loss and return (R223-R225). -/

theorem dropInput_calm (s : State) (j : Nat) : Calm s (dropInput s j) := (((Calm.refl s).setIn _ _).setInState _ _).putFlag _ _ _ _

theorem loseInput_calm (s : State) (j : Nat) : Calm s (loseInput s j) := .ite ((dropInput_calm s j).mirror _ _ _) (.refl s)

theorem returnInput_calm (s : State) (j : Nat) : Calm s (returnInput s j) := ((Calm.refl s).setIn _ _).setInState _ _

theorem misTime_calm (s : State) (j : Nat) : Calm s (misTime s j) :=
  ((((Calm.refl s).setInState _ _).putFlag _ _ _ _).setIn _ _).declare _ _ _ _ _

theorem beginFrame_calm (s : State) (j : Nat) (t : Rat) : Calm s (beginFrame s j t) := by
  unfold beginFrame
  extract_lets d units reported told x x' d' runs digested mirrored good x''
  have hreported : Calm s reported := (Calm.refl s).put _ _ _
  have hmirrored : Calm s mirrored := (hreported.trans (.foldl (fun u r => digestRun_calm u _ _ _ _) _ _)).mirror _ _ _
  clear_value mirrored
  split
  · split
    exact hmirrored.setIn _ _
  · exact hmirrored.setIn _ _

theorem numberFrame_calm (s : State) (j : Nat) (m : Int) (c : Nat) : Calm s (numberFrame s j m c) := by
  unfold numberFrame
  dsimp only
  split
  · exact (Calm.refl s).setIn _ _
  · exact (Calm.refl s).setIn _ _

/-! The frame-synchroniser reader (R233, R275-R281). -/

theorem tagFailed_calm (s : State) (k o : Nat) : Calm s (tagFailed s k o) := (((Calm.refl s).count _ _).put _ _ _).draw.declare _ _ _ _ _

theorem replaceLine_calm (s : State) (j k l : Nat) : Calm s (replaceLine s j k l).1 := (Calm.refl s).count _ _

theorem readSlotLine_calm (s : State) (j : Nat) (m : Int) (k l : Nat) : Calm s (readSlotLine s j m k l) := by
  unfold readSlotLine
  extract_lets x own prev cand
  clear_value cand
  split
  rename_i read got hread
  have hcalm : Calm s read := by
    cases cand with
    | none =>
      obtain rfl : (replaceLine s j k l).1 = read := congrArg Prod.fst hread
      exact replaceLine_calm _ _ _ _
    | some c =>
      dsimp only at hread
      split at hread
      · obtain rfl := congrArg Prod.fst hread
        exact (tagFailed_calm _ _ _).trans (replaceLine_calm _ _ _ _)
      · obtain rfl := congrArg Prod.fst hread
        exact .refl s
  split
  · exact hcalm.trans (writeCells_calm _ _ _)
  · exact hcalm.trans (writeCells_calm _ _ _)

theorem runReader_calm (fuel : Nat) (s : State) (j : Nat) : Calm s (runReader fuel s j) := by
  induction fuel generalizing s with
  | zero => exact .refl s
  | succ fuel ih =>
    unfold runReader
    extract_lets x
    split
    · extract_lets f line
      exact .ite (((readSlotLine_calm _ _ _ _ _).setIn _ _).trans (ih _)) (.refl s)
    · exact .refl s

theorem passAnc_calm (s : State) (j : Nat) : Calm s (passAnc s j) := by
  unfold passAnc
  extract_lets x
  split
  · extract_lets new kept
    refine .ite (.refl s) (((Calm.refl s).setIn _ _).trans (.foldl (fun u field => ?_) _ _))
    exact .ite (.refl u) (writeAnc_calm _ _ _ _ _)
  · exact .refl s

theorem caughtUp_calm (s : State) (j : Nat) : Calm s (s.caughtUp j) := .ite ((runReader_calm _ _ _).trans (passAnc_calm _ _)) (.refl s)

theorem loseFrame_calm (s : State) (j c : Nat) : Calm s (loseFrame s j c) := ((Calm.refl s).count _ _).setIn _ _

theorem writeWindow_calm (s : State) (j c l : Nat) (b : List Nat) (sub : Bool) : Calm s (writeWindow s j c l b sub) := by
  have hcaught := caughtUp_calm s j
  unfold writeWindow
  extract_lets caught x put
  refine Calm.trans (t := caught) hcaught ?_
  split
  · exact .refl _
  · extract_lets needed
    exact .ite (.ite ((loseFrame_calm _ _ _).mirror _ _ _) (.refl _)) ((digestLine_calm _ _ _).setIn _ _)

theorem slotSelect_calm (s : State) (j : Nat) (g : Option (Option Nat)) : Calm s (slotSelect s j g) := by
  have hcaught := caughtUp_calm s j
  unfold slotSelect
  extract_lets caught x m c guard lost choice heldFrame delay rep go
  refine Calm.trans (t := caught) hcaught (.ite (.refl _) ?_)
  have hrep : ∀ (u : State) l d, Calm caught u → Calm caught (rep u l d) := fun u l d h => (h.putField _ _ _ _ _).putField _ _ _ _ _
  have hgo : ∀ k, Calm caught (go caught k) := fun k => (Calm.refl caught).setIn _ _
  have hset : ∀ y, Calm caught (caught.setIn j y) := fun y => (Calm.refl caught).setIn _ _
  clear_value rep go choice caught
  split
  · exact .ite (hrep _ _ _ (hset _)) (hrep _ _ _ (hgo _))
  · exact hrep _ _ _ (hset _)
  · exact hrep _ _ _ (hgo _)
  · exact .ite (hrep _ _ _ ((hgo _).count _ _)) (.ite (hrep _ _ _ ((hgo _).countBy _ _ _)) (hrep _ _ _ (hgo _)))

/-! Lines and runs in their place (R144, R145, R200, R223). -/

theorem takeLine_calm (s : State) (j : Nat) (m : Int) (c l : Nat) (b : List Nat) (sub : Bool) : Calm s (takeLine s j m c l b sub) :=
  .ite (.refl s) (.ite (writeWindow_calm _ _ _ _ _ _) (.ite ((digestLine_calm _ _ _).trans (writeCells_calm _ _ _)) (.refl s)))

theorem takeNow_calm (s : State) (j l : Nat) (b : List Nat) : Calm s (takeNow s j l b) := by
  unfold takeNow
  split
  · exact takeLine_calm _ _ _ _ _ _ _
  · exact .refl s

theorem takeAnc_calm (s : State) (j f : Nat) (l : List (AncPkt × Bool)) : Calm s (takeAnc s j f l) := by
  unfold takeAnc
  extract_lets pkts good x taken kept x'
  refine .ite (.refl s) ?_
  split
  · split
    · exact ((Calm.refl s).countBy _ _ _).setIn _ _
    · exact .refl s
  · split
    · exact .ite ((((Calm.refl s).countBy _ _ _).setIn _ _).trans (writeAnc_calm _ _ _ _ _)) (.refl s)
    · exact .refl s

/-! SDI lines (R138-R148). -/

theorem settleNote_calm (s : State) (e : Nat × Nat) : Calm s (settleNote s e) := .ite (.refl s) ((Calm.refl s).clearActive _)

theorem unlockFlow_calm (s : State) (j : Nat) : Calm s (unlockFlow s j) := by
  have hcounted : Calm s ((s.putField 0x4300 j 31 25 0).count 0x4300 (0x2000 + j)) := ((Calm.refl s).putField _ _ _ _ _).count _ _
  unfold unlockFlow
  refine .ite ?_ (.refl s)
  exact (((hcounted.trans (.foldl settleNote_calm _ _)).setIn _ _).declare _ _ _ _ _).trans (loseInput_calm _ _)

theorem lockFlow_calm (s : State) (j : Nat) : Calm s (lockFlow s j) := by
  have hlocked : Calm s ((s.putFlag 0x4300 j 31 true).setIn j { s.in_ j with frame := none, whole := false, clean := 0 }) :=
    ((Calm.refl s).putFlag _ _ _ _).setIn _ _
  exact .ite (.ite hlocked (hlocked.clearActive _)) (.refl s)

theorem mismatch_calm (s : State) (j b : Nat) : Calm s (mismatch s j b) := by
  unfold mismatch
  extract_lets was x marked
  have hmarked : Calm s marked := ((Calm.refl s).putFlag _ _ _ _).setIn _ _
  exact (Calm.ite hmarked (hmarked.declare _ _ _ _ _)).trans (loseInput_calm _ _)

theorem badFormat_calm (s : State) (j : Nat) : Calm s (badFormat s j) :=
  .ite (mismatch_calm _ _ _) (.ite (mismatch_calm _ _ _) ((Calm.refl s).setIn _ _))

theorem giveSample_calm (s : State) (c : Bool) (a : Nat) (k : Int) (v : Nat) : Calm s (giveSample s c a k v) :=
  .ite ((Calm.refl s).as rfl rfl) ((Calm.refl s).as rfl rfl)

theorem takeGroupSample_calm (s : State) (j : Nat) (c : Bool) (e : Word) (g : Nat) (t : Rat) (l : List Nat) :
    Calm s (takeGroupSample s j c e g t l) :=
  Calm.trans ((Calm.refl s).setIn _ _) (.foldl (fun u _ => giveSample_calm u _ _ _ _) _ _)

theorem takeAudio_calm (s : State) (j : Nat) (t : Rat) (l : List AudioGroup) : Calm s (takeAudio s j t l) := by
  unfold takeAudio
  extract_lets e sdi viaC short
  refine .foldl (fun u g => ?_) _ s
  extract_lets x noted counted
  have hcounted : Calm u counted := by
    have hnoted : Calm u noted := (Calm.refl u).setIn _ _
    exact .ite (hnoted.putField _ _ _ _ _) hnoted
  refine .ite hcounted (.ite (.ite hcounted ((hcounted.putFlag _ _ _ _).declare _ _ _ _ _)) ?_)
  exact hcounted.trans (.foldl (fun v x => takeGroupSample_calm v _ _ _ _ _ _) _ _)

theorem judgeLinks_calm (s : State) (j : Nat) (l : List Nat) : Calm s (judgeLinks s j l) := by
  have hrestored : ∀ u : State, Calm u (if u.flag 0x4300 j 28 then lockFlow (settleNote (u.putFlag 0x4300 j 28 false) (28, 0x062)) j else u) :=
    fun u => .ite ((((Calm.refl u).putFlag _ _ _ _).trans (settleNote_calm _ _)).trans (lockFlow_calm _ _)) (.refl u)
  unfold judgeLinks
  refine .ite (.refl s) (Calm.trans ((Calm.refl s).setIn j _) (.ite (.ite (.refl _) ?_) ?_))
  · exact (((unlockFlow_calm _ _).setIn _ _).putFlag _ _ _ _).declare _ _ _ _ _
  · exact .ite ((hrestored _).putFlag _ _ _ _) (hrestored _)

end Sys2Proof.Machine
end

section
/-! SUPPORT. Packets are calm: SDI frames, the lines of ST 2110-20, frames of ST 2110-22, streams of ST 2022-6, audio and ancillary
packets (R138-R148, R173-R188, R426). -/

namespace Sys2Proof.Machine

theorem countMismatch_calm (s : State) (e : Nat) : Calm s (countMismatch s e) := (Calm.refl s).count _ _
theorem countLate_calm (s : State) (e n : Nat) : Calm s (countLate s e n) := .ite (.refl s) (((Calm.refl s).countBy _ _ _).setRx _ _)

/-! SDI frames and lines (R134-R148). -/

theorem frameStart_calm (s : State) (j : Nat) (l : List Nat) (t : Rat) (ln : SdiLine) : Calm s (frameStart s j l t ln) := by
  have hsettle : ∀ (u v : State) (n a b : Nat), Calm u v → Calm u (settleNote (v.putFlag 0x4300 j n false) (a, b)) := fun u v n a b h =>
    (h.putFlag _ _ _ _).trans (settleNote_calm _ _)
  unfold frameStart
  extract_lets w sdi x f ks bad reported missing noted muted shown md late y begun
  have hshown : Calm s shown := by
    have hreported : Calm s reported := (Calm.refl s).put _ _ _
    have hnoted : Calm s noted :=
      .ite ((hreported.putFlag _ _ _ _).declare _ _ _ _ _) (.ite hreported (hsettle _ _ _ _ _ hreported))
    have hmuted : Calm s muted := .ite (hsettle _ _ _ _ _ hnoted) hnoted
    exact .ite ((hmuted.putField _ _ _ _ _).putFlag _ _ _ _) (.refl s)
  have hbegun : Calm s begun := (hshown.setIn _ _).trans (beginFrame_calm _ _ _)
  exact .ite (hbegun.trans (badFormat_calm _ _)) (hbegun.setIn _ _)

theorem joinQuad_calm (s : State) (j : Nat) (w : Word) (k : Nat) (f : Fmt) (ln : SdiLine) : Calm s (joinQuad s j w k f ln) := by
  unfold joinQuad
  extract_lets sub subStart i left line x rest
  refine .ite (.refl s) ?_
  split
  · extract_lets other
    split
    exact ((Calm.refl s).setIn _ _).trans (takeNow_calm _ _ _ _)
  · exact (Calm.refl s).setIn _ _

theorem takeSdi_calm (s : State) (j : Nat) (l : List Nat) (k : Nat) (t : Rat) (ln : SdiLine) : Calm s (takeSdi s j l k t ln) := by
  unfold takeSdi
  extract_lets w place judged crc line fixed edh y failed link started f anc taken heard
  have hjudged : Calm s judged := ((Calm.refl s).setIn _ _).trans (judgeLinks_calm _ _ _)
  have hcount : ∀ (u : State) i (c : Prop) [Decidable c], Calm s u → Calm s (if c then u.count 0x4300 i else u) := fun u i c _ h =>
    .ite (h.count _ _) h
  have hedh : Calm s edh := hcount _ _ _ (hcount _ _ _ (hcount _ _ _ (hcount _ _ _ hjudged)))
  have hfailed : Calm s failed := .ite (hedh.setIn _ _) hedh
  have hstarted : Calm s started := .ite (hfailed.trans (frameStart_calm _ _ _ _ _)) hfailed
  have htaken : Calm s taken := hstarted.trans (takeAnc_calm _ _ _ _)
  have hheard : Calm s heard := .ite (htaken.trans (takeAudio_calm _ _ _ _)) htaken
  exact .ite hjudged (.ite (.ite (hheard.trans (takeNow_calm _ _ _ _)) hheard) (hheard.trans (joinQuad_calm _ _ _ _ _ _)))

/-! IP frames (R178, R186, R193). -/

theorem attachWaiting_calm (s : State) (j ts f : Nat) : Calm s (attachWaiting s j ts f) := by
  unfold attachWaiting
  extract_lets x
  split
  exact ((Calm.refl s).setIn _ _).trans (.foldl (fun u a => takeAnc_calm u _ _ _) _ _)

theorem ipLock_calm (s : State) (j : Nat) : Calm s (ipLock s j) := by
  have hclear : ∀ (u v : State) (c : Prop) [Decidable c], Calm u v → Calm u (if c then v else clearActive v 0x065) := fun u v c _ h =>
    .ite h (h.clearActive _)
  unfold ipLock
  refine .ite (.refl s) ?_
  extract_lets y locked settled
  have hsettled : Calm s settled := hclear _ _ _ (((Calm.refl s).putFlag _ _ _ _).setIn _ _)
  exact .ite ((hsettled.setIn _ _).trans (mismatch_calm _ _ _)) hsettled

theorem settleFrame_calm (s : State) (j : Nat) : Calm s (settleFrame s j) := .ite (ipLock_calm _ _) (.refl s)

theorem ipFrameEnd_calm (s : State) (j : Nat) : Calm s (ipFrameEnd s j) := ((Calm.refl s).setIn _ _).trans (settleFrame_calm _ _)

theorem ipFrame_calm (s : State) (j ts : Nat) (t : Rat) (b : Bool) : Calm s (ipFrame s j ts t b) := by
  unfold ipFrame
  extract_lets x unlocked subst begun
  have hunlocked : Calm s unlocked := .ite ((Calm.refl s).putFlag _ _ _ _) (.refl s)
  have hbegun : Calm s begun := ((hunlocked.putFlag _ _ _ _).setIn _ _).trans (beginFrame_calm _ _ _)
  exact (hbegun.setIn _ _).trans (attachWaiting_calm _ _ _ _)

/-! Lines of ST 2110-20 (R173-R175). -/

theorem closeLine_calm (s : State) (j : Nat) (o : OpenLine) : Calm s (closeLine s j o) := by
  unfold closeLine
  extract_lets f n x words half field old runs picture key kept missing told drawn ended counted
  have htold : Calm s told := by
    have hkept : Calm s kept := (Calm.refl s).setIn _ _
    exact (hkept.trans (.foldl (fun u r => (Calm.refl u).mirror _ _ _) _ _)).mirror _ _ _
  have hended : Calm s ended := by
    have hdrawn : Calm s drawn := .ite htold htold.draw
    exact .ite (hdrawn.putFlag _ _ _ _) hdrawn
  have hcounted : Calm s counted := .ite htold (hended.trans (.foldl (fun u e => (Calm.refl u).countBy _ _ _) _ _))
  exact hcounted.trans (takeLine_calm _ _ _ _ _ _ _)

theorem closeTold_calm (s : State) (j : Nat) (m : Int) (i : Nat) : Calm s (closeTold s j m i) :=
  .ite (.refl s) (((Calm.refl s).setIn _ _).trans (closeLine_calm _ _ _))

theorem openLine_calm (s : State) (j : Nat) (m : Int) (c i : Nat) : Calm s (openLine s j m c i) := .ite (.refl s) ((Calm.refl s).setIn _ _)

theorem takeSrd_calm (s : State) (j : Nat) (m : Int) (c i p : Nat) (w : List Nat) : Calm s (takeSrd s j m c i p w) := by
  unfold takeSrd
  extract_lets f opened x at_
  have hopened : Calm s opened := openLine_calm _ _ _ _ _
  refine .ite (.refl s) ?_
  split
  · exact .ite ((hopened.setIn _ _).trans (closeLine_calm _ _ _)) (hopened.setIn _ _)
  · exact hopened

theorem takeVideo_calm (s : State) (j e : Nat) (w : Word) (p : Packet) (field : Nat) (l : List (Nat × Nat × List Nat)) :
    Calm s (takeVideo s j e w p field l) := by
  unfold takeVideo
  extract_lets f st first begun y attached m count half late noted taken
  have hbegun : Calm s begun := .ite (ipFrame_calm _ _ _ _ _) (.refl s)
  have hattached : Calm s attached := .ite ((hbegun.setIn _ _).trans (attachWaiting_calm _ _ _ _)) hbegun
  have hnoted : Calm s noted := .ite (hattached.trans (countLate_calm _ _ _)) hattached
  have htaken : Calm s taken := .ite ((hattached.trans (countMismatch_calm _ _)).trans (badFormat_calm _ _))
    (hnoted.trans (.foldl (fun u x => takeSrd_calm u _ _ _ _ _ _) _ _))
  exact .ite (htaken.trans (ipFrameEnd_calm _ _)) htaken

/-! Frames of ST 2110-22 (R179). -/

theorem writeUnits_calm (s : State) (j : Nat) (m : Int) (l : List (Nat × List Nat)) : Calm s (writeUnits s j m l) :=
  .foldl (fun u _ => takeLine_calm u _ _ _ _ _ _) _ s

theorem closeUnits_calm (s : State) (j : Nat) (m : Int) (l : List OpaqueUnit) (b : Bool) : Calm s (closeUnits s j m l b) := by
  unfold closeUnits
  extract_lets x rest next kept bytes data locked y fallen told counted
  have hkept : Calm s kept := (Calm.refl s).setIn _ _
  have hlocked : Calm s locked := hkept.trans (ipLock_calm _ _)
  have hfallen : Calm s fallen := .ite hlocked (hkept.putFlag _ _ _ _)
  have hcounted : Calm s counted := (hfallen.mirror _ _ _).trans (.foldl (fun u e => (Calm.refl u).count _ _) _ _)
  refine .ite ((hlocked.setIn _ _).trans (writeUnits_calm _ _ _ _)) ?_
  split
  · exact .ite (hcounted.trans (writeUnits_calm _ _ _ _)) hcounted
  · exact hcounted

theorem settleUnits_calm (s : State) (j : Nat) : Calm s (settleUnits s j) := by
  unfold settleUnits
  split
  · exact .ite (closeUnits_calm _ _ _ _ _) (.refl s)
  · exact .refl s

theorem takeOpaque_calm (s : State) (j e : Nat) (w : Word) (p : Packet) (h n : Nat) (d : List Nat) : Calm s (takeOpaque s j e w p h n d) := by
  unfold takeOpaque
  extract_lets st begun x m u
  have hbegun : Calm s begun := .ite (ipFrame_calm _ _ _ _ _) (.refl s)
  exact .ite (hbegun.trans (countLate_calm _ _ _)) (((hbegun.setIn _ _).trans (settleUnits_calm _ _)).trans (settleUnits_calm _ _))

/-! Streams of ST 2022-6 (R181). -/

theorem streamLine_calm (l j : Nat) (t : Rat) (s : State) (ln : SdiLine) : Calm s (streamLine l j t s ln) := by
  have hkept : ∀ x, Calm s (s.setIn j x) := fun _ => (Calm.refl s).setIn _ _
  exact .ite (hkept _) ((hkept _).trans (takeSdi_calm _ _ _ _ _ _))

theorem takeHbrmt_calm (s : State) (j l : Nat) (p : HeldPkt) (lines : List SdiLine) (gone : Nat) : Calm s (takeHbrmt s j l p lines gone) := by
  unfold takeHbrmt
  extract_lets f x n place wrapped first place' lost kept tro t fill taken
  have hfill : ∀ u k, Calm u (fill u k) := fun u k => by
    unfold fill
    dsimp only
    split
    · exact .foldl (fun v i => streamLine_calm _ _ _ v _) _ u
    · exact .refl u
  have htaken : Calm s taken := Calm.trans ((Calm.refl s).setIn _ _) (.foldl (fun u ln => by
    exact .trans (.ite (.refl u) (hfill _ _)) (streamLine_calm _ _ _ _ _)) _ _)
  exact .ite ((htaken.trans (ipFrameEnd_calm _ _)).setIn _ _) htaken

theorem judgeHbrmt_calm (s : State) (j : Nat) (p : HeldPkt) (gone : Nat) : Calm s (judgeHbrmt s j p gone) := by
  unfold judgeHbrmt
  split
  · extract_lets x unlocked begun
    have hunlocked : Calm s unlocked := .ite ((Calm.refl s).putFlag _ _ _ _) (.refl s)
    have hbegun : Calm s begun := .ite (hunlocked.setIn _ _) ((Calm.refl s).setIn _ _)
    exact .ite (hbegun.trans (takeHbrmt_calm _ _ _ _ _ _)) ((hbegun.trans (countMismatch_calm _ _)).trans (badFormat_calm _ _))
  · exact countMismatch_calm _ _

theorem drainStream_calm (fuel : Nat) (s : State) (j : Nat) : Calm s (drainStream fuel s j) := by
  induction fuel generalizing s with
  | zero => exact .refl s
  | succ fuel ih =>
    unfold drainStream
    extract_lets x next
    clear_value next
    split
    · exact .refl s
    · exact .ite ((((Calm.refl s).setIn _ _).trans (judgeHbrmt_calm _ _ _ _)).trans (ih _)) (.refl s)

theorem queueHbrmt_calm (s : State) (j e l : Nat) (p : Packet) : Calm s (queueHbrmt s j e l p) :=
  ((Calm.refl s).setIn _ _).trans (drainStream_calm _ _ _)

/-! Audio (R183-R185, R188). -/

theorem setDrift_calm (s : State) (e : Nat) (b : Bool) : Calm s (setDrift s e b) := by
  have hput : Calm s (s.putFlag 0x4400 (0x2000 + e) 26 b) := (Calm.refl s).putFlag _ _ _ _
  exact .ite (hput.declare _ _ _ _ _) (.ite hput (hput.clearActive _))

theorem judgeTiming_calm (s : State) (e : Nat) (b : Bool) : Calm s (judgeTiming s e b) := by
  have hset : ∀ x, Calm s (s.setRx e x) := fun _ => (Calm.refl s).setRx _ _
  exact .ite (((hset _).trans (setDrift_calm _ _ _)).mirror _ _ _) (hset _)

theorem takeSync_calm (s : State) (e : Nat) (w : Word) (ts : Nat) (l : List (List Nat)) : Calm s (takeSync s e w ts l) := by
  unfold takeSync
  extract_lets n first off index drops gone late early told judged
  have htold : Calm s told := .ite (.refl s) ((Calm.refl s).mirror _ _ _)
  have hjudged : Calm s judged := (htold.trans (countLate_calm _ _ _)).trans (judgeTiming_calm _ _ _)
  refine .ite hjudged (hjudged.trans (.foldl (fun u x => ?_) _ _))
  exact .ite (.refl u) (.foldl (fun v y => giveSample_calm v _ _ _ _) _ u)

theorem takeAsync_calm (s : State) (e : Nat) (w : Word) (ts : Nat) (l : List (List Nat)) : Calm s (takeAsync s e w ts l) := by
  unfold takeAsync
  extract_lets r n ahead fill kept
  have hkept : Calm s kept := (Calm.refl s).setRx _ _
  exact .ite (countLate_calm _ _ _) (hkept.trans (.foldl (fun u x => .foldl (fun v y => giveSample_calm v _ _ _ _) _ u) _ _))

theorem useAudioPacket_calm (s : State) (a : Nat) (w : Word) (p : Packet) (l : List (List Nat)) : Calm s (useAudioPacket s a w p l) :=
  .ite (takeAsync_calm _ _ _ _ _) (takeSync_calm _ _ _ _ _)

theorem dropTold_calm (s : State) (e : Nat) (m : Int) (n : Nat) : Calm s (dropTold s e m n) :=
  have hset : ∀ (u : State) x, Calm u { u with ainIn := x } := fun u _ => (Calm.refl u).as rfl rfl
  Calm.trans ((Calm.refl s).setRx _ _) (.foldl (fun u _ => hset u _) _ _)

/-! Ancillary packets, and the packets that waited (R186, R188, R426). -/

theorem ancLate_calm (s : State) (j e q n : Nat) : Calm s (ancLate s j e q n) := (countLate_calm _ _ _).mirror _ _ _

theorem choices_calm {s : State} (l : List (Nat × Nat × Nat)) : Calm s { s with pair := { s.pair with choices := l } } := ⟨.inl rfl, rfl, .inl rfl⟩

theorem takeAncPacket_calm (s : State) (j e : Nat) (p : Packet) (l : List (AncPkt × Bool)) : Calm s (takeAncPacket s j e p l) := by
  unfold takeAncPacket
  extract_lets x q past
  refine .ite ((choices_calm _).trans (countLate_calm _ _ _)) ?_
  split
  · exact .ite (ancLate_calm _ _ _ _ _) (takeAnc_calm _ _ _ _)
  · exact .ite (ancLate_calm _ _ _ _ _) ((Calm.refl s).setIn _ _)

theorem dropAncTold_calm (s : State) (j q : Nat) : Calm s (dropAncTold s j q) := by
  unfold dropAncTold
  extract_lets x
  split
  · exact ((Calm.refl s).setIn _ _).trans (countLate_calm _ _ _)
  · exact choices_calm _

theorem useFlowPacket_calm (s : State) (l e j : Nat) (p : Packet) : Calm s (useFlowPacket s l e j p) := by
  unfold useFlowPacket
  extract_lets w k
  split
  · exact .ite (takeAncPacket_calm _ _ _ _ _) (countMismatch_calm _ _)
  · exact .ite (takeVideo_calm _ _ _ _ _ _ _) (countMismatch_calm _ _)
  · exact .ite (takeOpaque_calm _ _ _ _ _ _ _ _) (countMismatch_calm _ _)
  · exact .ite (queueHbrmt_calm _ _ _ _ _) (countMismatch_calm _ _)
  · exact countMismatch_calm _ _

theorem usePacket_calm (s : State) (h : HeldPkt) : Calm s (usePacket s h) := by
  unfold usePacket
  split
  · exact useAudioPacket_calm _ _ _ _ _
  · exact useFlowPacket_calm _ _ _ _ _

theorem copyTold_calm (s : State) (o n p : Nat) : Calm s (copyTold s o n p) := by
  have hheld : ∀ l, Calm s { s with pair := { s.pair with held := l } } := fun _ => ⟨.inl rfl, rfl, .inl rfl⟩
  unfold copyTold
  extract_lets here pair kept
  refine Calm.trans (t := kept) (hheld _) ?_
  split
  · exact usePacket_calm _ _
  · exact choices_calm _

theorem releaseHeld_calm (s : State) : Calm s (releaseHeld s) := by
  have hheld : Calm s { s with pair := { s.pair with held := [], choices := [] } } := ⟨.inl rfl, rfl, .inl rfl⟩
  exact hheld.trans (.foldl usePacket_calm _ _)

end Sys2Proof.Machine
end

section
/-! SUPPORT. The selector is calm, and so is what a new holder of the claim does at once (R70, R71, R86, R411, R439). -/

namespace Sys2Proof.Machine

/-! The selector (R67, R71, R79). -/

theorem noteClock_calm {f : State → State} (s : State) (hf : Calm s (f s)) : Calm s (noteClock f s) :=
  .ite hf (hf.trans (rebuildDesc_keeps _ _ _ (by rfl)).calm)

theorem startTransfer_calm (s : State) (c : Nat) : Calm s (startTransfer s c) := (startTransfer_keeps _ _ (by rfl)).calm

theorem setTb_calm (s : State) (x : RefSt) (n : Nat) (old : Word) : Calm s (setTb { s with ref := x } n old) :=
  ((Calm.refl s).as (u := { s with ref := x }) rfl rfl).trans (setTb_keeps _ _ _ (by rfl)).calm

theorem enterHoldover_calm (s : State) : Calm s (enterHoldover s) := by
  refine noteClock_calm s ?_
  dsimp only
  split
  · exact ((setTb_calm _ _ _ _).count _ _).declare _ _ _ _ _
  · exact .ite ((setTb_calm _ _ _ _).declare _ _ _ _ _) (setTb_calm _ _ _ _)

theorem selectorEvaluate_calm (s : State) : Calm s (selectorEvaluate s) := by
  have hforced : Calm s { s with ref := { s.ref with forced := none } } := (Calm.refl s).as rfl rfl
  unfold selectorEvaluate
  extract_lets ref forced target
  have hkept : Calm s forced := by
    unfold forced
    split
    · exact .ite (.refl s) hforced
    · exact .refl s
  refine .ite (.refl s) (hkept.trans (.ite (.refl _) ?_))
  clear_value target
  split
  · exact startTransfer_calm _ _
  · exact enterHoldover_calm _

theorem dropCandidate_calm (s : State) (c r : Nat) : Calm s (dropCandidate s c r) := by
  have hlogged : ∀ x o n, Calm s (logEvent (s.setCand c x) 0x2120 (0x10 + c) o n) := fun _ _ _ =>
    ((setCand_keeps s c _ (by rfl)).trans (logEvent_keeps _ _ _ _ _ _ _ _ (by rfl))).calm
  unfold dropCandidate
  exact .ite ((hlogged _ _ _).declare _ _ _ _ _) (hlogged _ _ _)

theorem judgePresence_calm (s : State) : Calm s (judgePresence s) := .foldl (fun u _ => .ite (dropCandidate_calm u _ _) (.refl u)) _ s

theorem judgePlaced_calm (s : State) : Calm s (judgePlaced s) := (judgePresence_calm s).trans (selectorEvaluate_calm _)

/-! A new holder of the claim (R411, R439). -/

theorem adoptWork_calm (s : State) : Calm s (adoptWork s) := (Calm.refl s).as rfl rfl

theorem reselect_calm (s : State) : Calm s (reselect s) := by
  have hjudged := judgePresence_calm s
  unfold reselect
  extract_lets judged
  refine Calm.trans (t := judged) hjudged ?_
  split
  · exact .ite (.ite (.refl _) (startTransfer_calm _ _)) (selectorEvaluate_calm _)
  · exact selectorEvaluate_calm _

theorem floodChangeover_calm (s : State) (e : Option Nat) : Calm s (floodChangeover s e) :=
  .foldl (fun _ _ => (emit_keeps _ _ (by rfl)).calm) _ _

/-- What the claim brings with it: the work adopted, a new selection, the packets that waited. -/
theorem assume_calm (s : State) : Calm s (releaseHeld (reselect (adoptWork s))) :=
  ((adoptWork_calm s).trans (reselect_calm _)).trans (releaseHeld_calm _)

/-- What `g` reads of the pair's state, where neither intake nor a declaration writes it. -/
theorem PairSt.of_core {α : Type} {p q : PairSt} (g : PairSt → α) (hg : ∀ p : PairSt, g p.core = g p) (h : p.core = q.core) : g p = g q :=
  (hg p).symm.trans ((congrArg g h).trans (hg q))

/-- The pair's state of a member that took over (R438). -/
def PairSt.taken (p : PairSt) (trigger : Nat) (tp : Word) : PairSt :=
  { p with
    ripOut := true, claimOut := true, quenchResets := p.partnerResets, inStep := false, joinPhase := 0, role := 0, joinAsked := none
    streamSent := p.streamApplied, lastChange := trigger, lastChangeTp := tp }

/-- A takeover: the member stands by no more, and its pair's state is that of a takeover. -/
theorem takeOver_takes {s : State} (trigger : Nat) (hmode : s.mode = .standby) (hrip : s.pair.ripIn = false)
    (hclaim : s.pair.claimOut = false) :
    ((takeOver s trigger).mode = .active ∨ (takeOver s trigger).mode = .faulted) ∧
      ∃ tp, (takeOver s trigger).pair.core = (s.pair.taken trigger tp).core := by
  unfold takeOver
  rw [if_neg (by simp [hmode, hrip, hclaim])]
  extract_lets claimed assumed
  obtain ⟨tp, hpair⟩ := claimChange_pair s trigger fun p =>
    { p with
      ripOut := true, claimOut := true, quenchResets := p.partnerResets, inStep := false, joinPhase := 0, role := 0, joinAsked := none
      streamSent := p.streamApplied }
  have hassumed : Calm (setMode claimed .active) assumed := assume_calm _
  have hall : Calm (setMode claimed .active) (if assumed.flag 0xA010 0 22 then floodChangeover assumed none else assumed) :=
    .ite (hassumed.trans (floodChangeover_calm _ _)) hassumed
  refine ⟨?_, tp, hall.core.trans ?_⟩
  · have hnow := hall.mode
    rwa [setMode_mode] at hnow
  · exact congrArg PairSt.core ((setMode_pair _ _).trans hpair)

/-- With no request heard, a takeover commits none. -/
theorem takeHeard_none {s : State} (silent : Bool) (t : Rat) (h : s.pair.heard = []) :
    takeHeard silent t s = { s with pair := { s.pair with heard := [], streamed := [] } } := by
  unfold takeHeard
  rw [h]
  rfl

theorem takeOverNow_takes {s : State} (trigger : Nat) (hmode : s.mode = .standby) (hrip : s.pair.ripIn = false)
    (hclaim : s.pair.claimOut = false) (hheard : s.pair.heard = []) :
    ((takeOverNow s trigger).mode = .active ∨ (takeOverNow s trigger).mode = .faulted) ∧
      ∃ tp streamed, (takeOverNow s trigger).pair.core = ({ s.pair.taken trigger tp with streamed := streamed } : PairSt).core := by
  obtain ⟨hnow, tp, hpair⟩ := takeOver_takes trigger hmode hrip hclaim
  have hnone : (takeOver s trigger).pair.heard = [] := (PairSt.of_core PairSt.heard (fun _ => rfl) hpair).trans hheard
  unfold takeOverNow
  dsimp only
  split
  · rw [takeHeard_none _ _ hnone]
    refine ⟨hnow, tp, [], ?_⟩
    refine (congrArg (fun p : PairSt => { p with heard := [], streamed := [] }) hpair).trans ?_
    refine congrArg (fun l => { (s.pair.taken trigger tp).core with heard := l, streamed := [] }) hheard.symm
  · exact ⟨hnow, tp, _, hpair⟩

/-- No takeover of a member whose ripcord is pulled or which holds the claim already. -/
theorem takeOverNow_stays {s : State} (trigger : Nat) (hmode : s.mode = .standby) (hheld : s.pair.ripIn = true ∨ s.pair.claimOut = true) :
    takeOverNow s trigger = s := by
  have hnone : takeOver s trigger = s := by
    unfold takeOver
    rw [if_pos (.inr hheld)]
  unfold takeOverNow
  rw [hnone]
  exact if_neg fun h => by rw [hmode] at h; exact absurd h.2 (by decide)

end Sys2Proof.Machine
end

section
/-! PROOFS. The claim and ripcord pins, quench, takeover and handover (R416-R418, R438-R441, R445). -/

namespace Sys2Proof.Machine

/-! The pins (R416-R418, R439). -/

theorem claimRises_claims (s : State) : (claimRises s).pair.claimIn = true ∧ (claimRises s).pair.claimOut = false ∧
    (s.mode = .active → s.pair.claimOut = true → s.pair.handover = none → ∃ c, (c = 6 ∨ c = 7) ∧
      (claimRises s).pair.handover = some (((((s.now + 2000) / 1000).ceil * 1000 : Int) : Rat), c)) := by
  unfold claimRises
  extract_lets pair risen cause at_
  split
  · rename_i hlow
    have hlow' : s.pair.claimOut = false := by simpa using hlow
    exact ⟨rfl, hlow', fun _ hclaim _ => absurd (hlow'.symm.trans hclaim) Bool.false_ne_true⟩
  · split
    · obtain ⟨tp, hpair⟩ := claimChange_pair risen cause fun p =>
        { p with claimOut := false, handover := some (at_, cause), changeoverAsked := false }
      rw [hpair]
      refine ⟨rfl, rfl, fun _ _ _ => ⟨cause, ?_, rfl⟩⟩
      unfold cause
      split
      · exact .inr rfl
      · exact .inl rfl
    · rename_i hnot
      have habsurd : ∀ {P : Prop}, s.mode = .active → s.pair.claimOut = true → s.pair.handover = none → P := fun hmode _ hnone =>
        absurd ⟨hmode, hnone⟩ hnot
      split
      · exact ⟨rfl, rfl, habsurd⟩
      · rw [pairChange_pair]
        exact ⟨rfl, rfl, habsurd⟩

theorem claimClash_lowers {s : State} (hclaim : s.pair.claimOut = true) :
    (claimClash s).pair.claimIn = true ∧ (claimClash s).pair.claimOut = !s.boot.sideB := by
  unfold claimClash
  rw [if_pos hclaim]
  extract_lets pair risen
  split
  · rename_i hside
    have hside' : s.boot.sideB = true := hside
    rw [pairChange_pair, hside']
    exact ⟨rfl, rfl⟩
  · rename_i hside
    have hside' : s.boot.sideB = false := by simpa using hside
    rw [hside']
    exact ⟨rfl, hclaim⟩

theorem quenched_loses {s : State} (hrip : s.pair.ripIn = false) :
    (quenched s).pair.ripIn = true ∧ (quenched s).pair.claimOut = false ∧
      (s.running = true → s.mode = .active → (quenched s).mode ≠ .active ∧ (quenched s).pair.suspect = true ∧
        (quenched s).pair.inStep = false) := by
  unfold quenched
  rw [if_neg (ne_true_of_eq_false hrip)]
  extract_lets was quenched
  have hquenched : quenched.pair.ripIn = true ∧ quenched.pair.claimOut = false := by
    unfold quenched
    rw [pairChange_pair]
    exact ⟨rfl, rfl⟩
  split
  · generalize hstood : (pairChange (setMode quenched .standby) fun p =>
      { p with suspect := true, inStep := false, role := 5, joinPhase := 0, joinAsked := none }) = stood
    have hcalm : Calm stood (declareFault stood 0x103 (setMode quenched .standby).pair.streamSent true) := declareFault_calm _ _ _ _ _ _
    have hpair : stood.pair = { quenched.pair with suspect := true, inStep := false, role := 5, joinPhase := 0, joinAsked := none } := by
      rw [← hstood, pairChange_pair, setMode_pair]
    have hmode : stood.mode = .standby := by
      rw [← hstood]
      exact ((pairChange_keeps (F := ⟨[.pair, .log], [], false⟩) _ _ (by rfl)).same .mode (by rfl)).trans (setMode_mode _ _)
    refine ⟨?_, ?_, fun _ _ => ⟨?_, ?_, ?_⟩⟩
    · exact (PairSt.of_core PairSt.ripIn (fun _ => rfl) hcalm.core).trans ((congrArg PairSt.ripIn hpair).trans hquenched.1)
    · rcases hcalm.claim with h | h
      · exact h.trans ((congrArg PairSt.claimOut hpair).trans hquenched.2)
      · exact h.2
    · rcases hcalm.mode with h | h
      · rw [h, hmode]
        decide
      · rw [h]
        decide
    · exact (PairSt.of_core PairSt.suspect (fun _ => rfl) hcalm.core).trans (congrArg PairSt.suspect hpair)
    · exact (PairSt.of_core PairSt.inStep (fun _ => rfl) hcalm.core).trans (congrArg PairSt.inStep hpair)
  · rename_i hwas
    exact ⟨hquenched.1, hquenched.2, fun hrun hmode => absurd (by unfold was; simp [hrun, hmode]) hwas⟩

theorem unquenched_clears {s : State} (hrip : s.pair.ripIn = true) :
    (unquenched s).pair.ripIn = false ∧ (unquenched s).pair.suspect = (s.pair.suspect && s.mode != .standby) := by
  unfold unquenched
  rw [if_pos hrip, pairChange_pair]
  exact ⟨rfl, rfl⟩

/-! The claim taken and handed over (R438, R440, R441, R445). -/

theorem claimFalls_takes {s : State} (power : Bool) (hheard : s.pair.heard = []) :
    (claimFalls s power).pair.claimIn = false ∧
      (s.running = true → s.mode = .standby → s.pair.claimOut = false → s.pair.ripIn = false →
        (claimFalls s power).mode ≠ .standby ∧ (claimFalls s power).pair.ripOut = true ∧
          (claimFalls s power).pair.lastChange = if power then 2 else 1) := by
  unfold claimFalls
  extract_lets pair fallen
  split
  · rename_i htakes
    have hall := htakes
    simp only [Bool.and_eq_true, beq_iff_eq, Bool.not_eq_true'] at hall
    obtain ⟨⟨-, hmode⟩, hclaim⟩ := hall
    cases hrip : s.pair.ripIn with
    | true =>
      rw [takeOverNow_stays _ hmode (.inl hrip)]
      exact ⟨rfl, fun _ _ _ h => nomatch h⟩
    | false =>
      obtain ⟨hnow, tp, streamed, hpair⟩ := takeOverNow_takes (s := fallen) (if power then 2 else 1) hmode hrip hclaim hheard
      refine ⟨PairSt.of_core PairSt.claimIn (fun _ => rfl) hpair, fun _ _ _ _ => ⟨?_, PairSt.of_core PairSt.ripOut (fun _ => rfl) hpair, PairSt.of_core PairSt.lastChange (fun _ => rfl) hpair⟩⟩
      rcases hnow with h | h <;> rw [h] <;> decide
  · rename_i hnot
    refine ⟨rfl, fun hrun hmode hclaim _ => absurd ?_ hnot⟩
    simp only [Bool.and_eq_true, beq_iff_eq, Bool.not_eq_true']
    exact ⟨⟨hrun, hmode⟩, hclaim⟩

theorem soloClaims_claims {s : State} {a : Rat} (hmode : s.mode = .solo) (hpaired : s.paired = true) (hclaim : s.pair.claimOut = false)
    (hin : s.pair.claimIn = false) (hrip : s.pair.ripIn = false) (hlow : s.pair.claimInLowAt = some a) (hlong : a + 1000 ≤ s.up) :
    ((soloClaims s).pair.claimOut = true ∨ (soloClaims s).mode = .faulted) ∧ (soloClaims s).pair.lastChange = 8 := by
  unfold soloClaims
  extract_lets quiet
  have hquiet : quiet = true := by
    unfold quiet
    rw [hlow]
    exact decide_eq_true hlong
  rw [if_pos ⟨hmode, hpaired, hclaim, hin, hrip, hquiet⟩]
  obtain ⟨tp, hpair⟩ := claimChange_pair s 8 fun p => { p with claimOut := true, joinAsked := none }
  have hcalm := judgePlaced_calm (claimChange s 8 fun p => { p with claimOut := true, joinAsked := none })
  refine ⟨?_, (PairSt.of_core PairSt.lastChange (fun _ => rfl) hcalm.core).trans (congrArg PairSt.lastChange hpair)⟩
  exact hcalm.claim.imp (fun h => h.trans (congrArg PairSt.claimOut hpair)) And.left

theorem becomeActive_claims (s : State) : (becomeActive s).mode ≠ .standby ∧
    (becomeActive s).pair.core = ({ s.pair with handover := none, role := 0, joinPhase := 0, joinAsked := none
                                                streamSent := s.pair.streamApplied } : PairSt).core := by
  unfold becomeActive
  refine ⟨(assume_calm _).leaves (by rw [setMode_mode]; decide), (assume_calm _).core.trans ?_⟩
  exact congrArg PairSt.core (setMode_pair _ _)

theorem becomeStandby_stands (s : State) : (becomeStandby s).mode = .standby ∧ (becomeStandby s).pair.role = 3 ∧
    (becomeStandby s).pair.handover = s.pair.handover := by
  unfold becomeStandby
  rw [setMode_pair]
  exact ⟨setMode_mode _ _, rfl, rfl⟩

/-- With no request heard, the new active answers none. -/
theorem answerHeard_none (s : State) {t : State} (h : t.pair.heard = []) :
    (answerHeard s t).mode = t.mode ∧ (answerHeard s t).pair.handover = t.pair.handover := by
  unfold answerHeard
  split
  · rw [takeHeard_none _ _ h]
    exact ⟨rfl, rfl⟩
  · exact ⟨rfl, rfl⟩

theorem handoverDone_ends {s : State} {a : Rat} {c : Nat} (hover : s.pair.handover = some (a, c)) (hdue : a ≤ s.now)
    (hheard : s.pair.heard = []) :
    (handoverDone s).pair.handover = none ∧ (s.mode = .standby → s.pair.claimOut = true → (handoverDone s).mode ≠ .standby) ∧
      (s.mode = .active → s.pair.claimOut = false → (handoverDone s).mode = .standby ∧ (handoverDone s).pair.role = 3) := by
  unfold handoverDone
  simp only [hover]
  rw [if_pos hdue]
  split
  · rename_i hstand
    obtain ⟨hmode, hcore⟩ := becomeActive_claims s
    have hnone : (becomeActive s).pair.heard = [] := (PairSt.of_core PairSt.heard (fun _ => rfl) hcore).trans hheard
    obtain ⟨hmode', hover'⟩ := answerHeard_none s hnone
    refine ⟨hover'.trans (PairSt.of_core PairSt.handover (fun _ => rfl) hcore), fun _ _ => ?_,
      fun hactive _ => absurd (hstand.1.symm.trans hactive) (by decide)⟩
    rw [hmode']
    exact hmode
  · rename_i hnot
    split
    · rename_i hactive
      obtain ⟨hmode, hrole, hover'⟩ := becomeStandby_stands { s with pair := { s.pair with handover := none } }
      exact ⟨hover', fun hstand _ => absurd (hactive.1.symm.trans hstand) (by decide), fun _ _ => ⟨hmode, hrole⟩⟩
    · rename_i hnot'
      exact ⟨rfl, fun hmode hclaim => absurd ⟨hmode, hclaim⟩ hnot, fun hmode hclaim => absurd ⟨hmode, hclaim⟩ hnot'⟩

/-- Settles O26: after the claim what follows is calm: an entry to FAULTED at the most changes the mode, and nothing of the pair's state
that the claim wrote but CLAIM_OUT. -/
theorem pairClaims : Obligations.PairClaims := by
  unfold Obligations.PairClaims
  refine ⟨?_, ?_, ?_, ?_, ?_, ?_, ?_, ?_⟩
  · exact fun s => act_does (f := claimRises) rfl (claimRises_claims s.fresh)
  · exact fun s hclaim => act_does (f := claimClash) rfl (claimClash_lowers (s := s.fresh) hclaim)
  · exact fun s power hheard => act_does (f := fun s => claimFalls s power) rfl (claimFalls_takes (s := s.fresh) power hheard)
  · exact fun s hrip => act_does (f := quenched) rfl (quenched_loses (s := s.fresh) hrip)
  · exact fun s hrip => act_does (f := unquenched) rfl (unquenched_clears (s := s.fresh) hrip)
  · intro s a hrun hmode hpaired hclaim hin hrip hlow hlong
    exact actRunning_does (f := soloClaims) rfl hrun (soloClaims_claims (s := s.fresh) hmode hpaired hclaim hin hrip hlow hlong)
  · intro s a c hrun hover hdue hheard
    exact actRunning_does (f := handoverDone) rfl hrun (handoverDone_ends (s := s.fresh) hover hdue hheard)
  · intro s p hp hrun hpaired hhears hup hmode hrip hclaim
    refine onUnit_does (f := fun s => if s.paired && s.portHears 8 && s.tUp p then handOver s 7 none else s) rfl hp hrun ?_
    have hall : (s.fresh.paired && s.fresh.portHears 8 && s.fresh.tUp p) = true := by
      rw [show s.fresh.paired = true from hpaired, show s.fresh.portHears 8 = true from hhears, show s.fresh.tUp p = true from hup]
      rfl
    rw [if_pos hall]
    exact handOver_claims (s := s.fresh) 7 none hmode hrip hclaim

end Sys2Proof.Machine
end

section
/-! PROOFS. Heartbeats, bridle records and the join (R419, R420, R422, R430, R431, R436). -/

namespace Sys2Proof.Machine

/-- A record on the bridle of a type that the device takes. -/
theorem onRecord_does {c : Instr} {s : State} {w : Word} {f : State → State} {P : State → Prop} (h : exec c s = onRecord w s f)
    (hrun : s.running = true) (hhears : s.portHears 8 = true) (htype : bits w 255 248 < 0x0B)
    (hP : P { f s.fresh with pending := s.pending }) : does c s P := by
  refine actRunning_does (f := fun s => if s.portHears 8 then
    (if s.paired && decide (0x0B ≤ bits w 255 248) then s.count 0x9010 7 else f s) else s) h hrun ?_
  have hhears' : s.fresh.portHears 8 = true := hhears
  rw [if_pos hhears', if_neg (by simp [Nat.not_le.2 htype])]
  exact hP

/-! Heartbeats (R420). -/

/-- What a HEARTBEAT tells of the partner. -/
def PairSt.seen (p : PairSt) : Word × Bool × Option Rat := (p.partner, p.partnerHere, p.partnerAt)

theorem seen_undeclared : Undeclared PairSt.seen := fun _ _ _ _ => rfl

theorem pairChange_seen {s : State} {f : PairSt → PairSt} (hf : ∀ p, (f p).seen = p.seen) : (pairChange s f).pair.seen = s.pair.seen := by
  rw [pairChange_pair]
  exact hf _

theorem notCompatible_seen (s : State) : (notCompatible s).pair.seen = s.pair.seen := notCompatible_pair seen_undeclared (fun _ _ _ => rfl) s

theorem askJoin_seen (s : State) : (askJoin s).pair.seen = s.pair.seen := askJoin_pair seen_undeclared (fun _ _ _ => rfl) s

theorem joinDone_seen (s : State) : (joinDone s).pair.seen = s.pair.seen := by
  have hclear : ∀ (f : PairSt → PairSt) n, (∀ p, (f p).seen = p.seen) → (clearActive (pairChange s f) n).pair.seen = s.pair.seen :=
    fun f n hf => pairChange_seen hf
  unfold joinDone
  split
  · rfl
  · split
    · split
      · rfl
      · exact hclear _ _ fun _ => rfl
    · split
      · exact hclear _ _ fun _ => rfl
      · rfl

theorem beginJoin_seen (s : State) : (beginJoin s).pair.seen = s.pair.seen := by
  unfold beginJoin
  dsimp only
  rw [pairChange_pair]
  show (setMode _ .standby).pair.seen = _
  rw [setMode_pair]

theorem enterSolo_seen (s : State) : (enterSolo s).pair.seen = s.pair.seen := by
  unfold enterSolo
  rw [setMode_pair]

theorem heartbeat_seen {s : State} {w : Word} (hpaired : s.paired = true) (hup : s.bridleUp = true) (htype : bits w 255 248 = 1) :
    (heartbeat s w).pair.seen = (w, true, some s.up) := by
  unfold heartbeat
  rw [if_neg (by simp [hpaired, hup, htype])]
  extract_lets pair heard released sameSide paired told joined accepted
  have hheard : heard.pair.seen = (w, true, some s.up) := rfl
  have hreleased : released.pair.seen = heard.pair.seen := by
    unfold released
    split
    · exact pairChange_seen fun _ => rfl
    · rfl
  have htold : told.pair.seen = released.pair.seen := by
    unfold told
    split
    · exact notCompatible_seen _
    · split
      · rfl
      · rfl
  have hjoined : joined.pair.seen = told.pair.seen := by
    unfold joined
    split
    · split
      · exact pairChange_seen fun _ => rfl
      · exact joinDone_seen _
    · rfl
  refine Eq.trans ?_ (hjoined.trans (htold.trans (hreleased.trans hheard)))
  clear_value joined accepted
  split
  · exact beginJoin_seen _
  · split
    · split
      · rfl
      · split
        · exact askJoin_seen _
        · exact enterSolo_seen _
    · split
      · exact askJoin_seen _
      · rfl

theorem heartbeatLost_alone {s : State} {a : Rat} (hpaired : s.paired = true) (hhere : s.pair.partnerHere = true)
    (hat : s.pair.partnerAt = some a) (hlate : a + 64000 ≤ s.up) (hheard : s.pair.heard = []) :
    (heartbeatLost s).pair.partnerHere = false ∧ (s.mode = .active → (heartbeatLost s).pair.inStep = false) ∧
      (s.mode = .standby → s.pair.ripIn = false → s.pair.claimOut = false →
        (heartbeatLost s).pair.ripOut = true ∧ (heartbeatLost s).pair.lastChange = 3) := by
  unfold heartbeatLost
  simp only [hat]
  rw [if_pos ⟨hpaired, hhere, hlate⟩]
  generalize hgone : ((pairChange s fun p => { p with partnerHere := false }).count 0x9010 5).setTport 8
    { ((pairChange s fun p => { p with partnerHere := false }).count 0x9010 5).tport 8 with flight := none } = gone
  have hpair : gone.pair = { s.pair with partnerHere := false } := by
    rw [← hgone, State.setTport_pair]
    exact pairChange_pair _ _
  have hmode : gone.mode = s.mode := by
    rw [← hgone, State.setTport_mode]
    exact (pairChange_keeps (F := ⟨[.pair, .log], [], false⟩) _ _ (by rfl)).same .mode (by rfl)
  have hlost : gone.pair.partnerHere = false := by rw [hpair]
  split
  · rename_i hstand
    have hother : s.mode = .active → (takeOverNow gone 3).pair.inStep = false := fun h => absurd (hmode.symm.trans hstand) (by rw [h]; decide)
    by_cases hfree : gone.pair.ripIn = false ∧ gone.pair.claimOut = false
    · obtain ⟨-, tp, streamed, hcore⟩ := takeOverNow_takes 3 hstand hfree.1 hfree.2 (by rw [hpair]; exact hheard)
      exact ⟨(PairSt.of_core PairSt.partnerHere (fun _ => rfl) hcore).trans hlost, hother, fun _ _ _ =>
        ⟨PairSt.of_core PairSt.ripOut (fun _ => rfl) hcore, PairSt.of_core PairSt.lastChange (fun _ => rfl) hcore⟩⟩
    · rw [takeOverNow_stays 3 hstand (by simpa [imp_iff_not_or, or_comm] using hfree)] at hother ⊢
      exact ⟨hlost, hother, fun _ hrip hclaim => absurd (by rw [hpair]; exact ⟨hrip, hclaim⟩) hfree⟩
  · rename_i hnot
    have hnever : ∀ {P : Prop}, s.mode = .standby → P := fun h => absurd (hmode.trans h) hnot
    split
    · have hdeclared := declareFault_calm (pairChange gone fun p => { p with inStep := false, joinPhase := 0 }) 0x100 0 true false 0
      refine ⟨(PairSt.of_core PairSt.partnerHere (fun _ => rfl) hdeclared.core).trans ?_,
        fun _ => (PairSt.of_core PairSt.inStep (fun _ => rfl) hdeclared.core).trans ?_, hnever⟩
      · rw [pairChange_pair]
        exact hlost
      · rw [pairChange_pair]
    · rename_i hpassive
      exact ⟨hlost, fun h => absurd (hmode.trans h) hpassive, hnever⟩

/-! The timeline on the bridle (R422). -/

theorem measure_srcAt (s : State) (e f : Int) (g : Rat) : (measure s e f g).ref.srcAt = s.ref.srcAt := by
  unfold measure
  split
  · rfl
  · dsimp only
    split
    · rfl
    · split <;> rfl

theorem measured_srcAt (s : State) (c : Prop) [Decidable c] (e f : Int) (g : Rat) :
    (if c then measure s e f g else s).ref.srcAt = s.ref.srcAt := by
  split
  · exact measure_srcAt _ _ _ _
  · rfl

theorem bridleTimeline_at {s : State} {w : Word} (hpaired : s.paired = true) (hholds : s.holds = false) (hup : s.bridleUp = true)
    (htype : bits w 255 248 = 2) : mapGet ratD (bridleTimeline s w).ref.srcAt 8 = s.up := by
  unfold bridleTimeline
  rw [if_neg (by simp [hpaired, hholds, hup, htype])]
  simp only [measured_srcAt, noteClock_ref, mapGet_mapPut, if_true]

/-! The join (R430, R431). -/

theorem acceptJoin_joins {s : State} {v : Nat} (hpaired : s.paired = true) (hclaim : s.pair.claimOut = true) (hrip : s.pair.ripOut = false)
    (hmode : s.mode = .solo ∨ s.mode = .active) (hhere : s.pair.partnerHere = true) (hwith : s.sessionWith = some v) :
    (acceptJoin s).mode = .active ∧ (acceptJoin s).pair.joinPhase = 1 ∧ (acceptJoin s).pair.inStep = false ∧
      (acceptJoin s).pair.sessionVersion = v := by
  unfold acceptJoin
  rw [if_neg (by rcases hmode with h | h <;> simp [hpaired, hclaim, hrip, hhere, h])]
  simp only [hwith]
  refine ⟨?_, ?_⟩
  · exact ((pairChange_keeps (F := ⟨[.pair, .log], [], false⟩) _ _ (by rfl)).same .mode (by rfl)).trans (setMode_mode _ _)
  · rw [pairChange_pair]
    exact ⟨rfl, rfl, rfl⟩

theorem joinAgain_asks {s : State} {a : Rat} (hasked : s.pair.joinAsked = some a) (hauto : s.flag 0x9000 0 30 = true)
    (hdue : a + 1000000000 ≤ s.up) (hmay : s.mayAsk = true) : (joinAgain s).pair.joinAsked = some s.up := by
  unfold joinAgain
  simp only [hasked]
  rw [if_pos ⟨hauto, hdue⟩]
  exact askJoin_asks hmay

theorem snapshot_counts {s : State} (hphase : s.pair.joinPhase = 1) (hmode : s.mode = .standby) (htb : s.ref.tb = 2)
    (hsel : s.ref.selected = some 8) :
    (snapshot s).pair.joinPhase = 2 ∧ (snapshot s).pair.streamApplied = s.pair.partnerStream := by
  unfold snapshot
  rw [if_neg (fun h => h hphase), if_neg (by simp [hmode]), if_pos ⟨hmode, htb, hsel⟩]
  exact ⟨rfl, rfl⟩

theorem snapshot_sends {s : State} (hphase : s.pair.joinPhase = 1) (hmode : s.mode = .active) (hrole : s.pair.partnerRole = 2)
    (hmute : s.bridleMute = false) :
    (snapshot s).pair.joinPhase = 2 ∧ ∀ r ∈ stateRecords 0x00 s.dict, Emission.bridle r [] ∈ (snapshot s).emitted := by
  unfold snapshot
  rw [if_neg (fun h => h hphase), if_pos ⟨hmode, hrole⟩]
  extract_lets pair cut
  have hpair : ∀ l, (List.foldl (fun (u : State) (r : Word) => u.emit (.bridle r [])) cut l).pair = cut.pair := fun l =>
    foldl_keeps (fun u : State => u.pair) (fun u r => (emit_keeps (F := ⟨[.emitted], [], false⟩) u _ (by rfl)).same .pair (by rfl)) l cut
  refine ⟨by rw [hpair], fun r hr => ?_⟩
  refine mem_foldl_emit (e := fun _ r => .bridle r []) (fun _ _ _ => rfl) ?_ hmute
  exact List.mem_append_left _ (List.mem_append_left _ (List.mem_append_left _ hr))

theorem applyState_sets {s : State} {w : Word} {r : DictRow} (hmode : s.mode = .standby) (hstep : s.pair.inStep = false)
    (hphase : s.pair.joinPhase = 2) (htype : bits w 255 248 = 9) (hmem : bits w 247 240 < 3)
    (hrow : dictRow (bits w 239 208 / 65536) (bits w 239 208 % 65536) = some r) (hprofile : r.profile ≠ .m) (hkind : r.kind ≠ .ro) :
    mapGet keyReset (applyState s w).dict (bits w 239 208) =
      setPart (mapGet keyReset s.dict (bits w 239 208)) (bits w 247 240) (bits w 207 16) := by
  unfold applyState
  rw [if_neg (by simp [hmode, hstep, hphase, htype])]
  extract_lets m k x part own
  have hown : own = false := by
    unfold own
    rw [hrow]
    simp [hprofile, hkind]
  have hpart : part = m := Nat.mod_eq_of_lt (by omega)
  have hdiv : m / 16 = 0 := Nat.div_eq_of_lt (by omega)
  rw [if_pos ⟨by omega, hown⟩, hdiv, hpart]
  exact (mapGet_mapSet _ _ _ _ _).trans (if_pos rfl)

theorem joinDone_ends {s : State} (hphase : s.pair.joinPhase = 2) (hhere : s.pair.partnerHere = true)
    (hready : (s.mode = .standby ∧ ∃ a, s.pair.copiedAt = some a ∧ a + s.longestFill ≤ s.up) ∨ (s.mode = .active ∧ s.pair.partnerRole = 3)) :
    (joinDone s).pair.inStep = true ∧ (joinDone s).pair.joinPhase = 0 := by
  have hclear : ∀ (f : PairSt → PairSt) n, (clearActive (pairChange s f) n).pair = f s.pair := fun f n => pairChange_pair _ _
  unfold joinDone
  rw [if_neg (by simp [hphase, hhere])]
  rcases hready with ⟨hmode, a, hat, hfull⟩ | ⟨hmode, hrole⟩
  · rw [if_pos hmode, if_neg (by simp [hat, hfull]), hclear]
    exact ⟨rfl, rfl⟩
  · rw [if_neg (by rw [hmode]; decide), if_pos ⟨hmode, hrole⟩, hclear]
    exact ⟨rfl, rfl⟩

/-- Settles O27: what a record writes of the pair stands through what follows from it, and a takeover is the one of the claim's fall. -/
theorem bridleRuns : Obligations.BridleRuns := by
  unfold Obligations.BridleRuns
  refine ⟨?_, ?_, ?_, ?_, ?_, ?_, ?_, ?_, ?_, ?_, ?_, ?_⟩
  · intro s hrun hpaired hmute
    refine actRunning_does (f := fun s => if s.paired then s.emit (.bridle s.heartbeatWord []) else s) rfl hrun ?_
    have hpaired' : s.fresh.paired = true := hpaired
    rw [if_pos hpaired']
    exact emit_unsilenced (s := s.fresh) (e := .bridle s.heartbeatWord []) hmute
  · intro s w hrun hpaired hhears hup htype
    refine onRecord_does (f := fun s => heartbeat s w) rfl hrun hhears (by omega) ?_
    have hseen := heartbeat_seen (s := s.fresh) hpaired hup htype
    exact ⟨congrArg (·.1) hseen, congrArg (·.2.1) hseen, congrArg (·.2.2) hseen⟩
  · intro s a hrun hpaired hhere hat hlate hheard
    exact actRunning_does (f := heartbeatLost) rfl hrun (heartbeatLost_alone (s := s.fresh) hpaired hhere hat hlate hheard)
  · intro s hrun hpaired hholds hmute
    refine actRunning_does (f := fun s =>
      if s.paired && s.holds then s.emit (.bridle (2 * 2 ^ 248 + setBits s.timelineBody 131 120 0) []) else s) rfl hrun ?_
    have hsends : (s.fresh.paired && s.fresh.holds) = true := by
      rw [show s.fresh.paired = true from hpaired, show s.fresh.holds = true from hholds]
      rfl
    rw [if_pos hsends]
    exact emit_unsilenced (s := s.fresh) (e := .bridle (2 * 2 ^ 248 + setBits s.timelineBody 131 120 0) []) hmute
  · intro s w hrun hpaired hholds hhears hup htype
    exact onRecord_does (f := fun s => bridleTimeline s w) rfl hrun hhears (by omega) (bridleTimeline_at (s := s.fresh) hpaired hholds hup htype)
  · intro s w hrun hpaired hhears htype
    refine onRecord_does (f := fun s => partnerFaulted s w) rfl hrun hhears (by omega) ?_
    have hpaired' : s.fresh.paired = true := hpaired
    unfold partnerFaulted
    rw [if_neg (by simp [hpaired', htype])]
    exact ⟨rfl, rfl⟩
  · intro s v hrun hhears hpaired hclaim hrip hmode hhere hwith
    refine actRunning_does (f := fun s => if s.portHears 8 then acceptJoin s else s) rfl hrun ?_
    have hhears' : s.fresh.portHears 8 = true := hhears
    rw [if_pos hhears']
    exact acceptJoin_joins (s := s.fresh) hpaired hclaim hrip hmode hhere hwith
  · intro s a hrun hasked hauto hdue hmay
    exact actRunning_does (f := joinAgain) rfl hrun (joinAgain_asks (s := s.fresh) hasked hauto hdue hmay)
  · intro s hrun hphase hmode htb hsel
    exact actRunning_does (f := snapshot) rfl hrun (snapshot_counts (s := s.fresh) hphase hmode htb hsel)
  · intro s hrun hphase hmode hrole hmute
    exact actRunning_does (f := snapshot) rfl hrun (snapshot_sends (s := s.fresh) hphase hmode hrole hmute)
  · intro s w r hrun hhears hmode hstep hphase htype hmem hrow hprofile hkind
    exact onRecord_does (f := fun s => applyState s w) rfl hrun hhears (by omega)
      (applyState_sets (s := s.fresh) hmode hstep hphase htype hmem hrow hprofile hkind)
  · intro s hrun hphase hhere hready
    exact actRunning_does (f := joinDone) rfl hrun (joinDone_ends (s := s.fresh) hphase hhere hready)

end Sys2Proof.Machine
end

section
/-! SUPPORT. What a mirrored decision leaves of the pair's state (R426): the decisions kept so far. -/

namespace Sys2Proof.Machine

/-! Bridges, ports and planes (R297-R299, R307, R320, R370). -/

theorem setRateErr_calm (s : State) (i : Nat) (on : Bool) : Calm s (setRateErr s i on) := by
  unfold setRateErr
  extract_lets b marked
  have hmarked : Calm s marked := by
    unfold marked
    split
    · exact (setAudioPort_keeps _ _ _ (by rfl)).calm
    · exact .refl s
  exact hmarked.trans (.ite (declareFault_calm _ _ _ _ _ _) (settleRate_keeps _ (by rfl)).calm)

theorem Calm.setBridge {s t : State} (h : Calm s t) (i : Nat) (x : Bridge) : Calm s (t.setBridge i x) := h.as rfl rfl

theorem setRatio_calm (s : State) (i : Nat) (r : Int) : Calm s (setRatio s i r) :=
  .ite (((Calm.refl s).setBridge _ _).trans (setRateErr_calm _ _ _)) ((Calm.refl s).setBridge _ _)

theorem acquireBridge_calm (s : State) (i : Nat) (x : Option (Nat × Int)) : Calm s (acquireBridge s i x) := by
  unfold acquireBridge
  dsimp only
  split
  · exact ((Calm.refl s).setBridge _ _).trans <| .trans (.ite (setRateErr_calm _ _ _) (.refl _)) (resetBuffer_keeps _ _ (by rfl)).calm
  · exact .ite (.refl s) (((Calm.refl s).setBridge _ _).trans (setRateErr_calm _ _ _))

theorem dropBridge_calm (s : State) (i : Nat) : Calm s (dropBridge s i) :=
  .ite ((Calm.refl s).setBridge _ _) (((Calm.refl s).setBridge _ _).trans (setRateErr_calm _ _ _))

theorem noteSlip_calm (s : State) (p : Nat) : Calm s (noteSlip s p) :=
  .trans (.ite ((Calm.refl s).count _ _) ((Calm.refl s).count _ _)) (setAudioPort_keeps _ _ _ (by rfl)).calm

theorem slipTold_calm (s : State) (p : Nat) (out full : Bool) : Calm s (slipTold s p out full) :=
  .trans (setAudioPort_keeps _ _ _ (by rfl)).calm (noteSlip_calm _ _)

theorem planeTold_calm (s : State) (h : Nat) (tp : Word) : Calm s (planeTold s h tp) := by
  unfold planeTold
  dsimp only
  split
  · exact (setHead_keeps _ _ _ (by rfl)).calm
  · exact (setHead_keeps _ _ _ (by rfl)).calm

theorem setSilent_calm (s : State) (k : Nat) (lost : Bool) : Calm s (setSilent s k lost) := (Calm.refl s).as rfl rfl

/-! An accepted change of an input line, with its action (R596). -/

/-- A request whose commit leaves the pair's state leaves the decisions: of the pair only the change stream's own part is written. -/
theorem request_decisions {h : Handler} (hc : ∀ u, (h.commit u).pair = u.pair) (hr : ∀ st u, (h.refused st u).pair = u.pair) (s : State)
    (rq : Rq) (op i j : Nat) (b : List Byte) : (request s rq op i j b h).pair.decisions = s.pair.decisions := by
  have hjudged : (judged s rq op i j b).pair = s.pair := (judged_keeps (F := ⟨[.dict, .req], [0x1001], false⟩) _ _ _ _ _ _ (by rfl)).same .pair (by rfl)
  have hreply : ∀ (a : State) st d, (sendReply a rq i j st d).pair = a.pair := fun a st d =>
    (sendReply_keeps (F := ⟨answerFields, [0x1001], false⟩) a rq i j st d (by rfl)).same .pair (by rfl)
  have hlogged : ∀ (a : State) e, (appendLog a e).pair = a.pair := fun a e => (appendLog_keeps (F := ⟨[.log], [], false⟩) a e (by rfl)).same .pair (by rfl)
  have hstream : ∀ (a : State) st d, (streamChange a rq op i j st b d).pair.decisions = a.pair.decisions := by
    intro a st d
    unfold streamChange
    split
    · have hemits : ∀ (a : State) w c, (a.emitTwice w c).pair = a.pair := fun a w c =>
        (emitTwice_keeps (F := ⟨[.emitted], [], false⟩) a w c (by rfl)).same .pair (by rfl)
      dsimp only
      rw [hemits]
    · rfl
  have hcommit : ∀ a, (commitRequest a rq op i j b h).pair.decisions = a.pair.decisions := by
    intro a
    unfold commitRequest
    extract_lets status logged committed data streamed req waiting
    have hcommitted : committed.pair = a.pair := (hc _).trans (hlogged _ _)
    have hwaiting : waiting.pair = streamed.pair := by
      show (if h.pending = true then { streamed with req := _ } else streamed).pair = _
      split <;> rfl
    rw [hreply]
    exact (congrArg PairSt.decisions hwaiting).trans ((hstream _ _ _).trans (congrArg PairSt.decisions hcommitted))
  have hrefuse : ∀ a st, (refuseRequest a rq op i j st h).pair = a.pair := by
    intro a st
    have hcounted : ∀ n, n < 0x10 → (countPort a rq.port n).pair = a.pair := fun n hn =>
      (countPort_keeps (F := ⟨[.dict], [0x1001], false⟩) _ _ _ hn (by rfl)).same .pair (by rfl)
    have hrefusal : ∀ u : State, (logRefusal u rq op i j st h).pair = u.pair := fun u =>
      (logRefusal_keeps (F := ⟨[.log], [], false⟩) _ _ _ _ _ _ _ (by rfl)).same .pair (by rfl)
    unfold refuseRequest
    extract_lets counted logged put refused recorded
    have hlog : logged.pair = a.pair := by
      refine (hrefusal counted).trans ?_
      unfold counted
      split
      · exact hcounted 4 (by decide)
      · split
        · exact hcounted 5 (by decide)
        · rfl
    have hput : put.pair = logged.pair := by
      unfold put
      split
      · exact State.put_pair _ _ _ _
      · rfl
    have hrec : recorded.pair = refused.pair := by
      unfold recorded
      split <;> rfl
    rw [hreply, hrec]
    exact (hr _ _).trans (hput.trans hlog)
  unfold request
  extract_lets counted auth status
  have hcounted : counted.pair = s.pair := hjudged
  split
  · rfl
  · split
    · rw [hreply, hcounted]
    · split
      · rw [hcommit, hcounted]
      · rw [hrefuse, hcounted]

theorem fieldAbort_decisions (s : State) : (fieldAbort s).pair.decisions = s.pair.decisions := by
  have hcancel : ∀ (u : State) (l : List Event), (l.foldl cancelTake u).pair = u.pair := fun u l =>
    (Keeps.foldl (F := ⟨[.events, .banks, .dict, .log], [0x1101], false⟩) (fun v e => cancelTake_keeps v e (by rfl)) l u).same .pair (by rfl)
  unfold fieldAbort abortAny
  refine request_decisions (fun u => ?_) (fun st u => ?_) _ _ _ _ _ _
  · split
    · exact (((dropIssued_keeps (F := ⟨[.tether, .emitted], [], false⟩) _ _ (by rfl)).trans (floodCascade_keeps _ _ _ (by rfl))).same .pair
        (by rfl)).trans (hcancel _ _)
    · exact hcancel _ _
  · split <;> rfl

theorem decisions_undeclared : Undeclared PairSt.decisions := fun _ _ _ _ => rfl

theorem fireFromField_decisions (s : State) (n : Nat) : (fireFromField s n).pair.decisions = s.pair.decisions := by
  have hqueued : (queueSalvo s n none).pair = s.pair :=
    (queueEvent_keeps (F := ⟨[.events, .order, .dict], [0x2200], false⟩) _ _ (by rfl)).same .pair (by rfl)
  have hrefused : ∀ st, (fireRefused st s).pair = s.pair := fun st =>
    (fireRefused_keeps (F := ⟨[.lastRefusal, .dict], [0x1101], false⟩) st s (by rfl)).same .pair (by rfl)
  unfold fireFromField
  extract_lets c status refused noted
  have hnoted : noted.pair = s.pair := by
    unfold noted
    split
    · exact (State.put_pair _ _ _ _).trans (hrefused _)
    · exact hrefused _
  split
  · rw [logEvent_pair, hqueued]
  · rw [logEvent_pair, declareFault_pair decisions_undeclared, hnoted]

theorem acceptLine_decisions (s : State) (n st : Nat) : (acceptLine s n st).pair.decisions = s.pair.decisions := by
  unfold acceptLine
  extract_lets x old v accepted settled action
  have hsettled : settled.pair.decisions = s.pair.decisions := by
    have hset : settled.pair = (if st = 1 ∨ st = 4 then declareFault accepted 0x144 n true else accepted).pair :=
      (settleBank_keeps (F := ⟨[.faults], [], false⟩) _ (by rfl)).same .pair (by rfl)
    rw [hset]
    split
    · exact declareFault_pair decisions_undeclared _ _ _ _ _ _
    · rfl
  have hfire : ∀ k, (fireFromField settled k).pair.decisions = s.pair.decisions := fun k => (fireFromField_decisions _ _).trans hsettled
  have habort : (fieldAbort settled).pair.decisions = s.pair.decisions := (fieldAbort_decisions _).trans hsettled
  clear_value settled
  split
  · exact hsettled
  · split
    · split
      · exact hfire _
      · split
        · exact habort
        · exact hsettled
    · split
      · exact hfire _
      · exact hsettled

/-! A decision of each kind (R426). -/

theorem Calm.decisions {s t : State} (h : Calm s t) : t.pair.decisions = s.pair.decisions := PairSt.of_core PairSt.decisions (fun _ => rfl) h.core

theorem Calm.decides {s t : State} {c : Prop} [Decidable c] (h : Calm s t) : (if c then t else s).pair.decisions = s.pair.decisions :=
  (Calm.ite h (.refl s)).decisions

theorem decide_decisions (s : State) (k o : Nat) (v : Word) : (decide_ s k o v).pair.decisions = s.pair.decisions := by
  unfold decide_
  extract_lets flow m us key x
  clear_value flow
  split
  · exact (dropInput_calm _ _).decides
  · exact (returnInput_calm _ _).decides
  · exact (misTime_calm _ _).decides
  · exact (slotSelect_calm _ _ _).decides
  · exact (setRatio_calm _ _ _).decides
  · split
    · exact acceptLine_decisions _ _ _
    · rfl
  · exact (acquireBridge_calm _ _ _).decides
  · exact ((Calm.refl s).setBridge _ _).decides
  · exact (dropBridge_calm _ _).decides
  · exact ((Calm.refl s).setBridge _ _).decides
  · exact (setDrift_calm _ _ _).decides
  · exact (closeUnits_calm _ _ _ _ _).decides
  · exact (loseFrame_calm _ _ _).decides
  · exact (copyTold_calm _ _ _ _).decisions
  · exact ((Calm.refl s).setIn _ _).decides
  · exact (closeTold_calm _ _ _ _).decides
  · exact (dropTold_calm _ _ _ _).decides
  · exact (slipTold_calm _ _ _ _).decides
  · exact (numberFrame_calm _ _ _ _).decides
  · exact (dropAncTold_calm _ _ _).decides
  · exact (planeTold_calm _ _ _).decides
  · exact (setSilent_calm _ _ _).decisions
  · rfl

/-- A decision that is carried out is kept among the last 64 (R419). -/
theorem applyDecision_keeps {s : State} {w : Word} (hmode : s.mode = .standby) (hstep : s.pair.inStep = true) (htype : bits w 255 248 = 6)
    (hnew : s.pair.decisions.contains w = false) : w ∈ (applyDecision s w).pair.decisions := by
  unfold applyDecision
  rw [if_neg (by simpa [hmode, hstep, htype] using hnew)]
  extract_lets ds
  rw [decide_decisions]
  show w ∈ (s.pair.decisions ++ [w]).drop ((s.pair.decisions ++ [w]).length - 64)
  rw [List.drop_append_of_le_length (by simp)]
  exact List.mem_append_right _ (List.mem_singleton_self w)

end Sys2Proof.Machine
end

section
/-! PROOFS. The standby follows the change stream, the decisions and the digests (R424, R426, R428, R433, R434, R436, R438). -/

namespace Sys2Proof.Machine

theorem onBridle_does {c : Instr} {s : State} {f : State → State} {P : State → Prop} (h : exec c s = onBridle s f) (hrun : s.running = true)
    (hhears : s.portHears 8 = true) (hP : P { f s.fresh with pending := s.pending }) : does c s P := by
  refine actRunning_does (f := fun s => if s.portHears 8 then f s else s) h hrun ?_
  have hhears' : s.fresh.portHears 8 = true := hhears
  rw [if_pos hhears']
  exact hP

/-! Leaving step (R428). -/

theorem streamApplied_undeclared : Undeclared PairSt.streamApplied := fun _ _ _ _ => rfl

theorem inStep_undeclared : Undeclared PairSt.inStep := fun _ _ _ _ => rfl

theorem outOfStep_streamApplied (s : State) : (outOfStep s).pair.streamApplied = s.pair.streamApplied := by
  unfold outOfStep
  split
  · extract_lets left declared
    have hleft : left.pair.streamApplied = s.pair.streamApplied := by
      unfold left
      rw [pairChange_pair]
    have hdeclared : declared.pair.streamApplied = s.pair.streamApplied := (declareFault_pair streamApplied_undeclared _ _ _ _ _ _).trans hleft
    split
    · exact (askJoin_pair streamApplied_undeclared (fun _ _ _ => rfl) _).trans hdeclared
    · exact hdeclared
  · rfl

theorem outOfStep_inStep {s : State} (hmode : s.mode = .standby) (hrole : s.role ≠ 5) : (outOfStep s).pair.inStep = false := by
  unfold outOfStep
  rw [if_pos ⟨hmode, hrole⟩]
  extract_lets left declared
  have hleft : left.pair.inStep = false := by
    unfold left
    rw [pairChange_pair]
  have hdeclared : declared.pair.inStep = false := (declareFault_pair inStep_undeclared _ _ _ _ _ _).trans hleft
  split
  · exact (askJoin_pair inStep_undeclared (fun _ _ _ => rfl) _).trans hdeclared
  · exact hdeclared

theorem outOfStep_faults (s : State) : Faults ⟨noteFields, [], false⟩ s (outOfStep s) := by
  unfold outOfStep
  have hdeclared : ∀ f d, Faults ⟨noteFields, [], false⟩ s (declareFault (pairChange s f) 0x103 d true) := fun f d =>
    (pairChange_keeps (F := Foot.noMode ⟨noteFields, [], false⟩) s f (by rfl)).faults.trans (declareFault_faults _ _ _ _ _ _ (by rfl))
  exact .ite (.ite ((hdeclared _ _).trans (askJoin_faults _ (by rfl))) (hdeclared _ _)) (.refl s)

theorem role_of_inStep {s : State} (hmode : s.mode = .standby) (hstep : s.pair.inStep = true) : s.role ≠ 5 := by
  unfold State.role
  rw [hmode]
  split
  · decide
  · decide

/-! The change stream (R424). -/

/-- A CHANGE record that comes next keeps its number, whatever becomes of the request. -/
theorem applyChange_next {s : State} {c : ChangeRecord} (hmode : s.mode = .standby) (hstep : s.pair.inStep = true)
    (hnext : (c.seq + 2 ^ 32 - s.pair.streamApplied) % 2 ^ 32 = 1) (htime : s.now ≤ (c.time : Rat) + 2000) :
    (applyChange s c).pair.streamApplied = c.seq % 2 ^ 32 := by
  unfold applyChange
  extract_lets ahead committed pair applied
  have hahead : ahead = 1 := hnext
  rw [if_neg (by simp [hmode, hstep, hahead]), if_neg (by simp [hahead, not_lt.2 htime])]
  split
  · rfl
  · exact outOfStep_streamApplied applied

/-- A gap before a CHANGE record puts the standby out of step (R428). -/
theorem applyChange_gap {s : State} {c : ChangeRecord} (hmode : s.mode = .standby) (hstep : s.pair.inStep = true)
    (hgap : 1 < (c.seq + 2 ^ 32 - s.pair.streamApplied) % 2 ^ 32) (hnear : (c.seq + 2 ^ 32 - s.pair.streamApplied) % 2 ^ 32 < 2 ^ 31) :
    applyChange s c = outOfStep s := by
  unfold applyChange
  extract_lets ahead committed applied
  have hgap' : 1 < ahead := hgap
  have hnear' : ahead < 2 ^ 31 := hnear
  rw [if_neg (by simp [hmode, hstep]; omega), if_pos (.inl (by omega))]

/-! An input lost by the active's decision (R223, R224). -/

theorem dropInput_inState (s : State) (j : Nat) : (dropInput s j).inState j = if s.synced j then 3 else 2 := by
  unfold dropInput State.inState
  extract_lets x kept
  have hflag : ∀ (u : State) b, (u.putFlag 0x4300 (0x4000 + j) 26 b).field 0x4300 (0x4000 + j) 31 29 = u.field 0x4300 (0x4000 + j) 31 29 := by
    intro u b
    unfold State.putFlag State.field
    rw [State.put_elem, if_pos rfl]
    exact bits_setBits_ne (by decide) (by decide) _
  rw [hflag]
  unfold setInState
  rw [putField_field (by decide), if_pos rfl]
  have hsynced : kept.synced j = s.synced j := rfl
  rw [hsynced]
  split <;> rfl

theorem decide_loses (s : State) {o : Nat} (v : Word) (ho : o < 2048) (hbound : bindKind (s.inBind o) ≠ 0) :
    (decide_ s 2 o v).inState o = if s.synced o then 3 else 2 := by
  have hdrops : decide_ s 2 o v = dropInput s o := if_pos (by simp [ho, hbound])
  rw [hdrops, dropInput_inState]

/-- A decision that an input is lost drops it. -/
theorem applyDecision_loses {s : State} {w : Word} (hmode : s.mode = .standby) (hstep : s.pair.inStep = true) (htype : bits w 255 248 = 6)
    (hnew : s.pair.decisions.contains w = false) (hkind : bits w 247 240 = 2) (hinput : bits w 239 224 < 2048)
    (hbound : bindKind (s.inBind (bits w 239 224)) ≠ 0) :
    (applyDecision s w).inState (bits w 239 224) = if s.synced (bits w 239 224) then 3 else 2 := by
  unfold applyDecision
  rw [if_neg (by simpa [hmode, hstep, htype] using hnew), hkind]
  extract_lets ds
  refine (decide_loses _ (bits w 159 0) ?_ ?_).trans ?_
  · exact hinput
  · exact hbound
  · rfl

/-! Digests (R434, R436). -/

theorem bits_of_bits (w : Word) : bits (bits w 239 160) 31 0 = bits w 191 160 := by
  refine Nat.eq_of_testBit_eq fun n => ?_
  rw [testBit_bits, testBit_bits, testBit_bits, Nat.zero_add]
  by_cases hn : n < 32
  · simp [hn, show n < 80 by omega]
  · simp [hn]

/-- Which unit a digest compares is read in the dictionary. -/
theorem compared_fst (s : State) (p : PairSt) (w : Word) : (({ s with pair := p } : State).compared w).1 = (s.compared w).1 := by
  unfold State.compared
  extract_lets n e e'
  split
  · rfl
  · by_cases hkind : isAudioKind (entryKind e') = true
    · rw [if_pos hkind, if_pos (show isAudioKind (entryKind e) = true from hkind)]
    · rw [if_neg hkind, if_neg (show ¬ isAudioKind (entryKind e) = true from hkind)]
      rfl
  · rfl
  · rfl

/-- The run of mismatches of a compare unit (R436). -/
def PairSt.runOf (p : PairSt) (k : Nat) : Nat := (mapGet compareD p.compares k).run

/-- Two digests of one unit, where the run of mismatches does not come to its limit. -/
theorem compareDigests_runs {s : State} {a b : Word} (hmode : s.mode = .standby) (hstep : s.pair.inStep = true)
    (hsame : a / 2 ^ 40 = b / 2 ^ 40) (hunit : digUnit a < 4)
    (hrun : bits a 31 0 = bits b 31 0 ∨ s.pair.runOf (s.compared a).1 + 1 < s.field 0x9020 0 29 22) :
    (compareDigests s a b).2 = false ∧ (compareDigests s a b).1.pair.runOf (s.compared a).1 =
      if bits a 31 0 = bits b 31 0 then 0 else s.pair.runOf (s.compared a).1 + 1 := by
  unfold compareDigests
  extract_lets differ u pair k c run full counted
  have hnotFull : full = false := by
    unfold full run differ
    rcases hrun with h | h
    · simp [h]
    · by_cases heq : bits a 31 0 = bits b 31 0
      · simp [heq]
      · have hlimit : c.run + 1 < s.field 0x9020 0 29 22 := h
        simp [heq, hlimit]
  have hu : u < 4 := hunit
  rw [if_neg (by simpa [hmode, hstep] using hsame), if_neg (by omega), if_neg (by omega), hnotFull, if_neg (by decide)]
  refine ⟨rfl, ?_⟩
  show (mapGet compareD (mapSet compareD s.pair.compares k.1 { c with run := if full = true then 0 else run }) k.1).run = _
  rw [mapGet_mapSet, if_pos rfl, hnotFull]
  show (if (bits a 31 0 != bits b 31 0) = true then c.run + 1 else 0) = _
  by_cases heq : bits a 31 0 = bits b 31 0
  · rw [if_pos heq, if_neg (by simp [heq])]
  · rw [if_neg heq, if_pos (by simpa using heq)]
    rfl

theorem compareUnit_runs {s : State} {d a : Word} (hmode : s.mode = .standby) (hstep : s.pair.inStep = true)
    (hfind : s.pair.ownDigests.find? (fun x => x / 2 ^ 40 == d / 2 ^ 40) = some a) (hunit : digUnit a < 4)
    (hrun : bits a 31 0 = bits d 31 0 ∨ s.pair.runOf (s.compared a).1 + 1 < s.field 0x9020 0 29 22) :
    (compareUnit s d).pair.runOf (s.compared a).1 = if bits a 31 0 = bits d 31 0 then 0 else s.pair.runOf (s.compared a).1 + 1 := by
  have hsame : a / 2 ^ 40 = d / 2 ^ 40 := by simpa using List.find?_some hfind
  unfold compareUnit
  split
  · rename_i b hb
    obtain rfl : b = a := Option.some.inj (hb.symm.trans hfind)
    extract_lets pair used r
    have hunitOf : (used.compared b).1 = (s.compared b).1 := compared_fst s _ b
    have hruns := compareDigests_runs (s := used) hmode hstep hsame hunit
    rw [hunitOf] at hruns
    obtain ⟨hstays, hrun'⟩ := hruns hrun
    rw [if_neg (show ¬ r.2 = true by rw [hstays]; decide)]
    exact hrun'
  · rename_i hnone
    rw [hfind] at hnone
    cases hnone

/-- The first DIGEST record's entry compared, with none kept from before. -/
theorem compareUnits_runs {s : State} {w a : Word} (hmode : s.mode = .standby) (hstep : s.pair.inStep = true) (hnone : s.pair.partnerDigests = [])
    (hfind : s.pair.ownDigests.find? (fun x => x / 2 ^ 40 == bits w 239 160 / 2 ^ 40) = some a) (hunit : digUnit a < 4)
    (hrun : bits a 31 0 = bits w 191 160 ∨ s.pair.runOf (s.compared a).1 + 1 < s.field 0x9020 0 29 22) :
    (compareUnits s 1 w).pair.runOf (s.compared a).1 = if bits a 31 0 = bits w 191 160 then 0 else s.pair.runOf (s.compared a).1 + 1 := by
  have hmirrored : s.mirrored = true := by simp [State.mirrored, hmode, hstep]
  have hone : s.pair.partnerDigests ++ digestEntries 1 w = [bits w 239 160] := by
    rw [hnone]
    rfl
  rw [← bits_of_bits] at hrun ⊢
  unfold compareUnits
  rw [hone, if_pos hmirrored]
  have hentry : ∀ p : PairSt, p.compares = s.pair.compares → p.inStep = s.pair.inStep → p.ownDigests = s.pair.ownDigests →
      (compareUnit { s with pair := p } (bits w 239 160)).pair.runOf (s.compared a).1 =
        if bits a 31 0 = bits (bits w 239 160) 31 0 then 0 else s.pair.runOf (s.compared a).1 + 1 := by
    intro p hcompares hin hown
    have hrunOf : ∀ k, p.runOf k = s.pair.runOf k := fun k => by
      unfold PairSt.runOf
      rw [hcompares]
    have hruns := compareUnit_runs (s := { s with pair := p }) hmode (hin.trans hstep) ((congrArg _ hown).trans hfind) hunit
    rw [compared_fst s p a, hrunOf] at hruns
    exact hruns hrun
  exact hentry _ rfl rfl rfl

/-! Relayed frames (R433). -/

theorem with_pending {s : State} {x : List Instr} (h : s.pending = x) : { s with pending := x } = s := by
  subst h
  rfl

theorem relayReceived_notify {s : State} {frame : List Byte} (hpaired : s.paired = true) (hup : s.bridleUp = true)
    (hop : hdrOpcode (ofBytes (frame.take 16)) = 7) : relayReceived s frame = finishWaiting s 0x9040 0 stOk frame := by
  unfold relayReceived
  extract_lets h
  have hop' : hdrOpcode h = 7 := hop
  rw [if_neg (by simp [hpaired, hup]), if_pos (.inr hop'), if_neg (by simp [hop'])]

theorem relayReceived_read {s : State} {frame : List Byte} (hpaired : s.paired = true) (hup : s.bridleUp = true)
    (hop : hdrOpcode (ofBytes (frame.take 16)) = opRead) (hgood : frameBad frame false = false) :
    relayReceived s frame = readElement s { headerRq .relay 0xFFF 0 frame with origin := 5 } (hdrIndex (ofBytes (frame.take 16)))
      (hdrSub (ofBytes (frame.take 16))) := by
  unfold relayReceived
  extract_lets h
  have hop' : hdrOpcode h = opRead := hop
  rw [if_neg (by simp [hpaired, hup]), if_neg (by rw [hop']; decide), if_neg (by simp [hgood])]
  unfold relayRequest
  exact if_pos hop

/-- Settles O28: what a record writes stands through what it sets off, a decision leaves the decisions kept, and one comparison counts the
run of its unit. -/
theorem standbyFollows : Obligations.StandbyFollows := by
  unfold Obligations.StandbyFollows
  refine ⟨?_, ?_, ?_, ?_, ?_, ?_⟩
  · intro s c hrun hhears hmode hstep hnext htime
    exact onBridle_does (f := fun s => applyChange s c) rfl hrun hhears (applyChange_next (s := s.fresh) hmode hstep hnext htime)
  · intro s c hrun hhears hmode hstep hgap hnear
    refine onBridle_does (f := fun s => applyChange s c) rfl hrun hhears ?_
    rw [applyChange_gap (s := s.fresh) hmode hstep hgap hnear]
    refine ⟨outOfStep_inStep (s := s.fresh) hmode (role_of_inStep (s := s.fresh) hmode hstep), outOfStep_streamApplied s.fresh, fun i j hi hj => ?_⟩
    exact (outOfStep_faults s.fresh).elem (by simp [Foot.spares, Foot.orFaulted, hi]) hj
  · intro s w hrun hhears hmode hstep htype hnew
    refine onRecord_does (f := fun s => applyDecision s w) rfl hrun hhears (by omega)
      ⟨applyDecision_keeps (s := s.fresh) hmode hstep htype hnew, fun hkind hinput hbound => ?_⟩
    exact applyDecision_loses (s := s.fresh) hmode hstep htype hnew hkind hinput hbound
  · intro s w a hrun hhears hmode hstep hnone hfind hunit hruns
    exact onBridle_does (f := fun s => compareUnits s 1 w) rfl hrun hhears
      (compareUnits_runs (s := s.fresh) hmode hstep hnone hfind hunit hruns)
  · intro s frame hrun hhears hpaired hup hop
    refine onBridle_does (f := fun s => relayReceived s frame) rfl hrun hhears ?_
    rw [relayReceived_notify (s := s.fresh) hpaired hup hop]
    exact with_pending ((finishWaiting_keeps (F := ⟨answerFields, [0x1001], false⟩) s.fresh 0x9040 0 stOk frame (by rfl)).same .pending (by rfl))
  · intro s frame hrun hhears hpaired hup hop hgood
    refine onBridle_does (f := fun s => relayReceived s frame) rfl hrun hhears ?_
    rw [relayReceived_read (s := s.fresh) hpaired hup hop hgood]

end Sys2Proof.Machine
end
